-- ==== Sys2Proof/Word.lean ====
section
/-!
DEFINITION. The word types of the panel and the names of its units (spec 00 R3, R4, R15; 01 R22, R28, R41, R42).
-/
namespace Sys2Proof

/-- One byte (00 R15). -/
abbrev Byte := BitVec 8
abbrev Half := BitVec 16
abbrev Word32 := BitVec 32
abbrev Word := BitVec 64

/-- A compute site by its index of R3, A1 = 0 to P12 = 191. -/
abbrev SiteId := Fin 192
/-- A cluster by its number of R22, site index * 8 + suffix. -/
abbrev ClusterId := Fin 1536
/-- A memory stack M00 to M47 (00, components table). -/
abbrev StackId := Fin 48
/-- An optical engine E00 to E35. -/
abbrev EngineId := Fin 36
/-- A braid by its number of R42. -/
abbrev BraidId := Fin 3320
/-- An SX thread T0 to T7 (05 R150). -/
abbrev ThreadId := Fin 8
/-- A general register number: g0..g31 of a sequencer, x0..x31 of a thread, v0..v31 of a vector engine. -/
abbrev Reg := BitVec 5

/-- A sparse table: key and value pairs, keys strictly rising; an unlisted key holds the default its reader names. -/
abbrev Tbl (α : Type) := List (Nat × α)

end Sys2Proof
end

