-- ==== Sys2Proof/Machine/Operand.lean ====
section
/-!
DEFINITION. The types of the operands that are more than a number: agents, packets, tables and messages.
-/
namespace Sys2Proof

/-- Who issues a scalar-slot operation: the sequencer of a cluster, or a thread of a site's SX cluster (06 R162). -/
inductive Agent where
  | seq (c : ClusterId)
  | thr (site : SiteId) (t : ThreadId)
  deriving DecidableEq, Repr

/-- A Delta packet (09 R252): its route word, its Stream header, Direct header or control body in the low bits of `head` (the
first body word lowest), its payload, and its poison map. -/
structure Packet where
  route : Word
  head : BitVec 128
  payload : List Byte
  poison : List Byte
  deriving DecidableEq, Repr

/-- The routing tables of one edition (09 R276): unicast entries at router * 512 + unit code, Distributary entries at
router * 4096 + group. -/
structure RouteTables where
  uni : Tbl Half
  multi : Tbl Word32
  deriving DecidableEq, Repr

/-- A Larre data frame (12 R343, R344): the link word, the panels, the units, BODY (its first byte lowest), the payload and the
poison map. -/
structure Frame where
  link : Word
  dpanel : Half
  spanel : Half
  dunit : Half
  sunit : Half
  body : BitVec 128
  payload : List Byte
  poison : List Byte
  deriving DecidableEq, Repr

/-- A delay request-response exchange of IEEE 1588-2019 (13 R383): its PTP domain; the time of the Sync, from the Sync itself or its Follow_Up; the
panel's own count, in 2^-16 ns, at which its Delay_Req left; and the time at which the master received that. -/
structure PtpExchange where
  domain : Byte
  sec1 : BitVec 48
  ns1 : Word32
  sent : BitVec 80
  sec4 : BitVec 48
  ns4 : Word32
  deriving DecidableEq, Repr

/-- What an Ethernet-role port receives (12 R363, R364). `steer` is the channel handle that the steering table of 0x5220 names for
the datagram's destination port, and `fromPeer` whether the source MAC is the peer's that 0x5220 holds: the spec gives that DOMAIN no layout
(log entry 74); `pause` is a priority flow control frame: the priorities it enables and the pause time of each, in 512 bit times; `data` the bytes that host memory returns for a READ. -/
inductive EthFrame where
  | larre (fromPeer : Bool) (f : Frame) (good : Bool) (data : List Byte)
  | udp (steer : Option Word32) (srcAddr : BitVec 128) (srcPort dstPort : Half) (payload : List Byte)
  | pause (vector : Byte) (quanta : List Half)
  | solicitation
  | other
  deriving DecidableEq, Repr

/-- Who sends a Legend or SPDM message (17 R479): the PF's MCTP endpoint of a port, or an address and port on the field network. -/
inductive Endpoint where
  | host (p : Fin 2)
  | field (addr : BitVec 128) (port : Half)
  deriving DecidableEq, Repr

/-- The header of a LAP request (17 R483) as it arrives: its endpoint and, of a secured message, the SPDM session that carried it. -/
structure LapHdr where
  ep : Endpoint
  spdm : Option Word32
  ver : Byte
  session : Half
  xid : Word32
  index : Half
  sub : Byte
  deriving DecidableEq, Repr

/-- What mutual authentication showed of an SPDM requester (18 R498): whether its chain and signature verified, the digest of the
root it ends at, and the role value of its leaf. -/
structure Requester where
  good : Bool
  root : BitVec 384
  role : Nat
  deriving DecidableEq, Repr

/-- A ballot of a vote (14 R411). -/
structure Ballot where
  silent : Word
  heard : Word
  last : Word32
  req : Byte
  deriving DecidableEq, Repr

/-- A read of host memory that the panel has in progress (16 R457): of a DMA entry of a channel, or of a move of a cluster. -/
inductive HostRead where
  | dma (channel : Fin 4096) (seq : Nat)
  | move (c : ClusterId) (tag : Nat)
  deriving DecidableEq, Repr

/-- Where a doorbell of a pod is (16 R470): written at a head's port into the window of a member, or arrived at the member, bound or not
by the head's bindings. -/
inductive PodBell where
  | rung (port : Fin 2) (m : Fin 64)
  | arrived (bound : Bool)
  deriving DecidableEq, Repr

/-- A unit that the Gazetteer records with a status of its own (01 R30, R41, R42). -/
inductive GUnit where
  | site (n : SiteId)
  | cluster (n : ClusterId)
  | stack (n : StackId)
  | engine (n : EngineId)
  | braid (n : BraidId)
  deriving DecidableEq, Repr

/-- The subject of an event (01 R34): a unit, a lane of a braid, or a column of a scratchpad bank's subarray steered onto a spare. -/
inductive GSubject where
  | unit (u : GUnit)
  | lane (b : BraidId) (l : Fin 68)
  | column (c : ClusterId) (bank : Fin 96) (sub : Fin 16) (col : Fin 576) (spare : Fin 4)
  deriving DecidableEq, Repr

/-- A change that an event asks of the Gazetteer (01 R34): its subject, a unit's new status and reason (R30, R31) and the source (R45). A
lane is retired; a column has been steered. -/
structure GazEvent where
  u : GSubject
  status : Nat
  reason : Nat
  source : Nat
  deriving DecidableEq, Repr

/-- The retest of a masked unit at a cold start (01 R32). -/
structure Retest where
  u : GUnit
  ok : Bool
  deriving DecidableEq, Repr

/-- A faulty column that an SRAM self-test found (23 R599): bank, subarray, column of the codeword line. -/
structure SramCol where
  bank : Fin 96
  sub : Fin 16
  col : Fin 576
  deriving DecidableEq, Repr

/-- What an SRAM self-test showed of cluster .n of a site: a fault that ECC cannot correct, and its faulty columns; `lines` counts its
faulty lines. -/
structure SramResult where
  n : Fin 8
  bad : Bool
  cols : List SramCol
  lines : Nat
  deriving DecidableEq, Repr

/-- What the steps of a training showed (10 R299 to R302): whether the sideband trained at full rate, and for each lane tested its number,
errors, margin in 1/256 UI, opening in mV, and whether its skew lies in the deskew range. -/
structure LaneRun where
  fullRate : Bool
  lanes : List (Nat × Nat × Nat × Nat × Bool)
  deriving DecidableEq, Repr

/-- What an IDENT says of the link (10 R299): the braid's number and the interface generation of the sender's link microcode. -/
structure LinkIdent where
  number : Half
  gen : Half
  deriving DecidableEq, Repr

/-- Who writes a register of control space from outside a cluster (01 R29): the Surveyor for itself, a site's Lockkeeper, a stack's controller, or
the Surveyor for an expert Legend object. -/
inductive Writer where
  | surveyor
  | lockkeeper
  | controller
  | expert
  deriving DecidableEq, Repr

/-- 08 R243, 10 R309: a register that a unit's own Lockkeeper or stack controller and expert objects alone write. -/
def Writer.owner : Writer → Bool
  | .surveyor => false
  | _ => true

/-- 11 R334: a register that the Surveyor, the stack controller and expert objects alone write. -/
def Writer.stack : Writer → Bool
  | .lockkeeper => false
  | _ => true

/-- 12 R370, 13 R400: a register that the Surveyor and expert objects alone write. -/
def Writer.panel : Writer → Bool
  | .surveyor => true
  | .expert => true
  | _ => false

/-- A write into control space: its value, and who makes it. -/
structure CtlWrite where
  value : Word
  ctl : Writer
  deriving DecidableEq, Repr

/-- The training of one braid (10 R300): whether IDENT matched, whether the sideband trained (R299), and its lane tests. -/
structure BraidTest where
  b : BraidId
  identOk : Bool
  fullRate : Bool
  tests : List (Nat × Nat × Nat × Nat × Bool)
  deriving DecidableEq, Repr

/-- The calibration of a domain (22 R581): for the site's ceiling and each step below it that was tried, the lowest trim in mV that
passed, none where +30 mV failed. -/
structure DomCal where
  c : ClusterId
  tries : List (Option Int)
  deriving DecidableEq, Repr

/-- The path resistance of a sensor (21 R566) in µΩ at the two calibration loads. -/
structure PathCal where
  c : ClusterId
  sensor : Fin 8
  low : Nat
  high : Nat
  deriving DecidableEq, Repr

/-- What the tests within a part of a start showed (20 R535 to R538): domains that failed the rail-integrity test (21 R568), retests of
masked units at a cold start, calibrations and path resistances. -/
structure PartResults where
  domFails : List ClusterId
  retests : List Retest
  cals : List DomCal
  paths : List PathCal
  deriving DecidableEq, Repr

end Sys2Proof
end

