-- ==== Sys2Proof/Syntax.lean ====
section
/-!
DEFINITION. The commands of the panel and their operands. The table gives no bits to a row; each operand is a fact the step
depends on and State does not hold: which unit, which registers, a received message, a measured value.
-/
namespace Sys2Proof

/-- The commands of the panel, one constructor per row of spec/opcode_table.json. -/
inductive Instr where
  /-- R34: The Surveyor applies an event that reached it, with all its consequences, as one change set and increments the Gazetteer generation by one. -/
  | gazetteerChangeSet (es : List GazEvent)
  /-- R32: An expert Legend command masks, unmasks or retires a unit, subject to the allowed transitions. -/
  | expertStatusCommand (u : GUnit) (st : Fin 5)
  /-- R35: A write of object 0x3011 names a reserve to activate; it is refused if the site is not a reserve, if 180 sites are in service, or if an activation is in progress. -/
  | reserveActivate (site : Byte)
  /-- R36: After the retiring change set, a reserve is chosen under the policy and its domains are powered up against wake tokens. -/
  | reservePowerUp
  /-- R36: Once power-up is done, LKF is delivered to the reserve's Lockkeeper, which runs the quick SRAM self-test. -/
  | reserveSelfTest (rs : List SramResult)
  /-- R36: Once the self-test is done, the reserve's mesh braids and memory port are lane-tested and trained. -/
  | reserveLinkTraining (bs : List BraidTest)
  /-- R36: Once training is done, the Surveyor computes and publishes a routing edition that includes the reserve. -/
  | reserveEdition (t : RouteTables) (tsw : Word)
  /-- R36: A change set places the reserve in service with reason ACTIVATED and sets each of its braids' status from the site at the other end. -/
  | activationComplete
  /-- R193: The loader checks a chart, maps its sites, checks slack, applies relocations, writes the sections and starts the clusters. -/
  | chartLoad (p : Fin 256) (chart : List Byte) (syms : List Word) (start : Option Word)
  /-- R103: The matrix slot issues a tile multiply-accumulate, which is checked at issue and then queued on the product array. -/
  | mma (c : ClusterId) (ta tb : BitVec 4) (accb : BitVec 2) (opens : Bool) (km1 : BitVec 12)
  /-- R114: The matrix slot issues a read-out that adds bias, converts the accumulator entries and writes them to the scratchpad. -/
  | mread (c : ClusterId) (td : BitVec 4) (accb : BitVec 2)
  /-- R116: The matrix slot issues a read-out that writes accumulator entries as Sounding words to the scratchpad. -/
  | mspill (c : ClusterId) (td : BitVec 4) (accb : BitVec 2) (cut : BitVec 3)
  /-- R117: The matrix slot issues a combine of Sounding words from the scratchpad into the accumulator banks. -/
  | mcomb (c : ClusterId) (td : BitVec 4) (accb : BitVec 2) (cut : BitVec 3) (cutself : Bool)
  /-- R104: A queued or filled MMA starts its first k-step, and with OPEN set it opens and clears its banks. -/
  | mmaFirstKstep (c : ClusterId)
  /-- R100: An MMA completes its last k-step; its banks become readable 8 cycles later, and enabled engine events are raised. -/
  | mmaLastKstep (c : ClusterId)
  /-- R118: A read-out operation starts once its bank is readable and the previous read-out has ended. -/
  | readoutStart (c : ClusterId)
  /-- R118: A read-out operation completes its last write and updates MXE_CEIL; a deferred ANCHOR_MISMATCH becomes pending. -/
  | readoutComplete (c : ClusterId)
  /-- R124: A read of MXE_CEIL returns the maximum ceiling and clears it. -/
  | mxeCeilRead (c : ClusterId)
  /-- R130: Vector binary32 add of active elements. -/
  | vaddF (c : ClusterId) (vd vs : Reg) (m : BitVec 3) (count : BitVec 13)
  /-- R130: Vector binary32 subtract of active elements. -/
  | vsubF (c : ClusterId) (vd vs : Reg) (m : BitVec 3) (count : BitVec 13)
  /-- R130: Vector binary32 multiply of active elements. -/
  | vmulF (c : ClusterId) (vd vs : Reg) (m : BitVec 3) (count : BitVec 13)
  /-- R130: Vector binary32 minimum of active elements. -/
  | vminF (c : ClusterId) (vd vs : Reg) (m : BitVec 3) (count : BitVec 13)
  /-- R130: Vector binary32 maximum of active elements. -/
  | vmaxF (c : ClusterId) (vd vs : Reg) (m : BitVec 3) (count : BitVec 13)
  /-- R130: Vector BF16 add of active elements. -/
  | vaddH (c : ClusterId) (vd vs : Reg) (m : BitVec 3) (count : BitVec 13)
  /-- R130: Vector BF16 subtract of active elements. -/
  | vsubH (c : ClusterId) (vd vs : Reg) (m : BitVec 3) (count : BitVec 13)
  /-- R130: Vector BF16 multiply of active elements. -/
  | vmulH (c : ClusterId) (vd vs : Reg) (m : BitVec 3) (count : BitVec 13)
  /-- R130: Vector BF16 minimum of active elements. -/
  | vminH (c : ClusterId) (vd vs : Reg) (m : BitVec 3) (count : BitVec 13)
  /-- R130: Vector BF16 maximum of active elements. -/
  | vmaxH (c : ClusterId) (vd vs : Reg) (m : BitVec 3) (count : BitVec 13)
  /-- R130: Vector binary32 fused multiply-add with one rounding. -/
  | vfmaF (c : ClusterId) (vd vs : Reg) (m : BitVec 3) (count : BitVec 13)
  /-- R130: Vector BF16 fused multiply-add with one rounding. -/
  | vfmaH (c : ClusterId) (vd vs : Reg) (m : BitVec 3) (count : BitVec 13)
  /-- R207: Vector conversion from binary32 to BF16. -/
  | vcvtF32ToBf16 (c : ClusterId) (vd vs : Reg) (m : BitVec 3) (count : BitVec 13)
  /-- R207: Vector conversion from BF16 to binary32. -/
  | vcvtBf16ToF32 (c : ClusterId) (vd vs : Reg) (m : BitVec 3) (count : BitVec 13)
  /-- R207: Vector conversion from binary32 to binary16. -/
  | vcvtF32ToF16 (c : ClusterId) (vd vs : Reg) (m : BitVec 3) (count : BitVec 13)
  /-- R207: Vector conversion from binary16 to binary32. -/
  | vcvtF16ToF32 (c : ClusterId) (vd vs : Reg) (m : BitVec 3) (count : BitVec 13)
  /-- R130: Vector 32-bit integer add modulo 2^32. -/
  | viadd (c : ClusterId) (vd vs : Reg) (m : BitVec 3) (count : BitVec 13)
  /-- R130: Vector 32-bit integer subtract modulo 2^32. -/
  | visub (c : ClusterId) (vd vs : Reg) (m : BitVec 3) (count : BitVec 13)
  /-- R130: Vector bitwise AND. -/
  | vand (c : ClusterId) (vd vs : Reg) (m : BitVec 3) (count : BitVec 13)
  /-- R130: Vector bitwise OR. -/
  | vor (c : ClusterId) (vd vs : Reg) (m : BitVec 3) (count : BitVec 13)
  /-- R130: Vector bitwise XOR. -/
  | vxor (c : ClusterId) (vd vs : Reg) (m : BitVec 3) (count : BitVec 13)
  /-- R130: Vector shift left with counts taken mod 32. -/
  | vshl (c : ClusterId) (vd vs : Reg) (m : BitVec 3) (count : BitVec 13)
  /-- R130: Vector logical shift right with counts taken mod 32. -/
  | vshr (c : ClusterId) (vd vs : Reg) (m : BitVec 3) (count : BitVec 13)
  /-- R130: Vector arithmetic shift right with counts taken mod 32. -/
  | vsra (c : ClusterId) (vd vs : Reg) (m : BitVec 3) (count : BitVec 13)
  /-- R130: Vector binary32 equality compare into a mask. -/
  | vcmpEqF (c : ClusterId) (vd vs : Reg) (m : BitVec 3) (count : BitVec 13)
  /-- R130: Vector binary32 inequality compare into a mask. -/
  | vcmpNeF (c : ClusterId) (vd vs : Reg) (m : BitVec 3) (count : BitVec 13)
  /-- R130: Vector binary32 less-than compare into a mask. -/
  | vcmpLtF (c : ClusterId) (vd vs : Reg) (m : BitVec 3) (count : BitVec 13)
  /-- R130: Vector binary32 less-or-equal compare into a mask. -/
  | vcmpLeF (c : ClusterId) (vd vs : Reg) (m : BitVec 3) (count : BitVec 13)
  /-- R130: Vector BF16 equality compare into a mask. -/
  | vcmpEqH (c : ClusterId) (vd vs : Reg) (m : BitVec 3) (count : BitVec 13)
  /-- R130: Vector BF16 inequality compare into a mask. -/
  | vcmpNeH (c : ClusterId) (vd vs : Reg) (m : BitVec 3) (count : BitVec 13)
  /-- R130: Vector BF16 less-than compare into a mask. -/
  | vcmpLtH (c : ClusterId) (vd vs : Reg) (m : BitVec 3) (count : BitVec 13)
  /-- R130: Vector BF16 less-or-equal compare into a mask. -/
  | vcmpLeH (c : ClusterId) (vd vs : Reg) (m : BitVec 3) (count : BitVec 13)
  /-- R130: Vector signed 32-bit equality compare into a mask. -/
  | vcmpEqI (c : ClusterId) (vd vs : Reg) (m : BitVec 3) (count : BitVec 13)
  /-- R130: Vector signed 32-bit inequality compare into a mask. -/
  | vcmpNeI (c : ClusterId) (vd vs : Reg) (m : BitVec 3) (count : BitVec 13)
  /-- R130: Vector signed 32-bit less-than compare into a mask. -/
  | vcmpLtI (c : ClusterId) (vd vs : Reg) (m : BitVec 3) (count : BitVec 13)
  /-- R130: Vector signed 32-bit less-or-equal compare into a mask. -/
  | vcmpLeI (c : ClusterId) (vd vs : Reg) (m : BitVec 3) (count : BitVec 13)
  /-- R130: Vector broadcast of the low 32 bits of a g register. -/
  | vbcast (c : ClusterId) (vd vs : Reg) (m : BitVec 3) (count : BitVec 13)
  /-- R135: Vector binary32 2^x, correctly rounded. -/
  | vexp2F (c : ClusterId) (vd vs : Reg) (m : BitVec 3) (count : BitVec 13)
  /-- R135: Vector binary32 log2, correctly rounded. -/
  | vlog2F (c : ClusterId) (vd vs : Reg) (m : BitVec 3) (count : BitVec 13)
  /-- R135: Vector binary32 reciprocal, correctly rounded. -/
  | vrcpF (c : ClusterId) (vd vs : Reg) (m : BitVec 3) (count : BitVec 13)
  /-- R135: Vector binary32 reciprocal square root, correctly rounded. -/
  | vrsqF (c : ClusterId) (vd vs : Reg) (m : BitVec 3) (count : BitVec 13)
  /-- R135: Vector binary32 tanh, correctly rounded. -/
  | vtanhF (c : ClusterId) (vd vs : Reg) (m : BitVec 3) (count : BitVec 13)
  /-- R135: Vector binary32 sigmoid, correctly rounded. -/
  | vsigF (c : ClusterId) (vd vs : Reg) (m : BitVec 3) (count : BitVec 13)
  /-- R135: Vector BF16 2^x. -/
  | vexp2H (c : ClusterId) (vd vs : Reg) (m : BitVec 3) (count : BitVec 13)
  /-- R135: Vector BF16 log2. -/
  | vlog2H (c : ClusterId) (vd vs : Reg) (m : BitVec 3) (count : BitVec 13)
  /-- R135: Vector BF16 reciprocal. -/
  | vrcpH (c : ClusterId) (vd vs : Reg) (m : BitVec 3) (count : BitVec 13)
  /-- R135: Vector BF16 reciprocal square root. -/
  | vrsqH (c : ClusterId) (vd vs : Reg) (m : BitVec 3) (count : BitVec 13)
  /-- R135: Vector BF16 tanh. -/
  | vtanhH (c : ClusterId) (vd vs : Reg) (m : BitVec 3) (count : BitVec 13)
  /-- R135: Vector BF16 sigmoid. -/
  | vsigH (c : ClusterId) (vd vs : Reg) (m : BitVec 3) (count : BitVec 13)
  /-- R132: Vector load from the scratchpad, converting the memory format exactly. -/
  | vld (c : ClusterId) (vd vs : Reg) (m : BitVec 3) (count : BitVec 13)
  /-- R132: Vector store to the scratchpad, converting into the memory format and updating VXE_CEIL. -/
  | vst (c : ClusterId) (vd vs : Reg) (m : BitVec 3) (count : BitVec 13)
  /-- R134: Packs the active elements to the front of vd and writes their count to g(VD). -/
  | vcompress (c : ClusterId) (vd vs : Reg) (m : BitVec 3) (count : BitVec 13)
  /-- R134: Scatters leading elements of vs to the active positions of vd. -/
  | vexpand (c : ClusterId) (vd vs : Reg) (m : BitVec 3) (count : BitVec 13)
  /-- R136: Adds the active elements as Sounding terms into an open Sounding register. -/
  | vrsum (c : ClusterId) (vd vs : Reg) (m : BitVec 3) (count : BitVec 13)
  /-- R136: Opens a Sounding register, then adds the active elements. -/
  | vrsumOpen (c : ClusterId) (vd vs : Reg) (m : BitVec 3) (count : BitVec 13)
  /-- R136: Adds elementwise products as Sounding terms into an open Sounding register. -/
  | vrdot (c : ClusterId) (vd vs : Reg) (m : BitVec 3) (count : BitVec 13)
  /-- R136: Opens a Sounding register, then adds elementwise products. -/
  | vrdotOpen (c : ClusterId) (vd vs : Reg) (m : BitVec 3) (count : BitVec 13)
  /-- R136: Rounds a Sounding register into slot 0 of vd. -/
  | vrout (c : ClusterId) (vd vs : Reg) (m : BitVec 3) (count : BitVec 13)
  /-- R136: Writes a Sounding register as a word to the scratchpad. -/
  | vrspill (c : ClusterId) (vd vs : Reg) (m : BitVec 3) (count : BitVec 13)
  /-- R136: Combines a Sounding word from the scratchpad into a Sounding register. -/
  | vrcomb (c : ClusterId) (vd vs : Reg) (m : BitVec 3) (count : BitVec 13)
  /-- R137: Sums the active elements by a fixed binary32 tree into element 0. -/
  | vfsum (c : ClusterId) (vd vs : Reg) (m : BitVec 3) (count : BitVec 13)
  /-- R141: Stores the shadow and its output pointer to the scratchpad. -/
  | vshst (c : ClusterId) (vd vs : Reg) (m : BitVec 3) (count : BitVec 13)
  /-- R141: Loads the shadow and its output pointer from the scratchpad. -/
  | vshld (c : ClusterId) (vd vs : Reg) (m : BitVec 3) (count : BitVec 13)
  /-- R138: A running vector operation commits one beat atomically, saving the pre-image or the output pointer as its mode requires. -/
  | vxBeatCommit (c : ClusterId)
  /-- R149: A read of VXE_CEIL returns the maximum ceiling and clears it. -/
  | vxeCeilRead (c : ClusterId)
  /-- R157: SXC_TCTL.START starts a thread at its program counter and clears its FAULT and DONE bits. -/
  | sxThreadStart (site : SiteId) (t : ThreadId)
  /-- R157: SXC_TCTL.STOP stops a thread once its issued operations complete. -/
  | sxThreadStop (site : SiteId) (t : ThreadId)
  /-- R151: The SX core selects a ready thread and issues up to four operations of its current group. -/
  | sxGroupIssue (site : SiteId)
  /-- R201: SX branch taken if two registers are equal. -/
  | beq (site : SiteId) (t : ThreadId) (rd rs1 : Reg) (imm : Half)
  /-- R201: SX branch taken if two registers differ. -/
  | bne (site : SiteId) (t : ThreadId) (rd rs1 : Reg) (imm : Half)
  /-- R201: SX branch taken if one register is signed less than another. -/
  | blt (site : SiteId) (t : ThreadId) (rd rs1 : Reg) (imm : Half)
  /-- R201: SX branch taken if one register is signed greater or equal. -/
  | bge (site : SiteId) (t : ThreadId) (rd rs1 : Reg) (imm : Half)
  /-- R201: SX indirect jump to a register's offset. -/
  | jr (site : SiteId) (t : ThreadId) (rs1 : Reg)
  /-- R201: SX load of 1, 2, 4 or 8 bytes. -/
  | ldx (site : SiteId) (t : ThreadId) (rd rs1 : Reg) (size : BitVec 2) (off : BitVec 14)
  /-- R201: SX store of 1, 2, 4 or 8 bytes into the thread's store buffer. -/
  | stx (site : SiteId) (t : ThreadId) (rd rs1 : Reg) (size : BitVec 2) (off : BitVec 14)
  /-- R201: SX atomic add after draining the store buffer. -/
  | amoadd (site : SiteId) (t : ThreadId) (rd rs1 xs : Reg) (wide : Bool)
  /-- R201: SX atomic signed maximum after draining the store buffer. -/
  | amomax (site : SiteId) (t : ThreadId) (rd rs1 xs : Reg) (wide : Bool)
  /-- R201: SX atomic compare-and-swap after draining the store buffer. -/
  | cas (site : SiteId) (t : ThreadId) (rd rs1 xs : Reg) (wide : Bool)
  /-- R152: Holds the SX thread until its store buffer is empty. -/
  | sxfence (site : SiteId) (t : ThreadId)
  /-- R153: Starts a gather from its descriptor, checks the plots and returns a ticket. -/
  | gather (site : SiteId) (t : ThreadId) (rd rs1 : Reg)
  /-- R153: Holds the SX thread until the gather named by the ticket has completed. -/
  | gwait (site : SiteId) (t : ThreadId) (rs1 : Reg)
  /-- R157: Sets the thread's DONE bit and stops it. -/
  | sxdone (site : SiteId) (t : ThreadId)
  /-- R153: The last row of a gather lands; the Weir range is released and waiting GWAITs proceed. -/
  | gatherComplete (site : SiteId) (ticket : Nat) (data : List Byte)
  /-- R227: The oldest store-buffer entry is granted by its bank and written, directly or by read-modify-write. -/
  | storeBufferDrain (ag : Agent)
  /-- R160: A bundle's non-NOP slots issue together once its wait, interlocks, Weir checks and holds are spent. -/
  | bundleIssue (c : ClusterId)
  /-- R198: 64-bit add modulo 2^64. -/
  | add (ag : Agent) (rd rs1 rs2 : Reg)
  /-- R198: 64-bit subtract modulo 2^64. -/
  | sub (ag : Agent) (rd rs1 rs2 : Reg)
  /-- R198: 64-bit bitwise AND. -/
  | and (ag : Agent) (rd rs1 rs2 : Reg)
  /-- R198: 64-bit bitwise OR. -/
  | or (ag : Agent) (rd rs1 rs2 : Reg)
  /-- R198: 64-bit bitwise XOR. -/
  | xor (ag : Agent) (rd rs1 rs2 : Reg)
  /-- R198: 64-bit shift left by a register count mod 64. -/
  | shl (ag : Agent) (rd rs1 rs2 : Reg)
  /-- R198: 64-bit logical shift right. -/
  | shr (ag : Agent) (rd rs1 rs2 : Reg)
  /-- R198: 64-bit arithmetic shift right. -/
  | sra (ag : Agent) (rd rs1 rs2 : Reg)
  /-- R198: Low 64 bits of a product. -/
  | mul (ag : Agent) (rd rs1 rs2 : Reg)
  /-- R198: High 64 bits of an unsigned product. -/
  | mulhu (ag : Agent) (rd rs1 rs2 : Reg)
  /-- R198: Signed 64-bit minimum. -/
  | min (ag : Agent) (rd rs1 rs2 : Reg)
  /-- R198: Signed 64-bit maximum. -/
  | max (ag : Agent) (rd rs1 rs2 : Reg)
  /-- R198: Signed set-less-than. -/
  | slt (ag : Agent) (rd rs1 rs2 : Reg)
  /-- R198: Unsigned set-less-than. -/
  | sltu (ag : Agent) (rd rs1 rs2 : Reg)
  /-- R198: Add a sign-extended immediate. -/
  | addi (ag : Agent) (rd rs1 : Reg) (imm : Half)
  /-- R198: AND with a zero-extended immediate. -/
  | andi (ag : Agent) (rd rs1 : Reg) (imm : Half)
  /-- R198: OR with a zero-extended immediate. -/
  | ori (ag : Agent) (rd rs1 : Reg) (imm : Half)
  /-- R198: XOR with a zero-extended immediate. -/
  | xori (ag : Agent) (rd rs1 : Reg) (imm : Half)
  /-- R198: Shift left by an immediate. -/
  | shli (ag : Agent) (rd rs1 : Reg) (imm : Half)
  /-- R198: Logical shift right by an immediate. -/
  | shri (ag : Agent) (rd rs1 : Reg) (imm : Half)
  /-- R198: Arithmetic shift right by an immediate. -/
  | srai (ag : Agent) (rd rs1 : Reg) (imm : Half)
  /-- R198: Shifts rd left 16 and ORs in a 16-bit immediate. -/
  | lih (ag : Agent) (rd : Reg) (imm : Half)
  /-- R203: Scalar binary32 add. -/
  | fadd (ag : Agent) (rd rs1 rs2 : Reg)
  /-- R202: Scalar binary32 subtract. -/
  | fsub (ag : Agent) (rd rs1 rs2 : Reg)
  /-- R203: Scalar binary32 multiply. -/
  | fmul (ag : Agent) (rd rs1 rs2 : Reg)
  /-- R204: Scalar binary32 minimum. -/
  | fmin (ag : Agent) (rd rs1 rs2 : Reg)
  /-- R204: Scalar binary32 maximum. -/
  | fmax (ag : Agent) (rd rs1 rs2 : Reg)
  /-- R204: Scalar binary32 less-than compare. -/
  | fcmplt (ag : Agent) (rd rs1 rs2 : Reg)
  /-- R204: Scalar binary32 equality compare. -/
  | fcmpeq (ag : Agent) (rd rs1 rs2 : Reg)
  /-- R205: Converts s64 to binary32. -/
  | fcvtif (ag : Agent) (rd rs1 : Reg)
  /-- R205: Converts binary32 to s64, rounding and saturating. -/
  | fcvtfi (ag : Agent) (rd rs1 : Reg)
  /-- R199: Sequencer 8-byte load from its own scratchpad. -/
  | ld (ag : Agent) (rd rs1 : Reg) (imm : Half)
  /-- R199: Sequencer 8-byte store into its store buffer. -/
  | st (ag : Agent) (rd rs1 : Reg) (imm : Half)
  /-- R200: Reads a CSR into a register, clearing RC fields it returns. -/
  | csrr (c : ClusterId) (rd : Reg) (csr : Half)
  /-- R200: Writes a CSR, each field applying its own access code. -/
  | csrw (c : ClusterId) (rs1 : Reg) (csr : Half)
  /-- R200: Sets bits in the RW fields of a CSR. -/
  | csrs (c : ClusterId) (rs1 : Reg) (csr : Half)
  /-- R200: Clears bits in the RW fields of a CSR. -/
  | csrc (c : ClusterId) (rs1 : Reg) (csr : Half)
  /-- R164: Writes a tile descriptor from two g registers. -/
  | tdw (c : ClusterId) (td rs1 rs2 : Reg)
  /-- R164: Reads the low half of a tile descriptor. -/
  | tdrl (c : ClusterId) (rd td : Reg)
  /-- R164: Reads the high half of a tile descriptor. -/
  | tdrh (c : ClusterId) (rd td : Reg)
  /-- R166: Transfers control to a relative target. -/
  | jmp (ag : Agent) (off : BitVec 26)
  /-- R166: Decrements a nonzero counter and transfers, or falls through. -/
  | loop (ag : Agent) (rd : Reg) (imm : Half)
  /-- R175: Holds the next bundle until the Meridian count reaches the deadline, then checks the landings. -/
  | sync (c : ClusterId) (rs1 rs2 : Reg)
  /-- R198: Holds issue of the next bundle for a counted number of core cycles. -/
  | waitc (ag : Agent) (rs1 : Reg)
  /-- R448: A declared pre-emption point: waits for quiescence, then yields or acts as a NOP. -/
  | yield (c : ClusterId) (imm : Half)
  /-- R180: Returns from a handler to SQR_EPC and enters any pending cause. -/
  | tret (c : ClusterId)
  /-- R164: Stops the sequencer and sets SQR_STAT.DONE. -/
  | sqend (c : ClusterId)
  /-- R169: Move that copies from HBM, host memory or a peer plot into the cluster's scratchpad. -/
  | dmaRd (c : ClusterId) (gd : Reg) (lcls : BitVec 5)
  /-- R169: Move that copies from the cluster's scratchpad to HBM, host memory or a peer plot. -/
  | dmaWr (c : ClusterId) (gd : Reg) (lcls : BitVec 5)
  /-- R169: Move that sends scratchpad bytes to another cluster in Direct or Stream mode. -/
  | dsend (c : ClusterId) (gd : Reg) (lcls : BitVec 5)
  /-- R169: Move that sends a Sounding area as one tensor group or as full words. -/
  | ssend (c : ClusterId) (gd : Reg) (lcls : BitVec 5) (cut : BitVec 3)
  /-- R174: A move's last byte is written and, for sends, acknowledged; its timer disarms. -/
  | moveComplete (c : ClusterId) (tag : Nat) (data : List Byte) (poison : Bool)
  /-- R174: A move's timer expires before completion, raising SCHED_OVERRUN. -/
  | moveTimerExpiry (c : ClusterId) (tag : Nat)
  /-- R175: The Meridian count reaches a held SYNC's deadline; landings are compared and the SYNC passes or overruns. -/
  | syncDeadline (c : ClusterId)
  /-- R178: At an issue point the highest-ordered pending cause is entered: EPC and CAUSE are set and fetch goes to TVEC. -/
  | trapEntry (c : ClusterId)
  /-- R184: SQR_CTL.START starts the sequencer at SQR_PC from the count SQR_EBASE. -/
  | sequencerStart (c : ClusterId)
  /-- R184: SQR_CTL.STOP stops the sequencer at the next issue point. -/
  | sequencerStop (c : ClusterId)
  /-- R236: In an idle slot at the paced interval the scrubber reads the next line and schedules write-back of corrected errors. -/
  | scrubRead (c : ClusterId) (bank : Fin 96) (faults : List (Nat × BitVec 72))
  /-- R238: At the cluster's next quiescent point write steering to the spare column begins. -/
  | columnRepairStart (c : ClusterId)
  /-- R238: The last row has been copied; read steering switches to the spare and the Surveyor records the repair. -/
  | columnRepairCopyDone (c : ClusterId)
  /-- R241: Once the sequencer, threads, moves and Weir ranges are idle, scratchpad zeroization begins. -/
  | zeroizationStart (c : ClusterId)
  /-- R242: The write and verify passes finish; a second verify failure sets ZFAIL and retires the cluster. -/
  | zeroizationComplete (c : ClusterId) (verified : Bool)
  /-- R232: A waiting Weir request is granted when an entry is free and no local operation forbids its extent. -/
  | weirAllocation (c : ClusterId)
  /-- R245: A read of SPD_CECNT or SPD_UECNT returns the count and clears it. -/
  | spdCounterRead (c : ClusterId) (uncorrected : Bool)
  /-- R248: A read of WEIR_STALL returns the stall count and clears it. -/
  | weirStallRead (c : ClusterId)
  /-- R257: A port injects a packet; the first router checks it against the window and port configuration. -/
  | packetInject (site : SiteId) (port : Fin 20) (p : Packet) (move : Option Nat)
  /-- R260: A router receives a packet head and forwards it by its edition's table, or drops it if unroutable. -/
  | deltaHop (site : SiteId) (port : Fin 20) (p : Packet)
  /-- R266: A Direct packet is written at its destination, accepted into RCVD and acknowledged as required. -/
  | directPacketDelivery (unit : BitVec 9) (leaf : Fin 9) (p : Packet)
  /-- R446: A Stream packet is written into its channel's window, or dropped if its handle or extent fails. -/
  | streamPacketDelivery (c : ClusterId) (p : Packet)
  /-- R266: An ACK advances the source's acknowledged count, applies the Eddy mark and may complete a move. -/
  | deltaAck (src : BitVec 12) (unit : BitVec 9) (mark : Bool) (rcvd : Word32) (good : Bool)
  /-- R257: A NAK is recorded against the move named by TAG, which never completes. -/
  | deltaNak (src : BitVec 12) (move : Option Nat) (code : Byte) (good : Bool)
  /-- R267: A PROBE is answered at once with an ACK. -/
  | deltaProbe (unit : BitVec 9) (src : BitVec 12)
  /-- R280: A cluster receives a request for a Weir range and queues it for allocation. -/
  | weirReq (c : ClusterId) (src : BitVec 12) (out : Bool) (reqid : BitVec 5) (length base : BitVec 25)
  /-- R280: The initiator receives a granted range and may send its data. -/
  | weirGrant (src : BitVec 12) (c : ClusterId) (reqid : BitVec 5) (entry : BitVec 4)
  /-- R255: A READ request is served and answered with Direct data to the return offset. -/
  | deltaRead (unit : BitVec 9) (p : Packet) (data : List Byte)
  /-- R272: A router combines multicast acknowledgements from its children and forwards the sum toward the root. -/
  | mack (site : SiteId) (port : Fin 20) (group : BitVec 12) (count : Word32)
  /-- R284: A HALT multicast reaches a leaf cluster, which stops and answers a MACK once it has accepted. -/
  | deltaHalt (c : ClusterId) (group : BitVec 12) (tenant : BitVec 9) (ackreq : Bool)
  /-- R266: 1 µs after the oldest unacknowledged accepted byte, the destination sends an ACK. -/
  | ackTimer (unit : BitVec 9) (src : BitVec 12)
  /-- R267: A window entry's probe timeout expires without an ACK, and a PROBE is sent. -/
  | probeTimeout (src : BitVec 12) (unit : BitVec 9)
  /-- R270: The recovery timer reaches 10 µs and the entry's rate Q rises by 16. -/
  | eddyRecoveryTimer (src : BitVec 12) (unit : BitVec 9)
  /-- R263: A hop acknowledgement returns freed-flit credits to the sender. -/
  | hopack (site : SiteId) (port : Fin 20) (freed : List Half)
  /-- R264: A credit-sync message resets the sender's credit books and unfreezes them. -/
  | csync (site : SiteId) (port : Fin 20) (freed : List Half)
  /-- R277: The Surveyor computes, checks and writes a new routing edition into the free slot and arms T_sw. -/
  | editionPublish (stages : List RouteTables) (tsw : Word)
  /-- R277: At T_sw every injection point stamps the new edition. -/
  | editionSwitch
  /-- R279: At each tick every router latches its old-edition packet count. -/
  | oldcntLatch
  /-- R331: Every Meridian microsecond each token bucket refills, and waiting requests are admitted. -/
  | shaperRefill
  /-- R289: A read of a DLT drop or mark counter returns it and clears it. -/
  | dltCounterRead (site : SiteId) (which : Fin 6)
  /-- R300: A braid runs its training steps, lane test and width choice, retiring failed lanes. -/
  | braidTraining (b : BraidId) (identOk : Bool) (shown : LaneRun)
  /-- R298: Once every braid reaches step 8, roles are assigned, turn lists built and ports offered to routing. -/
  | roleAssignment
  /-- R294: A receiver checks a flit's CRC and sequence, and sends REPLAY on a failure. -/
  | flitReceive (b : BraidId) (hi : Bool) (flit : BitVec 512) (crc : Half)
  /-- R294: The sender resends from the named flit onward. -/
  | leveeReplay (b : BraidId) (hi : Bool) (seq : BitVec 12)
  /-- R299: IDENT is checked against the Gazetteer; a mismatch masks the braid. -/
  | leveeIdent (b : BraidId) (hi : Bool) (unit : Half) (link : LinkIdent)
  /-- R296: A new turn list is applied at the stated packet count. -/
  | turn (site : SiteId) (port : Fin 20) (cls : BitVec 2) (esc : Bool) (slots half : Byte)
  /-- R303: A request for a retrain, width change or loopback starts withdrawal or a race resolution. -/
  | leveeRtReq (b : BraidId) (hi : Bool) (kind reason : BitVec 4) (depth : BitVec 3)
  /-- R307: A response accepts the initiator's procedure and withdrawal begins. -/
  | leveeRtRsp (b : BraidId) (hi : Bool) (accept : Bool) (converted : BitVec 4)
  /-- R303: The braid rejoins or is retired at the end of a procedure. -/
  | leveeRtDone (b : BraidId) (hi : Bool) (up : Bool)
  /-- R303: The retrain or width change finishes its training steps and the braid rejoins or is retired. -/
  | braidRetrainComplete (b : BraidId) (shown : LaneRun)
  /-- R305: A sudden loss of a lane makes the watcher request a retrain. -/
  | laneLoss (b : BraidId) (hi : Bool) (lane : Fin 68)
  /-- R306: Every 2^SVYPER ms the next data lane is shadowed onto the survey lane. -/
  | surveyStep (b : BraidId)
  /-- R306: The sender drives lane D on both D and the survey lane. -/
  | svyShadow (b : BraidId) (d sl : Fin 68)
  /-- R306: From flit N the receiver takes D's logical lane from the survey lane. -/
  | svyMove (b : BraidId) (d sl : Fin 68) (agree : Bool)
  /-- R306: The idle lane's calibration ends; it becomes the survey lane or is retired. -/
  | surveyCalibrationDone (b : BraidId) (errors : Word32) (margin : Byte) (mv : Half)
  /-- R306: The calibration result is reported and D becomes the survey lane on a pass. -/
  | svyReturn (b : BraidId) (d : Fin 68) (pass : Bool)
  /-- R299: A lane's margin is reported over the sideband. -/
  | margin (b : BraidId) (hi : Bool) (lane : Fin 68) (margin : Byte)
  /-- R308: LEV_LB.GO withdraws the braid and runs a loopback at the chosen depth. -/
  | leveeLoopback (b : BraidId) (hi : Bool) (depth : BitVec 3) (pat : BitVec 4)
  /-- R308: After 10 ms of pattern the result is recorded and the braid rejoins. -/
  | leveeLoopbackEnd (b : BraidId) (hi : Bool) (errors : Word32) (shown : LaneRun)
  /-- R312: A read of LEV_REPLAY or LEV_RETRAIN returns the count and clears it. -/
  | levCounterRead (b : BraidId) (hi : Bool) (which : Bool)
  /-- R317: A request reaches the base die, is shaped, decrypted or encrypted, and served within the bound. -/
  | hbmRequest (k : StackId) (p : Packet) (faults : List (Nat × Bool))
  /-- R328: A channel receives a refresh at its band's interval; every eighth is all-bank. -/
  | refreshCommand (k : StackId) (channel : Fin 32) (margin : Option Byte)
  /-- R326: At each tick the stack's temperature is sampled and its band may change. -/
  | stackTemperatureSample (k : StackId) (ts : List (Option Int))
  /-- R333: A stack runs its initialisation, march tests, repair and zero fill in order. -/
  | stackTest (k : StackId) (ok : Bool) (rows : Half) (failed : List (Fin 32))
  /-- R339: A read of an HBS counter returns it and clears it. -/
  | hbsCounterRead (k : StackId) (which : Fin 3)
  /-- R355: An engine frames a peer-bound packet, stamps its edition and sends or relays it. -/
  | larreFraming (n : EngineId) (p : Packet)
  /-- R356: A Direct data frame passes its link checks and is delivered, relayed, or plot-checked and written. -/
  | larreDirect (n : EngineId) (p : Fin 4) (f : Frame) (good : Bool)
  /-- R357: A READ frame is issued locally and its data returned as response frames. -/
  | larreRead (n : EngineId) (p : Fin 4) (f : Frame) (good : Bool) (data : List Byte)
  /-- R358: An end-to-end ACK lets the egress engine return Delta ACKs to its sources. -/
  | larreE2eAck (n : EngineId) (p : Fin 4) (f : Frame) (good : Bool)
  /-- R349: A link ACK releases acknowledged frames, applies FREED credits and triggers replay on RETRY. -/
  | larreAck (n : EngineId) (p : Fin 4) (retry sync : Bool) (aseq : BitVec 12) (freed : List (BitVec 24)) (good : Bool)
  /-- R349: 1 µs after the oldest unacknowledged accepted frame, the receiver sends an ACK. -/
  | larreAckTimer (n : EngineId) (p : Fin 4)
  /-- R350: The replay timer expires and every unacknowledged frame is replayed. -/
  | replayTimerExpiry (n : EngineId) (p : Fin 4)
  /-- R361: IDENT is compared with the expected peer; a different peer starts a new link. -/
  | larreIdent (n : EngineId) (p : Fin 4) (panel : Half) (engine port : Byte) (eui : Word)
  /-- R361: A retrain request stops data frames and freezes the books, or resolves a race. -/
  | larreRtReq (n : EngineId) (p : Fin 4) (kind reason depth : Byte)
  /-- R362: A response accepts the initiator's procedure. -/
  | larreRtRsp (n : EngineId) (p : Fin 4) (accept : Bool) (converted : BitVec 4)
  /-- R361: The port reports up or down at the end of a procedure. -/
  | larreRtDone (n : EngineId) (p : Fin 4) (up : Bool)
  /-- R361: Optical and FEC lock completes, possibly at reduced width, and IDENT follows. -/
  | larreRetrainLock (n : EngineId) (p : Fin 4) (lock : Half)
  /-- R361: Uncorrected codewords reach UNCTHR in 1 ms and a retrain is requested. -/
  | fecUncorrectedThreshold (n : EngineId) (p : Fin 4) (corrected uncorrected : Word32)
  /-- R361: An optical lane loses lock and a retrain is requested. -/
  | laneLockLoss (n : EngineId) (lane : Fin 16)
  /-- R359: A write of 0x5210 loads a Larre table into the free slot of every router and engine. -/
  | larreEditionWrite (data : List Byte)
  /-- R359: A write of 0x5211 arms the Larre switch at T_sw. -/
  | larreEditionArm (tsw : Word)
  /-- R359: At T_sw routers look up and engines stamp the new Larre edition. -/
  | larreEditionSwitch
  /-- R360: At each tick every engine latches its old-edition count into the panel sum. -/
  | larreOldcntLatch
  /-- R359: A write of 0x5212 frees the draining edition's slot if the panel's sum is 0. -/
  | larreEditionRetire
  /-- R363: An Ethernet-role port receives a frame, carrying Larre, steering UDP into a channel, or discarding it. -/
  | ethernetFrame (n : EngineId) (p : Fin 4) (f : EthFrame)
  /-- R367: 0x5205 or EST_OXB.OPEN opens a ring pair's bypass if its conditions hold. -/
  | oxbowOpen (pair : Option (Fin 2))
  /-- R366: EST_OXB.CLOSE, or loss of its hold, closes the bypass. -/
  | oxbowClose (pair : Fin 2)
  /-- R367: The bypass finishes moving, and the affected neighbours train new links. -/
  | oxbowMoveComplete (pair : Fin 2)
  /-- R368: EST_LB.GO withdraws the port and runs a loopback. -/
  | estuaryLoopback (n : EngineId) (p : Fin 4) (depth : BitVec 3) (pat : BitVec 4)
  /-- R368: After 10 ms of pattern the result is recorded and the port returns. -/
  | estuaryLoopbackEnd (n : EngineId) (errors : Word32)
  /-- R373: A read of an EST counter returns it and clears it. -/
  | estCounterRead (n : EngineId) (which : Fin 3)
  /-- R376: A read of an LRL counter returns it and clears it. -/
  | lrlCounterRead (n : EngineId) (p : Fin 4) (which : Fin 8)
  /-- R378: The on-time edge of a second is captured at the Meridian unit. -/
  | ppsOnTimeEdge (sub : Half)
  /-- R379: A complete time frame is checked, and the count is disciplined to the expected edge. -/
  | timeFrame (edge : Word) (pos flags crc : Byte) (timing : Bool)
  /-- R383: An IEEE 1588 Sync exchange disciplines the unit's count. -/
  | ptpSync (x : Option PtpExchange)
  /-- R390: No reference edge for 1 µs, or missing frames, put the unit into holdover. -/
  | meridInLoss
  /-- R384: No valid reference 2 s after start makes the unit run from its local oscillator. -/
  | localOscillatorFallback
  /-- R386: A die receives a tick marker and disciplines its count. -/
  | meridianMarker (unit : BitVec 9) (tick : BitVec 48) (crc : Byte)
  /-- R386: A die unlocked for 100 ms is masked with NO_LINK. -/
  | dieUnlockedTimeout (unit : BitVec 9)
  /-- R385: Every 10,000 ticks the distribution-tree delay to each die is measured again. -/
  | treeDelayMeasure (unit : BitVec 9) (dly : Word32)
  /-- R382: MER_UCTL.RCLOSE closes the Meridian relay. -/
  | merRelayClose
  /-- R388: A write of 0x5305 steps every die's count at the next tick, unless a chart is started. -/
  | expertTimeStep (count : Word)
  /-- R395: A write of 0x5214 loads the next calendar bank of every Larre port. -/
  | calendarBankLoad (data : List Byte)
  /-- R395: A write of TICK or 0x5215 arms a calendar bank switch. -/
  | calendarArm (port : Option (EngineId × BitVec 2)) (tick : Word)
  /-- R395: At the armed tick the port switches to the other calendar bank. -/
  | calendarBankSwitch (engine : EngineId) (port : BitVec 2)
  /-- R393: A calendar entry's window opens and the port owns time for class 2 frames. -/
  | calendarWindowOpen (engine : EngineId) (port : BitVec 2) (k : BitVec 6)
  /-- R406: In the first frame slot of every tick the panel sends a HEARTBEAT on every Larre port. -/
  | heartbeatSend
  /-- R406: A heartbeat arrives; an on-time one resets the neighbour's silence count. -/
  | heartbeat (n : EngineId) (p : Fin 4) (ident catchment ifgen : Half) (tick : BitVec 48) (rcrc : Word32)
  /-- R407: At the end of each tick, silent neighbours are counted and may become suspect. -/
  | heartbeatTickEnd (tick : BitVec 48)
  /-- R426: CNF_CTL.FENCE fences this panel. -/
  | cnfFence
  /-- R423: 0x5406 or CNF_CTL.RWREQ opens a vote with a rewind request. -/
  | rewindRequest
  /-- R411: An ACCUSE opens a vote, and the receiver sends its BALLOT. -/
  | accuse (ident catchment : Half) (vseq a : Word32)
  /-- R411: A ballot of silences, hearings, last epoch and requests is recorded for round 1. -/
  | ballot (ident catchment : Half) (vseq : Word32) (b : Ballot)
  /-- R411: At the end of tick a+2 each member sends DECIDE with its ballots. -/
  | voteRound1Deadline
  /-- R411: A DECIDE is merged into the union table. -/
  | decide (ident catchment : Half) (vseq : Word32) (ballots : List (Fin 64 × Ballot))
  /-- R412: At the end of tick a+5 the verdict is computed from the union table and sent. -/
  | voteFreeze
  /-- R413: A verdict is compared with the member's own and forwarded once; contingency patches are armed. -/
  | verdict (n : EngineId) (p : Fin 4) (catchment : Half) (vseq digest : Word32) (retired tsw : Word) (action : Byte)
  /-- R413: A STOP sets DIVERGE and forces action 2 at T_sw. -/
  | confluenceStop (ident catchment : Half) (reason : Byte)
  /-- R420: At T_sw the member applies the verdict's action: none, rewind, stop or fence. -/
  | verdictSwitch
  /-- R421: The pulled plots are verified against recorded digests, or STOP is sent. -/
  | pullComplete (ok : Bool) (plots : List (BitVec 6 × List Byte))
  /-- R418: A write of 0x5401 arms the close count C. -/
  | epochCloseArm (c : Word)
  /-- R418: At C quiescence is checked and the current parity is sealed. -/
  | epochClose
  /-- R418: CNF_MIRROR reaches 0 and the owner digests its sealed plots. -/
  | mirrorDrainDone
  /-- R419: The drain limit passes before the mirror drains, and the close fails. -/
  | drainLimitExpiry
  /-- R417: A plot's digest is complete and sent as DIGEST to the buddy. -/
  | plotDigestDone (slot : BitVec 6)
  /-- R418: The buddy digests its copy and answers DMATCH. -/
  | digest (ident catchment : Half) (epoch : Word32) (slot : BitVec 6) (parity : Byte) (crc : Word)
  /-- R418: A match report arrives; all matches send EPOCH_OK, a mismatch fails the close. -/
  | dmatch (ident catchment : Half) (epoch : Word32) (slot : BitVec 6) (agree : Bool)
  /-- R418: An EPOCH_OK is recorded from a member. -/
  | epochOk (ident catchment : Half) (epoch : Word32)
  /-- R419: C plus the close window passes before recording; the close fails and a vote opens. -/
  | closeWindowExpiry
  /-- R427: A read of CNF_HBMISS or CNF_LATE returns the count and clears it. -/
  | cnfCounterRead (which : Bool)
  /-- R430: A write of the partition table is checked and applied, starting tenant changes. -/
  | partitionWrite (port : Fin 2) (data : List Byte)
  /-- R431: A leaving cluster has drained its moves, gathers and Weir ranges, and zeroization follows. -/
  | tenantDrainDone (c : ClusterId)
  /-- R431: After 10 ms, remaining moves and ranges are abandoned and released. -/
  | tenantDrainLimit (c : ClusterId)
  /-- R436: A write of 0x4301 creates, changes or destroys a plot as a new plot-table version. -/
  | plotChange (port : Fin 2) (fn : Fin 513) (num : Half) (entry : List Byte)
  /-- R436: At a tick whose latched old-parity count is 0, a removal completes. -/
  | plotVersionDrained
  /-- R440: A write of 0x4001 opens a channel and writes the result to the host. -/
  | channelCreate (port : Fin 2) (fn : Fin 513) (req : List Byte)
  /-- R441: A write of 0x4003 closes the channel, halts its RUN and increments its generation. -/
  | channelDestroy (port : Fin 2) (fn : Fin 513) (handle : Word32)
  /-- R460: An 8-byte doorbell write is checked and exposes new submission entries. -/
  | doorbell (port : Fin 2) (fn : Fin 513) (page : Fin 4096) (handle prod : Word32) (data : List Byte)
  /-- R443: A RUN entry starts every cluster of the loaded chart at the start count. -/
  | run (i : Fin 4096)
  /-- R445: A DMA entry is checked and copied by the host-port die. -/
  | dmaEntry (i : Fin 4096)
  /-- R443: A FENCE entry waits for every earlier entry of the channel. -/
  | fenceEntry (i : Fin 4096)
  /-- R443: A SIGNAL entry writes a value once earlier entries complete. -/
  | signalEntry (i : Fin 4096)
  /-- R443: Every sequencer of a RUN has stopped and the entry completes with the worst status. -/
  | runComplete (p : Fin 256)
  /-- R445: A DMA entry's copy finishes and its completion is due. -/
  | hostDmaComplete (i : Fin 4096) (seq : Nat) (data : List Byte) (poison : Bool)
  /-- R447: A running channel's time-slice expires and pre-emption is requested if an equal-priority RUN waits. -/
  | timeSliceExpiry (p : Fin 256)
  /-- R449: Every cluster of the chart has yielded and the scheduler saves its state. -/
  | chartYielded (p : Fin 256) (xs : List (ClusterId × Nat × Nat))
  /-- R449: A pre-empted chart is restored, rebased and restarted at a new start count. -/
  | yieldResume (p : Fin 256) (r : Word)
  /-- R450: A write of 0x4400 halts every cluster of a partition without a bound. -/
  | partitionHalt (port : Fin 2) (p : Half)
  /-- R450: A write of 0x4401 releases the held channels of a partition. -/
  | haltRelease (port : Fin 2) (p : Half) (data : List (Fin 4096 × List Byte))
  /-- R450: The combined MACK returns and the HALT completes OK or HALT_SHORT. -/
  | haltComplete (p : Fin 256)
  /-- R454: A read of CHN_STALE returns the count and clears it. -/
  | chnStaleRead
  /-- R466: The primary PF's write of SVY_HALTDB requests a bounded HALT of a partition. -/
  | haltDoorbell (port : Fin 2) (fn : Fin 513) (w : Word)
  /-- R461: FLR destroys every channel created through the function and clears its MSI-X state. -/
  | functionLevelReset (port : Fin 2) (fn : Fin 513)
  /-- R469: PERST_N holds the port in reset and destroys its channels. -/
  | perstNAssert (port : Fin 2)
  /-- R469: The port leaves reset and answers configuration within 100 ms. -/
  | perstNDeassert (port : Fin 2)
  /-- R465: The primary's link goes down and a promotion deadline is set. -/
  | hostLinkDown (port : Fin 2)
  /-- R465: Without primary activity by the deadline, the secondary becomes primary. -/
  | promotionDeadline
  /-- R464: SVY_ROLEREQ.GO submits a role swap request against an epoch. -/
  | roleRequest (port : Fin 2) (w : Word)
  /-- R464: At the next tick the requests of the window are granted or refused. -/
  | roleWindowDecision
  /-- R457: A host read not completed in 50 ms is treated as poisoned data. -/
  | hostReadTimeout (r : HostRead)
  /-- R468: An IDE stream detects an integrity failure and goes Insecure. -/
  | ideIntegrityFailure (port : Fin 2) (stream : Fin 256)
  /-- R470: A doorbell in a BAR2 member window is forwarded to that member's Surveyor. -/
  | podDoorbell (b : PodBell) (page : Fin 4096) (handle prod : Word32)
  /-- R470: Loss of the Larre path beyond the promotion timeout ends membership. -/
  | podPathLoss (m : Option (Fin 64)) (since : Word)
  /-- R475: A LAP READ returns an object's value. -/
  | lapRead (h : LapHdr)
  /-- R476: A LAP WRITE sets an object, applied once even on retry. -/
  | lapWrite (h : LapHdr) (value : List Byte) (fails : Option (Fin 10)) (data : List (Fin 4096 × List Byte))
  /-- R484: A LAP DESCRIBE returns an object's attributes. -/
  | lapDescribe (h : LapHdr)
  /-- R487: Snapshots an object for a segmented read. -/
  | segReadStart (h : LapHdr)
  /-- R487: Returns bytes of the snapshot. -/
  | segRead (h : LapHdr) (xfer want : Half) (off : Word32)
  /-- R488: Opens a staged segmented write. -/
  | segWriteStart (h : LapHdr) (total : Word32)
  /-- R488: Stages bytes of a segmented write. -/
  | segWrite (h : LapHdr) (xfer : Half) (off : Word32) (data : List Byte)
  /-- R488: Commits a segmented write after its checks. -/
  | segWriteEnd (h : LapHdr) (xfer : Half) (crc : Word32)
  /-- R488: Ends a segmented transfer. -/
  | segAbort (h : LapHdr) (xfer : Half)
  /-- R479: Opens a basic or expert session. -/
  | lapOpen (h : LapHdr) (level flags : Byte) (spdm timeout : Word32)
  /-- R481: Closes a session and discards its transfers. -/
  | lapClose (h : LapHdr)
  /-- R484: Returns the Meridian count. -/
  | lapPing (h : LapHdr)
  /-- R481: A session's idle deadline passes and it ends. -/
  | sessionExpiry (n : Half)
  /-- R487: A transfer with no request for 10 s ends. -/
  | transferIdleExpiry (x : Half)
  /-- R478: A write of 1 to 0x1010 releases start-up steps waiting on host-supplied objects. -/
  | hostSuppliedRestored
  /-- R506: SPDM request answered by the Cartouche. -/
  | getVersion (ep : Endpoint)
  /-- R506: SPDM request answered by the Cartouche. -/
  | getCapabilities (ep : Endpoint)
  /-- R506: SPDM request answered by the Cartouche. -/
  | negotiateAlgorithms (ep : Endpoint) (ok : Bool)
  /-- R506: SPDM request answered by the Cartouche. -/
  | getDigests (ep : Endpoint)
  /-- R506: SPDM request returning the slot 0 certificate chain. -/
  | getCertificate (ep : Endpoint) (slot : Byte) (off len : Half)
  /-- R506: SPDM challenge signed with the device identity key. -/
  | challenge (ep : Endpoint) (slot : Byte) (nonce : BitVec 256)
  /-- R505: SPDM request returning image and security-state measurements. -/
  | getMeasurements (ep : Endpoint) (index : Byte) (nonce : BitVec 256)
  /-- R506: SPDM key exchange that opens a secure session, or answers Busy. -/
  | keyExchange (ep : Endpoint)
  /-- R506: SPDM request that completes the session handshake. -/
  | finish (ep : Endpoint) (id : Word32) (ok : Bool) (r : Requester)
  /-- R506: SPDM request that updates session keys. -/
  | keyUpdate (ep : Endpoint) (id : Word32)
  /-- R506: SPDM session heartbeat. -/
  | spdmHeartbeat (ep : Endpoint) (id : Word32)
  /-- R506: Ends an SPDM session and zeroizes its secrets and any LAP session inside it. -/
  | endSession (ep : Endpoint) (id : Word32)
  /-- R507: IDE_KM request programming an IDE key over the key path. -/
  | keyProg (ep : Endpoint) (id : Word32) (port : Fin 2) (stream set dir sub : Byte) (key : BitVec 256)
  /-- R507: IDE_KM request activating an IDE key set. -/
  | keySetGo (ep : Endpoint) (id : Word32) (port : Fin 2) (stream set dir sub : Byte)
  /-- R507: IDE_KM request stopping an IDE key set and clearing its keys. -/
  | keySetStop (ep : Endpoint) (id : Word32) (port : Fin 2) (stream set dir sub : Byte)
  /-- R507: IDE_KM QUERY request. -/
  | ideQuery (ep : Endpoint) (id : Word32) (port : Fin 2)
  /-- R502: A key unit verifies and applies a key-load message between two requests. -/
  | keyPathLoad (unit : Half) (ctr : Word) (slot : Half) (key : Nat)
  /-- R502: A key unit verifies and clears one slot. -/
  | keyPathClearSlot (unit : Half) (ctr : Word) (slot : Half)
  /-- R502: A key unit verifies and clears all slots. -/
  | keyPathClearAll (unit : Half) (ctr : Word)
  /-- R502: A key unit runs its known-answer test. -/
  | keyPathKat (unit : Half) (ctr : Word) (pass : Bool)
  /-- R509: A write of 0x7020 runs the Cartouche known-answer tests. -/
  | onDemandSelfTest (fails : Option (Fin 10))
  /-- R511: A write of 0x7030 zeroizes secrets, key slots and scratchpads. -/
  | zeroizeCommand
  /-- R511: Two writes of 0xDEC0 to 0x7031 within 10 s zeroize OTP secrets too. -/
  | endOfLife (w : Half)
  /-- R516: A write of 0x7041 fills an empty requester anchor slot. -/
  | anchorWrite (slot : Fin 4) (digest : List Byte)
  /-- R516: A write of 0x7043 revokes firmware or requester anchors. -/
  | anchorRevoke (w : Byte)
  /-- R516: A write of 1 to 0x7011 blows the approved-only fuse. -/
  | approvedFuse (w : Bool)
  /-- R528: A write of 0x1F01 waives check 5 for one image of a kind. -/
  | testedWithOverride (w : Byte)
  /-- R525: LMC or LKF counts as delivered when the MACK count equals the in-service Lockkeepers. -/
  | imageBroadcastDone (kind : Fin 5)
  /-- R532: A component violates its regions and is stopped for restart. -/
  | componentViolation (k : Fin 6) (addr : Word)
  /-- R532: A component's watchdog expires and it is restarted. -/
  | componentWatchdogExpiry (k : Fin 6)
  /-- R533: A restarted component resumes at its entry. -/
  | componentRestartDone (k : Fin 6) (data : List (Fin 4096 × List Byte))
  /-- R534: A Lockkeeper's watchdog expires; the core is reset and reloaded. -/
  | lkfWatchdogExpiry (site : SiteId)
  /-- R534: A stack controller's watchdog expires; the controller is reset and reloaded. -/
  | sbfWatchdogExpiry (k : StackId)
  /-- R534: A link controller's watchdog expires; the braid is withdrawn and retrained. -/
  | lmcWatchdogExpiry (b : BraidId)
  /-- R535: A start part meets its end condition and the next part begins. -/
  | startPartComplete (r : PartResults)
  /-- R535: Part 4 ends 10 s after it began, whether or not every port is up. -/
  | estuaryPartTimeout
  /-- R538: The next wave of sites begins waking, self-testing and zeroizing. -/
  | waveStart
  /-- R541: PANEL_RESET_N asserted resets the panel, turns off lasers, zeroizes and powers down. -/
  | panelResetAssert
  /-- R543: Release of PANEL_RESET_N begins a start at part 1. -/
  | panelResetRelease (a b : Bool)
  /-- R542: An assertion lasting 30 s is logged, and under IGNORE the input is masked and a start begins. -/
  | resetStuck (a b : Bool)
  /-- R542: 100 ms high without a break unmasks PANEL_RESET_N. -/
  | resetUnmask
  /-- R545: The power module's identity is read to learn the configuration; it is retried every second. -/
  | pmbusIdentify (code : Option Word32)
  /-- R547: Every 10 ms STATUS_WORD is polled, and fault bits start a power-down. -/
  | pmbusStatusPoll (w : Half)
  /-- R549: VIN below 39 V for 100 µs sheds the core. -/
  | vinSag
  /-- R549: VIN below 37 V for 50 µs starts a power-down. -/
  | vinUndervoltage
  /-- R549: VIN above 62 V for 10 µs starts a power-down. -/
  | vinOvervoltage
  /-- R549: VIN at or above 40 V for 10 ms ends a shed and permits power-up. -/
  | vinRecovery (a b : Bool)
  /-- R551: PWR_EN asserted permits rails to be raised. -/
  | pwrEnAssert (a b : Bool)
  /-- R554: PWR_EN deasserted starts a power-down. -/
  | pwrEnDeassert
  /-- R551: A rail enters its window, and the next rail is raised after 0.5 ms. -/
  | railInWindow (r : Fin 10)
  /-- R553: A rail not in window within twice its ramp ends the power-up with RAIL_FAULT_UP. -/
  | railRampTimeout (r : Fin 10) (volt : Half) (test : Bool)
  /-- R554: A commanded rail reads off, and the next rail is commanded off. -/
  | railOff (r : Fin 10)
  /-- R555: A rail not off within 1 ms is a fault; every remaining rail is removed at once. -/
  | railOffTimeout (r : Fin 10) (volt : Half)
  /-- R560: A powered rail leaving its window is a RAIL_FAULT and starts a power-down. -/
  | railLeavesWindow (r : Fin 10) (volt : Half)
  /-- R556: The 500 ms off time ends and a fresh power-up may begin. -/
  | offTimeEnd (a b : Bool)
  /-- R559: A domain outside its window for 5 µs is switched off and its cluster masked. -/
  | domainFault (c : ClusterId)
  /-- R558: A sensor bad for 4 periods is dropped; too few sensors fall back to local sensing. -/
  | sensorDrop (c : ClusterId) (i : Option (Fin 8))
  /-- R562: A Lockkeeper requests a wake token for a domain. -/
  | wakeTokenRequest (c : ClusterId)
  /-- R562: The Surveyor grants a token in arrival order and the domain begins staging. -/
  | wakeTokenGrant (q : Fin 4)
  /-- R563: Every 200 ns the next stage of header switches turns on. -/
  | wakeStage (c : ClusterId) (ok : Bool)
  /-- R562: The domain is in window and its token is returned. -/
  | wakeTokenReturn (c : ClusterId) (test : SramResult)
  /-- R562: A token held beyond 1 ms is reclaimed and its domain treated as faulted. -/
  | wakeTokenTimeout (c : ClusterId)
  /-- R566: Each 10 ms interval the sensor path resistances are judged for suspicion. -/
  | fractureInterval (c : ClusterId) (current : Nat) (drops : List Nat)
  /-- R574: The driving PLL loses lock and the other PLL takes over within 50 ns. -/
  | pllLockLoss (site : SiteId) (other : Bool)
  /-- R574: A site with no locked PLL for 100 µs is stopped and masked. -/
  | pllNoneTimeout (site : SiteId)
  /-- R576: A change of target, ceiling, floor or cap recomputes the running step and may start a change. -/
  | stepRecompute (site : SiteId)
  /-- R577: The idle PLL locks and voltages are ready; the clock switches at the next shared edge. -/
  | stepRelockDone (site : SiteId)
  /-- R577: The set-points settle and the step change completes; held changes are applied. -/
  | setpointSettled (site : SiteId)
  /-- R584: Every 10 µs the die temperature is sampled and its thermal band and cap updated. -/
  | dieTemperatureSample (site : SiteId) (ts : List (Option Int))
  /-- R587: Every unit 10 °C below its hard limit for 1 s releases THERM_TRIP_N. -/
  | thermTripRelease
  /-- R582: Every 10 µs replica-path margins raise trims or set margin caps. -/
  | marginSample (site : SiteId) (slacks : List Byte)
  /-- R586: An optical engine at 85 °C or above is retired and its lasers turned off. -/
  | engineTemperatureSample (n : EngineId) (ts : List (Option Int))
  /-- R589: Every 10 ticks the input power is compared with the limit and the panel reduction adjusted. -/
  | powerManagerCheck (pin vin : Word32)
  /-- R593: A read of CLK_CHG returns the count and clears it. -/
  | clkChgRead (site : SiteId)
  /-- R594: A read of THM_MAX returns the highest sample and clears it. -/
  | thmMaxRead (site : SiteId)
  /-- R598: A write of 0x9000 starts a loopback run on an interface. -/
  | loopbackRequest (ep : Endpoint) (w : Word32)
  /-- R599: A write of 0x9010 starts the full SRAM self-test of a site. -/
  | sramSelfTestRequest (site : Byte)
  /-- R600: A write of 0x9011 runs a stack's test on demand. -/
  | stackTestRequest (w : Byte)
  /-- R598: A diagnostic run ends and its result is recorded in 0x9001. -/
  | diagnosticRunEnd (errors : Nat) (sram : List SramResult) (ok : Bool) (rows : Half) (failed : List (Fin 32))
  /-- R604: A write of 0x8011 empties the event ring. -/
  | faultLogClear
  /-- R601: Every tick each block forwards its fault counts to the Surveyor. -/
  | eventCountForward (unit : Half)
  /-- R605: An event is appended to the fault log or coalesced into its newest record. -/
  | faultEventReceived
  /-- R614: SLOT_PRESENT_N deasserted resets, powers down and zeroizes with cause 3. -/
  | slotPresentDeassert
  /-- R16: A write to a register without a row of its own applies each field's access code. -/
  | registerWrite (unit : Byte) (off : Word) (w : CtlWrite)
  /-- R548: VIN rises above 36 V, V_HK ramps into its window and a cold start begins at part 1 with the boot ROMs and Cartouche tests. -/
  | vHkPowerOn (a b : Bool)
  /-- R511: VIN falls below 30 V or V_HK leaves its window; key stores are overwritten by stored energy (cause 3), relays and bypasses close and all service ends. -/
  | vHkLoss
  /-- R465: A host port's link comes up (or a TLP arrives from it), cancelling a pending promotion or letting a secondary with a down link become primary. -/
  | hostLinkUp (port : Fin 2) (tlp : Bool)
  /-- R463: 10 s after SVF starts, if the port named in 0x1100 has no link and the other has, the other port takes the primary role. -/
  | primarySelectionTimeout
  /-- R535: An Estuary port still training after part 4 ends comes up and joins the next routing and Larre editions. -/
  | estuaryPortTrained (n : EngineId) (p : Fin 4)
  /-- R583: Every 100 µs a Surveyor or host-port die samples its sensors; at its 110 °C hard limit THERM_TRIP_N is driven and a Surveyor die zeroizes with cause 5. -/
  | surveyorDieTemperatureSample (d : Fin 4) (ts : List (Option Int))
  /-- R619: A Surveyor die's internal supply lies outside ±8% for 10 µs and the panel zeroizes with cause 5. -/
  | surveyorSupplyFault (d : Fin 2)
  /-- R382: The Meridian relay finishes opening or closing, within 5 ms, and MER_USTAT.RELAY takes the new state. -/
  | meridianRelayMoveComplete
  /-- R605: A record, or the status-image copy, finishes its write to boot flash; waiting records move on and a LOG_OVERFLOW record is appended when room returns. -/
  | faultLogFlashWrite
  /-- R489: A session that will end within 1 s for a reason other than CLOSE receives NOTIFY event 0x0004. -/
  | sessionExpiryWarning (n : Half)
  deriving DecidableEq, Repr

end Sys2Proof
end

