-- ==== Sys2Proof/Decode.lean ====
section
/-!
DEFINITION. The words that spell commands: none, since the table of operations and events gives no row any bits.
-/
namespace Sys2Proof

/-- The command that a word of `nbits` bits spells: the table gives no row bits, so no word spells one. -/
def decodeTableWord (_nbits _w : Nat) : Option Instr := none

end Sys2Proof
end

