-- ==== Sys2Proof/Machine/Tables.lean ====
section
/-!
DEFINITION. The operations on sparse tables, on queues of fields of words, and on byte strings.
-/
namespace Sys2Proof.Machine

/-- The value at key `k`, `d` where the key is not listed. -/
def Tbl.get {α : Type} (d : α) : Tbl α → Nat → α
  | [], _ => d
  | (k, v) :: t, n => if n = k then v else Tbl.get d t n

/-- The value at key `k`, if listed. -/
def Tbl.get? {α : Type} : Tbl α → Nat → Option α
  | [], _ => none
  | (k, v) :: t, n => if n = k then some v else Tbl.get? t n

/-- The table with `v` at key `n`, keys kept rising. -/
def Tbl.set {α : Type} : Tbl α → Nat → α → Tbl α
  | [], n, v => [(n, v)]
  | (k, w) :: t, n, v => if n < k then (n, v) :: (k, w) :: t else if n = k then (n, v) :: t else (k, w) :: Tbl.set t n v

/-- The table without key `n`. -/
def Tbl.erase {α : Type} : Tbl α → Nat → Tbl α
  | [], _ => []
  | (k, w) :: t, n => if n = k then Tbl.erase t n else (k, w) :: Tbl.erase t n

/-- The table with the value at key `n` changed by `f` (`d` where the key is not listed). -/
def Tbl.mod {α : Type} (d : α) (t : Tbl α) (n : Nat) (f : α → α) : Tbl α := Tbl.set t n (f (Tbl.get d t n))

/-- Keys strictly rising. -/
def Tbl.wf {α : Type} : Tbl α → Bool
  | [] => true
  | [_] => true
  | (a, _) :: (b, w) :: t => decide (a < b) && Tbl.wf ((b, w) :: t)

/-- The smallest number below `bound` that is not a key. -/
def Tbl.lowestFree {α : Type} (t : Tbl α) (first bound : Nat) : Option Nat :=
  ((List.range bound).filter (fun n => decide (first ≤ n) && (Tbl.get? t n).isNone)).head?

/-- Bits [hi:lo] of a word, as a number (00 R15). -/
def bits {n : Nat} (x : BitVec n) (hi lo : Nat) : Nat := (x.toNat >>> lo) % 2 ^ (hi + 1 - lo)

/-- Bit `i` of a word. -/
def bit {n : Nat} (x : BitVec n) (i : Nat) : Bool := x.getLsbD i

/-- The word with `v` in bits [hi:lo]. -/
def put {n : Nat} (x : BitVec n) (hi lo v : Nat) : BitVec n :=
  let m := 2 ^ (hi + 1 - lo)
  BitVec.ofNat n (x.toNat % 2 ^ lo + ((v % m) <<< lo) + ((x.toNat >>> (hi + 1)) <<< (hi + 1)))

/-- The word with bit `i` set to `b`. -/
def putBit {n : Nat} (x : BitVec n) (i : Nat) (b : Bool) : BitVec n := put x i i (if b then 1 else 0)

/-- `v` placed at bit `lo`: a summand of a register's value. -/
def fld (lo v : Nat) : Nat := v <<< lo

/-- A flag placed at bit `i`. -/
def flg (i : Nat) (b : Bool) : Nat := if b then 2 ^ i else 0

/-- The signed value of the low `w` bits of `x`. -/
def sext (w x : Nat) : Int := let y := x % 2 ^ w; if y < 2 ^ (w - 1) then (y : Int) else (y : Int) - (2 ^ w : Nat)

/-- The low `w` bits of an integer in two's complement. -/
def lowBits (w : Nat) (x : Int) : Nat := (x % (2 ^ w : Nat)).toNat

/-- ceil(a / b). -/
def cdiv (a b : Nat) : Nat := (a + b - 1) / b

/-- ceil(log2 n) for n at least 1. -/
def clog2 (n : Nat) : Nat := if n ≤ 1 then 0 else Nat.log2 (n - 1) + 1

/-- The numbers lo, lo+1, ..., lo+n-1. -/
def span (lo n : Nat) : List Nat := (List.range n).map (lo + ·)

/-- A little-endian byte string as a number (00 R15). -/
def leNat : List Byte → Nat
  | [] => 0
  | b :: t => b.toNat + 256 * leNat t

/-- The low `n` bytes of a number, little-endian. -/
def leBytes : Nat → Nat → List Byte
  | 0, _ => []
  | n + 1, x => BitVec.ofNat 8 x :: leBytes n (x / 256)

/-- The `n` elements of `w` bits at the low end of a number. -/
def fieldsOf (w n x : Nat) : List Nat := (List.range n).map fun i => (x >>> (i * w)) % 2 ^ w

/-- The number that holds elements of `w` bits in order, the first lowest. -/
def packFields (w : Nat) : List Nat → Nat
  | [] => 0
  | v :: t => v % 2 ^ w + (packFields w t) <<< w

/-- The first element that `p` accepts, with its index. -/
def findIdx (p : α → Bool) : List α → Nat → Option (Nat × α)
  | [], _ => none
  | x :: t, i => if p x then some (i, x) else findIdx p t (i + 1)

/-- The list with element `i` changed by `f`. -/
def modAt (l : List α) (i : Nat) (f : α → α) : List α := l.mapIdx fun j x => if j = i then f x else x

/-- min(a + b, m): a saturating counter. -/
def satAdd (m a b : Nat) : Nat := Nat.min m (a + b)

/-- CRC-32 (IEEE 802.3): reflected, polynomial 0xEDB88320, initial value and final inversion all ones. -/
def crc32 (bs : List Byte) : Nat :=
  Nat.xor 0xFFFFFFFF (bs.foldl (fun r b => (List.range 8).foldl (fun r i =>
    let fb := (r % 2 == 1) != b.getLsbD i
    if fb then Nat.xor (r >>> 1) 0xEDB88320 else r >>> 1) r) 0xFFFFFFFF)

end Sys2Proof.Machine
end

