-- ==== Sys2Proof/Machine/Formats.lean ====
section
/-!
DEFINITION. Number formats, scales, conversions and ceilings (spec 02 R50 to R72).
-/
namespace Sys2Proof.Machine

/-- An exact source value: NaN, an infinity, or (-1)^neg * m * 2^e (02, Conversions: "the source is taken at its exact value"). -/
inductive FVal where
  | nan
  | inf (neg : Bool)
  | fin (neg : Bool) (m : Nat) (e : Int)
  deriving DecidableEq, Repr

/-- An IEEE format of R50 by the widths of its exponent and fraction. -/
structure IeeeFmt where
  ew : Nat
  fw : Nat
  deriving DecidableEq, Repr

def fmtF32 : IeeeFmt := ⟨8, 23⟩
def fmtF16 : IeeeFmt := ⟨5, 10⟩
def fmtBf16 : IeeeFmt := ⟨8, 7⟩

def IeeeFmt.bias (f : IeeeFmt) : Nat := 2 ^ (f.ew - 1) - 1
/-- The magnitude code of Inf: exponent all ones, fraction 0 (R50). -/
def IeeeFmt.infCode (f : IeeeFmt) : Nat := (2 ^ f.ew - 1) <<< f.fw
def IeeeFmt.signAt (f : IeeeFmt) : Nat := f.ew + f.fw
/-- R52: the canonical quiet NaN. -/
def IeeeFmt.nanCode (f : IeeeFmt) : Nat := f.infCode + 2 ^ (f.fw - 1)

/-- R50: the value of a binary32, binary16 or BF16 code. -/
def decIeee (f : IeeeFmt) (w : Nat) : FVal :=
  let neg := (w >>> f.signAt) % 2 = 1
  let ex := (w >>> f.fw) % 2 ^ f.ew
  let fr := w % 2 ^ f.fw
  if ex = 2 ^ f.ew - 1 then (if fr = 0 then .inf neg else .nan)
  else if ex = 0 then .fin neg fr (1 - (f.bias : Int) - f.fw)
  else .fin neg (2 ^ f.fw + fr) ((ex : Int) - f.bias - f.fw)

/-- m * 2^(-k) rounded to nearest, ties to even; `sticky`: the true value lies above m by less than one unit of m. -/
def roundShift (m k : Nat) (sticky : Bool) : Nat :=
  if k = 0 then m else
  let q := m >>> k
  let r := m % 2 ^ k
  let h := 2 ^ (k - 1)
  if r > h ∨ (r = h ∧ sticky) ∨ (r = h ∧ q % 2 = 1) then q + 1 else q

/-- R62: the magnitude code, exponent unbounded above, of m * 2^e rounded once to nearest even in a format with `fw`
fraction bits and the given bias. -/
def roundMag (fw bias m : Nat) (e : Int) (sticky : Bool) : Nat :=
  if m = 0 then 0 else
  let emin : Int := 1 - (bias : Int)
  let top : Int := e + Nat.log2 m
  let q : Int := (if top < emin then emin else top) - fw
  let mant := if q ≤ e then m <<< (e - q).toNat else roundShift m (q - e).toNat sticky
  (((q + fw + bias) - 1).toNat <<< fw) + mant

/-- The result of a rounding into an IEEE format: the code, and whether a finite source overflowed (R62, R63). -/
structure Rounded where
  code : Nat
  ovf : Bool
  deriving DecidableEq, Repr

/-- R62, R63: m * 2^e with a sign, rounded once; `sat` selects max finite in place of Inf on overflow. -/
def roundFin (f : IeeeFmt) (sat neg : Bool) (m : Nat) (e : Int) (sticky : Bool) : Rounded :=
  let s := if neg then 2 ^ f.signAt else 0
  let c := roundMag f.fw f.bias m e sticky
  if c ≥ f.infCode then ⟨s + (if sat then f.infCode - 1 else f.infCode), true⟩ else ⟨s + c, false⟩

/-- R61 to R63: conversion of an exact source into an IEEE format. -/
def convIeee (f : IeeeFmt) (sat : Bool) : FVal → Rounded
  | .nan => ⟨f.nanCode, false⟩
  | .inf neg => ⟨(if neg then 2 ^ f.signAt else 0) + f.infCode, false⟩
  | .fin neg m e => roundFin f sat neg m e false

/-! Exact arithmetic on finite values. -/

def FVal.isNan : FVal → Bool | .nan => true | _ => false
def FVal.isInf : FVal → Bool | .inf _ => true | _ => false
def FVal.isZero : FVal → Bool | .fin _ m _ => m == 0 | _ => false
def FVal.neg? : FVal → Bool | .nan => false | .inf n => n | .fin n _ _ => n
def FVal.flip : FVal → FVal | .nan => .nan | .inf n => .inf (!n) | .fin n m e => .fin (!n) m e

/-- The signed integer of a finite value on the grid 2^g, for g at most its exponent. -/
def onGrid (g : Int) (neg : Bool) (m : Nat) (e : Int) : Int :=
  let v : Int := (m <<< (e - g).toNat : Nat)
  if neg then -v else v

/-- The finite value x * 2^g; an exact 0 takes the sign `zneg`. -/
def ofGrid (zneg : Bool) (x : Int) (g : Int) : FVal :=
  if x = 0 then .fin zneg 0 0 else .fin (decide (x < 0)) x.natAbs g

/-- The exact value of R203's sum of two operands (Inf and NaN cases included); an exact zero sum of nonzero operands
is +0, two zeros give -0 only if both are -0. -/
def FVal.add : FVal → FVal → FVal
  | .nan, _ => .nan
  | _, .nan => .nan
  | .inf a, .inf b => if a = b then .inf a else .nan
  | .inf a, .fin .. => .inf a
  | .fin .., .inf b => .inf b
  | .fin na ma ea, .fin nb mb eb =>
    if ma = 0 ∧ mb = 0 then .fin (na && nb) 0 0
    else let g := min ea eb; ofGrid false (onGrid g na ma ea + onGrid g nb mb eb) g

/-- The exact value of R203's product. -/
def FVal.mul : FVal → FVal → FVal
  | .nan, _ => .nan
  | _, .nan => .nan
  | .inf a, .inf b => .inf (a != b)
  | .inf a, .fin n m _ => if m = 0 then .nan else .inf (a != n)
  | .fin n m _, .inf b => if m = 0 then .nan else .inf (b != n)
  | .fin na ma ea, .fin nb mb eb => .fin (na != nb) (ma * mb) (ea + eb)

/-- x < y on values that are not NaN (-0 and +0 equal). -/
def FVal.lt : FVal → FVal → Bool
  | .nan, _ => false
  | _, .nan => false
  | .inf a, .inf b => a && !b
  | .inf a, .fin .. => a
  | .fin .., .inf b => !b
  | .fin na ma ea, .fin nb mb eb => let g := min ea eb; decide (onGrid g na ma ea < onGrid g nb mb eb)

/-- x = y on values, a NaN equal to nothing (R204). -/
def FVal.eq : FVal → FVal → Bool
  | .nan, _ => false
  | _, .nan => false
  | .inf a, .inf b => a == b
  | .fin na ma ea, .fin nb mb eb => let g := min ea eb; decide (onGrid g na ma ea = onGrid g nb mb eb)
  | _, _ => false

/-- R204: FMIN and FMAX on decoded operands; the zeros are ordered by sign. -/
def FVal.min (x y : FVal) : FVal :=
  if x.isNan || y.isNan then .nan
  else if x.isZero && y.isZero then (if x.neg? then x else y)
  else if x.lt y then x else y

def FVal.max (x y : FVal) : FVal :=
  if x.isNan || y.isNan then .nan
  else if x.isZero && y.isZero then (if x.neg? then y else x)
  else if x.lt y then y else x

/-- floor(log2 |x|) of a nonzero finite value. -/
def ilog2 (m : Nat) (e : Int) : Int := e + Nat.log2 m

/-! Microscaling formats (R54 to R57) and Shoal (R58 to R60). The 4-bit format codes are those of 04 R98. -/

/-- R98: format codes. -/
def fmtBf : Nat := 2
def fmtInt8 : Nat := 8
def fmtShoal : Nat := 9

/-- R98: 0 to 2 are the IEEE formats and BF16. -/
def ieeeOf (fmt : Nat) : Option IeeeFmt :=
  if fmt = 0 then some fmtF32 else if fmt = 1 then some fmtF16 else if fmt = 2 then some fmtBf16 else none

def isMx (fmt : Nat) : Bool := decide (3 ≤ fmt ∧ fmt ≤ 8)
def isScaled (fmt : Nat) : Bool := decide (3 ≤ fmt ∧ fmt ≤ 9)

/-- The width of an element in bits; Shoal is packed five to a byte and has no width of its own (R57, R58). -/
def elemBits (fmt : Nat) : Nat :=
  if fmt = 0 then 32 else if fmt = 1 ∨ fmt = 2 then 16 else if fmt = 5 ∨ fmt = 6 then 6 else if fmt = 7 then 4 else 8

/-- The bytes that `n` elements of a row occupy: whole groups of R57, whole bytes of R59. -/
def rowBytes (fmt n : Nat) : Nat :=
  if fmt = 9 then cdiv n 5
  else if fmt = 5 ∨ fmt = 6 then 3 * cdiv n 4
  else cdiv (n * elemBits fmt) 8

/-- Elements in a block of one scale (02: 32 for MX, R59: 40 for Shoal). -/
def blockLen (fmt : Nat) : Nat := if fmt = 9 then 40 else 32

/-- R55: exponent width, fraction width, bias and largest finite magnitude code of an MX floating element. -/
structure ElemFmt where
  ew : Nat
  fw : Nat
  bias : Nat
  maxCode : Nat
  deriving DecidableEq, Repr

def elemFmt (fmt : Nat) : ElemFmt :=
  if fmt = 3 then ⟨4, 3, 7, 0x7E⟩ else if fmt = 4 then ⟨5, 2, 15, 0x7B⟩ else if fmt = 5 then ⟨3, 2, 3, 0x1F⟩
  else if fmt = 6 then ⟨2, 3, 1, 0x1F⟩ else ⟨2, 1, 1, 0x7⟩

/-- R55, R56: the value of one MX element code, before its scale. -/
def decElem (fmt c : Nat) : FVal :=
  if fmt = 8 then let q := sext 8 c; .fin (decide (q < 0)) q.natAbs (-6)
  else
    let f := elemFmt fmt
    let neg := (c >>> (f.ew + f.fw)) % 2 = 1
    let mag := c % 2 ^ (f.ew + f.fw)
    if fmt = 3 ∧ mag = 0x7F then .nan
    else if fmt = 4 ∧ mag = 0x7C then .inf neg
    else if fmt = 4 ∧ mag > 0x7C then .nan
    else
      let ex := mag >>> f.fw
      let fr := mag % 2 ^ f.fw
      if ex = 0 then .fin neg fr (1 - (f.bias : Int) - f.fw)
      else .fin neg (2 ^ f.fw + fr) ((ex : Int) - f.bias - f.fw)

/-- R60: a Shoal byte of 243 or above is invalid. -/
def shoalInvalid (b : Nat) : Bool := decide (243 ≤ b % 256)

/-- R58, R60: weight `i` (0 to 4) of a Shoal byte, -1, 0 or +1; an invalid byte decodes as five zeros. -/
def shoalDigit (b i : Nat) : Int := if shoalInvalid b then 0 else ((b % 256 / 3 ^ i % 3 : Nat) : Int) - 1

/-- R54: an element value times its E8M0 block scale; scale 0xFF reads NaN. -/
def scaleBy (sc : Nat) : FVal → FVal
  | v => if sc = 255 then .nan else
    match v with
    | .nan => .nan
    | .inf n => .inf n
    | .fin n m e => .fin n m (e + ((sc : Int) - 127))

/-- The exact value of element `i` of a row, from the row's element bytes `row` and its scale bytes `scales` (both as
little-endian numbers, R57, R59). -/
def elemAt (fmt row scales i : Nat) : FVal :=
  match ieeeOf fmt with
  | some f => decIeee f ((row >>> (i * elemBits fmt)) % 2 ^ elemBits fmt)
  | none =>
    let sc := (scales >>> (8 * (i / blockLen fmt))) % 256
    if fmt = 9 then
      let d := shoalDigit ((row >>> (8 * (i / 5))) % 256) (i % 5)
      scaleBy sc (.fin (decide (d < 0)) d.natAbs 0)
    else scaleBy sc (decElem fmt ((row >>> (i * elemBits fmt)) % 2 ^ elemBits fmt))

/-- R64: emax of an MX format. -/
def emaxOf (fmt : Nat) : Int := if fmt = 3 then 8 else if fmt = 4 then 15 else if fmt = 5 then 4 else if fmt = 8 then 0 else 2

/-- A block converted under R64: its scale byte, its element codes, and how many elements were clamped. -/
structure Block where
  scale : Nat
  codes : List Nat
  clamped : Bool
  deriving DecidableEq, Repr

/-- |x| as (m, e) of the larger magnitude of two nonzero finite values. -/
def magLe (m : Nat) (e : Int) (m' : Nat) (e' : Int) : Bool :=
  let g := min e e'; decide (m <<< (e - g).toNat ≤ m' <<< (e' - g).toNat)

/-- The largest magnitude in a block of finite values, as (m, e). -/
def blockMax : List FVal → Nat × Int
  | [] => (0, 0)
  | .fin _ m e :: t => let (m', e') := blockMax t; if magLe m e m' e' then (m', e') else (m, e)
  | _ :: t => blockMax t

/-- R64: one element of a block with scale exponent `se`, rounded to nearest even and saturated; the flag tells a clamp. -/
def mxElem (fmt : Nat) (se : Int) : FVal → Nat × Bool
  | .fin neg m e =>
    if fmt = 8 then
      let k := -(e - se + 6)
      let q := if k ≤ 0 then m <<< (-k).toNat else roundShift m k.toNat false
      let c := if q > 127 then 127 else q
      (if neg then (256 - c) % 256 else c, decide (q > 127))
    else
      let f := elemFmt fmt
      let c := roundMag f.fw f.bias m (e - se) false
      ((if neg then 2 ^ (f.ew + f.fw) else 0) + Nat.min c f.maxCode, decide (c > f.maxCode))
  | _ => (0, false)

/-- R64: scale_and_round. R64 knows no source above 2^128, for which `u8` would cut the scale; a Sounding register can give one (03 R77), and
its scale keeps the low 8 bits (log entry 66). -/
def scaleAndRound (fmt : Nat) (xs : List FVal) : Block :=
  if xs.any (fun x => x.isNan || x.isInf) then ⟨255, xs.map fun _ => 0, false⟩ else
  let (m, e) := blockMax xs
  if m = 0 then ⟨0, xs.map fun x => if x.neg? && fmt != 8 then 2 ^ (elemBits fmt - 1) else 0, false⟩ else
  let se0 := ilog2 m e - emaxOf fmt
  let se := if se0 < -127 then -127 else se0
  let cs := xs.map (mxElem fmt se)
  ⟨(se + 127).toNat % 256, cs.map (·.1), cs.any (·.2)⟩

/-! Ceilings (R67 to R71). -/

/-- R67: the ceiling of a list of values as stored in an IEEE format. -/
def ceilIeee : List FVal → Nat
  | [] => 0
  | .fin _ m e :: t => Nat.max (ceilIeee t) (if m = 0 then 0 else (max 1 (ilog2 m e + 127)).toNat)
  | _ :: _ => 255

/-- R68: the ceiling of one MX block as stored. -/
def ceilBlock (fmt : Nat) (b : Block) : Nat :=
  if b.scale = 255 then 255
  else if b.codes.any (fun c => (decElem fmt c).isNan || (decElem fmt c).isInf) then 255
  else if b.codes.all (fun c => (decElem fmt c).isZero) then 0
  else Nat.max 1 b.scale

/-- R71: the width term w of a format. -/
def widthTerm (fmt : Nat) : Int :=
  if fmt = 3 then 9 else if fmt = 4 then 16 else if fmt = 5 then 5 else if fmt = 6 ∨ fmt = 7 then 3
  else if fmt = 9 then 0 else 1

/-- R71, R77: the unbiased ceiling an operand gives the anchor: 0 is taken as 1, 255 as 254. -/
def unbiasedCeil (fmt c : Nat) : Int :=
  let c' := if c = 0 then 1 else if c = 255 then 254 else c
  (c' : Int) - 127 + widthTerm fmt

/-- R76: a = U_A + U_B + h with h = ceil(log2 K_red) + 2. -/
def anchorOf (ua ub : Int) (kred : Nat) : Int := ua + ub + clog2 kred + 2

end Sys2Proof.Machine
end

