-- ==== Sys2Proof/Machine/Sounding.lean ====
section
/-!
DEFINITION. Sounding registers, words and combines (spec 03 R73 to R92).
-/
namespace Sys2Proof.Machine

/-- R75: the 2-bit tag of a Sounding register. -/
inductive Tag where
  | finite | pInf | nInf | nan
  deriving DecidableEq, Repr

/-- R75: the encoding of a tag, 0 to 3. -/
def Tag.code : Tag → Nat | .finite => 0 | .pInf => 1 | .nInf => 2 | .nan => 3
def Tag.ofCode (n : Nat) : Tag := if n % 4 = 0 then .finite else if n % 4 = 1 then .pInf else if n % 4 = 2 then .nInf else .nan

/-- R75: the join of a register's tag with a term's tag. -/
def Tag.join : Tag → Tag → Tag
  | .finite, t => t
  | t, .finite => t
  | .pInf, .pInf => .pInf
  | .nInf, .nInf => .nInf
  | _, _ => .nan

/-- R73: a Sounding register without its anchor: the integer S, the tag and the saturation bit. -/
structure SEntry where
  s : Int := 0
  tag : Tag := .finite
  sat : Bool := false
  deriving DecidableEq, Repr

/-- R95: what an accumulator bank (or one sd register) holds beside its entries: an anchor, its valid bit and a declared cut. -/
structure Bank where
  anchor : Int := 0
  valid : Bool := false
  cut : Option Nat := none
  deriving DecidableEq, Repr

/-- R74: the largest magnitude a register holds. -/
def sMax : Int := 2 ^ 159 - 1

def inRange (x : Int) : Bool := decide (-sMax ≤ x ∧ x ≤ sMax)

/-- R75: the tag of a term. -/
def termTag : FVal → Tag
  | .nan => .nan
  | .inf neg => if neg then .nInf else .pInf
  | .fin .. => .finite

/-- R79: floor(t / 2^(a - 159)) of a finite term; 0 for a non-finite one, which contributes nothing to S. -/
def gridTerm (a : Int) : FVal → Int
  | .fin neg m e =>
    let k := e - (a - 159)
    let v : Int := if neg then -(m : Int) else m
    if 0 ≤ k then v * (2 ^ k.toNat : Nat) else v / (2 ^ (-k).toNat : Nat)
  | _ => 0

/-- R80: a term beyond ±2^160 is clamped there. -/
def clampTerm (q : Int) : Int := if q > 2 ^ 160 then 2 ^ 160 else if q < -(2 ^ 160) then -(2 ^ 160) else q

/-- R81: the register saturated with the sign of `x`. -/
def SEntry.saturate (r : SEntry) (x : Int) : SEntry := { r with s := if x < 0 then -sMax else sMax, sat := true }

/-- R80, R81: one operation adds the integer terms `qs` and joins the tags `ts`; answers the register and whether this
operation overflowed it. -/
def SEntry.addOp (r : SEntry) (qs : List Int) (ts : List Tag) : SEntry × Bool :=
  let r' := { r with tag := ts.foldl Tag.join r.tag }
  if r.sat then (r', false) else
  let x := (qs.map clampTerm).sum + r.s
  if qs.any (fun q => clampTerm q != q) || !inRange x then (r'.saturate x, true) else ({ r' with s := x }, false)

/-- One operation over exact terms (R79 to R81). -/
def SEntry.addTerms (r : SEntry) (a : Int) (ts : List FVal) : SEntry × Bool :=
  r.addOp (ts.map (gridTerm a)) (ts.map termTag)

/-- R91: a received partial with SAT set. -/
def SEntry.addSat (r : SEntry) (neg : Bool) (t : Tag) : SEntry :=
  let r' := { r with tag := r.tag.join t }
  if r.sat then r' else r'.saturate (if neg then -1 else 1)

/-- R83: the exact source value that a register gives a conversion; S = 0 converts as +0. -/
def SEntry.value (r : SEntry) (a : Int) : FVal :=
  match r.tag with
  | .nan => .nan
  | .pInf => .inf false
  | .nInf => .inf true
  | .finite => if r.s = 0 then .fin false 0 0 else .fin (decide (r.s < 0)) r.s.natAbs (a - 159)

/-- R102: the transport cut of a CUT code, for codes 0 to 4. -/
def cutOf (code : Nat) : Nat := 32 * code

/-- R87: bytes of a word at cut c: 24 for a full word. -/
def wordBytes (c : Nat) : Nat := if c = 0 then 24 else (160 - c) / 8

/-- R86: a full word as bytes. -/
def fullWord (a : Int) (r : SEntry) : List Byte :=
  leBytes 20 (lowBits 160 r.s) ++ leBytes 2 (lowBits 16 a) ++ leBytes 2 (r.tag.code + flg 2 r.sat)

/-- A received word, decoded (R86, R88, R91). -/
structure RWord where
  anchor : Option Int
  s : Int
  tag : Tag
  sat : Bool
  deriving DecidableEq, Repr

/-- R86: a full word read from its bytes. -/
def decFullWord (bs : List Byte) : RWord :=
  let n := leNat bs
  let st := (n >>> 176) % 256
  ⟨some (sext 16 (n >>> 160)), sext 160 n, Tag.ofCode st, (st >>> 2) % 2 = 1⟩

/-- R88: the word a source sends at cut c > 0, and whether the source overflows in sending it. -/
def cutWord (c : Nat) (r : SEntry) : Int × Bool :=
  let w := 160 - c
  let lo : Int := -(2 ^ (w - 1) : Nat)
  match r.tag with
  | .nan => (lo, false)
  | .pInf => (lo + 1, false)
  | .nInf => (lo + 2, false)
  | .finite =>
    if r.sat then (if r.s < 0 then lo + 4 else lo + 3, false) else
    let q := r.s / (2 ^ c : Nat)
    if q ≤ lo + 4 ∨ q ≥ (2 ^ (w - 1) : Nat) then (if r.s < 0 then lo + 4 else lo + 3, true) else (q, false)

/-- R88: a cut word is a reserved code. -/
def isReserved (c : Nat) (x : Int) : Bool := decide (x ≤ -(2 ^ (159 - c) : Nat) + 4)

/-- R88, R91: a cut word read at cut c. -/
def decCutWord (c : Nat) (n : Nat) : RWord :=
  let w := 160 - c
  let x := sext w n
  let k := x + (2 ^ (w - 1) : Nat)
  if k = 0 then ⟨none, 0, .nan, false⟩
  else if k = 1 then ⟨none, 0, .pInf, false⟩
  else if k = 2 then ⟨none, 0, .nInf, false⟩
  else if k = 3 then ⟨none, 1, .finite, true⟩
  else if k = 4 then ⟨none, -1, .finite, true⟩
  else ⟨none, x * (2 ^ c : Nat), .finite, false⟩

/-- R91, R212: one received word combined into a register; answers the register and whether SOVF is raised. A word with a
non-finite tag joins it and its S is not added. -/
def SEntry.combine (r : SEntry) (w : RWord) : SEntry × Bool :=
  if w.sat then (r.addSat (decide (w.s < 0)) w.tag, true)
  else if w.tag = .finite then r.addOp [w.s] [] else r.addOp [] [w.tag]

/-- R117 step 3, R80, R81: a register's own partial cut in place, as one operation; a saturated one keeps its S. The answer tells
an overflow. -/
def SEntry.cutSelf (c : Nat) (r : SEntry) : SEntry × Bool :=
  let x := r.s / (2 ^ c : Nat) * (2 ^ c : Nat)
  if r.sat then (r, false) else if inRange x then ({ r with s := x }, false) else (r.saturate x, true)

end Sys2Proof.Machine
end

