-- ==== Sys2Proof/Machine/Transcend.lean ====
section
/-!
DEFINITION. The transcendental functions of 05 R135 on finite arguments, correctly rounded: each value is computed in fixed
point with `P` fraction bits, far beyond what the rounding of R62 to binary32 needs, and rounded once. (DEDUCED, log
entry 9: no binary32 argument outside the exact points of R208 has a function value within 2^-250 of a rounding boundary.)
-/
namespace Sys2Proof.Machine

/-- Fraction bits of the fixed-point values below. -/
def fxP : Nat := 384

/-- e^r for 0 <= r < 1, r and the result in fixed point: the series by Horner's rule. -/
def fxExp (r : Nat) : Nat :=
  (List.range 90).foldr (fun n acc => 2 ^ fxP + ((r * acc) >>> fxP) / (n + 1)) (2 ^ fxP)

/-- atanh z for 0 <= z <= 1/3, in fixed point. -/
def fxAtanh (z : Nat) : Nat :=
  let z2 := (z * z) >>> fxP
  (z * (List.range 130).foldr (fun n acc => 2 ^ fxP / (2 * n + 1) + ((z2 * acc) >>> fxP)) 0) >>> fxP

/-- ln 2 = 2 atanh (1/3), in fixed point. -/
def fxLn2 : Nat := 2 * fxAtanh (2 ^ fxP / 3)

/-- ln of num/den in [1, 2), in fixed point. -/
def fxLn (num den : Nat) : Nat := 2 * fxAtanh (((num - den) <<< fxP) / (num + den))

/-- floor(m * 2^e * 2^fxP). -/
def fxOf (m : Nat) (e : Int) : Nat := if 0 ≤ e + fxP then m <<< (e + fxP).toNat else m >>> (-(e + fxP)).toNat

/-- e^(-y) for y >= 0 in fixed point; 0 where the value is below every bit kept. -/
def fxExpNeg (y : Nat) : Nat :=
  let k := y / fxLn2
  if k > fxP then 0 else (2 ^ (2 * fxP) / fxExp (y % fxLn2)) >>> k

/-- floor(sqrt n), bit by bit from bit `k - 1` down. -/
def isqrt (n : Nat) : Nat → Nat → Nat
  | 0, acc => acc
  | k + 1, acc => let t := acc + 2 ^ k; isqrt n k (if t * t ≤ n then t else acc)

/-- A fixed-point value rounded once to binary32; the value is not exact. -/
def fxRound (neg : Bool) (v : Nat) : Rounded := roundFin fmtF32 false neg (2 * v + 1) (-(fxP : Int) - 1) true

/-- 1 / (m * 2^e) rounded once to binary32. -/
def rcpF32 (neg : Bool) (m : Nat) (e : Int) : Rounded :=
  let k : Nat := 200
  let q : Nat := (2 : Nat) ^ k / m
  if (2 : Nat) ^ k % m = 0 then roundFin fmtF32 false neg q (-(k : Int) - e) false
  else roundFin fmtF32 false neg (2 * q + 1) (-(k : Int) - e - 1) true

/-- 1 / sqrt(m * 2^e) rounded once to binary32: sqrt(2^n / m) with the exponent made even. -/
def rsqF32 (m : Nat) (e : Int) : Rounded :=
  let odd := e % 2 = 1
  let m' := if odd then 2 * m else m
  let e' := if odd then e - 1 else e
  let q := 2 ^ 400 / m'
  let r := isqrt q 202 0
  let exact := r * r * m' = 2 ^ 400
  if exact then roundFin fmtF32 false false r (-200 - e' / 2) false
  else roundFin fmtF32 false false (2 * r + 1) (-201 - e' / 2) true

/-- 2^(±m * 2^e), |argument| below 2^8 or the result over- or underflows. -/
def exp2F32 (neg : Bool) (m : Nat) (e : Int) : Rounded :=
  if ilog2 m e ≥ 9 then (if neg then ⟨0, false⟩ else ⟨fmtF32.infCode, true⟩) else
  let x : Nat := fxOf m e
  let k : Nat := if neg then (x + (2 ^ fxP - 1)) >>> fxP else x >>> fxP
  let n : Int := if neg then -(k : Int) else k
  let f : Nat := if neg then (k <<< fxP) - x else x - (k <<< fxP)
  if f = 0 then roundFin fmtF32 false false 1 n false
  else roundFin fmtF32 false false (2 * fxExp ((f * fxLn2) >>> fxP) + 1) (n - (fxP : Int) - 1) true

/-- log2 of m * 2^e, m nonzero. -/
def log2F32 (m : Nat) (e : Int) : Rounded :=
  let k := Nat.log2 m
  let n : Int := e + k
  if m = 2 ^ k then roundFin fmtF32 false (decide (n < 0)) n.natAbs 0 false else
  let l := (fxLn m (2 ^ k) <<< fxP) / fxLn2
  let v : Int := n * (2 ^ fxP : Nat) + l
  fxRound (decide (v < 0)) (if v < 0 then v.natAbs - 1 else v.natAbs)

/-- tanh of ±m * 2^e; |x| below 2^-12 gives x (R208). -/
def tanhF32 (neg : Bool) (m : Nat) (e : Int) : Rounded :=
  if ilog2 m e < -12 then roundFin fmtF32 false neg m e false
  else if ilog2 m e ≥ 6 then roundFin fmtF32 false neg 1 0 false
  else
    let t := fxExpNeg (fxOf m (e + 1))
    fxRound neg (((2 ^ fxP - t) <<< fxP) / (2 ^ fxP + t))

/-- 1 / (1 + e^(-x)) of x = ±m * 2^e, x nonzero. -/
def sigF32 (neg : Bool) (m : Nat) (e : Int) : Rounded :=
  if ilog2 m e ≥ 8 then (if neg then ⟨0, false⟩ else roundFin fmtF32 false false 1 0 false) else
  let t := fxExpNeg (fxOf m e)
  if neg then fxRound false ((t <<< fxP) / (2 ^ fxP + t))
  else fxRound false (2 ^ (2 * fxP) / (2 ^ fxP + t))

/-- The six transcendental functions of R135. -/
inductive Fn where
  | exp2 | log2 | rcp | rsq | tanh | sig
  deriving DecidableEq, Repr

/-- Flags of a vector or matrix element operation (04 R120, 05 R143). -/
structure Flags where
  dz : Bool := false
  oovf : Bool := false
  ivld : Bool := false
  infi : Bool := false
  nani : Bool := false
  sinv : Bool := false
  sovf : Bool := false
  deriving DecidableEq, Repr

def Flags.or (a b : Flags) : Flags :=
  ⟨a.dz || b.dz, a.oovf || b.oovf, a.ivld || b.ivld, a.infi || b.infi, a.nani || b.nani, a.sinv || b.sinv, a.sovf || b.sovf⟩

/-- An element's result and the flags it raises. -/
structure Elem where
  code : Nat
  fl : Flags := {}
  deriving DecidableEq, Repr

def f32Nan : Nat := 0x7FC00000
def f32Inf : Nat := 0x7F800000
def f32One : Nat := 0x3F800000

/-- R135, R208: a transcendental operation in .F form on a binary32 code. -/
def transF (fn : Fn) (w : Nat) : Elem :=
  match decIeee fmtF32 w, fn with
  | .nan, _ => ⟨f32Nan, { nani := true }⟩
  | .inf false, .rcp => ⟨0, { infi := true }⟩
  | .inf false, .rsq => ⟨0, { infi := true }⟩
  | .inf false, .exp2 => ⟨f32Inf, { infi := true }⟩
  | .inf false, .log2 => ⟨f32Inf, { infi := true }⟩
  | .inf false, .tanh => ⟨f32One, { infi := true }⟩
  | .inf false, .sig => ⟨f32One, { infi := true }⟩
  | .inf true, .rcp => ⟨0x80000000, { infi := true }⟩
  | .inf true, .rsq => ⟨f32Nan, { infi := true, ivld := true }⟩
  | .inf true, .exp2 => ⟨0, { infi := true }⟩
  | .inf true, .log2 => ⟨f32Nan, { infi := true, ivld := true }⟩
  | .inf true, .tanh => ⟨0xBF800000, { infi := true }⟩
  | .inf true, .sig => ⟨0, { infi := true }⟩
  | .fin neg m e, fn =>
    if m = 0 then
      match fn with
      | .rcp => ⟨(if neg then 0x80000000 else 0) + f32Inf, { dz := true }⟩
      | .rsq => ⟨(if neg then 0x80000000 else 0) + f32Inf, {}⟩
      | .exp2 => ⟨f32One, {}⟩
      | .log2 => ⟨0x80000000 + f32Inf, { dz := true }⟩
      | .tanh => ⟨w, {}⟩
      | .sig => ⟨0x3F000000, {}⟩
    else
      match fn with
      | .rcp => let r := rcpF32 neg m e; ⟨r.code, { oovf := r.ovf }⟩
      | .rsq => if neg then ⟨f32Nan, { ivld := true }⟩ else ⟨(rsqF32 m e).code, {}⟩
      | .exp2 => let r := exp2F32 neg m e; ⟨r.code, { oovf := r.ovf }⟩
      | .log2 => if neg then ⟨f32Nan, { ivld := true }⟩ else ⟨(log2F32 m e).code, {}⟩
      | .tanh => ⟨(tanhF32 neg m e).code, {}⟩
      | .sig => ⟨(sigF32 neg m e).code, {}⟩

/-- R135, R208: the .H form: the binary32 result of the widened input, rounded once more to BF16; OOVF also when that
rounding of a finite result reaches Inf. -/
def transH (fn : Fn) (w : Nat) : Elem :=
  let r := transF fn (w <<< 16)
  let v := decIeee fmtF32 r.code
  let h := convIeee fmtBf16 false v
  ⟨h.code, { r.fl with oovf := r.fl.oovf || h.ovf }⟩

end Sys2Proof.Machine
end

