-- ==== Sys2Proof/Machine/ClusterState.lean ====
section
/-!
DEFINITION. The state of one cluster (spec 04 to 08): matrix engine, vector engine, scalar threads, sequencer, scratchpad.
-/
namespace Sys2Proof.Machine

/-! Matrix engine (04) -/

/-- R102: a matrix-slot operation with the descriptor values it read when it issued. -/
inductive MxOp where
  | mma (ta tb : BitVec 128) (accb : Nat) (opens : Bool) (km1 : Nat)
  | mread (td : BitVec 128) (accb : Nat)
  | mspill (td : BitVec 128) (accb cut : Nat)
  | mcomb (td : BitVec 128) (accb cut : Nat) (cutself : Bool)
  deriving DecidableEq, Repr

/-- An operation in a place of the product array or of the read-out unit (R100, R101, R118). -/
structure MxRun where
  op : MxOp
  started : Bool := false
  deriving DecidableEq, Repr

/-- The matrix engine of a cluster (R95, R109, R113, R119 to R124). -/
structure Mx where
  acc : Tbl SEntry := []
  banks : Tbl Bank := []
  tdesc : Tbl (BitVec 128) := []
  arr : Option MxRun := none
  arrQ : Option MxRun := none
  ro : Option MxRun := none
  roQ : Option MxRun := none
  stat : Word32 := 0
  even : Word32 := 6
  fault : Word := 0
  ceil : Nat := 0
  deriving DecidableEq, Repr

/-! Vector engine (05 R125 to R149) -/

/-- One Sounding register of a vector cluster, with its anchor, valid bit and declared cut (R125). -/
structure SdReg where
  e : SEntry := {}
  b : Bank := {}
  deriving DecidableEq, Repr

/-- A running vector operation: its slot word, what it read at issue, and where it stands (R131, R138, R139). -/
structure VxRun where
  word : Word32
  lsd : Word
  rdesc : Word
  gval : Word
  beat : Nat := 0
  phase : Nat := 0
  shmode : Nat := 0
  hibeat : Nat := 0
  sinv : Bool := false
  sovf : Bool := false
  deferred : Bool := false
  stopReq : Bool := false
  deriving DecidableEq, Repr

structure Vx where
  v : Tbl Word32 := []
  m : Tbl (BitVec 4096) := []
  sd : Tbl SdReg := []
  shadow : Tbl Word32 := []
  optr : Nat := 0
  run : Option VxRun := none
  stat : Word32 := 0
  even : Word32 := 12
  fault : Word := 0
  progress : Word := 0
  heldSinv : Bool := false
  resumeDue : Bool := false
  lsd : Word := 0
  rdesc : Word := 0
  ceil : Nat := 0
  deriving DecidableEq, Repr

/-! Scalar threads (05 R150 to R158) -/

/-- R227: a store-buffer entry: an 8-byte-aligned word, its byte enables and its data. -/
structure SbEntry where
  addr : Nat
  be : BitVec 8
  data : Word
  deriving DecidableEq, Repr

/-- What holds an SX thread (R152, R153). -/
inductive ThrHold where
  | none
  | fence
  | ticket (t : Word)
  | waitc (cycles : Nat)
  deriving DecidableEq, Repr

/-- R150: one thread. `pc` is the offset of the next operation, 4-byte granular within its 16-byte group. -/
structure Thread where
  x : Tbl Word := []
  pc : Nat := 0
  sb : List SbEntry := []
  run : Bool := false
  done : Bool := false
  faulted : Bool := false
  stopPend : Bool := false
  hold : ThrHold := .none
  deriving DecidableEq, Repr

/-- R153: an outstanding gather. -/
structure Gather where
  ticket : Nat
  thread : Nat
  table : Word
  dest : Word
  rows : Nat
  rowBytes : Nat
  idx : Nat
  wide : Bool
  count : Nat
  pc : Nat
  par : Bool := false
  deriving DecidableEq, Repr

structure Sx where
  thr : Tbl Thread := []
  gathers : List Gather := []
  nextTicket : Nat := 0
  lastServed : Nat := 7
  gidx : Bool := false
  fault : Word := 0
  deriving DecidableEq, Repr

/-! Sequencer (06) -/

/-- R169, R170, R174: an outstanding move. `timer` is L, absent under LCLS 31; `expired` after its timer ran out;
`nak` records a NAK (09 R257); `sentBytes` counts the bytes injected so far, `sent` that the last packet has gone, and `ackAt` names the
unit and the count whose acknowledgement covers them (09 R266). -/
structure Move where
  tag : Nat
  mvop : Nat
  lcls : Nat
  cut : Nat
  src : Word
  dst : Word
  length : Nat
  handle : Nat
  count : Nat
  land : Bool
  pc : Nat
  timer : Option Nat
  expired : Bool := false
  nak : Option Nat := none
  sent : Bool := false
  sentBytes : Nat := 0
  ackAt : Option (Nat × Nat) := none
  par : Bool := false
  deriving DecidableEq, Repr

/-- What holds issue of the next bundle (R161, R175, R198, 15 R448). -/
inductive SqHold where
  | none
  | waitc (cycles : Nat)
  | sync (deadline : Word) (expect : Word32) (pc : Nat)
  | yield (id : Nat)
  deriving DecidableEq, Repr

/-- R187: the causes of SQR_CAUSE, by code. -/
inductive Cause where
  | illegalBundle | illegalCount | tileDescInvalid | anchorMismatch | shoalInvalid | soundingOvf | vxSuspended | sxFault
  | schedOverrun | addrSpace | addrBound | lengthBound | handleStale | doorbell | addrAlign
  deriving DecidableEq, Repr

/-- The sequencer (R163, R183 to R189). `pend` holds the asynchronous causes pending, with their sub-codes. `engHold`: the
engines finish what runs and start nothing queued (R181, 08 R226). `startWait`: started, and waiting for the count SQR_EBASE (R184), or for
`startAt` where the scheduler resumed it (15 R449). -/
structure Sqr where
  g : Tbl Word := []
  pc : Nat := 0
  tvec : Nat := 0
  epc : Nat := 0
  causeCode : Nat := 0
  causeSub : Nat := 0
  pend : List (Cause × Nat) := []
  nest : Bool := false
  halted : Bool := false
  inh : Bool := false
  run : Bool := false
  done : Bool := false
  stopPend : Bool := false
  ienDb : Bool := false
  land : Word32 := 0
  ebase : Word := 0
  ovr : Word := 0
  hold : SqHold := .none
  wait : Nat := 0
  moves : List Move := []
  nextTag : Nat := 0
  sb : List SbEntry := []
  engHold : Bool := false
  startWait : Bool := false
  startAt : Nat := 0
  deriving DecidableEq, Repr

/-! Scratchpad (08) -/

/-- R231: a held Weir range. -/
structure WeirEntry where
  base : Nat
  len : Nat
  out : Bool
  owner : Nat
  xfer : Nat
  deriving DecidableEq, Repr

/-- R237: what the scrubber holds for one column in this pass: rows with errors, and the polarity all of them had. -/
structure ColTally where
  rows : List Nat := []
  pol : Bool := false
  mixed : Bool := false
  deriving DecidableEq, Repr

/-- R238: a column repair: `copied` once the copy has run. -/
structure Repair where
  bank : Nat
  sub : Nat
  col : Nat
  spare : Nat
  deriving DecidableEq, Repr

/-- The scratchpad (R218, R224, R231, R237 to R248). `bad` holds, per word (offset / 8), the codeword bits that are
inverted; bits 64 and 65 both inverted alone are poison (R226). `ueSeen` is the model's own count of uncorrected words, each of which is
reported once. -/
structure Spd where
  mem : List Host.Cell := []
  bad : Tbl (BitVec 72) := []
  weir : Tbl WeirEntry := []
  weirWait : List WeirEntry := []
  stall : Nat := 0
  stat : Word32 := 0
  scrubEn : Bool := true
  scrubDiv : Nat := 8
  ceCnt : Nat := 0
  ueCnt : Nat := 0
  ueSeen : Nat := 0
  fault : Word := 0
  passes : Nat := 0
  lines : Tbl Nat := []
  tally : Tbl (Tbl ColTally) := []
  waitCols : List Repair := []
  repair : Option Repair := none
  lastRepair : Word := 0
  steer : List Repair := []
  zNeeded : Bool := false
  zRun : Bool := false
  deriving DecidableEq, Repr

/-- R453: the channel and plot copies of a cluster. -/
structure ClChn where
  cur : Nat := 0
  ytp : Word := 0
  ystat : Nat := 0
  ydl : Word := 0
  pltFault : Word := 0
  pltAddr : Word := 0
  deriving DecidableEq, Repr

/-- One cluster. Which engines it has follows from its number alone (01 R22). -/
structure Cluster where
  mx : Mx := {}
  vx : Vx := {}
  sx : Sx := {}
  sq : Sqr := {}
  spd : Spd := {}
  chn : ClChn := {}
  deriving DecidableEq, Repr

/-- R22: the type of a cluster follows from its suffix: 0 MX, 1 VX, 2 SX (R41). -/
def clusterKind (c : Nat) : Nat := if c % 8 ≤ 4 then 0 else if c % 8 ≤ 6 then 1 else 2

end Sys2Proof.Machine
end

