-- ==== Sys2Proof/Machine/Memory.lean ====
section
/-!
DEFINITION. Byte memories: a list of (address, byte) cells in canonical form, an unlisted address reading 0 (log entry 5).
-/
namespace Sys2Proof.Machine

/-- What an unlisted address reads as: 0. A scratchpad is zeroized after every reset (08 R241), a stack by its start-up
test (11 R333); log entry 5. -/
def Memory.blank : Byte := 0

/-- The byte at address `a`. -/
def Memory.read : List Host.Cell → Nat → Byte
  | [], _ => Memory.blank
  | (k, v) :: t, a => if a = k then v else Memory.read t a

/-- One byte written: the cell is listed only where it differs from what an unlisted address reads as. -/
def Memory.write : List Host.Cell → Nat → Byte → List Host.Cell
  | [], a, b => if b = Memory.blank then [] else [(a, b)]
  | (k, v) :: t, a, b =>
    if a < k then (if b = Memory.blank then (k, v) :: t else (a, b) :: (k, v) :: t)
    else if a = k then (if b = Memory.blank then t else (a, b) :: t)
    else (k, v) :: Memory.write t a b

/-- The canonical form: addresses strictly rising, no cell equal to what an unlisted address reads as. -/
def Memory.wf : List Host.Cell → Bool
  | [] => true
  | [(_, v)] => v != Memory.blank
  | (k, v) :: (k', v') :: t => v != Memory.blank && decide (k < k') && Memory.wf ((k', v') :: t)

/-- `n` bytes from address `a`. -/
def Memory.readN (m : List Host.Cell) (a n : Nat) : List Byte := (span a n).map (Memory.read m)

/-- A byte string written from address `a` upward. -/
def Memory.writeN : List Host.Cell → Nat → List Byte → List Host.Cell
  | m, _, [] => m
  | m, a, b :: t => Memory.writeN (Memory.write m a b) (a + 1) t

end Sys2Proof.Machine
end

