-- ==== Sys2Proof/Machine/Scratchpad.lean ====
section
/-!
DEFINITION. The scratchpad of one cluster: SECDED words, reads and writes by port, the store buffer, Weir ranges, scrubbing,
column repair and zeroization (spec 08).
-/
namespace Sys2Proof.Machine

/-- R218: offsets run below 0x180_0000. -/
def spdSize : Nat := 0x1800000

/-! SECDED (R224) -/

def popcount8 (n : Nat) : Nat := ((List.range 8).map fun i => (n >>> i) % 2).sum

/-- R224: the columns h(0) to h(63): the 56 bytes of weight 3, then the eight smallest of weight 5, both ascending. -/
def eccDataCols : List Nat :=
  (List.range 256).filter (fun n => popcount8 n == 3) ++ ((List.range 256).filter (fun n => popcount8 n == 5)).take 8

/-- R224: the 72 columns of a codeword, data bits first. -/
def eccCols : List Nat := eccDataCols ++ (List.range 8).map fun i => 2 ^ i

/-- The syndrome of a word whose codeword bits in `e` are inverted (the code is linear). -/
def syndrome (e : BitVec 72) : Nat :=
  (eccCols.mapIdx fun i c => if e.getLsbD i then c else 0).foldl Nat.xor 0

/-- R224: how a read decodes a word. -/
inductive Ecc where
  | clean
  | corrected (bit : Nat)
  | uncorrected (synd : Nat)
  deriving DecidableEq, Repr

def eccDecode (e : BitVec 72) : Ecc :=
  let s := syndrome e
  if s = 0 then .clean
  else match findIdx (· == s) eccCols 0 with
    | some (i, _) => .corrected i
    | none => .uncorrected s

/-- R226: the error mask of a poisoned word: check bits 0 and 1 inverted. -/
def poisonMask : BitVec 72 := BitVec.ofNat 72 (3 <<< 64)

/-- The data that leaves a word holding `d` under error mask `e`, as decoded. -/
def eccData (d : Nat) (e : BitVec 72) : Nat :=
  let x := match eccDecode e with
    | .corrected i => e ^^^ BitVec.ofNat 72 (2 ^ i)
    | _ => e
  Nat.xor d (x.toNat % 2 ^ 64)

/-- R246: SPD_FAULT as first recorded. -/
def Spd.recordFault (s : Spd) (code port synd off : Nat) : Spd :=
  if s.fault.getLsbD 63 then s
  else { s with fault := BitVec.ofNat 64 (2 ^ 63 + fld 48 code + fld 40 0 + fld 44 port + fld 36 synd + (off - off % 8) % 2 ^ 25) }

/-- R224, R245: a corrected word is counted and flagged. -/
def Spd.noteCe (s : Spd) : Spd := { s with stat := s.stat ||| 2, ceCnt := satAdd 0xFFFFFFFF s.ceCnt 1 }

/-- R226: the records made for an uncorrected word. -/
def Spd.noteUe (s : Spd) (port synd off : Nat) : Spd :=
  ({ s with stat := s.stat ||| 4, ueCnt := satAdd 0xFFFFFFFF s.ueCnt 1, ueSeen := s.ueSeen + 1 }).recordFault 1 port synd off

/-- The stored data bits of word `w`, without its errors. -/
def Spd.rawWord (s : Spd) (w : Nat) : Nat := leNat (Memory.readN s.mem (8 * w) 8)

/-- A word read by a port: its data as decoded, whether it is uncorrected, and the records made (R224, R226). -/
def Spd.readWord (s : Spd) (port w : Nat) : Nat × Bool × Spd :=
  let e := Tbl.get 0 s.bad w
  let d := eccData (s.rawWord w) e
  match eccDecode e with
  | .clean => (d, false, s)
  | .corrected _ => (d, false, s.noteCe)
  | .uncorrected y => (d, true, s.noteUe port y (8 * w))

/-- Words read in ascending order: the data, one uncorrected flag a word, and the scratchpad after. -/
def Spd.readWords (s : Spd) (port : Nat) : List Nat → List (Nat × Bool) × Spd
  | [] => ([], s)
  | w :: t =>
    let (d, ue, s1) := s.readWord port w
    let (r, s2) := Spd.readWords s1 port t
    ((d, ue) :: r, s2)

/-- The words that `len` bytes at `off` touch. -/
def wordsOf (off len : Nat) : List Nat := if len = 0 then [] else span (off / 8) ((off + len - 1) / 8 + 1 - off / 8)

/-- A byte with its poison mark (R226, port 1). -/
abbrev PByte := Byte × Bool

/-- The offsets of the marked bytes. -/
def poisonedAt (bs : List PByte) : List Nat := (List.range bs.length).filter fun i => ((bs[i]?).map (·.2)).getD false

/-- What a read of bytes gives: the bytes with their marks, whether any word was uncorrected, and the scratchpad after. -/
structure SpdRead where
  bytes : List PByte
  ue : Bool
  spd : Spd
  deriving DecidableEq, Repr

/-- R224, R226: `len` bytes read at `off` by a port. -/
def Spd.read (s : Spd) (port off len : Nat) : SpdRead :=
  let (ws, s') := s.readWords port (wordsOf off len)
  let all := (ws.map fun (d, ue) => (leBytes 8 d).map fun b => (b, ue)).flatten
  ⟨(all.drop (off % 8)).take len, ws.any (·.2), s'⟩

/-- Several extents read in order by a port: each with its offset, and the scratchpad after. -/
def Spd.readExtents (s : Spd) (port : Nat) : List (Nat × Nat) → List (Nat × List PByte) × Spd
  | [] => ([], s)
  | (o, n) :: t =>
    let r := s.read port o n
    let (bs, s1) := Spd.readExtents r.spd port t
    ((o, r.bytes) :: bs, s1)

/-- The same bytes as a little-endian number. -/
def SpdRead.nat (r : SpdRead) : Nat := leNat (r.bytes.map (·.1))

/-- R225, R226: one word written by a port with the bytes `bs` from byte `at_` of the word; answers whether the
read-modify-write met an uncorrected word. -/
def Spd.writeWord (s : Spd) (port w at_ : Nat) (bs : List PByte) : Bool × Spd :=
  let psn := bs.any (·.2)
  if at_ = 0 ∧ bs.length = 8 then
    (false, { s with mem := Memory.writeN s.mem (8 * w) (bs.map (·.1)),
                     bad := if psn then Tbl.set s.bad w poisonMask else Tbl.erase s.bad w })
  else
    let (d, ue, s1) := s.readWord port w
    let m1 := Memory.writeN s1.mem (8 * w) (leBytes 8 d)
    (ue, { s1 with mem := Memory.writeN m1 (8 * w + at_) (bs.map (·.1)),
                   bad := if psn || ue then Tbl.set s1.bad w poisonMask else Tbl.erase s1.bad w })

/-- R225: a word merged inside its bank by port 2: it is read and corrected, the bytes given are put in, and it is written back, poisoned
where the read was uncorrected. -/
def Spd.mergeWord (s : Spd) (w : Nat) (new : List (Option Byte)) : Bool × Spd :=
  let (d, ue, s1) := s.readWord 2 w
  (ue, { s1 with mem := Memory.writeN s1.mem (8 * w) ((leBytes 8 d).mapIdx fun i b => ((new[i]?).join).getD b)
                 bad := if ue then Tbl.set s1.bad w poisonMask else Tbl.erase s1.bad w })

/-- R225, 07 R201: `n` bytes within one word read and replaced at the bank (ports 4 and 5): the old value, whether the word was
uncorrected, and the scratchpad after. -/
def Spd.swap (s : Spd) (ad n : Nat) (f : Nat → Nat) : Nat × Bool × Spd :=
  let w := ad / 8
  let (d, ue, s1) := s.readWord 4 w
  let old := (d >>> (8 * (ad % 8))) % 2 ^ (8 * n)
  (old, ue, { s1 with mem := Memory.writeN (Memory.writeN s1.mem (8 * w) (leBytes 8 d)) ad (leBytes n (f old))
                      bad := if ue && n != 8 then Tbl.set s1.bad w poisonMask else Tbl.erase s1.bad w })

/-- R224: a word rewritten with its data as decoded: a miscorrected word keeps its wrong bits, with correct check bits. -/
def Spd.storeDecoded (s : Spd) (w : Nat) : Spd :=
  { s with mem := Memory.writeN s.mem (8 * w) (leBytes 8 (eccData (s.rawWord w) (Tbl.get 0 s.bad w))), bad := Tbl.erase s.bad w }

/-- The words of a write in ascending order; `fuel` bounds their number. -/
def Spd.writeFrom (s : Spd) (port off : Nat) (bs : List PByte) : Nat → Bool × Spd
  | 0 => (false, s)
  | fuel + 1 =>
    if bs.isEmpty then (false, s) else
    let n := 8 - off % 8
    let (u1, s1) := s.writeWord port (off / 8) (off % 8) (bs.take n)
    let (u2, s2) := Spd.writeFrom s1 port (off + n) (bs.drop n) fuel
    (u1 || u2, s2)

/-- R225: bytes written at `off` by a port; the flag tells an uncorrected word met by a read-modify-write. -/
def Spd.writeP (s : Spd) (port off : Nat) (bs : List PByte) : Bool × Spd := s.writeFrom port off bs (bs.length + 1)

/-- An engine's write (port 2): whole 8-byte words, the bytes of the last word beyond the area written 0 (04 R115). -/
def Spd.writeWhole (s : Spd) (off : Nat) (bs : List Byte) : Spd :=
  let pad := (8 - (off + bs.length) % 8) % 8
  (s.writeP 2 off ((bs ++ List.replicate pad 0).map fun b => (b, false))).2

/-! The Weir scoreboard (R231 to R235) -/

/-- Two byte extents share a byte. -/
def overlaps (a la b lb : Nat) : Bool := decide (0 < la ∧ 0 < lb ∧ a < b + lb ∧ b < a + la)

/-- An extent that a local operation touches: offset, length, and whether it writes. -/
structure Extent where
  off : Nat
  len : Nat
  wr : Bool
  deriving DecidableEq, Repr

/-- R233: a held range stalls an extent: an IN range any access, an OUT range a write. -/
def WeirEntry.blocks (w : WeirEntry) (x : Extent) : Bool := overlaps w.base w.len x.off x.len && (!w.out || x.wr)

/-- R233, R242: some held range stalls one of the extents, or the scratchpad is being zeroized and holds every request. -/
def Spd.weirStalls (s : Spd) (xs : List Extent) : Bool := (s.weir.any fun (_, w) => xs.any w.blocks) || (s.zRun && !xs.isEmpty)

/-- R248: a core cycle of issue held by a Weir range is counted; one held by zeroization is not. -/
def Spd.noteStall (s : Spd) : Spd := if s.zRun then s else { s with stall := satAdd 0xFFFFFFFF s.stall 1 }

/-- R232, R242: a request can be granted: an entry is free, no local operation in progress forbids its extent, and no zeroization runs. -/
def Spd.canGrant (s : Spd) (busy : List Extent) (w : WeirEntry) : Bool :=
  decide (s.weir.length < 16) && !(busy.any w.blocks) && !s.zRun

/-- R232: the request enters the lowest free entry (which entry: log entry 12). -/
def Spd.grant (s : Spd) (w : WeirEntry) : Spd :=
  match Tbl.lowestFree s.weir 0 16 with
  | some n => { s with weir := Tbl.set s.weir n w }
  | none => s

/-- R231: a transfer with an extent asks for its range; a transfer of length 0 asks for nothing. -/
def Spd.request (s : Spd) (w : WeirEntry) : Spd := if w.len = 0 then s else { s with weirWait := s.weirWait ++ [w] }

/-- R231: the ranges of transfer `x` of an owner are released. -/
def Spd.release (s : Spd) (owner x : Nat) : Spd :=
  { s with weir := s.weir.filter fun (_, w) => !(w.owner == owner && w.xfer == x) }

/-- The transfer holds its range. -/
def Spd.holds (s : Spd) (owner x : Nat) : Bool := s.weir.any fun (_, w) => w.owner == owner && w.xfer == x

/-! Store buffers (R227, R228) -/

/-- R227: the entries of a store of `n` bytes of `v` at `off`: one a word. -/
def sbEntries (off n v : Nat) : List SbEntry :=
  (wordsOf off n).map fun w =>
    let lo := Nat.max off (8 * w)
    let hi := Nat.min (off + n) (8 * w + 8)
    ⟨8 * w, BitVec.ofNat 8 ((2 ^ (hi - lo) - 1) <<< (lo - 8 * w)), BitVec.ofNat 64 (((v >>> (8 * (lo - off))) % 2 ^ (8 * (hi - lo))) <<< (8 * (lo - 8 * w)))⟩

/-- The bytes that an entry enables, as an overlap test with `n` bytes at `off`. -/
def SbEntry.hits (e : SbEntry) (off n : Nat) : Bool :=
  (List.range 8).any fun i => e.be.getLsbD i && decide (off ≤ e.addr + i ∧ e.addr + i < off + n)

/-- The entry enables every one of `n` bytes at `off`. -/
def SbEntry.covers (e : SbEntry) (off n : Nat) : Bool :=
  (span off n).all fun a => decide (e.addr ≤ a ∧ a < e.addr + 8) && e.be.getLsbD (a - e.addr)

/-- R228: what a load meets in its own store buffer. -/
inductive SbHit where
  | miss
  | forward (v : Nat)
  | stall
  deriving DecidableEq, Repr

def sbLookup (sb : List SbEntry) (off n : Nat) : SbHit :=
  match sb.reverse.find? (fun e => e.hits off n) with
  | none => .miss
  | some e => if e.covers off n then .forward ((e.data.toNat >>> (8 * (off - e.addr))) % 2 ^ (8 * n)) else .stall

/-- R225, R227: one entry written at its bank, whole or by read-modify-write (port 5 in R246's numbering). The enabled
bytes of an entry are contiguous. -/
def Spd.drain (s : Spd) (e : SbEntry) : Bool × Spd :=
  match (List.range 8).filter (fun i => e.be.getLsbD i) with
  | [] => (false, s)
  | i :: t => s.writeP 5 (e.addr + i) ((((leBytes 8 e.data.toNat).drop i).take (t.length + 1)).map fun b => (b, false))

/-! Zeroization (R241, R242) -/

/-- R242 steps 1 to 3: all-zero data with correct check bits; the Weir entries and scrub tallies cleared. A request that waits for its range
stays (none is granted meanwhile, R232). -/
def Spd.zeroize (s : Spd) : Spd :=
  { s with mem := [], bad := [], weir := [], tally := [], zRun := false, zNeeded := false }

end Sys2Proof.Machine
end

