-- ==== Sys2Proof/Machine/ClusterOps.lean ====
section
/-!
DEFINITION. Operations on one cluster that its engines share: scratchpad access with the effects of an uncorrected word,
pending causes, and the records of the fault registers (spec 06 R178 to R187, 08 R226).
-/
namespace Sys2Proof.Machine

/-- R187: the code of a cause. -/
def Cause.code : Cause → Nat
  | .illegalBundle => 1 | .illegalCount => 2 | .tileDescInvalid => 3 | .anchorMismatch => 4 | .shoalInvalid => 5
  | .soundingOvf => 6 | .vxSuspended => 7 | .sxFault => 8 | .schedOverrun => 9 | .addrSpace => 10 | .addrBound => 11
  | .lengthBound => 12 | .handleStale => 13 | .doorbell => 14 | .addrAlign => 15

/-- R179: the order in which causes pending at one issue point are entered (issue-time refusals, order 2, are never pending). -/
def Cause.order : Cause → Nat
  | .schedOverrun => 3
  | .addrSpace => 4 | .addrBound => 4 | .lengthBound => 4 | .handleStale => 4 | .addrAlign => 4
  | .soundingOvf => 5 | .shoalInvalid => 5 | .anchorMismatch => 5 | .sxFault => 5
  | .doorbell => 6
  | .illegalBundle => 2 | .illegalCount => 2 | .tileDescInvalid => 2 | .vxSuspended => 2

/-- R179, R187: a cause becomes pending; PEND has one bit a code, so a code already pending keeps its first sub-code. -/
def Sqr.pendCause (q : Sqr) (k : Cause) (sub : Nat) : Sqr :=
  if q.pend.any (fun p => p.1 == k) then q else { q with pend := q.pend ++ [(k, sub)] }

def Cluster.pendCause (c : Cluster) (k : Cause) (sub : Nat) : Cluster := { c with sq := c.sq.pendCause k sub }

/-- R226: the Lockkeeper stops the cluster at its next issue point, and every thread of an SX cluster; the engines start
nothing queued. -/
def Cluster.stopAll (c : Cluster) : Cluster :=
  { c with sq := { c.sq with stopPend := c.sq.stopPend || c.sq.run, engHold := true },
           sx := { c.sx with thr := c.sx.thr.map fun (t, h) => (t, { h with stopPend := h.stopPend || h.run }) } }

/-- The error-free effect of a read: the bytes as decoded, without the records (used for checks made at issue). -/
def Spd.peek (s : Spd) (off len : Nat) : List Byte := (s.read 0 off len).bytes.map (·.1)

/-- R224, R226: a read by one of the ports 2 to 6: an uncorrected word stops the cluster. -/
def Cluster.rd (c : Cluster) (port off len : Nat) : List Byte × Cluster :=
  let r := c.spd.read port off len
  let c' := { c with spd := r.spd }
  (r.bytes.map (·.1), if r.ue then c'.stopAll else c')

/-- 08 R224: a combine refused at issue by what its group header holds has read that header. -/
def Cluster.headerRead (k : Cluster) (cause : Cause) (sub : Nat) (header : Option Nat) : Cluster :=
  match header with
  | some off => if (cause = .tileDescInvalid ∧ sub = 8) ∨ (cause = .anchorMismatch ∧ (sub = 1 ∨ sub = 2)) then (k.rd 3 off 8).2 else k
  | none => k

/-- Several extents read in order, as one byte string. -/
def Cluster.rdAll (c : Cluster) (port : Nat) : List (Nat × Nat) → List Byte × Cluster
  | [] => ([], c)
  | (o, n) :: t =>
    let (b, c1) := c.rd port o n
    let (bs, c2) := Cluster.rdAll c1 port t
    (b ++ bs, c2)

/-- A write by port 2 or 5 that may merge a partial word. -/
def Cluster.wr (c : Cluster) (port off : Nat) (bs : List Byte) : Cluster :=
  let (ue, s) := c.spd.writeP port off (bs.map fun b => (b, false))
  let c' := { c with spd := s }
  if ue then c'.stopAll else c'

/-- An engine's write of whole words (R225). -/
def Cluster.wrWhole (c : Cluster) (off : Nat) (bs : List Byte) : Cluster := { c with spd := c.spd.writeWhole off bs }

/-- R122: MXE_FAULT holds the first fault recorded. -/
def Mx.record (x : Mx) (code sub entry off : Nat) : Mx :=
  if x.fault.getLsbD 63 then x
  else { x with fault := BitVec.ofNat 64 (2 ^ 63 + fld 48 code + fld 40 sub + fld 25 entry + off % 2 ^ 25) }

/-- R145: VXE_FAULT holds the first fault recorded. -/
def Vx.record (x : Vx) (code op : Nat) : Vx :=
  if x.fault.getLsbD 63 then x else { x with fault := BitVec.ofNat 64 (2 ^ 63 + fld 48 code + op % 2 ^ 32) }

/-- R120: the sticky bits of MXE_STAT that a set of flags sets. -/
def Flags.mxe (f : Flags) : Word32 :=
  BitVec.ofNat 32 (flg 6 f.oovf + flg 5 f.ivld + flg 4 f.infi + flg 3 f.nani + flg 2 f.sinv + flg 1 f.sovf)

/-- R143: the sticky bits of VXE_STAT that a set of flags sets. -/
def Flags.vxe (f : Flags) : Word32 :=
  BitVec.ofNat 32 (flg 8 f.dz + flg 7 f.oovf + flg 6 f.ivld + flg 5 f.infi + flg 4 f.nani + flg 3 f.sinv + flg 2 f.sovf)

/-- Flags of a list of elements together. -/
def Flags.all (fs : List Flags) : Flags := fs.foldl Flags.or {}

/-- R163: a sequencer's g register. -/
def Sqr.gpr (q : Sqr) (r : Nat) : Word := Tbl.get 0 q.g r
def Sqr.setG (q : Sqr) (r : Nat) (v : Word) : Sqr := { q with g := Tbl.set q.g r v }

/-- R109: a tile descriptor. -/
def Mx.td (x : Mx) (t : Nat) : BitVec 128 := Tbl.get 0 x.tdesc t

end Sys2Proof.Machine
end

