-- ==== Sys2Proof/Machine/MatrixCore.lean ====
section
/-!
DEFINITION. The matrix engine of one cluster: descriptors, issue checks, the product array and the read-out unit (spec 04).
-/
namespace Sys2Proof.Machine

/-- R109: an operand descriptor. -/
structure OpDesc where
  fmt : Nat
  ceil : Nat
  rows : Nat
  stripe : Nat
  pitch : Nat
  base : Nat
  sbase : Nat
  spitch : Nat
  kred : Nat
  deriving DecidableEq, Repr

def opDesc (t : BitVec 128) : OpDesc :=
  ⟨bits t 127 124, bits t 123 116, bits t 115 108 + 1, 2 ^ bits t 107 106, bits t 105 94, bits t 93 75 * 64,
   bits t 74 50, bits t 49 34, bits t 33 3 + 1⟩

/-- R113: a read-out descriptor. -/
structure RoDesc where
  ofmt : Nat
  sat : Bool
  bias : Bool
  bfmt : Nat
  rows : Nat
  cols : Nat
  stripe : Nat
  pitch : Nat
  base : Nat
  sbase : Nat
  spitch : Nat
  biasAddr : Nat
  deriving DecidableEq, Repr

def roDesc (t : BitVec 128) : RoDesc :=
  ⟨bits t 127 124, bit t 123, bit t 122, if bit t 121 then 2 else 0, bits t 119 113 + 1, bits t 112 107 + 1,
   2 ^ bits t 106 105, bits t 104 93, bits t 92 71 * 8, bits t 70 46, bits t 45 30, bits t 29 5⟩

/-- R109, R114: where row `r` of a striped area begins. -/
def rowAt (base stripe pitch r : Nat) : Nat := base + (r % stripe) * 0x40000 + (r / stripe) * pitch * 64

/-- Scale blocks that `n` elements of a format use. -/
def nBlocks (fmt n : Nat) : Nat := cdiv n (blockLen fmt)

/-- R99: the largest K of a pair of formats; none for a pair the product array does not accept. -/
def pairKMax (fa fb : Nat) : Option Nat :=
  if fb = 9 then (if 3 ≤ fa ∧ fa ≤ 7 then some 4096 else none)
  else if 3 ≤ fa ∧ fa ≤ 7 ∧ 3 ≤ fb ∧ fb ≤ 7 then some 4096
  else if fa = 8 ∧ fb = 8 then some 4096
  else if fa = 2 ∧ fb = 2 then some 1024
  else if fa = 1 ∧ fb = 1 then some 1024
  else if fa = 0 ∧ fb = 0 then some 128
  else none

/-- R99: the k-step cycles of an operation of length K. -/
def kstepCycles (fa fb k : Nat) : Nat :=
  if fb = 9 then (if fa = 7 then cdiv k 4 else cdiv k 2)
  else if fa = 7 ∧ fb = 7 then cdiv k 2
  else if fa = 1 ∨ fa = 2 then 4 * k else if fa = 0 then 32 * k else k

/-- R109: an operand's extents for K elements a row lie within its banks and its scale plane below the end. -/
def opExtentOk (d : OpDesc) (k : Nat) : Bool :=
  decide (d.base / 0x40000 + d.stripe - 1 ≤ 95) &&
  decide (d.base % 0x40000 + ((d.rows - 1) / d.stripe) * d.pitch * 64 + rowBytes d.fmt k ≤ 0x40000) &&
  (!isScaled d.fmt || decide (d.sbase + (d.rows - 1) * d.spitch + nBlocks d.fmt k ≤ spdSize))

/-- R96: the banks that M rows from ACCB touch. -/
def banksOf (accb rows : Nat) : List Nat := span accb (cdiv rows 32)

def MxOp.banks : MxOp → List Nat
  | .mma ta _ accb _ _ => banksOf accb (opDesc ta).rows
  | .mread td accb => banksOf accb (roDesc td).rows
  | .mspill td accb _ => banksOf accb (roDesc td).rows
  | .mcomb td accb _ _ => banksOf accb (roDesc td).rows

/-- R76, R77, R104: the anchor that an MMA's descriptors give. -/
def mmaAnchor (ta tb : BitVec 128) : Int :=
  let a := opDesc ta
  let b := opDesc tb
  anchorOf (unbiasedCeil a.fmt a.ceil) (unbiasedCeil b.fmt b.ceil) a.kred

def Mx.bank (x : Mx) (b : Nat) : Bank := Tbl.get {} x.banks b

/-- The operations in the engine, in issue order within each unit. -/
def Mx.ops (x : Mx) : List MxRun := x.arr.toList ++ x.arrQ.toList ++ x.ro.toList ++ x.roQ.toList

/-- What an operation not yet done will leave of a bank's anchor and cut (R104, R117); operations of one unit reach a bank
in issue order (R108), so a check at issue sees the bank as the earlier ones will leave it (DEDUCED, log entry 13). -/
def MxRun.leaves (o : MxRun) (b : Nat) (k : Bank) : Bank :=
  match o.op with
  | .mma ta tb _ true _ => if !o.started && o.op.banks.contains b then ⟨mmaAnchor ta tb, true, none⟩ else k
  | .mcomb _ _ cut _ => if o.op.banks.contains b then { k with cut := some cut } else k
  | _ => k

def Mx.effBank (x : Mx) (b : Nat) : Bank := x.ops.foldl (fun k o => o.leaves b k) (x.bank b)

/-- A refusal at issue: the cause, its sub-code. -/
abbrev Refuse := Option (Cause × Nat)

/-- The first failing check of a list decides (R107, R621). -/
def firstFail : List (Bool × Cause × Nat) → Refuse
  | [] => none
  | (ok, k, s) :: t => if ok then firstFail t else some (k, s)

/-- R107: the checks of an MMA. -/
def mmaRefuse (x : Mx) (ta tb : BitVec 128) (accb : Nat) (opens : Bool) (km1 : Nat) : Refuse :=
  let a := opDesc ta
  let b := opDesc tb
  let k := km1 + 1
  let bs := banksOf accb a.rows
  firstFail [
    (decide (a.fmt ≤ 9 ∧ b.fmt ≤ 9), .tileDescInvalid, 1),
    ((pairKMax a.fmt b.fmt).isSome, .tileDescInvalid, 2),
    (decide (k ≤ (pairKMax a.fmt b.fmt).getD 0), .tileDescInvalid, 3),
    (decide (b.rows ≤ 64), .tileDescInvalid, 4),
    (decide (accb + cdiv a.rows 32 ≤ 4), .tileDescInvalid, 6),
    (opExtentOk a k && opExtentOk b k, .tileDescInvalid, 5),
    (opens || bs.all (fun i => (x.effBank i).valid), .anchorMismatch, 3),
    (opens || bs.all (fun i => (x.effBank i).cut.isNone), .anchorMismatch, 4),
    (opens || bs.all (fun i => (x.effBank i).anchor == mmaAnchor ta tb), .anchorMismatch, 1)]

/-- R116, R118: the bytes of a word area: the words, after a group header for c > 0. -/
def areaBytes (cut n : Nat) : Nat := if cut = 0 then 24 * n else 8 + wordBytes cut * n

/-- R114, R115: the extents of an MREAD's output, scale plane and bias. -/
def mreadExtents (d : RoDesc) : List Extent :=
  ((List.range d.rows).map fun r => ⟨rowAt d.base d.stripe d.pitch r, cdiv (rowBytes d.ofmt d.cols) 8 * 8, true⟩) ++
  (if isMx d.ofmt then (List.range d.rows).map fun r => ⟨d.sbase + r * d.spitch, nBlocks d.ofmt d.cols, true⟩ else []) ++
  (if d.bias then [⟨d.biasAddr, d.cols * (if d.bfmt = 0 then 4 else 2), false⟩] else [])

/-- R108, R233: the extents of a matrix-slot operation in its own scratchpad. -/
def MxOp.extents : MxOp → List Extent
  | .mma ta tb _ _ km1 =>
    ([opDesc ta, opDesc tb].map fun d =>
      ((List.range d.rows).map fun r => (⟨rowAt d.base d.stripe d.pitch r, rowBytes d.fmt (km1 + 1), false⟩ : Extent)) ++
      (if isScaled d.fmt then (List.range d.rows).map fun r => (⟨d.sbase + r * d.spitch, nBlocks d.fmt (km1 + 1), false⟩ : Extent) else [])).flatten
  | .mread td _ => mreadExtents (roDesc td)
  | .mspill td _ cut => let d := roDesc td; [⟨d.base, cdiv (areaBytes cut (d.rows * d.cols)) 8 * 8, true⟩]
  | .mcomb td _ cut _ => let d := roDesc td; [⟨d.base, areaBytes cut (d.rows * d.cols), false⟩]

/-- R90: a group header: anchor, cut, special, count. -/
structure GroupHdr where
  anchor : Int
  cut : Nat
  special : Nat
  count : Nat
  deriving DecidableEq, Repr

def decGroup (bs : List Byte) : GroupHdr :=
  let n := leNat bs
  ⟨sext 16 n, (n >>> 16) % 256, (n >>> 24) % 256, (n >>> 32) % 65536⟩

def encGroup (h : GroupHdr) : List Byte :=
  leBytes 8 (lowBits 16 h.anchor + h.cut * 2 ^ 16 + h.special * 2 ^ 24 + (h.count % 65536) * 2 ^ 32)

/-- R117 step 2: a bank's declared cut agrees with a combine at cut c. -/
def cutAgrees (k : Bank) (c : Nat) (cutself : Bool) : Bool :=
  match k.cut with
  | none => c == 0 || cutself
  | some d => d == c

/-- R621: the checks of a read-out operation. -/
def roRefuse (x : Mx) (spd : Spd) (op : MxOp) : Refuse :=
  let extOk := op.extents.all fun e => decide (e.off + e.len ≤ spdSize)
  let bs := op.banks
  let valid := bs.all fun i => (x.effBank i).valid
  match op with
  | .mma .. => none
  | .mread td accb =>
    let d := roDesc td
    firstFail [
      (decide (d.ofmt ≤ 8), .tileDescInvalid, 7),
      (decide (accb + cdiv d.rows 32 ≤ 4), .tileDescInvalid, 6),
      (extOk, .tileDescInvalid, 5),
      (valid, .anchorMismatch, 3)]
  | .mspill td accb cut =>
    let d := roDesc td
    firstFail [
      (decide (accb + cdiv d.rows 32 ≤ 4), .tileDescInvalid, 6),
      (extOk, .tileDescInvalid, 5),
      (valid, .anchorMismatch, 3),
      (cut == 0 || bs.all (fun i => (x.effBank i).anchor == (x.effBank accb).anchor), .anchorMismatch, 1)]
  | .mcomb td accb cut cutself =>
    let d := roDesc td
    let h := decGroup (spd.peek d.base 8)
    firstFail [
      (decide (accb + cdiv d.rows 32 ≤ 4), .tileDescInvalid, 6),
      (extOk, .tileDescInvalid, 5),
      (valid, .anchorMismatch, 3),
      (cut == 0 || h.cut == cut, .anchorMismatch, 2),
      (cut == 0 || h.count == d.rows * d.cols, .tileDescInvalid, 8),
      (cut == 0 || bs.all (fun i => (x.effBank i).anchor == h.anchor), .anchorMismatch, 1),
      (bs.all (fun i => cutAgrees (x.effBank i) cut cutself), .anchorMismatch, 2)]

/-! The matrix slot (06 R167) -/

/-- R167, R171: a matrix slot's decoding: NOP, an ILLEGAL_BUNDLE sub-code, or an operation. -/
inductive MSlot where
  | nop
  | illegal (sub : Nat)
  | op (o : MxOp)
  deriving DecidableEq, Repr

/-- R167, R216: the matrix slot decoded, tile descriptors read from `x`. -/
def decMatrix (x : Mx) (w : Word32) : MSlot :=
  let mop := bits w 31 28
  let accb := bits w 19 18
  let cut := bits w 17 15
  if w = 0 then .nop
  else if mop = 0 then .illegal 6
  else if mop ≥ 5 then .illegal 2
  else if bits w 4 0 ≠ 0 then .illegal 6
  else if mop = 1 then .op (.mma (x.td (bits w 27 24)) (x.td (bits w 23 20)) accb (bit w 17) (bits w 16 5))
  else
    let td := x.td (bits w 27 24)
    let zeros := bits w 23 20 ≠ 0 ∨ bits w 13 5 ≠ 0 ∨ (mop ≠ 4 ∧ bit w 14) ∨ (mop = 2 ∧ bits w 17 15 ≠ 0)
    if zeros then .illegal 6
    else if mop ≠ 2 ∧ cut ≥ 5 then .illegal 7
    else if mop = 2 then .op (.mread td accb)
    else if mop = 3 then .op (.mspill td accb (cutOf cut))
    else .op (.mcomb td accb (cutOf cut) (bit w 14))

/-- R107, R621: the refusal of a matrix-slot operation at issue. -/
def mxRefuse (x : Mx) (spd : Spd) : MxOp → Refuse
  | .mma ta tb accb opens km1 => mmaRefuse x ta tb accb opens km1
  | o => roRefuse x spd o

/-- R107, R122: a refused operation records MXE_FAULT; ENTRY and OFFSET are 0, for an MCOMB refused with ANCHOR_MISMATCH too (log
entry 68). -/
def Mx.recordRefusal (x : Mx) (k : Cause) (sub : Nat) : Mx := x.record (if k = .tileDescInvalid then 1 else 2) sub 0 0
def Cluster.refuseMx (k : Cluster) (cause : Cause) (sub : Nat) : Cluster := { k with mx := k.mx.recordRefusal cause sub }

/-- R117: where the group header of an MCOMB lies, if its words have one. -/
def MxOp.header : MxOp → Option Nat
  | .mcomb td _ cut _ => if cut = 0 then none else some (roDesc td).base
  | _ => none

/-- R100, R108: issue is held: both places of the unit occupied, or an operation of the other unit still uses a bank that
this one would write. -/
def mxHeld (x : Mx) (o : MxOp) : Bool :=
  let share (r : MxRun) : Bool := r.op.banks.any fun b => o.banks.contains b
  match o with
  | .mma .. => x.arrQ.isSome || (x.ro.toList ++ x.roQ.toList).any share
  | .mcomb .. => x.roQ.isSome || (x.arr.toList ++ x.arrQ.toList).any share
  | _ => x.roQ.isSome

/-- R100: the operation takes a place of its unit. -/
def mxIssue (x : Mx) (o : MxOp) : Mx :=
  match o with
  | .mma .. => if x.arr.isNone then { x with arr := some ⟨o, false⟩ } else { x with arrQ := some ⟨o, false⟩ }
  | _ => if x.ro.isNone then { x with ro := some ⟨o, false⟩ } else { x with roQ := some ⟨o, false⟩ }

/-! The product array -/

/-- R104 steps 1 to 4: a bank opened. -/
def Mx.openBank (x : Mx) (a : Int) (b : Nat) : Mx :=
  { x with banks := Tbl.set x.banks b ⟨a, true, none⟩,
           acc := x.acc.filter fun (i, _) => decide (i < b * 2048 ∨ b * 2048 + 2048 ≤ i) }

/-- R101: the running MMA starts its first k-step; with OPEN it opens its banks. -/
def Mx.startMma (x : Mx) : Mx :=
  match x.arr with
  | some ⟨.mma ta tb accb opens km1, false⟩ =>
    let x' := { x with arr := some ⟨.mma ta tb accb opens km1, true⟩ }
    if opens then (banksOf accb (opDesc ta).rows).foldl (fun y b => y.openBank (mmaAnchor ta tb) b) x' else x'
  | _ => x

/-- R112, R211: the term that a pair of elements contributes, with the flags it sets. -/
def prodTerm (p q : FVal) : FVal × Flags :=
  if p.isNan || q.isNan then (.nan, { nani := true, infi := p.isInf || q.isInf })
  else if (p.isInf && q.isZero) || (p.isZero && q.isInf) then (.nan, { infi := true, ivld := true })
  else if p.isInf || q.isInf then (p.mul q, { infi := true })
  else (p.mul q, {})

/-- R106: an operand row for K elements: its element bytes, fetched in whole 64-byte lines, and its scale bytes as numbers, read on
port 3. Of the scale plane only the words that hold the scales used are read (DESIGN CHOICE, log entry 77). -/
def Cluster.opRow (c : Cluster) (d : OpDesc) (k r : Nat) : (Nat × Nat) × Cluster :=
  let n := rowBytes d.fmt k
  let a := rowAt d.base d.stripe d.pitch r
  let (lines, c1) := c.rd 3 (a / 64 * 64) (cdiv (a % 64 + n) 64 * 64)
  let eb := (lines.drop (a % 64)).take n
  if isScaled d.fmt then
    let (sb, c2) := c1.rd 3 (d.sbase + r * d.spitch) (nBlocks d.fmt k)
    ((leNat eb, leNat sb), c2)
  else ((leNat eb, 0), c1)

/-- All rows of an operand, in order. -/
def Cluster.opRows (c : Cluster) (d : OpDesc) (k : Nat) : List Nat → List (Nat × Nat) × Cluster
  | [] => ([], c)
  | r :: t =>
    let (v, c1) := c.opRow d k r
    let (vs, c2) := Cluster.opRows c1 d k t
    (v :: vs, c2)

/-- R60, R106: the offset of the first invalid Shoal byte among rows that hold K weights each. Which of several is first the spec does not
say: row by row, then byte by byte (log entry 68). -/
def firstInvalid (d : OpDesc) (k : Nat) (rows : List (Nat × Nat)) : Option Nat :=
  if d.fmt ≠ 9 then none else
  ((rows.mapIdx fun r (row, _) =>
    ((List.range (cdiv k 5)).filter fun j => shoalInvalid (row >>> (8 * j))).map fun j =>
      rowAt d.base d.stripe d.pitch r + j).flatten).head?

/-- R96: the entry index of tile entry (r, n). -/
def entryIx (accb r n : Nat) : Nat := (accb + r / 32) * 2048 + (r % 32) * 64 + n

/-- The indices (r, n) of a tile in row-major order. -/
def tileIxs (rows cols : Nat) : List (Nat × Nat) :=
  ((List.range rows).map fun r => (List.range cols).map fun n => (r, n)).flatten

/-- R103: one entry's products added as one operation. -/
def mmaEntry (x : Mx) (fl : Flags) (a : Int) (ix : Nat) (ts : List (FVal × Flags)) : Mx × Flags :=
  let (e, ov) := (Tbl.get {} x.acc ix).addTerms a (ts.map (·.1))
  let x1 := { x with acc := Tbl.set x.acc ix e }
  (if ov then x1.record 4 0 ix 0 else x1, (fl.or (Flags.all (ts.map (·.2)))).or { sovf := ov })

/-- R121: the events that a completed operation's flags raise. -/
def Cluster.mxeEvents (c : Cluster) (f : Flags) : Cluster :=
  let c1 := if f.sovf && c.mx.even.getLsbD 1 then c.pendCause .soundingOvf 0 else c
  if f.sinv && c.mx.even.getLsbD 2 then c1.pendCause .shoalInvalid 0 else c1

/-- R100, R103 to R108: the running MMA's last k-step: every product added, flags and events set, the queued operation
moved up. The first fault of several: an invalid Shoal byte before an overflow, overflows in row-major order (log entry 68). -/
def Cluster.finishMma (c : Cluster) : Cluster :=
  match c.mx.arr with
  | some ⟨.mma ta tb accb _ km1, true⟩ =>
    let da := opDesc ta
    let db := opDesc tb
    let k := km1 + 1
    let (ra, c1) := c.opRows da k (List.range da.rows)
    let (rb, c2) := c1.opRows db k (List.range db.rows)
    let x0 := c2.mx
    let (x1, f1) : Mx × Flags := match firstInvalid db k rb with
      | some off => (x0.record 3 0 0 off, { sinv := true })
      | none => (x0, {})
    let va := ra.map fun (e, s) => (List.range k).map (elemAt da.fmt e s)
    let vb := rb.map fun (e, s) => (List.range k).map (elemAt db.fmt e s)
    let a := mmaAnchor ta tb
    let (x2, f2) := (tileIxs da.rows db.rows).foldl
      (fun (p : Mx × Flags) (rn : Nat × Nat) =>
        let ts := List.zipWith prodTerm (va.getD rn.1 []) (vb.getD rn.2 [])
        mmaEntry p.1 p.2 a (entryIx accb rn.1 rn.2) ts) (x1, f1)
    let x3 := { x2 with arr := x2.arrQ, arrQ := none, stat := x2.stat ||| f2.mxe }
    ({ c2 with mx := x3 }).mxeEvents f2
  | _ => c

/-! The read-out unit -/

/-- R108: the read-out operation's banks are readable: no MMA of the product array has them still to write. -/
def Mx.roReady (x : Mx) : Bool :=
  match x.ro with
  | some r => !r.started && !((x.arr.toList ++ x.arrQ.toList).any fun o => o.op.banks.any fun b => r.op.banks.contains b)
  | none => false

def Mx.startRo (x : Mx) : Mx := { x with ro := x.ro.map fun r => { r with started := true } }

/-- R114 step 2: an entry's copy with its bias term added. -/
def biasEntry (e : SEntry) (a : Int) : Option FVal → SEntry × Flags
  | none => (e, {})
  | some b =>
    let (e', ov) := e.addTerms a [b]
    (e', { sovf := ov, nani := b.isNan, infi := b.isInf })

/-- R114, R115, R213: one output row: its bytes, scale bytes, flags and ceiling. -/
structure OutRow where
  data : List Byte
  scales : List Byte
  fl : Flags
  ceil : Nat
  deriving DecidableEq, Repr

/-- Chunks of 32 values (R115). -/
def chunks32 (xs : List α) (n : Nat) : List (List α) := (List.range (cdiv n 32)).map fun i => (xs.drop (32 * i)).take 32

/-- R83, R114, R115: a row of exact values converted into OFMT. -/
def convRow (fmt : Nat) (sat : Bool) (vs : List FVal) : OutRow :=
  match ieeeOf fmt with
  | some f =>
    let rs := vs.map (convIeee f sat)
    ⟨leBytes (rowBytes fmt vs.length) (packFields (elemBits fmt) (rs.map (·.code))), [],
     { oovf := rs.any (·.ovf) }, ceilIeee (rs.map fun r => decIeee f r.code)⟩
  | none =>
    let bs := (chunks32 vs vs.length).map (scaleAndRound fmt)
    ⟨leBytes (rowBytes fmt vs.length) (packFields (elemBits fmt) (bs.map (·.codes)).flatten),
     bs.map fun b => BitVec.ofNat 8 b.scale, { oovf := bs.any (·.clamped) },
     (bs.map (ceilBlock fmt)).foldl Nat.max 0⟩

/-- R114: one row of an MREAD. Scale bytes that fill a word in part are merged into it (log entry 67). -/
def Cluster.mreadRow (d : RoDesc) (accb : Nat) (bias : List (Option FVal)) (st : Cluster × Flags) (r : Nat) : Cluster × Flags :=
  let (c, fl) := st
  let a := (c.mx.bank (accb + r / 32)).anchor
  let es := (List.range d.cols).map fun n => biasEntry (Tbl.get {} c.mx.acc (entryIx accb r n)) a (bias.getD n none)
  let row := convRow d.ofmt d.sat (es.map fun p => p.1.value a)
  let c1 := c.wrWhole (rowAt d.base d.stripe d.pitch r) row.data
  let c2 := if isMx d.ofmt then c1.wr 2 (d.sbase + r * d.spitch) row.scales else c1
  let mx0 := { c2.mx with ceil := Nat.max c2.mx.ceil row.ceil }
  let mx1 := match findIdx (fun p => p.2.sovf) es 0 with
    | some (n, _) => mx0.record 4 0 (entryIx accb r n) 0
    | none => mx0
  ({ c2 with mx := mx1 }, (fl.or (Flags.all (es.map (·.2)))).or row.fl)

/-- R114: an MREAD's whole output. -/
def Cluster.runMread (c : Cluster) (d : RoDesc) (accb : Nat) : Cluster × Flags :=
  if d.bias then
    let w := if d.bfmt = 0 then 4 else 2
    let (bs, c1) := c.rd 3 d.biasAddr (d.cols * w)
    let f := if d.bfmt = 0 then fmtF32 else fmtBf16
    let bias := (fieldsOf (8 * w) d.cols (leNat bs)).map fun v => some (decIeee f v)
    (List.range d.rows).foldl (Cluster.mreadRow d accb bias) (c1, {})
  else (List.range d.rows).foldl (Cluster.mreadRow d accb []) (c, {})

/-- R116: an MSPILL's words. -/
def Cluster.runMspill (c : Cluster) (d : RoDesc) (accb cut : Nat) : Cluster × Flags :=
  let ixs := tileIxs d.rows d.cols
  let ent (p : Nat × Nat) : SEntry := Tbl.get {} c.mx.acc (entryIx accb p.1 p.2)
  let anc (p : Nat × Nat) : Int := (c.mx.bank (accb + p.1 / 32)).anchor
  if cut = 0 then (c.wrWhole d.base (ixs.map fun p => fullWord (anc p) (ent p)).flatten, {})
  else
    let ws := ixs.map fun p => cutWord cut (ent p)
    let hdr := encGroup ⟨(c.mx.bank accb).anchor, cut, if ws.any (fun w => isReserved cut w.1) then 1 else 0, d.rows * d.cols⟩
    let body := (ws.map fun w => leBytes (wordBytes cut) (lowBits (160 - cut) w.1)).flatten
    let c1 := c.wrWhole d.base (hdr ++ body)
    match findIdx (fun w : Int × Bool => w.2) ws 0 with
    | some (i, _) => ({ c1 with mx := c1.mx.record 4 0 (entryIx accb (i / d.cols) (i % d.cols)) 0 }, { sovf := true })
    | none => (c1, {})

/-- The effect of one received word on its entry; the last component tells a mismatching anchor (R92, R117 step 4). -/
def combEntry (x : Mx) (fl : Flags) (accb : Nat) (rn : Nat × Nat) (w : RWord) (off : Nat) : Mx × Flags × Bool :=
  let ix := entryIx accb rn.1 rn.2
  let bad : Bool := match w.anchor with | some a => a != (x.bank (accb + rn.1 / 32)).anchor | none => false
  if bad then (x.record 2 1 ix off, fl, true) else
  let (e, ov) := (Tbl.get {} x.acc ix).combine w
  let x1 := { x with acc := Tbl.set x.acc ix e }
  (if ov then x1.record 4 0 ix 0 else x1, fl.or { sovf := ov }, false)

/-- R117: an MCOMB's effect: the own partials cut where it asks for that, then every word combined; the last component
tells a discarded word. -/
def Cluster.runMcomb (c : Cluster) (d : RoDesc) (accb cut : Nat) (cutself : Bool) : Cluster × Flags × Bool :=
  let ixs := tileIxs d.rows d.cols
  let (bs, c1) := c.rd 3 d.base (areaBytes cut (d.rows * d.cols))
  let x0 := c1.mx
  let (x1, ov1) := if cut ≠ 0 ∧ cutself then
      ixs.foldl (fun (st : Mx × Bool) (p : Nat × Nat) =>
        if (x0.bank (accb + p.1 / 32)).cut.isNone then
          let ix := entryIx accb p.1 p.2
          let (e, ov) := (Tbl.get {} st.1.acc ix).cutSelf cut
          let x := { st.1 with acc := Tbl.set st.1.acc ix e }
          (if ov then x.record 4 0 ix 0 else x, st.2 || ov)
        else st) (x0, false)
    else (x0, false)
  let x2 := (banksOf accb d.rows).foldl (fun (x : Mx) b => { x with banks := Tbl.mod {} x.banks b fun k => { k with cut := some cut } }) x1
  let w := wordBytes cut
  let h := if cut = 0 then 0 else 8
  let word (i : Nat) : RWord :=
    let b := (bs.drop (h + i * w)).take w
    if cut = 0 then decFullWord b else decCutWord cut (leNat b)
  let (x3, fl, bad) := (ixs.mapIdx fun i p => (i, p)).foldl
    (fun (st : Mx × Flags × Bool) (q : Nat × Nat × Nat) =>
      let (x, f, b) := combEntry st.1 st.2.1 accb q.2 (word q.1) (d.base + h + q.1 * w)
      (x, f, st.2.2 || b)) (x2, { sovf := ov1 }, false)
  ({ c1 with mx := x3 }, fl, bad)

/-- R118: the running read-out operation completes; a deferred ANCHOR_MISMATCH becomes pending (R117 step 4). -/
def Cluster.finishRo (c : Cluster) : Cluster :=
  match c.mx.ro with
  | some ⟨op, true⟩ =>
    let (c1, fl, bad) : Cluster × Flags × Bool := match op with
      | .mread td accb => let (y, f) := c.runMread (roDesc td) accb; (y, f, false)
      | .mspill td accb cut => let (y, f) := c.runMspill (roDesc td) accb cut; (y, f, false)
      | .mcomb td accb cut cs => c.runMcomb (roDesc td) accb cut cs
      | .mma .. => (c, {}, false)
    let c2 := { c1 with mx := { c1.mx with ro := c1.mx.roQ, roQ := none, stat := c1.mx.stat ||| fl.mxe } }
    let c3 := c2.mxeEvents fl
    if bad then c3.pendCause .anchorMismatch 1 else c3
  | _ => c

/-- R101: HALT cancels every operation of the engine that has not started. -/
def Mx.haltCancel (x : Mx) : Mx :=
  let keep (o : Option MxRun) : Option MxRun := o.filter fun r => r.started
  { x with arr := keep x.arr, arrQ := none, ro := keep x.ro, roQ := none }

/-- R124: MXE_CEIL read: the value, and the register cleared. -/
def Mx.readCeil (x : Mx) : Nat × Mx := (x.ceil, { x with ceil := 0 })

end Sys2Proof.Machine
end

