-- ==== Sys2Proof/Machine/VectorCore.lean ====
section
/-!
DEFINITION. The vector engine of one cluster: decoding, issue checks, beats, suspension and restart (spec 05 R125 to R149,
06 R168, 07 R206 to R213).
-/
namespace Sys2Proof.Machine

/-- The arithmetic of VADD, VSUB, VMUL, VMIN, VMAX. -/
inductive AOp where
  | add | sub | mul | min | max
  deriving DecidableEq, Repr

/-- R130: the 32-bit integer operations. -/
inductive IOp where
  | add | sub | and | or | xor | shl | shr | sra
  deriving DecidableEq, Repr

/-- R130, R168: the compares; types 0 .F, 1 .H, 2 .I. -/
inductive CC where
  | eq | ne | lt | le
  deriving DecidableEq, Repr

/-- R130, R168: a vector operation by its kind. -/
inductive VKind where
  | arith (o : AOp) (h : Bool)
  | fma (h : Bool)
  | cvt (narrow : Bool) (f16 : Bool)
  | int (o : IOp)
  | cmp (cc : CC) (ty : Nat)
  | bcast
  | trans (f : Fn) (h : Bool)
  | ld | st | compress | expand
  | rsum (opens : Bool)
  | rdot (opens : Bool)
  | rout | rspill | rcomb | fsum | shst | shld
  deriving DecidableEq, Repr

def aopOf (n : Nat) : AOp := if n = 0 then .add else if n = 1 then .sub else if n = 2 then .mul else if n = 3 then .min else .max
def iopOf (n : Nat) : IOp :=
  if n = 0 then .add else if n = 1 then .sub else if n = 2 then .and else if n = 3 then .or else if n = 4 then .xor
  else if n = 5 then .shl else if n = 6 then .shr else .sra
def ccOf (n : Nat) : CC := if n = 0 then .eq else if n = 1 then .ne else if n = 2 then .lt else .le
def fnOf (n : Nat) : Fn :=
  if n = 0 then .exp2 else if n = 1 then .log2 else if n = 2 then .rcp else if n = 3 then .rsq else if n = 4 then .tanh else .sig

/-- R168: VOP to operation; none for 0x00. -/
def vkindOf (vop : Nat) : Option VKind :=
  if vop = 0 then none
  else if vop ≤ 0x05 then some (.arith (aopOf (vop - 1)) false)
  else if vop ≤ 0x0A then some (.arith (aopOf (vop - 6)) true)
  else if vop = 0x0B then some (.fma false)
  else if vop = 0x0C then some (.fma true)
  else if vop = 0x0D then some (.cvt true false)
  else if vop = 0x0E then some (.cvt false false)
  else if vop = 0x0F then some (.cvt true true)
  else if vop = 0x10 then some (.cvt false true)
  else if vop ≤ 0x18 then some (.int (iopOf (vop - 0x11)))
  else if vop ≤ 0x24 then some (.cmp (ccOf ((vop - 0x19) % 4)) ((vop - 0x19) / 4))
  else if vop = 0x25 then some .bcast
  else if vop ≤ 0x2B then some (.trans (fnOf (vop - 0x26)) false)
  else if vop ≤ 0x31 then some (.trans (fnOf (vop - 0x2C)) true)
  else if vop = 0x32 then some .ld
  else if vop = 0x33 then some .st
  else if vop = 0x34 then some .compress
  else if vop = 0x35 then some .expand
  else if vop = 0x36 then some (.rsum false)
  else if vop = 0x37 then some (.rsum true)
  else if vop = 0x38 then some (.rdot false)
  else if vop = 0x39 then some (.rdot true)
  else if vop = 0x3A then some .rout
  else if vop = 0x3B then some .rspill
  else if vop = 0x3C then some .rcomb
  else if vop = 0x3D then some .fsum
  else if vop = 0x3E then some .shst
  else some .shld

/-- R168: the fields of a vector slot. -/
structure VOpW where
  vop : Nat
  vd : Nat
  vs : Nat
  m : Nat
  count : Nat
  deriving DecidableEq, Repr

def decVec (w : Word32) : VOpW := ⟨bits w 31 26, bits w 25 21, bits w 20 16, bits w 15 13, bits w 12 0⟩

def encVec (vop : Nat) (vd vs : Reg) (m : BitVec 3) (count : BitVec 13) : Word32 :=
  BitVec.ofNat 32 (fld 26 vop + fld 21 vd.toNat + fld 16 vs.toNat + fld 13 m.toNat + count.toNat)

/-! VXE_LSD and VXE_RDESC (R147, R148) -/

def lsdFmt (l : Word) : Nat := bits l 63 60
def lsdStripe (l : Word) : Nat := 2 ^ bits l 59 58
def lsdSat (l : Word) : Bool := bit l 57
def lsdPack (l : Word) : Bool := bit l 56
def lsdSbase (l : Word) : Nat := bits l 24 0

/-- R126, R168: the operation works on 16-bit form. -/
def is16 (k : VKind) (lsd : Word) : Bool :=
  match k with
  | .arith _ h => h
  | .fma h => h
  | .cmp _ ty => ty == 1
  | .trans _ h => h
  | .ld => lsdPack lsd && (lsdFmt lsd == 1 || lsdFmt lsd == 2)
  | .st => lsdPack lsd && (lsdFmt lsd == 1 || lsdFmt lsd == 2)
  | .compress => lsdPack lsd
  | .expand => lsdPack lsd
  | .rsum _ => lsdPack lsd
  | .rdot _ => lsdPack lsd
  | .fsum => lsdPack lsd
  | _ => false

/-- Elements a beat (R126). -/
def perBeat (k : VKind) (lsd : Word) : Nat := if is16 k lsd then 256 else 128

/-- R128, R141: beats of an operation; VSHST and VSHLD take 33 whatever COUNT holds. -/
def beatsOf (k : VKind) (lsd : Word) (count : Nat) : Nat :=
  match k with
  | .shst => 33
  | .shld => 33
  | _ => cdiv count (perBeat k lsd)

/-- R132: byte `b` of an element plane at stripe `s`. -/
def planeAddr (base s b : Nat) : Nat := base + ((b / 64) % s) * 0x40000 + ((b / 64) / s) * 64 + b % 64

/-- The pieces of `n` plane bytes from byte `b`, one a line, as scratchpad extents; `fuel` bounds their number. -/
def planePieces (base s b n : Nat) : Nat → List (Nat × Nat)
  | 0 => []
  | fuel + 1 => if n = 0 then [] else
      let k := Nat.min n (64 - b % 64)
      (planeAddr base s b, k) :: planePieces base s (b + k) (n - k) fuel

def pieces (base s b n : Nat) : List (Nat × Nat) := planePieces base s b n (n / 64 + 2)

/-- R132: every line of a plane of `n` bytes lies below the end. -/
def planeOk (base s n : Nat) : Bool := (List.range (cdiv n 64)).all fun k => decide (planeAddr base s (64 * k) + 64 ≤ spdSize)

/-- R132: the refusals of VLD and VST, sub-code 0x0A. -/
def ldstOk (store : Bool) (lsd gval : Word) (m count : Nat) : Bool :=
  let base := bits gval 24 0
  let fmt := lsdFmt lsd
  decide (base % 64 = 0) && decide (fmt ≤ 9) && planeOk base (lsdStripe lsd) (rowBytes fmt count)
    && (!isScaled fmt || decide (lsdSbase lsd + nBlocks fmt count ≤ spdSize))
    && !(store && (fmt == 9 || (isMx fmt && m != 0)))

/-- R141: alignment and extent of the shadow's area, line 256 included. -/
def shadowOk (gval : Word) : Bool :=
  let base := bits gval 24 0
  decide (base % 64 = 0) && planeOk base 8 (257 * 64)

/-- R136: the word area of VRSPILL and VRCOMB. -/
def wordAreaOk (gval rdesc : Word) : Bool :=
  let base := bits gval 24 0
  decide (base % 8 = 0) && decide (base + cdiv (areaBytes (cutOf (bits rdesc 47 45)) 1) 8 * 8 ≤ spdSize)

/-- R136: the anchor that VXE_RDESC gives a reduction. -/
def rAnchor (k : VKind) (lsd rdesc : Word) : Int :=
  let f := if is16 k lsd then 2 else 0
  let ub := match k with | .rdot _ => unbiasedCeil f (bits rdesc 55 48) | _ => 0
  anchorOf (unbiasedCeil f (bits rdesc 63 56)) ub (bits rdesc 30 0 + 1)

/-- R171: the ILLEGAL_BUNDLE sub-code of a vector slot, with what it would read at issue. -/
def vecIllegal (w : Word32) (lsd rdesc gval : Word) : Option Nat :=
  let o := decVec w
  match vkindOf o.vop with
  | none => if w = 0 then none else some 6
  | some k =>
    let odd := o.vs % 2 = 1
    let live := o.count ≠ 0
    match k with
    | .fma _ => if odd then some 9 else none
    | .rdot _ => if odd then some 9 else none
    | .ld => if live && !ldstOk false lsd gval o.m (Nat.min o.count 4096) then some 10 else none
    | .st => if live && !ldstOk true lsd gval o.m (Nat.min o.count 4096) then some 10 else none
    | .shst => if live && !shadowOk gval then some 10 else none
    | .shld => if live && !shadowOk gval then some 10 else none
    | .rspill => if !live then none else if bits rdesc 47 45 ≥ 5 then some 7 else if wordAreaOk gval rdesc then none else some 10
    | .rcomb => if !live then none else if bits rdesc 47 45 ≥ 5 then some 7 else if wordAreaOk gval rdesc then none else some 10
    | _ => none

def Vx.sdr (x : Vx) (n : Nat) : SdReg := Tbl.get {} x.sd n

/-- R92, R117, R136: the refusal of a combine at issue. -/
def rcombRefuse (x : Vx) (spd : Spd) (n cut : Nat) (cutself : Bool) (off : Nat) : Refuse :=
  let r := x.sdr n
  let h := decGroup (spd.peek off 8)
  firstFail [
    (r.b.valid, .anchorMismatch, 3),
    (cut == 0 || h.cut == cut, .anchorMismatch, 2),
    (cut == 0 || h.count == 1, .tileDescInvalid, 8),
    (cut == 0 || h.anchor == r.b.anchor, .anchorMismatch, 1),
    (cutAgrees r.b cut cutself, .anchorMismatch, 2)]

/-- The refusals of a vector slot other than ILLEGAL_BUNDLE (R128, R136, R141): ILLEGAL_COUNT, then VX_SUSPENDED, then the
anchor checks (the order: DEDUCED, log entry 14); a resumed operation meets the first alone (R140). VSHST and VSHLD of COUNT above 4,096 run, as R141
has it, where R128 traps every vector-slot operation (DEDUCED, log entry 77). -/
def vecRefuse (x : Vx) (spd : Spd) (w : Word32) (gval : Word) (resume : Bool) : Refuse :=
  let o := decVec w
  match vkindOf o.vop with
  | none => none
  | some k =>
    let special : Bool := match k with | .shst => true | .shld => true | _ => false
    let susp := !resume && x.progress.getLsbD 63 && !special
    if o.count = 0 then (if susp then some (.vxSuspended, 0) else none)
    else if o.count > 4096 && !special then some (.illegalCount, 0)
    else if susp then some (.vxSuspended, 0)
    else if resume then none
    else
      let n := o.vd % 4
      let r := x.sdr n
      let a := rAnchor k x.lsd x.rdesc
      let closed := firstFail [(r.b.valid, .anchorMismatch, 3), (r.b.cut.isNone, .anchorMismatch, 4), (r.b.anchor == a, .anchorMismatch, 1)]
      match k with
      | .rsum false => closed
      | .rdot false => closed
      | .rout => firstFail [(r.b.valid, .anchorMismatch, 3)]
      | .rspill => firstFail [(r.b.valid, .anchorMismatch, 3)]
      | .rcomb => rcombRefuse x spd n (cutOf (bits x.rdesc 47 45)) (bit x.rdesc 44) (bits gval 24 0)
      | _ => none

/-- R145: the fault code of a refused vector operation. -/
def vecFaultCode : Cause → Nat
  | .illegalCount => 1 | .anchorMismatch => 2 | .vxSuspended => 5 | .tileDescInvalid => 6 | _ => 0

def Vx.recordRefusal (x : Vx) (k : Cause) (w : Word32) : Vx :=
  if vecFaultCode k = 0 then x else x.record (vecFaultCode k) w.toNat

def Cluster.refuseVx (k : Cluster) (cause : Cause) (w : Word32) : Cluster := { k with vx := k.vx.recordRefusal cause w }

/-- R136: where the group header of a VRCOMB lies, if its words have one. -/
def vecHeader (w : Word32) (rdesc gval : Word) : Option Nat :=
  match vkindOf (decVec w).vop with
  | some .rcomb => if cutOf (bits rdesc 47 45) = 0 then none else some (bits gval 24 0)
  | _ => none

/-- R233: the extents of a vector operation in its own scratchpad. -/
def vecExtents (w : Word32) (lsd rdesc gval : Word) : List Extent :=
  let o := decVec w
  let base := bits gval 24 0
  let mem (wr : Bool) : List Extent :=
    let fmt := lsdFmt lsd
    let n := rowBytes fmt o.count
    ((pieces base (lsdStripe lsd) 0 (if wr then cdiv n 8 * 8 else n)).map fun p => (⟨p.1, p.2, wr⟩ : Extent)) ++
      (if isScaled fmt then [⟨lsdSbase lsd, nBlocks fmt o.count, wr⟩] else [])
  let area := areaBytes (cutOf (bits rdesc 47 45)) 1
  if o.count = 0 then [] else
  match vkindOf o.vop with
  | some .ld => mem false
  | some .st => mem true
  | some .shst => (pieces base 8 0 16392).map fun p => ⟨p.1, p.2, true⟩
  | some .shld => (pieces base 8 0 16392).map fun p => ⟨p.1, p.2, false⟩
  | some .rspill => [⟨base, cdiv area 8 * 8, true⟩]
  | some .rcomb => [⟨base, area, false⟩]
  | _ => []

/-! Registers -/

def Vx.slot (x : Vx) (r i : Nat) : Word32 := Tbl.get 0 x.v (r * 4096 + i)
def Vx.setSlot (x : Vx) (r i : Nat) (v : Word32) : Vx := { x with v := Tbl.set x.v (r * 4096 + i) v }

/-- R126: an element in 32-bit form (`h` false) or 16-bit form. -/
def Vx.setElem (x : Vx) (h : Bool) (r i code : Nat) : Vx :=
  if h then
    let o := x.slot r (i / 2)
    x.setSlot r (i / 2) (if i % 2 = 0 then put o 15 0 code else put o 31 16 code)
  else x.setSlot r i (BitVec.ofNat 32 code)

/-- R125: a mask register; m0 reads all ones. -/
def Vx.mask (x : Vx) (m : Nat) : BitVec 4096 := if m = 0 then BitVec.allOnes 4096 else Tbl.get 0 x.m m

/-- R125: writes to m0 are ignored. -/
def Vx.setMaskBit (x : Vx) (m i : Nat) (b : Bool) : Vx :=
  if m = 0 then x else
  let k := Tbl.get 0 x.m m
  { x with m := Tbl.set x.m m (if b then k ||| BitVec.twoPow 4096 i else k &&& ~~~(BitVec.twoPow 4096 i)) }

/-- R129: the active elements of beat `j`, in ascending order. -/
def Vx.active (x : Vx) (k : VKind) (lsd : Word) (o : VOpW) (j : Nat) : List Nat :=
  let n := perBeat k lsd
  (span (j * n) (Nat.min n (o.count - j * n))).filter fun i => (x.mask o.m).getLsbD i

/-- The active elements of the beats before `j` (R140: the output pointer recomputed). -/
def Vx.activeBefore (x : Vx) (k : VKind) (lsd : Word) (o : VOpW) (j : Nat) : Nat :=
  ((List.range (Nat.min (j * perBeat k lsd) o.count)).filter fun i => (x.mask o.m).getLsbD i).length

/-- R139: slots of vd that one beat writes, and so saves: a narrowing VCVT into 16-bit form writes half a beat (DESIGN CHOICE, log entry 77). -/
def savedPerBeat (k : VKind) (lsd : Word) : Nat :=
  match k with
  | .cvt true _ => if lsdPack lsd then 64 else 128
  | _ => 128

/-- R139: a source slot as the operation reads it: the pre-image where a committed beat has overwritten it. A widening VCVT in place reads the
sources of a beat at or above HIBEAT from the shadow too, where earlier beats have overwritten them (DESIGN CHOICE, log entry 77). -/
def Vx.src (x : Vx) (r : VxRun) (k : VKind) (o : VOpW) (reg i : Nat) : Word32 :=
  if r.shmode = 1 ∧ reg = o.vd ∧ i < savedPerBeat k r.lsd * r.hibeat then Tbl.get 0 x.shadow i else x.slot reg i

/-- A source element's code. -/
def Vx.srcElem (x : Vx) (r : VxRun) (k : VKind) (o : VOpW) (h : Bool) (reg i : Nat) : Nat :=
  if h then
    let s := x.src r k o reg (i / 2)
    if i % 2 = 0 then bits s 15 0 else bits s 31 16
  else (x.src r k o reg i).toNat

/-! Element operations (07 R203 to R207) -/

/-- Flags of R206 for operands and an exact result. -/
def arithFlags (xs : List FVal) (res : FVal) (bad0 : Bool) (ovf : Bool) : Flags :=
  let nan := xs.any FVal.isNan
  let inf := xs.any FVal.isInf
  { nani := nan, infi := inf, ivld := bad0 || (!nan && inf && res.isNan), oovf := ovf }

/-- R203, R204, R206: one element of VADD, VSUB, VMUL, VMIN, VMAX in a format. -/
def arithElem (f : IeeeFmt) (o : AOp) (a b : Nat) : Elem :=
  let x := decIeee f a
  let y := decIeee f b
  match o with
  | .min => ⟨(convIeee f false (x.min y)).code, { nani := x.isNan || y.isNan }⟩
  | .max => ⟨(convIeee f false (x.max y)).code, { nani := x.isNan || y.isNan }⟩
  | .add => let r := x.add y; let c := convIeee f false r; ⟨c.code, arithFlags [x, y] r false c.ovf⟩
  | .sub => let r := x.add y.flip; let c := convIeee f false r; ⟨c.code, arithFlags [x, y] r false c.ovf⟩
  | .mul => let r := x.mul y; let c := convIeee f false r; ⟨c.code, arithFlags [x, y] r false c.ovf⟩

/-- R206: vd + vs * v(VS + 1), one rounding; an exact result of 0 with some operand nonzero is +0. -/
def fmaElem (f : IeeeFmt) (d a b : Nat) : Elem :=
  let z := decIeee f d
  let x := decIeee f a
  let y := decIeee f b
  let p := x.mul y
  let r := if (z.add p).isZero && !(z.isZero && x.isZero && y.isZero) then .fin false 0 0 else z.add p
  let c := convIeee f false r
  ⟨c.code, arithFlags [z, x, y] r ((x.isInf && y.isZero) || (x.isZero && y.isInf)) c.ovf⟩

/-- R130: one element of the 32-bit integer operations. -/
def intElem (o : IOp) (a b : Word32) : Word32 :=
  match o with
  | .add => a + b
  | .sub => a - b
  | .and => a &&& b
  | .or => a ||| b
  | .xor => a ^^^ b
  | .shl => a <<< (b.toNat % 32)
  | .shr => a >>> (b.toNat % 32)
  | .sra => a.sshiftRight (b.toNat % 32)

/-- R204, R206: one compare. -/
def cmpElem (cc : CC) (ty a b : Nat) : Bool × Flags :=
  if ty = 2 then
    let x := sext 32 a
    let y := sext 32 b
    (match cc with | .eq => x == y | .ne => x != y | .lt => decide (x < y) | .le => decide (x ≤ y), {})
  else
    let f := if ty = 0 then fmtF32 else fmtBf16
    let x := decIeee f a
    let y := decIeee f b
    (match cc with | .eq => x.eq y | .ne => !(x.eq y) | .lt => x.lt y | .le => x.lt y || x.eq y,
     { nani := x.isNan || y.isNan })

/-- R207: one VCVT element between the 32-bit side and BF16 or binary16. -/
def cvtElem (narrow f16 sat : Bool) (a : Nat) : Elem :=
  let h := if f16 then fmtF16 else fmtBf16
  let v := decIeee (if narrow then fmtF32 else h) a
  let c := convIeee (if narrow then h else fmtF32) sat v
  ⟨c.code, { nani := v.isNan, infi := v.isInf, oovf := c.ovf }⟩

/-! Loads and stores (R132, R209) -/

/-- One loaded element: its code in the register, its flags, and the offset of an invalid Shoal byte. -/
structure LdElem where
  code : Nat
  fl : Flags
  deriving DecidableEq, Repr

/-- R61, R209: an element of memory format `fmt` converted on load. -/
def ldElem (fmt : Nat) (packed : Bool) (raw : Nat) (v : FVal) (inv : Bool) : LdElem :=
  if fmt = 0 ∨ packed then ⟨raw, {}⟩ else
  let c := convIeee fmtF32 false v
  ⟨c.code, { nani := v.isNan, infi := v.isInf, oovf := c.ovf, sinv := inv }⟩

/-- R132: the elements of beat `j` loaded. -/
def Cluster.ldBeat (c : Cluster) (r : VxRun) (o : VOpW) : Cluster × Flags :=
  let k := VKind.ld
  let fmt := lsdFmt r.lsd
  let packed := is16 k r.lsd
  let n := perBeat k r.lsd
  let lo := r.beat * n
  let hi := Nat.min (lo + n) o.count
  let base := bits r.gval 24 0
  let w := elemBits fmt
  let b0 := if fmt = 9 then lo / 5 else lo * w / 8
  let b1 := rowBytes fmt hi
  let (bs, c1) := c.rdAll 3 (pieces base (lsdStripe r.lsd) b0 (b1 - b0))
  let s0 := lo / blockLen fmt
  let (ss, c2) := if isScaled fmt then c1.rd 3 (lsdSbase r.lsd + s0) (nBlocks fmt hi - s0) else ([], c1)
  -- The bytes and scales placed back at their position in the row, so that R57's numbering applies.
  let row := leNat bs <<< (8 * b0)
  let scs := leNat ss <<< (8 * s0)
  let act := c.vx.active k r.lsd o r.beat
  let inv (i : Nat) : Bool := fmt == 9 && shoalInvalid (row >>> (8 * (i / 5)))
  let res := act.map fun i => (i, ldElem fmt packed ((row >>> (i * w)) % 2 ^ w) (elemAt fmt row scs i) (inv i))
  let x1 := res.foldl (fun (x : Vx) (p : Nat × LdElem) => x.setElem packed o.vd p.1 p.2.code) c2.vx
  let x2 := match act.find? inv with
    | some i => x1.record 3 (planeAddr base (lsdStripe r.lsd) (i / 5))
    | none => x1
  ({ c2 with vx := x2 }, Flags.all (res.map fun p => p.2.fl))

/-- R132, R225: a beat of a masked store: every word of every line that the beat's elements touch is merged in its bank, with the bytes
of the active elements `out` (index and code) put in. -/
def Cluster.mergeBeat (c : Cluster) (base s w lo hi : Nat) (out : List (Nat × Nat)) : Cluster :=
  let l0 := lo * w / 8 / 64
  (span (8 * l0) (8 * (cdiv (hi * w / 8) 64 - l0))).foldl (fun (d : Cluster) q =>
    let new := (List.range 8).map fun j =>
      let x := 8 * q + j
      (out.find? fun p => p.1 == x * 8 / w).map fun p => BitVec.ofNat 8 (p.2 >>> (x * 8 % w))
    let (ue, spd) := d.spd.mergeWord (planeAddr base s (8 * q) / 8) new
    let d1 := { d with spd := spd }
    if ue then d1.stopAll else d1) c

/-- R132, R133, R209: the elements of beat `j` stored, and VXE_CEIL. A beat writes the scales of its own blocks alone, merged into the word
of the scale plane that they fill in part (log entry 67). -/
def Cluster.stBeat (c : Cluster) (r : VxRun) (o : VOpW) : Cluster × Flags :=
  let k := VKind.st
  let fmt := lsdFmt r.lsd
  let packed := is16 k r.lsd
  let n := perBeat k r.lsd
  let lo := r.beat * n
  let hi := Nat.min (lo + n) o.count
  let base := bits r.gval 24 0
  let s := lsdStripe r.lsd
  let code (i : Nat) : Nat := if packed then (let t := c.vx.slot o.vd (i / 2); if i % 2 = 0 then bits t 15 0 else bits t 31 16) else (c.vx.slot o.vd i).toNat
  let idx := if o.m = 0 then span lo (hi - lo) else c.vx.active k r.lsd o r.beat
  let putPieces (c : Cluster) (b0 : Nat) (bs : List Byte) : Cluster :=
    ((pieces base s b0 bs.length).foldl (fun (st : Cluster × List Byte) (p : Nat × Nat) =>
      (st.1.wr 2 p.1 (st.2.take p.2), st.2.drop p.2)) (c, bs)).1
  match ieeeOf fmt with
  | some f =>
    let copy := fmt = 0 ∨ packed
    let out := idx.map fun i =>
      if copy then (⟨code i, {}⟩ : Elem) else
      let v := decIeee fmtF32 (code i)
      let q := convIeee f (lsdSat r.lsd) v
      (⟨q.code, { nani := v.isNan, infi := v.isInf, oovf := q.ovf }⟩ : Elem)
    let w := elemBits fmt
    let ceil := ceilIeee (out.map fun e => decIeee f e.code)
    let c1 := if o.m = 0 then
        putPieces c (lo * w / 8) (leBytes (cdiv ((hi - lo) * w) 64 * 8) (packFields w (out.map (·.code))))
      else if hi ≤ lo then c else c.mergeBeat base s w lo hi (idx.zip (out.map (·.code)))
    ({ c1 with vx := { c1.vx with ceil := Nat.max c1.vx.ceil ceil } }, Flags.all (out.map (·.fl)))
  | none =>
    let vs := idx.map fun i => decIeee fmtF32 (code i)
    let bl := (chunks32 vs vs.length).map (scaleAndRound fmt)
    let w := elemBits fmt
    let c1 := putPieces c (lo * w / 8) (leBytes (cdiv (rowBytes fmt (hi - lo)) 8 * 8) (packFields w (bl.map (·.codes)).flatten))
    let c2 := c1.wr 2 (lsdSbase r.lsd + lo / 32) (bl.map fun b => BitVec.ofNat 8 b.scale)
    let ceil := (bl.map (ceilBlock fmt)).foldl Nat.max 0
    ({ c2 with vx := { c2.vx with ceil := Nat.max c2.vx.ceil ceil } },
     { nani := vs.any FVal.isNan, infi := vs.any FVal.isInf, oovf := bl.any (·.clamped) })

/-! Reductions (R136, R137) -/

/-- R203: one binary32 addition of codes. -/
def addF32 (a b : Nat) : Elem := arithElem fmtF32 .add a b

/-- R137: one level of a pairwise sum. -/
def pairUp : List Nat → List Nat × Flags
  | a :: b :: t =>
    let e := addF32 a b
    let (r, f) := pairUp t
    (e.code :: r, f.or { ivld := e.fl.ivld, oovf := e.fl.oovf })
  | l => (l, {})

/-- R137: `n` levels of pairwise sums. -/
def pairTree : Nat → List Nat → List Nat × Flags
  | 0, l => (l, {})
  | n + 1, l =>
    let (l1, f1) := pairUp l
    let (l2, f2) := pairTree n l1
    (l2, f1.or f2)

/-- R137, R210: the sum of beats of leaves, each by the tree, then in ascending beat order. -/
def fsumAll (levels : Nat) : List (List Nat) → Nat × Flags
  | [] => (0, {})
  | b :: t => t.foldl (fun (st : Nat × Flags) l =>
      let (s, f) := pairTree levels l
      let e := addF32 st.1 (s.headD 0)
      (e.code, (st.2.or f).or { ivld := e.fl.ivld, oovf := e.fl.oovf }))
    (let (s, f) := pairTree levels b; (s.headD 0, f))

/-- R137: VFSUM's sum and flags. -/
def Vx.fsum (x : Vx) (r : VxRun) (o : VOpW) : Nat × Flags :=
  let k := VKind.fsum
  let h := is16 k r.lsd
  let n := perBeat k r.lsd
  let leaf (i : Nat) : Nat :=
    if i < o.count ∧ (x.mask o.m).getLsbD i then
      (if h then (x.srcElem r k o true o.vs i) <<< 16 else x.srcElem r k o false o.vs i) else 0
  let leaves := (List.range (cdiv o.count n)).map fun j => (span (j * n) n).map leaf
  let cls := leaves.flatten.map (decIeee fmtF32)
  let (s, f) := fsumAll (if h then 8 else 7) leaves
  (s, f.or { nani := cls.any FVal.isNan, infi := cls.any FVal.isInf })

/-- R136, R211: the terms of VRSUM or VRDOT with their flags. -/
def Vx.rterms (x : Vx) (r : VxRun) (k : VKind) (o : VOpW) : List (FVal × Flags) :=
  let h := is16 k r.lsd
  let f := if h then fmtBf16 else fmtF32
  let el (reg i : Nat) : FVal := decIeee f (x.srcElem r k o h reg i)
  ((List.range o.count).filter fun i => (x.mask o.m).getLsbD i).map fun i =>
    match k with
    | .rdot _ => prodTerm (el o.vs i) (el (o.vs + 1) i)
    | _ => let v := el o.vs i; (v, { nani := v.isNan, infi := v.isInf })

def Vx.setSd (x : Vx) (n : Nat) (r : SdReg) : Vx := { x with sd := Tbl.set x.sd n r }

/-- R136: VRSUM or VRDOT completed as one operation. -/
def Vx.reduce (x : Vx) (r : VxRun) (k : VKind) (opens : Bool) (o : VOpW) : Vx × Flags :=
  let n := o.vd % 4
  let a := rAnchor k r.lsd r.rdesc
  let s0 : SdReg := if opens then ⟨{}, ⟨a, true, none⟩⟩ else x.sdr n
  let ts := x.rterms r k o
  let (e, ov) := s0.e.addTerms a (ts.map (·.1))
  (x.setSd n { s0 with e := e }, (Flags.all (ts.map (·.2))).or { sovf := ov })

/-- R83, R136: VROUT. -/
def Vx.rout (x : Vx) (r : VxRun) (o : VOpW) : Vx × Flags :=
  let s := x.sdr (o.vd % 4)
  let f := if bit r.rdesc 42 then fmtBf16 else fmtF32
  let c := convIeee f (bit r.rdesc 43) (s.e.value s.b.anchor)
  let x1 := x.setSlot o.vd 0 (BitVec.ofNat 32 c.code)
  ({ x1 with ceil := Nat.max x1.ceil (ceilIeee [decIeee f c.code]) }, { oovf := c.ovf })

/-- R116, R136: VRSPILL. -/
def Cluster.rspill (c : Cluster) (r : VxRun) (o : VOpW) : Cluster × Flags :=
  let s := c.vx.sdr (o.vd % 4)
  let cut := cutOf (bits r.rdesc 47 45)
  let off := bits r.gval 24 0
  if cut = 0 then (c.wrWhole off (fullWord s.b.anchor s.e), {})
  else
    let (w, ov) := cutWord cut s.e
    let hdr := encGroup ⟨s.b.anchor, cut, if isReserved cut w then 1 else 0, 1⟩
    (c.wrWhole off (hdr ++ leBytes (wordBytes cut) (lowBits (160 - cut) w)), { sovf := ov })

/-- R117, R136: VRCOMB; the last component tells a discarded word. -/
def Cluster.rcomb (c : Cluster) (r : VxRun) (o : VOpW) : Cluster × Flags × Bool :=
  let n := o.vd % 4
  let cut := cutOf (bits r.rdesc 47 45)
  let off := bits r.gval 24 0
  let (bs, c1) := c.rd 3 off (areaBytes cut 1)
  let s := c1.vx.sdr n
  let (e0, ov0) := if cut ≠ 0 ∧ bit r.rdesc 44 ∧ s.b.cut.isNone then s.e.cutSelf cut else (s.e, false)
  let b1 := { s.b with cut := some cut }
  let w := if cut = 0 then decFullWord bs else decCutWord cut (leNat (bs.drop 8))
  let bad : Bool := match w.anchor with | some a => a != s.b.anchor | none => false
  if bad then ({ c1 with vx := (c1.vx.setSd n ⟨e0, b1⟩).record 2 r.word.toNat }, { sovf := ov0 }, true)
  else
    let (e1, ov) := e0.combine w
    ({ c1 with vx := c1.vx.setSd n ⟨e1, b1⟩ }, { sovf := ov0 || ov }, false)

/-! Beats -/

/-- R139: the mode in which an operation uses the shadow. -/
def shModeOf (k : VKind) (o : VOpW) : Nat :=
  match k with
  | .arith .. => 1
  | .fma _ => 1
  | .int _ => 1
  | .cvt .. => if o.vd = o.vs then 1 else 0
  | .trans .. => if o.vd = o.vs then 1 else 0
  | .compress => if o.vd = o.vs then 2 else 0
  | .expand => if o.vd = o.vs then 2 else 0
  | _ => 0

/-- R138: Lane-local and Cross-beat operations may be suspended, Reduction and Special ones not. -/
def suspendable : VKind → Bool
  | .rsum _ => false | .rdot _ => false | .rout => false | .rspill => false | .rcomb => false | .fsum => false
  | .shst => false | .shld => false | _ => true

/-- R139: the pre-image of a beat at or above HIBEAT saved. -/
def Vx.savePre (x : Vx) (r : VxRun) (k : VKind) (o : VOpW) : Vx :=
  if r.shmode = 1 ∧ r.hibeat ≤ r.beat then
    let n := savedPerBeat k r.lsd
    { x with shadow := (span (r.beat * n) n).foldl (fun t i => Tbl.set t i (x.slot o.vd i)) x.shadow }
  else x

/-- Results of a lane-local beat written over the active elements, all sources read first. -/
def Vx.lanes (x : Vx) (r : VxRun) (k : VKind) (o : VOpW) (hd : Bool) (f : Nat → Elem) : Vx × Flags :=
  let res := (x.active k r.lsd o r.beat).map fun i => (i, f i)
  let x1 := x.savePre r k o
  (res.foldl (fun (y : Vx) (p : Nat × Elem) => y.setElem hd o.vd p.1 p.2.code) x1, Flags.all (res.map fun p => p.2.fl))

/-- One beat of a lane-local arithmetic operation (R130, R206, R207, R208). -/
def Vx.laneBeat (x : Vx) (r : VxRun) (k : VKind) (o : VOpW) : Vx × Flags :=
  let s (h : Bool) (reg i : Nat) : Nat := x.srcElem r k o h reg i
  match k with
  | .arith op h => x.lanes r k o h fun i => arithElem (if h then fmtBf16 else fmtF32) op (s h o.vd i) (s h o.vs i)
  | .fma h => x.lanes r k o h fun i => fmaElem (if h then fmtBf16 else fmtF32) (s h o.vd i) (s h o.vs i) (s h (o.vs + 1) i)
  | .int op => x.lanes r k o false fun i => ⟨(intElem op (BitVec.ofNat 32 (s false o.vd i)) (BitVec.ofNat 32 (s false o.vs i))).toNat, {}⟩
  | .bcast => x.lanes r k o false fun _ => ⟨r.gval.toNat % 2 ^ 32, {}⟩
  | .trans f h => x.lanes r k o h fun i => if h then transH f (s true o.vs i) else transF f (s false o.vs i)
  | .cvt narrow f16 =>
    let p := lsdPack r.lsd
    if narrow then x.lanes r k o p fun i => cvtElem true f16 (lsdSat r.lsd) (s false o.vs i)
    else x.lanes r k o false fun i => cvtElem false f16 (lsdSat r.lsd) (if p then s true o.vs i else s false o.vs i % 65536)
  | .cmp cc ty =>
    let res := (x.active k r.lsd o r.beat).map fun i => (i, cmpElem cc ty (s (ty == 1) o.vd i) (s (ty == 1) o.vs i))
    (res.foldl (fun (y : Vx) (p : Nat × Bool × Flags) => y.setMaskBit (o.vd % 8) p.1 p.2.1) x, Flags.all (res.map fun p => p.2.2))
  | _ => (x, {})

/-- An element of the shadow in 32-bit or 16-bit form. -/
def Vx.shElem (x : Vx) (h : Bool) (i : Nat) : Nat :=
  if h then (let t := Tbl.get 0 x.shadow (i / 2); if i % 2 = 0 then bits t 15 0 else bits t 31 16) else (Tbl.get 0 x.shadow i).toNat

def Vx.setShElem (x : Vx) (h : Bool) (i code : Nat) : Vx :=
  { x with shadow :=
      if h then (let t := Tbl.get 0 x.shadow (i / 2); Tbl.set x.shadow (i / 2) (if i % 2 = 0 then put t 15 0 code else put t 31 16 code))
      else Tbl.set x.shadow i (BitVec.ofNat 32 code) }

/-- R134, R139: one beat of VCOMPRESS or VEXPAND, in the compute phase or the copy phase. -/
def Vx.crossBeat (x : Vx) (r : VxRun) (k : VKind) (o : VOpW) : Vx :=
  let h := is16 k r.lsd
  let n := perBeat k r.lsd
  let lo := r.beat * n
  let before := x.activeBefore k r.lsd o r.beat
  let total := x.activeBefore k r.lsd o (beatsOf k r.lsd o.count)
  let act := x.active k r.lsd o r.beat
  let comp : Bool := match k with | .compress => true | _ => false
  let last := r.beat + 1 = beatsOf k r.lsd o.count
  -- (destination, source) element pairs of this beat
  let moves := act.mapIdx fun j i => if comp then (before + j, x.srcElem r k o h o.vs i) else (i, x.srcElem r k o h o.vs (before + j))
  if r.phase = 0 then
    if r.shmode = 2 then
      let x1 := moves.foldl (fun (y : Vx) (p : Nat × Nat) => y.setShElem h p.1 p.2) x
      { x1 with optr := before + act.length }
    else
      let x1 := moves.foldl (fun (y : Vx) (p : Nat × Nat) => y.setElem h o.vd p.1 p.2) { x with optr := before + act.length }
      if comp && last then (span total (o.count - total)).foldl (fun y i => y.setElem h o.vd i 0) x1 else x1
  else
    let dst := if comp then span lo (Nat.min n (o.count - lo)) else act
    dst.foldl (fun y i => y.setElem h o.vd i (if comp && decide (total ≤ i) then 0 else x.shElem h i)) x

/-- R141: one beat of VSHST or VSHLD: 8 lines, then the output pointer. -/
def Cluster.shadowBeat (c : Cluster) (r : VxRun) (load : Bool) : Cluster :=
  let base := bits r.gval 24 0
  if r.beat < 32 then
    let ps := pieces base 8 (r.beat * 512) 512
    if load then
      let (bs, c1) := c.rdAll 3 ps
      let ws := (fieldsOf 32 128 (leNat bs)).mapIdx fun i w => (r.beat * 128 + i, w)
      let sh := ws.foldl (fun t (p : Nat × Nat) => Tbl.set t p.1 (BitVec.ofNat 32 p.2)) c1.vx.shadow
      { c1 with vx := { c1.vx with shadow := sh } }
    else
      let bs := leBytes 512 (packFields 32 ((span (r.beat * 128) 128).map fun i => (Tbl.get 0 c.vx.shadow i).toNat))
      (ps.foldl (fun (st : Cluster × List Byte) (p : Nat × Nat) => (st.1.wr 2 p.1 (st.2.take p.2), st.2.drop p.2)) (c, bs)).1
  else
    let a := planeAddr base 8 16384
    if load then
      let (bs, c1) := c.rd 3 a 8
      { c1 with vx := { c1.vx with optr := leNat bs % 8192 } }
    else c.wrWhole a (leBytes 8 c.vx.optr)

/-- R146: VXE_PROGRESS as it stands for a running operation. -/
def progressWord (valid : Bool) (r : VxRun) (optr : Nat) : Word :=
  BitVec.ofNat 64 (flg 63 valid + fld 62 r.phase + fld 60 r.shmode + fld 54 r.beat + fld 41 optr + fld 32 r.hibeat + r.word.toNat)

/-- R141: VSHST and VSHLD leave the record of a suspended operation alone. -/
def shadowOp (k : VKind) : Bool := match k with | .shst => true | .shld => true | _ => false

/-- R146: VXE_PROGRESS as a beat or an issue leaves it. -/
def Vx.noteProgress (x : Vx) (k : VKind) (valid : Bool) (r : VxRun) : Vx :=
  if shadowOp k then x else { x with progress := progressWord valid r x.optr }

/-- R144: the events that a completed operation raises. -/
def Cluster.vxeEvents (c : Cluster) (r : VxRun) : Cluster :=
  let c1 := if r.sovf && c.vx.even.getLsbD 2 then c.pendCause .soundingOvf 0 else c
  let c2 := if r.sinv && c.vx.even.getLsbD 3 then c1.pendCause .shoalInvalid 0 else c1
  if r.deferred then c2.pendCause .anchorMismatch 1 else c2

/-- R131, R138: the effect of the running operation's next beat, without the advance. Reductions act at their last beat. -/
def Cluster.beatEffect (c : Cluster) (r : VxRun) (k : VKind) (o : VOpW) : Cluster × Flags × Bool :=
  let last := r.beat + 1 = beatsOf k r.lsd o.count
  let vx2 (p : Vx × Flags) : Cluster × Flags × Bool := ({ c with vx := p.1 }, p.2, false)
  match k with
  | .ld => let (d, f) := c.ldBeat r o; (d, f, false)
  | .st => let (d, f) := c.stBeat r o; (d, f, false)
  | .compress => ({ c with vx := c.vx.crossBeat r k o }, {}, false)
  | .expand => ({ c with vx := c.vx.crossBeat r k o }, {}, false)
  | .shst => (c.shadowBeat r false, {}, false)
  | .shld => (c.shadowBeat r true, {}, false)
  | .rsum op => if last then vx2 (c.vx.reduce r k op o) else (c, {}, false)
  | .rdot op => if last then vx2 (c.vx.reduce r k op o) else (c, {}, false)
  | .rout => if last then vx2 (c.vx.rout r o) else (c, {}, false)
  | .rspill => if last then (let (d, f) := c.rspill r o; (d, f, false)) else (c, {}, false)
  | .rcomb => if last then c.rcomb r o else (c, {}, false)
  | .fsum => if last then (let (s, f) := c.vx.fsum r o; ({ c with vx := c.vx.setSlot o.vd 0 (BitVec.ofNat 32 s) }, f, false)) else (c, {}, false)
  | _ => vx2 (c.vx.laneBeat r k o)

/-- R134, R139: the phases a run still has after its last beat of this one. -/
def copyPhaseDue (r : VxRun) (k : VKind) : Bool :=
  r.shmode == 2 && r.phase == 0 && (match k with | .compress => true | .expand => true | _ => false)

/-- R138: the running vector operation commits one beat; a suspension asked for takes effect at this commit. -/
def Cluster.commitBeat (c : Cluster) : Cluster :=
  match c.vx.run with
  | none => c
  | some r =>
    let o := decVec r.word
    match vkindOf o.vop with
    | none => c
    | some k =>
      let (c1, f, bad) := c.beatEffect r k o
      let r1 := { r with beat := r.beat + 1, hibeat := if r.shmode = 1 then Nat.max r.hibeat (r.beat + 1) else r.hibeat,
                         sinv := r.sinv || f.sinv, sovf := r.sovf || f.sovf, deferred := r.deferred || bad }
      let x0 := if f.sovf then c1.vx.record 4 r.word.toNat else c1.vx
      let x1 := { x0 with stat := x0.stat ||| f.vxe }
      let atEnd := r1.beat ≥ beatsOf k r.lsd o.count
      if atEnd && !copyPhaseDue r k then
        let x2 := ({ x1 with run := none }).noteProgress k false r1
        let c2 := { c1 with vx := x2 }
        let c3 := match k with
          | .compress => { c2 with sq := c2.sq.setG o.vd (BitVec.ofNat 64 (c.vx.activeBefore k r.lsd o (beatsOf k r.lsd o.count))) }
          | _ => c2
        c3.vxeEvents r1
      else
        let r2 := if atEnd then { r1 with beat := 0, phase := 1 } else r1
        if r2.stopReq && c.sq.inh && suspendable k then
          { c1 with vx := ({ x1 with run := none, heldSinv := r2.sinv }).noteProgress k true r2 }
        else { c1 with vx := ({ x1 with run := some r2 }).noteProgress k false r2 }

/-- R128, R131, R139, R146: a vector operation issued to the idle engine, its output pointer 0; COUNT 0 executes nothing. -/
def Vx.issue (x : Vx) (w : Word32) (gval : Word) : Vx :=
  let o := decVec w
  match vkindOf o.vop with
  | none => x
  | some k =>
    if o.count = 0 then x else
    let r : VxRun := { word := w, lsd := x.lsd, rdesc := x.rdesc, gval := gval, shmode := shModeOf k o }
    ({ x with run := some r, optr := if shadowOp k then x.optr else 0 }).noteProgress k false r

/-- R140, R144: the recorded operation resumed from VXE_PROGRESS, with the event that its beats have set; OPTR of VCOMPRESS and VEXPAND is
recomputed from the mask, and VXE_PROGRESS shows it (R146). SHMODE 3 is treated as 0. -/
def Vx.resume (x : Vx) (gval : Word) : Vx :=
  let p := x.progress
  let w := BitVec.ofNat 32 (bits p 31 0)
  let o := decVec w
  match vkindOf o.vop with
  | none => { x with progress := putBit p 63 false, resumeDue := false }
  | some k =>
    if o.count = 0 then { x with progress := putBit p 63 false, resumeDue := false } else
    let sh := if bits p 61 60 = 3 then 0 else bits p 61 60
    let ph := bits p 62 62
    let r : VxRun := { word := w, lsd := x.lsd, rdesc := x.rdesc, gval := gval, beat := bits p 59 54, phase := ph, shmode := sh, hibeat := bits p 37 32,
                       sinv := x.heldSinv }
    let op := if ph = 1 then x.activeBefore k x.lsd o (beatsOf k x.lsd o.count) else x.activeBefore k x.lsd o (bits p 59 54)
    let cross : Bool := match k with | .compress => true | .expand => true | _ => false
    ({ x with run := some r, optr := (if cross then op else if shadowOp k then x.optr else bits p 53 41), progress := putBit p 63 false, heldSinv := false, resumeDue := false }).noteProgress k false r

/-- R149: VXE_CEIL read: the value, and the register cleared. -/
def Vx.readCeil (x : Vx) : Nat × Vx := (x.ceil, { x with ceil := 0 })

end Sys2Proof.Machine
end

