-- ==== Sys2Proof/Machine/Csr.lean ====
section
/-!
DEFINITION. The registers of a cluster's own control window: reads, writes and access codes (spec 00 R16, 04 R119 to R124,
05 R142 to R149, R155 to R158, 06 R183 to R189, 07 R200, 08 R243 to R248, 15 R452 to R454). Offsets are those of the
window of 01 R28.
-/
namespace Sys2Proof.Machine

/-- R188: moves outstanding. -/
def Sqr.outMoves (q : Sqr) : Nat := q.moves.length

/-- R184: SQR_STAT. -/
def Sqr.statWord (q : Sqr) : Nat :=
  flg 5 q.nest + flg 4 q.halted + flg 3 q.inh + flg 2 (match q.hold with | .sync .. => true | _ => false) + flg 1 q.run + flg 0 q.done

/-- R187: SQR_CAUSE. -/
def Sqr.causeWord (q : Sqr) : Nat :=
  fld 32 ((q.pend.map fun p => 2 ^ p.1.code).sum) + fld 16 q.causeSub + q.causeCode

/-- R120: MXE_STAT with its running and queued bits; ABUSY and RBUSY read 1 from the cycle in which an operation takes the running place,
its fill and its wait for a bank included (log entry 68). -/
def Mx.statWord (x : Mx) : Nat :=
  x.stat.toNat + flg 15 x.arr.isSome + flg 14 x.arrQ.isSome + flg 13 x.ro.isSome + flg 12 x.roQ.isSome

/-- R123: one byte of MXE_BANK. -/
def Mx.bankByte (x : Mx) (b : Nat) : Nat :=
  let k := x.bank b
  let es := (x.acc.filter fun (i, _) => i / 2048 == b).map (·.2)
  flg 7 k.valid + fld 4 (match k.cut with | none => 0 | some c => c / 32 + 1) + flg 3 (es.any (·.sat))
    + flg 2 (es.any fun e => e.tag != .finite) + flg 1 (x.ops.any fun o => o.op.banks.contains b)

def Mx.bankWord (x : Mx) : Nat := ((List.range 4).map fun b => fld (8 * b) (x.bankByte b)).sum
def Mx.anchWord (x : Mx) : Nat :=
  ((List.range 4).map fun b => if (x.bank b).valid then fld (16 * b) (lowBits 16 (x.bank b).anchor) else 0).sum

/-- R156: SXC_STAT. -/
def Sx.thread (s : Sx) (t : Nat) : Thread := Tbl.get {} s.thr t
def Sx.statWord (s : Sx) : Nat :=
  let f (lo : Nat) (p : Thread → Bool) : Nat := ((List.range 8).map fun t => flg (lo + t) (p (s.thread t))).sum
  flg 24 s.gidx + f 16 (·.faulted) + f 8 (·.run) + f 0 (·.done)

/-- R244: SPD_STAT. -/
def Spd.statWord (s : Spd) : Nat := s.stat.toNat + flg 10 s.zRun + flg 9 s.repair.isSome

/-- R247: SPD_REPAIR. -/
def repairFields (r : Repair) : Nat := fld 60 r.spare + fld 50 r.col + fld 46 r.sub + fld 39 r.bank
def Spd.repairWord (s : Spd) : Nat :=
  match s.repair with
  | some r => 2 ^ 63 + flg 62 (s.lastRepair.getLsbD 62) + repairFields r
  | none => s.lastRepair.toNat % 2 ^ 63

/-- R247: SPD_SCRUB: passes, and the lowest line index reached over the banks: the next line to read, at most 4,095 (DESIGN CHOICE, log entry
77). -/
def Spd.scrubWord (s : Spd) : Nat :=
  fld 32 (s.passes % 2 ^ 32) + ((List.range 96).map fun b => Tbl.get 0 s.lines b).foldl Nat.min 4095

/-- R248: WEIR_STAT and one WEIR_RANGE register. -/
def Spd.weirStat (s : Spd) : Nat :=
  fld 17 (Nat.min 31 s.weirWait.length) + flg 16 (decide (s.weir.length ≥ 16)) + (s.weir.map fun p => 2 ^ (p.1 % 16)).sum
def Spd.weirRange (s : Spd) (n : Nat) : Nat :=
  match Tbl.get? s.weir n with
  | some w => 2 ^ 63 + flg 62 w.out + fld 59 w.owner + fld 25 w.len + w.base
  | none => 0

/-- A CSR's value, and the cluster after the read: RC fields are cleared (R200). `mer` answers the Meridian copies of
13 R400, which follow the die and not the cluster. -/
def csrRead (kind : Nat) (mer : Nat → Nat) (c : Cluster) (off : Nat) : Nat × Cluster :=
  let q := c.sq
  let same (v : Nat) : Nat × Cluster := (v, c)
  if off = 0x10000 then same q.statWord
  else if off = 0x10008 then same (flg 1 q.stopPend)
  else if off = 0x10010 then same q.pc
  else if off = 0x10018 then same q.tvec
  else if off = 0x10020 then same q.epc
  else if off = 0x10028 then same q.causeWord
  else if off = 0x10030 then same (flg 0 q.ienDb)
  else if off = 0x10038 then same q.land.toNat
  else if off = 0x10040 then same q.ebase.toNat
  else if off = 0x10048 then same q.ovr.toNat
  else if off = 0x10050 then same q.outMoves
  else if 0x20000 ≤ off ∧ off < 0x30000 ∧ kind = 0 then
    let r := off - 0x20000
    if r = 0 then same c.mx.statWord
    else if r = 8 then same c.mx.even.toNat
    else if r = 0x10 then same c.mx.fault.toNat
    else if r = 0x18 then same c.mx.bankWord
    else if r = 0x20 then same c.mx.anchWord
    else if r = 0x28 then (c.mx.ceil, { c with mx := c.mx.readCeil.2 })
    else same 0
  else if 0x20000 ≤ off ∧ off < 0x30000 ∧ kind = 1 then
    let r := off - 0x20000
    if r = 0 then same (c.vx.stat.toNat + flg 15 c.vx.run.isSome)
    else if r = 8 then same c.vx.even.toNat
    else if r = 0x10 then same c.vx.fault.toNat
    else if r = 0x18 then same c.vx.progress.toNat
    else if r = 0x20 then same c.vx.lsd.toNat
    else if r = 0x28 then same c.vx.rdesc.toNat
    else if r = 0x30 then (c.vx.ceil, { c with vx := c.vx.readCeil.2 })
    else same 0
  else if 0x20000 ≤ off ∧ off < 0x30000 then
    let r := off - 0x20000
    if r = 0 then same c.sx.statWord
    else if r = 8 then same (((List.range 8).map fun t => flg (8 + t) (c.sx.thread t).stopPend).sum)
    else if r = 0x10 then same c.sx.fault.toNat
    else if 0x40 ≤ r ∧ r < 0x80 ∧ r % 8 = 0 then same ((c.sx.thread ((r - 0x40) / 8)).pc)
    else same 0
  else if 0x30000 ≤ off ∧ off < 0x40000 then
    let r := off - 0x30000
    if r = 0 then same c.spd.statWord
    else if r = 8 then same (flg 4 c.spd.scrubEn + c.spd.scrubDiv)
    else if r = 0x10 then (c.spd.ceCnt, { c with spd := { c.spd with ceCnt := 0 } })
    else if r = 0x18 then (c.spd.ueCnt, { c with spd := { c.spd with ueCnt := 0 } })
    else if r = 0x20 then same c.spd.fault.toNat
    else if r = 0x28 then same c.spd.scrubWord
    else if r = 0x30 then same c.spd.repairWord
    else same 0
  else if 0x40000 ≤ off ∧ off < 0x50000 then
    let r := off - 0x40000
    if r = 0 then same c.spd.weirStat
    else if r = 8 then (c.spd.stall, { c with spd := { c.spd with stall := 0 } })
    else if 0x40 ≤ r ∧ r < 0xC0 ∧ r % 8 = 0 then same (c.spd.weirRange ((r - 0x40) / 8))
    else same 0
  else if 0x50000 ≤ off ∧ off < 0x60000 then same (mer (off - 0x50000))
  else if 0x60000 ≤ off ∧ off < 0x70000 then
    let r := off - 0x60000
    if r = 0 then same c.chn.cur
    else if r = 8 then same c.chn.ytp.toNat
    else if r = 0x10 then same c.chn.ystat
    else if r = 0x18 then same c.chn.ydl.toNat
    else if r = 0x20 then same c.chn.pltFault.toNat
    else if r = 0x28 then same c.chn.pltAddr.toNat
    else same 0
  else same 0

/-- R16: a W1C write: each bit of `mask` written 1 clears. -/
def w1c {n : Nat} (x : BitVec n) (v mask : Nat) : BitVec n := x &&& ~~~(BitVec.ofNat n v &&& BitVec.ofNat n mask)

/-- R184: START while the sequencer is stopped: NEST, HALTED and DONE cleared, the engines released. -/
def Sqr.start (q : Sqr) : Sqr :=
  if q.run then q else { q with run := true, nest := false, halted := false, done := false, stopPend := false, engHold := false, startWait := true, startAt := 0, hold := .none, wait := 0 }

/-- R184: STOP: the sequencer stops at its next issue point; a stopped sequencer is left as it is. -/
def Sqr.askStop (q : Sqr) : Sqr := if q.run then { q with stopPend := true } else q

/-- R157: START of a thread. -/
def Thread.start (t : Thread) : Thread :=
  if t.run then t else { t with run := true, faulted := false, done := false, stopPend := false, hold := .none }
def Thread.askStop (t : Thread) : Thread := if t.run then { t with stopPend := true } else t

def Sx.modThread (s : Sx) (t : Nat) (f : Thread → Thread) : Sx := { s with thr := Tbl.mod {} s.thr t f }

/-- R157: a write of SXC_TCTL. -/
def Sx.writeTctl (s : Sx) (v : Nat) : Sx :=
  (List.range 8).foldl (fun s t =>
    if (v >>> (8 + t)) % 2 = 1 then s.modThread t Thread.askStop
    else if (v >>> t) % 2 = 1 then s.modThread t Thread.start else s) s

/-- R146: the fields of VXE_PROGRESS that hold a written value. -/
def progressMask : Nat := 0xFFFFFE3FFFFFFFFF

/-- R16, R200, R243: a write to a register of the window; `by_` is none for a sequencer's own. SPD_CTL takes a write of the Lockkeeper or of an
expert object, CHN_YTP of the Surveyor (15 R452). -/
def csrWrite (kind : Nat) (by_ : Option Writer) (c : Cluster) (off v : Nat) : Cluster :=
  let q := c.sq
  if off = 0x10000 then { c with sq := { q with done := q.done && v % 2 = 0 } }
  else if off = 0x10008 then { c with sq := if (v >>> 1) % 2 = 1 then q.askStop else if v % 2 = 1 then q.start else q }
  else if off = 0x10010 then (if q.run then c else { c with sq := { q with pc := (v % 2 ^ 25) / 16 * 16 } })
  else if off = 0x10018 then { c with sq := { q with tvec := (v % 2 ^ 25) / 16 * 16 } }
  else if off = 0x10020 then (if q.inh then { c with sq := { q with epc := (v % 2 ^ 25) / 16 * 16 } } else c)
  else if off = 0x10028 then { c with sq := { q with pend := q.pend.filter fun p => (v >>> (32 + p.1.code)) % 2 = 0 } }
  else if off = 0x10030 then { c with sq := { q with ienDb := v % 2 = 1 } }
  else if off = 0x10038 then { c with sq := { q with land := BitVec.ofNat 32 v } }
  else if off = 0x10040 then { c with sq := { q with ebase := BitVec.ofNat 64 v } }
  else if off = 0x10048 then { c with sq := { q with ovr := w1c q.ovr v (2 ^ 63) } }
  else if 0x20000 ≤ off ∧ off < 0x30000 ∧ kind = 0 then
    let r := off - 0x20000
    if r = 0 then { c with mx := { c.mx with stat := w1c c.mx.stat v 0x7E } }
    else if r = 8 then { c with mx := { c.mx with even := BitVec.ofNat 32 v &&& 6 } }
    else if r = 0x10 then { c with mx := { c.mx with fault := w1c c.mx.fault v (2 ^ 63) } }
    else c
  else if 0x20000 ≤ off ∧ off < 0x30000 ∧ kind = 1 then
    let r := off - 0x20000
    if r = 0 then { c with vx := { c.vx with stat := w1c c.vx.stat v 0x1FC } }
    else if r = 8 then { c with vx := { c.vx with even := BitVec.ofNat 32 v &&& 12 } }
    else if r = 0x10 then { c with vx := { c.vx with fault := w1c c.vx.fault v (2 ^ 63) } }
    else if r = 0x18 then (if c.vx.run.isSome then c else { c with vx := { c.vx with progress := BitVec.ofNat 64 v &&& BitVec.ofNat 64 progressMask } })
    else if r = 0x20 then { c with vx := { c.vx with lsd := BitVec.ofNat 64 v } }
    else if r = 0x28 then { c with vx := { c.vx with rdesc := BitVec.ofNat 64 v } }
    else c
  else if 0x20000 ≤ off ∧ off < 0x30000 then
    let r := off - 0x20000
    if r = 0 then
      let s1 := { c.sx with gidx := c.sx.gidx && (v >>> 24) % 2 = 0 }
      { c with sx := (List.range 8).foldl (fun s t => if (v >>> t) % 2 = 1 then s.modThread t (fun h => { h with done := false }) else s) s1 }
    else if r = 8 then { c with sx := c.sx.writeTctl v }
    else if r = 0x10 then { c with sx := { c.sx with fault := w1c c.sx.fault v (2 ^ 63) } }
    else if 0x40 ≤ r ∧ r < 0x80 ∧ r % 8 = 0 then
      { c with sx := c.sx.modThread ((r - 0x40) / 8) fun t => if t.run then t else { t with pc := v % 2 ^ 25 } }
    else c
  else if 0x30000 ≤ off ∧ off < 0x40000 then
    let r := off - 0x30000
    if r = 0 then { c with spd := { c.spd with stat := w1c c.spd.stat v 0x90F } }
    else if r = 8 then (if by_.any Writer.owner then { c with spd := { c.spd with scrubEn := (v >>> 4) % 2 = 1, scrubDiv := v % 16 } } else c)
    else if r = 0x20 then { c with spd := { c.spd with fault := w1c c.spd.fault v (2 ^ 63) } }
    else if r = 0x30 then { c with spd := { c.spd with lastRepair := w1c c.spd.lastRepair v (2 ^ 62) } }
    else c
  else if 0x60000 ≤ off ∧ off < 0x70000 then
    let r := off - 0x60000
    if r = 8 then (if by_.any Writer.panel then { c with chn := { c.chn with ytp := BitVec.ofNat 64 v } } else c)
    else if r = 0x10 then { c with chn := { c.chn with ystat := if (v >>> 31) % 2 = 1 then c.chn.ystat % 2 ^ 31 else c.chn.ystat } }
    else if r = 0x20 then { c with chn := { c.chn with pltFault := w1c c.chn.pltFault v (2 ^ 63) } }
    else c
  else c

/-- R200: the RW fields of a register, which CSRS and CSRC change. -/
def csrRwMask (kind off : Nat) : Nat :=
  if off = 0x10010 ∨ off = 0x10018 ∨ off = 0x10020 then 0x1FFFFF0
  else if off = 0x10030 then 1
  else if off = 0x10038 then 0xFFFFFFFF
  else if off = 0x10040 then 0xFFFFFFFFFFFFFFFF
  else if off = 0x20008 ∧ kind = 0 then 6
  else if off = 0x20008 ∧ kind = 1 then 12
  else if off = 0x20018 ∧ kind = 1 then progressMask
  else if (off = 0x20020 ∨ off = 0x20028) ∧ kind = 1 then 0xFFFFFFFFFFFFFFFF
  else if 0x20040 ≤ off ∧ off < 0x20080 ∧ kind = 2 then 0x1FFFFFF
  else if off = 0x30008 then 0x1F
  else 0

/-- R200: CSRS (`set`) or CSRC on a register: only RW fields change, and RC fields are not cleared. -/
def csrSetClear (kind : Nat) (mer : Nat → Nat) (set : Bool) (c : Cluster) (off v : Nat) : Cluster :=
  let m := csrRwMask kind off
  if m = 0 then c else
  let cur := (csrRead kind mer c off).1
  let x := if set then Nat.lor cur v else cur - Nat.land cur v
  csrWrite kind none c off (Nat.land x m)

end Sys2Proof.Machine
end

