-- ==== Sys2Proof/Machine/SequencerCore.lean ====
section
/-!
DEFINITION. The scalar slot and traps of one cluster's sequencer, and the operations of an SX thread (spec 05 R150 to R158, 06
R159 to R189, 07 R197 to R205).
-/
namespace Sys2Proof.Machine

/-- R163: the fields of a scalar-slot word. -/
structure SWord where
  sop : Nat
  rd : Nat
  rs1 : Nat
  rs2 : Nat
  low : Nat
  imm : Nat
  off : Nat
  deriving DecidableEq, Repr

def decScalar (w : Word32) : SWord :=
  ⟨bits w 31 26, bits w 25 21, bits w 20 16, bits w 15 11, bits w 10 0, bits w 15 0, bits w 25 0⟩

/-- R163: words of the forms R, I and J. -/
def encR (sop : Nat) (rd rs1 rs2 : Reg) : Word32 :=
  BitVec.ofNat 32 (fld 26 sop + fld 21 rd.toNat + fld 16 rs1.toNat + fld 11 rs2.toNat)
def encI (sop : Nat) (rd rs1 : Reg) (imm : Half) : Word32 :=
  BitVec.ofNat 32 (fld 26 sop + fld 21 rd.toNat + fld 16 rs1.toNat + imm.toNat)
def encJ (sop : Nat) (off : BitVec 26) : Word32 := BitVec.ofNat 32 (fld 26 sop + off.toNat)

/-- The signed value of IMM (R163). -/
def immS (w : SWord) : Int := sext 16 w.imm

/-- R162: the opcodes each kind of issuer accepts: 0 MX, 1 VX, 2 SX sequencer, 3 SX thread. -/
def sopAllowed (kind sop : Nat) : Bool :=
  if kind = 0 then decide (sop ≤ 0x2F)
  else if kind ≤ 2 then decide (sop ≤ 0x25 ∨ (0x29 ≤ sop ∧ sop ≤ 0x2F))
  else decide (sop ≤ 0x21 ∨ sop = 0x29 ∨ sop = 0x2A ∨ sop = 0x2C ∨ (0x30 ≤ sop ∧ sop ≤ 0x3D))

/-- R164, R201: the operation is of form R, whose bits [10:0] must be 0. -/
def isFormR (sop : Nat) : Bool :=
  decide ((1 ≤ sop ∧ sop ≤ 0x0E) ∨ (0x17 ≤ sop ∧ sop ≤ 0x1F) ∨ (0x26 ≤ sop ∧ sop ≤ 0x28) ∨ sop = 0x2B ∨ sop = 0x2C
    ∨ sop = 0x34 ∨ (0x3A ≤ sop ∧ sop ≤ 0x3D))

/-- R163, R164, R201, R216: a must-be-0 bit is set. -/
def scalarMbz (w : Word32) : Bool :=
  let o := decScalar w
  let s := o.sop
  if s = 0 ∨ s = 0x2E ∨ s = 0x2F then decide (o.off ≠ 0)
  else (isFormR s && decide (o.low ≠ 0))
    || decide (s = 0x16 ∧ o.rs1 ≠ 0)
    || decide ((s = 0x1E ∨ s = 0x1F) ∧ o.rs2 ≠ 0)
    || decide (0x13 ≤ s ∧ s ≤ 0x15 ∧ o.imm ≥ 64)
    || decide (s = 0x26 ∧ o.rd ≥ 16)
    || decide ((s = 0x27 ∨ s = 0x28) ∧ o.rs1 ≥ 16)
    || decide (0x37 ≤ s ∧ s ≤ 0x39 ∧ o.imm % 1024 ≠ 0)
    || decide (s = 0x34 ∧ (o.rd ≠ 0 ∨ o.rs2 ≠ 0))
    || decide ((s = 0x3A ∨ s = 0x3D) ∧ (o.rd ≠ 0 ∨ o.rs1 ≠ 0 ∨ o.rs2 ≠ 0))
    || decide (s = 0x3B ∧ o.rs2 ≠ 0)
    || decide (s = 0x3C ∧ (o.rd ≠ 0 ∨ o.rs2 ≠ 0))

/-- R171: the lowest ILLEGAL_BUNDLE sub-code of a scalar slot for an issuer. -/
def scalarIllegal (kind : Nat) (w : Word32) : Option Nat :=
  let s := (decScalar w).sop
  if s = 0x3E ∨ s = 0x3F then some 1
  else if scalarMbz w then some 6
  else if !sopAllowed kind s then some 12
  else none

/-- R160: the g register that a scalar slot writes. -/
def scalarDest (w : Word32) : Option Nat :=
  let o := decScalar w
  let s := o.sop
  if (1 ≤ s ∧ s ≤ 0x20) ∨ s = 0x22 ∨ s = 0x27 ∨ s = 0x28 ∨ s = 0x2A then some o.rd else none

/-! Results (R198, R202 to R205) -/

/-- R198: the two-register integer operations, SOP 0x01 to 0x0E. -/
def aluR (sop : Nat) (a b : Word) : Word :=
  let lt (x y : Word) : Bool := decide (x.toInt < y.toInt)
  match sop with
  | 0x01 => a + b
  | 0x02 => a - b
  | 0x03 => a &&& b
  | 0x04 => a ||| b
  | 0x05 => a ^^^ b
  | 0x06 => a <<< (b.toNat % 64)
  | 0x07 => a >>> (b.toNat % 64)
  | 0x08 => a.sshiftRight (b.toNat % 64)
  | 0x09 => a * b
  | 0x0A => BitVec.ofNat 64 ((a.toNat * b.toNat) >>> 64)
  | 0x0B => if lt b a then b else a
  | 0x0C => if lt a b then b else a
  | 0x0D => if lt a b then 1 else 0
  | _ => if a.toNat < b.toNat then 1 else 0

/-- R198: the immediate operations, SOP 0x0F to 0x16; `old` is rd for LIH. -/
def aluI (sop : Nat) (a old : Word) (imm : Nat) : Word :=
  match sop with
  | 0x0F => a + BitVec.ofInt 64 (sext 16 imm)
  | 0x10 => a &&& BitVec.ofNat 64 imm
  | 0x11 => a ||| BitVec.ofNat 64 imm
  | 0x12 => a ^^^ BitVec.ofNat 64 imm
  | 0x13 => a <<< (imm % 64)
  | 0x14 => a >>> (imm % 64)
  | 0x15 => a.sshiftRight (imm % 64)
  | _ => (old <<< 16) ||| BitVec.ofNat 64 imm

/-- R205: binary32 to s64, nearest even, then clamped. -/
def fcvtfi (w : Nat) : Word :=
  match decIeee fmtF32 w with
  | .nan => 0
  | .inf neg => if neg then BitVec.ofNat 64 (2 ^ 63) else BitVec.ofNat 64 (2 ^ 63 - 1)
  | .fin neg m e =>
    let q := if 0 ≤ e then m <<< e.toNat else roundShift m (-e).toNat false
    if neg then (if q ≥ 2 ^ 63 then BitVec.ofNat 64 (2 ^ 63) else BitVec.ofInt 64 (-(q : Int)))
    else (if q ≥ 2 ^ 63 then BitVec.ofNat 64 (2 ^ 63 - 1) else BitVec.ofNat 64 q)

/-- R205: s64 to binary32. -/
def fcvtif (w : Word) : Nat := (roundFin fmtF32 false (decide (w.toInt < 0)) w.toInt.natAbs 0 false).code

/-- R202 to R205: the binary32 operations, SOP 0x17 to 0x1F. -/
def fpu (sop : Nat) (a b : Word) : Word :=
  let x := a.toNat % 2 ^ 32
  let y := b.toNat % 2 ^ 32
  let vx := decIeee fmtF32 x
  let vy := decIeee fmtF32 y
  match sop with
  | 0x17 => BitVec.ofNat 64 (arithElem fmtF32 .add x y).code
  | 0x18 => BitVec.ofNat 64 (arithElem fmtF32 .sub x y).code
  | 0x19 => BitVec.ofNat 64 (arithElem fmtF32 .mul x y).code
  | 0x1A => BitVec.ofNat 64 (arithElem fmtF32 .min x y).code
  | 0x1B => BitVec.ofNat 64 (arithElem fmtF32 .max x y).code
  | 0x1C => if vx.lt vy then 1 else 0
  | 0x1D => if vx.eq vy then 1 else 0
  | 0x1E => BitVec.ofNat 64 (fcvtif a)
  | _ => fcvtfi x

/-- The result of a register operation, SOP 0x01 to 0x1F. -/
def regResult (o : SWord) (a b old : Word) : Word :=
  if o.sop ≤ 0x0E then aluR o.sop a b else if o.sop ≤ 0x16 then aluI o.sop a old o.imm else fpu o.sop a b

/-! Addresses and targets -/

/-- R199: the address of LD and ST, modulo 2^64. -/
def ldstAddr (a : Word) (o : SWord) : Nat := (a + BitVec.ofInt 64 (immS o)).toNat

/-- R199: the refusal of LD or ST in a sequencer. -/
def ldstRefuse (addr : Nat) : Refuse :=
  if addr > 0x17FFFF8 then some (.addrBound, 0) else if addr % 8 ≠ 0 then some (.addrAlign, 0) else none

/-- R166: a transfer's target, and whether it is refused. -/
def targetRefuse (t : Int) : Refuse := if t < 0 ∨ t ≥ spdSize then some (.addrBound, 0) else none

def jmpTarget (pc : Nat) (o : SWord) : Int := pc + 16 * sext 26 o.off
def loopTarget (pc : Nat) (o : SWord) : Int := pc + 16 * immS o

/-- R166, R199: the address refusals of a scalar slot in a sequencer. -/
def scalarRefuse (q : Sqr) (w : Word32) : Refuse :=
  let o := decScalar w
  if o.sop = 0x20 ∨ o.sop = 0x21 then ldstRefuse (ldstAddr (q.gpr o.rs1) o)
  else if o.sop = 0x29 then targetRefuse (jmpTarget q.pc o)
  else if o.sop = 0x2A then (if q.gpr o.rd = 0 then none else targetRefuse (loopTarget q.pc o))
  else if o.sop = 0x2E then targetRefuse q.epc
  else none

/-- R163, R164: the g registers that a scalar slot reads. -/
def scalarReads (w : Word32) : List Nat :=
  let o := decScalar w
  let s := o.sop
  if (1 ≤ s ∧ s ≤ 0x0E) ∨ (0x17 ≤ s ∧ s ≤ 0x1D) ∨ s = 0x26 ∨ s = 0x2B then [o.rs1, o.rs2]
  else if (0x0F ≤ s ∧ s ≤ 0x15) ∨ s = 0x1E ∨ s = 0x1F ∨ s = 0x20 ∨ (0x23 ≤ s ∧ s ≤ 0x25) ∨ s = 0x2C then [o.rs1]
  else if s = 0x21 then [o.rs1, o.rd]
  else if s = 0x16 ∨ s = 0x2A then [o.rd]
  else []

/-- R131, R165: the g register that a running VCOMPRESS has still to write. -/
def Cluster.gPending (k : Cluster) : Option Nat :=
  match k.vx.run with
  | some r => if (decVec r.word).vop = 0x34 then some (decVec r.word).vd else none
  | none => none

/-- R131, R165: a read of g registers waits for the one that is still to be written. -/
def Cluster.gHeld (k : Cluster) (rs : List Nat) : Bool := k.gPending.any rs.contains

/-- R131, R165, R227, R228: issue of a scalar slot is held: a store finds no free entry, a load meets a partial overlap, or a register read
is still to be written. -/
def scalarHeld (k : Cluster) (w : Word32) : Bool :=
  let o := decScalar w
  k.gHeld (scalarReads w) ||
    (if o.sop = 0x21 then decide (k.sq.sb.length ≥ 8)
    else if o.sop = 0x20 then decide (sbLookup k.sq.sb (ldstAddr (k.sq.gpr o.rs1) o) 8 = .stall)
    else false)

/-- R233: the extents of a scalar slot. -/
def scalarExtents (q : Sqr) (w : Word32) : List Extent :=
  let o := decScalar w
  if o.sop = 0x20 then [⟨ldstAddr (q.gpr o.rs1) o, 8, false⟩]
  else if o.sop = 0x21 then [⟨ldstAddr (q.gpr o.rs1) o, 8, true⟩]
  else []

/-! Traps (R178 to R182) -/

/-- R178, R181: a cause entered at an issue point: EPC and CAUSE set, INH set, fetch at TVEC, every hold spent; a running
vector operation stops at its next commit (05 R138). A cause raised at issue inside a handler stops the sequencer with NEST. -/
def Cluster.enter (c : Cluster) (k : Cause) (sub : Nat) : Cluster :=
  let q := c.sq
  if q.inh then { c with sq := { q with run := false, nest := true, engHold := true, hold := .none, stopPend := false } }
  else
    { c with sq := { q with epc := q.pc, causeCode := k.code, causeSub := sub, inh := true, pc := q.tvec, hold := .none, wait := 0 },
             vx := { c.vx with run := c.vx.run.map fun r => { r with stopReq := true }, resumeDue := false } }

/-- R179: the pending cause entered first: the lowest order, then the lowest code (DEDUCED, log entry 15); a doorbell only
with SQR_IEN.DB. -/
def Sqr.nextPend (q : Sqr) : Option (Cause × Nat) :=
  (q.pend.filter fun p => p.1 != .doorbell || q.ienDb).foldl
    (fun best p => match best with
      | none => some p
      | some b => if p.1.order * 16 + p.1.code < b.1.order * 16 + b.1.code then some p else best) none

/-- R178 to R181: at an issue point, the highest-ordered pending cause is entered; none while INH is set. -/
def Cluster.enterPending (c : Cluster) : Cluster :=
  if c.sq.inh then c else
  match c.sq.nextPend with
  | some (k, sub) => ({ c with sq := { c.sq with pend := c.sq.pend.filter fun p => p.1 != k } }).enter k sub
  | none => c

/-- R174, R189: SCHED_OVERRUN raised: it pends, and SQR_OVR holds the first. -/
def Cluster.overrun (c : Cluster) (sub lcls pc : Nat) : Cluster :=
  let q := c.sq
  let o := if q.ovr.getLsbD 63 then q.ovr else BitVec.ofNat 64 (2 ^ 63 + fld 48 sub + fld 40 lcls + pc)
  { c with sq := { q with ovr := o } }.pendCause .schedOverrun sub

/-- R175, 13 R397: a SYNC at count `now`. A timed one is decided when every landing stamped at its deadline or before has been counted; one
without a deadline waits for its landings. -/
def Cluster.syncDue (k : Cluster) (now : Nat) : Cluster :=
  match k.sq.hold with
  | .sync d e pc =>
    let timed := d.toNat ≠ 2 ^ 64 - 1
    if timed && decide (now ≤ d.toNat) then k
    else if e.toNat ≤ k.sq.land.toNat then
      { k with sq := { k.sq with land := k.sq.land - e, hold := .none }, chn := { k.chn with ydl := d } }
    else if timed then ({ k with sq := { k.sq with hold := .none } }).overrun 2 0 pc
    else k
  | _ => k

/-- R176, 13 R397: a landing counted at count `now`; a SYNC whose deadline lies before it is decided first. -/
def Cluster.landed (k : Cluster) (now : Nat) : Cluster :=
  let k1 := match k.sq.hold with
    | .sync d _ _ => if d.toNat < now then k.syncDue now else k
    | _ => k
  { k1 with sq := { k1.sq with land := k1.sq.land + 1 } }

/-- R132, R140, R180: on return from a handler the recorded vector operation is rechecked and resumed; a refusal clears VALID and is entered;
a Weir range over its extents makes it wait, and so does an operation of the handler that still runs (R131). -/
def Cluster.resumeVx (c : Cluster) : Cluster :=
  let p := c.vx.progress
  if !p.getLsbD 63 then { c with vx := { c.vx with run := c.vx.run.map fun r => { r with stopReq := false }, resumeDue := false } }
  else if c.vx.run.isSome then { c with vx := { c.vx with run := c.vx.run.map fun r => { r with stopReq := false }, resumeDue := true } } else
  let w := BitVec.ofNat 32 (bits p 31 0)
  let g := c.sq.gpr (decVec w).vs
  let clear : Cluster := { c with vx := { c.vx with progress := putBit p 63 false, resumeDue := false } }
  match vecIllegal w c.vx.lsd c.vx.rdesc g with
  | some sub => clear.enter .illegalBundle sub
  | none =>
    match vecRefuse c.vx c.spd w g true with
    | some (k, sub) => ({ clear with vx := clear.vx.recordRefusal k w }).enter k sub
    | none =>
      if c.spd.weirStalls (vecExtents w c.vx.lsd c.vx.rdesc g) then { c with vx := { c.vx with resumeDue := true }, spd := c.spd.noteStall }
      else { c with vx := c.vx.resume g }

/-- R140, R232: the extents of a recorded vector operation. -/
def Cluster.suspendedExtents (c : Cluster) : List Extent :=
  let w := BitVec.ofNat 32 (bits c.vx.progress 31 0)
  if c.vx.progress.getLsbD 63 then vecExtents w c.vx.lsd c.vx.rdesc (c.sq.gpr (decVec w).vs) else []

/-! The scalar slot's effect -/

/-- The registers read come from `p`, the cluster before any slot of the bundle wrote (R160); the program counter is moved by
the transfers alone. `now` is the die's Meridian count. -/
def scalarExec (kind : Nat) (mer : Nat → Nat) (now : Nat) (p c : Cluster) (w : Word32) : Cluster :=
  let o := decScalar w
  let q := p.sq
  let a := q.gpr o.rs1
  let b := q.gpr o.rs2
  let d := q.gpr o.rd
  let s := o.sop
  if s = 0 then c
  else if s ≤ 0x1F then { c with sq := c.sq.setG o.rd (regResult o a b d) }
  else if s = 0x20 then
    let ad := ldstAddr a o
    match sbLookup q.sb ad 8 with
    | .forward v => { c with sq := c.sq.setG o.rd (BitVec.ofNat 64 v) }
    | _ =>
      let (bs, c1) := c.rd 4 ad 8
      { c1 with sq := c1.sq.setG o.rd (BitVec.ofNat 64 (leNat bs)) }
  else if s = 0x21 then { c with sq := { c.sq with sb := c.sq.sb ++ sbEntries (ldstAddr a o) 8 d.toNat } }
  else if s = 0x22 then
    let v := (csrRead kind mer p (o.imm * 8)).1
    let c1 := (csrRead kind mer c (o.imm * 8)).2
    { c1 with sq := c1.sq.setG o.rd (BitVec.ofNat 64 v) }
  else if s = 0x23 then csrWrite kind none c (o.imm * 8) a.toNat
  else if s = 0x24 then csrSetClear kind mer true c (o.imm * 8) a.toNat
  else if s = 0x25 then csrSetClear kind mer false c (o.imm * 8) a.toNat
  else if s = 0x26 then { c with mx := { c.mx with tdesc := Tbl.set c.mx.tdesc o.rd (a ++ b) } }
  else if s = 0x27 then { c with sq := c.sq.setG o.rd (BitVec.ofNat 64 (bits (p.mx.td o.rs1) 63 0)) }
  else if s = 0x28 then { c with sq := c.sq.setG o.rd (BitVec.ofNat 64 (bits (p.mx.td o.rs1) 127 64)) }
  else if s = 0x29 then { c with sq := { c.sq with pc := (jmpTarget q.pc o).toNat } }
  else if s = 0x2A then
    if d = 0 then c else { c with sq := { c.sq.setG o.rd (d - 1) with pc := (loopTarget q.pc o).toNat } }
  else if s = 0x2B then
    -- R175: late if the count is above D; otherwise the next bundle is held.
    if a.toNat ≠ 2 ^ 64 - 1 ∧ now > a.toNat then c.overrun 1 0 q.pc
    else { c with sq := { c.sq with hold := .sync a (BitVec.ofNat 32 b.toNat) q.pc } }
  else if s = 0x2C then { c with sq := { c.sq with hold := if a.toNat % 2 ^ 32 = 0 then .none else .waitc (a.toNat % 2 ^ 32) } }
  else if s = 0x2D then { c with sq := { c.sq with hold := .yield o.imm } }
  else if s = 0x2E then
    let c1 := { c with sq := { c.sq with inh := false, pc := q.epc } }
    if c1.sq.nextPend.isSome then c1.enterPending else c1.resumeVx
  else if s = 0x2F then { c with sq := { c.sq with run := false, done := true, stopPend := false } }
  else c

/-! SX threads (05 R150 to R158, 07 R201) -/

/-- R150: x0 reads 0 and ignores writes. -/
def Thread.reg (t : Thread) (r : Nat) : Word := if r = 0 then 0 else Tbl.get 0 t.x r
def Thread.setX (t : Thread) (r : Nat) (v : Word) : Thread := if r = 0 then t else { t with x := Tbl.set t.x r v }

def Cluster.thread (c : Cluster) (t : Nat) : Thread := c.sx.thread t
def Cluster.modThread (c : Cluster) (t : Nat) (f : Thread → Thread) : Cluster := { c with sx := c.sx.modThread t f }

/-- R158: a fault stops one thread, records SXC_FAULT if it is empty, and raises SX_FAULT. R171's sub-codes have no field there: code 0x01 is
recorded alone (DESIGN CHOICE, log entry 77). -/
def Cluster.sxFault (c : Cluster) (t code pc : Nat) : Cluster :=
  let c1 := c.modThread t fun h => { h with run := false, faulted := true, stopPend := false, hold := .none }
  let f := if c1.sx.fault.getLsbD 63 then c1.sx.fault else BitVec.ofNat 64 (2 ^ 63 + fld 56 t + fld 48 code + pc % 2 ^ 25)
  ({ c1 with sx := { c1.sx with fault := f } }).pendCause .sxFault 0

/-- The signed 64-bit or 32-bit value of the low bytes of a word. -/
def sAt (w : Nat) (v : Nat) : Int := sext (8 * w) v

/-- R152, R201: the address refusal of a thread's access of `n` bytes: ADDR_BOUND (code 2), or for an atomic ADDR_ALIGN
(code 3). -/
def thrAddrFault (ad n : Nat) (atomic : Bool) : Option Nat :=
  if ad + n > spdSize then some 2 else if atomic && ad % n != 0 then some 3 else none

/-- R152: all entries of a thread's store buffer written, oldest first. -/
def Cluster.drainAll (c : Cluster) (t : Nat) : Cluster :=
  let h := c.thread t
  let c1 := h.sb.foldl (fun (d : Cluster) e =>
    let (ue, s) := d.spd.drain e
    let d' := { d with spd := s }
    if ue then d'.stopAll else d') c
  c1.modThread t fun h => { h with sb := [] }

/-- R201: the size of LDX and STX. -/
def ldxSize (o : SWord) : Nat := 2 ^ (o.imm / 2 ^ 14)
def ldxAddr (a : Word) (o : SWord) : Nat := (a + BitVec.ofInt 64 (sext 14 o.imm)).toNat
def atomW (o : SWord) : Nat := if (o.imm >>> 10) % 2 = 1 then 8 else 4

/-- What an operation of a thread meets before it runs: a fault with its code, a hold, or nothing. -/
inductive ThrGate where
  | go
  | held
  | fault (code : Nat)
  deriving DecidableEq, Repr

/-- The memory access of a thread operation: address, length, write, atomic. -/
def thrAccess (h : Thread) (o : SWord) : Option (Nat × Nat × Bool × Bool) :=
  if o.sop = 0x20 then some (ldstAddr (h.reg o.rs1) o, 8, false, false)
  else if o.sop = 0x21 then some (ldstAddr (h.reg o.rs1) o, 8, true, false)
  else if o.sop = 0x35 then some (ldxAddr (h.reg o.rs1) o, ldxSize o, false, false)
  else if o.sop = 0x36 then some (ldxAddr (h.reg o.rs1) o, ldxSize o, true, false)
  else if 0x37 ≤ o.sop ∧ o.sop ≤ 0x39 then some ((h.reg o.rs1).toNat, atomW o, true, true)
  else none

/-- R166, R201: the target of a taken transfer of a thread, from the operation's own program counter (R158; log entry 61). -/
def thrTarget (h : Thread) (o : SWord) : Option Int :=
  let x := h.reg o.rd
  let y := h.reg o.rs1
  let br := some ((h.pc : Int) + 16 * immS o)
  if o.sop = 0x29 then some (jmpTarget h.pc o)
  else if o.sop = 0x2A then (if x = 0 then none else br)
  else if o.sop = 0x30 then (if x = y then br else none)
  else if o.sop = 0x31 then (if x ≠ y then br else none)
  else if o.sop = 0x32 then (if x.toInt < y.toInt then br else none)
  else if o.sop = 0x33 then (if x.toInt < y.toInt then none else br)
  else if o.sop = 0x34 then some (bits y 24 4 * 16 : Nat)
  else none

/-- R151, R158, R216, R227, R233: the checks of a thread operation before it runs. -/
def thrGate (c : Cluster) (t : Nat) (w : Word32) : ThrGate :=
  let h := c.thread t
  let o := decScalar w
  if (scalarIllegal 3 w).isSome then .fault 1
  else match thrTarget h o with
  | some x => if (targetRefuse x).isSome then .fault 2 else .go
  | none =>
    match thrAccess h o with
    | some (ad, n, wr, atomic) =>
      match thrAddrFault ad n atomic with
      | some k => .fault k
      | none =>
        if c.spd.weirStalls [⟨ad, n, wr⟩] then .held
        else if wr && !atomic then (if h.sb.length + (wordsOf ad n).length > 8 then .held else .go)
        else if !atomic && decide (sbLookup h.sb ad n = .stall) then .held
        else .go
    | none => .go

/-- R233, R248: a thread's operation that a Weir range holds counts in WEIR_STALL; one that its store buffer holds does not. -/
def Cluster.thrStall (c : Cluster) (t : Nat) (w : Word32) : Cluster :=
  match thrAccess (c.thread t) (decScalar w) with
  | some (ad, n, wr, _) => if c.spd.weirStalls [⟨ad, n, wr⟩] then { c with spd := c.spd.noteStall } else c
  | none => c

/-- The value a thread loads: forwarded from its own store buffer, or read on port 4. -/
def Cluster.thrLoad (c : Cluster) (t ad n : Nat) : Nat × Cluster :=
  match sbLookup (c.thread t).sb ad n with
  | .forward v => (v, c)
  | _ => let (bs, c1) := c.rd 4 ad n; (leNat bs, c1)

/-- R152, R201: an atomic: the buffer drained first, then one read and one write at the bank. `f` gives the new value. -/
def Cluster.atomic (c : Cluster) (t rd ad n : Nat) (f : Nat → Nat) : Cluster :=
  let c1 := c.drainAll t
  let (old, ue, s) := c1.spd.swap ad n f
  let c2 := { c1 with spd := s }
  (if ue then c2.stopAll else c2).modThread t fun h => h.setX rd (BitVec.ofNat 64 old)

/-- R198, R201 to R205: the effect of a thread operation that its gate let through, but for its program counter, gathers
and SXDONE. -/
def thrExec (c : Cluster) (t : Nat) (w : Word32) : Cluster :=
  let h := c.thread t
  let o := decScalar w
  let a := h.reg o.rs1
  let d := h.reg o.rd
  let s := o.sop
  let wd := atomW o
  let xs := (h.reg (o.imm / 2 ^ 11)).toNat % 2 ^ (8 * wd)
  if s = 0 then c
  else if s ≤ 0x1F then c.modThread t fun h => h.setX o.rd (regResult o a (h.reg o.rs2) d)
  else if s = 0x2A then (if d = 0 then c else c.modThread t fun h => h.setX o.rd (d - 1))
  else if s = 0x20 then let (v, c1) := c.thrLoad t (ldstAddr a o) 8; c1.modThread t fun h => h.setX o.rd (BitVec.ofNat 64 v)
  else if s = 0x21 then c.modThread t fun h => { h with sb := h.sb ++ sbEntries (ldstAddr a o) 8 d.toNat }
  else if s = 0x35 then let (v, c1) := c.thrLoad t (ldxAddr a o) (ldxSize o); c1.modThread t fun h => h.setX o.rd (BitVec.ofNat 64 v)
  else if s = 0x36 then c.modThread t fun h => { h with sb := h.sb ++ sbEntries (ldxAddr a o) (ldxSize o) d.toNat }
  else if s = 0x37 then c.atomic t o.rd a.toNat wd fun old => (old + xs) % 2 ^ (8 * wd)
  else if s = 0x38 then c.atomic t o.rd a.toNat wd fun old => if sAt wd old < sAt wd xs then xs else old
  else if s = 0x39 then c.atomic t o.rd a.toNat wd fun old => if old = d.toNat % 2 ^ (8 * wd) then xs else old
  else if s = 0x2C then c.modThread t fun h => { h with hold := if a.toNat % 2 ^ 32 = 0 then .none else .waitc (a.toNat % 2 ^ 32) }
  else if s = 0x3A then c.modThread t fun h => { h with hold := if h.sb.isEmpty then .none else .fence }
  else if s = 0x3C then
    c.modThread t fun h => { h with hold := if c.sx.gathers.any (fun g => g.ticket == a.toNat) then .ticket a else .none }
  else if s = 0x3D then c.modThread t fun h => { h with run := false, done := true, stopPend := false }
  else c

/-- The thread's program counter after an operation: the target of a taken transfer, or the next operation. -/
def thrNextPc (h : Thread) (w : Word32) : Nat :=
  match thrTarget h (decScalar w) with
  | some x => x.toNat
  | none => h.pc + 4

/-- R152, R153, R198: the hold of a thread is over; those of a WAITC are SX_GROUP_ISSUE commands, or are spent before an
operation that is issued alone (log entry 25). -/
def Cluster.holdOver (c : Cluster) (t : Nat) : Bool :=
  match (c.thread t).hold with
  | .none => true
  | .fence => (c.thread t).sb.isEmpty
  | .ticket k => !(c.sx.gathers.any fun g => g.ticket == k.toNat)
  | .waitc _ => true

/-- R198: a WAITC holds the thread for core cycles still to come; and the same, a cycle later. -/
def Thread.waits (h : Thread) : Bool := match h.hold with | .waitc k => k != 0 | _ => false
def Thread.tickWait (h : Thread) : Thread := match h.hold with | .waitc k => { h with hold := .waitc (k - 1) } | _ => h

/-- R151: the thread can issue. -/
def Cluster.thrReady (c : Cluster) (t : Nat) : Bool := (c.thread t).run && c.holdOver t

end Sys2Proof.Machine
end

