-- ==== Sys2Proof/Machine/BootState.lean ====
section
/-!
DEFINITION. The start, the service level, the reset input and the pins of the tray (spec 20, 24).
-/
namespace Sys2Proof.Machine

/-- R535 to R544. `part`: 1 to 5 the part that runs, 6 when the start is over, 0 when the panel is held; `level` is none where the panel
offers no service; `stopped` that level 0 holds until the next start; `wave` the next wave, `waveAt` when the last began; `cold` that this
start is a cold start; `portsOver` that the 10 s of part 4 are over; `resetAt` when PANEL_RESET_N last changed, `policy` what 0x2300 held
then. -/
structure Boot where
  part : Nat := 1
  partAt : Nat := 0
  level : Option Nat := some 0
  stopped : Bool := false
  restored : Bool := false
  cold : Bool := true
  wave : Nat := 0
  waveAt : Nat := 0
  reset : Bool := false
  resetAt : Nat := 0
  policy : Nat := 0
  stuck : Bool := false
  masked : Bool := false
  slotPresent : Bool := true
  tripLow : Bool := false
  portsOver : Bool := false
  deriving DecidableEq, Repr

end Sys2Proof.Machine
end

