-- ==== Sys2Proof/Config.lean ====
section
/-!
DEFINITION. What the spec leaves open: free values, of which nothing can be proved (log entry 6).
-/
namespace Sys2Proof.Config

/-- The bytes that a line of a stack decrypts to under a key other than the one it was written under (11 R323, R325), from its
panel line address, the two keys' numbers and the data written. -/
opaque wrongKeyLine : Nat → Nat → Nat → Nat → BitVec 512

/-- A value that the spec does not fix, fresh for each number of State's counter of free values. -/
opaque freeValue : Nat → Nat

/-- The bytes of a cryptographic value made by the Cartouche, fresh for each number of State's counter of free values (18). -/
opaque cryptoBytes : Nat → Nat → List Byte

/-- The digest of SHA-384 over a byte string (18 R504; FIPS 180-4 lies outside the spec). -/
opaque sha384 : List Byte → BitVec 384

/-- Whether a signature verifies under a public key for a digest: ECDSA P-384 (0) or ML-DSA-87 (1) (18 R504). -/
opaque sigOk : Nat → List Byte → BitVec 384 → List Byte → Bool

/-- The digest that firmware anchor slot `n` of the boot ROM fuses holds (18 R504). -/
opaque fwAnchor : Nat → BitVec 384

/-- The flit that SVY_MOVE names (10 R306: the spec does not say how the receiver chooses N), by braid and sequence number. -/
opaque surveyFlit : Nat → Nat → BitVec 12

/-- The TAG of a READ's answer (09 R255: it carries the READ's TAG, and no field of the READ holds one), by the READ's body. -/
opaque readTag : BitVec 128 → BitVec 16

/-- The cuts that the bytes of a chart's REDUCE section declare (06 R191 gives the section's contents no layout). -/
opaque reduceCuts : List Byte → List Nat

/-- DUNIT of a frame to an address of another panel (12 R344: no field of a packet tells which unit of that panel holds the plot). -/
opaque farUnit : Nat → Nat → BitVec 12

/-- The 802.1Qbb priority of an engine's Larre frames over Ethernet (12 R364 calls it configured; no object of the spec holds it). -/
opaque larrePriority : Nat → BitVec 3

/-- CONST values of the identity record 0x1018 that the spec leaves to the part (17 R493): vendor, device, subsystem and MAC. -/
opaque identity : Nat → Nat

end Sys2Proof.Config
end

