-- ==== Sys2Proof/Machine/CartoucheState.lean ====
section
/-!
DEFINITION. The Cartouche: its two instances, secrets, key paths and SPDM sessions (spec 18). Secrets are held as numbers that
name them; their bits are free.
-/
namespace Sys2Proof.Machine

/-- R517 to R519: one instance's registers. `state`: 0 self-testing, 1 operational, 2 error, 3 zeroizing, 4 end of life; `passed`
holds CTG_STEST bits [11:2]. -/
structure CtgUnit where
  state : Nat := 0
  stfail : Bool := false
  zdone : Bool := false
  kpfail : Bool := false
  testTick : Nat := 0
  passed : Nat := 0
  running : Bool := false
  pass : Bool := false
  err : Word := 0
  zTick : Nat := 0
  zCount : Nat := 0
  zCause : Nat := 0
  deriving DecidableEq, Repr

/-- R498, R506: an SPDM session: its endpoint, whether the handshake has finished, and the role it holds (0 none, 1 CO, 2 Host,
3 User). -/
structure SpdmSess where
  ep : Endpoint
  done : Bool := false
  role : Nat := 0
  deriving DecidableEq, Repr

/-- R502: a message of a key path: the receiving unit, OP, the message counter, the slot, and for a load the key. -/
structure KpMsg where
  unit : Nat
  op : Nat
  ctr : Nat
  slot : Nat
  key : Nat
  deriving DecidableEq, Repr

/-- R496 to R516. `tkeys` are the tenant keys held, `fwKeys` the four firmware keys by slot; `sent` the key-path messages sent at
this start; `kpLast` and `kpBad` each unit's last accepted counter and its refusals in a row; `meas` the digests recorded
by index, `sec` the security state of index 5; `zPend` a zeroization whose step 4 still runs. -/
structure Cartouche where
  units : Tbl CtgUnit := []
  spdm : Tbl SpdmSess := []
  tkeys : Tbl Nat := []
  fwKeys : Tbl Nat := []
  nextKey : Nat := 1
  startNo : Nat := 0
  nextCtr : Nat := 1
  sent : List KpMsg := []
  kpLast : Tbl Nat := []
  kpBad : Tbl Nat := []
  kpPassed : List Nat := []
  approved : Bool := false
  apprRefused : Bool := false
  fuse : Bool := false
  anchors : Tbl (List Byte) := []
  anchorsRevoked : Nat := 0
  fwRevoked : Nat := 0
  debug : Bool := false
  meas : Tbl Nat := []
  sec : Nat := 0
  eolAt : Option Nat := none
  endOfLife : Bool := false
  zPend : Option Nat := none
  deriving DecidableEq, Repr

def Cartouche.unit (c : Cartouche) (i : Nat) : CtgUnit := Tbl.get {} c.units i
def Cartouche.modUnit (c : Cartouche) (i : Nat) (f : CtgUnit → CtgUnit) : Cartouche := { c with units := Tbl.mod {} c.units i f }

/-- R518: an instance is operational. -/
def CtgUnit.up (u : CtgUnit) : Bool := u.state == 1

/-- R518: CTG_STAT of instance `i`. -/
def Cartouche.statWord (c : Cartouche) (i : Nat) : Nat :=
  let u := c.unit i
  fld 11 u.state + flg 10 c.approved + flg 9 c.fuse + flg 8 (c.unit (1 - i)).up + flg 7 u.stfail + flg 6 u.zdone
    + flg 5 u.kpfail + (c.spdm.filter fun (_, x) => x.done).length

/-- R518: CTG_STEST. -/
def CtgUnit.testWord (u : CtgUnit) : Nat := fld 32 u.testTick + fld 2 u.passed + flg 1 u.running + flg 0 u.pass

/-- R519: CTG_ZCAUSE. -/
def CtgUnit.zWord (u : CtgUnit) : Nat := fld 32 u.zTick + fld 16 u.zCount + u.zCause

/-- R519: the first failure since VALID was cleared. -/
def CtgUnit.fail (u : CtgUnit) (code test unit : Nat) : CtgUnit :=
  if u.err.getLsbD 63 then u else { u with err := BitVec.ofNat 64 (2 ^ 63 + fld 48 code + fld 40 test + unit) }

/-- R517: a write to a CTG register: only the W1C fields act. -/
def CtgUnit.write (u : CtgUnit) (off : Nat) (v : Nat) : CtgUnit :=
  let one (i : Nat) : Bool := (v >>> i) % 2 = 1
  if off = 0 then { u with stfail := u.stfail && !one 7, zdone := u.zdone && !one 6, kpfail := u.kpfail && !one 5 }
  else if off = 0x10 then { u with err := if one 63 then putBit u.err 63 false else u.err }
  else u

/-- R516: 0x7042. -/
def Cartouche.anchorWord (c : Cartouche) : Nat :=
  ((List.range 4).map fun k => flg k (Tbl.get? c.anchors k).isSome).sum + fld 4 c.anchorsRevoked

/-- R498: the role that a requester holds: its root stands in a slot that is not revoked, and its leaf carries a role value. -/
def Cartouche.roleOf (c : Cartouche) (r : Requester) : Nat :=
  let known := (List.range 4).any fun k =>
    !(c.anchorsRevoked >>> k) % 2 = 1 && decide ((Tbl.get? c.anchors k).map leNat = some r.root.toNat)
  if r.good && known && decide (1 ≤ r.role ∧ r.role ≤ 3) then r.role else 0

/-- R506: the lowest free SPDM session (which number: log entry 26); 16 at most. -/
def Cartouche.freeSpdm (c : Cartouche) : Option Nat := Tbl.lowestFree c.spdm 1 17

/-- R502: a message sent on a key path. -/
def Cartouche.send (c : Cartouche) (unit op slot key : Nat) : Cartouche :=
  { c with sent := c.sent ++ [⟨unit, op, c.nextCtr, slot, key⟩], nextCtr := c.nextCtr + 1 }

/-- R502: a unit acts only on a message whose tag verifies, that is one the Cartouche sent it, and whose counter exceeds the last
one it accepted. -/
def Cartouche.accepts (c : Cartouche) (m : KpMsg) : Bool := c.sent.contains m && decide (Tbl.get 0 c.kpLast m.unit < m.ctr)

def Cartouche.accept (c : Cartouche) (m : KpMsg) : Cartouche :=
  { c with kpLast := Tbl.set c.kpLast m.unit m.ctr, kpBad := Tbl.erase c.kpBad m.unit }

/-- R502: a refusal counted; the answer tells whether it is the third in a row. -/
def Cartouche.refuse (c : Cartouche) (unit : Nat) : Cartouche × Bool :=
  let n := Tbl.get 0 c.kpBad unit + 1
  if n ≥ 3 then ({ c with kpBad := Tbl.erase c.kpBad unit }, true) else ({ c with kpBad := Tbl.set c.kpBad unit n }, false)

/-- R511: the volatile secrets of the module overwritten. -/
def Cartouche.wipe (c : Cartouche) : Cartouche :=
  { c with spdm := [], tkeys := [], fwKeys := [], sent := [] }

/-- R519, R511: a zeroization recorded at both instances. -/
def Cartouche.noteZ (c : Cartouche) (tick cause : Nat) : Cartouche :=
  let f (u : CtgUnit) : CtgUnit := { u with zTick := tick % 2 ^ 32, zCount := satAdd 0xFFFF u.zCount 1, zCause := cause }
  (c.modUnit 0 f).modUnit 1 f

/-- R505: index 5. -/
def Cartouche.secState (c : Cartouche) (unsigned : Bool) : Nat :=
  flg 0 c.approved + flg 1 c.fuse + fld 2 c.fwRevoked + flg 6 c.debug + flg 7 unsigned

end Sys2Proof.Machine
end

