-- ==== Sys2Proof/Machine/FaultCodes.lean ====
section
/-!
DEFINITION. The fault and status codes of the panel (spec 23 R607).
-/
namespace Sys2Proof.Machine

/-- R607: the fault and status codes, by name. -/
inductive FCode where
  | ok | noObject | noSubindex | accessDenied | levelDenied | typeMismatch
  | lengthMismatch | valueRange | busy | sessionInvalid | sessionLimit | segmentInvalid
  | transferLimit | crcMismatch | roleDenied | approvedMode | notReady | noOperation
  | version | statusRefused | partitionInvalid | plotInvalid | plotBusy | tenantDenied
  | bindBusy | handleStale | roleConflict | roleStale | channelFull | partitionNone
  | queueOverrun | entryInvalid | halted | haltShort | catchmentStop | illegalBundle
  | illegalCount | tileDescInvalid | anchorMismatch | shoalInvalid | soundingOvf | vxSuspended
  | sxFault | schedOverrun | trapNested | gatherIndex | addrSpace | addrBound
  | addrAlign | lengthBound | chartInvalid | chartPanel | chartFloor | relocSlack
  | eccUncorrected | columnLoss | keyEmpty | channelLoss | nakLen | nakRoute
  | nakMode | nakPlot | nakHandle | e2eUnreachable | surveyBlocked | linkDown
  | selftestFail | keyPathFail | fwFormat | fwSignature | fwTestedWith | fwIfgen
  | fwOverride | fwRestart | gateDown | startStopped | resetStuck | psuUnknown
  | inputFault | railFaultUp | railFaultDown | railFault | integrityFail | domainFault
  | senseOpen | coreShed | fractureSuspect | clockLoss | marginLow | thermThrottle
  | thermBelowFloor | thermOut | thermTrip | powerLimit | statusChange | gradeShortfall
  | bookImbalance | zeroized | timeDiverge | resetAsserted | logOverflow
  deriving DecidableEq, Repr

/-- R607: the code numbers. -/
def FCode.num : FCode → Nat
  | .ok => 0x00 | .noObject => 0x01 | .noSubindex => 0x02 | .accessDenied => 0x03
  | .levelDenied => 0x04 | .typeMismatch => 0x05 | .lengthMismatch => 0x06 | .valueRange => 0x07
  | .busy => 0x08 | .sessionInvalid => 0x09 | .sessionLimit => 0x0A | .segmentInvalid => 0x0B
  | .transferLimit => 0x0C | .crcMismatch => 0x0D | .roleDenied => 0x0E | .approvedMode => 0x0F
  | .notReady => 0x10 | .noOperation => 0x11 | .version => 0x12 | .statusRefused => 0x20
  | .partitionInvalid => 0x21 | .plotInvalid => 0x22 | .plotBusy => 0x23 | .tenantDenied => 0x24
  | .bindBusy => 0x25 | .handleStale => 0x26 | .roleConflict => 0x27 | .roleStale => 0x28
  | .channelFull => 0x29 | .partitionNone => 0x2A | .queueOverrun => 0x2B | .entryInvalid => 0x2C
  | .halted => 0x2D | .haltShort => 0x2E | .catchmentStop => 0x2F | .illegalBundle => 0x30
  | .illegalCount => 0x31 | .tileDescInvalid => 0x32 | .anchorMismatch => 0x33 | .shoalInvalid => 0x34
  | .soundingOvf => 0x35 | .vxSuspended => 0x36 | .sxFault => 0x37 | .schedOverrun => 0x38
  | .trapNested => 0x39 | .gatherIndex => 0x3A | .addrSpace => 0x40 | .addrBound => 0x41
  | .addrAlign => 0x42 | .lengthBound => 0x43 | .chartInvalid => 0x48 | .chartPanel => 0x49
  | .chartFloor => 0x4A | .relocSlack => 0x4B | .eccUncorrected => 0x50 | .columnLoss => 0x51
  | .keyEmpty => 0x52 | .channelLoss => 0x53 | .nakLen => 0x58 | .nakRoute => 0x59
  | .nakMode => 0x5A | .nakPlot => 0x5B | .nakHandle => 0x5C | .e2eUnreachable => 0x5D
  | .surveyBlocked => 0x5E | .linkDown => 0x5F | .selftestFail => 0x60 | .keyPathFail => 0x61
  | .fwFormat => 0x62 | .fwSignature => 0x63 | .fwTestedWith => 0x64 | .fwIfgen => 0x65
  | .fwOverride => 0x66 | .fwRestart => 0x67 | .gateDown => 0x68 | .startStopped => 0x70
  | .resetStuck => 0x71 | .psuUnknown => 0x72 | .inputFault => 0x73 | .railFaultUp => 0x74
  | .railFaultDown => 0x75 | .railFault => 0x76 | .integrityFail => 0x77 | .domainFault => 0x78
  | .senseOpen => 0x79 | .coreShed => 0x7A | .fractureSuspect => 0x7B | .clockLoss => 0x80
  | .marginLow => 0x81 | .thermThrottle => 0x82 | .thermBelowFloor => 0x83 | .thermOut => 0x84
  | .thermTrip => 0x85 | .powerLimit => 0x86 | .statusChange => 0x88 | .gradeShortfall => 0x89
  | .bookImbalance => 0x8A | .zeroized => 0x8B | .timeDiverge => 0x8C | .resetAsserted => 0x8D
  | .logOverflow => 0x8E

/-- R607: codes 0x00 to 0x12, the statuses of a LAP response, are answers and raise no event that 0x8000 counts beyond
their own element; the codes below reach the fault log. -/
def FCode.logged (c : FCode) : Bool :=
  match c with
  | .queueOverrun => true | .haltShort => true | .catchmentStop => true | .trapNested => true
  | .relocSlack => true | .eccUncorrected => true | .columnLoss => true | .keyEmpty => true
  | .channelLoss => true | .e2eUnreachable => true | .surveyBlocked => true | .linkDown => true
  | .selftestFail => true | .keyPathFail => true | .fwFormat => true | .fwSignature => true
  | .fwTestedWith => true | .fwIfgen => true | .fwOverride => true | .fwRestart => true
  | .startStopped => true | .resetStuck => true | .psuUnknown => true | .inputFault => true
  | .railFaultUp => true | .railFaultDown => true | .railFault => true | .integrityFail => true
  | .domainFault => true | .senseOpen => true | .coreShed => true | .fractureSuspect => true
  | .clockLoss => true | .marginLow => true | .thermThrottle => true | .thermBelowFloor => true
  | .thermOut => true | .thermTrip => true | .powerLimit => true | .statusChange => true
  | .gradeShortfall => true | .bookImbalance => true | .zeroized => true | .timeDiverge => true
  | .resetAsserted => true | .logOverflow => true
  | _ => false

end Sys2Proof.Machine
end

