-- ==== Sys2Proof/Machine/GazState.lean ====
section
/-!
DEFINITION. The panel's grid, attachments and braids, and the Gazetteer (spec 01).
-/
namespace Sys2Proof

namespace Machine

/-! The grid (R21 to R25, R42) -/

def siteCol (s : Nat) : Nat := s % 16
def siteRow (s : Nat) : Nat := s / 16

/-- R21, R42: the mesh edges of a site: direction (0 N, 1 E, 2 S, 3 W), neighbour, and first braid of the edge. -/
def siteEdges (s : Nat) : List (Nat × Nat × Nat) :=
  let c := siteCol s
  let r := siteRow s
  (if 0 < r then [(0, s - 16, 1440 + ((r - 1) * 16 + c) * 8)] else [])
    ++ (if c < 15 then [(1, s + 1, (r * 15 + c) * 8)] else [])
    ++ (if r < 11 then [(2, s + 16, 1440 + (r * 16 + c) * 8)] else [])
    ++ (if 0 < c then [(3, s - 1, (r * 15 + c - 1) * 8)] else [])

def neighbours (s : Nat) : List Nat := (siteEdges s).map fun e => e.2.1

/-- R23: the home stack of a site. -/
def homeStack (s : Nat) : Nat := siteRow s / 2 * 8 + siteCol s / 2
/-- R23, 10 R309: the sites of a stack's home quad: NW, NE, SW, SE. -/
def homeSites (k : Nat) : List Nat :=
  let a := k / 8 * 2 * 16 + k % 8 * 2
  [a, a + 1, a + 16, a + 17]

/-- R25: the attachment site of an engine. -/
def engineSite (n : Nat) : Nat :=
  if n < 12 then 2 + n
  else if n < 24 then 176 + 2 + (n - 12)
  else if n < 30 then (3 + (n - 24)) * 16 + 15
  else if n < 33 then (n - 30) * 16
  else (9 + (n - 33)) * 16

/-- R25: the engine attached to a site. -/
def siteEngine (s : Nat) : Option Nat := (List.range 36).find? fun n => engineSite n == s

/-- R25: the attachment sites of Surveyor or host die `d` (0 SV-A, 1 SV-B, 2 H0, 3 H1), the lower first. -/
def dieSites (d : Nat) : List Nat :=
  if d = 0 then [48, 64] else if d = 1 then [112, 128] else if d = 2 then [64, 80] else [96, 112]

/-- R26: the attachment sites. -/
def isAttachment (s : Nat) : Bool := (siteEngine s).isSome || (List.range 4).any fun d => (dieSites d).contains s

/-- R42: the kind of a braid. -/
def braidKind (b : Nat) : Nat :=
  if b < 1440 then 0 else if b < 2848 then 1 else if b < 3232 then 2 else if b < 3304 then 3 else 4

/-- R42, R43: the unit codes of a braid's two ends, the lower first. -/
def braidEnds (b : Nat) : Nat × Nat :=
  if b < 1440 then let e := b / 8; (e / 15 * 16 + e % 15, e / 15 * 16 + e % 15 + 1)
  else if b < 2848 then let e := (b - 1440) / 8; (e, e + 16)
  else if b < 3232 then let s := (b - 2848) / 2; (s, 192 + homeStack s)
  else if b < 3304 then let n := (b - 3232) / 2; (engineSite n, 0x100 + n)
  else
    let d := (b - 3304) / 4
    ((dieSites d).getD ((b - 3304) % 4 / 2) 0, 0x140 + d)

/-- R42, R43: the slot of a braid. -/
def braidSlot (b : Nat) : Nat := if b < 2848 then b % 8 else b % 2

/-- R42: the braids of a site: the mesh braids of its edges, its memory port, and those of kinds 3 and 4. -/
def siteMeshBraids (s : Nat) : List Nat := (siteEdges s).flatMap fun e => span e.2.2 8
def siteMemBraids (s : Nat) : List Nat := span (2848 + 2 * s) 2
def engineBraids (n : Nat) : List Nat := span (3232 + 2 * n) 2
def siteDieBraids (s : Nat) : List Nat :=
  (List.range 4).flatMap fun d => (List.range 2).flatMap fun j =>
    if (dieSites d).getD j 999 = s then span (3304 + d * 4 + j * 2) 2 else []
def siteAttachBraids (s : Nat) : List Nat :=
  (match siteEngine s with | some n => engineBraids n | none => []) ++ siteDieBraids s

/-- 09 R249: the Delta port of a site that a braid serves, by its role. -/
def braidPort (b role site : Nat) : Nat :=
  let k := braidKind b
  if k = 0 then (if (braidEnds b).1 = site then 1 else 3) + (if role = 1 then 16 else 0)
  else if k = 1 then (if (braidEnds b).1 = site then 2 else 0) + (if role = 1 then 16 else 0)
  else if k = 2 then 12
  else if k = 3 then 14
  else
    let d := (b - 3304) / 4
    -- X0 joins the attached die of lower unit code, X1 the other, at A5 and A8.
    if (site = 64 ∧ d = 2) ∨ (site = 112 ∧ d = 3) then 15 else 14

/-- R25, 09 R249: the port by which a unit is joined at a site, where it is. -/
def localPort (site unit : Nat) : Option Nat :=
  if 192 ≤ unit ∧ unit < 240 then (if (homeSites (unit - 192)).contains site then some 12 else none)
  else if 0x100 ≤ unit ∧ unit < 0x124 then (if engineSite (unit - 0x100) = site then some 14 else none)
  else if 0x140 ≤ unit ∧ unit < 0x144 then
    (if (dieSites (unit - 0x140)).contains site then some (if (site = 64 ∧ unit = 0x142) ∨ (site = 112 ∧ unit = 0x143) then 15 else 14) else none)
  else none

/-! Records (R41 to R45) -/

structure SiteRec where
  status : Nat := 0
  reason : Nat := 0
  derate : Nat := 0
  replaces : Nat := 0xFF
  faults : Nat := 0
  leftGen : Nat := 0
  deriving DecidableEq, Repr

/-- A cluster record; its spare columns are counted in its scratchpad. -/
structure StatusRec where
  status : Nat := 0
  reason : Nat := 0
  deriving DecidableEq, Repr

structure StackRec where
  status : Nat := 0
  reason : Nat := 0
  channels : Word32 := 0xFFFFFFFF
  deriving DecidableEq, Repr

structure EngineRec where
  status : Nat := 0
  reason : Nat := 0
  role : Nat := 0
  split : Nat := 0
  lanes : Half := 0xFFFF
  deriving DecidableEq, Repr

/-- R43, R44: a braid record and the lane map that its lane records give: `lanes` maps a physical lane to the logical lane it carries (as
shipped: lane l carries l for l below 64), `slane` is the survey spare. A survey move leaves both as they are (10 R306). -/
structure BraidRec where
  status : Nat := 0
  reason : Nat := 0
  role : Nat := 0
  survey : Nat := 2
  lanes : Tbl (Option Nat) := []
  slane : Option Nat := none
  half : Bool := false
  deriving DecidableEq, Repr

/-- R44: the logical lane that a physical lane carries by the record. -/
def BraidRec.lane (r : BraidRec) (l : Nat) : Option Nat := Tbl.get (if l < 64 then some l else none) r.lanes l

/-- R43: the spare lanes that the record uses for repair. -/
def BraidRec.repairs (r : BraidRec) : Nat := ((span 64 4).filter fun l => (r.lane l).isSome).length

/-- R45: a repair-history entry. -/
structure HistEntry where
  at_ : Nat
  kind : Nat
  action : Nat
  object : Nat
  sub : Nat := 0
  old : Nat := 0
  new : Nat := 0
  reason : Nat := 0
  source : Nat := 3
  detail : Nat := 0
  deriving DecidableEq, Repr

/-- R36: an activation in progress: its last step done, the reserve, the site it replaces, and whether 0x3011 named it. -/
structure Activation where
  step : Nat
  site : Option Nat
  replaced : Nat
  manual : Bool
  deriving DecidableEq, Repr

/-- R31 (log entry 20): the reserves of this panel at shipment: the site of column P in rows 1 to 3 and 10 to 12, of column M in
rows 4 to 9; no site and no cluster is absent. -/
def isShippedReserve (s : Nat) : Bool :=
  let r := siteRow s + 1
  if 4 ≤ r ∧ r ≤ 9 then siteCol s == 12 else siteCol s == 15

def shippedSite (s : Nat) : SiteRec := if isShippedReserve s then { status := 2 } else {}
def shippedCluster (c : Nat) : StatusRec := if isShippedReserve (c / 8) then { status := 2 } else {}
/-- R30: a braid that touches a reserve holds reserve. -/
def shippedBraid (b : Nat) : BraidRec :=
  let e := braidEnds b
  let res (u : Nat) : Bool := decide (u < 192) && isShippedReserve u
  { status := if res e.1 || res e.2 then 2 else 0, role := if braidKind b ≤ 1 then 0 else 2 }

/-- The Gazetteer. An unlisted record is as shipped. `history` holds the newest entry first; `paths` is the routing edition that the path
tables of this generation are built from (R37, R38, R46), and `owed` tells that the last change set still waits for its edition and for
the maskings that belong to it (09 R275; log entry 70). -/
structure GazBody where
  gen : Nat := 0
  eui : Word := 0
  grade : Nat := 1
  stepping : Nat := 0
  changedAt : Nat := 0
  sites : Tbl SiteRec := []
  clusters : Tbl StatusRec := []
  stackRecs : Tbl StackRec := []
  engines : Tbl EngineRec := []
  braids : Tbl BraidRec := []
  history : List HistEntry := []
  shortfall : Nat := 0
  act : Option Activation := none
  paths : RouteTables := ⟨[], []⟩
  owed : Bool := false
  deriving DecidableEq, Repr

/-- R37, R38: the Gazetteer as its units follow it, and while a change set waits for its edition the last complete generation, which is what is
served (log entry 70). -/
structure Gaz extends GazBody where
  old : Option GazBody := none
  deriving DecidableEq, Repr

/-- R38: the current generation: the last one that is complete. -/
def Gaz.shown (g : Gaz) : Gaz := match g.old with | some b => { toGazBody := b } | none => g

def Gaz.site (g : Gaz) (s : Nat) : SiteRec := Tbl.get (shippedSite s) g.sites s
def Gaz.cluster (g : Gaz) (c : Nat) : StatusRec := Tbl.get (shippedCluster c) g.clusters c
def Gaz.stack (g : Gaz) (k : Nat) : StackRec := Tbl.get {} g.stackRecs k
def Gaz.engine (g : Gaz) (n : Nat) : EngineRec := Tbl.get {} g.engines n
def Gaz.braid (g : Gaz) (b : Nat) : BraidRec := Tbl.get (shippedBraid b) g.braids b

def Gaz.siteIn (g : Gaz) (s : Nat) : Bool := (g.site s).status == 0
def Gaz.sitesIn (g : Gaz) : List Nat := (List.range 192).filter g.siteIn
def Gaz.clusterIn (g : Gaz) (c : Nat) : Bool := (g.cluster c).status == 0
def Gaz.clustersIn (g : Gaz) : List Nat := (List.range 1536).filter g.clusterIn

/-- R30: the status and reason of a unit. -/
def Gaz.status (g : Gaz) : GUnit → Nat
  | .site n => (g.site n).status
  | .cluster n => (g.cluster n).status
  | .stack n => (g.stack n).status
  | .engine n => (g.engine n).status
  | .braid n => (g.braid n).status

def Gaz.reason (g : Gaz) : GUnit → Nat
  | .site n => (g.site n).reason
  | .cluster n => (g.cluster n).reason
  | .stack n => (g.stack n).reason
  | .engine n => (g.engine n).reason
  | .braid n => (g.braid n).reason

/-- R45: kind and object number of a unit. -/
def gunitKind : GUnit → Nat
  | .site _ => 0 | .cluster _ => 1 | .stack _ => 2 | .engine _ => 3 | .braid _ => 4
def gunitNum : GUnit → Nat
  | .site n => n | .cluster n => n | .stack n => n | .engine n => n | .braid n => n
/-- R34, R41: the unit code by which events are ordered and logged. -/
def gunitCode : GUnit → Nat
  | .site n => n | .cluster n => n / 8 | .stack n => 192 + n | .engine n => 0x100 + n | .braid n => (braidEnds n).1

/-- The record of a unit with its status and reason changed. -/
def Gaz.putStatus (g : Gaz) (u : GUnit) (st rs : Nat) : Gaz :=
  match u with
  | .site n =>
    let r := g.site n
    { g with sites := Tbl.set g.sites n { r with status := st, reason := rs, leftGen := if r.status = 0 then g.gen + 1 else r.leftGen } }
  | .cluster n => { g with clusters := Tbl.set g.clusters n { g.cluster n with status := st, reason := rs } }
  | .stack n => { g with stackRecs := Tbl.set g.stackRecs n { g.stack n with status := st, reason := rs } }
  | .engine n => { g with engines := Tbl.set g.engines n { g.engine n with status := st, reason := rs } }
  | .braid n => { g with braids := Tbl.set g.braids n { g.braid n with status := st, reason := rs } }

/-- R45: an entry joins the history. -/
def Gaz.note (g : Gaz) (e : HistEntry) : Gaz := { g with history := e :: g.history }

/-- R40, R45: the history holds 4,096 field entries, the newest, and every assembly entry (source 0). -/
def keptHistory (h : List HistEntry) : List HistEntry := (h.filter fun e => e.source != 0).take 4096 ++ h.filter fun e => e.source == 0

/-- R45: a status change with its history entry; a unit already in that status is left. The detail of a reserve's activation is the site
replaced. -/
def Gaz.change (g : Gaz) (now src : Nat) (u : GUnit) (st rs : Nat) (replaced : Nat := 0) : Gaz :=
  if g.status u = st then g
  else (g.putStatus u st rs).note
    ⟨now, gunitKind u, if st = 0 ∧ rs = 10 then 4 else 0, gunitNum u, 0, g.status u, st, rs, src, if st = 0 ∧ rs = 10 then replaced else 0⟩

/-- R26, R37: a unit takes its parent's new status with reason PARENT; one that held that status for another reason takes the reason. -/
def Gaz.follow (g : Gaz) (now src : Nat) (u : GUnit) (st : Nat) : Gaz :=
  if g.status u = st ∧ g.reason u = 7 then g
  else (g.putStatus u st 7).note ⟨now, gunitKind u, 0, gunitNum u, 0, g.status u, st, 7, src, 0⟩

/-- R32: the transitions allowed to a request, by cause: reason codes of R31. `cold` tells a retest at a cold start. A reserve is masked
by its activation alone (R36), never by a request. -/
def transitionOk (u : GUnit) (old oldReason new reason : Nat) (cold : Bool) : Bool :=
  let eng : Bool := match u with | .engine _ => true | _ => false
  let braid : Bool := match u with | .braid _ => true | _ => false
  let retireCause := [2, 4, 5, 6, 7, 9].contains reason || (eng && reason == 3)
  if old = 0 ∧ new = 1 then [3, 4, 8, 7, 9].contains reason
  else if old = 0 ∧ new = 4 then retireCause
  else if old = 1 ∧ new = 0 then (cold && reason == 0) || (reason == 9 && oldReason == 9)
  else if old = 1 ∧ new = 4 then retireCause || (cold && reason == 2)
  else if old = 2 ∧ new = 0 then reason == 10
  else if old = 2 ∧ new = 4 then [2, 9].contains reason || (braid && reason == 7)
  else false

/-! Consequences (R37, 09 R275) -/

/-- 10 R293: what a braid counts toward a port's width, in half braids. -/
def Gaz.halves (g : Gaz) (b : Nat) : Nat := if (g.braid b).half then 1 else 2

/-- The width of the in-service braids of role 0 on an edge, in half braids. -/
def Gaz.edgeHalves (g : Gaz) (base : Nat) : Nat :=
  (((span base 8).filter fun b => (g.braid b).status == 0 && (g.braid b).role == 0).map g.halves).sum

/-- 10 R293, R298: an edge of three braids is offered to routing. -/
def Gaz.edgeUp (g : Gaz) (base : Nat) : Bool := decide (g.edgeHalves base ≥ 6)

/-- The in-service sites one crossing from a set. -/
def Gaz.spread (g : Gaz) (from_ : List Nat) : Nat → List Nat
  | 0 => from_
  | fuel + 1 =>
    let new := (from_.flatMap fun s => (siteEdges s).filterMap fun e =>
      if g.edgeUp e.2.2 && g.siteIn e.2.1 && !from_.contains e.2.1 then some e.2.1 else none).dedup
    if new.isEmpty then from_ else Gaz.spread g (from_ ++ new) fuel

/-- R37: a site leaves service with status `st`: its clusters, braids and engine follow with reason PARENT; its home stack is
masked when no home site is left. -/
def Gaz.siteLeaves (g : Gaz) (now src s st rs : Nat) : Gaz :=
  let put (g : Gaz) (u : Option GUnit) : Gaz := match u with | some u => g.follow now src u st | none => g
  let g1 := match (if h : s < 192 then some (GUnit.site ⟨s, h⟩) else none) with
    | some u => g.change now src u st rs | none => g
  let g2 := (span (8 * s) 8).foldl (fun g c =>
    if (g.cluster c).status = 3 ∨ (g.cluster c).status = 4 then g
    else put g (if h : c < 1536 then some (.cluster ⟨c, h⟩) else none)) g1
  let braids := siteMemBraids s ++ siteMeshBraids s ++ siteAttachBraids s
  let g3 := braids.foldl (fun g b =>
    let x := (g.braid b).status
    if x = 4 ∨ (x = 2 ∧ st = 1) then g
    else put g (if h : b < 3320 then some (.braid ⟨b, h⟩) else none)) g2
  let g4 := match siteEngine s with
    | some n => if (g3.engine n).status = 4 then g3 else put g3 (if h : n < 36 then some (.engine ⟨n, h⟩) else none)
    | none => g3
  let k := homeStack s
  if (homeSites k).any g4.siteIn ∨ (g4.stack k).status ≠ 0 then g4
  else match (if h : k < 48 then some (GUnit.stack ⟨k, h⟩) else none) with
    | some u => g4.change now src u 1 8
    | none => g4

/-- 09 R275 step 1: the Surveyor whose attachment sites count: the active one, or the other where neither of its sites is in
service and one of the other's is. -/
def Gaz.surveyor (g : Gaz) (active : Nat) : Nat :=
  if (dieSites active).any g.siteIn || !(dieSites (1 - active)).any g.siteIn then active else 1 - active

/-- 09 R275: the kept part for an active Surveyor. -/
def Gaz.kept (g : Gaz) (active : Nat) : List Nat := g.spread ((dieSites active).filter g.siteIn) 192

/-- 11 R319: a site's memory link is up: the site and one of the link's two braids are in service. -/
def Gaz.memLink (g : Gaz) (x : Nat) : Bool := g.siteIn x && (siteMemBraids x).any fun b => (g.braid b).status == 0

/-- 09 R275 step 3: a stack with no memory link up, and an engine with no braid in service, are masked with NO_LINK. -/
def Gaz.maskCut (g : Gaz) (now : Nat) : Gaz :=
  let g1 := ((List.finRange 48).filter fun (k : StackId) => (g.stack k).status == 0 && !(homeSites k).any g.memLink).foldl
    (fun (g : Gaz) (k : StackId) => g.change now 3 (.stack k) 1 8) g
  ((List.finRange 36).filter fun (n : EngineId) => (g1.engine n).status == 0 && !(engineBraids n).any fun b => (g1.braid b).status == 0).foldl
    (fun (g : Gaz) (n : EngineId) => g.change now 3 (.engine n) 1 8) g1

/-- 09 R275 steps 1 and 3: the in-service sites outside the kept part are masked with NO_LINK, with the consequences of R37. -/
def Gaz.maskUnreached (g : Gaz) (now active : Nat) : Gaz :=
  let k := g.kept active
  ((g.sitesIn.filter fun s => !k.contains s).foldl (fun g s => g.siteLeaves now 3 s 1 8) g).maskCut now

/-- R49: the shortfall flags. -/
def Gaz.shortfallOf (g : Gaz) : Nat :=
  let cs := g.clustersIn
  let n := cs.length
  let mx := (cs.filter fun c => c % 8 < 5).length
  let vx := (cs.filter fun c => c % 8 = 5 ∨ c % 8 = 6).length
  let sx := (cs.filter fun c => c % 8 = 7).length
  let m := if g.grade = 2 then (1380, 870, 340, 170) else (1420, 890, 350, 180)
  flg 0 (decide (n < m.1)) + flg 1 (decide (mx < m.2.1)) + flg 2 (decide (vx < m.2.2.1)) + flg 3 (decide (sx < m.2.2.2))
    + flg 4 (decide (g.sitesIn.length < 180))

/-- R34, R37: the end of a change set: unreachable units masked, flags and generation set. -/
def Gaz.commit (g : Gaz) (now active : Nat) : Gaz :=
  let g1 := g.maskUnreached now active
  { g1 with gen := g1.gen + 1, changedAt := now, shortfall := g1.shortfallOf }

/-- 09 R277: what a new edition is wanted for: a site or a braid has changed its status. -/
def Gaz.moved (g0 g : Gaz) : Bool :=
  (List.range 3320).any (fun b => (g0.braid b).status != (g.braid b).status) || g0.sitesIn != g.sitesIn

/-- A change of one unit with its consequences: sites take theirs along, a memory-port or mesh braid alone changes itself. -/
def Gaz.leave (g : Gaz) (now src : Nat) (u : GUnit) (st rs : Nat) : Gaz :=
  match u with
  | .site n => g.siteLeaves now src n st rs
  | .engine n =>
    (engineBraids n).foldl (fun g b =>
      if (g.braid b).status = 4 then g
      else match (if h : b < 3320 then some (GUnit.braid ⟨b, h⟩) else none) with
        | some v => g.follow now src v st
        | none => g) (g.change now src u st rs)
  | _ => g.change now src u st rs

/-- R35: |columns apart| + |rows apart|. -/
def meshDistance (a b : Nat) : Nat :=
  let d (x y : Nat) : Nat := (x - y) + (y - x)
  d (siteCol a) (siteCol b) + d (siteRow a) (siteRow b)

/-- The element of least key; the first of equals. -/
def argMin (key : Nat → Nat) : List Nat → Option Nat
  | [] => none
  | x :: t => match argMin key t with
    | some y => if key y < key x then some y else some x
    | none => some x

/-- R35: the reserve that a policy chooses to replace a site, in service order of site index. -/
def Gaz.chooseReserve (g : Gaz) (policy replaced : Nat) : Option Nat :=
  let rs := (List.range 192).filter fun s => (g.site s).status == 2
  let row := rs.filter fun s => siteRow s == siteRow replaced
  if policy = 0 then none
  else if policy = 1 then row.head?
  else match row with
    | s :: _ => some s
    | [] => argMin (fun s => meshDistance s replaced) rs

/-- R35: a site that has been in service: it shipped so, or an activation has brought it in. A reserve retired as one never left service. -/
def Gaz.served (g : Gaz) (s : Nat) : Bool := !isShippedReserve s || (g.site s).replaces != 0xFF

/-- R35: the sites that have left service and that no other site's replaces field names. -/
def Gaz.leftSites (g : Gaz) : List Nat :=
  (List.range 192).filter fun s =>
    ((g.site s).status == 1 || (g.site s).status == 4) && g.served s && !((List.range 192).any fun t => (g.site t).replaces == s)

/-- R35: the site that a reserve named through 0x3011 replaces: of those, the one that left in the change set of lowest generation
(log entry 60: those that left in an earlier start first, by index). -/
def Gaz.replacedByManual (g : Gaz) : Option Nat := argMin (fun s => (g.site s).leftGen) g.leftSites

/-! Bytes of the record that change with it (R39, R41, R45) -/

/-- R603: bytes 8 to 15 of a history entry, the detail of a STATUS_CHANGE record. -/
def HistEntry.detail8 (e : HistEntry) : Nat :=
  e.kind + fld 8 e.action + fld 16 e.object + fld 32 e.sub + fld 48 e.old + fld 56 e.new

end Machine
end Sys2Proof
end

