-- ==== Sys2Proof/Machine/PowerState.lean ====
section
/-!
DEFINITION. Rails, domains, wake tokens and the fracture watch (spec 21).
-/
namespace Sys2Proof.Machine

/-- R571: a cluster's voltage domain. `state`: 0 off, 1 awaiting token, 2 staging, 3 on, 4 faulted; `stageAt` is when its last stage of
switches turned on, `outside` since when it stands still at its stage outside its window; `wasOn` that a core shed took it. -/
structure Dom where
  state : Nat := 0
  stage : Nat := 0
  local_ : Bool := false
  smask : Nat := 0
  trim : Int := 0
  setp : Nat := 0
  vmin : Nat := 0
  iout : Nat := 0
  wasOn : Bool := false
  stageAt : Nat := 0
  outside : Option Nat := none
  deriving DecidableEq, Repr

/-- R571: a site's PWR registers. `trayflag` comes from the retained record. -/
structure PwrSite where
  fract : Bool := false
  dfault : Bool := false
  sopen : Bool := false
  trayflag : Bool := false
  fractW : Word := 0
  deriving DecidableEq, Repr

/-- R566: a sensor's path resistance at start, and whether each of the last 100 intervals found it suspect, newest first. -/
structure Path where
  r0 : Nat := 0
  marks : List Bool := []
  deriving DecidableEq, Repr

/-- R572 and the sequencer's own state. `seq`: 0 off, 1 V_HK only, 2 powering up, 3 on, 4 powering down, 5 off time, 6 core shed;
`on` and `inwin` are masks of rails; `tested` the rails that passed the integrity test; `upFaults` the RAIL_FAULT_UPs of
this assertion of PWR_EN; `downFault` that a rail fault was logged in this power-down; `waits` the wake requests in order
of grant, each with its arrival, `held` the tokens granted with their counts. -/
structure Power where
  doms : Tbl Dom := []
  sites : Tbl PwrSite := []
  paths : Tbl Path := []
  seq : Nat := 1
  config : Nat := 0
  rated : Nat := 0
  integ : Bool := false
  good : Bool := false
  en : Bool := false
  shed : Bool := false
  inflt : Bool := false
  on : Nat := 1
  inwin : Nat := 1
  fault : Word := 0
  waits : List (Nat × Nat) := []
  held : List (Nat × Nat) := []
  pin : Nat := 0
  vin : Nat := 0
  vinOk : Bool := false
  vhk : Bool := true
  upFaults : Nat := 0
  downFault : Bool := false
  offAt : Nat := 0
  tested : Nat := 0
  deriving DecidableEq, Repr

def Power.dom (p : Power) (c : Nat) : Dom := Tbl.get {} p.doms c
def Power.modDom (p : Power) (c : Nat) (f : Dom → Dom) : Power := { p with doms := Tbl.mod {} p.doms c f }
def Power.site (p : Power) (s : Nat) : PwrSite := Tbl.get {} p.sites s
def Power.modSite (p : Power) (s : Nat) (f : PwrSite → PwrSite) : Power := { p with sites := Tbl.mod {} p.sites s f }

/-- R557: the nominal set-point, in mV, of a step by its code of R576. -/
def nominalMv (k : Nat) : Nat :=
  match k with
  | 0 => 600 | 1 => 620 | 2 => 640 | 3 => 660 | 4 => 680 | 5 => 700 | 6 => 720 | 7 => 745 | 8 => 770 | 9 => 800 | _ => 830

/-- R557: the set-point of a step and a trim, at most 900 mV. -/
def setPoint (k : Nat) (trim : Int) : Nat := Nat.min 900 ((nominalMv k : Int) + trim).toNat

def sumMv (k : Nat) (trim : Int) : Int := (nominalMv k : Int) + trim

/-- R562: the quadrant of a cluster's site: 0 NW, 1 NE, 2 SW, 3 SE. -/
def quadrant (c : Nat) : Nat :=
  let s := c / 8
  (if siteRow s < 6 then 0 else 2) + (if siteCol s < 8 then 0 else 1)

def Power.heldIn (p : Power) (q : Nat) : Nat := (p.held.filter fun (c, _) => quadrant c == q).length
def Power.waitIn (p : Power) (q : Nat) : Nat := (p.waits.filter fun (c, _) => quadrant c == q).length

/-- R562: requests are granted in the order they arrive, those of one nanosecond in ascending cluster number. -/
def insertWait (c at_ : Nat) : List (Nat × Nat) → List (Nat × Nat)
  | [] => [(c, at_)]
  | (d, b) :: t => if b = at_ ∧ c < d then (c, at_) :: (d, b) :: t else (d, b) :: insertWait c at_ t

/-- R562: a token returned or reclaimed. -/
def Power.dropToken (p : Power) (c : Nat) : Power :=
  { p with held := p.held.filter fun (d, _) => d != c, waits := p.waits.filter fun (d, _) => d != c }

/-- R571: PWR_DOMn, with a set-point of 10 bits, currents in 100 mA and the terminal reading under LOCAL. -/
def Dom.word (d : Dom) : Nat :=
  fld 61 d.state + fld 58 d.stage + flg 57 d.local_ + fld 48 d.smask + fld 40 (lowBits 8 d.trim) + fld 30 (d.setp % 1024)
    + fld 20 (Nat.min 1023 d.vmin) + fld 12 (Nat.min 255 d.iout)

/-- R571: PWR_STAT of a site. -/
def Power.siteWord (p : Power) (derate s : Nat) : Nat :=
  let x := p.site s
  fld 12 derate + flg 11 x.trayflag + flg 10 x.fract + flg 9 x.dfault + flg 8 x.sopen
    + ((List.range 8).map fun n => flg n ((p.dom (8 * s + n)).state == 3)).sum

/-- R572: the panel registers. -/
def Power.pstat (p : Power) : Nat :=
  fld 28 p.seq + fld 26 p.config + flg 25 p.integ + flg 24 p.good + flg 23 p.en + flg 22 p.shed + flg 21 p.inflt
def Power.railWord (p : Power) : Nat := fld 48 p.inwin + fld 32 p.on
def Power.tokWord (p : Power) : Nat :=
  ((List.range 4).map fun q => fld (32 + 8 * q) (Nat.min 255 (p.waitIn q)) + fld (8 * q) (p.heldIn q)).sum
def Power.inWord (p : Power) : Nat := fld 32 p.pin + p.vin

/-- R572: the first fault since VALID was cleared. -/
def Power.recordFault (p : Power) (code rail phase dom volt : Nat) : Power :=
  if p.fault.getLsbD 63 then p
  else { p with fault := BitVec.ofNat 64 (2 ^ 63 + fld 48 code + fld 44 rail + fld 42 phase + fld 16 dom + volt % 65536) }

/-- R570: writes to the site's and the panel's PWR registers: only the W1C fields act. -/
def PwrSite.write (x : PwrSite) (off v : Nat) : PwrSite :=
  let one (i : Nat) : Bool := (v >>> i) % 2 = 1
  if off = 0 then { x with fract := x.fract && !one 10, dfault := x.dfault && !one 9, sopen := x.sopen && !one 8 }
  else if off = 8 then { x with fractW := if one 63 then putBit x.fractW 63 false else x.fractW }
  else x

def Power.write (p : Power) (off v : Nat) : Power :=
  let one (i : Nat) : Bool := (v >>> i) % 2 = 1
  if off = 0 then { p with shed := p.shed && !one 22, inflt := p.inflt && !one 21 }
  else if off = 0x10 then { p with fault := if one 63 then putBit p.fault 63 false else p.fault }
  else p

def setBit (m i : Nat) (b : Bool) : Nat := if b then Nat.lor m (2 ^ i) else if m.testBit i then m - 2 ^ i else m

/-- R558: sensors in use. -/
def Dom.sensors (d : Dom) : Nat := ((List.range 8).filter d.smask.testBit).length

/-- R558: the sense that a domain regulates by falls back to its own terminal. -/
def Dom.goLocal (d : Dom) : Dom := { d with local_ := true }

/-- R566: an interval found a sensor suspect or not; FRACTURE_SUSPECT at 90 of 100. -/
def Path.mark (x : Path) (b : Bool) : Path := { x with marks := (b :: x.marks).take 100 }
def Path.fractured (x : Path) : Bool := decide ((x.marks.filter (· == true)).length ≥ 90)

/-- R547: the STATUS_WORD bits of PMBus 1.4 that R547 names: OFF 6, VOUT_OV_FAULT 5, IOUT_OC_FAULT 4, VIN_UV_FAULT 3,
TEMPERATURE 2 (PRESUMED from PMBus, log entry 27). -/
def statusFault (w : Nat) : Bool := [6, 5, 4, 3, 2].any w.testBit

end Sys2Proof.Machine
end

