-- ==== Sys2Proof/Machine/ClockState.lean ====
section
/-!
DEFINITION. Clocks, steps, margins and temperatures (spec 22).
-/
namespace Sys2Proof.Machine

/-- R580, R593: what is held of a domain's margin. `lastRaise` is the count of its last trim raise, `critSince` that from which it
has been critical at 0.8 GHz. -/
structure Marg where
  warn : Bool := false
  crit : Bool := false
  margin : Nat := 0
  lastRaise : Option Nat := none
  critSince : Option Nat := none
  deriving DecidableEq, Repr

/-- R592 to R594: a site's clock and temperature state. Steps use the code of R576. `chg` is the change in progress: the new step,
and whether the clock has switched. `readings` holds the raw sensors, `badRun` the samples in
a row that a sensor was bad, `dropped` a mask. -/
structure ClkSite where
  cur : Nat := 0
  target : Nat := 8
  tcap : Option Nat := none
  mcap : Option Nat := none
  chg : Option (Nat × Bool) := none
  plla : Bool := false
  pllb : Bool := false
  act : Bool := false
  clkloss : Bool := false
  chgCount : Nat := 0
  marg : Tbl Marg := []
  marginBelow : Bool := false
  lastMcap : Option Nat := none
  goodSince : Option Nat := none
  band : Nat := 0
  lastTcap : Option Nat := none
  coolSince : Option Nat := none
  rising : Bool := false
  tripped : Bool := false
  hotw : Bool := false
  hotsen : Nat := 0
  temp : Int := 0
  max : Option Int := none
  readings : Tbl Int := []
  badRun : Tbl Nat := []
  dropped : Nat := 0
  noPllSince : Option Nat := none
  deriving DecidableEq, Repr

/-- The clocks and temperatures of the panel. `temps` holds the last temperature, in 1/16 °C, of every unit but the sites, by unit
code, `sensBad` and `sensDropped` their sensors (unit * 32 + sensor); `cut` is the panel reduction of R589. -/
structure Clocks where
  sites : Tbl ClkSite := []
  temps : Tbl Int := []
  sensBad : Tbl Nat := []
  sensDropped : List Nat := []
  trip : Bool := false
  tripw : Bool := false
  tripUnit : Nat := 0
  coolSince : Option Nat := none
  oos : Nat := 0
  cut : Nat := 0
  above : Nat := 0
  below : Nat := 0
  snapTemps : Tbl Int := []
  deriving DecidableEq, Repr

def Clocks.site (k : Clocks) (s : Nat) : ClkSite := Tbl.get {} k.sites s
def Clocks.modSite (k : Clocks) (s : Nat) (f : ClkSite → ClkSite) : Clocks := { k with sites := Tbl.mod {} k.sites s f }
def ClkSite.mg (x : ClkSite) (n : Nat) : Marg := Tbl.get {} x.marg n

/-- R576: the code of a frequency in MHz, 0 at 800. -/
def stepCode (mhz : Nat) : Nat := (mhz - 800) / 100

/-- R576: the running step that a site's values ask for. -/
def wantStep (target ceil floor : Nat) (tcap mcap : Option Nat) (band : Nat) (marginBelow : Bool) : Nat :=
  let w := Nat.min (Nat.min target ceil) (Nat.min (tcap.getD 15) (mcap.getD 15))
  if band = 2 || marginBelow then w else Nat.max w floor

/-- R593: CLK_STAT. -/
def ClkSite.statWord (x : ClkSite) (target ceil floor : Nat) : Nat :=
  fld 56 x.cur + fld 52 target + fld 48 ceil + fld 44 floor + fld 40 (x.tcap.getD 15) + fld 36 (x.mcap.getD 15)
    + flg 35 x.chg.isSome + flg 34 (decide (x.cur < floor)) + flg 33 x.pllb + flg 32 x.plla + flg 31 x.act + flg 30 x.clkloss

/-- R593: CLK_MARGn. -/
def Marg.word (m : Marg) : Nat := flg 31 m.warn + flg 30 m.crit + m.margin

/-- R594: THM_STAT. -/
def ClkSite.thmWord (x : ClkSite) : Nat :=
  fld 24 x.band + flg 23 x.tripped + flg 22 x.hotw + fld 16 x.hotsen + lowBits 16 x.temp

/-- R594: THM_SENk. -/
def ClkSite.senWord (x : ClkSite) (k : Nat) : Nat :=
  packFields 16 ((List.range 4).map fun i => if x.dropped.testBit (4 * k + i) then 0x8000 else lowBits 16 (Tbl.get 0 x.readings (4 * k + i)))

/-- R592, R593: writes to a site's CLK registers (`off` below 0x1000) and THM registers. -/
def ClkSite.write (x : ClkSite) (thm : Bool) (off v : Nat) : ClkSite :=
  let one (i : Nat) : Bool := (v >>> i) % 2 = 1
  if thm then (if off = 0 then { x with hotw := x.hotw && !one 22 } else x)
  else if off = 0 then { x with clkloss := x.clkloss && !one 30 }
  else if off = 8 then { x with target := Nat.min 10 (v % 16) }
  else if 0x40 ≤ off ∧ off < 0x80 then
    { x with marg := Tbl.mod {} x.marg ((off - 0x40) / 8) fun m => { m with warn := m.warn && !one 31, crit := m.crit && !one 30 } }
  else x

/-! Temperature sensors (R583) -/

/-- R583: a reading as a sensor gives it; none where its parity fails. Out of range is outside 0 to 130 °C accuracy's encoding:
below -40 °C or above 150 °C (PRESUMED, log entry 28). -/
def sensorBad (r : Option Int) : Bool := match r with | none => true | some t => decide (t < -640 ∨ 2400 < t)

/-- R583: a sample of one die's sensors: bad runs counted, a sensor bad for 4 samples in a row dropped. -/
def ClkSite.sample (x : ClkSite) (rs : List (Option Int)) : ClkSite :=
  (List.range 20).foldl (fun x i =>
    let r := (rs[i]?).join
    if x.dropped.testBit i then x
    else if sensorBad r then
      let n := Tbl.get 0 x.badRun i + 1
      { x with badRun := Tbl.set x.badRun i n, dropped := if n ≥ 4 then setBit x.dropped i true else x.dropped }
    else { x with badRun := Tbl.erase x.badRun i, readings := Tbl.set x.readings i (r.getD 0) }) x

/-- R583: sensors in use, and the highest reading among those whose sample was good, with its sensor. -/
def ClkSite.inUse (x : ClkSite) : List Nat := (List.range 20).filter fun i => !x.dropped.testBit i
def ClkSite.hottest (x : ClkSite) : Option (Nat × Int) :=
  (x.inUse.filter fun i => (Tbl.get? x.readings i).isSome).foldl (fun best i =>
    let t := Tbl.get 0 x.readings i
    match best with
    | some (_, b) => if b < t then some (i, t) else best
    | none => some (i, t)) none

/-- Degrees in 1/16 °C. -/
def degC (n : Int) : Int := n * 16

/-- R584: a sample `t` at count `now`; `floor` and `ceil` are step codes. A cap is lowered at once on entry to a band and at most once
a millisecond after; once at or below 100 °C for 10 ms the cap rises every 10 ms until a sample is above 105 °C. The answer
tells the band entered (1 THERM_THROTTLE, 2 THERM_BELOW_FLOOR, 3 THERM_OUT), 0 for none. -/
def ClkSite.bandStep (x : ClkSite) (now floor ceil : Nat) (t : Int) : ClkSite × Nat :=
  let due (b : Nat) : Bool := x.band != b || (match x.lastTcap with | some a => decide (a + 1000000 ≤ now) | none => true)
  if t ≥ degC 125 then ({ x with band := 3, hotw := true }, 3)
  else if t > degC 115 then
    let x1 := { x with band := 2, hotw := true, coolSince := none, rising := false }
    ((if due 2 then { x1 with tcap := some (x.cur - 1), lastTcap := some now } else x1), if x.band = 2 then 0 else 2)
  else if x.band = 2 then
    (if t ≤ degC 110 then { x with band := 1, tcap := some floor, coolSince := none, rising := false } else x, 0)
  else if t > degC 105 then
    let x1 := { x with band := 1, hotw := true, coolSince := none, rising := false }
    ((if due 1 then { x1 with tcap := some (Nat.max floor (x.cur - 1)), lastTcap := some now } else x1), if x.band = 1 then 0 else 1)
  else if x.band = 1 && (x.rising || decide (t ≤ degC 100)) then
    match x.coolSince with
    | none => ({ x with coolSince := some now }, 0)
    | some a =>
      if a + 10000000 ≤ now then
        let c := (x.tcap.getD ceil) + 1
        (if c ≥ ceil then { x with band := 0, tcap := none, coolSince := none, rising := false }
         else { x with tcap := some c, coolSince := some now, rising := true }, 0)
      else (x, 0)
  else ({ x with coolSince := none }, 0)

/-- R595: THM_PSTAT. -/
def Clocks.pstat (k : Clocks) (inService : Nat → Bool) (hotStacks : Nat) : Nat :=
  let s := k.sites.filter fun (n, _) => inService n
  fld 48 k.tripUnit + flg 47 k.trip + flg 46 k.tripw + fld 24 (s.filter fun (_, x) => x.band == 1 || x.band == 2).length
    + fld 16 (s.filter fun (_, x) => x.band == 2).length + fld 8 hotStacks + k.oos

/-- R587: the hard limit of a unit code, in 1/16 °C. -/
def hardLimit (u : Nat) : Int := if u < 192 then degC 130 else if u < 240 then degC 110 else if u < 0x140 then degC 95 else degC 110

/-- R587: a unit at its hard limit; the answer tells whether THERM_TRIP_N is newly driven. -/
def Clocks.tripAt (k : Clocks) (u : Nat) (t : Int) : Clocks × Bool :=
  if t ≥ hardLimit u then
    ({ k with trip := true, tripw := true, tripUnit := if k.tripw then k.tripUnit else u, coolSince := none }, !k.trip)
  else (k, false)

end Sys2Proof.Machine
end

