-- ==== Sys2Proof/Machine/TenantState.lean ====
section
/-!
DEFINITION. Tenants, partitions, plots, channels, submission entries, loaded charts and the scheduler (spec 15, 06 R190 to R193).
-/
namespace Sys2Proof.Machine

/-- R429: a partition. `allot` gives per stack its base and length in MiB. -/
structure Partition where
  tenant : Nat := 0
  state : Nat := 0
  direct : Bool := false
  maxpay : Nat := 0
  haltGroup : Nat := 0
  set : List Nat := []
  allot : Tbl (Nat × Nat) := []
  deriving DecidableEq, Repr

/-- R431: a cluster changing tenant: its partition and the last step done. -/
structure TChange where
  part : Nat
  step : Nat
  since : Nat := 0
  deriving DecidableEq, Repr

/-- R433: a plot. -/
structure Plot where
  base : Nat
  length : Nat
  tenant : Nat
  slot : Nat
  perm : Byte
  deriving DecidableEq, Repr

def Plot.valid (p : Plot) : Bool := p.perm.getLsbD 7

/-- R443: a submission entry: its number since the channel opened, its ring slot, tag, kind, flag, and words from byte 8; `started` and
`done` as it proceeds. -/
structure SubEntry where
  seq : Nat
  idx : Nat
  kind : Nat
  flag : Bool
  tag : Nat
  a : Word
  b : Word
  c : Word32
  started : Bool := false
  done : Option FCode := none
  doneAt : Nat := 0
  par : Bool := false
  deriving DecidableEq, Repr

/-- R437 to R446: a channel index. `state`: 0 free, 1 open, 2 closing, 3 held. `gen` is the generation of the open channel, or of
the next one on the index. -/
structure Chan where
  state : Nat := 0
  gen : Nat := 1
  tenant : Nat := 0
  part : Nat := 0
  prio : Nat := 0
  sqLog : Nat := 4
  cqLog : Nat := 4
  saveSlot : Nat := 0xFF
  slice : Nat := 1
  cookie : Word32 := 0
  sq : Nat := 0
  cq : Nat := 0
  win : Nat := 0
  winLen : Nat := 0
  port : Nat := 0
  fn : Nat := 0
  prod : Nat := 0
  fetched : Nat := 0
  completed : Nat := 0
  overrun : Bool := false
  entries : List SubEntry := []
  ethOff : Nat := 0
  ethSeq : Nat := 0
  lastDestroy : Nat := 0
  deriving DecidableEq, Repr

/-- R193: a chart as loaded: its clusters with the program counter each starts at. -/
structure Chart where
  part : Nat
  clusters : List (Nat × Nat)
  deriving DecidableEq, Repr

/-- R449: what the scheduler saves of a cluster at a yield point; a saved byte keeps the poison mark it was read with (08 R226). -/
structure SavedCluster where
  cluster : Nat
  g : Tbl Word
  t : Tbl (BitVec 128)
  land : Word32
  pc : Nat
  ebase : Word
  ydl : Word
  bytes : List (Nat × List (Byte × Bool))
  deriving DecidableEq, Repr

/-- R447: a RUN in progress on a partition, or waiting there; `start` is the start count its entry names. -/
structure Running where
  chan : Nat
  seq : Nat
  load : Nat
  since : Nat
  preempt : Bool := false
  start : Option Word := none
  saved : Option (List SavedCluster) := none
  deriving DecidableEq, Repr

/-- R450, 16 R466: a HALT in progress: who asked (port, or none for 0x4400), TAG, and the leaves its MACK must count. -/
structure HaltReq where
  port : Option Nat
  tag : Nat
  expect : Nat
  deriving DecidableEq, Repr

/-- R436: a plot-table change: the plot's number, its entry (none destroys), and whether it takes something away. -/
structure PlotChange where
  num : Nat
  entry : Option Plot
  removes : Bool
  deriving DecidableEq, Repr

/-- `entering` is keyed by cluster; `halts` by partition, the one in progress first; `cfgDue` lists the clusters whose port still takes the
MODE and MAXPAY of its partition, once the port has no move outstanding (09 R290). -/
structure Tenancy where
  parts : Tbl Partition := []
  entering : Tbl TChange := []
  plots : Tbl Plot := []
  verCur : Bool := false
  draining : Option PlotChange := none
  waitingPlots : List PlotChange := []
  oldTick : Nat := 0
  oldCount : Nat := 0
  chans : Tbl Chan := []
  stale : Nat := 0
  destroys : Nat := 0
  charts : Tbl Chart := []
  nextLoad : Nat := 1
  running : Tbl Running := []
  waitingRuns : Tbl (List Running) := []
  halts : Tbl (List HaltReq) := []
  cfgDue : List Nat := []
  groups : Tbl (Nat × Nat) := []
  deriving DecidableEq, Repr

def Tenancy.part (t : Tenancy) (p : Nat) : Partition := Tbl.get {} t.parts p
def Tenancy.modPart (t : Tenancy) (p : Nat) (f : Partition → Partition) : Tenancy := { t with parts := Tbl.mod {} t.parts p f }
def Tenancy.chan (t : Tenancy) (i : Nat) : Chan := Tbl.get {} t.chans i
def Tenancy.modChan (t : Tenancy) (i : Nat) (f : Chan → Chan) : Tenancy := { t with chans := Tbl.mod {} t.chans i f }

/-- 09 R273: a Distributary group that a tenant's chart may take: its partition's HALT group, or one that no other partition or chart has. The first
256 are the partitions' HALT groups (log entry 38). -/
def Tenancy.groupFree (t : Tenancy) (tenant g : Nat) : Bool :=
  (t.parts.any fun (_, x) => x.state != 0 && x.tenant == tenant && x.haltGroup == g)
    || (decide (257 ≤ g ∧ g < 4096) && match Tbl.get? t.groups g with
        | some (p, own) => own == tenant || (t.part p).state == 0 || (t.part p).tenant != own
        | none => true)

/-- The partition that holds a cluster, with its number. -/
def Tenancy.holder (t : Tenancy) (c : Nat) : Option (Nat × Partition) := t.parts.find? fun (_, p) => p.state != 0 && p.set.contains c

/-- The partition that holds a cluster. -/
def Tenancy.partOf (t : Tenancy) (c : Nat) : Option Nat :=
  (t.holder c).map (·.1)

/-! Handles (R437 to R439) -/

/-- R437: the sum of the eight nibbles of the handle with [2:0] as 0, modulo 8. -/
def handleCheck (h : Nat) : Nat := ((List.range 8).map fun i => ((h - h % 8) >>> (4 * i)) % 16).sum % 8
/-- R437: the handle of a channel. -/
def mkHandle (gen tenant index : Nat) : Nat :=
  let h := fld 24 gen + fld 15 tenant + fld 3 index
  h + handleCheck h
def handleIndex (h : Nat) : Nat := (h >>> 3) % 4096
def handleTenant (h : Nat) : Nat := (h >>> 15) % 512
def handleGen (h : Nat) : Nat := (h >>> 24) % 256

/-- R439: a handle is current. -/
def Tenancy.current (t : Tenancy) (h : Nat) : Bool :=
  let c := t.chan (handleIndex h)
  handleCheck h == h % 8 && (c.state == 1 || c.state == 3) && handleGen h == c.gen && handleTenant h == c.tenant && c.gen != 0

def Chan.handle (c : Chan) (i : Nat) : Nat := mkHandle c.gen c.tenant i

/-- R439, R454: a refusal counted in CHN_STALE. -/
def Tenancy.countStale (t : Tenancy) : Tenancy := { t with stale := satAdd 0xFFFFFFFF t.stale 1 }

/-- R438: the generation after a destroy. -/
def nextGen (g : Nat) : Nat := if g ≥ 255 then 1 else g + 1

/-- R438: the free index whose last destroy is oldest; a lower index first among equals. -/
def Tenancy.freeIndex (t : Tenancy) : Option Nat :=
  argMin (fun i => (t.chan i).lastDestroy) ((List.range 4096).filter fun i => (t.chan i).state == 0)

/-- R454: open channels. -/
def Tenancy.openCount (t : Tenancy) : Nat := (t.chans.filter fun (_, c) => c.state != 0).length

/-! The plot check (R433 to R435) -/

/-- R434: who asks: a cluster, a host function, or a peer; reads and writes have their own permission bits. -/
inductive Asker where
  | cluster
  | host
  | peer
  deriving DecidableEq, Repr

def Asker.bit : Asker → Nat
  | .cluster => 0 | .host => 2 | .peer => 4

def Plot.contains (p : Plot) (a : Nat) : Bool := decide (p.base ≤ a ∧ a < p.base + p.length)
def Plot.covers (p : Plot) (a n : Nat) : Bool := decide (p.base ≤ a ∧ a + n ≤ p.base + p.length)
def Plot.grants (p : Plot) (k : Asker) (wr : Bool) : Bool := p.perm.getLsbD (k.bit + (if wr then 1 else 0))

/-- R434: why a plot check fails (the REASON codes of R453), none where it passes. `isSealed` tells a sealed plot (14 R416). -/
def Tenancy.plotCheck (t : Tenancy) (isSealed : Nat → Bool) (tenant : Nat) (k : Asker) (wr : Bool) (a n : Nat) : Option Nat :=
  let mine := t.plots.filter fun (_, p) => p.valid && p.tenant == tenant
  let cover := mine.filter fun (_, p) => p.covers a n
  let granted := cover.filter fun (_, p) => p.grants k wr
  if n = 0 then none
  else if granted.any fun (i, _) => !(wr && isSealed i) then none
  else if !granted.isEmpty then some 4
  else if !cover.isEmpty then some 3
  else if mine.any fun (_, p) => p.contains a then some 2
  else some 1

/-! Bytes of the tables (R429, R433) -/

def le (bs : List Byte) (off n : Nat) : Nat := leNat ((bs.drop off).take n)

/-- R429: an entry of 400 bytes read from a write of 0x4200. -/
def partOfBytes (bs : List Byte) : Partition :=
  { tenant := le bs 0 2, state := le bs 2 1, direct := le bs 3 1 % 2 == 1, maxpay := le bs 3 1 / 2 % 8,
    set := (List.range 1536).filter fun c => (bs.getD (16 + c / 8) 0).getLsbD (c % 8),
    allot := (List.range 48).map fun k => (k, (le bs (208 + 4 * k) 2, le bs (210 + 4 * k) 2)) }

/-- R433: an entry of 32 bytes. -/
def plotOfBytes (bs : List Byte) : Plot := ⟨le bs 0 8, le bs 8 8, le bs 16 2, le bs 18 1, bs.getD 19 0⟩

/-- R443: an entry of 64 bytes. -/
def subOfBytes (seq idx : Nat) (bs : List Byte) : SubEntry :=
  { seq := seq, idx := idx, kind := le bs 0 1, flag := le bs 1 1 % 2 == 1, tag := le bs 4 4,
    a := BitVec.ofNat 64 (le bs 8 8), b := BitVec.ofNat 64 (le bs 16 8), c := BitVec.ofNat 32 (le bs 24 4) }

/-- R444: the 16 bytes of a completion. -/
def completionBytes (e : SubEntry) (st : FCode) : List Byte :=
  leBytes 4 e.tag ++ leBytes 2 st.num ++ leBytes 2 e.idx ++ leBytes 8 e.doneAt

/-- R436: transfers outstanding under the old parity, from the parities of those in flight. -/
def oldUnder (cur : Bool) (pars : List Bool) : Nat := (pars.filter fun p => p != cur).length

end Sys2Proof.Machine
end

