-- ==== Sys2Proof/Machine/ConfluenceState.lean ====
section
/-!
DEFINITION. Catchments: heartbeats, votes, epochs and their mirrors, rewinds (spec 14).
-/
namespace Sys2Proof

namespace Machine

/-- R404: an entry of the catchment record. -/
structure CatchEntry where
  eui : Word
  identity : Nat
  standby : Bool
  rank : Nat
  buddy : Nat
  deriving DecidableEq, Repr

/-- R404: a manifest entry. -/
structure MirrorEntry where
  owner : Nat
  slot : Nat
  parity : Nat
  mslot : Nat
  base : Nat
  length : Nat
  deriving DecidableEq, Repr

/-- R404: the catchment record. -/
structure Catchment where
  ident : Nat
  standbys : Nat
  ifgen : Nat
  tenant : Nat
  crc : Nat
  entries : List CatchEntry
  manifest : List MirrorEntry
  deriving DecidableEq, Repr

/-- R406, R407: what is held of a neighbour (entry index): links with a matching heartbeat, the last tick heard on time, and the
ticks in a row without one. -/
structure Neighbour where
  matched : List Nat := []
  heard : Option Nat := none
  silent : Nat := 0
  suspect : Bool := false
  deriving DecidableEq, Repr

/-- R411, R412: an open vote: its opening tick, round, ballots in hand, the verdict computed (retired members, TSW,
epoch, action) and the digests of the verdicts that others sent. -/
structure Vote where
  vseq : Nat
  a : Nat
  round : Nat := 1
  ballots : Tbl Ballot := []
  diverge : Bool := false
  verdict : Option (Nat × Nat × Nat × Nat) := none
  others : List Nat := []
  deriving DecidableEq, Repr

/-- R418: a close in progress: the epoch, plots whose digest matched, and members whose EPOCH_OK has come. -/
structure Close where
  epoch : Nat
  at_ : Nat
  drained : Bool := false
  digests : List (Nat × Nat × Nat) := []
  matched : List (Nat × Nat) := []
  sentOk : Bool := false
  oks : List Nat := []
  failed : Bool := false
  deriving DecidableEq, Repr

/-- R415: a copy of a line of a MIRROR plot on its way to the buddy. -/
structure MirrorCopy where
  stack : Nat
  buddy : Nat
  tenant : Nat
  addr : Nat
  bytes : List (Byte × Bool)
  deriving DecidableEq, Repr

/-- R426, R427 and the agent's own state. `recorded` holds the digests of sealed plots by (epoch, slot); `reqs` the requests
of the open or next vote (bit 0 rewind, 1 self-retire, 2 close failed), `waitReqs` those that came too late for the open one;
`mirrorQ` the copies held through an edition change ; `becomes` the entry whose rank and
identity a standby has taken. -/
structure Confluence where
  record : Option Catchment := none
  patches : List Byte := []
  mismatch : Bool := false
  stopped : Bool := false
  diverge : Bool := false
  nopatch : Bool := false
  sealw : Bool := false
  eabort : Bool := false
  emism : Bool := false
  rwdone : Bool := false
  fenced : Bool := false
  member : Bool := false
  pull : Bool := false
  cur : Nat := 1
  last : Nat := 0
  eclose : Nat := 0
  lstep : Nat := 0
  nstep : Nat := 0
  vseq : Nat := 0
  atick : Nat := 0
  digest : Nat := 0
  action : Nat := 0
  retired : Word := 0
  mirror : Nat := 0
  hbmiss : Nat := 0
  late : Nat := 0
  neigh : Tbl Neighbour := []
  quietTicks : Nat := 0
  vote : Option Vote := none
  forwarded : List Nat := []
  reqs : Nat := 0
  waitReqs : Nat := 0
  mirrorQ : List MirrorCopy := []
  waitAccuse : Bool := false
  close : Option Close := none
  sealedParity : List Nat := []
  recorded : List (Nat × Nat × Nat) := []
  becomes : Option Nat := none
  deriving DecidableEq, Repr

/-- R404: the record read from the bytes of 0x5400. -/
def catchOfBytes (bs : List Byte) : Catchment :=
  let n := le bs 4 1
  let m := le bs 10 2
  { ident := le bs 2 2, standbys := le bs 5 1, ifgen := le bs 6 2, tenant := le bs 8 2, crc := le bs 12 4,
    entries := (List.range n).map fun i =>
      let o := 16 + 16 * i
      ⟨BitVec.ofNat 64 (le bs o 8), le bs (o + 8) 2, le bs (o + 10) 1 == 1, le bs (o + 11) 1, le bs (o + 12) 2⟩,
    manifest := (List.range m).map fun j =>
      let o := 16 + 16 * n + 24 * j
      ⟨le bs o 1, le bs (o + 1) 1, le bs (o + 2) 1, le bs (o + 3) 1, le bs (o + 8) 8, le bs (o + 16) 8⟩ }

/-- The entry index of an EUI-64 or of a Larre identity. -/
def Catchment.indexOf (r : Catchment) (eui : Word) : Option Nat := (findIdx (fun e => e.eui == eui) r.entries 0).map (·.1)
def Catchment.byIdentity (r : Catchment) (i : Nat) : Option Nat := (findIdx (fun e => e.identity == i) r.entries 0).map (·.1)
def Catchment.identityOf (r : Catchment) (i : Nat) : Nat := ((r.entries[i]?).map (·.identity)).getD 0xFFFF

/-- The entry index that the panel stands for: the one it has taken over, or its own. -/
def Confluence.me (c : Confluence) (eui : Word) : Option Nat :=
  match c.becomes with
  | some i => some i
  | none => c.record.bind fun r => r.indexOf eui

/-- R426: CNF_STAT; `standby` follows from the record. -/
def Confluence.statWord (c : Confluence) (standby : Bool) : Nat :=
  flg 15 c.mismatch + flg 14 c.stopped + flg 13 c.diverge + flg 12 c.nopatch + flg 11 c.sealw + flg 10 c.eabort + flg 9 c.emism
    + flg 8 c.rwdone + flg 7 c.fenced + flg 6 c.vote.isSome + flg 5 c.close.isSome + flg 4 c.member + flg 3 standby + flg 2 c.pull

/-- R425, R426: a write to a CNF register, CNF_CTL apart. -/
def Confluence.write (c : Confluence) (off v : Nat) : Confluence :=
  if off = 0 then
    { c with mismatch := c.mismatch && (v >>> 15) % 2 = 0, stopped := c.stopped && (v >>> 14) % 2 = 0,
             diverge := c.diverge && (v >>> 13) % 2 = 0, nopatch := c.nopatch && (v >>> 12) % 2 = 0,
             sealw := c.sealw && (v >>> 11) % 2 = 0, eabort := c.eabort && (v >>> 10) % 2 = 0,
             emism := c.emism && (v >>> 9) % 2 = 0, rwdone := c.rwdone && (v >>> 8) % 2 = 0 }
  else if off = 0x20 then { c with nstep := v % 2 ^ 32 }
  else c

/-! The verdict (R412) -/

/-- CRC-64 of R417: polynomial 0x42F0_E1EB_A9EA_3693, initial value 0, not reflected. -/
def crc64 (bs : List Byte) : Nat :=
  bs.foldl (fun r b => (List.range 8).foldl (fun r i =>
    let fb := ((r >>> 63) % 2 == 1) != b.getLsbD (7 - i)
    let r1 := (r <<< 1) % 2 ^ 64
    if fb then Nat.xor r1 0x42F0E1EBA9EA3693 else r1) r) 0

/-- R412: retired members, action and epoch of the union table of a record with `n` entries. -/
structure Verdict where
  retired : Nat
  action : Nat
  epoch : Nat
  deriving DecidableEq, Repr

def computeVerdict (r : Catchment) (bs : Tbl Ballot) : Verdict :=
  let n := r.entries.length
  let present (i : Nat) : Bool := (Tbl.get? bs i).isSome
  let ps := (List.range n).filter present
  if ps.length < n / 2 + 1 then ⟨0, 3, 0⟩
  else
    let gone (i : Nat) : Bool :=
      (!present i && bs.any (fun (_, b) => b.silent.getLsbD i) && !(bs.any fun (_, b) => b.heard.getLsbD i))
        || (match Tbl.get? bs i with | some b => b.req.getLsbD 1 | none => false)
    let retired := (List.range n).filter gone
    let isStandby (i : Nat) : Bool := ((r.entries[i]?).map (·.standby)).getD false
    let members := retired.filter fun i => !isStandby i
    let standbys := ps.filter fun i => isStandby i && !gone i
    let buddyGone := members.any fun i => match (r.entries[i]?).bind fun e => r.byIdentity e.buddy with
      | some j => gone j | none => false
    let mask := (retired.map fun i => 2 ^ i).sum
    let asks := bs.any fun (_, b) => b.req.getLsbD 0 || b.req.getLsbD 2
    let epoch := (bs.map fun (_, b) => b.last.toNat).foldl Nat.max 0
    if standbys.length < members.length ∨ buddyGone then ⟨mask, 2, 0⟩
    else if !retired.isEmpty || asks then ⟨mask, 1, epoch⟩
    else ⟨mask, 0, 0⟩

/-- R412 step 3: the standby that takes a retired member. -/
def standbyFor (r : Catchment) (bs : Tbl Ballot) (retired i : Nat) : Option Nat :=
  let n := r.entries.length
  let isStandby (i : Nat) : Bool := ((r.entries[i]?).map (·.standby)).getD false
  let out (i : Nat) : Bool := (retired >>> i) % 2 = 1
  let members := (List.range n).filter fun j => out j && !isStandby j
  let standbys := (List.range n).filter fun j => isStandby j && !out j && (Tbl.get? bs j).isSome
  match findIdx (· == i) members 0 with
  | some (k, _) => standbys[k]?
  | none => none

/-- R410: the VERDICT payload, and R412: its digest. -/
def verdictPayload (v : Verdict) (tsw : Nat) : List Byte :=
  leBytes 8 v.retired ++ leBytes 8 tsw ++ leBytes 4 v.epoch ++ leBytes 1 v.action ++ leBytes 11 0

end Machine
end Sys2Proof
end

