-- ==== Sys2Proof/Machine/DiagState.lean ====
section
/-!
DEFINITION. Diagnostic runs (spec 23 R596 to R600).
-/
namespace Sys2Proof.Machine

/-- R597: a run in progress: its kind (0 loopback, 1 SRAM, 2 stack), interface and target. -/
structure DiagRun where
  kind : Nat
  iface : Nat
  depth : Nat
  target : Nat
  deriving DecidableEq, Repr

/-- R597: `state` is that of 0x9001: 0 none, 1 running, 2 done, 3 abandoned. -/
structure Diag where
  run : Option DiagRun := none
  state : Nat := 0
  pass : Bool := false
  kind : Nat := 0
  errors : Nat := 0
  tick : Nat := 0
  deriving DecidableEq, Repr

/-- R597: 0x9001. -/
def Diag.word (d : Diag) : Nat := fld 62 d.state + flg 61 d.pass + fld 58 d.kind + fld 32 d.errors + d.tick % 2 ^ 32

/-- R596: the depth is offered for the interface. -/
def depthOffered (iface depth : Nat) : Bool :=
  decide (1 ≤ depth ∧ depth ≤ 4) && decide (iface ≤ 4) && !(iface == 3 && depth == 3) && !(iface == 4 && decide (depth ≥ 3))

/-- R597, R599: a run ends with its result. -/
def Diag.finish (d : Diag) (errors tick : Nat) : Diag :=
  match d.run with
  | some r => { d with run := none, state := 2, pass := errors == 0, kind := r.kind, errors := Nat.min (2 ^ 26 - 1) errors, tick := tick }
  | none => d

/-- 01 R36 step 3: the self-test of a reserve leaves its result where a run's stands; a run in progress stays one. -/
def Diag.report (d : Diag) (lines tick : Nat) : Diag :=
  { d with state := if d.run.isSome then d.state else 2, pass := lines == 0, kind := 1, errors := Nat.min (2 ^ 26 - 1) lines, tick := tick }

end Sys2Proof.Machine
end

