-- ==== Sys2Proof/Machine/FirmwareState.lean ====
section
/-!
DEFINITION. Firmware images, their checks, and the components and watchdogs that run them (spec 19).
-/
namespace Sys2Proof.Machine

/-- R529: what 0x1F00 holds of an image kind. `state`: 0 not loaded, 1 accepted, 2 refused, 3 accepted by override. -/
structure FwImage where
  state : Nat := 0
  ifgen : Nat := 0
  version : Nat := 0
  digest : Nat := 0
  steppings : List Nat := []
  ranges : List (Nat × Nat × Nat) := []
  deriving DecidableEq, Repr

/-- R529, R533: a component of SVF. `recent` holds the counts of its restarts, newest first. -/
structure FwComp where
  state : Nat := 0
  restarts : Nat := 0
  last : Nat := 0
  recent : List Nat := []
  deriving DecidableEq, Repr

/-- The firmware of a start. `held` are the images written and not accepted, by kind; `delivered` the kinds broadcast (R525);
`active` the active Surveyor (0 SV-A); `svbUp` that SV-B can take over; `dogs` the expiries of R534 by kind * 65536 + unit; `svfAnchors`
a mask of the anchors that the running SVF's keys stand in (18 R516). -/
structure Firmware where
  imgs : Tbl FwImage := []
  held : Tbl (List Byte) := []
  rkind : Nat := 0
  reason : Nat := 0
  pkind : Nat := 0
  rversion : Nat := 0
  pversion : Nat := 0
  override : Nat := 0
  delivered : List Nat := []
  comps : Tbl FwComp := []
  active : Nat := 0
  svbUp : Bool := true
  dogs : Tbl (List Nat) := []
  svfAnchors : Nat := 0
  deriving DecidableEq, Repr

def Firmware.img (f : Firmware) (k : Nat) : FwImage := Tbl.get {} f.imgs k
def Firmware.comp (f : Firmware) (k : Nat) : FwComp := Tbl.get {} f.comps k
def Firmware.modComp (f : Firmware) (k : Nat) (g : FwComp → FwComp) : Firmware := { f with comps := Tbl.mod {} f.comps k g }

/-- R526: the image of a kind is accepted. -/
def Firmware.accepted (f : Firmware) (k : Nat) : Bool := (f.img k).state == 1 || (f.img k).state == 3
def Firmware.allAccepted (f : Firmware) : Bool := [1, 2, 3, 4].all f.accepted

/-! The manifest (R521) -/

/-- R521: the offsets of the tested-with set, keys and signatures. -/
def twOff (bs : List Byte) : Nat := 0x20 + 64 * le bs 0x0C 2
def keysOff (bs : List Byte) : Nat := twOff bs + 12 * le bs 0x0E 2
def sigsOff (bs : List Byte) : Nat := keysOff bs + 96 + 2592
def sigsEnd (bs : List Byte) : Nat := sigsOff bs + 96 + 4627

/-- R526 check 1, R521: the format of an image written to the object of kind `k`. -/
def fwFormatOk (k : Nat) (bs : List Byte) : Bool :=
  le bs 0 4 == 0x4E464D4D && le bs 4 1 == k && le bs 5 1 == 1 && le bs 0x0C 2 == (if k = 1 then 6 else 1)
    && decide (1 ≤ le bs 0x0E 2 ∧ le bs 0x0E 2 ≤ 64) && le bs 0x10 4 == bs.length && decide (bs.length ≤ 64 * 2 ^ 20)
    && le bs 0x14 4 == sigsEnd bs && decide (sigsEnd bs ≤ bs.length)

/-- R504 step 3: each component's digest matches its bytes. -/
def fwCompsOk (bs : List Byte) : Bool :=
  (List.range (le bs 0x0C 2)).all fun i =>
    let o := 0x20 + 64 * i
    (Config.sha384 ((bs.drop (le bs (o + 4) 4)).take (le bs (o + 8) 4))).toNat == le bs (o + 16) 48

/-- R504: signatures, anchors and component digests. `revoked` are the firmware anchors revoked; `unsigned` that images of kinds
2 to 4 without signatures (signature fields all 0) are accepted. -/
def fwSigOk (revoked : Nat) (unsigned : Bool) (k : Nat) (bs : List Byte) : Bool :=
  let sigs := (bs.drop (sigsOff bs)).take (96 + 4627)
  let dig := Config.sha384 (bs.take (sigsOff bs))
  let kec := (bs.drop (keysOff bs)).take 96
  let kml := (bs.drop (keysOff bs + 96)).take 2592
  let anchored (key : List Byte) : Bool :=
    (List.range 4).any fun n => !(revoked >>> n) % 2 = 1 && Config.fwAnchor n == Config.sha384 key
  let signed := anchored kec && anchored kml && Config.sigOk 0 kec dig (sigs.take 96) && Config.sigOk 1 kml dig (sigs.drop 96)
  fwCompsOk bs && (signed || (unsigned && k != 1 && sigs.all (· == 0)))

/-- R504 step 2: the anchor slots that hold the digests of an image's keys. -/
def fwAnchorsOf (bs : List Byte) : Nat :=
  let keys := [(bs.drop (keysOff bs)).take 96, (bs.drop (keysOff bs + 96)).take 2592]
  ((List.range 4).map fun n => flg n (keys.any fun k => Config.fwAnchor n == Config.sha384 k)).sum

/-- R521, R522: the image that a manifest describes, its tested-with set by kind. -/
def fwParse (bs : List Byte) : FwImage :=
  let es := (List.range (le bs 0x0E 2)).map fun i => twOff bs + 12 * i
  { ifgen := le bs 6 2, version := le bs 8 4, digest := (Config.sha384 (bs.take (le bs 0x14 4))).toNat,
    steppings := (es.filter fun o => le bs o 1 == 0).map fun o => le bs (o + 1) 1,
    ranges := (es.filter fun o => le bs o 1 != 0).map fun o => (le bs o 1, le bs (o + 4) 4, le bs (o + 8) 4) }

/-- R522: image `x` accepts version `v` of kind `k`. -/
def FwImage.takes (x : FwImage) (k v : Nat) : Bool := x.ranges.any fun (j, lo, hi) => j == k && decide (lo ≤ v ∧ v ≤ hi)

/-- R522: two images accept each other. -/
def mutual_ (kx : Nat) (x : FwImage) (ky : Nat) (y : FwImage) : Bool := x.takes ky y.version && y.takes kx x.version

/-- R526 check 5: the first kind, SVF before the others, that does not go with image `x` of kind `k`. -/
def Firmware.misfit (f : Firmware) (k : Nat) (x : FwImage) : Option Nat :=
  [1, 2, 3, 4].find? fun j => j != k && f.accepted j && !mutual_ k x j (f.img j)

/-- R526: the outcome of the checks: accepted (and whether check 5 was waived), or refused with a code and the partner that the
failing check lacked. -/
inductive FwVerdict where
  | accept (override : Bool)
  | refuse (code : FCode) (pkind pversion : Nat)
  deriving DecidableEq, Repr

def Firmware.judge (f : Firmware) (stepping revoked : Nat) (unsigned : Bool) (k : Nat) (bs : List Byte) : FwVerdict :=
  let x := fwParse bs
  if !fwFormatOk k bs then .refuse .fwFormat 0 0
  else if !fwSigOk revoked unsigned k bs then .refuse .fwSignature 0 0
  else if k != 1 && x.ifgen != (f.img 1).ifgen then .refuse .fwIfgen 0 0
  else if !x.steppings.contains stepping then .refuse .fwTestedWith 0 stepping
  else match f.misfit k x with
    | none => .accept false
    | some j => if (f.override >>> (k - 1)) % 2 = 1 then .accept true else .refuse .fwTestedWith j (f.img j).version

/-- R529: the reason code of 0x1F00. -/
def fwReason : FCode → Nat
  | .fwFormat => 1 | .fwSignature => 2 | .fwTestedWith => 3 | .fwIfgen => 4 | _ => 0

/-- R529: the bytes of 0x1F00. -/
def Firmware.record (f : Firmware) : List Byte :=
  let state := if f.allAccepted then 1 else if f.rkind ≠ 0 then 2 else 0
  leBytes 1 state ++ leBytes 1 f.rkind ++ leBytes 1 f.reason ++ leBytes 1 f.pkind ++ leBytes 4 f.rversion ++ leBytes 4 f.pversion
    ++ leBytes 4 0
    ++ ([1, 2, 3, 4].flatMap fun k => leBytes 1 k ++ leBytes 1 (f.img k).state ++ leBytes 2 (f.img k).ifgen
          ++ leBytes 4 (f.img k).version ++ leBytes 48 (f.img k).digest)
    ++ ((List.range 6).flatMap fun k => leBytes 1 k ++ leBytes 1 (f.comp k).state ++ leBytes 2 (f.comp k).restarts
          ++ leBytes 8 (f.comp k).last)

/-- R533, R534: the events of the last 10 s, the one at `now` among them. -/
def within10s (now : Nat) (xs : List Nat) : List Nat := now :: xs.filter fun t => decide (now < t + 10000000000)

end Sys2Proof.Machine
end

