-- ==== Sys2Proof/Machine/HostState.lean ====
section
/-!
DEFINITION. The two host ports: links, functions, roles, IDE streams, and pod membership (spec 16).
-/
namespace Sys2Proof.Machine

/-- R468, 18 R507: an IDE stream: the keys in the port's key unit by their place (set, direction and sub-stream, as `ideSlot` has them), the
places active, and its state. -/
structure IdeStream where
  keys : Tbl Nat := []
  active : List Nat := []
  secure : Bool := false
  insecure : Bool := false
  deriving DecidableEq, Repr

/-- 18 R502, R507: the slot of an IDE key in a key-path message: stream, then key set, direction and sub-stream (PRESUMED, log entry 45). -/
def ideSlot (stream set dir sub : Nat) : Nat := 256 * (stream % 256) + 16 * (set % 2) + 8 * (dir % 2) + sub % 8

/-- R468: a stream is Secure once both directions run on sub-streams 0 to 2 (PRESUMED from PCIe, log entry 45). -/
def IdeStream.settle (x : IdeStream) : IdeStream :=
  let on (dir sub : Nat) : Bool := [0, 1].any fun set => x.active.contains (16 * set + 8 * dir + sub)
  { x with secure := !x.insecure && [0, 1].all fun d => [0, 1, 2].all fun b => on d b }

/-- R455 to R472: one port. `vfs` is the number of VFs enabled (SR-IOV configuration is the host's; log entry 23);
`goAt` the stamp of a pending GO and the epoch it was made against; `katFail` that the IDE
key unit failed its test (18 R510). -/
structure HostPort where
  linkUp : Bool := false
  perst : Bool := false
  vfs : Nat := 512
  ide : Tbl IdeStream := []
  reqEpoch : Nat := 0
  result : Nat := 0
  goAt : Option (Nat × Nat) := none
  haltCq : Nat := 0
  katFail : Bool := false
  deriving DecidableEq, Repr

/-- R463 to R466, R470: roles and membership. `members` are the identities in force, `lost` the members whose path is
lost, `headLost` that this panel lost its head, `selectAt` when the role at start is settled. -/
structure Hosts where
  ports : Tbl HostPort := []
  primary : Nat := 0
  epoch : Nat := 1
  pend : Option Nat := none
  promoteAtLink : Bool := false
  members : List Nat := []
  lost : List Nat := []
  headLost : Bool := false
  selectAt : Option Nat := none
  deriving DecidableEq, Repr

def Hosts.port (h : Hosts) (p : Nat) : HostPort := Tbl.get {} h.ports p
def Hosts.modPort (h : Hosts) (p : Nat) (f : HostPort → HostPort) : Hosts := { h with ports := Tbl.mod {} h.ports p f }

/-- R464, R465: the primary role passes to a port and the epoch advances. -/
def Hosts.promote (h : Hosts) (p : Nat) : Hosts := { h with primary := p, epoch := (h.epoch + 1) % 2 ^ 32, pend := none, promoteAtLink := false }

/-- R456: the port and function of a host address, and whether the function exists. -/
def hostPortOf (a : Nat) : Nat := (a >>> 59) % 2
def hostFnOf (a : Nat) : Nat := (a >>> 49) % 1024

/-- R456: the function is enabled. -/
def Hosts.enabled (h : Hosts) (p fn : Nat) : Bool := fn == 0 || decide (fn ≤ (h.port p).vfs)

/-- R472: SVY_ROLE of a port. -/
def Hosts.roleWord (h : Hosts) (p : Nat) : Nat :=
  fld 32 h.epoch + flg 2 h.pend.isSome + flg 1 (h.primary == p) + flg 0 (h.port (1 - p)).linkUp

/-- R462: the vector of a channel's completion. -/
def completionVector (fn index : Nat) : Nat := 1 + index % ((if fn = 0 then 2048 else 32) - 1)

end Sys2Proof.Machine
end

