-- ==== Sys2Proof/Machine/HbmState.lean ====
section
/-!
DEFINITION. One memory stack and its base die: lines, keys, ECC, channel retirement, refresh, temperature and shapers (spec 11);
the token buckets of 11 R331, which 09 R281 shares.
-/
namespace Sys2Proof.Machine

/-! Token buckets (R331) -/

/-- R331: a bucket. `depth` is the DEPTH field as written; the balance is in bytes, signed. -/
structure Bucket where
  en : Bool := false
  rate : Nat := 0
  depth : Nat := 0
  bal : Int := 0
  deriving DecidableEq, Repr

/-- R339: D in bytes; a DEPTH of 0 is treated as 1. -/
def Bucket.limit (b : Bucket) : Int := (Nat.max 1 (Nat.min b.depth 16384) * 1024 : Nat)

/-- R331: the refill of one Meridian microsecond. -/
def Bucket.refill (b : Bucket) : Bucket :=
  let x := b.bal + 16 * (b.rate : Int)
  { b with bal := if x < b.limit then x else b.limit }

/-- R330, R331: a request is admitted: the bucket is inactive, or its balance is not negative. -/
def Bucket.admits (b : Bucket) : Bool := !b.en || decide (0 ≤ b.bal)

/-- R331: an admitted request of charged size `n`. -/
def Bucket.charge (b : Bucket) (n : Nat) : Bucket := if b.en then { b with bal := b.bal - n } else b

/-- R331, R339: a write of a shaper register: a positive balance is clipped to the new depth. -/
def Bucket.write (b : Bucket) (v : Nat) : Bucket :=
  let c : Bucket := { b with en := (v >>> 63) % 2 = 1, rate := (v >>> 32) % 65536, depth := v % 32768 }
  if 0 < c.bal ∧ c.limit < c.bal then { c with bal := c.limit } else c

/-- R331, log entry 75: an access of more than 8,192 bytes goes as requests of at most that size. The debt it leaves is that of its last. -/
def Bucket.chargeLong (b : Bucket) (n : Nat) : Bucket :=
  if b.en then { b with bal := if b.bal - (n : Int) < -8192 then -8192 else b.bal - n } else b

/-! The stack -/

/-- How a line's read fails its check, as the environment finds it: `false` corrected, `true` uncorrected. -/
abbrev LineFaults := List (Nat × Bool)

/-- R317, R327, R332: where a request waits at the base die: in its tenant's holding queue, in its memory link's input buffer, for an earlier
request to one of its lines, or for the aggregate bucket of band 2. -/
inductive HeldAt where
  | tenant
  | input
  | line
  | agg
  deriving DecidableEq, Repr

/-- R317, R325, R332: a request that waits: the lines that fail their check for it, the key that its slot held as it arrived, and the memory
link that it came by (its home position q). -/
structure HeldReq where
  p : Packet
  faults : LineFaults
  key : Option Nat
  link : Nat
  at_ : HeldAt := .line
  deriving DecidableEq, Repr

/-- R318: a 64-byte line's ECC state, where it is not clean. -/
inductive LineErr where
  | poison
  deriving DecidableEq, Repr

/-- R314 to R339. `mem` holds the data as written; `lineKey` the key number a line was written under (an unlisted line under
`zeroKey`); `poison` the poisoned lines; `lost` the channels whose data is lost and `fresh` the lines written whole since; `waiting` the requests that wait, in the order of their arrival. -/
structure Stack where
  mem : List Host.Cell := []
  lineKey : Tbl Nat := []
  zeroKey : Nat := 0
  poison : Tbl LineErr := []
  lost : List Nat := []
  fresh : Tbl Bool := []
  keys : Tbl Nat := []
  state : Nat := 0
  band : Nat := 0
  mlow : Bool := false
  keym : Bool := false
  ue : Bool := false
  ce : Bool := false
  mthr : Nat := 40
  hotdie : Nat := 0
  temp : Half := 0
  cap : Nat := 64000
  retired : List Nat := []
  rch : Nat := 0
  full : Bool := false
  done : Bool := false
  rows : Nat := 0
  prog : Nat := 0
  fault : Word := 0
  ceCnt : Nat := 0
  ueCnt : Nat := 0
  keyMiss : Nat := 0
  shapers : Tbl Bucket := []
  agg : Bucket := { en := true, rate := 64000, depth := 16384 }
  waiting : List HeldReq := []
  refresh : Tbl Nat := []
  pc : Tbl Nat := []
  fails : Tbl Nat := []
  stopped : Bool := false
  deriving DecidableEq, Repr

/-- R315: the data region. -/
def hbmDataSize : Nat := 0x861C46800

/-- R316: the channel of an offset. -/
def channelOf (off : Nat) : Nat := Nat.xor ((off >>> 8) % 32) ((off >>> 21) % 32)
/-- R316: its pseudo-channel. -/
def pseudoOf (off : Nat) : Nat := (off >>> 6) % 2

/-- R338: the first fault is recorded. -/
def Stack.record (s : Stack) (code tenant off : Nat) : Stack :=
  if s.fault.getLsbD 63 then s
  else { s with fault := BitVec.ofNat 64 (2 ^ 63 + fld 48 code + fld 36 (tenant % 512) + off % 2 ^ 36) }

/-- R318: the records of an uncorrected line. -/
def Stack.noteUe (s : Stack) (tenant off : Nat) : Stack :=
  { s with ue := true, ueCnt := satAdd 0xFFFFFFFF s.ueCnt 1 }.record 1 tenant (off - off % 64)

def Stack.noteCe (s : Stack) : Stack := { s with ce := true, ceCnt := satAdd 0xFFFFFFFF s.ceCnt 1 }

/-- R325, R339: a request that selects an empty slot. -/
def Stack.noteKeyMiss (s : Stack) (tenant off : Nat) : Stack :=
  { s with keym := true, keyMiss := satAdd 0xFFFFFFFF s.keyMiss 1 }.record 2 tenant (off - off % 64)

/-- R324: the key slot of a request. -/
def keySlot (fwkey : Bool) (tenant : Nat) : Nat := if fwkey then 512 + tenant % 4 else tenant % 512

/-- R318, R322: the line is poisoned, by a write or by the loss of its channel. -/
def Stack.isPoisoned (s : Stack) (line : Nat) : Bool :=
  (Tbl.get? s.poison line).isSome || (s.lost.contains (channelOf (64 * line)) && (Tbl.get? s.fresh line).isNone)

/-- R323: the data of line `line` of stack `k` as key number `key` decrypts it. -/
def Stack.lineData (s : Stack) (k line key : Nat) : List Byte :=
  let d := Memory.readN s.mem (64 * line) 64
  let w := Tbl.get s.zeroKey s.lineKey line
  if w = key then d else leBytes 64 (Config.wrongKeyLine (k * 2 ^ 48 + line) w key (leNat d)).toNat

/-- R318: a line read under a key: data, whether its words are marked, and the records made. -/
def Stack.readLine (s : Stack) (k tenant key line : Nat) (f : LineFaults) : List Byte × Bool × Stack :=
  let d := s.lineData k line key
  let bad := s.isPoisoned line || f.any (fun e => e.1 == line && e.2)
  if bad then (d, true, s.noteUe tenant (64 * line))
  else if f.any (fun e => e.1 == line) then (d, false, s.noteCe)
  else (d, false, s)

/-- The lines of an extent. -/
def linesOf (off len : Nat) : List Nat := if len = 0 then [] else span (off / 64) ((off + len - 1) / 64 + 1 - off / 64)

def Stack.readLines (s : Stack) (k tenant key : Nat) (f : LineFaults) : List Nat → List PByte × Stack
  | [] => ([], s)
  | l :: t =>
    let (d, bad, s1) := s.readLine k tenant key l f
    let (r, s2) := Stack.readLines s1 k tenant key f t
    ((d.map fun b => (b, bad)) ++ r, s2)

/-- R324, R325: the key that a request's slot holds now. -/
def Stack.keyOf (s : Stack) (fwkey : Bool) (tenant : Nat) : Option Nat := Tbl.get? s.keys (keySlot fwkey tenant)

/-- R317, R318, R325: `len` bytes read at `off` by a request of `tenant` under the key that its slot held. -/
def Stack.readKeyed (s : Stack) (k : Nat) (slot : Option Nat) (tenant off len : Nat) (f : LineFaults) : List PByte × Stack :=
  match slot with
  | none => (List.replicate len ((0 : Byte), true), s.noteKeyMiss tenant off)
  | some key =>
    let (bs, s1) := s.readLines k tenant key f (linesOf off len)
    ((bs.drop (off % 64)).take len, s1)

def Stack.readBytes (s : Stack) (k : Nat) (fwkey : Bool) (tenant off len : Nat) (f : LineFaults) : List PByte × Stack :=
  s.readKeyed k (s.keyOf fwkey tenant) tenant off len f

/-- One line written with the bytes `bs` from byte `at_` (R317, R318). -/
def Stack.writeLine (s : Stack) (k tenant key line at_ : Nat) (bs : List PByte) (f : LineFaults) : Stack :=
  let marked := bs.any (·.2)
  let store (s : Stack) (d : List Byte) (psn : Bool) : Stack :=
    { s with mem := Memory.writeN s.mem (64 * line) d, lineKey := Tbl.set s.lineKey line key,
             poison := if psn then Tbl.set s.poison line .poison else Tbl.erase s.poison line,
             fresh := if s.lost.contains (channelOf (64 * line)) then Tbl.set s.fresh line true else s.fresh }
  if at_ = 0 ∧ bs.length = 64 then store s (bs.map (·.1)) marked
  else
    let (d, bad, s1) := s.readLine k tenant key line f
    store s1 (d.take at_ ++ bs.map (·.1) ++ d.drop (at_ + bs.length)) (bad || marked)

def Stack.writeFrom (s : Stack) (k tenant key off : Nat) (f : LineFaults) (bs : List PByte) : Nat → Stack
  | 0 => s
  | fuel + 1 =>
    if bs.isEmpty then s else
    let n := 64 - off % 64
    Stack.writeFrom (s.writeLine k tenant key (off / 64) (off % 64) (bs.take n) f) k tenant key (off + n) f (bs.drop n) fuel

/-- R317, R325: bytes written at `off` by a request of `tenant` under the key that its slot held; with an empty slot the write is discarded. -/
def Stack.writeKeyed (s : Stack) (k : Nat) (slot : Option Nat) (tenant off : Nat) (bs : List PByte) (f : LineFaults) : Stack :=
  match slot with
  | none => s.noteKeyMiss tenant off
  | some key => s.writeFrom k tenant key off f bs (bs.length + 1)

def Stack.writeBytes (s : Stack) (k : Nat) (fwkey : Bool) (tenant off : Nat) (bs : List PByte) (f : LineFaults) : Stack :=
  s.writeKeyed k (s.keyOf fwkey tenant) tenant off bs f

/-! Shaping (R327, R330 to R332) -/

def Stack.shaper (s : Stack) (t : Nat) : Bucket := Tbl.get {} s.shapers t

/-- R330: a request that the tenant's bucket shapes, by its SRC field. -/
def shapedSrc (src : Nat) : Bool := decide (src / 512 = 7 ∧ src % 512 < 192) || decide (src % 512 ≥ 256)

/-- R327: in band 2 the aggregate bucket stands behind the tenant's. -/
def Stack.aggAdmits (s : Stack) : Bool := s.band < 2 || s.agg.admits

def Stack.chargeAgg (s : Stack) (n : Nat) : Stack := if s.band < 2 then s else { s with agg := s.agg.charge n }

def Stack.chargeTenant (s : Stack) (t n : Nat) : Stack := { s with shapers := Tbl.mod {} s.shapers t (·.charge n) }

/-- R327, R330, R331, log entry 75: an access of `n` bytes by source `src` that comes by no packet. -/
def Stack.chargeAccess (s : Stack) (src t n : Nat) : Stack :=
  let s1 := if shapedSrc src then { s with shapers := Tbl.mod {} s.shapers t (·.chargeLong n) } else s
  if s1.band < 2 then s1 else { s1 with agg := s1.agg.chargeLong n }

/-- R331: every bucket of the stack refills. -/
def Stack.refillAll (s : Stack) : Stack :=
  { s with shapers := s.shapers.map fun (t, b) => (t, b.refill), agg := { s.agg with rate := Nat.max 1 s.cap }.refill }

/-! Channel retirement (R322, R329) -/

/-- R322: the channel is remapped and its data lost. -/
def Stack.loseChannel (s : Stack) (c : Nat) : Stack :=
  { s with retired := s.retired ++ [c], lost := c :: s.lost.filter (· != c),
           fresh := s.fresh.filter fun (l, _) => channelOf (64 * l) != c }

/-- R328, R329: what a retraining step asks for. -/
inductive Retrain where
  | keep
  | retire
  deriving DecidableEq, Repr

/-- R328, R329: a refresh command of channel `c`; one in eight is all-bank and carries a retraining step, which measured
`margin` (none: no passing setting). -/
def Stack.refreshCmd (s : Stack) (c : Nat) (margin : Option Nat) : Stack × Retrain :=
  let n := Tbl.get 0 s.refresh c + 1
  let s1 := { s with refresh := Tbl.set s.refresh c (n % 8) }
  if n % 8 ≠ 0 then (s1, .keep)
  else
    let s2 := { s1 with rch := c, pc := Tbl.mod 0 s1.pc c (fun p => 1 - p) }
    match margin with
    | none => (s2, .retire)
    | some m =>
      let fl := Tbl.get 0 s2.fails c
      if m > s.mthr then ({ s2 with fails := Tbl.erase s2.fails c }, .keep)
      else if m < s.mthr ∨ 0 < fl then
        let s3 := { s2 with mlow := s2.mlow || decide (m < s.mthr), fails := Tbl.set s2.fails c (fl + 1) }
        (s3, if fl + 1 ≥ 65 then .retire else .keep)
      else (s2, .keep)

/-! Registers (R334 to R339) -/

def Stack.statWord (s : Stack) : Nat :=
  fld 6 s.state + fld 4 s.band + flg 3 s.mlow + flg 2 s.keym + flg 1 s.ue + flg 0 s.ce

/-- R339: HBS_KEYSTATk. -/
def Stack.keyStat (s : Stack) (n : Nat) : Nat :=
  ((List.range 64).map fun i => flg i (decide (64 * n + i < 516) && (Tbl.get? s.keys (64 * n + i)).isSome)).sum

/-- R326: the band after a sample of `t` (1/16 °C). -/
def nextBand (band : Nat) (t : Int) : Nat :=
  if t > 95 * 16 then 2
  else if band = 2 then (if t > 92 * 16 then 2 else 1)
  else if t > 85 * 16 then 1
  else if band = 1 then (if t > 82 * 16 then 1 else 0)
  else 0

/-- R334 to R338: a write to an HBS register. The Surveyor, the stack controller and expert objects alone write HBS_CTL, HBS_THERM and
HBS_SHAPEt. -/
def Stack.write (s : Stack) (off v : Nat) (by_ : Writer) : Stack :=
  if off = 0x000 then
    { s with mlow := s.mlow && (v >>> 3) % 2 = 0, keym := s.keym && (v >>> 2) % 2 = 0,
             ue := s.ue && (v >>> 1) % 2 = 0, ce := s.ce && v % 2 = 0 }
  else if off = 0x030 then { s with fault := if (v >>> 63) % 2 = 1 then putBit s.fault 63 false else s.fault }
  else if !by_.stack then s
  else if off = 0x008 then { s with mthr := v % 256 }
  else if off = 0x018 then { s with cap := (v >>> 16) % 65536 }
  else if 0x1000 ≤ off ∧ off < 0x2000 ∧ off % 8 = 0 then
    { s with shapers := Tbl.mod {} s.shapers ((off - 0x1000) / 8) (·.write v) }
  else s

end Sys2Proof.Machine
end

