-- ==== Sys2Proof/Machine/DeltaState.lean ====
section
/-!
DEFINITION. The Delta network: packets, routers, hop credits, end-to-end windows, Eddy marks, Distributary and editions (spec 09).
-/
namespace Sys2Proof

/-! Route word fields (R253) -/

def Packet.dest (p : Packet) : Nat := Machine.bits p.route 63 52
def Packet.destUnit (p : Packet) : Nat := p.dest % 512
def Packet.destCluster (p : Packet) : Nat := p.dest / 512
def Packet.src (p : Packet) : Nat := Machine.bits p.route 51 40
def Packet.srcUnit (p : Packet) : Nat := p.src % 512
def Packet.cls (p : Packet) : Nat := Machine.bits p.route 39 38
def Packet.esc (p : Packet) : Bool := Machine.bit p.route 37
def Packet.ed (p : Packet) : Bool := Machine.bit p.route 36
def Packet.e (p : Packet) : Bool := Machine.bit p.route 35
def Packet.mode (p : Packet) : Nat := Machine.bits p.route 34 33
def Packet.len (p : Packet) : Nat := Machine.bits p.route 32 19
def Packet.last (p : Packet) : Bool := Machine.bit p.route 18
def Packet.ackreq (p : Packet) : Bool := Machine.bit p.route 17
def Packet.land (p : Packet) : Bool := Machine.bit p.route 16
def Packet.poisoned (p : Packet) : Bool := Machine.bit p.route 15
def Packet.tenant (p : Packet) : Nat := Machine.bits p.route 14 6
def Packet.fwkey (p : Packet) : Bool := Machine.bit p.route 5
def Packet.multicast (p : Packet) : Bool := p.cls == 2
/-- R254: the Direct header. -/
def Packet.addr (p : Packet) : Nat := Machine.bits p.head 127 64
def Packet.tag (p : Packet) : Nat := Machine.bits p.head 63 48
/-- R254: the Stream header. -/
def Packet.handle (p : Packet) : Nat := Machine.bits p.head 63 32
def Packet.offset (p : Packet) : Nat := Machine.bits p.head 31 0
/-- R255: the operation of a control packet. -/
def Packet.op (p : Packet) : Nat := Machine.bits p.head 63 56
/-- R252: the bytes of the packet on the network. -/
def Packet.size (p : Packet) : Nat :=
  8 + (if p.mode = 0 then 8 else if p.mode = 1 then 16 else 0) + p.len + (if p.poisoned then Machine.cdiv p.len 64 else 0)
/-- R252: its flits. -/
def Packet.flits (p : Packet) : Nat := Machine.cdiv p.size 64
/-- R252: the payload with each byte's poison mark: bit w of byte j of the map marks word 8j + w. -/
def Packet.marked (p : Packet) : List (Byte × Bool) :=
  p.payload.mapIdx fun i b => (b, p.poisoned && (p.poison.getD (i / 64) 0).getLsbD (i / 8 % 8))

/-- R252: the bytes of the packet in order: route word, header or control body, payload, poison map. -/
def Packet.bytes (p : Packet) : List Byte :=
  Machine.leBytes 8 p.route.toNat ++ Machine.leBytes (if p.mode = 0 then 8 else if p.mode = 1 then 16 else p.len) p.head.toNat
    ++ (if p.mode ≤ 1 then p.payload else []) ++ p.poison

/-- The class and sub-channel a packet travels on: class * 2 + sub-channel. -/
def Packet.subKey (p : Packet) : Nat := p.cls * 2 + (if p.esc then 1 else 0)
/-- R276: the entries of a router for a unit and for a group. -/
def RouteTables.uniAt (t : RouteTables) (router unit : Nat) : Half := Machine.Tbl.get 0 t.uni (router * 512 + unit)
def RouteTables.multiAt (t : RouteTables) (router group : Nat) : Word32 := Machine.Tbl.get 0 t.multi (router * 4096 + group)

namespace Machine

/-- R253: a route word. -/
structure RouteF where
  dest : Nat
  src : Nat
  cls : Nat
  mode : Nat
  len : Nat
  last : Bool := false
  ackreq : Bool := false
  land : Bool := false
  poison : Bool := false
  tenant : Nat := 0
  fwkey : Bool := false
  deriving DecidableEq, Repr

def RouteF.word (f : RouteF) : Word :=
  BitVec.ofNat 64 (fld 52 f.dest + fld 40 f.src + fld 38 f.cls + fld 33 f.mode + fld 19 f.len + flg 18 f.last + flg 17 f.ackreq
    + flg 16 f.land + flg 15 f.poison + fld 6 f.tenant + flg 5 f.fwkey)

/-- R252: the poison map of bytes with marks. -/
def poisonMap (bs : List PByte) : List Byte :=
  (List.range (cdiv bs.length 64)).map fun j =>
    BitVec.ofNat 8 (((List.range 8).map fun w => flg w (((bs.drop (64 * j + 8 * w)).take 8).any (·.2))).sum)

/-- A control packet of one body word (R255). -/
def ctlPacket (dest src cls body : Nat) : Packet := ⟨(RouteF.mk dest src cls 2 8 false false false false 0 false).word, BitVec.ofNat 128 body, [], []⟩

/-- R255: ACK, NAK, PROBE, WEIR_REQ, WEIR_GRANT, MACK and HALT. -/
def ackPacket (dest src : Nat) (mark : Bool) (rcvd : Nat) : Packet := ctlPacket dest src 1 (fld 56 1 + flg 55 mark + rcvd % 2 ^ 32)
def nakPacket (dest src code : Nat) (p : Packet) : Packet :=
  ctlPacket dest src 1 (fld 56 2 + fld 48 code + fld 20 p.dest + fld 6 p.len)
def probePacket (dest src : Nat) : Packet := ctlPacket dest src 0 (fld 56 3)
def weirReqPacket (dest src : Nat) (out : Bool) (reqid len base : Nat) : Packet :=
  ctlPacket dest src 0 (fld 56 4 + flg 55 out + fld 50 reqid + fld 25 len + base)
def weirGrantPacket (dest src reqid entry : Nat) : Packet := ctlPacket dest src 1 (fld 56 5 + fld 50 reqid + fld 46 entry)
def mackPacket (dest src group count : Nat) : Packet := ctlPacket dest src 1 (fld 56 7 + fld 44 group + count % 2 ^ 32)
def haltPacket (group src tenant : Nat) : Packet :=
  ⟨(RouteF.mk group src 2 2 8 false true false false tenant false).word, BitVec.ofNat 128 (fld 56 8 + fld 47 tenant), [], []⟩

/-- R254: a Direct packet with its data. -/
def directPacket (f : RouteF) (addr tag : Nat) (bs : List PByte) : Packet :=
  let psn := bs.any (·.2)
  ⟨({ f with mode := 1, len := bs.length, poison := psn }).word, BitVec.ofNat 128 (fld 64 addr + fld 48 tag), bs.map (·.1),
   if psn then poisonMap bs else []⟩

/-! Ports and hop credits (R259 to R265, R290) -/

/-- A packet queued for an output port: its flits still to send, the input it came by, and the copies of one multicast packet. -/
structure QPkt where
  p : Packet
  inPort : Nat
  inEsc : Bool
  left : Nat
  mid : Nat
  deriving DecidableEq, Repr

/-- A packet sent and not yet covered by a hop acknowledgement: the sent-flit count at its tail. -/
structure Flying where
  p : Packet
  tail : Nat
  deriving DecidableEq, Repr

/-- R290: one port. Counts of flits run modulo 2^16, keyed by class * 2 + sub-channel; `turn` and `deficit` are the round robin of R260. -/
structure DPort where
  en : Bool := false
  mode : Bool := false
  maxpay : Nat := 5
  tenant : Nat := 0
  up : Bool := false
  frozen : Bool := false
  braids : Nat := 0
  sent : Tbl Nat := []
  freed : Tbl Nat := []
  rxFreed : Tbl Nat := []
  queue : List QPkt := []
  flying : List Flying := []
  shaper : Bucket := {}
  turn : Nat := 0
  deficit : Tbl Nat := []
  deriving DecidableEq, Repr

/-- R259: the buffer of a sub-channel, in flits. -/
def subSize (key : Nat) : Nat := if key % 2 = 0 then 224 else 32

/-- R263, R264: the credits held: the buffer size minus the flits sent and not freed. -/
def DPort.held (d : DPort) (key : Nat) : Nat :=
  subSize key - (Tbl.get 0 d.sent key + 65536 - Tbl.get 0 d.freed key) % 65536

/-- R269: the class queue: the downstream buffer of the class minus the credits held. -/
def DPort.classQueue (d : DPort) (cls : Nat) : Nat := 256 - (d.held (2 * cls) + d.held (2 * cls + 1))

/-- R290: DLT_PORTp: credits held are read while the port is up. -/
def DPort.portWord (d : DPort) : Nat :=
  let cr (c : Nat) : Nat := if d.up then d.held (2 * c) + d.held (2 * c + 1) else 0
  flg 63 d.up + flg 62 d.frozen + fld 52 d.braids + fld 18 (cr 2) + fld 9 (cr 1) + cr 0

/-- R290: DLT_PCFGp; a port that does not inject reads 0. -/
def DPort.cfgWord (d : DPort) (p : Nat) : Nat := if p < 4 ∨ 16 ≤ p then 0 else flg 31 d.en + flg 30 d.mode + fld 27 d.maxpay + fld 18 d.tenant

/-- R263, R264, 10 R299: what HOPACK and CSYNC say of a class: the cumulative flits freed of its normal and its escape buffer (log
entry 72). -/
def DPort.freedValue (d : DPort) (cls : Nat) : Nat :=
  fld 70 cls + fld 32 (Tbl.get 0 d.rxFreed (2 * cls)) + fld 16 (Tbl.get 0 d.rxFreed (2 * cls + 1))

/-- R256: the effective maximum payload of a port. -/
def DPort.effMax (d : DPort) (mode : Nat) : Nat :=
  let m := 256 * 2 ^ Nat.min d.maxpay 5
  if mode = 1 then Nat.min m 4096 else m

/-- R255, R256: the most bytes that a packet carries, or that a READ asks for: its answer is a Direct packet. -/
def DPort.cutMax (d : DPort) (p : Packet) : Nat := d.effMax (if p.mode = 2 then 1 else p.mode)

/-- Flits of a packet that leave a port together: from flit `at_` on, `n` of them. -/
structure Chunk where
  p : Packet
  at_ : Nat
  n : Nat
  deriving DecidableEq, Repr

/-- The packets whose heads are among some flits. -/
def headsOf (cs : List Chunk) : List Packet := (cs.filter fun c => c.at_ == 0).map (·.p)

/-- What a port sent: itself after, what stays queued, the flits that left, those freed per input port and sub-channel key with their
multicast number, and the packets marked. -/
structure Pumped where
  d : DPort
  queue : List QPkt := []
  sent : List Chunk := []
  freed : List (Nat × Nat × Nat × Nat) := []
  marks : Nat := 0
  deriving DecidableEq, Repr

/-- R260: the quantum of the round robin: a packet of the greatest length, in bytes on the wire (log entry 62). -/
def deltaQuantum : Nat := 131 * 64

/-- R260: the packet that a class sends next at an output: of those that have a credit, the one whose head arrived first (log entry 62). -/
def DPort.head (d : DPort) (cls : Nat) : Option QPkt := d.queue.find? fun q => q.p.cls == cls && decide (0 < d.held q.p.subKey)

/-- R260: a class keeps its deficit while it has a packet queued. -/
def DPort.deficitOf (d : DPort) (cls : Nat) : Nat := if d.queue.any fun q => q.p.cls == cls then Tbl.get 0 d.deficit cls else 0

/-- The bytes that a queued packet sends now against the credits held. -/
def DPort.canSend (d : DPort) (q : QPkt) : Nat := 64 * Nat.min q.left (d.held q.p.subKey)

/-- R260: byte-deficit round robin: the class whose turn it is goes on while its deficit covers its packet; then the turn passes, with a
quantum, to the next class that can send. Answers the packet, and the port with its round robin moved on. -/
def DPort.fair (d : DPort) : Option (QPkt × DPort) :=
  let serve (c add : Nat) (q : QPkt) : QPkt × DPort :=
    (q, { d with turn := c, deficit := Tbl.set ((List.range 3).filterMap fun k => if k = c then none else some (k, d.deficitOf k)) c
                                          (d.deficitOf c + add - d.canSend q) })
  match (d.head d.turn).filter fun q => decide (d.canSend q ≤ d.deficitOf d.turn) with
  | some q => some (serve d.turn 0 q)
  | none => [d.turn + 1, d.turn + 2, d.turn + 3].findSome? fun c => (d.head (c % 3)).map (serve (c % 3) deltaQuantum)

/-- The first entry of a queue that is `q`: changed, or taken away. -/
def replaceQ (f : QPkt → Option QPkt) (q : QPkt) : List QPkt → List QPkt
  | [] => []
  | x :: t => if x = q then (f x).toList ++ t else x :: replaceQ f q t

/-- R260, R263, R269: flits of queued packets are sent against credits; a packet is marked as its head is forwarded, where the class queue
exceeds `thresh`. `fuel` bounds the number of packets served. -/
def pumpQueue (thresh : Nat) (d : DPort) : Nat → Pumped
  | 0 => { d := d, queue := d.queue }
  | fuel + 1 =>
    match d.fair with
    | none => { d := d, queue := d.queue }
    | some (q, d0) =>
      let key := q.p.subKey
      let n := Nat.min q.left (d.held key)
      let marks := decide (q.left = q.p.flits ∧ d.classQueue q.p.cls > thresh)
      let p := if marks then { q.p with route := putBit q.p.route 35 true } else q.p
      let sent := (Tbl.get 0 d.sent key + n) % 65536
      let d1 := { d0 with sent := Tbl.set d.sent key sent
                          queue := replaceQ (fun q => if n = q.left then none else some { q with p := p, left := q.left - n }) q d.queue
                          flying := if n = q.left then d.flying ++ [⟨p, sent⟩] else d.flying }
      let r := pumpQueue thresh d1 fuel
      { r with sent := ⟨p, q.p.flits - q.left, n⟩ :: r.sent, freed := (q.inPort, q.p.cls * 2 + (if q.inEsc then 1 else 0), n, q.mid) :: r.freed,
               marks := r.marks + (if marks then 1 else 0) }

/-! The router -/

/-- R282, R287 to R290: the router of one site. `counters`: 0 length drops, 1 mode drops, 2 route drops, 3 NAKs, 4 marks, 5 telemetry
drops. `tlmCount` counts the records written since SIZE was set; `tlmBuf` holds the records not yet sent, the oldest first. -/
structure Router where
  ports : Tbl DPort := []
  e2e : Bool := false
  rdrop : Bool := false
  idrop : Bool := false
  nakr : Bool := false
  cur : Bool := false
  armed : Bool := false
  v0 : Bool := false
  v1 : Bool := false
  tsw : Word := 0
  oldTick : Nat := 0
  oldCnt : Nat := 0
  thresh : Nat := 128
  timeout : Nat := 10
  window : Nat := 32
  tlmEn : Bool := false
  stopFull : Bool := false
  tlmK : Nat := 12
  tlmBase : Word := 0
  tlmSize : Nat := 0
  tlmCount : Nat := 0
  tlmBuf : List (List Byte) := []
  accepted : Nat := 0
  counters : Tbl Nat := []
  nextMid : Nat := 0
  deriving DecidableEq, Repr

def Router.port (r : Router) (p : Nat) : DPort := Tbl.get {} r.ports p
def Router.modPort (r : Router) (p : Nat) (f : DPort → DPort) : Router := { r with ports := Tbl.mod {} r.ports p f }
def Router.bump (r : Router) (k n : Nat) : Router := { r with counters := Tbl.mod 0 r.counters k fun x => satAdd 0xFFFFFFFF x n }

/-- Freed flits returned to the inputs they came by; a multicast packet's only when no copy is left unsent (R271). -/
def Router.free (r : Router) (fs : List (Nat × Nat × Nat × Nat)) : Router :=
  fs.foldl (fun r (inp, key, n, mid) =>
    if mid = 0 then r.modPort inp fun d => { d with rxFreed := Tbl.mod 0 d.rxFreed key fun x => (x + n) % 65536 } else r) r

/-- A multicast packet whose copies have all left frees its input buffer. -/
def Router.freeMulti (r : Router) (inp key n mid : Nat) : Router :=
  if r.ports.any (fun (_, d) => d.queue.any fun q => q.mid == mid) then r
  else r.modPort inp fun d => { d with rxFreed := Tbl.mod 0 d.rxFreed key fun x => (x + n) % 65536 }

/-- Copies of multicast packets that a port no longer queues free their buffers where they were the last. -/
def Router.freeGone (r : Router) (before after : List QPkt) : Router :=
  (before.filter fun x => x.mid != 0 && !(after.any fun y => y.mid == x.mid)).foldl
    (fun r x => r.freeMulti x.inPort (x.p.cls * 2 + (if x.inEsc then 1 else 0)) x.p.flits x.mid) r

/-- R263: port `p` sends what its credits allow. Answers the flits that leave. -/
def Router.pump (r : Router) (p : Nat) : Router × List Chunk :=
  let d := r.port p
  if !d.up then (r, []) else
  let x := pumpQueue r.thresh d d.queue.length
  let r1 := ((r.modPort p fun _ => { x.d with queue := x.queue }).free x.freed).freeGone d.queue x.queue
  (if x.marks = 0 then r1 else r1.bump 4 x.marks, x.sent)

/-- R259: the flits of an input port's buffer that a class and sub-channel occupy; a multicast packet stays until all its copies have left. -/
def Router.occupied (r : Router) (inPort key : Nat) : Nat :=
  let qs := (r.ports.flatMap fun (_, d) => d.queue).filter fun q =>
    q.inPort == inPort && q.p.cls * 2 + (if q.inEsc then 1 else 0) == key
  ((qs.filter fun q => q.mid == 0).map (·.left)).sum + (((qs.filter fun q => q.mid != 0).map fun q => (q.mid, q.p.flits)).dedup.map (·.2)).sum

/-- R259: the buffer of the input port has room for a packet. -/
def Router.hasRoom (r : Router) (inPort : Nat) (p : Packet) : Bool := decide (r.occupied inPort p.subKey + p.flits ≤ subSize p.subKey)

/-- R279: packets of the edition not stamped now that this router counts: those queued, and those sent to another router and not covered. -/
def Router.oldPackets (r : Router) : Nat :=
  (r.ports.map fun (o, d) =>
    (d.queue.filter fun q => q.p.ed != r.cur).length
      + (d.flying.filter fun f => f.p.ed != r.cur && decide (o < 4 ∨ 16 ≤ o)).length).sum

/-- R287: an old edition is draining: both slots hold one. -/
def Router.oldPend (r : Router) : Bool := r.v0 && r.v1

/-- R263: the flits covered by a newer freed count leave the books. -/
def DPort.acked (d : DPort) : DPort :=
  { d with flying := d.flying.filter fun f =>
      let key := f.p.subKey
      let fr := Tbl.get 0 d.freed key
      let out := (Tbl.get 0 d.sent key + 65536 - fr) % 65536
      decide (0 < (f.tail + 65536 - fr) % 65536 ∧ (f.tail + 65536 - fr) % 65536 ≤ out) }

/-- R263: the freed counts of a hop acknowledgement, keyed 0 to 5; a count that is not newer, modulo 2^16 within the flits outstanding,
changes nothing. -/
def DPort.applyFreed (d : DPort) (freed : List Half) : DPort :=
  ({ d with freed := (freed.mapIdx fun i (v : Half) =>
      let fr := Tbl.get 0 d.freed i
      (i, if (v.toNat + 65536 - fr) % 65536 ≤ (Tbl.get 0 d.sent i + 65536 - fr) % 65536 then v.toNat else fr)) }).acked

/-- R264: books reset from absolute counts, and thawed. -/
def DPort.creditSync (d : DPort) (freed : List Half) : DPort :=
  { ({ d with freed := (freed.mapIdx fun i (v : Half) => (i, v.toNat)) }).acked with frozen := false }

/-- R264, R283: absolute freed counts are in balance with the flits sent: no more than a buffer is outstanding. -/
def DPort.balances (d : DPort) (freed : List Half) : Bool :=
  (freed.mapIdx fun i (v : Half) => decide ((Tbl.get 0 d.sent i + 65536 - v.toNat) % 65536 ≤ subSize i)).all id

/-! Injection checks (R257) -/

/-- R255: body lengths of the control operations. -/
def opBody (op : Nat) : Option Nat :=
  if op = 6 then some 16 else if 1 ≤ op ∧ op ≤ 8 then some 8 else none

inductive InjectCheck where
  | pass
  | badLen
  | badMode
  | disabled
  deriving DecidableEq, Repr

/-- R255, R257: the checks in the order of the table, a READ's LENGTH among them; a control packet is not held to the port's MODE (DEDUCED, log entry 19). -/
def DPort.check (d : DPort) (p : Packet) : InjectCheck :=
  if p.mode ≤ 1 ∧ p.len > d.effMax p.mode then .badLen
  else if p.mode = 2 ∧ (opBody p.op).isSome ∧ opBody p.op ≠ some p.len then .badLen
  else if p.mode = 2 ∧ p.op = 6 ∧ bits p.head 55 42 > d.cutMax p then .badLen
  else if p.cls = 3 ∨ p.mode = 3 then .badMode
  else if p.mode = 2 ∧ opBody p.op = none then .badMode
  else if p.mode ≤ 1 ∧ decide (p.mode = 1) ≠ d.mode then .badMode
  else if p.cls = 2 ∧ p.mode = 0 then .badMode
  else if !d.en then .disabled
  else .pass

/-! Windows (R266 to R270, R278) -/

/-- R266, R270: a window entry of an injector. `ackd` counts what ACKs and returned READ data have acknowledged, `readAck` the latter alone;
`bucket` is in half bytes, exact at count `bucketAt`; `oldUntil` holds injection until ACKD reaches it (R278). -/
structure WinEntry where
  unit : Nat
  snt : Nat := 0
  ackd : Nat := 0
  readAck : Nat := 0
  q : Nat := 256
  lastHalf : Option Nat := none
  recovery : Option Nat := none
  probeAt : Option Nat := none
  probes : Nat := 0
  unreachable : Bool := false
  bucket : Nat := 16384
  bucketAt : Nat := 0
  oldUntil : Option Nat := none
  deriving DecidableEq, Repr

def WinEntry.outstanding (w : WinEntry) : Nat := (w.snt + 2 ^ 32 - w.ackd) % 2 ^ 32

/-- R270: the pacing bucket at count `now`: Q/256 of 384 bytes a nanosecond, one maximum packet deep. -/
def WinEntry.level (w : WinEntry) (now maxp : Nat) : Nat := Nat.min (2 * maxp) (w.bucket + 3 * w.q * (now - w.bucketAt))

/-- R267, R278: injection toward the destination holds, whatever its size. -/
def WinEntry.holds (w : WinEntry) : Bool := w.unreachable || w.oldUntil.isSome

/-- R266, R270, R278: what an injection of `n` counted bytes is held by. -/
def WinEntry.mayInject (w : WinEntry) (now n window maxp : Nat) : Bool :=
  !w.holds && decide (w.outstanding + n ≤ window) && decide (2 * n ≤ w.level now maxp)

/-- R270: the bucket brought to `now` at the rate in force until then; no time counts twice. -/
def WinEntry.settle (w : WinEntry) (now : Nat) : WinEntry := { w with bucket := w.bucket + 3 * w.q * (now - w.bucketAt), bucketAt := Nat.max w.bucketAt now }

def WinEntry.inject (w : WinEntry) (now n timeout maxp : Nat) : WinEntry :=
  { w with snt := (w.snt + n) % 2 ^ 32, bucket := w.level now maxp - 2 * n, bucketAt := now,
           probeAt := if n = 0 then w.probeAt else match w.probeAt with | some t => some t | none => some (now + timeout) }

/-- R266, R268: how far an ACK's RCVD lies beyond what is acknowledged already; one that does not advance it, or lies beyond the bytes
outstanding, is stale. -/
def WinEntry.ahead (w : WinEntry) (rcvd : Nat) : Nat := (rcvd + w.readAck + 2 ^ 32 - w.ackd) % 2 ^ 32
def WinEntry.stale (w : WinEntry) (rcvd : Nat) : Bool := decide (w.ahead rcvd = 0 ∨ w.ahead rcvd > w.outstanding)

/-- R266: an ACK that is not stale advances ACKD. -/
def WinEntry.advance (w : WinEntry) (rcvd : Nat) : WinEntry :=
  if w.stale rcvd then w else { w with ackd := (w.ackd + w.ahead rcvd) % 2 ^ 32 }

/-- R266: returned READ data acknowledges its bytes. -/
def WinEntry.ackRead (w : WinEntry) (n : Nat) : WinEntry :=
  let k := Nat.min n w.outstanding
  { w with ackd := (w.ackd + k) % 2 ^ 32, readAck := (w.readAck + k) % 2 ^ 32 }

/-- R267: an ACK answers the probes and restarts their timeout while bytes are outstanding. -/
def WinEntry.rearm (w : WinEntry) (now timeout : Nat) : WinEntry :=
  { w with probes := 0, probeAt := if w.outstanding = 0 then none else some (now + timeout),
           oldUntil := match w.oldUntil with
             | some x => if (w.ackd + 2 ^ 32 - x) % 2 ^ 32 < 2 ^ 31 then none else some x
             | none => none }

/-- R270: the effect of an ACK's mark. -/
def WinEntry.mark (w : WinEntry) (now : Nat) : WinEntry :=
  let halve := match w.lastHalf with | some t => decide (t + 2000 ≤ now) | none => true
  let w1 := if halve then { w.settle now with q := Nat.max 4 (w.q / 2), lastHalf := some now } else w
  { w1 with recovery := some (now + 10000) }

/-- R270: the recovery timer has reached 10 µs, and every arrival of that nanosecond has been taken; it restarts from then. -/
def WinEntry.recover (w : WinEntry) (now : Nat) : WinEntry :=
  match w.recovery with
  | some t => if t < now then { w.settle t with q := Nat.min 256 (w.q + 16), recovery := some (t + 10000) } else w
  | none => w

/-- R270: the recoveries due by `now`, of which 16 restore the full rate. -/
def WinEntry.recovered (w : WinEntry) (now : Nat) : WinEntry := (List.range 16).foldl (fun w _ => w.recover now) w

/-- R266: a window cache, most recently used first: the entry of a unit, if one can be held, the rest, and the entry evicted for it: the
least recently used one with nothing outstanding. A new entry goes on from the cumulative counts `base` that the pair had (log entry 63). -/
def winEntry (ws : List WinEntry) (unit : Nat) (base : Nat × Nat) : Option (WinEntry × List WinEntry × Option WinEntry) :=
  let new : WinEntry := { unit := unit, snt := base.1, ackd := base.1, readAck := base.2 }
  match ws.find? (fun w => w.unit == unit) with
  | some w => some (w, ws.filter fun x => x.unit != unit, none)
  | none =>
    if ws.length < 64 then some (new, ws, none)
    else match ws.reverse.find? (fun w => decide (w.snt = w.ackd)) with
      | some v => some (new, ws.filter fun x => x.unit != v.unit, some v)
      | none => none

def modWin (ws : List WinEntry) (unit : Nat) (f : WinEntry → WinEntry) : List WinEntry :=
  ws.map fun w => if w.unit = unit then f w else w

/-- R266, R269: what a destination holds for a source. -/
structure Rcvd where
  bytes : Nat := 0
  sinceAck : Nat := 0
  mark : Bool := false
  oldest : Option Nat := none
  deriving DecidableEq, Repr

/-- R266: bytes accepted at count `now`; answers whether an ACK is due. -/
def Rcvd.accept (r : Rcvd) (now n : Nat) (ackreq e : Bool) : Rcvd × Bool :=
  let r1 := { r with bytes := (r.bytes + n) % 2 ^ 32, sinceAck := r.sinceAck + n, mark := r.mark || e,
                     oldest := if n = 0 then r.oldest else match r.oldest with | some t => some t | none => some now }
  (r1, ackreq || decide (r1.sinceAck ≥ 4096))

/-- The ACK sent: its mark and its count. -/
def Rcvd.acked (r : Rcvd) : Rcvd := { r with sinceAck := 0, mark := false, oldest := none }

/-- R272: what a router has combined for a group. -/
structure MackAcc where
  ports : List Nat := []
  sum : Nat := 0
  deriving DecidableEq, Repr

/-- The Delta network. `tabs0` and `tabs1` are the two slots; `wins` the window caches by SRC; `rcvd` by unit * 4096 + SRC; `mack`
by site * 4096 + group; `mcPend` the groups with a multicast ACKREQ outstanding and `mcEd` the edition that packet carries; `mackSum` the leaves
that the last MACK of a group counted; `grants` the Weir grants that initiators hold (SRC, REQID, cluster, entry); `gone` the cumulative counts
of evicted window entries by SRC * 512 + unit; `outbox` the packets that units have made and that wait to be injected (site, port, packet); `lkMem` the Lockkeepers' memories by site * 2^25 + offset (R273); `edWanted` says that a
change waits for an edition. -/
structure Delta where
  routers : Tbl Router := []
  tabs0 : RouteTables := ⟨[], []⟩
  tabs1 : RouteTables := ⟨[], []⟩
  wins : Tbl (List WinEntry) := []
  rcvd : Tbl Rcvd := []
  mack : Tbl MackAcc := []
  mcPend : List Nat := []
  mcEd : Tbl Bool := []
  mackSum : Tbl Nat := []
  grants : List (Nat × Nat × Nat × Nat) := []
  gone : Tbl (Nat × Nat) := []
  outbox : List (Nat × Nat × Packet) := []
  lkMem : Tbl Byte := []
  edWanted : Bool := false
  deriving DecidableEq, Repr

def Delta.router (d : Delta) (s : Nat) : Router := Tbl.get {} d.routers s
def Delta.modRouter (d : Delta) (s : Nat) (f : Router → Router) : Delta := { d with routers := Tbl.mod {} d.routers s f }
/-- Every router changed. -/
def Delta.mapRouters (d : Delta) (f : Router → Router) : Delta := (List.range 192).foldl (fun d s => d.modRouter s f) d

/-- R274: the tables that a packet's ED names. -/
def Delta.tabs (d : Delta) (ed : Bool) : RouteTables := if ed then d.tabs1 else d.tabs0

/-- R288: values outside a range are taken as the nearest in it. -/
def clampNat (lo hi x : Nat) : Nat := Nat.max lo (Nat.min hi x)

/-- R249, R276: where a unicast packet leaves a router: its own site's cluster port, or the port of the table. -/
def Delta.outPort (d : Delta) (site : Nat) (p : Packet) : Option (Nat × Bool) :=
  if p.destUnit = site then some (4 + p.destCluster, false)
  else
    let t := (d.tabs p.ed).uniAt site p.destUnit
    if t.getLsbD 15 && decide (bits t 4 0 < 20) then some (bits t 4 0, t.getLsbD 14) else none

/-- A port that leads to another router (R249). -/
def meshPort (p : Nat) : Bool := decide (p < 4 ∨ 16 ≤ p)
/-- A port that leads out of its die, over the braids of its turn list: every port but those of the site's own clusters and Lockkeeper. -/
def linkPort (p : Nat) : Bool := decide (p < 4 ∨ p = 12 ∨ 14 ≤ p)

/-- R249, R265: a link port takes a packet only while it is up; the ports of the site's own clusters and Lockkeeper always do. -/
def Router.grants (r : Router) (out : Nat) : Bool := !linkPort out || (r.port out).up

/-- R251: transit ports carry only request and response packets to or from a stack. -/
def transitOk (out : Nat) (p : Packet) : Bool :=
  let stack (u : Nat) : Bool := decide (192 ≤ u ∧ u < 240)
  decide (out < 16) || (decide (p.cls ≤ 1) && (stack p.destUnit || stack p.srcUnit))

/-- What a router did with a packet: itself after, the copies delivered to the site's own units, the flits sent on link ports, and
whether the packet was dropped with a NAK_ROUTE due. -/
structure Fwd where
  r : Router
  deliver : List (Nat × Packet) := []
  sent : List (Nat × Chunk) := []
  nak : Bool := false
  deriving DecidableEq, Repr

/-- R265, R276: a packet dropped for want of a route. -/
def Router.dropRoute (r : Router) (p : Packet) : Fwd :=
  { r := { r.bump 2 1 with rdrop := true }, nak := !p.multicast && decide (p.mode ≤ 1) }

/-- R260, R279: one copy of a packet queued at a link output that is up. -/
def Router.enqueue (r : Router) (inPort : Nat) (inEsc : Bool) (mid out : Nat) (p : Packet) : Router :=
  r.modPort out fun d => { d with queue := d.queue ++ [⟨p, inPort, inEsc, p.flits, mid⟩] }

/-- The input buffer of a packet that leaves no copy queued is freed. -/
def Router.freeIn (r : Router) (inPort : Nat) (p : Packet) : Router :=
  if linkPort inPort then r.free [(inPort, p.subKey, p.flits, 0)] else r

/-- R271: a multicast packet is copied to every port of its set; its buffer is freed when every copy has left. -/
def Router.multicast (r : Router) (inPort : Nat) (outs : List Nat) (p : Packet) : Fwd :=
  let mid := r.nextMid + 1
  let good (o : Nat) : Bool := r.grants o && transitOk o p
  let local_ := outs.filter fun o => !linkPort o && good o
  let ups := outs.filter fun o => linkPort o && good o
  let downs := outs.filter fun o => !good o
  let r1 := { r with nextMid := mid }
  let r2 := if downs.isEmpty then r1 else { r1.bump 2 downs.length with rdrop := true }
  let r3 := ups.foldl (fun r o => r.enqueue inPort p.esc mid o p) r2
  let (r4, sent) := ups.foldl (fun (x : Router × List (Nat × Chunk)) o =>
    let (r, hs) := x.1.pump o
    (r, x.2 ++ hs.map fun h => (o, h))) (r3, [])
  { r := if ups.isEmpty then r4.freeIn inPort p else r4, deliver := local_.map fun o => (o, p), sent := sent }

/-- R249, R251, R260, R265, R276: a unicast packet at its output port. -/
def Router.unicast (r : Router) (inPort out : Nat) (detour : Bool) (p : Packet) : Fwd :=
  let p1 := if detour && !p.esc then { p with route := putBit p.route 37 true } else p
  if !r.grants out || !transitOk out p then
    let f := r.dropRoute p
    { f with r := f.r.freeIn inPort p }
  else if !linkPort out then { r := r.freeIn inPort p, deliver := [(out, p1)] }
  else
    let (r1, cs) := (r.enqueue inPort p.esc 0 out p1).pump out
    { r := r1, sent := cs.map fun h => (out, h) }

/-- R260, R271, R276: a router forwards a packet that arrived at `inPort`. -/
def Delta.forward (d : Delta) (site inPort : Nat) (p : Packet) : Fwd :=
  let r := d.router site
  if p.multicast then
    let t := (d.tabs p.ed).multiAt site p.dest
    r.multicast inPort ((List.range 20).filter fun i => t.getLsbD i) p
  else
    match d.outPort site p with
    | none => let f := r.dropRoute p; { f with r := f.r.freeIn inPort p }
    | some (out, detour) => r.unicast inPort out detour p

/-- R282: the telemetry record of a sampled packet. -/
def telemetryRecord (now : Nat) (p : Packet) (inPort out occ site seq : Nat) : List Byte :=
  leBytes 8 now ++ leBytes 8 p.route.toNat ++ leBytes 8 (bits p.head 63 0)
    ++ [BitVec.ofNat 8 inPort, BitVec.ofNat 8 out, BitVec.ofNat 8 occ, BitVec.ofNat 8 site] ++ leBytes 4 seq

/-- R265: a port goes down: everything queued or not covered is discarded, and what it held of input buffers is freed; answers the unicast
packets that get NAK_ROUTE. -/
def Router.portDown (r : Router) (p : Nat) : Router × List Packet :=
  let d := r.port p
  let all := d.queue.map (·.p) ++ d.flying.map (·.p)
  let r1 := ((r.modPort p fun d => { d with up := false, frozen := false, braids := 0, queue := [], flying := [] }).free
    (d.queue.map fun q => (q.inPort, q.p.cls * 2 + (if q.inEsc then 1 else 0), q.left, q.mid))).freeGone d.queue []
  let r2 := if all.isEmpty then r1 else { r1.bump 2 all.length with rdrop := true }
  (r2, all.filter fun q => !q.multicast && decide (q.mode ≤ 1))

/-! Registers (R286 to R290) -/

/-- R286: a write to a DLT register, table slots apart. -/
def Router.write (r : Router) (off v : Nat) : Router :=
  if off = 0x000 then
    { r with e2e := r.e2e && (v >>> 5) % 2 = 0, rdrop := r.rdrop && (v >>> 2) % 2 = 0,
             idrop := r.idrop && (v >>> 1) % 2 = 0, nakr := r.nakr && v % 2 = 0 }
  else if off = 0x010 then { r with tsw := BitVec.ofNat 64 v, armed := true }
  else if off = 0x020 then { r with thresh := v % 256 }
  else if off = 0x028 then { r with timeout := clampNat 1 1000 ((v >>> 16) % 65536), window := clampNat 9 255 (v % 256) }
  else if off = 0x030 then { r with tlmEn := (v >>> 31) % 2 = 1, stopFull := (v >>> 30) % 2 = 1, tlmK := clampNat 4 20 (v % 32) }
  else if off = 0x038 then { r with tlmBase := BitVec.ofNat 64 v }
  else if off = 0x040 then { r with tlmSize := (v >>> 32) % 2 ^ 32, tlmCount := 0 }
  else if 0x100 ≤ off ∧ off < 0x1A0 ∧ off % 8 = 0 then
    let p := (off - 0x100) / 8
    if 4 ≤ p ∧ p ≤ 15 then
      r.modPort p fun d => { d with en := (v >>> 31) % 2 = 1, mode := (v >>> 30) % 2 = 1, maxpay := (v >>> 27) % 8, tenant := (v >>> 18) % 512 }
    else r
  else if 0x300 ≤ off ∧ off < 0x3A0 ∧ off % 8 = 0 then
    let p := (off - 0x300) / 8
    if p = 11 ∨ p = 14 ∨ p = 15 then r.modPort p fun d => { d with shaper := d.shaper.write v } else r
  else r

/-- R287: DLT_STAT. -/
def Router.statWord (r : Router) : Nat :=
  flg 5 r.e2e + flg 4 (r.ports.any fun (_, d) => d.frozen) + flg 3 r.oldPend + flg 2 r.rdrop + flg 1 r.idrop + flg 0 r.nakr

/-- R277 step 5: T_sw has come at an armed router. -/
def Router.due (r : Router) (now : Nat) : Bool := r.armed && decide (r.tsw.toNat ≤ now)
/-- R277 step 5: the edition that an injection at count `now` is stamped with; one at exactly T_sw carries the new one. -/
def Router.edAt (r : Router) (now : Nat) : Bool := if r.due now then !r.cur else r.cur

/-- R287: the bytes of a router's tables in one slot, and their CRC-32. -/
def slotBytes (t : RouteTables) (router : Nat) : List Byte :=
  (List.range 512).flatMap (fun u => leBytes 2 (t.uniAt router u).toNat) ++ (List.range 4096).flatMap fun g => leBytes 4 (t.multiAt router g).toNat

/-- R286, R287: the slot holds the current or the draining edition, by V0 and V1. -/
def Router.slotHeld (r : Router) (e : Bool) : Bool := if e then r.v1 else r.v0

/-- R287: DLT_EDITION of a router; CRC is that of the free slot's tables, 0 while nothing has been written into them (log entry 73). -/
def Delta.editionWord (d : Delta) (site : Nat) : Nat :=
  let r := d.router site
  let t := d.tabs !r.cur
  fld 32 (if t = ⟨[], []⟩ then 0 else crc32 (slotBytes t site)) + flg 3 r.v1 + flg 2 r.v0 + flg 1 r.armed + flg 0 r.cur

/-- R277 step 5, R278: at T_sw the router stamps the new edition. -/
def Router.switch (r : Router) : Router :=
  if r.armed then { r with cur := !r.cur, armed := false, v0 := r.v0 || r.cur, v1 := r.v1 || !r.cur } else r

/-- R277 step 7: the draining edition's slot is freed. -/
def Router.retireOld (r : Router) : Router := if r.cur then { r with v0 := false } else { r with v1 := false }

end Machine
end Sys2Proof
end

