-- ==== Sys2Proof/Machine/LeveeState.lean ====
section
/-!
DEFINITION. The Levee braids: lanes, flit checks and replay, training, retraining, survey and loopback (spec 10).
-/
namespace Sys2Proof.Machine

/-- R299: an RT_REQ: kind 1 retrain, 2 width change, 3 loopback; its reason and loopback depth. -/
structure RtReq where
  kind : Nat
  reason : Nat
  depth : Nat := 0
  deriving DecidableEq, Repr

/-- R310 to R312: one end of a braid. `margins` holds per physical lane its margin (1/256 UI) and vertical opening (mV); `buf` the replay
buffer of R294, each flit with its sequence number, oldest first; `dlane` the lane of the current or next survey step; `svyAt` the count at which the last step began. -/
structure LevEnd where
  state : Nat := 0
  inlist : Bool := false
  init : Bool := false
  mlow : Bool := false
  rephi : Bool := false
  sbslow : Bool := false
  race : Bool := false
  svyen : Bool := true
  mthr : Nat := 31
  repthr : Nat := 4
  svyper : Nat := 5
  rotations : Nat := 0
  dlane : Nat := 0
  phase : Nat := 0
  lastm : Nat := 0
  margins : Tbl (Nat × Nat) := []
  replay : Nat := 0
  retrain : Nat := 0
  lbGo : Bool := false
  lbDepth : Nat := 0
  lbPat : Nat := 0
  lbPass : Bool := false
  lbDone : Bool := false
  lbErrs : Nat := 0
  rxSeq : Nat := 0
  txSeq : Nat := 0
  discarding : Bool := false
  buf : List (Nat × BitVec 512) := []
  winStart : Nat := 0
  winCount : Nat := 0
  own : Option RtReq := none
  waiting : Option RtReq := none
  converted : Nat := 0
  identOk : Bool := false
  shadow : Option (Nat × Nat) := none
  svyAt : Nat := 0
  deriving DecidableEq, Repr

/-- A braid: `carry` maps a physical lane to the logical lane it carries (as shipped: lane l carries l for l below 64); `slane`
is the survey lane and `cal` the lane being calibrated. -/
structure LevBraid where
  a : LevEnd := {}
  b : LevEnd := {}
  carry : Tbl (Option Nat) := []
  retired : List Nat := []
  half : Bool := false
  slane : Option Nat := none
  svyblk : Bool := false
  cal : Option Nat := none
  deriving DecidableEq, Repr

/-- The Levee state: braids by number; by (site * 20 + port) * 8 + class * 2 + sub-channel the turn lists (R296), those that a receiver
takes heads by, the turn that comes next in the cycle, the packets placed so far, and the braid that carries the packet in progress. `ranged` tells that this start has assigned its
roles (R298). -/
structure Levee where
  braids : Tbl LevBraid := []
  turns : Tbl (List Nat) := []
  rxTurns : Tbl (List Nat) := []
  turnAt : Tbl Nat := []
  placed : Tbl Nat := []
  onBraid : Tbl Nat := []
  ranged : Bool := false
  deriving DecidableEq, Repr

def Levee.braid (l : Levee) (b : Nat) : LevBraid := Tbl.get {} l.braids b
def Levee.modBraid (l : Levee) (b : Nat) (f : LevBraid → LevBraid) : Levee := { l with braids := Tbl.mod {} l.braids b f }

/-- R296: a new turn list; the cycle begins with its first turn. -/
def Levee.setTurn (l : Levee) (key : Nat) (list : List Nat) : Levee :=
  { l with turns := Tbl.set l.turns key list, turnAt := Tbl.erase l.turnAt key }

/-- R296: the next packet of a class and sub-channel is placed on the slot whose turn it is. -/
def Levee.place (l : Levee) (key : Nat) : Levee × Option Nat :=
  let ts := Tbl.get [] l.turns key
  match ts[Tbl.get 0 l.turnAt key % ts.length]? with
  | some slot => ({ l with turnAt := Tbl.set l.turnAt key ((Tbl.get 0 l.turnAt key + 1) % ts.length), onBraid := Tbl.set l.onBraid key slot,
                           placed := Tbl.set l.placed key ((Tbl.get 0 l.placed key + 1) % 4096) }, some slot)
  | none => (l, none)

/-- The end of a braid: `hi` the higher unit code. -/
def LevBraid.endOf (x : LevBraid) (hi : Bool) : LevEnd := if hi then x.b else x.a
def LevBraid.modEnd (x : LevBraid) (hi : Bool) (f : LevEnd → LevEnd) : LevBraid := if hi then { x with b := f x.b } else { x with a := f x.a }
def LevBraid.both (x : LevBraid) (f : LevEnd → LevEnd) : LevBraid := { x with a := f x.a, b := f x.b }

/-! Lanes (R297, R304) -/

def LevBraid.lane (x : LevBraid) (l : Nat) : Option Nat := Tbl.get (if l < 64 then some l else none) x.carry l
def LevBraid.healthy (x : LevBraid) (l : Nat) : Bool := !x.retired.contains l
def LevBraid.healthyCount (x : LevBraid) : Nat := 68 - x.retired.length
/-- Healthy lanes that carry no data. -/
def LevBraid.idle (x : LevBraid) : List Nat := (List.range 68).filter fun l => x.healthy l && (x.lane l).isNone

/-- R310: MLOW: a lane in use is below MTHR. -/
def LevBraid.checkLow (x : LevBraid) : LevBraid :=
  x.both fun e => { e with mlow := e.margins.any fun (l, m, _) => x.healthy l && decide (m < e.mthr) }

/-- R297: a lane is retired; the lowest idle healthy lane takes its logical lane, none of those that `bad` the same test has failed. -/
def LevBraid.retireLane (x : LevBraid) (l : Nat) (bad : List Nat) : LevBraid :=
  if x.retired.contains l then x else
  let y := { x with retired := l :: x.retired, carry := Tbl.set x.carry l none }
  LevBraid.checkLow (match x.lane l with
    | none => y
    | some j => match y.idle.find? fun m => !bad.contains m with
      | some m => { y with carry := Tbl.set y.carry m (some j) }
      | none => y)

/-- R44, R297: the same in the record's lane map; answers the spare assigned. The survey spare is one that is left idle. -/
def BraidRec.retireLane (r : BraidRec) (retired bad : List Nat) (l : Nat) : BraidRec × Option Nat :=
  let r1 := { r with lanes := Tbl.set r.lanes l none }
  let idle (r : BraidRec) : List Nat := (List.range 68).filter fun m => m != l && !retired.contains m && (r.lane m).isNone
  let (r2, spare) := match r.lane l with
    | none => (r1, none)
    | some j => match (idle r1).find? fun m => !bad.contains m with
      | some m => ({ r1 with lanes := Tbl.set r1.lanes m (some j) }, some m)
      | none => (r1, none)
  ({ r2 with slane := if r2.slane.any (idle r2).contains then r2.slane else if r2.slane.isSome then (idle r2).head? else none }, spare)

/-- R297: the width that the healthy lanes allow: full, half, or none. A half-width braid's logical lanes lie on its lowest
healthy lanes (log entry 21). -/
def LevBraid.chooseWidth (x : LevBraid) : LevBraid × Bool :=
  let n := x.healthyCount
  if n ≥ 64 then ({ x with half := false }, true)
  else if n ≥ 32 then
    let hs := (List.range 68).filter x.healthy
    ({ x with half := true, carry := (List.range 68).map fun l => (l, match findIdx (· == l) hs 0 with
        | some (i, _) => if i < 32 then some i else none
        | none => none) }, true)
  else (x, false)

/-- R304: the survey lane is the lowest-numbered healthy lane that carries no data. -/
def LevBraid.chooseSurvey (x : LevBraid) : LevBraid :=
  match x.idle.head? with
  | some l => { x with slane := some l, svyblk := false }
  | none => { x with slane := none, svyblk := true }

/-- R302: acceptance at the lane test and at survey. -/
def laneAccepted (errors margin mv : Nat) : Bool := decide (errors = 0 ∧ 51 ≤ margin ∧ 30 ≤ mv)

/-- R306: the first physical lane carrying data from `d` on, ascending and wrapping; whether it wrapped. -/
def LevBraid.nextData (x : LevBraid) (d : Nat) : Option (Nat × Bool) :=
  let ds := (List.range 68).filter fun l => (x.lane l).isSome && x.healthy l
  match ds.find? (fun l => decide (d ≤ l)) with
  | some l => some (l, false)
  | none => ds.head?.map fun l => (l, true)

/-- R311: DLANE names the lane of the next step: a lane that has come to carry no data gives way to the next that does. -/
def LevBraid.aim (x : LevBraid) : LevBraid :=
  x.both fun e => if e.phase = 0 then { e with dlane := ((x.nextData e.dlane).map fun (n : Nat × Bool) => n.1).getD 0 } else e

/-! Flits (R292, R294) -/

/-- R292: the CRC-16 of the Levee links: polynomial 0x8BB7, not reflected, no inversion. -/
def crc16 (init : Nat) (bs : List Bool) : Nat :=
  bs.foldl (fun r b =>
    let fb := ((r >>> 15) % 2 == 1) != b
    let r1 := (r <<< 1) % 65536
    if fb then Nat.xor r1 0x8BB7 else r1) init

/-- R292: the CRC of a flit with its sequence number. -/
def flitCrc (seq : Nat) (flit : BitVec 512) : Nat := crc16 (seq % 4096) ((List.range 512).map fun i => flit.getLsbD i)

/-- R299: an 80-bit sideband frame: its TYPE, its payload at the frame's own bits [71:16], and the CRC-16 of bits 79 down to 16. -/
def sideFrame (kind value : Nat) : Nat :=
  let f := fld 72 (kind % 256) + value % 2 ^ 72 / 2 ^ 16 * 2 ^ 16
  f + crc16 0 ((List.range 64).map fun i => (BitVec.ofNat 80 f).getLsbD (79 - i))

/-- R292: the 64-byte flits of a packet's bytes, the last filled with zeros. -/
def flitsOf (bs : List Byte) : List (BitVec 512) :=
  (List.range (cdiv bs.length 64)).map fun i => BitVec.ofNat 512 (leNat ((bs.drop (64 * i)).take 64))

/-- R292, R294: an end sends flits: each takes the next sequence number and enters the replay buffer of 256. Answers them with their CRC. -/
def LevEnd.send (e : LevEnd) : List (BitVec 512) → LevEnd × List (BitVec 512 × Nat)
  | [] => (e, [])
  | f :: t =>
    let buf := e.buf ++ [(e.txSeq, f)]
    let (e1, out) := LevEnd.send { e with txSeq := (e.txSeq + 1) % 4096, buf := buf.drop (buf.length - 256) } t
    (e1, (f, flitCrc e.txSeq f) :: out)

/-- R294: what a REPLAY naming `seq` has resent: the buffer from that flit onward, in order. -/
def LevEnd.resent (e : LevEnd) (seq : Nat) : List (BitVec 512 × Nat) :=
  (e.buf.dropWhile fun x => x.1 != seq).map fun (q, f) => (f, flitCrc q f)

/-- R294, R302: a flit received at an end at count `now`: accepted, or discarded with a REPLAY. Answers the end and the sequence
number to replay, if a REPLAY is sent. -/
def LevEnd.receive (e : LevEnd) (now : Nat) (flit : BitVec 512) (crc : Nat) : LevEnd × Option Nat :=
  if flitCrc e.rxSeq flit = crc then ({ e with rxSeq := (e.rxSeq + 1) % 4096, discarding := false }, none)
  else if e.discarding then (e, some e.rxSeq)
  else
    let fresh := decide (now ≥ e.winStart + 1000000)
    let n := if fresh then 1 else e.winCount + 1
    ({ e with discarding := true, replay := satAdd 0xFFFFFFFF e.replay 1, winStart := if fresh then now else e.winStart,
              winCount := n, rephi := e.rephi || decide (n > e.repthr) }, some e.rxSeq)

/-! Margins and requests (R302, R305, R307) -/

/-- R311: the data lane of least margin: lane, margin, opening. -/
def LevBraid.worst (x : LevBraid) (e : LevEnd) : Option (Nat × Nat × Nat) :=
  (e.margins.filter fun (l, _) => (x.lane l).isSome).foldl (fun best (l, m, v) => match best with
    | none => some (l, m, v)
    | some (_, m0, _) => if m < m0 then some (l, m, v) else best) none

/-- R310: the STATE of a procedure of a kind. -/
def procState (kind : Nat) : Nat := kind + 2

/-- R303, R305: an end's watcher asks for a procedure; one at a time. -/
def LevEnd.request (e : LevEnd) (r : RtReq) : LevEnd :=
  if e.own.isSome || e.state != 2 then e else { e with own := some r, state := procState r.kind }

/-- R307: what an end does with an RT_REQ it receives. -/
inductive RtAnswer where
  | ignore
  | accept (converted : Nat)
  | wait
  deriving DecidableEq, Repr

/-- R307: an RT_REQ received at an end; `hi` is the end of higher index, which never initiates a race. -/
def LevEnd.rtReq (e : LevEnd) (hi : Bool) (r : RtReq) : LevEnd × RtAnswer :=
  match e.own with
  | some o =>
    if hi then ({ e with race := true, init := false, own := none, converted := o.kind, state := procState r.kind }, .accept o.kind)
    else ({ e with race := true, init := true }, .ignore)
  | none =>
    if e.state = 3 ∨ e.state = 4 ∨ e.state = 5 then ({ e with waiting := some r }, .wait)
    else ({ e with init := false, state := procState r.kind, converted := 0 }, .accept 0)

/-! Turn lists (R296) -/

/-- R296: the turn list of a port's braids, each a slot with its half-width flag, in ascending slot order. -/
def turnList (bs : List (Nat × Bool)) : List Nat := bs.map (·.1) ++ (bs.filter fun b => !b.2).map (·.1)

/-! Registers (R309 to R313) -/

/-- R310: LEV_STAT; `role` comes from the record. Until the link controller trains, WIDTH, ROLE and HEALTHY read their reset value 0
(log entry 72). -/
def LevBraid.statWord (x : LevBraid) (hi : Bool) (role : Nat) : Nat :=
  let e := x.endOf hi
  fld 26 e.state + flg 24 e.inlist + flg 23 e.init + flg 22 x.svyblk + flg 21 e.mlow + flg 20 e.rephi + flg 19 e.sbslow + flg 16 e.race
    + (if e.state = 0 then 0 else flg 25 x.half + fld 17 role + fld 8 x.healthyCount)

/-- R311: LEV_SURVEY and LEV_MARGIN. -/
def LevBraid.surveyWord (x : LevBraid) (hi : Bool) : Nat :=
  let e := x.endOf hi
  fld 32 e.rotations + fld 17 (x.slane.getD 0) + fld 10 e.dlane + fld 8 e.phase + e.lastm

def LevBraid.marginWord (x : LevBraid) (hi : Bool) : Nat :=
  match x.worst (x.endOf hi) with
  | some (l, m, v) => fld 24 (Nat.min 255 m) + fld 17 l + fld 9 (Nat.min 255 v)
  | none => 0

/-- R313: LEV_MAPk: a byte of the live map. -/
def LevBraid.mapByte (x : LevBraid) (l : Nat) : Nat :=
  if 68 ≤ l then 0xFF
  else match x.lane l with
    | some j => fld 6 (if l < 64 then 0 else 2) + j
    | none => fld 6 (if x.slane = some l then 1 else 3) + flg 0 (!x.healthy l)

def LevBraid.mapWord (x : LevBraid) (k : Nat) : Nat := ((List.range 8).map fun i => fld (8 * i) (x.mapByte (8 * k + i))).sum

/-- R310, R312: a write to a LEV register; LEV_LB.GO is answered apart. -/
def LevEnd.write (e : LevEnd) (off v : Nat) : LevEnd :=
  if off = 0x00 then { e with rephi := e.rephi && (v >>> 20) % 2 = 0, race := e.race && (v >>> 16) % 2 = 0 }
  else if off = 0x08 then
    ({ e with svyen := (v >>> 31) % 2 = 1, mthr := (v >>> 16) % 256, repthr := (v >>> 8) % 256, svyper := (v >>> 4) % 16 })
  else if off = 0x30 then { e with lbDepth := (v >>> 28) % 8, lbPat := (v >>> 24) % 16, lbDone := e.lbDone && (v >>> 22) % 2 = 0 }
  else e

/-- R309: the braid and end that local index `j` names at a control unit. -/
def levIndex (unit j : Nat) : Option (Nat × Bool) :=
  if unit < 192 then
    let edge (dir slot : Nat) : Option (Nat × Bool) :=
      ((siteEdges unit).find? fun e => e.1 == dir).map fun e => (e.2.2 + slot, dir == 0 || dir == 3)
    if j < 32 then edge (j / 8) (j % 8)
    else if j < 34 then some (2848 + 2 * unit + (j - 32), false)
    else
      let port := if j < 36 then 14 else 15
      (((siteAttachBraids unit).filter fun b => braidPort b 2 unit == port).drop ((j - 34) % 2)).head?.map fun b => (b, false)
  else if unit < 240 then
    if j < 8 then (homeSites (unit - 192))[j / 2]?.map fun s => (2848 + 2 * s + j % 2, true) else none
  else none

end Sys2Proof.Machine
end

