-- ==== Sys2Proof/Machine/LarreState.lean ====
section
/-!
DEFINITION. The Estuary engines, their ports, and the Larre fabric: frames, sequence numbers, replay, credits, editions,
retraining, bypasses and loopbacks (spec 12).
-/
namespace Sys2Proof

/-! Frame header fields (12 R344, R345) -/

def Frame.seq (f : Frame) : Nat := Machine.bits f.link 63 52
def Frame.kind (f : Frame) : Nat := Machine.bits f.link 51 50
def Frame.cls (f : Frame) : Nat := Machine.bits f.link 49 48
def Frame.ed (f : Frame) : Bool := Machine.bit f.link 47
def Frame.mode (f : Frame) : Nat := Machine.bits f.link 46 45
def Frame.len (f : Frame) : Nat := Machine.bits f.link 44 31
def Frame.poisoned (f : Frame) : Bool := Machine.bit f.link 30
def Frame.last (f : Frame) : Bool := Machine.bit f.link 29
def Frame.tenant (f : Frame) : Nat := Machine.bits f.link 28 20
def Frame.addr (f : Frame) : Nat := Machine.bits f.body 63 0
def Frame.dirTag (f : Frame) : Nat := Machine.bits f.body 79 64
def Frame.retOff (f : Frame) : Nat := Machine.bits f.body 88 64
def Frame.readLen (f : Frame) : Nat := Machine.bits f.body 111 96
def Frame.readTag (f : Frame) : Nat := Machine.bits f.body 127 112
/-- R343: the bytes of a frame: header, payload, poison map, padding and CRC. -/
def Frame.bytes (f : Frame) : Nat :=
  let n := 32 + f.len + (if f.poisoned then Machine.cdiv f.len 64 else 0)
  Machine.cdiv n 4 * 4 + 4
/-- R351: its charge in 256-byte units. -/
def Frame.units (f : Frame) : Nat := Machine.cdiv f.bytes 256
/-- R343: the payload with each byte's poison mark. -/
def Frame.marked (f : Frame) : List (Byte × Bool) :=
  f.payload.mapIdx fun i b => (b, f.poisoned && (f.poison.getD (i / 64) 0).getLsbD (i / 8 % 8))

namespace Machine

/-- R344: the link word of a data frame. -/
def linkWord (seq cls : Nat) (ed : Bool) (mode len : Nat) (poison last : Bool) (tenant : Nat) : Word :=
  BitVec.ofNat 64 (fld 52 seq + fld 48 cls + flg 47 ed + fld 45 mode + fld 31 len + flg 30 poison + flg 29 last + fld 20 tenant)

/-- The frame with its sequence number. -/
def Frame.withSeq (f : Frame) (s : Nat) : Frame := { f with link := put f.link 63 52 s }
def Frame.withEd (f : Frame) (e : Bool) : Frame := { f with link := putBit f.link 47 e }

/-- R347: `s` is ahead of `r`. -/
def seqAhead (s r : Nat) : Bool := let d := (s + 4096 - r % 4096) % 4096; decide (1 ≤ d ∧ d ≤ 2047)
def seqBehind (s r : Nat) : Bool := let d := (s + 4096 - r % 4096) % 4096; decide (2049 ≤ d)

/-- R351: the buffer of a class, in units. -/
def larreBuf (cls : Nat) : Nat := if cls ≤ 1 then 3072 else if cls = 2 then 1792 else 256

/-- A frame in the replay buffer, with the count of its last transmission. -/
structure Held where
  f : Frame
  sentAt : Nat
  deriving DecidableEq, Repr

/-- R374 to R376: one port. `sent`, `freed` and `rxFreed` count units per class modulo 2^24; `counters` in the order of R376; `turn` and
`deficit` are the round robin of R353; `line` is the time, in 1/400 ns, at which the line is free; `paused` holds per priority the count until
which priority flow control pauses it (R363); `need` is the port's own request that is still to be made (R362). -/
structure LPort where
  state : Nat := 0
  idbad : Bool := false
  race : Bool := false
  init : Bool := false
  frozen : Bool := false
  widthred : Bool := false
  rto : Nat := 8
  uncthr : Nat := 16
  ackus : Nat := 10
  ackn : Nat := 0
  txNext : Nat := 0
  rxNext : Nat := 0
  sent : Tbl Nat := []
  freed : Tbl Nat := []
  rxFreed : Tbl Nat := []
  replay : List Held := []
  queue : List Frame := []
  turn : Nat := 0
  deficit : Tbl Nat := []
  line : Nat := 0
  paused : Tbl Nat := []
  accSince : Nat := 0
  oldestAcc : Option Nat := none
  lastRetry : Option (Nat × Nat) := none
  lastReplay : Option (Nat × Nat) := none
  expiry : Option Nat := none
  oldHold : List (Nat × Bool) := []
  fails : Nat := 0
  own : Option RtReq := none
  waiting : Option RtReq := none
  converted : Nat := 0
  need : Option RtReq := none
  peerEui : Option Word := none
  peerPort : Nat := 0
  peerEngine : Nat := 0
  peerPanel : Nat := 0
  uncCount : Nat := 0
  uncStart : Nat := 0
  counters : Tbl Nat := []
  deriving DecidableEq, Repr

/-- R371 to R373: one engine. `laser` and `lock` are live; `passedD3` the ports that have passed a D3 loopback at this start; `runPort` and
`runDepth` are the port and depth of the loopback that runs, which a later write of EST_LB leaves. -/
structure Engine where
  laser : Bool := false
  lol : Bool := false
  unchi : Bool := false
  state : Nat := 0
  split : Nat := 0
  role : Nat := 0
  lock : Half := 0
  ports : Tbl LPort := []
  fecc : Nat := 0
  fecu : Nat := 0
  drop : Nat := 0
  lbGo : Bool := false
  lbDepth : Nat := 0
  lbPat : Nat := 0
  lbPass : Bool := false
  lbDone : Bool := false
  lbPort : Nat := 0
  runPort : Nat := 0
  runDepth : Nat := 0
  lbErrs : Nat := 0
  passedD3 : List Nat := []
  deriving DecidableEq, Repr

/-- R365 to R367, R372: a ring pair's bypass; `moving` is the state it is moving to, true closed. -/
structure Oxbow where
  pair : Bool := false
  closed : Bool := true
  moving : Option Bool := none
  released : Bool := false
  deriving DecidableEq, Repr

/-- R358: a peer-bound packet that an egress engine holds for its Delta ACK. -/
structure Egress where
  panel : Nat
  upTo : Nat
  len : Nat
  deriving DecidableEq, Repr

/-- The Estuary and Larre state of the panel. The Larre tables and the edition registers, which every router and engine hold
alike, stand once. `rcvd` is keyed by SPANEL * 4096 + SUNIT; `egress` and `delta` by engine * 4096 + SRC; `e2eSent` and
`e2eAcked` by SRC * 65536 + panel; `reads` are the READs outstanding (unit, TAG, bytes to come, egress engine);
`waiting` the peer frames that wait for a Weir grant: engine, port, REQID, frame (09 R280); `buffered` those that wait in their receive buffer
for a REQID of their engine: engine, port, frame. `set0` and `set1` tell that a slot has been written since reset. -/
structure Larre where
  engines : Tbl Engine := []
  oxbows : Tbl Oxbow := []
  tab0 : Tbl Byte := []
  tab1 : Tbl Byte := []
  cur : Bool := false
  armed : Bool := false
  v0 : Bool := false
  v1 : Bool := false
  tsw : Word := 0
  nextTab : Option (Tbl Byte) := none
  set0 : Bool := false
  set1 : Bool := false
  oldTick : Nat := 0
  oldSum : Nat := 0
  oldCnt : Tbl Nat := []
  rcvd : Tbl Rcvd := []
  egress : Tbl (List Egress) := []
  delta : Tbl Nat := []
  e2eSent : Tbl Nat := []
  e2eAcked : Tbl Nat := []
  reads : List (Nat × Nat × Nat × Nat) := []
  waiting : List (Nat × Nat × Nat × Frame) := []
  buffered : List (Nat × Nat × Frame) := []
  deriving DecidableEq, Repr

def Larre.engine (l : Larre) (n : Nat) : Engine := Tbl.get {} l.engines n
def Larre.modEngine (l : Larre) (n : Nat) (f : Engine → Engine) : Larre := { l with engines := Tbl.mod {} l.engines n f }
def Engine.port (e : Engine) (p : Nat) : LPort := Tbl.get {} e.ports p
def Engine.modPort (e : Engine) (p : Nat) (f : LPort → LPort) : Engine := { e with ports := Tbl.mod {} e.ports p f }
def Larre.port (l : Larre) (n p : Nat) : LPort := (l.engine n).port p
def Larre.modPort (l : Larre) (n p : Nat) (f : LPort → LPort) : Larre := l.modEngine n (·.modPort p f)
def Larre.oxbow (l : Larre) (i : Nat) : Oxbow := Tbl.get {} l.oxbows i

def Larre.modOxbow (l : Larre) (i : Nat) (f : Oxbow → Oxbow) : Larre := { l with oxbows := Tbl.mod {} l.oxbows i f }
/-- R366: the hold of a bypass is given up: it moves to closed. -/
def Oxbow.close (o : Oxbow) : Oxbow := if o.closed && o.moving.isNone then o else { o with moving := some true }

def LPort.bump (p : LPort) (k n : Nat) : LPort := { p with counters := Tbl.mod 0 p.counters k fun x => satAdd 0xFFFFFFFF x n }

/-- R341: the ports of a split, and the lanes of port `p`. -/
def splitPorts (split : Nat) : Nat := if split = 0 then 1 else if split = 1 then 2 else 4
def portLanes (split p : Nat) : List Nat :=
  if split = 0 then List.range 16 else if split = 1 then span (8 * p) 8 else span (4 * p) 4

/-- R351: the credits held of a class. -/
def LPort.credits (p : LPort) (cls : Nat) : Nat :=
  larreBuf cls - (Tbl.get 0 p.sent cls + 2 ^ 24 - Tbl.get 0 p.freed cls) % 2 ^ 24

/-- R369: the book of a class's credits balances: the units sent and not freed are no more than the receiver's buffer. -/
def LPort.balances (p : LPort) (cls : Nat) : Bool := decide ((Tbl.get 0 p.sent cls + 2 ^ 24 - Tbl.get 0 p.freed cls) % 2 ^ 24 ≤ larreBuf cls)

/-- R347: the replay buffer in bytes, each frame rounded up to 64. -/
def LPort.held (p : LPort) : Nat := (p.replay.map fun h => cdiv h.f.bytes 64 * 64).sum

/-- R347, R351: a frame may be sent: its credits, its place in the buffer, fewer than 2,047 unacknowledged, the port up. -/
def LPort.maySend (p : LPort) (f : Frame) : Bool :=
  p.state == 2 && !p.frozen && decide (f.units ≤ p.credits f.cls) && decide (p.held + cdiv f.bytes 64 * 64 ≤ 2 ^ 20)
    && decide (p.replay.length < 2047)

/-- R347, R350: a frame is sent: numbered, charged, kept for replay, and the timer set if it is the oldest. -/
def LPort.send (p : LPort) (now : Nat) (f : Frame) : LPort × Frame :=
  let g := Frame.withSeq f p.txNext
  ({ p with txNext := (p.txNext + 1) % 4096, sent := Tbl.mod 0 p.sent f.cls (fun x => (x + f.units) % 2 ^ 24),
            replay := p.replay ++ [⟨g, now⟩],
            expiry := match p.expiry with | some t => some t | none => some (now + 1000 * p.rto) }, g)

/-- R353: the quantum of the round robin: a frame of the greatest length (log entry 22). -/
def larreQuantum : Nat := 8356

/-- R353: a class of the round robin keeps its deficit while it has a frame queued. -/
def LPort.deficitOf (p : LPort) (c : Nat) : Nat := if p.queue.any fun f => f.cls == c then Tbl.get 0 p.deficit c else 0

/-- R353: byte-deficit round robin between classes 0 and 1: the class whose turn it is goes on while its deficit covers its frame; then the
turn passes, with a quantum, to the other where that can send, and else comes round to it again. `head` is the frame a class can send. -/
def LPort.fair (p : LPort) (head : Nat → Option Frame) : Option (Frame × LPort) :=
  let t := p.turn
  let o := 1 - t
  let serve (c add : Nat) (f : Frame) : Frame × LPort :=
    (f, { p with turn := c, deficit := Tbl.set (Tbl.set [] (1 - c) (p.deficitOf (1 - c))) c (p.deficitOf c + add - f.bytes) })
  match head t, head o with
  | some f, some g => if f.bytes ≤ p.deficitOf t then some (serve t 0 f) else some (serve o larreQuantum g)
  | some f, none => if f.bytes ≤ p.deficitOf t then some (serve t 0 f) else some (serve t larreQuantum f)
  | none, some g => some (serve o larreQuantum g)
  | none, none => none

/-- R353: the frame sent next, and the port with its round robin moved on: class 3, then class 2 in a window the port owns, where its last
byte leaves before the window's end (13 R393), then classes 0 and 1. `win` is the end of the window owned now, if any; `at_` the time, in
1/400 ns, at which the line is free, and a byte takes `bt` of them. -/
def LPort.nextFrame (p : LPort) (at_ bt : Nat) (win : Option Nat) : Option (Frame × LPort) :=
  let head (c : Nat) : Option Frame := (p.queue.find? fun f => f.cls == c).filter fun f => p.maySend f
  match head 3 with
  | some f => some (f, p)
  | none =>
    match win with
    | some e => ((head 2).filter fun f => decide (at_ + f.bytes * bt ≤ e * 400)).map fun f => (f, p)
    | none => p.fair head

/-- R353: the port sends what it may, one frame at a time; `fuel` bounds the number. -/
def LPort.pump (p : LPort) (now at_ bt : Nat) (win : Option Nat) : Nat → LPort × List Frame
  | 0 => (p, [])
  | fuel + 1 =>
    match p.nextFrame at_ bt win with
    | none => (p, [])
    | some (f, p0) =>
      let (p1, g) := ({ p0 with queue := p0.queue.erase f }).send now f
      let (p2, gs) := LPort.pump p1 now (at_ + f.bytes * bt) bt win fuel
      (p2, g :: gs)

/-- R349: ASEQ and the four FREED counts of an ACK. -/
structure LAck where
  retry : Bool
  sync : Bool
  aseq : Nat
  freed : List Nat
  deriving DecidableEq, Repr

/-- R349: an ACK sent: what it carries, and the port with nothing left to acknowledge. -/
def LPort.makeAck (p : LPort) (retry sync : Bool) : LPort × LAck :=
  ({ p with accSince := 0, oldestAcc := none },
   ⟨retry, sync, (p.rxNext + 4095) % 4096, (List.range 4).map fun c => Tbl.get 0 p.rxFreed c⟩)

/-- R348: what a receiver does with a data frame that passed its CRC. -/
inductive RxOutcome where
  | accept
  | duplicate
  | gap
  deriving DecidableEq, Repr

def LPort.classify (p : LPort) (seq : Nat) : RxOutcome :=
  if seq = p.rxNext then .accept else if seqBehind seq p.rxNext then .duplicate else .gap

/-- R349: ACKN: 0 means 16. -/
def LPort.ackEvery (p : LPort) : Nat := if p.ackn = 0 then 16 else p.ackn

/-- R351: a frame leaves its receive buffer: its units are freed. -/
def LPort.leave (p : LPort) (f : Frame) : LPort := { p with rxFreed := Tbl.mod 0 p.rxFreed f.cls fun x => (x + f.units) % 2 ^ 24 }

/-- R348, R349: a data frame received at count `now`: the port after, whether the frame is accepted, and the ACK sent. -/
def LPort.receive (p : LPort) (now : Nat) (f : Frame) : LPort × Bool × Option LAck :=
  match p.classify f.seq with
  | .accept =>
    let p1 := { p with rxNext := (p.rxNext + 1) % 4096, accSince := p.accSince + 1, oldestAcc := match p.oldestAcc with | some t => some t | none => some now }
    if p1.accSince ≥ p1.ackEvery then let (p2, a) := p1.makeAck false false; (p2, true, some a) else (p1, true, none)
  | .duplicate => let (p1, a) := (p.bump 1 1).makeAck false false; (p1, false, some a)
  | .gap =>
    let p1 := p.bump 2 1
    let again := match p.lastRetry with | some (v, t) => decide (v = p.rxNext ∧ now < t + 1000) | none => false
    if again then (p1, false, none)
    else
      let (p2, a) := p1.makeAck true false
      ({ p2 with lastRetry := some (p.rxNext, now) }, false, some a)

/-- R349, R350: every unacknowledged frame is sent again, oldest first. -/
def LPort.replayAll (p : LPort) (now : Nat) : LPort × List Frame :=
  ({ p with replay := p.replay.map fun h => { h with sentAt := now },
            lastReplay := p.replay.head?.map fun h => (h.f.seq, now),
            expiry := if p.replay.isEmpty then none else some (now + 1000 * p.rto) }, p.replay.map (·.f))

/-- R349, R351, R352: an ACK received: frames released, FREED counts applied, a replay on RETRY or after a SYNC; while the books are frozen
only a SYNC applies FREED counts and replays. -/
def LPort.ack (p : LPort) (now : Nat) (a : LAck) : LPort × List Frame :=
  let oldest := match p.replay with | h :: _ => h.f.seq | [] => p.txNext
  let covers := seqAhead a.aseq ((oldest + 4095) % 4096) && decide ((a.aseq + 4096 - oldest) % 4096 < p.replay.length)
  let n := if covers then (a.aseq + 4096 - oldest) % 4096 + 1 else 0
  let gone := p.replay.take n
  let left := p.replay.drop n
  let p1 := if p.frozen && !a.sync then p
    else { p with freed := a.freed.mapIdx fun i v => (i, v), frozen := p.frozen && !a.sync }
  let p2 := { p1 with replay := left, oldHold := p.oldHold.filter (fun t => decide (now < t.1)) ++ gone.map (fun h => (now + 100, h.f.ed)),
                      expiry := if left.isEmpty then none else if n = 0 then p.expiry
                        else some (Nat.max now ((left.head?.map (·.sentAt)).getD 0) + 1000 * p.rto) }
  let recent := match p2.lastReplay, left with
    | some (s, t), h :: _ => decide (s = h.f.seq ∧ now < t + 1000)
    | _, _ => false
  if a.sync then p2.replayAll now
  else if a.retry && !p.frozen && !recent && !left.isEmpty then let (p3, fs) := p2.replayAll now; (p3.bump 3 1, fs)
  else (p2, [])

/-- R349: link-up: sequence numbers, books and the replay buffer start anew; frames held count as route drops. -/
def LPort.newLink (p : LPort) : LPort :=
  ({ p with txNext := 0, rxNext := 0, sent := [], freed := [], rxFreed := [], replay := [], accSince := 0, oldestAcc := none,
            lastRetry := none, lastReplay := none, expiry := none }).bump 5 p.replay.length

/-- R361: the port goes down: its queued and held frames are discarded as unreachable. -/
def LPort.goDown (p : LPort) : LPort :=
  ({ p with state := 0, queue := [], replay := [], expiry := none, frozen := false, own := none, waiting := none, need := none }).bump 5
    (p.queue.length + p.replay.length)

/-- R355: an entry of a Larre table: the engine and port it names, if it names one. -/
def larreEntry (b : Byte) : Option (Nat × Nat) :=
  if b = 0xFF ∨ bits b 7 2 > 35 then none else some (bits b 7 2, bits b 1 0)

/-- R355: the tables of an edition, and where a frame for a panel goes. -/
def Larre.tab (l : Larre) (ed : Bool) : Tbl Byte := if ed then l.tab1 else l.tab0
def Larre.route (l : Larre) (ed : Bool) (panel : Nat) : Option (Nat × Nat) :=
  (larreEntry (Tbl.get 0xFF (l.tab ed) panel)).filter fun (n, _) => (l.engine n).role != 0

/-- R360: the old-edition frames that an engine counts: those of its ports, and transit frames (from panels other than `me`) that wait
to be sent. -/
def Engine.oldFrames (e : Engine) (cur : Bool) (now me : Nat) : Nat :=
  (e.ports.map fun (_, p) => (p.replay.filter fun h => h.f.ed != cur).length + (p.oldHold.filter fun t => decide (now < t.1) && t.2 != cur).length
    + (p.queue.filter fun f => f.ed != cur && f.spanel.toNat != me).length).sum

/-- R360: the old-edition frames that engine `n` counts: its own, and the peer writes that have arrived there and are not yet written. -/
def Larre.oldFrames (l : Larre) (n now me : Nat) : Nat :=
  (l.engine n).oldFrames l.cur now me + (l.waiting.filter fun x => x.1 == n && x.2.2.2.ed != l.cur).length
    + (l.buffered.filter fun x => x.1 == n && x.2.2.ed != l.cur).length

/-- R359: an old Larre edition is draining. -/
def Larre.oldPend (l : Larre) : Bool := l.v0 && l.v1

/-- R359 step 1: a slot is written. -/
def Larre.setTab (l : Larre) (e : Bool) (t : Tbl Byte) : Larre := if e then { l with tab1 := t, set1 := true } else { l with tab0 := t, set0 := true }

/-- R359 step 2, R373: T_sw, a Meridian count, is written; writing arms the switch. -/
def Larre.arm (l : Larre) (tsw : Nat) : Larre := { l with armed := true, tsw := BitVec.ofNat 64 tsw }

/-- R370: the slot holds the current or the draining edition, by V0 and V1 (09 R287). -/
def Larre.slotHeld (l : Larre) (e : Bool) : Bool := if e then l.v1 else l.v0

/-- R373: LRL_EDITION; CRC is that of the free slot's table, 0 until that slot has been written (log entry 73). -/
def Larre.editionWord (l : Larre) : Nat :=
  let e := !l.cur
  let crc := if (if e then l.set1 else l.set0) then crc32 ((List.range 65536).map fun k => Tbl.get 0xFF (l.tab e) k) else 0
  fld 32 crc + flg 3 l.v1 + flg 2 l.v0 + flg 1 l.armed + flg 0 l.cur

/-- R359 step 3, 14 R414: the switch, to a patched copy where a verdict made one; it waits for an old edition to drain. -/
def Larre.switch (l : Larre) : Larre :=
  if !l.armed || l.oldPend then l
  else
    let l1 := match l.nextTab with
      | some t => { l.setTab (!l.cur) t with nextTab := none }
      | none => l
    { l1 with cur := !l.cur, armed := false, v0 := l.v0 || l.cur, v1 := l.v1 || !l.cur }

/-- R359 step 5: the draining edition's slot is freed. -/
def Larre.retireOld (l : Larre) : Larre := if l.cur then { l with v0 := false } else { l with v1 := false }

/-! Registers (R370 to R376) -/

def LPort.statWord (p : LPort) : Nat :=
  flg 7 p.idbad + flg 6 p.race + flg 5 p.init + flg 4 p.frozen + flg 3 p.widthred + p.state

/-- R375: LRL_SEQ, LRL_CRED, LRL_PEER and LRL_PEERID. No credits are held while the port is not linked (log entry 73). -/
def LPort.seqWord (p : LPort) : Nat :=
  let oldest := match p.replay with | h :: _ => h.f.seq | [] => p.txNext
  fld 48 p.txNext + fld 32 oldest + fld 16 p.rxNext + p.replay.length
def LPort.credWord (p : LPort) : Nat := if p.state < 2 then 0 else ((List.range 4).map fun c => fld (12 * c) (p.credits c)).sum
def LPort.peerWord (p : LPort) : Nat := (p.peerEui.getD 0).toNat
def LPort.peerIdWord (p : LPort) : Nat := if p.peerEui.isNone then 0 else fld 22 p.peerPort + fld 16 p.peerEngine + p.peerPanel

def LPort.write (p : LPort) (off v : Nat) : LPort :=
  if off = 0 then { p with idbad := p.idbad && (v >>> 7) % 2 = 0, race := p.race && (v >>> 6) % 2 = 0 }
  else if off = 8 then
    { p with rto := clampNat 1 255 ((v >>> 24) % 256), uncthr := clampNat 1 255 ((v >>> 16) % 256),
             ackus := clampNat 1 10 ((v >>> 8) % 256), ackn := (v >>> 4) % 16 }
  else p

def Engine.write (e : Engine) (off v : Nat) : Engine :=
  if off = 0 then { e with lol := e.lol && (v >>> 10) % 2 = 0, unchi := e.unchi && (v >>> 9) % 2 = 0 }
  else if off = 0x38 then
    { e with lbDepth := (v >>> 28) % 8, lbPat := (v >>> 24) % 16, lbDone := e.lbDone && (v >>> 22) % 2 = 0, lbPort := (v >>> 20) % 4 }
  else if 0x8000 ≤ off ∧ off < 0xA000 then e.modPort ((off - 0x8000) / 0x800) (·.write ((off - 0x8000) % 0x800) v)
  else e

end Machine
end Sys2Proof
end

