-- ==== Sys2Proof/Machine/OutState.lean ====
section
/-!
DEFINITION. What the panel sends: the messages that leave it, newest first in State.out.
-/
namespace Sys2Proof.Machine

/-- What an SPDM request is answered with (18 R506, R507). -/
inductive SpdmResp where
  | version
  | capabilities
  | algorithms
  | digests (slot0 : Nat)
  | certificate (free : Nat)
  | challengeAuth (free : Nat)
  | measurements (values : List (Nat × Nat))
  | keyExchangeRsp (session : Nat) (free : Nat)
  | finishRsp (session role : Nat)
  | ack (session : Nat)
  | kmResp (status : Nat)
  | busy
  | refused
  deriving DecidableEq, Repr

/-- A message that leaves the panel. -/
inductive Msg where
  /-- 17 R483: a LAP response. -/
  | lap (ep : Endpoint) (op : Nat) (session xid index sub : Nat) (status : FCode) (arg : Nat) (payload : List Byte)
  /-- 17 R489: a NOTIFY of a session. -/
  | notify (ep : Endpoint) (session event index : Nat) (at_ : Nat)
  /-- 18 R506: an SPDM response. -/
  | spdm (ep : Endpoint) (r : SpdmResp)
  /-- 16 R462: an MSI-X message of a port's function. -/
  | msix (port fn vector : Nat)
  /-- 16 R457, R458: bytes written to host memory; those at the offsets of `poisoned` travel in poisoned TLPs. -/
  | hostWrite (port fn addr : Nat) (bytes : List Byte) (poisoned : List Nat := [])
  /-- 16 R458: a read of host memory asked for. -/
  | hostRead (port fn addr len : Nat)
  /-- 09 R254: bytes written to a peer's plot slot for a tenant; those at the offsets of `poisoned` are marked (12 R343). -/
  | peerWrite (panel slot off tenant : Nat) (bytes : List Byte) (poisoned : List Nat := [])
  /-- 12 R356: a NAK of a code on its way to the unit of another panel whose frame a plot check refused. -/
  | peerNak (panel unit code tag : Nat)
  /-- 09 R250: a packet that leaves a router by a port: into its own site, or toward the next router. -/
  | packet (site port : Nat) (p : Packet)
  /-- 10 R292, R294: a flit sent, or sent again, on a braid by the end of a unit, with its CRC. -/
  | flit (unit braid : Nat) (flit : BitVec 512) (crc : Nat)
  /-- 01 R32, R34, R35: a request to the Gazetteer refused, with its subject's unit code. -/
  | refused (unit : Nat) (status : FCode)
  /-- 12 R343: a Larre frame handed to a port's link. -/
  | frame (port : Nat) (f : Frame)
  /-- 12 R364: a Larre frame as the payload of an Ethernet frame of an Ethernet-role port, with its Ethertype. -/
  | larreEth (port ethertype : Nat) (f : Frame)
  /-- 12 R346: a link control frame of a Larre port: its LCTYPE and its fields in order. -/
  | link (port lctype : Nat) (fields : List Nat)
  /-- 12 R363: an IPv6 neighbor advertisement of an Ethernet-role port. -/
  | advertise (port : Nat)
  /-- 10 R295, R300: a sideband message of a braid end. -/
  | sideband (unit braid kind value : Nat)
  /-- 13 R379, R381: the on-time edge and the time frame that follow a second of the panel's own count down PPS_OUT. -/
  | timeFrame (edge pos flags : Nat)
  /-- 14 R410: a Confluence message to a member of the catchment, by identity. -/
  | confluence (dest kind : Nat) (words : List Nat)
  /-- 16 R470: a doorbell forwarded to a member of the pod, in a fabric control frame of class 3. -/
  | podBell (member page handle prod : Nat)
  /-- 06 R193: what the loader answers: OK and the load number, or the refusal with its reason. -/
  | loaded (part : Nat) (status : FCode) (reason load : Nat)
  deriving DecidableEq, Repr

end Sys2Proof.Machine
end

