-- ==== Sys2Proof/Machine/LegendState.lean ====
section
/-!
DEFINITION. The Legend: the object table, sessions and segmented transfers (spec 17 R473 to R495).
-/
namespace Sys2Proof.Machine

/-- R473 to R477: an object's attributes. `typ` and `elem` are the codes of R474; `n` is the element count of an ARRAY, the bytes of
a DOMAIN of fixed size (0 for a variable one); `recSz` the size of a DOMAIN's records where it has them. -/
structure ObjDef where
  idx : Nat
  typ : Nat
  elem : Nat := 0
  n : Nat := 0
  acc : Nat
  expert : Bool := false
  pers : Nat := 0
  recSz : Nat := 0
  deriving DecidableEq, Repr

/-- R474: the bytes of a scalar type. -/
def typeSize (t : Nat) : Nat :=
  match t with
  | 1 => 1 | 2 => 1 | 3 => 2 | 4 => 4 | 5 => 8 | 6 => 1 | 7 => 2 | 8 => 4 | 9 => 8 | 10 => 4 | 12 => 4 | _ => 0

/-- R493, with R38, R399, R451, R516, R523, R569, R591: the basic objects. Access: 0 CONST, 1 RO, 2 RW, 3 WO, 4 RWS. -/
def basicObjects : List ObjDef := [
  { idx := 0x1000, typ := 4, acc := 0 }, { idx := 0x1001, typ := 4, acc := 1 }, { idx := 0x1008, typ := 0xB, acc := 0 },
  { idx := 0x1009, typ := 0xB, acc := 1 }, { idx := 0x1018, typ := 0xE, n := 32, acc := 0 },
  { idx := 0x1200, typ := 0xE, acc := 1, recSz := 16 }, { idx := 0x1F00, typ := 0xE, n := 312, acc := 1 },
  { idx := 0x1F11, typ := 0xE, acc := 3 }, { idx := 0x1F12, typ := 0xE, acc := 3 }, { idx := 0x1F13, typ := 0xE, acc := 3 },
  { idx := 0x1F14, typ := 0xE, acc := 3 },
  { idx := 0x2100, typ := 2, acc := 1 }, { idx := 0x2101, typ := 4, acc := 1 }, { idx := 0x2102, typ := 4, acc := 1 },
  { idx := 0x2110, typ := 2, acc := 1 },
  { idx := 0x2200, typ := 3, acc := 2, pers := 1 }, { idx := 0x2201, typ := 3, acc := 2, pers := 1 },
  { idx := 0x2202, typ := 0xD, elem := 3, n := 192, acc := 1 }, { idx := 0x2203, typ := 3, acc := 2, pers := 1 },
  { idx := 0x2204, typ := 0xD, elem := 2, n := 192, acc := 1 }, { idx := 0x2400, typ := 3, acc := 1 },
  { idx := 0x2401, typ := 5, acc := 1 }, { idx := 0x2500, typ := 0xD, elem := 7, n := 240, acc := 1 },
  { idx := 0x2510, typ := 2, acc := 1 } ]

def basicObjects2 : List ObjDef := [
  { idx := 0x3000, typ := 0xE, acc := 1 }, { idx := 0x3001, typ := 4, acc := 1 }, { idx := 0x3002, typ := 2, acc := 1 },
  { idx := 0x3010, typ := 2, acc := 2, pers := 1 }, { idx := 0x3020, typ := 2, acc := 2, pers := 2 },
  { idx := 0x4000, typ := 0xE, n := 163840, acc := 1, recSz := 40 }, { idx := 0x4001, typ := 0xE, acc := 3 },
  { idx := 0x4003, typ := 4, acc := 3 }, { idx := 0x4300, typ := 0xE, n := 262144, acc := 1, recSz := 32 },
  { idx := 0x4301, typ := 0xE, acc := 3 }, { idx := 0x7000, typ := 4, acc := 1 }, { idx := 0x7001, typ := 0xE, acc := 1 },
  { idx := 0x7042, typ := 2, acc := 1 }, { idx := 0x8000, typ := 0xD, elem := 5, n := 256, acc := 1 },
  { idx := 0x8010, typ := 0xE, acc := 1 } ]

/-- R494, R495, with R298, R342, R399, R403, R451, R471: the expert objects up to 0x54FF. -/
def expertObjects : List ObjDef := [
  { idx := 0x1010, typ := 1, acc := 4, expert := true }, { idx := 0x1100, typ := 2, acc := 4, expert := true, pers := 1 },
  { idx := 0x1101, typ := 4, acc := 4, expert := true, pers := 1 },
  { idx := 0x1102, typ := 0xD, elem := 3, n := 63, acc := 4, expert := true, pers := 2 },
  { idx := 0x1103, typ := 3, acc := 4, expert := true, pers := 1 }, { idx := 0x1201, typ := 4, acc := 4, expert := true, pers := 1 },
  { idx := 0x1300, typ := 2, acc := 4, expert := true, pers := 1 }, { idx := 0x1301, typ := 2, acc := 4, expert := true, pers := 1 },
  { idx := 0x1302, typ := 0xE, n := 20, acc := 4, expert := true, pers := 1 },
  { idx := 0x1303, typ := 3, acc := 4, expert := true, pers := 1 }, { idx := 0x1F01, typ := 2, acc := 4, expert := true },
  { idx := 0x2300, typ := 2, acc := 4, expert := true, pers := 1 }, { idx := 0x3011, typ := 2, acc := 4, expert := true },
  { idx := 0x4100, typ := 0xD, elem := 5, n := 512, acc := 4, expert := true, pers := 2 },
  { idx := 0x4200, typ := 0xE, n := 102400, acc := 4, expert := true, pers := 2, recSz := 400 },
  { idx := 0x4400, typ := 3, acc := 4, expert := true }, { idx := 0x4401, typ := 3, acc := 4, expert := true },
  { idx := 0x4500, typ := 0xD, elem := 3, n := 512, acc := 4, expert := true, pers := 2 },
  { idx := 0x4501, typ := 0xD, elem := 3, n := 512, acc := 4, expert := true, pers := 2 } ]

def expertObjects2 : List ObjDef := [
  { idx := 0x5100, typ := 2, acc := 4, expert := true, pers := 1 }, { idx := 0x5101, typ := 1, acc := 4, expert := true, pers := 1 },
  { idx := 0x5200, typ := 0xD, elem := 2, n := 36, acc := 4, expert := true, pers := 2 },
  { idx := 0x5201, typ := 2, acc := 4, expert := true, pers := 2 }, { idx := 0x5202, typ := 4, acc := 4, expert := true, pers := 2 },
  { idx := 0x5203, typ := 3, acc := 4, expert := true, pers := 2 }, { idx := 0x5204, typ := 2, acc := 4, expert := true, pers := 1 },
  { idx := 0x5205, typ := 1, acc := 4, expert := true }, { idx := 0x5210, typ := 0xE, n := 65540, acc := 4, expert := true },
  { idx := 0x5211, typ := 5, acc := 4, expert := true }, { idx := 0x5212, typ := 2, acc := 4, expert := true },
  { idx := 0x5213, typ := 5, acc := 1, expert := true }, { idx := 0x5214, typ := 0xE, acc := 4, expert := true },
  { idx := 0x5215, typ := 5, acc := 4, expert := true }, { idx := 0x5220, typ := 0xE, acc := 4, expert := true, pers := 2 },
  { idx := 0x5300, typ := 2, acc := 4, expert := true, pers := 2 }, { idx := 0x5301, typ := 2, acc := 4, expert := true, pers := 2 },
  { idx := 0x5302, typ := 3, acc := 4, expert := true, pers := 2 }, { idx := 0x5303, typ := 3, acc := 4, expert := true, pers := 2 },
  { idx := 0x5304, typ := 4, acc := 4, expert := true, pers := 2 }, { idx := 0x5305, typ := 5, acc := 4, expert := true },
  { idx := 0x5400, typ := 0xE, acc := 4, expert := true, pers := 2 }, { idx := 0x5401, typ := 5, acc := 4, expert := true },
  { idx := 0x5402, typ := 4, acc := 4, expert := true }, { idx := 0x5403, typ := 0xE, acc := 4, expert := true, pers := 2 },
  { idx := 0x5404, typ := 4, acc := 4, expert := true, pers := 2 }, { idx := 0x5406, typ := 1, acc := 3, expert := true } ]

/-- R495, with R516, R569, R591, R597: the expert objects from 0x5500. -/
def expertObjects3 : List ObjDef := [
  { idx := 0x5500, typ := 0xD, elem := 6, n := 1536, acc := 4, expert := true, pers := 1 },
  { idx := 0x5501, typ := 4, acc := 4, expert := true, pers := 1 }, { idx := 0x5502, typ := 2, acc := 4, expert := true, pers := 1 },
  { idx := 0x5503, typ := 0xD, elem := 2, n := 192, acc := 1, expert := true }, { idx := 0x5504, typ := 1, acc := 4, expert := true },
  { idx := 0x5600, typ := 2, acc := 4, expert := true, pers := 1 }, { idx := 0x5601, typ := 2, acc := 4, expert := true, pers := 1 },
  { idx := 0x7010, typ := 1, acc := 4, expert := true, pers := 1 }, { idx := 0x7011, typ := 1, acc := 4, expert := true },
  { idx := 0x7020, typ := 1, acc := 3, expert := true }, { idx := 0x7030, typ := 1, acc := 3, expert := true },
  { idx := 0x7031, typ := 3, acc := 3, expert := true }, { idx := 0x7041, typ := 0xE, n := 192, acc := 4, expert := true, recSz := 48 },
  { idx := 0x7043, typ := 2, acc := 4, expert := true }, { idx := 0x7050, typ := 1, acc := 4, expert := true },
  { idx := 0x7051, typ := 1, acc := 4, expert := true, pers := 2 }, { idx := 0x8011, typ := 1, acc := 3, expert := true },
  { idx := 0x9000, typ := 4, acc := 4, expert := true }, { idx := 0x9001, typ := 5, acc := 1, expert := true },
  { idx := 0x9010, typ := 2, acc := 4, expert := true }, { idx := 0x9011, typ := 2, acc := 4, expert := true } ]

def objTable : List ObjDef :=
  basicObjects ++ basicObjects2 ++ expertObjects ++ expertObjects2 ++ expertObjects3

def objDef (i : Nat) : Option ObjDef := objTable.find? fun d => d.idx == i

/-- R473: the value an object's element holds until it is first written, where it is one number for every panel. -/
def objDefault (i : Nat) : Nat :=
  match i with
  | 0x1101 => 500 | 0x1102 => 0xFFFF | 0x1103 => 0xFFFF | 0x1201 => 30000 | 0x1300 => 0xFF | 0x1301 => 17 | 0x1303 => 49500
  | 0x2201 => 1300 | 0x3010 => 2 | 0x3011 => 0xFF | 0x3020 => 1 | 0x5100 => 2 | 0x5101 => 1 | 0x5200 => 1 | 0x5203 => 0x88B5
  | 0x5404 => 10 * 65536 + 20 | 0x5500 => 0x80 | 0x5502 => 0x40 | 0x5600 => 16 | 0x5601 => 24 | _ => 0

/-! Sessions and transfers -/

/-- R483, R486: a response as kept. -/
structure LapResp where
  op : Nat
  session : Nat
  index : Nat
  sub : Nat
  status : FCode
  arg : Nat
  payload : List Byte
  deriving DecidableEq, Repr

/-- R479 to R481, R486: a session. `timeout` is in ms, `last` the count of its last accepted request; `cache` holds its last 8
responses by XID, newest first. -/
structure Sess where
  ep : Endpoint
  expert : Bool
  spdm : Option Word32
  note : Bool
  timeout : Nat
  last : Nat
  cache : List (Nat × LapResp) := []
  warned : Bool := false
  deriving DecidableEq, Repr

/-- R487, R488: a segmented transfer: a snapshot for a read, staged bytes by offset for a write. -/
structure Xfer where
  sess : Nat
  index : Nat
  sub : Nat
  write : Bool
  total : Nat
  data : List Byte := []
  staged : Tbl Byte := []
  last : Nat
  deriving DecidableEq, Repr

/-- The Legend's state: `objs` holds the elements written (key: index * 65536 + element), `doms` the DOMAINs written. -/
structure Legend where
  objs : Tbl Nat := []
  doms : Tbl (List Byte) := []
  sessions : Tbl Sess := []
  xfers : Tbl Xfer := []
  deriving DecidableEq, Repr

def Sess.deadline (x : Sess) : Nat := x.last + x.timeout * 1000000

/-- R479: the segment size of an endpoint's sessions. -/
def Endpoint.segment : Endpoint → Nat
  | .host _ => 4096
  | .field _ _ => 1024

/-- R479: which limit an endpoint's basic sessions count under: 0 H0, 1 H1, 2 the field network. -/
def Endpoint.kind : Endpoint → Nat
  | .host p => p
  | .field _ _ => 2

/-- R479: the lowest free session number (which number: log entry 26). -/
def Legend.freeSession (l : Legend) : Option Nat := Tbl.lowestFree l.sessions 1 200
def Legend.freeXfer (l : Legend) : Option Nat := Tbl.lowestFree l.xfers 1 200

/-- R481: a session ends: its transfers go with it. -/
def Legend.endSession (l : Legend) (n : Nat) : Legend :=
  { l with sessions := Tbl.erase l.sessions n, xfers := l.xfers.filter fun (_, x) => x.sess != n }

def Legend.endWhere (l : Legend) (p : Sess → Bool) : Legend :=
  (l.sessions.filter fun (_, x) => p x).foldl (fun l (n, _) => l.endSession n) l

/-- R486: a response kept for its XID. -/
def Sess.keep (x : Sess) (xid : Nat) (r : LapResp) : Sess := { x with cache := ((xid, r) :: x.cache).take 8 }

/-- R478, R544: objects of a persistence class return to their defaults. -/
def Legend.dropClass (l : Legend) (p : Nat → Bool) : Legend :=
  let keep (i : Nat) : Bool := match objDef i with | some d => !p d.pers | none => false
  { l with objs := l.objs.filter fun (k, _) => keep (k / 65536), doms := l.doms.filter fun (k, _) => keep k }

/-- The staged bytes of a complete transfer, none where a byte is unwritten (R488). -/
def Xfer.assembled (x : Xfer) : Option (List Byte) :=
  (List.range x.total).mapM fun i => Tbl.get? x.staged i

end Sys2Proof.Machine
end

