-- ==== Sys2Proof/Machine/LogState.lean ====
section
/-!
DEFINITION. The fault log, the event counts and the status image (spec 23 R601 to R606).
-/
namespace Sys2Proof.Machine

/-- R603: an event record. -/
structure EventRec where
  at_ : Nat
  seq : Nat
  code : FCode
  unit : Nat
  sub : Nat
  source : Nat
  repeats : Nat
  detail : Nat
  deriving DecidableEq, Repr

/-- An event as a unit raises it, on its way to the Surveyor. -/
structure FEvent where
  at_ : Nat
  code : FCode
  unit : Nat
  sub : Nat
  source : Nat
  detail : Nat
  deriving DecidableEq, Repr

/-- R602, R605: `ring` and `waiting` hold the newest record first; `inbox` the events that units have raised and the
Surveyor has not received; `counts` the elements of 0x8000 by code number; `fwd` the counts that a unit (key: unit * 256 +
code) has not forwarded; `imgGen` the generation of the valid copy of the status image. -/
structure Log where
  ring : List EventRec := []
  waiting : List EventRec := []
  inbox : List FEvent := []
  counts : Tbl Nat := []
  fwd : Tbl Nat := []
  dropped : Nat := 0
  overwritten : Nat := 0
  nextSeq : Nat := 0
  imgGen : Nat := 0
  deriving DecidableEq, Repr

/-- R601: an occurrence counted; the elements saturate at 2^64 - 1. -/
def Log.count (l : Log) (c : FCode) (n : Nat) : Log :=
  { l with counts := Tbl.mod 0 l.counts c.num (satAdd (2 ^ 64 - 1) n) }

/-- R605: an event is coalesced into a record: same code, unit and sub, both with a count, less than 1 ms from the record's
first occurrence; never a STATUS_CHANGE. -/
def coalesces (e : FEvent) (r : EventRec) : Bool :=
  e.code == r.code && e.unit == r.unit && e.sub == r.sub && e.code != .statusChange
    && decide (e.at_ ≠ 0 ∧ r.at_ ≠ 0 ∧ e.at_ < r.at_ + 1000000)

/-- The newest record of the same code, unit and sub, its repeat raised by one; none where it does not coalesce. -/
def coalesceIn (e : FEvent) : List EventRec → Option (List EventRec)
  | [] => none
  | r :: t =>
    if e.code == r.code && e.unit == r.unit && e.sub == r.sub then
      (if coalesces e r then some ({ r with repeats := satAdd 255 r.repeats 1 } :: t) else none)
    else (coalesceIn e t).map (r :: ·)

/-- R605: a record is appended behind those waiting for flash; beyond 4,096 it is dropped and counted. -/
def Log.push (l : Log) (e : FEvent) : Log :=
  if l.waiting.length ≥ 4096 then { l with dropped := l.dropped + 1 }
  else { l with waiting := ⟨e.at_, l.nextSeq, e.code, e.unit, e.sub, e.source, 1, e.detail⟩ :: l.waiting, nextSeq := (l.nextSeq + 1) % 2 ^ 32 }

/-- The log holds a record of this code, unit and sub among those waiting. -/
def hasKey (e : FEvent) (rs : List EventRec) : Bool := rs.any fun r => e.code == r.code && e.unit == r.unit && e.sub == r.sub

/-- R605: an event received: coalesced into the newest record of its code, unit and sub, or appended. -/
def Log.receive (l : Log) (e : FEvent) : Log :=
  if hasKey e l.waiting then
    match coalesceIn e l.waiting with
    | some w => { l with waiting := w }
    | none => l.push e
  else
    match coalesceIn e l.ring with
    | some r => { l with ring := r }
    | none => l.push e

/-- R602: the ring keeps 65,536 records, the oldest overwritten first. -/
def Log.toRing (l : Log) (rs : List EventRec) : Log :=
  let all := rs ++ l.ring
  { l with ring := all.take 65536, overwritten := l.overwritten + (all.length - 65536) }

/-- R605: the waiting records reach flash; one LOG_OVERFLOW record tells the number dropped once room returns. -/
def Log.flash (l : Log) (now : Nat) : Log :=
  let l1 := { l.toRing l.waiting with waiting := [] }
  if l1.dropped = 0 then l1
  else ({ l1 with dropped := 0 }.push ⟨now, .logOverflow, 0xFFFF, 0, 3, l1.dropped⟩).count .logOverflow 1

end Sys2Proof.Machine
end

