-- ==== Sys2Proof/Machine/MeridianState.lean ====
section
/-!
DEFINITION. Meridian time: the counts of the dies and of the Meridian unit, their discipline, and the slot calendars (spec 13
R377 to R402).
-/
namespace Sys2Proof.Machine

/-- R386: a disciplined count. `cnt` and `frac` are exact at the time-base cycle `at_`; the count of a later cycle adds `inc`
per cycle. `integ` is in 2^-16 ns. -/
structure TimeBase where
  cnt : Word := 0
  frac : Word32 := 0
  inc : Nat := 0x100000000
  integ : Int := 0
  at_ : Nat := 0
  good : Nat := 0
  locked : Bool := false
  ever : Bool := false
  deriving DecidableEq, Repr

/-- R401: the time of one die. `err` and `tdly` are in 2^-16 ns; `bad` counts markers in a row with a large error;
`unlockedSince` is the cycle from which the die has been unlocked. -/
structure DieTime where
  t : TimeBase := {}
  bad : Nat := 0
  unlockedSince : Nat := 0
  dloss : Bool := false
  mmiss : Bool := false
  msrc : Bool := false
  err : Int := 0
  tdly : Nat := 0
  deriving DecidableEq, Repr

/-- R402: the active Meridian unit. `phase` is in 2^-16 ns; `capture` the count at the last on-time edge in 2^-16 ns; `lastErr`
the error of the last valid frame in holdover; `target` the state the relay is moving to, `true` closed; `stay` tells that a reference came back
too far away, so that the holdover stays (R390). -/
structure MerUnit where
  t : TimeBase := {}
  ufault : Bool := false
  diverge : Bool := false
  posbad : Bool := false
  frerr : Bool := false
  relay : Bool := true
  hold : Bool := false
  src : Nat := 0
  phase : Int := 0
  tod : Word := 0
  byp : Nat := 0
  rpos : Nat := 0
  holdSince : Nat := 0
  capture : Option Nat := none
  seenRef : Bool := false
  missed : Nat := 0
  lastErr : Option Int := none
  startAt : Nat := 0
  rclosed : Bool := false
  target : Option Bool := none
  stepPend : Option Word := none
  stay : Bool := false
  deriving DecidableEq, Repr

/-- R393 to R395: the slot calendar of a Larre port. Entry `k` of bank `b` has key `b * 64 + k`; `windowEnd` is the count at
which the windows open now end. -/
structure Calendar where
  tick : Nat := 0
  armed : Bool := false
  cur : Nat := 0
  entries : Tbl Word := []
  windowEnd : Nat := 0
  deriving DecidableEq, Repr

/-- Meridian state of the panel: dies by unit code (01 R41), calendars by engine * 4 + port. -/
structure Meridian where
  dies : Tbl DieTime := []
  unit : MerUnit := {}
  cals : Tbl Calendar := []
  deriving DecidableEq, Repr

/-! Counts -/

/-- R386: the count in 2^-32 ns at time-base cycle `now`. -/
def TimeBase.fine (t : TimeBase) (now : Nat) : Nat :=
  (t.cnt.toNat * 2 ^ 32 + t.frac.toNat + t.inc * (now - t.at_)) % 2 ^ 96

/-- R397: the count at cycle `now`, rounded down to whole nanoseconds. -/
def TimeBase.count (t : TimeBase) (now : Nat) : Nat := t.fine now / 2 ^ 32

/-- The count brought to cycle `now`. -/
def TimeBase.advance (t : TimeBase) (now : Nat) : TimeBase :=
  { t with cnt := BitVec.ofNat 64 (t.fine now / 2 ^ 32), frac := BitVec.ofNat 32 (t.fine now % 2 ^ 32), at_ := now }

/-- The count set to `x`, in 2^-16 ns, at cycle `now`. -/
def TimeBase.setCount (t : TimeBase) (now : Nat) (x : Nat) : TimeBase :=
  { t with cnt := BitVec.ofNat 64 (x / 2 ^ 16), frac := BitVec.ofNat 32 (x % 2 ^ 16 * 2 ^ 16), at_ := now }

def clampInt (lo hi x : Int) : Int := if x < lo then lo else if hi < x then hi else x

/-- Two's complement of 64 bits. -/
def wrap64 (x : Int) : Int := sext 64 (lowBits 64 x)

/-- R386, R387: the correction loop for error `e` (2^-16 ns), spread over `cycles` time-base cycles. The division drops its
fraction (DESIGN CHOICE, log entry 16). -/
def TimeBase.correct (t : TimeBase) (e : Int) (cycles : Nat) : TimeBase :=
  let integ := wrap64 (t.integ + e)
  let corr := wrap64 (e / 16 + integ / 1024)
  let inc := clampInt (0x100000000 - 0x68DB9) (0x100000000 + 0x68DB9) (0x100000000 - (corr * 65536).tdiv cycles)
  { t with integ := integ, inc := inc.toNat }

/-- R386: the error of a marker, saturated at 2^62. -/
def satErr (x : Int) : Int := clampInt (-(2 ^ 62)) (2 ^ 62) x

/-- An error of 2^-16 ns in ps, signed, saturating to 32 bits (R401, R402). -/
def psOf (e : Int) : Nat := lowBits 32 (clampInt (-(2 ^ 31)) (2 ^ 31 - 1) ((e * 1000).tdiv 65536))

/-- R386: what a die does at the marker of tick `n`, received at cycle `now`. -/
def DieTime.marker (d : DieTime) (now n : Nat) : DieTime :=
  let t := d.t.advance now
  let exp : Nat := n * 100000 * 2 ^ 16 + d.tdly
  let e := satErr ((t.cnt.toNat * 2 ^ 16 + t.frac.toNat / 2 ^ 16 : Nat) - (exp : Int))
  let small := decide (e.natAbs < 2 ^ 14)
  let t1 := if t.ever then t.correct e 100000
    else { t.setCount now exp with integ := 0, good := 0, ever := decide (e.natAbs < 2 ^ 16) }
  let good := if small then Nat.min (t1.good + 1) 255 else 0
  let bad := if e.natAbs > 2 ^ 16 then d.bad + 1 else 0
  let locked := t1.locked || decide (good ≥ 16)
  let lost := locked && decide (bad ≥ 4)
  { d with t := { t1 with good := good, locked := locked && !lost }, bad := if lost then 0 else bad, err := e,
           dloss := d.dloss || lost, unlockedSince := if lost then now else d.unlockedSince }

/-- R401: MER_STAT of a die. -/
def DieTime.statWord (d : DieTime) : Nat :=
  flg 4 d.dloss + flg 3 d.mmiss + flg 2 d.msrc + flg 1 d.t.locked + flg 0 d.t.ever

/-- R402: MER_USTAT. -/
def MerUnit.statWord (u : MerUnit) : Nat :=
  flg 10 u.ufault + flg 9 u.diverge + flg 8 u.posbad + flg 7 u.frerr + flg 6 u.relay + flg 5 u.hold + flg 4 u.t.locked + u.src

def Meridian.die (m : Meridian) (u : Nat) : DieTime := Tbl.get {} m.dies u
def Meridian.modDie (m : Meridian) (u : Nat) (f : DieTime → DieTime) : Meridian := { m with dies := Tbl.mod {} m.dies u f }
def Meridian.cal (m : Meridian) (p : Nat) : Calendar := Tbl.get {} m.cals p
def Meridian.modCal (m : Meridian) (p : Nat) (f : Calendar → Calendar) : Meridian := { m with cals := Tbl.mod {} m.cals p f }

/-- R402: MER_HOLD: whole seconds of the current holdover. -/
def MerUnit.holdSeconds (u : MerUnit) (now : Nat) : Nat := if u.hold then (now - u.holdSince) / 1000000000 else 0

/-! The Meridian unit -/

/-- R390: holdover begins; the rate is kept. -/
def MerUnit.enterHold (u : MerUnit) (now : Nat) : MerUnit :=
  if u.hold then u else { u with hold := true, holdSince := now, lastErr := none }

/-- R390: a frame or Sync interval missed or invalid; `limit` of them in a row begin holdover. -/
def MerUnit.miss (u : MerUnit) (now limit : Nat) : MerUnit :=
  let v := { u with missed := u.missed + 1, lastErr := none }
  if v.missed ≥ limit then v.enterHold now else v

/-- R380: the count, in 2^-16 ns, at which an on-time edge is expected; delays in 10 ps. -/
def expectedEdge (edge indly bydly b : Nat) : Nat := edge * 2 ^ 16 + (indly + b * bydly) * 65536 / 100

/-- R390: two errors agree (DESIGN CHOICE: within 1 ns of each other, log entry 17). -/
def agreeErr (a b : Int) : Bool := decide ((a - b).natAbs < 2 ^ 16)

/-- R387: an error below 1 ns counts; after two in a row the unit is locked. -/
def TimeBase.judge (t : TimeBase) (e : Int) : TimeBase :=
  let good := if e.natAbs < 2 ^ 16 then Nat.min (t.good + 1) 255 else 0
  { t with good := good, locked := t.locked || decide (good ≥ 2) }

/-- R387, R390: a valid reference: the count at capture was `cap`, the expected one `exp` (2^-16 ns). The first after a start
steps the count; two small errors lock the unit; in holdover two agreeing references end it, within 10 µs; beyond, it stays until an expert
step or a new start. The answer tells whether DIVERGE was reported. -/
def MerUnit.reference (u : MerUnit) (now cap exp : Nat) : MerUnit × Bool :=
  let e := satErr ((cap : Int) - exp)
  let t := u.t.advance now
  if !u.seenRef then
    let x := ((t.cnt.toNat * 2 ^ 16 + t.frac.toNat / 2 ^ 16 : Nat) - e).toNat
    ({ u with t := { t.setCount now x with integ := 0, good := 0, ever := true }.judge e, seenRef := true, phase := e, missed := 0 }, false)
  else if u.hold then
    let v := { u with t := t.judge e, phase := e, missed := 0, lastErr := some e }
    match u.lastErr with
    | some e0 =>
      if agreeErr e0 e && !u.stay then
        (if e.natAbs ≤ 10000 * 2 ^ 16 then ({ v with t := (t.correct e 1000000000).judge e, hold := false, lastErr := none }, false)
        else ({ v with diverge := true, stay := true }, !u.diverge))
      else (v, false)
    | none => (v, false)
  else ({ u with t := (t.correct e 1000000000).judge e, phase := e, missed := 0 }, false)

/-! The slot calendar -/

/-- R393, R394: entry `w` applies in tick `n`. -/
def calApplies (w : Word) (n : Nat) : Bool :=
  bit w 63 && decide (n % 2 ^ bits w 62 59 = bits w 58 44) && decide (bits w 33 17 < 100000) && decide (bits w 16 0 ≠ 0)

/-- R393: the window of entry `w` in tick `n`: its first count and the count at which it ends. -/
def calWindow (w : Word) (n : Nat) : Nat × Nat :=
  let a := n * 100000 + bits w 33 17
  (a, Nat.min (a + bits w 16 0) ((n + 1) * 100000))

def Calendar.entry (c : Calendar) (b k : Nat) : Word := Tbl.get 0 c.entries (b * 64 + k)

/-- R395: an entry written; one of the current bank is not. -/
def Calendar.write (c : Calendar) (b k : Nat) (w : Word) : Calendar :=
  if b = c.cur then c else { c with entries := Tbl.set c.entries (b * 64 + k) w }

/-- R395: TICK written: a switch is armed if the tick is still to come; else the write is ignored. -/
def Calendar.arm (c : Calendar) (tick cur : Nat) : Calendar := if tick ≤ cur then c else { c with tick := tick, armed := true }

/-- R395, R398: at the armed tick the other bank becomes current. -/
def Calendar.switch (c : Calendar) (tick : Nat) : Calendar :=
  if c.armed && decide (c.tick ≤ tick) then { c with armed := false, cur := 1 - c.cur } else c

/-- R395: LRL_CALCTL. -/
def Calendar.ctlWord (c : Calendar) : Nat := flg 63 c.armed + fld 62 c.cur + c.tick

/-- R393: the end of the union of the windows that apply in tick `n`, as far as it goes on from count `b`; `fuel` bounds the windows that
prolong it. -/
def Calendar.unionEnd (c : Calendar) (n : Nat) : Nat → Nat → Nat
  | 0, b => b
  | fuel + 1, b =>
    let b1 := (List.range 64).foldl (fun b k =>
      let w := c.entry c.cur k
      if calApplies w n && decide ((calWindow w n).1 ≤ b) then Nat.max b (calWindow w n).2 else b) b
    if b1 = b then b else Calendar.unionEnd c n fuel b1

end Sys2Proof.Machine
end

