-- ==== Sys2Proof/Machine/State.lean ====
section
/-!
DEFINITION. The state of the panel (spec 00 to 24), its queue of waiting commands, and the state after reset.
-/
namespace Sys2Proof.Machine

/-- The faults of a step: none. Every fault the spec names is an effect on State. -/
inductive Fault where
  deriving DecidableEq, Repr

/-- The refusals of a step. -/
inductive Refusal where
  /-- Raised by exec's arms for a row that has no meaning yet; safe: nothing can be proved of such a row. -/
  | notModelled (mnemonic : String)
  deriving DecidableEq, Repr

/-- The panel. `clusters` by cluster number (01 R22), `hbm` by stack number; `out` what the panel has sent, newest first; `now`
the time-base cycle (13 R385); `freeCtr` numbers the free values used (log entry 6); `pending` the commands that wait, first
in, first out. -/
structure State where
  clusters : Tbl Cluster
  hbm : Tbl Stack
  gaz : Gaz
  delta : Delta
  lev : Levee
  larre : Larre
  mer : Meridian
  cnf : Confluence
  ten : Tenancy
  hosts : Hosts
  lgd : Legend
  ctg : Cartouche
  fw : Firmware
  boot : Boot
  pwr : Power
  clk : Clocks
  log : Log
  diag : Diag
  out : List Msg
  now : Nat
  freeCtr : Nat
  pending : List Instr
  deriving DecidableEq, Repr

/-- The panel with every register at its reset value, before V_HK has reached its window (20 R535; log entry 1): the status of
every unit as shipped (01 R31), every memory zero, no service. -/
def State.reset : State where
  clusters := []
  hbm := []
  gaz := {}
  delta := {}
  lev := {}
  larre := {}
  mer := {}
  cnf := {}
  ten := {}
  hosts := {}
  lgd := {}
  ctg := {}
  fw := {}
  boot := { part := 0, level := none }
  pwr := { seq := 0, on := 0, inwin := 0, vhk := false }
  clk := {}
  log := {}
  diag := {}
  out := []
  now := 0
  freeCtr := 0
  pending := []

end Sys2Proof.Machine
end

