-- ==== Sys2Proof/Machine/Ops.lean ====
section
/-!
DEFINITION. The named operations over the panel's state that the families share.
-/
namespace Sys2Proof.Machine

/-- What a meaning answers: every command of this block has a next state. -/
abbrev Ans := Host.Outcome State Fault Refusal

/-! Access to the parts of the panel -/

/-- The cluster of a number. -/
def State.cl (s : State) (c : Nat) : Cluster := Tbl.get {} s.clusters c
def State.setCl (s : State) (c : Nat) (k : Cluster) : State := { s with clusters := Tbl.set s.clusters c k }
def State.stk (s : State) (k : Nat) : Stack := Tbl.get {} s.hbm k
def State.modStk (s : State) (k : Nat) (f : Stack → Stack) : State := { s with hbm := Tbl.mod {} s.hbm k f }
def State.modGaz (s : State) (f : Gaz → Gaz) : State := { s with gaz := f s.gaz }
def State.modDelta (s : State) (f : Delta → Delta) : State := { s with delta := f s.delta }
def State.modLev (s : State) (f : Levee → Levee) : State := { s with lev := f s.lev }
def State.modLarre (s : State) (f : Larre → Larre) : State := { s with larre := f s.larre }
def State.modMer (s : State) (f : Meridian → Meridian) : State := { s with mer := f s.mer }
def State.modCnf (s : State) (f : Confluence → Confluence) : State := { s with cnf := f s.cnf }
def State.modTen (s : State) (f : Tenancy → Tenancy) : State := { s with ten := f s.ten }
def State.modHosts (s : State) (f : Hosts → Hosts) : State := { s with hosts := f s.hosts }
def State.modLgd (s : State) (f : Legend → Legend) : State := { s with lgd := f s.lgd }
def State.modCtg (s : State) (f : Cartouche → Cartouche) : State := { s with ctg := f s.ctg }
def State.modFw (s : State) (f : Firmware → Firmware) : State := { s with fw := f s.fw }
def State.modBoot (s : State) (f : Boot → Boot) : State := { s with boot := f s.boot }
def State.modPwr (s : State) (f : Power → Power) : State := { s with pwr := f s.pwr }
def State.modClk (s : State) (f : Clocks → Clocks) : State := { s with clk := f s.clk }
def State.modLog (s : State) (f : Log → Log) : State := { s with log := f s.log }
def State.modDiag (s : State) (f : Diag → Diag) : State := { s with diag := f s.diag }

/-- A message sent. -/
def State.emit (s : State) (m : Msg) : State := { s with out := m :: s.out }
def State.emits (s : State) (ms : List Msg) : State := { s with out := ms.reverse ++ s.out }

/-! Time (13) -/

/-- The Meridian count of the active unit. -/
def State.mcount (s : State) : Nat := s.mer.unit.t.count s.now
/-- R397: the Meridian count of a die, by unit code. -/
def State.dieCount (s : State) (u : Nat) : Nat := (s.mer.die u).t.count s.now
/-- The tick of a count. -/
def tickOf (n : Nat) : Nat := n / 100000
/-- R401: the copies of MER_COUNT and MER_STAT that a site's clusters read. -/
def State.merCopy (s : State) (site : Nat) : Nat → Nat := fun off =>
  if off = 0 then s.dieCount site else if off = 8 then (s.mer.die site).statWord else 0

/-! Events (23) -/

/-- R607, R601: an event raised at a unit: counted there until it is forwarded, and on its way to the Surveyor's log where the
code is logged. -/
def State.raise (s : State) (code : FCode) (unit sub detail : Nat) : State :=
  let l := s.log
  let l1 := { l with fwd := Tbl.mod 0 l.fwd (unit * 256 + code.num) (· + 1) }
  { s with log := if code.logged then { l1 with inbox := l1.inbox ++ [⟨s.mcount, code, unit, sub, 2, detail⟩] } else l1 }

/-- 10 R309: the local index of a braid at a unit. -/
def localIndex (b unit : Nat) : Nat :=
  ((List.range 38).find? fun j => match levIndex unit j with
    | some (x, _) => x == b
    | none => false).getD 0

/-- R603: the unit code and sub of a STATUS_CHANGE record for a history entry; a braid, a lane is named at its lower end. -/
def HistEntry.place (e : HistEntry) : Nat × Nat :=
  match e.kind with
  | 0 => (e.object, 0)
  | 2 => (192 + e.object, 0)
  | 3 => (0x100 + e.object, 0)
  | 4 => ((braidEnds e.object).1, localIndex e.object (braidEnds e.object).1)
  | 5 => ((braidEnds e.object).1, localIndex e.object (braidEnds e.object).1)
  | _ => (e.object / 8, e.object % 8)

/-- 01 R41: a logged event of a site is counted in its record. -/
def Gaz.countFault (g : Gaz) (unit : Nat) : Gaz :=
  if unit < 192 then { g with sites := Tbl.set g.sites unit { g.site unit with faults := satAdd 65535 (g.site unit).faults 1 } } else g

/-- R601, R605: an event that the Surveyor raises itself: counted and logged as it occurs. -/
def State.raiseAs (s : State) (source : Nat) (code : FCode) (unit sub detail : Nat) : State :=
  let l := s.log.count code 1
  { s with log := if code.logged then l.receive ⟨s.mcount, code, unit, sub, source, detail⟩ else l
           gaz := if code.logged then s.gaz.countFault unit else s.gaz }
def State.raiseSv (s : State) (code : FCode) (unit sub detail : Nat) : State := s.raiseAs 3 code unit sub detail

/-! Requests for a vote (14 R411, R423) -/

/-- R411: this member's ballot: who has been silent for three ticks, who was heard in the last tick, its last epoch, its requests. -/
def State.ownBallot (s : State) : Ballot :=
  let c := s.cnf
  let tick := tickOf s.mcount
  let mask (f : Neighbour → Bool) : Word := BitVec.ofNat 64 ((c.neigh.filter fun (_, x) => f x).map fun (j, _) => 2 ^ j).sum
  { silent := mask fun x => decide (3 ≤ x.silent)
    heard := mask fun x => match x.heard with | some t => decide (tick ≤ t + 1) | none => false
    last := BitVec.ofNat 32 c.last, req := BitVec.ofNat 8 c.reqs }

/-- R410: a message to every other entry of the record. -/
def State.toEntries (s : State) (kind : Nat) (words : List Nat) : State :=
  match s.cnf.record with
  | none => s
  | some r =>
    let me := s.cnf.me s.gaz.eui
    s.emits (((r.entries.mapIdx fun i e => (i, e)).filter fun (i, _) => some i != me).map fun (_, e) => Msg.confluence e.identity kind words)

/-- R411: this member's ballot recorded and sent. -/
def State.castBallot (s : State) : State :=
  match s.cnf.vote, s.cnf.me s.gaz.eui with
  | some v, some i =>
    let b := s.ownBallot
    (s.modCnf fun c => { c with vote := some { v with ballots := Tbl.set v.ballots i b } }).toEntries 2
      [v.vseq, v.a, b.silent.toNat, b.heard.toNat, b.last.toNat, b.req.toNat]
  | _, _ => s

/-- R411: a vote opens in tick `a`; the member casts its ballot. -/
def State.openVote (s : State) (a : Nat) (accuse : Bool) : State :=
  let q := s.cnf.vseq + 1
  let s1 := s.modCnf fun c => { c with vote := some { vseq := q, a := a }, vseq := q, atick := a, waitAccuse := false }
  (if accuse then s1.toEntries 1 [q, a] else s1).castBallot

/-- R411, R423: the member asks for a vote with the requests `bits`; after the first round's deadline it waits for the next one. -/
def State.askVote (s : State) (bits : Nat) : State :=
  let c := s.cnf
  if !c.member || c.fenced then s
  else match c.vote with
    | none => (s.modCnf fun c => { c with reqs := c.reqs ||| bits }).openVote (tickOf s.mcount) true
    | some v =>
      if v.round = 1 then (s.modCnf fun c => { c with reqs := c.reqs ||| bits }).castBallot
      else s.modCnf fun c => { c with waitReqs := c.waitReqs ||| bits, waitAccuse := true }

/-- A cluster changed; each uncorrected word that the change met is reported (08 R226, 23 R607). -/
def State.modCl (s : State) (c : Nat) (f : Cluster → Cluster) : State :=
  let k := s.cl c
  let k' := f k
  let s1 := s.setCl c k'
  if k.spd.ueSeen < k'.spd.ueSeen then
    let s2 := (List.range (k'.spd.ueSeen - k.spd.ueSeen)).foldl (fun s _ => s.raise .eccUncorrected (c / 8) (c % 8) k'.spd.fault.toNat) s1
    if k.sq.run && !k'.sq.run then s2.askVote 1 else s2
  else s1

/-- A stack changed; an uncorrected line or an empty key slot that the change met is reported (11 R318, R325). -/
def State.modStkNote (s : State) (k : Nat) (f : Stack → Stack) : State :=
  let x := s.stk k
  let y := f x
  let s1 := s.modStk k fun _ => y
  let s2 := if x.ueCnt < y.ueCnt then s1.raise .eccUncorrected (192 + k) 0 y.fault.toNat else s1
  if x.keyMiss < y.keyMiss then s2.raise .keyEmpty (192 + k) 0 y.fault.toNat else s2

/-- The R607 code of a trap's cause, counted as the trap is entered; a doorbell is no fault, and SX_FAULT is counted where a
thread faults. -/
def Cause.fcode : Cause → Option FCode
  | .illegalBundle => some .illegalBundle | .illegalCount => some .illegalCount | .tileDescInvalid => some .tileDescInvalid
  | .anchorMismatch => some .anchorMismatch | .shoalInvalid => some .shoalInvalid | .soundingOvf => some .soundingOvf
  | .vxSuspended => some .vxSuspended | .sxFault => none | .schedOverrun => some .schedOverrun
  | .addrSpace => some .addrSpace | .addrBound => some .addrBound | .lengthBound => some .lengthBound
  | .handleStale => some .handleStale | .doorbell => none | .addrAlign => some .addrAlign

/-- An occurrence of a cause at cluster `c` counted for 0x8000 (R601). -/
def State.countCause (s : State) (c : Nat) (k : Cause) : State :=
  match k.fcode with
  | some f => s.raise f (c / 8) (c % 8) 0
  | none => s

/-- R178, R181: a refusal at issue of cluster `c` entered as a trap; inside a handler the sequencer stops and TRAP_NESTED is
reported to the Lockkeeper. -/
def State.enterTrap (s : State) (c : Nat) (k : Cause) (sub : Nat) : State :=
  let s1 := (s.modCl c fun x => x.enter k sub).countCause c k
  if (s.cl c).sq.inh then s1.raise .trapNested (c / 8) (c % 8) 0 else s1

/-! Legend objects (17) -/

/-- R9, R546, R617: the configuration's maximum step in MHz; 1,800 while the configuration is not known. -/
def State.maxStep (s : State) : Nat := if s.pwr.config = 1 then 1300 else 1800
/-- R546: the configuration's rated input power in W. -/
def State.ratedPower (s : State) : Nat := if s.pwr.config = 1 then 9000 else 15000

/-- R473, R476: an element of an object: the value last written, or its default. The step limits 0x2200, 0x2201 and 0x2203 never exceed the
configuration's maximum, whatever was written under another (00 R10, log entry 73). -/
def State.obj (s : State) (i k : Nat) : Nat :=
  match Tbl.get? s.lgd.objs (i * 65536 + k) with
  | some v => if 0x2200 ≤ i ∧ i ≤ 0x2203 ∧ i ≠ 0x2202 then Nat.min v s.maxStep else v
  | none =>
    match i with
    | 0x2200 => s.maxStep
    | 0x2203 => match Tbl.get? s.lgd.objs (0x2200 * 65536) with
      | some v => Nat.min 1600 (Nat.min v s.maxStep)
      | none => Nat.min 1600 s.maxStep
    | 0x5501 => s.ratedPower
    | 0x7010 => if s.ctg.fuse then 1 else 0
    | _ => objDefault i

def State.setObj (s : State) (i k v : Nat) : State := s.modLgd fun l => { l with objs := Tbl.set l.objs (i * 65536 + k) v }
def State.dom (s : State) (i : Nat) : List Byte := Tbl.get [] s.lgd.doms i
def State.setDom (s : State) (i : Nat) (bs : List Byte) : State := s.modLgd fun l => { l with doms := Tbl.set l.doms i bs }

/-- 00 R20, 20 R539: the panel is held at service level 0, where only the Legend and the Cartouche operate (log entry 71). -/
def State.atZero (s : State) : Bool := s.boot.level == some 0

/-! NOTIFY and MSI-X (17 R489, 16 R462) -/

/-- R489: a NOTIFY to every session that asked for it, and vector 0 of the PF of each port whose link is up. -/
def State.notifyAll (s : State) (event index : Nat) : State :=
  let ms := (s.lgd.sessions.filter fun (_, x) => x.note).map fun (n, x) => Msg.notify x.ep n event index s.mcount
  let ps := ([0, 1].filter fun p => (s.hosts.port p).linkUp).map fun p => Msg.msix p 0 0
  s.emits (ms ++ ps)

/-- The number of the next free value, and the state that has used it. -/
def State.fresh (s : State) : Nat × State := (Config.freeValue s.freeCtr, { s with freeCtr := s.freeCtr + 1 })

/-- 10 R299, 12 R346: the interface generation of the link microcode, which IDENT carries. -/
def State.lmcGen (s : State) : Nat := (s.fw.img 3).ifgen

/-! Packets at routers (09) -/

/-- The braids of a site that serve one of its Delta ports, and those of them in service. -/
def siteBraids (site : Nat) : List Nat := siteMeshBraids site ++ siteMemBraids site ++ siteAttachBraids site
def Gaz.portBraids (g : Gaz) (site port : Nat) : List Nat :=
  (siteBraids site).filter fun b => braidPort b (g.braid b).role site == port && (g.braid b).status == 0

/-- 10 R296: the turn lists of one class and sub-channel of a port. -/
def turnKey (site port key : Nat) : Nat := (site * 20 + port) * 8 + key

/-- 10 R292, R294, R296: flits of a packet leave an end of a port's braids: the router's, or where `far` the unit's that the port joins, whose
turn lists are kept under the site's number plus 192. A head takes the next turn of its class and sub-channel; the rest of its packet follows
on the same braid, each flit numbered, checked and kept for replay. -/
def State.sendFlits (s : State) (far : Bool) (site port : Nat) (c : Chunk) : State :=
  let key := turnKey (if far then 192 + site else site) port c.p.subKey
  let s1 := if c.at_ = 0 then s.modLev fun l => (l.place key).1 else s
  let slot := Tbl.get? s1.lev.onBraid key
  match (s1.gaz.portBraids site port).find? fun b => some (braidSlot b) == slot with
  | none => s1
  | some b =>
    let hi := decide ((braidEnds b).2 = site) != far
    let (e, fs) := ((s1.lev.braid b).endOf hi).send (((flitsOf c.p.bytes).drop c.at_).take c.n)
    (s1.modLev fun l => l.modBraid b fun y => y.modEnd hi fun _ => e).emits
      (fs.map fun (f, crc) => Msg.flit (if hi then (braidEnds b).2 else (braidEnds b).1) b f crc)

/-- R260: flits of a packet leave a port of a router. -/
def State.sendChunk (s : State) (site port : Nat) (c : Chunk) : State :=
  (if c.at_ = 0 then s.emit (.packet site port c.p) else s).sendFlits false site port c

/-- 10 R292, R296: what a base die, an engine or a die injects comes to its router over the braids of their port. -/
def State.unitFlits (s : State) (site port : Nat) (p : Packet) : State :=
  if port = 12 ∨ port = 14 ∨ port = 15 then s.sendFlits true site port ⟨p, 0, p.flits⟩ else s

/-- R263: the hop acknowledgements that a port sends on each of its braids for the classes of which it has freed flits since `before`. -/
def State.sendHopacks (s : State) (site port : Nat) (before : DPort) : State :=
  let d := (s.delta.router site).port port
  let cs := (List.range 3).filter fun c => d.freedValue c != before.freedValue c
  s.emits ((s.gaz.portBraids site port).flatMap fun b => cs.map fun c => Msg.sideband site b 0x02 (sideFrame 0x02 (d.freedValue c)))

/-- What a router did is entered: its flits leave, and its inputs acknowledge what was freed. -/
def State.commitRouter (s : State) (site : Nat) (r : Router) (sent : List (Nat × Chunk)) : State :=
  let r0 := s.delta.router site
  let s1 := sent.foldl (fun s (x : Nat × Chunk) => s.sendChunk site x.1 x.2) (s.modDelta fun d => d.modRouter site fun _ => r)
  (((List.range 20).filter fun p => linkPort p && (r.port p).rxFreed != (r0.port p).rxFreed)).foldl (fun s p => s.sendHopacks site p (r0.port p)) s1

/-- What a router did with a packet is entered, and its copies leave. -/
def State.routed (s : State) (site : Nat) (f : Fwd) : State :=
  (s.emits (f.deliver.map fun (port, p) => Msg.packet site port p)).commitRouter site f.r f.sent

/-- R282: a router accepts a packet's head: counted, and sampled where its count is a multiple of 2^K. A sample taken while all four
buffers are full is dropped and counted. With a ring SIZE of 0 no sample is taken and no drop counted (DESIGN CHOICE, log entry 76). -/
def State.counted (s : State) (site inPort : Nat) (p : Packet) : State :=
  let r := s.delta.router site
  let n := r.accepted + 1
  let s1 := s.modDelta fun d => d.modRouter site fun r => { r with accepted := n }
  if !r.tlmEn || n % 2 ^ r.tlmK ≠ 0 || r.tlmSize = 0 || (r.stopFull && decide (r.tlmCount + r.tlmBuf.length ≥ r.tlmSize)) then s1
  else
    let out := if p.multicast then (((List.range 20).filter fun i => ((s.delta.tabs p.ed).multiAt site p.dest).getLsbD i).headD 0)
      else ((s.delta.outPort site p).map (·.1)).getD 0
    let rec_ := telemetryRecord (s.dieCount site) p inPort out (Nat.min 255 ((r.port out).classQueue p.cls)) site (n / 2 ^ r.tlmK % 2 ^ 32)
    s1.modDelta fun d => d.modRouter site fun r =>
      if r.tlmBuf.length < 4 then { r with tlmBuf := r.tlmBuf ++ [rec_] } else r.bump 5 1

/-- R260, R276, R282: a router takes a packet in: counted, forwarded, or dropped; answers whether a NAK_ROUTE is due. -/
def State.enter (s : State) (site inPort : Nat) (p : Packet) : State × Bool :=
  let s1 := s.counted site inPort p
  let f := s1.delta.forward site inPort p
  (s1.routed site f, f.nak)

/-- R266: the window entry of a source for a unit. -/
def State.winOf (s : State) (src unit : Nat) : Option WinEntry := (Tbl.get [] s.delta.wins src).find? fun w => w.unit == unit

/-- R277, R278: the edition that a router stamps now. -/
def State.stamp (s : State) (site : Nat) (p : Packet) : Packet := { p with route := putBit p.route 36 ((s.delta.router site).edAt s.mcount) }

/-- R253: a port that joins a Surveyor die. -/
def surveyorPort (site port : Nat) : Bool := port == 14 && ((dieSites 0).contains site || (dieSites 1).contains site)

/-- R253, R278: what the first router does to a packet injected at a port: FWKEY cleared but for a Surveyor's, TENANT stamped at the ports of
the clusters, the memory stack and the Lockkeeper (15, table of requesters; log entry 32), the edition stamped, ESC and E clear. -/
def State.takeAtPort (s : State) (site port : Nat) (p : Packet) : Packet :=
  let w1 := if surveyorPort site port then p.route else putBit p.route 5 false
  let w2 := if 4 ≤ port ∧ port ≤ 13 then put w1 14 6 ((s.delta.router site).port port).tenant else w1
  s.stamp site { p with route := putBit (putBit w2 37 false) 35 false }

/-- 01 R41, 09 R249: the site whose router a unit's packets enter: a site's own, the first home site of a stack whose memory link is up, the
attachment site of an engine or die. -/
def State.siteOfUnit (s : State) (u : Nat) : Nat :=
  if u < 192 then u
  else if u < 240 then ((homeSites (u - 192)).find? s.gaz.memLink).getD ((homeSites (u - 192)).headD 0)
  else if u < 0x140 then engineSite (u - 0x100)
  else ((dieSites (u - 0x140)).find? s.gaz.siteIn).getD ((dieSites (u - 0x140)).headD 0)

/-! Windows (R266, R267) -/

/-- The router whose DLT_WIN governs a source. -/
def State.winRouter (s : State) (src : Nat) : Router := s.delta.router (s.siteOfUnit (src % 512))

def State.modWinOf (s : State) (src unit : Nat) (f : WinEntry → WinEntry) : State :=
  s.modDelta fun d => { d with wins := Tbl.mod [] d.wins src fun ws => modWin ws unit f }

/-- R266: the bytes that a packet counts as sent: a Stream or Direct packet its LEN, a READ its LENGTH. -/
def pktCounted (p : Packet) : Nat :=
  if p.multicast then 0
  else if p.mode ≤ 1 then p.len
  else if p.op = 6 then bits p.head 55 42 else 0

/-- R267, R278: a packet waits while its destination's window entry holds injection, whatever its size; control messages apart from READ do not. -/
def windowed (p : Packet) : Bool := !p.multicast && (decide (p.mode ≤ 1) || p.op == 6)

/-- The key of the cumulative counts that an evicted entry leaves. -/
def goneKey (src unit : Nat) : Nat := src * 512 + unit

/-- R266, R267, R270, R278: a source's window admits a packet of `n` counted bytes toward a unit, or holds it. -/
def State.window (s : State) (src unit n maxp : Nat) (data : Bool) : Option State :=
  let ws := Tbl.get [] s.delta.wins src
  if n = 0 then (if data && (ws.any fun w => w.unit == unit && w.holds) then none else some s)
  else
    let r := s.winRouter src
    let now := s.dieCount (src % 512)
    match winEntry ws unit (Tbl.get (0, 0) s.delta.gone (goneKey src unit)) with
    | none => none
    | some (w0, rest, out) =>
      let w := w0.recovered now
      if w.mayInject now n (r.window * 1024) maxp then
        some (s.modDelta fun d =>
          { d with
            wins := Tbl.set d.wins src (w.inject now n (r.timeout * 1000) maxp :: rest)
            gone := match out with | some v => Tbl.set d.gone (goneKey src v.unit) (v.snt, v.readAck) | none => d.gone })
      else none

/-- R257: a packet dropped at injection, with its counter. -/
def State.dropped (s : State) (site counter : Nat) : State :=
  s.modDelta fun d => d.modRouter site fun r => { r.bump counter 1 with idrop := true }

/-- The port by which what a unit makes enters its site's router; none for what the router and the Lockkeeper make themselves: ACK, NAK and MACK
of the site, and telemetry (log entry 62). -/
def ctlPort (site : Nat) (p : Packet) : Option Nat :=
  if p.srcUnit = site then (if p.mode = 2 ∧ (p.op = 3 ∨ p.op = 5) then some (4 + p.src / 512) else none)
  else localPort site p.srcUnit

/-- R272: a second ACKREQ packet of a group is held until the first one's MACK has returned. -/
def State.mcHeld (s : State) (p : Packet) : Bool := p.multicast && p.ackreq && s.delta.mcPend.contains p.dest

/-- R281, 11 R331: what a packet is charged at an injection shaper: a READ its LENGTH, data whole lines, control messages nothing. -/
def shapeCharge (p : Packet) : Nat := if p.mode = 2 then (if p.op = 6 then bits p.head 55 42 else 0) else cdiv p.len 64 * 64

/-- R259, R262, R272, R281: a packet waits at its port: behind what a unit made before it for that port and class, for a MACK, for its
shaper, or for room in the input buffer. -/
def State.unitHeld (s : State) (site port : Nat) (q : Packet) : Bool :=
  (s.delta.outbox.any fun (x : Nat × Nat × Packet) => x.1 == site && x.2.1 == port && x.2.2.cls == q.cls) || s.mcHeld q
    || !((s.delta.router site).port port).shaper.admits || !(s.delta.router site).hasRoom port q

/-- R272, R281: what an injected packet leaves behind: its charge, and its group's MACK to come. -/
def State.noteEntered (s : State) (site port : Nat) (q : Packet) : State :=
  s.modDelta fun d =>
    let d1 := d.modRouter site fun r => r.modPort port fun k => { k with shaper := k.shaper.charge (shapeCharge q) }
    if q.multicast && q.ackreq then { d1 with mcPend := q.dest :: d1.mcPend, mcEd := Tbl.set d1.mcEd q.dest q.ed } else d1

/-- R259, R266, R267, R278, R281: a packet that passed the first router's checks may be injected now; the panel with its books written. -/
def State.mayEnter (s : State) (site port : Nat) (q : Packet) : Option State :=
  if s.unitHeld site port q then none
  else (s.window q.src q.destUnit (pktCounted q) (((s.delta.router site).port port).effMax q.mode) (windowed q)).map fun s1 => s1.noteEntered site port q

/-- A packet that a unit has made waits to be injected. -/
def State.awaitEntry (s : State) (site port : Nat) (q : Packet) : State := s.modDelta fun d => { d with outbox := d.outbox ++ [(site, port, q)] }

/-- R255, R257: a control packet that a unit makes enters the router of a site, once it may; a port's packet is checked as any other. -/
def State.sendCtl (s : State) (site : Nat) (p : Packet) : State :=
  match ctlPort site p with
  | none => (s.enter site 255 (s.stamp site p)).1
  | some port =>
    let q := s.takeAtPort site port p
    match ((s.delta.router site).port port).check q with
    | .pass => (match s.mayEnter site port q with
      | some s1 => ((s1.unitFlits site port p).enter site port q).1
      | none => s.awaitEntry site port p)
    | .badLen => s.dropped site 0
    | _ => s.dropped site 1

/-- R257, R265, R276: a NAK of `code` sent to a packet's source from a site. -/
def State.sendNak (s : State) (site code : Nat) (p : Packet) : State :=
  s.sendCtl site (nakPacket p.src site code p)

/-- The NAK codes of 09 R257. -/
def nakRouteCode : Nat := 2

/-- R257: a packet dropped at injection, with its counter and its NAK. -/
def State.dropInject (s : State) (site counter : Nat) (nak : Option (Nat × FCode)) (p : Packet) : State :=
  let s1 := s.dropped site counter
  match nak with
  | some (code, f) => if p.mode ≤ 1 then (s1.sendNak site code p).raise f site 0 0 else s1
  | none => s1

/-- R260, R276: a router takes a packet in; one dropped for want of a route gets its NAK_ROUTE. -/
def State.forwardAt (s : State) (site inPort : Nat) (p : Packet) : State :=
  let (s1, nak) := s.enter site inPort p
  if nak then (s1.sendNak site nakRouteCode p).raise .nakRoute site 0 0 else s1

/-- R257: a packet enters at a port if it passes the first router's checks. -/
def State.injectAt (s : State) (site port : Nat) (q : Packet) : State :=
  match ((s.delta.router site).port port).check q with
  | .badLen => s.dropInject site 0 (some (1, .nakLen)) q
  | .badMode => s.dropInject site 1 (some (3, .nakMode)) q
  | .disabled => s.dropInject site 1 none q
  | .pass => s.forwardAt site port q

/-- R255, R258, R266: the data of a READ that a unit answers with enters by its port, once it may. -/
def State.sendData (s : State) (site : Nat) (p : Packet) : State :=
  match ctlPort site p with
  | none => s.forwardAt site 255 (s.stamp site p)
  | some port =>
    let q := s.takeAtPort site port p
    if ((s.delta.router site).port port).check q = .pass then
      (match s.mayEnter site port q with
       | some s1 => (s1.unitFlits site port p).forwardAt site port q
       | none => s.awaitEntry site port p)
    else s.injectAt site port q

/-- R259, R262: what waits to be injected is tried again, in order, under the edition of the moment (R277). -/
def State.drainOutbox (s : State) : State :=
  s.delta.outbox.foldl (fun s (x : Nat × Nat × Packet) =>
    let q := s.takeAtPort x.1 x.2.1 x.2.2
    match s.mayEnter x.1 x.2.1 q with
    | some s1 => (s1.unitFlits x.1 x.2.1 x.2.2).forwardAt x.1 x.2.1 q
    | none => s.awaitEntry x.1 x.2.1 x.2.2) (s.modDelta fun d => { d with outbox := [] })

/-- The local braid index of a Delta port's first braid (10 R309). -/
def portLocal (p : Nat) : Nat := if p < 4 then 8 * p else if p = 12 then 32 else if p = 14 then 34 else if p = 15 then 36 else 8 * (p - 16)

/-- R263, R265: a port goes down: LINK_DOWN is raised, and what it held is discarded, unicast data with NAK_ROUTE; the flits freed are
acknowledged. -/
def State.portDown (s : State) (site port : Nat) : State :=
  let (r, lost) := (s.delta.router site).portDown port
  let s1 := ((s.commitRouter site r []).modDelta fun d => { d with edWanted := true }).raise .linkDown site (portLocal port) 0
  lost.foldl (fun s p => (s.sendNak site nakRouteCode p).raise .nakRoute site 0 0) s1

/-! The Gazetteer (01) -/

/-- 10 R293: the width of a port in half braids. -/
def Gaz.portHalves (g : Gaz) (site port : Nat) : Nat := ((g.portBraids site port).map g.halves).sum

/-- R261, 10 R293, R298: a port is up: a mesh port with three braids in service, any other with one; a half-width braid counts half. -/
def Gaz.portOk (g : Gaz) (site port : Nat) : Bool :=
  g.siteIn site && decide (g.portHalves site port ≥ (if port < 4 then 6 else 1))

/-- The ports of a router that lead outside its die (09 R249). -/
def outerPorts : List Nat := [0, 1, 2, 3, 12, 14, 15, 16, 17, 18, 19]

/-- R36, R37, 21 R559, 20 R544: a cluster whose core is off: its state is lost, but for its steered columns (R33); its scratchpad is
zeroized before use again (08 R241). -/
def Cluster.kept (k : Cluster) : Cluster := { spd := { steer := k.spd.steer, zNeeded := true } }

/-- The sites from which the clusters can be reached over Delta by a host-port die (20 R539). -/
def Gaz.hostReach (g : Gaz) : List Nat := g.spread ((dieSites 2 ++ dieSites 3).dedup.filter g.siteIn) 192

/-- 20 R539: an in-service cluster is reachable from a host-port die. -/
def Gaz.computeOk (g : Gaz) : Bool := g.hostReach.any fun s => (List.range 8).any fun n => g.clusterIn (8 * s + n)

/-- 20 R539: the active Surveyor has a Delta path to an in-service site. -/
def Gaz.diagOk (g : Gaz) (active : Nat) : Bool := !(g.kept active).isEmpty

/-- 20 R540: the service level changes, with its NOTIFY. -/
def State.setLevel (s : State) (l : Option Nat) : State :=
  if s.boot.level = l then s else (s.modBoot fun b => { b with level := l }).notifyAll 0x8002 0x1001

/-- 21 R561: a domain of a cluster in service is on. -/
def State.domainOn (s : State) : Bool := s.pwr.doms.any fun (c, d) => d.state == 3 && s.gaz.clusterIn c

/-- 19 R533, 18 R497, R510: the active role passes to the other Surveyor, whose components resume from mirrored state. -/
def State.takeover (s : State) : State :=
  (s.modFw fun f => { f with active := 1 - f.active, svbUp := false,
                             comps := f.comps.map fun (k, c) => (k, { c with state := 1 }) }).notifyAll 0x8002 0x1001

/-- 20 R540: the level after a change of the Gazetteer, once the start is over. -/
def State.relevel (s : State) : State :=
  if s.boot.stopped then s
  else match s.boot.level with
  | some 2 => if !s.gaz.diagOk s.fw.active then (s.setLevel (some 0)).modBoot fun b => { b with stopped := true }
      else if s.gaz.computeOk then s else s.setLevel (some 1)
  | some 1 => if !s.gaz.diagOk s.fw.active then (s.setLevel (some 0)).modBoot fun b => { b with stopped := true }
      else if s.boot.part = 6 && s.gaz.computeOk && !s.pwr.integ && s.pwr.seq == 3 && s.domainOn then s.setLevel (some 2) else s
  | _ => s

/-! Turn lists (10 R296) -/

/-- R261, R298: a port is up, and the braids of its turn list: those in the list, each with its half-width flag, in slot order. -/
def State.portTurns (s : State) (site port : Nat) : List (Nat × Bool) :=
  ((s.gaz.portBraids site port).filter fun b => (s.lev.braid b).a.inlist).map fun b => (braidSlot b, (s.lev.braid b).half)

/-- R296: the turn lists of a port set for every class and sub-channel, each from its first turn, and those of the unit that it joins. -/
def State.setTurns (s : State) (site port : Nat) : State :=
  s.modLev fun l => (List.range 6).foldl (fun l k =>
    let ts := turnList (s.portTurns site port)
    let l1 := l.setTurn (turnKey site port k) ts
    if meshPort port then l1 else l1.setTurn (turnKey (192 + site) port k) ts) l

/-- R296: the same, with the list that the port's receiver takes heads by: both ends hold the same. -/
def State.setLists (s : State) (site port : Nat) : State :=
  (s.setTurns site port).modLev fun l => { l with rxTurns := (List.range 6).foldl (fun t k =>
    Tbl.set t (turnKey site port k) (turnList (s.portTurns site port))) l.rxTurns }

/-- The Delta ports that a braid serves: the site and port at each end that is a site. -/
def Gaz.braidPorts (g : Gaz) (b : Nat) : List (Nat × Nat) :=
  let e := braidEnds b
  let role := (g.braid b).role
  (if e.1 < 192 then [(e.1, braidPort b role e.1)] else []) ++ (if e.2 < 192 then [(e.2, braidPort b role e.2)] else [])

/-- 10 R296, R310: a braid that has left service is out of its ports' turn lists: retired, or down; DLT_PORTp.BRAIDS follows (09 R290). -/
def State.braidsFollow (s : State) (g0 : Gaz) : State :=
  let gone := (List.range 3320).filter fun b => (g0.braid b).status != (s.gaz.braid b).status && ((s.gaz.braid b).status == 1 || (s.gaz.braid b).status == 4)
  let s1 := s.modLev fun l => gone.foldl (fun l b => l.modBraid b fun x => x.both fun e =>
    { e with state := if (s.gaz.braid b).status = 4 then 6 else 0, inlist := false, own := none, waiting := none }) l
  ((gone.flatMap s1.gaz.braidPorts).dedup).foldl (fun s p => (s.setLists p.1 p.2).modDelta fun d => d.modRouter p.1 fun r => r.modPort p.2 fun k =>
    { k with braids := if k.up then (s.gaz.portBraids p.1 p.2).length else 0 }) s1

/-- R37 and the units' own rules: what a change of the Gazetteer from `g0` does to the units themselves: cores off, tokens
reclaimed (21 R562), ports down (09 R265), engines dark, a diagnostic run abandoned (23 R598); a site gone with no reserve left asks
for a vote (14 R423). -/
def State.unitsFollow (s : State) (g0 : Gaz) : State :=
  let g := s.gaz
  let offs := (List.range 1536).filter fun c => g0.clusterIn c && !g.clusterIn c
  let s1 := offs.foldl (fun s c => ((s.setCl c (s.cl c).kept).modPwr fun p =>
    (p.dropToken c).modDom c fun d => { d with state := if d.state = 4 then 4 else 0, stage := 0 }).modDelta fun d =>
      d.modRouter (c / 8) fun r => r.modPort (4 + c % 8) fun k => { k with up := false }) s
  let ports := (List.range 192).flatMap fun x => (outerPorts.filter fun p => g0.portOk x p && !g.portOk x p).map fun p => (x, p)
  let s2 := ports.foldl (fun s (x, p) => s.portDown x p) s1
  let engs := (List.range 36).filter fun n => (g0.engine n).status == 0 && (g.engine n).status != 0
  let s3 := engs.foldl (fun s n => s.modLarre fun l => l.modEngine n fun e =>
    { e with laser := false, state := 0, lock := 0, ports := e.ports.map fun (k, p) => (k, p.goDown) }) s2
  let s3 := ((List.range 36).filter fun n => (g0.engine n).status != 4 && (g.engine n).status == 4).foldl
    (fun s n => s.modLarre fun l => l.modEngine n fun e => { e with state := 4 }) s3
  let s3 := (List.range 2).foldl (fun s i =>
    if engs.any (fun n => n == 18 * i || n == 18 * i + 1) then s.modLarre fun l => l.modOxbow i Oxbow.close else s) s3
  let stks := (List.range 48).filter fun k => (g0.stack k).status == 0 && (g.stack k).status != 0
  let s3 := stks.foldl (fun s k => s.modStk k fun x => { x with state := 0, waiting := [] }) s3
  let mirrored (k : Nat) : Bool := match s.cnf.record, s.cnf.me s.gaz.eui with
    | some r, some me => r.manifest.any fun m => m.base >>> 54 == k &&
        (m.owner == me || ((r.entries[m.owner]?).map (·.buddy)) == some (r.identityOf me))
    | _, _ => false
  let s3 := if stks.any mirrored then s3.askVote 2 else s3
  let gone := (List.range 192).filter fun x => g0.siteIn x && !g.siteIn x
  let policy := if s.obj 0x3010 0 = 0 then 2 else s.obj 0x3010 0
  let s3 := if gone.any fun x => (g.chooseReserve policy x).isNone then s3.askVote 2 else s3
  let s3 := s3.braidsFollow g0
  let s4 := if g0.moved g then s3.modDelta fun d => { d with edWanted := true } else s3
  let outOf : Bool := match s.diag.run with
    | some r => (r.kind == 1 && !g.siteIn r.target) || (r.kind == 2 && (g.stack r.target).status != 0)
        || (r.kind == 0 && r.iface == 0 && (g.braid r.target).status != 0)
        || (r.kind == 0 && r.iface == 1 && (g.engine (r.target / 4)).status != 0)
        || (r.kind == 0 && r.iface == 2 && (g.stack (r.target / 32)).status != 0)
    | none => false
  if outOf then s4.modDiag fun d => { d with run := none, state := 3 } else s4

/-- R34, R37, R49, R602: one change set: the change with all its consequences, the generation raised by one, the history, the
log and the NOTIFY. A change set that needs an edition leaves the last complete generation served until then (log entry 70). The active role passes first where its Surveyor is cut off (09 R275 step 1). -/
def State.applyGaz (s : State) (f : Gaz → Gaz) : State :=
  let g0 := s.gaz
  let g1 := f { g0 with history := [] }
  let active := g1.surveyor s.fw.active
  let s0 := if active = s.fw.active then s else s.takeover
  let g2 := g1.commit s.mcount active
  let news := g2.history
  let owed := g2.owed || g0.moved g2
  let g := { g2 with history := keptHistory (news ++ g0.history), owed := owed
                     old := if owed then some (g0.old.getD g0.toGazBody) else none }
  let s1 := ({ s0 with gaz := g }.modLog fun l => { l with imgGen := l.imgGen + 1 }).unitsFollow g0
  let s2 := news.reverse.foldl (fun s e => s.raiseAs e.source .statusChange e.place.1 e.place.2 e.detail8) s1
  let newFlags := (List.range 5).filter fun i => g.shortfall.testBit i && !g0.shortfall.testBit i
  let s3 := newFlags.foldl (fun s _ => s.raiseSv .gradeShortfall 0xFFFF 0 0) s2
  (s3.notifyAll 0x8001 0x3001).relevel

/-- 09 R275: more of the last change set, counted in its generation. -/
def State.applyRest (s : State) (f : Gaz → Gaz) : State := (s.modGaz fun g => { g with gen := g.gen - 1 }).applyGaz f

/-- R32: a unit leaves service by a cause, in one change set; a transition that R32 does not allow changes nothing. -/
def State.retireUnit (s : State) (src : Nat) (u : GUnit) (st reason : Nat) : State :=
  if transitionOk u (s.gaz.status u) (s.gaz.reason u) st reason false then s.applyGaz fun g => g.leave s.mcount src u st reason else s

/-! Ports of partitions (15) -/

/-- 15 R451: the words of HBS_SHAPEt and DLT_SHAPEp that an element of 0x4100 gives; the buckets of an element of 0 are off (log entry 46). -/
def stackShape (v : Nat) : Nat := if v = 0 then 0 else fld 63 1 + fld 32 (v / 2 ^ 48 % 65536) + (v / 2 ^ 34 % 16384 + 1)
def portShape (v : Nat) : Nat := if v = 0 then 0 else fld 63 1 + fld 32 (v / 2 ^ 18 % 65536) + (v / 2 ^ 4 % 16384 + 1)

/-- 15 R431 step 5, R451: the port of a cluster takes a partition's configuration, and C7's shaper that of the tenant. MODE and MAXPAY wait
until the port has no move outstanding (09 R290). -/
def State.portConfig (s : State) (c : Nat) (en : Bool) (p : Partition) : State :=
  let idle := (s.cl c).sq.moves.isEmpty
  (s.modTen fun t => { t with cfgDue := if idle then t.cfgDue.filter (· != c) else c :: t.cfgDue.filter (· != c) }).modDelta fun d =>
    d.modRouter (c / 8) fun r => r.modPort (4 + c % 8) fun x =>
      { x with en := en, mode := if idle then p.direct else x.mode, maxpay := if idle then p.maxpay else x.maxpay, tenant := p.tenant
               shaper := if c % 8 = 7 then x.shaper.write (portShape (s.obj 0x4100 p.tenant)) else x.shaper }

/-- R290: a port whose configuration waited takes it, once no move of its cluster is outstanding. -/
def State.portSettle (s : State) (c : Nat) : State :=
  if s.ten.cfgDue.contains c && (s.cl c).sq.moves.isEmpty then
    match s.ten.holder c with
    | some (_, p) => s.portConfig c true p
    | none => s.modTen fun t => { t with cfgDue := t.cfgDue.filter (· != c) }
  else s

end Sys2Proof.Machine
end

