-- ==== Sys2Proof/Machine/Fabric.lean ====
section
/-!
DEFINITION. The Larre fabric as the panel's units use it: frames made, routed and sent, and the copies of mirrored plots (spec 12 R347,
R353 to R358, 14 R415).
-/
namespace Sys2Proof.Machine

/-! What the events share -/

def State.lport (s : State) (n p : Nat) : LPort := s.larre.port n p
def State.modLport (s : State) (n p : Nat) (f : LPort → LPort) : State := s.modLarre fun l => l.modPort n p f
def State.modEng (s : State) (n : Nat) (f : Engine → Engine) : State := s.modLarre fun l => l.modEngine n f

/-- R354: the panel's Larre identity, where object 0x5202 holds a valid one. -/
def State.identity (s : State) : Nat := s.obj 0x5202 0 % 65536

/-- R371: STATE of an engine from its lasers, its loopback and its ports. -/
def Engine.settle (e : Engine) : Engine :=
  if e.state = 4 then e
  else { e with state := if e.lbGo then 3 else if e.ports.any (fun (_, p) => p.state == 2) then 2 else if e.laser then 1 else 0 }

/-- 13 R393: the end of the calendar window that a port owns now. -/
def State.larreWin (s : State) (n p : Nat) : Option Nat :=
  let c := s.mer.cal (n * 4 + p)
  if s.dieCount (0x100 + n) < c.windowEnd then some c.windowEnd else none

/-- R341: bytes per nanosecond of a port. -/
def Engine.rate (e : Engine) : Nat := if e.split = 0 then 400 else if e.split = 1 then 200 else 100

/-- 13 R393: what a port's line takes for a byte, in 1/400 ns. -/
def Engine.byteTime (e : Engine) : Nat := 400 / e.rate

/-- A frame handed to a port's link; over an Ethernet-role port it is the payload of an Ethernet frame (R364). -/
def State.frameMsg (s : State) (n p : Nat) (f : Frame) : Msg :=
  if (s.larre.engine n).role = 2 then .larreEth (n * 4 + p) (s.obj 0x5203 0) f else .frame (n * 4 + p) f

/-- A port handed frames to its link, whose line they occupy. -/
def State.sentFrames (s : State) (n p : Nat) (fs : List Frame) : State :=
  if fs.isEmpty then s
  else (s.modLport n p fun d => { d with line := Nat.max d.line (s.dieCount (0x100 + n) * 400)
                                                   + (fs.map Frame.bytes).sum * (s.larre.engine n).byteTime }).emits (fs.map (s.frameMsg n p))

/-- R353: a port sends what it may. Over an Ethernet-role port nothing leaves while flow control pauses the priority of Larre frames
(R363, R364). -/
def State.pumpLarre (s : State) (n p : Nat) : State :=
  let d := s.lport n p
  let now := s.dieCount (0x100 + n)
  let e := s.larre.engine n
  if e.role = 2 ∧ now < Tbl.get 0 d.paused (Config.larrePriority n).toNat then s
  else
    let (d1, fs) := d.pump now (Nat.max d.line (now * 400)) e.byteTime (s.larreWin n p) d.queue.length
    (s.modLport n p fun _ => d1).sentFrames n p fs

/-- R349: an ACK leaves a port. -/
def State.sentAck (s : State) (n p : Nat) (a : LAck) : State :=
  s.emit (.link (n * 4 + p) 1 ([flg 0 a.retry + flg 1 a.sync, a.aseq] ++ a.freed))

/-- R346: IDENT leaves a port: panel identity, engine, port, LMC interface generation, EUI-64. -/
def State.sentIdent (s : State) (n p : Nat) : State :=
  s.emit (.link (n * 4 + p) 3 [s.identity, n, p, s.lmcGen % 65536, s.gaz.eui.toNat])

/-- R355: a frame goes to the port that its edition's table names, by relay where that is another engine's (the crossing of Delta
takes no step, log entry 34). Answers none where it is unreachable. -/
def State.toFabric (s : State) (f : Frame) : Option State :=
  (s.larre.route f.ed f.dpanel.toNat).map fun (m, q) => (s.modLport m q fun d => { d with queue := d.queue ++ [f] }).pumpLarre m q

/-- R359 step 3, 13 R398: a switch whose T_sw has come is done before anything is stamped. -/
def State.larreDue (s : State) : State :=
  if s.larre.armed && decide (s.larre.tsw.toNat ≤ s.mcount) then s.modLarre Larre.switch else s

/-- R355: a frame made by an engine: stamped with the current edition and sent; an unreachable one is discarded and counted at
`n`, port `p`. -/
def State.frameOut (s0 : State) (n p : Nat) (f : Frame) : State × Bool :=
  let s := s0.larreDue
  match s.toFabric (Frame.withEd f s.larre.cur) with
  | some s1 => (s1, true)
  | none => (s.modLport n p fun d => d.bump 5 1, false)

/-- The panel after a frame is made and sent or discarded. -/
def State.sendFrame (s : State) (n p : Nat) (f : Frame) : State := (s.frameOut n p f).1

/-- R344: DUNIT of a frame to an address of another panel. The address names a plot slot, so no field tells the sender which unit of that panel
holds the plot: a free value of the panel and the address (log entry 74). -/
def farUnit (panel addr : Nat) : Nat := (Config.farUnit panel addr).toNat

/-- R343 to R345: a frame of this panel. -/
def State.mkFrame (s : State) (cls mode : Nat) (dpanel dunit sunit tenant : Nat) (last : Bool) (body : Nat) (bs : List PByte) : Frame :=
  let poison := bs.any (·.2)
  { link := linkWord 0 cls s.larre.cur mode bs.length poison last tenant
    dpanel := BitVec.ofNat 16 dpanel, spanel := BitVec.ofNat 16 s.identity, dunit := BitVec.ofNat 16 dunit, sunit := BitVec.ofNat 16 sunit
    body := BitVec.ofNat 128 body, payload := bs.map (·.1), poison := if poison then poisonMap bs else [] }

/-! Mirrored plots (14 R415) -/

def e2eKey (src panel : Nat) : Nat := src * 65536 + panel

/-- R415, R358: a copy of a line leaves for the buddy: counted until it is acknowledged end to end. -/
def State.sendCopy (s : State) (k buddy tenant addr : Nat) (bs : List PByte) : State :=
  let (s1, ok) := s.frameOut 0 0 (s.mkFrame 0 0 buddy (farUnit buddy addr) (192 + k) tenant false addr bs)
  if !ok then s1
  else
    let s2 := s1.modLarre fun l => { l with e2eSent := Tbl.mod 0 l.e2eSent (e2eKey (192 + k) buddy) fun x => (x + bs.length) % 2 ^ 32 }
    s2.modCnf fun c => { c with mirror := c.mirror + bs.length }

/-- R415: a copy leaves at once, or while an edition change drains is held until every earlier copy is acknowledged. -/
def State.copyOut (s : State) (k buddy tenant addr : Nat) (bs : List PByte) : State :=
  if s.larre.oldPend && (s.cnf.mirror != 0 || !s.cnf.mirrorQ.isEmpty) then
    s.modCnf fun c => { c with mirrorQ := c.mirrorQ ++ [⟨k, buddy, tenant, addr, bs⟩] }
  else s.sendCopy k buddy tenant addr bs

/-- R415: after a write of `n` bytes at a stack, each line of a MIRROR plot that it touched goes whole to the buddy. -/
def State.mirrorWrite (s : State) (k tenant off n : Nat) : State :=
  match s.cnf.record, s.cnf.me s.gaz.eui with
  | some r, some me =>
    if !s.cnf.member then s
    else match r.entries[me]? with
      | none => s
      | some e =>
        let ms := r.manifest.filter fun (m : MirrorEntry) => m.owner == me && m.base >>> 54 == k
        (linesOf off n).foldl (fun s line =>
          ms.foldl (fun (s : State) (m : MirrorEntry) =>
            let o := m.base % 2 ^ 36
            if o ≤ 64 * line ∧ 64 * line < o + m.length then
              s.copyOut k e.buddy tenant (fld 38 m.mslot + (64 * line - o)) ((s.stk k).readBytes k false tenant (64 * line) 64 []).1
            else s) s) s
  | _, _ => s

/-- R415, R358: end-to-end acknowledgement of `n` bytes of copies; the held ones leave once none is outstanding. -/
def State.copiesAcked (s : State) (n : Nat) : State :=
  let s1 := s.modCnf fun c => { c with mirror := c.mirror - n }
  if s1.cnf.mirror ≠ 0 then s1
  else s1.cnf.mirrorQ.foldl (fun s x => s.sendCopy x.stack x.buddy x.tenant x.addr x.bytes) (s1.modCnf fun c => { c with mirrorQ := [] })

end Sys2Proof.Machine
end

