-- ==== Sys2Proof/Machine/Panel.lean ====
section
/-!
DEFINITION. Panel addresses, the plot check of a requester, paths of the current edition, and reads and writes at a panel address
(spec 01 R27 to R29, 15 R433 to R435, 14 R416, 01 R46, R47).
-/
namespace Sys2Proof.Machine

/-- R27: a panel address by its space. -/
inductive PAddr where
  | hbm (k off : Nat)
  | spd (c off : Nat)
  | ctl (unit off : Nat)
  | host (p fn a : Nat)
  | peer (panel slot off : Nat)
  deriving DecidableEq, Repr

/-- R28: the control units that exist. -/
def ctlUnitOk (u : Nat) : Bool := decide (u < 0xF4 ∨ u = 0xF8)

/-- R27, R29: an address decoded, or its refusal. -/
def decodeAddr (a : Nat) : Except Cause PAddr :=
  let sp := (a >>> 60) % 16
  if sp = 0 then
    let k := (a >>> 54) % 64
    if k ≥ 48 ∨ (a >>> 36) % 2 ^ 18 ≠ 0 ∨ a % 2 ^ 36 ≥ hbmDataSize then .error .addrBound else .ok (.hbm k (a % 2 ^ 36))
  else if sp = 1 then
    let s := (a >>> 52) % 256
    if s ≥ 192 ∨ (a >>> 25) % 2 ^ 24 ≠ 0 ∨ a % 2 ^ 25 ≥ spdSize then .error .addrBound
    else .ok (.spd (8 * s + (a >>> 49) % 8) (a % 2 ^ 25))
  else if sp = 2 then
    (if ctlUnitOk ((a >>> 52) % 256) then .ok (.ctl ((a >>> 52) % 256) (a % 2 ^ 52)) else .error .addrBound)
  else if sp = 3 then
    (if hostFnOf a > 512 then .error .addrBound else .ok (.host (hostPortOf a) (hostFnOf a) (a % 2 ^ 49)))
  else if sp = 4 then .ok (.peer ((a >>> 44) % 65536) ((a >>> 38) % 64) (a % 2 ^ 38))
  else .error .addrSpace

/-- R27: the address of a place in a scratchpad and in a stack. -/
def spdAddr (c off : Nat) : Nat := fld 60 1 + fld 52 (c / 8) + fld 49 (c % 8) + off
def hbmAddr (k off : Nat) : Nat := fld 54 k + off

/-- R41: the unit that a place belongs to: the Delta destination of its bytes (a peer's is its egress engine). -/
def PAddr.unit : PAddr → Nat
  | .hbm k _ => 192 + k | .spd c _ => c / 8 | .ctl u _ => u | .host p _ _ => 0x142 + p | .peer _ _ _ => 0x100

/-- R433: `n` bytes at the place lie within its memory. -/
def PAddr.inside (n : Nat) : PAddr → Bool
  | .hbm _ o => decide (o + n ≤ hbmDataSize)
  | .spd _ o => decide (o + n ≤ spdSize)
  | .host _ _ a => decide (a + n ≤ 2 ^ 49)
  | .peer _ _ o => decide (o + n ≤ 2 ^ 38)
  | .ctl _ _ => false

/-! Plots -/

/-- 14 R416: plot `n` is sealed: it or its copy is a MIRROR plot of a sealed parity. -/
def State.isSealed (s : State) (n : Nat) : Bool :=
  match s.cnf.record, Tbl.get? s.ten.plots n with
  | some r, some p =>
    p.tenant == r.tenant && p.perm.getLsbD 6 &&
      (match s.cnf.me s.gaz.eui with
       | some me => r.manifest.any fun m => s.cnf.sealedParity.contains m.parity &&
           ((m.owner == me && m.slot == p.slot)
             || (m.mslot == p.slot && ((r.entries[m.owner]?).map (·.buddy)) == some (r.identityOf me)))
       | none => false)
  | _, _ => false

/-- 09 R290, 15 R431: the tenant that a cluster's router port stamps. -/
def State.clTenant (s : State) (c : Nat) : Nat := ((s.delta.router (c / 8)).port (4 + c % 8)).tenant

/-- R434, R435: the REASON of an extent that cluster `c` may not touch, none where the check passes; its own scratchpad is a plot
of its own. A sealed plot sets CNF_STAT.SEALW (14 R416). -/
def State.plotFail (s : State) (c : Nat) (wr : Bool) (a n : Nat) : Option Nat :=
  match decodeAddr a with
  | .ok (.spd d o) => if d = c then (if o + n ≤ spdSize then none else some 2)
      else s.ten.plotCheck s.isSealed (s.clTenant c) .cluster wr a n
  | _ => s.ten.plotCheck s.isSealed (s.clTenant c) .cluster wr a n

/-- R453: a plot refusal recorded at a cluster: the first since VALID was cleared. `source` is 0 for a move, 1 for a gather. -/
def ClChn.recordPlot (x : ClChn) (reason source a n : Nat) : ClChn :=
  if x.pltFault.getLsbD 63 then x
  else { x with pltFault := BitVec.ofNat 64 (2 ^ 63 + fld 48 reason + fld 40 source + n % 2 ^ 32), pltAddr := BitVec.ofNat 64 a }

/-- R416: a write refused by a sealed plot. -/
def State.noteSeal (s : State) (reason : Nat) : State := if reason = 4 then s.modCnf fun x => { x with sealw := true } else s

def State.plotRefused (s : State) (c reason source a n : Nat) : State :=
  (s.modCl c fun k => { k with chn := k.chn.recordPlot reason source a n }).noteSeal reason

/-! Paths (R46, R47) -/

/-- 09 R249: the site at the far side of a mesh or transit port. -/
def acrossPort (site port : Nat) : Option Nat :=
  ((siteEdges site).find? fun e => e.1 == (if port < 4 then port else port - 16)).map fun e => e.2.1

/-- R46, R47: the crossings that table set `t` takes from a site to a unit, at most 34, and the site at which the path leaves the mesh by the
port that joins the unit; none where it gives no such path. A transit port crosses one edge. `ok` says which ports may be taken. -/
def walkOf (ok : Nat → Nat → Bool) (t : RouteTables) (site unit : Nat) : Nat → Option (Nat × Nat)
  | 0 => none
  | fuel + 1 =>
    if unit = site then some (0, site)
    else
      let e := t.uniAt site unit
      let p := bits e 4 0
      if !e.getLsbD 15 || !ok site p then none
      else if meshPort p then
        match acrossPort site p with
        | some s1 => (walkOf ok t s1 unit fuel).map fun (h, x) => (h + 1, x)
        | none => none
      else if localPort site unit = some p then some (0, site) else none

/-- R46: the hops of a path in a table set. -/
def hopsOf (t : RouteTables) (site unit : Nat) (fuel : Nat) : Option Nat := (walkOf (fun _ _ => true) t site unit fuel).map (·.1)

/-- R46, R48: the hops of a path in the path tables of the Gazetteer's own generation, from a site in service to a site or stack in service. -/
def Gaz.pathHops (g : Gaz) (site unit : Nat) : Option Nat :=
  let up := if unit < 192 then g.siteIn unit else (g.stack (unit - 192)).status == 0
  if up && g.siteIn site then hopsOf g.paths site unit 35 else none

/-- R46, R47: the path in the edition stamped now from a site in service to a site or stack in service: its hops and where it leaves the mesh. -/
def State.path (s : State) (site unit : Nat) : Option (Nat × Nat) :=
  let up := if unit < 192 then s.gaz.siteIn unit else (s.gaz.stack (unit - 192)).status == 0
  if up && s.gaz.siteIn site then walkOf (fun _ _ => true) (s.delta.tabs (s.delta.router site).cur) site unit 35 else none

def State.hops (s : State) (site unit : Nat) : Option Nat := (s.path site unit).map (·.1)

/-- R24: the entry site of a stack for a site, by the edition stamped now; with no path, the first of its home quad in service. -/
def State.entrySite (s : State) (site k : Nat) : Nat :=
  match s.path site (192 + k) with
  | some (_, x) => x
  | none => ((homeSites k).find? s.gaz.siteIn).getD ((homeSites k).headD 0)

/-- R47: the class of a hop count: its most hops are 0, 2, 6, 12, 20 and 34. -/
def hopClass (h : Nat) : Nat := if h = 0 then 0 else if h ≤ 2 then 1 else if h ≤ 6 then 2 else if h ≤ 12 then 3 else if h ≤ 20 then 4 else 5

/-! Bytes at a panel address -/

/-- 09 R253: the SRC of a cluster: its unit, and its number there. -/
def clSrc (c : Nat) : Nat := c % 8 * 512 + c / 8

/-- 11 R327, R330: an access that comes by no packet waits: its bucket is in debt, or its tenant's requests wait in their queue. -/
def Stack.accessHeld (s : Stack) (src t : Nat) : Bool :=
  (shapedSrc src && (!(s.shaper t).admits || s.waiting.any fun h => h.at_ == .tenant && h.p.tenant == t)) || !s.aggAdmits

/-- R242, 11 R327, R330: an access by `src` for a tenant waits: a scratchpad that is being zeroized holds every request, a stack those that its
shapers do not pass now. -/
def State.memHolds (s : State) (src tenant : Nat) : PAddr → Bool
  | .spd c _ => (s.cl c).spd.zRun
  | .hbm k _ => (s.stk k).accessHeld src tenant
  | _ => false

/-- The same of an address. -/
def State.memHoldsAt (s : State) (src tenant a : Nat) : Bool := match decodeAddr a with | .ok p => s.memHolds src tenant p | .error _ => false

/-- R226, R317, R330: `n` bytes read by `src` for a transfer of a tenant: an HBM place under the tenant's key, charged to its shapers, a scratchpad
on port 1. Host memory
and peer plots are outside the panel; their bytes come with the command. -/
def State.readAt (s : State) (src tenant : Nat) (fw : Bool) (data : List Byte) (n : Nat) : PAddr → List PByte × State
  | .hbm k o => let (bs, x) := (s.stk k).readBytes k fw tenant o n []; (bs, s.modStkNote k fun _ => x.chargeAccess src tenant n)
  | .spd c o => let r := (s.cl c).spd.read 1 o n; (r.bytes, s.modCl c fun k => { k with spd := r.spd })
  | _ => (((data ++ List.replicate n 0).take n).map fun b => (b, false), s)

/-- 16 R457: the same, where host data that arrives poisoned marks every byte. -/
def State.readHost (s : State) (src tenant : Nat) (fw : Bool) (data : List Byte) (poison : Bool) (n : Nat) (p : PAddr) : List PByte × State :=
  let (bs, s1) := s.readAt src tenant fw data n p
  (match p with | .host _ _ _ => bs.map fun b => (b.1, b.2 || poison) | _ => bs, s1)

/-- R225, R317, R330: bytes written by `src` for a transfer of a tenant: a stack under the tenant's key, charged to its shapers, a scratchpad on port 0; host memory and peer plots by a message. -/
def State.writeAt (s : State) (src tenant : Nat) (fw : Bool) (bs : List PByte) : PAddr → State
  | .hbm k o => (s.modStkNote k fun x => (x.writeBytes k fw tenant o bs []).chargeAccess src tenant (cdiv bs.length 64 * 64)).mirrorWrite k tenant o bs.length
  | .spd c o => s.modCl c fun k => { k with spd := (k.spd.writeP 0 o bs).2 }
  | .host p fn a => s.emit (.hostWrite p fn a (bs.map (·.1)) (poisonedAt bs))
  | .peer q slot o => s.emit (.peerWrite q slot o tenant (bs.map (·.1)) (poisonedAt bs))
  | .ctl _ _ => s

end Sys2Proof.Machine
end

