-- ==== Sys2Proof/Machine/Moves.lean ====
section
/-!
DEFINITION. Moves, gathers and Weir allocation: the checks, the copies and the table latency (spec 05 R153, R154, 06 R169 to R176, 07
R214, R215, 08 R231 to R234).
-/
namespace Sys2Proof.Machine

/-- R169: the fields of a move slot. -/
structure MvWord where
  mvop : Nat
  gd : Nat
  lcls : Nat
  cut : Nat
  low : Nat
  deriving DecidableEq, Repr

def decMove (w : BitVec 24) : MvWord := ⟨bits w 23 20, bits w 19 15, bits w 14 10, bits w 9 7, bits w 6 0⟩
def encMove (mvop : Nat) (gd : Reg) (lcls cut : Nat) : BitVec 24 :=
  BitVec.ofNat 24 (fld 20 mvop + fld 15 gd.toNat + fld 10 lcls + fld 7 cut)

/-- R159, R171, R173: the lowest ILLEGAL_BUNDLE sub-code of a move slot. -/
def moveIllegal (w : BitVec 24) : Option Nat :=
  let o := decMove w
  if o.mvop ≥ 5 then some 5
  else if o.mvop = 0 then (if w = 0 then none else some 6)
  else if o.low ≠ 0 ∨ (o.mvop ≠ 4 ∧ o.cut ≠ 0) then some 6
  else if o.cut ≥ 5 then some 7
  else if o.lcls = 31 ∨ (o.lcls < 24 ∧ o.lcls / 6 + 1 = o.mvop) then none
  else some 8

/-- R170: a move descriptor. -/
structure MvDesc where
  src : Nat
  dst : Nat
  length : Nat
  handle : Nat
  count : Nat
  land : Bool
  deriving DecidableEq, Repr

def decDesc (bs : List Byte) : MvDesc :=
  ⟨le bs 0 8, le bs 8 8, le bs 16 4, le bs 20 4, le bs 24 2, le bs 26 1 % 2 == 1⟩

/-- R173: the table latency in core cycles at a schedule floor in MHz. -/
def tableLatency (floor lcls length : Nat) : Nat :=
  let h := [0, 2, 6, 12, 20, 34].getD (lcls % 6) 0
  let row := [(32, 0, 480), (24, 0, 200), (20, 16, 24), (28, 16, 24)].getD (lcls / 6) (0, 0, 0)
  row.1 + cdiv (row.2.1 * 1800) floor + cdiv (18 * (10 * row.2.2 + 1094 * h)) 100 + cdiv (length * 9) 160

/-- The descriptor's place, and whether R214's check 1 passes. -/
def descOff (q : Sqr) (o : MvWord) : Nat := (q.gpr o.gd).toNat % 2 ^ 25
def descOk (off : Nat) : Bool := decide (off % 32 = 0 ∧ off + 32 ≤ spdSize)

/-- R233: the own-scratchpad extents of a move: the bytes it reads there and those it writes there. `far` is where a DSEND or SSEND writes. -/
def moveExtents (c mvop : Nat) (far : Nat) (d : MvDesc) : List Extent :=
  let ext (a : Nat) (wr : Bool) : List Extent := match decodeAddr a with
    | .ok (.spd x o) => if x = c ∧ d.length ≠ 0 ∧ o + d.length ≤ spdSize then [⟨o, d.length, wr⟩] else []
    | _ => []
  if mvop = 1 then ext d.dst true else if mvop = 2 then ext d.src false else ext d.src false ++ ext far true

/-- R214: what the check of a move answers: a refusal (with the plot refusal of R453, if it is one), a move of length 0, or a
move that may start. -/
inductive MvVerdict where
  | refuse (k : Cause) (sub : Nat) (plot : Option (Nat × Nat × Nat))
  | empty
  | go
  deriving DecidableEq, Repr

/-- The space of an address. -/
def spaceOf (a : Nat) : Nat := (a >>> 60) % 16

def spaceAllowed (mvop : Nat) (src : Bool) (sp : Nat) : Bool :=
  if mvop = 1 then (if src then sp == 0 || sp == 3 || sp == 4 else sp == 1)
  else if mvop = 2 then (if src then sp == 1 else sp == 0 || sp == 3 || sp == 4)
  else sp == 1

/-- 09 R290: the packet mode of a cluster's port is Stream. -/
def State.streams (s : State) (c mvop : Nat) : Bool := decide (3 ≤ mvop) && !((s.delta.router (c / 8)).port (4 + c % 8)).mode

/-- 15 R439: where a DSEND or SSEND writes: its destination, or the place in its channel's window. -/
def State.sendPlace (s : State) (c mvop : Nat) (handle dst : Nat) : Nat :=
  if s.streams c mvop then (s.ten.chan (handleIndex handle)).win + dst else dst

/-- R214, R215: the checks of a descriptor read by the move engine of cluster `c`, in order, up to the one that reads a group header. -/
def State.checkExtents (s : State) (c : Nat) (o : MvWord) (d : MvDesc) : Option MvVerdict :=
  let stream := s.streams c o.mvop
  let own (a : Nat) : Bool := match decodeAddr a with | .ok (.spd x _) => x == c | _ => false
  let bad (a : Nat) : Bool := match decodeAddr a with | .ok _ => false | .error _ => true
  let ch := s.ten.chan (handleIndex d.handle)
  let far := if o.mvop = 1 then d.src else if stream then ch.win + d.dst else d.dst
  let srcFail := s.plotFail c false d.src d.length
  let dstFail := if stream then none else s.plotFail c true d.dst d.length
  if !spaceAllowed o.mvop true (spaceOf d.src) || (!stream && !spaceAllowed o.mvop false (spaceOf d.dst)) then some (.refuse .addrSpace 0 none)
  else if bad d.src || (o.mvop ≠ 1 && !own d.src) || (!stream && (bad d.dst || (o.mvop = 1 && !own d.dst))) then some (.refuse .addrBound 0 none)
  else if stream && !s.ten.current d.handle then some (.refuse .handleStale 0 none)
  else if d.length = 0 then some .empty
  else match srcFail, dstFail with
  | some r, _ => some (.refuse .lengthBound 0 (some (r, d.src, d.length)))
  | none, some r => some (.refuse .lengthBound 0 (some (r, d.dst, d.length)))
  | none, none =>
    if stream && decide (d.dst + d.length > ch.winLen) then some (.refuse .lengthBound 0 none)
    else if decide (3 ≤ o.mvop) && own far && overlaps d.src d.length far d.length then some (.refuse .addrBound 0 none)
    else if o.mvop = 4 && o.cut ≠ 0 && decide (d.length < 8) then some (.refuse .lengthBound 0 none)
    else none

/-- R214: all the checks of a descriptor, in order. -/
def State.checkMove (s : State) (c : Nat) (o : MvWord) (d : MvDesc) : MvVerdict :=
  match s.checkExtents c o d with
  | some v => v
  | none =>
    let far := if o.mvop = 1 then d.src else s.sendPlace c o.mvop d.handle d.dst
    if o.mvop = 4 && o.cut ≠ 0 && (decGroup ((s.cl c).spd.peek (d.src % 2 ^ 25) 8)).cut ≠ cutOf o.cut then .refuse .anchorMismatch 0 none
    else if o.mvop = 4 && d.length ≠ areaBytes (cutOf o.cut) d.count then .refuse .lengthBound 0 none
    else if o.lcls = 31 then .go
    else
      match decodeAddr far with
      | .ok p =>
        let fits : Bool := match p with | .hbm _ _ => o.mvop ≤ 2 | .spd _ _ => decide (3 ≤ o.mvop) | _ => false
        match fits, s.hops (c / 8) p.unit with
        | true, some h => if hopClass h ≤ o.lcls % 6 then .go else .refuse .schedOverrun 4 none
        | _, _ => .refuse .schedOverrun 4 none
      | .error _ => .refuse .schedOverrun 4 none

/-- R231: the range that an untimed move of memory asks for in its own scratchpad. -/
def moveRange (mvop lcls tag : Nat) (d : MvDesc) : Option WeirEntry :=
  if lcls ≠ 31 ∨ mvop ≥ 3 then none
  else some ⟨(if mvop = 1 then d.dst else d.src) % 2 ^ 25, d.length, mvop == 2, 1, tag⟩

/-- R169, R170, R174, R214: a legal move slot issues at cluster `c`: the descriptor read once, and the group header of an SSEND that comes to its
check (08 R224), and the move refused, complete at once, or outstanding. `q` is the sequencer before the bundle wrote. -/
def State.issueMove (s : State) (c : Nat) (q : Sqr) (w : BitVec 24) : State :=
  let o := decMove w
  let off := descOff q o
  if o.mvop = 0 then s
  else if off % 32 ≠ 0 then s.modCl c fun k => k.pendCause .addrAlign 0
  else if !descOk off then s.modCl c fun k => k.pendCause .addrBound 0
  else
    let r := (s.cl c).spd.read 1 off 32
    let d := decDesc (r.bytes.map (·.1))
    let head : Bool := o.mvop == 4 && o.cut != 0 && (s.checkExtents c o d).isNone
    let s1 := s.modCl c fun k => { k with spd := if head then (r.spd.read 1 (d.src % 2 ^ 25) 8).spd else r.spd }
    match s.checkMove c o d with
    | .empty => s1
    | .refuse k sub plot =>
      let s2 := match plot with | some (why, a, n) => s1.plotRefused c why 0 a n | none => s1
      let s3 := if k = .handleStale then s2.modTen Tenancy.countStale else s2
      s3.modCl c fun x => if k = .schedOverrun then x.overrun sub o.lcls q.pc else x.pendCause k sub
    | .go =>
      s1.modCl c fun k =>
        let t := k.sq.nextTag
        let m : Move := {
          tag := t, mvop := o.mvop, lcls := o.lcls, cut := cutOf o.cut, src := BitVec.ofNat 64 d.src, dst := BitVec.ofNat 64 d.dst,
          length := d.length, handle := d.handle, count := d.count, par := s.ten.verCur, land := d.land && decide (3 ≤ o.mvop), pc := q.pc,
          timer := if o.lcls = 31 then none else some (tableLatency (s.obj 0x2201 0) o.lcls d.length) }
        { k with sq := { k.sq with moves := k.sq.moves ++ [m], nextTag := t + 1 },
                 spd := match moveRange o.mvop o.lcls t d with | some e => k.spd.request e | none => k.spd }

/-- R174: a bundle with a seventeenth move is held. -/
def moveHeld (q : Sqr) : Bool := decide (q.moves.length ≥ 16)

/-- R233: the extents of a move slot before it issues. -/
def State.moveSlotExtents (s : State) (c : Nat) (w : BitVec 24) : List Extent :=
  let k := s.cl c
  let o := decMove w
  let off := descOff k.sq o
  let d := decDesc (k.spd.peek off 32)
  if o.mvop = 0 ∨ !descOk off then [] else moveExtents c o.mvop (s.sendPlace c o.mvop d.handle d.dst) d

/-- R169: a move-slot word issued alone by cluster `c`; a zeroization holds the read of its descriptor (08 R242). -/
def moveRow (c : ClusterId) (w : BitVec 24) (s : State) : State :=
  let k := s.cl c
  match moveIllegal w with
  | some sub => s.enterTrap c .illegalBundle sub
  | none =>
    if moveHeld k.sq || k.gHeld [(decMove w).gd] || k.spd.zRun then s
    else if k.spd.weirStalls (s.moveSlotExtents c w) then s.modCl c fun k => { k with spd := k.spd.noteStall }
    else s.issueMove c k.sq w

/-! Weir ranges -/

/-- R227, R232: the bytes that an entry of a store buffer writes, which lie together. -/
def SbEntry.extent (e : SbEntry) : Extent :=
  let on := (List.range 8).filter e.be.getLsbD
  ⟨e.addr + on.headD 0, on.length, true⟩

/-- R232: the accesses that local operations of a cluster have still to make, a suspended vector operation's among them. -/
def State.busy (s : State) (c : Nat) : List Extent :=
  let k := s.cl c
  (k.mx.ops.flatMap fun r => r.op.extents)
    ++ (match k.vx.run with | some r => vecExtents r.word r.lsd r.rdesc r.gval | none => [])
    ++ k.suspendedExtents
    ++ (k.sq.moves.flatMap fun m => if m.lcls = 31 ∧ m.mvop ≤ 2 then [] else
          moveExtents c m.mvop (s.sendPlace c m.mvop m.handle m.dst.toNat) ⟨m.src.toNat, m.dst.toNat, m.length, m.handle, m.count, m.land⟩)
    ++ k.sq.sb.map SbEntry.extent
    ++ k.sx.thr.flatMap fun (_, h) => h.sb.map SbEntry.extent

/-- R231: the transfer still waits for a range. -/
def Spd.waits (s : Spd) (owner x : Nat) : Bool := s.weirWait.any fun w => w.owner == owner && w.xfer == x

/-- The waiting requests that are granted now, in order of arrival, with their entries. -/
def Spd.grantAll (s : Spd) (busy : List Extent) : List WeirEntry → Spd × List (WeirEntry × Nat)
  | [] => (s, [])
  | w :: t =>
    if s.canGrant busy w then
      let n := (Tbl.lowestFree s.weir 0 16).getD 0
      let (s2, gs) := Spd.grantAll ({ s.grant w with weirWait := s.weirWait.erase w }) busy t
      (s2, (w, n) :: gs)
    else Spd.grantAll s busy t

/-- A Weir request that came by Delta carries its initiator and REQID above this number. -/
def remoteXfer : Nat := 2 ^ 48

/-- R231: the OUT range that a unit asked for by Delta is released when the last byte of its extent has been read. -/
def Spd.releaseRead (x : Spd) (unit off n : Nat) : Spd :=
  { x with weir := x.weir.eraseP fun (_, w) =>
      decide (w.xfer ≥ remoteXfer) && (w.xfer - remoteXfer) / 32 % 512 == unit && w.out && decide (w.base = off ∧ w.len = n) }

/-- R231: a write of `n` bytes that holds its range within one command, at a place, must wait: the range cannot be granted now. -/
def State.rangeWaits (s : State) (n : Nat) : PAddr → Bool
  | .spd c o => n != 0 && !(s.cl c).spd.canGrant (s.busy c) ⟨o, n, false, 3, 0⟩
  | _ => false

/-- R232, 09 R280: the requests of a cluster that can be granted are granted, and a WEIR_GRANT answers those that came by Delta. -/
def State.allocate (s : State) (c : Nat) : State :=
  let k := s.cl c
  let (spd, gs) := k.spd.grantAll (s.busy c) k.spd.weirWait
  let s1 := s.modCl c fun k => { k with spd := spd }
  gs.foldl (fun s (w, n) =>
    if w.xfer < remoteXfer then s
    else s.sendCtl (c / 8) (weirGrantPacket ((w.xfer - remoteXfer) / 32) (c % 8 * 512 + c / 8) ((w.xfer - remoteXfer) % 32) n)) s1

/-! Completion of moves -/

/-- R176: a landing counted at a cluster. -/
def State.landAt (s : State) (c : Nat) : State := s.modCl c fun k => k.landed (s.dieCount (c / 8))

/-- The place a move writes: its destination, or for Stream mode the place in the channel's window, unless the arrival there is
refused (R439, R446), with the NAK's code. -/
def State.moveTarget (s : State) (m : Move) (stream : Bool) : Except Nat PAddr :=
  if !stream then (match decodeAddr m.dst.toNat with | .ok p => .ok p | .error _ => .error 1)
  else
    let ch := s.ten.chan (handleIndex m.handle)
    if !s.ten.current m.handle then .error 5
    else if m.dst.toNat + m.length > ch.winLen then .error 1
    else match decodeAddr (ch.win + m.dst.toNat) with | .ok p => .ok p | .error _ => .error 1

/-- The move leaves the outstanding ones, its range released. -/
def Cluster.endMove (k : Cluster) (tag : Nat) : Cluster :=
  { k with sq := { k.sq with moves := k.sq.moves.filter fun m => m.tag != tag }, spd := k.spd.release 1 tag }

/-- R174: a move completes; a port whose configuration waited for its last move takes it. -/
def State.endMove (s : State) (c tag : Nat) : State := (s.modCl c fun k => k.endMove tag).portSettle c

/-- A NAK recorded against a move (09 R257): it never completes. -/
def Cluster.nakMove (k : Cluster) (tag code : Nat) : Cluster :=
  { k with sq := { k.sq with moves := k.sq.moves.map fun m => if m.tag = tag ∧ m.nak.isNone then { m with nak := some code } else m } }

/-- R174, 09 R266: the ACK, or the returned data, covers a move's last packet; an entry evicted has nothing outstanding. -/
def State.moveAcked (s : State) (c : Nat) (m : Move) : Bool :=
  match m.ackAt with
  | some (u, x) => match s.winOf (c % 8 * 512 + c / 8) u with
    | some w => decide ((w.ackd + 2 ^ 32 - x) % 2 ^ 32 < 2 ^ 31)
    | none => true
  | none => true

/-- R174, 12 R355: the edition gives no path to the far end of a move, a scratchpad, a stack or a peer panel. -/
def State.noPath (s : State) (c : Nat) (p : PAddr) : Bool :=
  match p with
  | .hbm _ _ => (s.hops (c / 8) p.unit).isNone
  | .spd _ _ => (s.hops (c / 8) p.unit).isNone
  | .peer panel _ _ => (s.larre.route s.larre.cur panel).isNone
  | _ => false

/-- 12 R354: a copy to a peer panel from a port in Stream mode, which its router drops. -/
def State.peerBarred (s : State) (c : Nat) (m : Move) (p : PAddr) : Bool :=
  match p with
  | .peer _ _ _ => m.mvop == 2 && !((s.delta.router (c / 8)).port (4 + c % 8)).mode
  | _ => false

/-- 09 R256: the packets of a move at its cluster's port. -/
def State.movePackets (s : State) (c : Nat) (m : Move) : Nat :=
  let d := (s.delta.router (c / 8)).port (4 + c % 8)
  cdiv m.length (d.effMax (if s.streams c m.mvop then 0 else 1))

/-- 09 R287, R289: the NAKs of a move's packets counted at its site's router. -/
def State.countNaks (s : State) (c : Nat) (m : Move) : State :=
  s.modDelta fun d => d.modRouter (c / 8) fun r => { r with nakr := true }.bump 3 (s.movePackets c m)

/-- R174, R231: a move completes: its bytes written and readable, its landing counted, its range released. A move whose packets
went one by one has its bytes in place already, once they are acknowledged. A scratchpad that is being zeroized holds it (R242), and so do the shapers of its stack (11 R330). The packets
of one whose far end has no path are dropped with NAK_ROUTE, those of 12 R354 with NAK_MODE, and it never completes; drops and NAKs are
counted (09 R289). -/
def State.completeMove (s : State) (c tag : Nat) (data : List Byte) (poison : Bool) : State :=
  let k := s.cl c
  match k.sq.moves.find? fun m => m.tag == tag with
  | none => s
  | some m =>
    if m.nak.isSome || k.spd.waits 1 tag then s
    else if m.sent then (if s.moveAcked c m then s.endMove c tag else s)
    else if m.sentBytes ≠ 0 then s
    else
      let t := s.clTenant c
      match decodeAddr m.src.toNat, s.moveTarget m (s.streams c m.mvop) with
      | .ok src, .ok dst =>
        if s.peerBarred c m dst then
          ((s.countNaks c m).modDelta fun d => d.modRouter (c / 8) fun r => { r.bump 1 (s.movePackets c m) with idrop := true }).modCl c (·.nakMove tag 3)
            |>.raise .nakMode (c / 8) 0 0
        else if s.noPath c (if m.mvop = 1 then src else dst) then
          ((s.countNaks c m).modDelta fun d => d.modRouter (c / 8) fun r => { r.bump 2 (s.movePackets c m) with rdrop := true }).modCl c (·.nakMove tag 2)
            |>.raise .nakRoute (c / 8) 0 0
        else if s.memHolds (clSrc c) t src || s.memHolds (clSrc c) t dst then s
        else
        let (bs, s1) := s.readHost (clSrc c) t false data poison m.length src
        let s2 := s1.writeAt (clSrc c) t false bs dst
        let s3 := match m.land, dst with | true, .spd d _ => s2.landAt d | _, _ => s2
        s3.endMove c tag
      | _, .error code => ((if code = 5 then s.modTen Tenancy.countStale else s).countNaks c m).modCl c fun k => k.nakMove tag code
      | _, _ => s

/-! Gathers -/

/-- R153: a gather descriptor. -/
structure GDesc where
  table : Nat
  dest : Nat
  rows : Nat
  rowBytes : Nat
  idx : Nat
  wide : Bool
  count : Nat
  deriving DecidableEq, Repr

def decGather (bs : List Byte) : GDesc :=
  let i := le bs 24 4
  ⟨le bs 0 8, le bs 8 8, le bs 16 4, le bs 20 4, i % 2 ^ 25, i.testBit 31, le bs 28 2⟩

def GDesc.idxBytes (g : GDesc) : Nat := g.count * (if g.wide then 8 else 4)

/-- R153, R154: why a gather is refused: an extent outside the plots, a space a gather does not reach, or a row size out of
range (log entry 29); with what PLT_FAULT records, where a plot refused it. -/
def State.gatherFail (s : State) (c : Nat) (g : GDesc) : Option (Option (Nat × Nat × Nat)) :=
  let t := g.rows * g.rowBytes
  let d := g.count * g.rowBytes
  if !([0, 1, 4].contains (spaceOf g.table) && [0, 1].contains (spaceOf g.dest)) then some none
  else if g.rowBytes < 8 ∨ g.rowBytes > 65536 ∨ g.rowBytes % 8 ≠ 0 ∨ g.idx + g.idxBytes > spdSize then some none
  else match s.plotFail c false g.table t with
    | some r => some (some (r, g.table, t))
    | none => match s.plotFail c true g.dest d with
      | some r => some (some (r, g.dest, d))
      | none => none

/-- The number of a gather's ranges. -/
def gatherXfer (site ticket : Nat) : Nat := site * 2 ^ 32 + ticket

/-- R231: the ranges of a gather: destination, and its descriptor, index list and table where they lie in a scratchpad. -/
def gatherRanges (c ticket off : Nat) (g : GDesc) : List (Nat × WeirEntry) :=
  let x := gatherXfer (c / 8) ticket
  (match decodeAddr g.dest with | .ok (.spd d o) => [(d, ⟨o, g.count * g.rowBytes, false, 4, x⟩)] | _ => [])
    ++ [(c, ⟨off, 32, true, 4, x⟩), (c, ⟨g.idx, g.idxBytes, true, 4, x⟩)]
    ++ (match decodeAddr g.table with | .ok (.spd d o) => [(d, ⟨o, g.rows * g.rowBytes, true, 4, x⟩)] | _ => [])

/-- R158: a fault of a thread with its event. -/
def State.threadFault (s : State) (site t code : Nat) : State :=
  (s.modCl (sxNum site) fun k => k.sxFault t code (k.thread t).pc).raise .sxFault site 7 0
where
  /-- The SX cluster of a site (01 R22). -/
  sxNum (site : Nat) : Nat := site * 8 + 7

/-- What a GATHER does at issue: faults, holds its thread, or goes on. -/
inductive GGate where
  | fault
  | held
  | go
  deriving DecidableEq, Repr

/-- R153, R154: GATHER issued by thread `t`: the descriptor read, the extents checked, the ranges asked for, the ticket returned.
The program counter is left to the caller. -/
def State.gather (s : State) (site t : Nat) (rd rs1 : Nat) : State × GGate :=
  let c := site * 8 + 7
  let k := s.cl c
  let off := ((k.thread t).reg rs1).toNat
  if off + 32 > spdSize then (s.threadFault site t 2, .fault)
  else if (k.sx.gathers.filter fun g => g.thread == t).length ≥ 8 then (s, .held)
  else
    let r := k.spd.read 1 off 32
    let g := decGather (r.bytes.map (·.1))
    let s1 := s.modCl c fun k => { k with spd := r.spd }
    let n := k.sx.nextTicket
    let give (s : State) : State := s.modCl c fun k => ({ k with sx := { k.sx with nextTicket := n + 1 } }).modThread t fun h => h.setX rd (BitVec.ofNat 64 n)
    if g.count = 0 then (give s1, .go)
    else match s.gatherFail c g with
      | some plot =>
        let s2 := match plot with | some (why, a, len) => s1.plotRefused c why 1 a len | none => s1
        (s2.threadFault site t 4, .fault)
      | none =>
        let s2 := (gatherRanges c n off g).foldl (fun s (d, w) => s.modCl d fun k => { k with spd := k.spd.request w }) s1
        let s3 := s2.modCl c fun k => { k with sx := { k.sx with gathers := k.sx.gathers ++
          [{
             ticket := n, thread := t, table := BitVec.ofNat 64 g.table, dest := BitVec.ofNat 64 g.dest, rows := g.rows, rowBytes := g.rowBytes,
             idx := g.idx, wide := g.wide, count := g.count, pc := (k.thread t).pc, par := s.ten.verCur }] } }
        (give s3, .go)

/-- R154: one row of a gather copied; an index at or above `rows` writes zeros and is recorded. -/
def State.gatherRow (s : State) (c : Nat) (g : Gather) (data : List Byte) (i : Nat) : State :=
  let w := if g.wide then 8 else 4
  let r := (s.cl c).spd.read 1 (g.idx + i * w) w
  let s1 := s.modCl c fun k => { k with spd := r.spd }
  let put (s : State) (bs : List PByte) : State :=
    match decodeAddr (g.dest.toNat + i * g.rowBytes) with
    | .ok p => s.writeAt (clSrc c) (s.clTenant c) false bs p
    | .error _ => s
  if r.nat ≥ g.rows then
    let note (k : Cluster) : Cluster :=
      let f := if k.sx.fault.getLsbD 63 then k.sx.fault else BitVec.ofNat 64 (2 ^ 63 + fld 56 g.thread + fld 48 5 + g.pc % 2 ^ 25)
      { k with sx := { k.sx with gidx := true, fault := f } }
    (put (s1.modCl c note) (List.replicate g.rowBytes (0, false))).raise .gatherIndex (c / 8) 7 0
  else
    match decodeAddr (g.table.toNat + r.nat * g.rowBytes) with
    | .ok p =>
      let (bs, s2) := s1.readAt (clSrc c) (s.clTenant c) false (data.drop (i * g.rowBytes)) g.rowBytes p
      put s2 bs
    | .error _ => s1

/-- R153: a gather completes once all its ranges are held, and no scratchpad under zeroization or shaper holds it (08 R242, 11 R330): its rows copied, its ranges released. -/
def State.completeGather (s : State) (site ticket : Nat) (data : List Byte) : State :=
  let c := site * 8 + 7
  match (s.cl c).sx.gathers.find? fun g => g.ticket == ticket with
  | none => s
  | some g =>
    let x := gatherXfer site ticket
    let places := c :: ([g.dest, g.table].filterMap fun a => match decodeAddr a.toNat with | .ok (.spd d _) => some d | _ => none)
    let t := s.clTenant c
    if (places.any fun d => (s.cl d).spd.waits 4 x) || s.memHoldsAt (clSrc c) t g.dest.toNat || s.memHoldsAt (clSrc c) t g.table.toNat
      || (s.cl c).spd.zRun then s
    else
      let s1 := (List.range g.count).foldl (fun s i => s.gatherRow c g data i) s
      let s2 := places.foldl (fun s d => s.modCl d fun k => { k with spd := k.spd.release 4 x }) s1
      s2.modCl c fun k => { k with sx := { k.sx with gathers := k.sx.gathers.filter fun g => g.ticket != ticket } }

end Sys2Proof.Machine
end

