-- ==== Sys2Proof/Machine/Network.lean ====
section
/-!
DEFINITION. What units do with packets: windows, acceptance and acknowledgement, multicast acknowledgements, telemetry, and requests at a
stack (spec 09 R252 to R282, 11 R317 to R332).
-/
namespace Sys2Proof.Machine

/-! Acknowledgements (R266, R267) -/

/-- R266, R268, R270: an ACK reaches its source; a stale one changes nothing. -/
def State.ackWindow (s : State) (src unit : Nat) (mark : Bool) (rcvd : Nat) : State :=
  let now := s.dieCount (src % 512)
  let t := (s.winRouter src).timeout * 1000
  s.modWinOf src unit fun w =>
    if w.stale rcvd then w
    else
      let w1 := ((w.recovered now).advance rcvd).rearm now t
      if mark then w1.mark now else w1

/-- R266: the bytes of a READ are acknowledged as its data is written. -/
def State.ackRead (s : State) (src unit n : Nat) : State :=
  let now := s.dieCount (src % 512)
  let t := (s.winRouter src).timeout * 1000
  s.modWinOf src unit fun w => (w.ackRead n).rearm now t

/-! Acceptance (R266) -/

def rcvdKey (unit src : Nat) : Nat := unit * 4096 + src

/-- R266: an ACK sent by a unit to a source. -/
def State.sendAck (s : State) (unit src : Nat) : State :=
  let r := Tbl.get {} s.delta.rcvd (rcvdKey unit src)
  (s.sendCtl (s.siteOfUnit unit) (ackPacket src unit r.mark r.bytes)).modDelta fun d => { d with rcvd := Tbl.set d.rcvd (rcvdKey unit src) r.acked }

/-- R266: bytes of a packet accepted at its destination unit, and the ACK that is due. -/
def State.accepted (s : State) (unit : Nat) (p : Packet) : State :=
  let (r, due) := (Tbl.get {} s.delta.rcvd (rcvdKey unit p.src)).accept (s.dieCount unit) p.len p.ackreq p.e
  let s1 := s.modDelta fun d => { d with rcvd := Tbl.set d.rcvd (rcvdKey unit p.src) r }
  if due then s1.sendAck unit p.src else s1

/-! Multicast (R271, R272) -/

/-- R283: the leaves of a group's tree: the clusters and Lockkeepers in the sets of its packet's edition. -/
def State.groupLeaves (s : State) (group : Nat) : Nat :=
  ((List.range 192).map fun x =>
    let t := (s.delta.tabs (Tbl.get (s.delta.router x).cur s.delta.mcEd group)).multiAt x group
    ((span 4 10).filter fun p => p != 12 && t.getLsbD p).length).sum

/-- R272: a MACK of `count` from a port of a router's tree, that of the packet's edition: combined, and sent through the reverse port once
every child has reported; at the root the packet is acknowledged, and what waited for that is injected. A COUNT that is not the leaves of the
tree is a book out of balance (R283). No rule gives DEST of a MACK, which goes by its reverse port: 0 (DESIGN CHOICE, log entry 76). -/
def State.mackAt (s : State) (site port group count : Nat) : State :=
  let t := (s.delta.tabs (Tbl.get (s.delta.router site).cur s.delta.mcEd group)).multiAt site group
  let k := site * 4096 + group
  let a := Tbl.get {} s.delta.mack k
  if !t.getLsbD port || !decide (port < 20) || a.ports.contains port then s
  else
    let b : MackAcc := { ports := port :: a.ports, sum := a.sum + count }
    if b.ports.length < bits t 24 20 then s.modDelta fun d => { d with mack := Tbl.set d.mack k b }
    else
      let s1 := s.modDelta fun d => { d with mack := Tbl.erase d.mack k }
      if bits t 31 27 = 31 then
        let s2 := s1.modDelta fun d => { d with mcPend := d.mcPend.erase group, mackSum := Tbl.set d.mackSum group b.sum }
        (if b.sum = s.groupLeaves group then s2 else s2.raise .bookImbalance site 0 group).drainOutbox
      else
        let p := s1.stamp site (mackPacket 0 site group b.sum)
        let s2 := s1.counted site 255 p
        s2.routed site ((s2.delta.router site).unicast 255 (bits t 31 27) false p)

/-! Telemetry (R282) -/

/-- R282: a packet leaves a router at once: its output holds nothing of its class and sub-channel, and the credits for all of it. -/
def State.flows (s : State) (site : Nat) (p : Packet) : Bool :=
  match s.delta.outPort site p with
  | none => true
  | some (out, _) =>
    let d := (s.delta.router site).port out
    !linkPort out || (!(d.queue.any fun q => q.p.subKey == p.subKey) && decide (p.flits ≤ d.held p.subKey))

/-- R282: the packet that carries a record to its place in HBM. -/
def State.ringPacket (s : State) (site k o : Nat) (x : List Byte) : Packet :=
  s.stamp site (directPacket { dest := 192 + k, src := site, cls := 0, mode := 1, len := 32 } (hbmAddr k o) 0 (x.map fun b => (b, false)))

/-- R266, R282: a record's packet may go to the stack: it can leave at once, and its site's window takes it. -/
def State.recordGoes (s : State) (site k : Nat) (p : Packet) : Option State :=
  if s.flows site p then s.window site (192 + k) 32 8192 true else none

/-- R282: a record's packet goes from the panel `u`, where it may, and the buffered records are then `t`. -/
def State.putRecord (s : State) (site : Nat) (p : Packet) (t : List (List Byte)) (u : Option State) : State :=
  match u with
  | some s1 => ((s1.modDelta fun d => d.modRouter site fun r => { r with tlmBuf := t, tlmCount := r.tlmCount + 1 }).enter site 255 p).1
  | none => s

/-- R266, R282: the oldest record buffered goes to the ring, where its site's window takes it and its packet can leave at once; one whose ring address is not in HBM is discarded
(log entry 30). -/
def State.sendRecord (s : State) (site : Nat) : State :=
  let r := s.delta.router site
  match r.tlmBuf with
  | [] => s
  | x :: t =>
    match decodeAddr (r.tlmBase.toNat + 32 * (r.tlmCount % r.tlmSize)) with
    | .ok (.hbm k o) => s.putRecord site (s.ringPacket site k o x) t (s.recordGoes site k (s.ringPacket site k o x))
    | _ => s.modDelta fun d => d.modRouter site fun r => { r with tlmBuf := t }

/-- R282: the buffered records go, the oldest first. -/
def State.sendRecords (s : State) (site : Nat) : State :=
  (List.range (s.delta.router site).tlmBuf.length).foldl (fun s _ => s.sendRecord site) s

/-! Requests at a stack (11) -/

/-- R255: the TAG that a READ's answer carries. R255 gives the READ's own body no TAG field: a free value (log entry 31). -/
def readTag (p : Packet) : Nat := (Config.readTag p.head).toNat

/-- 01 R24: the entry site of a stack for a unit: that of the site whose router the unit's packets enter. -/
def State.entryOf (s : State) (unit k : Nat) : Nat := s.entrySite (s.siteOfUnit unit) k

/-- The bytes that a request reads or writes. -/
def pktBytes (p : Packet) : Nat := if p.mode = 2 then bits p.head 55 42 else p.len

/-- R331: the charged size of a request: a READ's LENGTH, or a write's payload rounded up to whole lines (log entry 75). -/
def pktCharge (p : Packet) : Nat := if p.mode = 2 then bits p.head 55 42 else cdiv p.len 64 * 64

/-- The lines that a request touches. -/
def pktLines (p : Packet) : List Nat := linesOf (p.addr % 2 ^ 36) (pktBytes p)

/-- R317, R325, R255: an admitted request is executed: a write accepted and acknowledged, a READ answered by Direct data to its return
offset, from the site where the reader's path leaves the mesh (01 R24). -/
def State.serveHbm (s : State) (k : Nat) (h : HeldReq) : State :=
  let p := h.p
  let off := p.addr % 2 ^ 36
  if p.mode = 2 then
    let n := bits p.head 55 42
    let (bs, x) := (s.stk k).readKeyed k h.key p.tenant off n h.faults
    (s.modStkNote k fun _ => x).sendData (s.entryOf p.srcUnit k)
      (directPacket { dest := p.src, src := 192 + k, cls := 1, mode := 1, len := n, tenant := p.tenant } (bits p.head 24 0) (readTag p) bs)
  else
    ((if p.len = 0 then s
      else (s.modStkNote k fun x => x.writeKeyed k h.key p.tenant off p.marked h.faults).mirrorWrite k p.tenant off p.len)).accepted (192 + k) p

/-- A request waits at a stack, behind those that came before it. -/
def Stack.hold (x : Stack) (h : HeldReq) (w : HeldAt) : Stack := { x with waiting := x.waiting ++ [{ h with at_ := w }] }

/-- R332: the bytes of a tenant's holding queue. -/
def Stack.heldBytes (x : Stack) (t : Nat) : Nat := ((x.waiting.filter fun h => h.at_ == .tenant && h.p.tenant == t).map fun h => h.p.size).sum

/-- R317: a request to one of these lines waits. -/
def Stack.lineWaits (x : Stack) (ls : List Nat) : Bool := x.waiting.any fun h => (pktLines h.p).any ls.contains

/-- R327: the aggregate bucket of band 2 admits a request, or holds it behind those that wait for it. -/
def State.aggHbm (s : State) (k : Nat) (h : HeldReq) : State :=
  let x := s.stk k
  if (x.waiting.any fun q => q.at_ == .agg) || x.lineWaits (pktLines h.p) || !x.aggAdmits then s.modStk k fun x => x.hold h .agg
  else (s.modStk k fun x => x.chargeAgg (pktCharge h.p)).serveHbm k h

/-- R317, R330 to R332: a request comes up at a base die. One that finds its tenant's bucket in debt, or an earlier request of the tenant or to
one of its lines waiting, waits in its tenant's holding queue; with the queue full, in its link's input buffer, and with it every request behind
it on that link. One that no tenant's bucket shapes waits for the earlier requests to its lines alone. -/
def State.admitHbm (s : State) (k : Nat) (h : HeldReq) : State :=
  let x := s.stk k
  let t := h.p.tenant
  let behind := x.lineWaits (pktLines h.p)
  if x.waiting.any fun q => q.at_ == .input && q.link == h.link then s.modStk k fun x => x.hold h .input
  else if shapedSrc h.p.src then
    (if behind || (x.waiting.any fun q => q.at_ == .tenant && q.p.tenant == t) || !(x.shaper t).admits then
      s.modStk k fun x => x.hold h (if x.heldBytes t + h.p.size > 65536 then .input else .tenant)
    else (s.modStk k fun x => x.chargeTenant t (pktCharge h.p)).aggHbm k h)
  else if behind then s.modStk k fun x => x.hold h .line
  else s.aggHbm k h

/-- R309, R317: the home position q of the memory link that a request of a unit comes by. -/
def State.linkOf (s : State) (k unit : Nat) : Nat := (homeSites k).idxOf (s.entryOf unit k)

/-- R315, R325, R600: a request at a base die. A stack under test, and the spare region, refuse it with ADDR_BOUND, for which 09 R255 has no NAK
code (log entry 75); a stack out of service refuses it as a NAK would (22 R585, 23 R600). -/
def State.hbmRequest (s : State) (k : Nat) (p : Packet) (f : LineFaults) : State :=
  let x := s.stk k
  let testing : Bool := match s.diag.run with | some r => r.kind == 2 && r.target == k | none => false
  if x.stopped || (s.gaz.stack k).status ≠ 0 then
    (if p.multicast || p.mode == 2 then s else (s.sendNak (s.siteOfUnit (192 + k)) nakRouteCode p).raise .nakRoute (192 + k) 0 0)
  else if testing || decide (hbmDataSize < p.addr % 2 ^ 36 + pktBytes p) then s.raise .addrBound (192 + k) 0 0
  else s.admitHbm k ⟨p, f, x.keyOf p.fwkey p.tenant, s.linkOf k p.srcUnit, .line⟩

/-- R331: after a refill the waiting requests come up again, in the order of their arrival; those that wait for the aggregate bucket have passed
their tenant's. -/
def State.readmit (s : State) (k : Nat) : State :=
  (s.stk k).waiting.foldl (fun s h => if h.at_ == .agg then s.aggHbm k h else s.admitHbm k h)
    (s.modStk k fun x => { x with waiting := [] })

end Sys2Proof.Machine
end

