-- ==== Sys2Proof/Machine/Edition.lean ====
section
/-!
DEFINITION. The checks and the publication of a routing edition (spec 09 R271 to R279).
-/
namespace Sys2Proof.Machine

/-! The checks of R275 -/

/-- The in-service units of the panel, by unit code: what an edition must reach. -/
def State.unitsIn (s : State) : List Nat :=
  s.gaz.sitesIn ++ ((List.range 48).filter fun k => (s.gaz.stack k).status == 0).map (192 + ·)
    ++ ((List.range 36).filter fun n => (s.gaz.engine n).status == 0).map (0x100 + ·)
    ++ ((List.range 4).filter fun d => (dieSites d).any s.gaz.siteIn).map (0x140 + ·)

/-- R249, R251, R298: a port that a table may name for a unit: one that is up, to a site in service where it crosses an edge; a transit port
for a stack alone: what a site sends elsewhere does not travel away from one. -/
def Gaz.tablePort (g : Gaz) (unit site port : Nat) : Bool :=
  g.portOk site port && (!meshPort port || (acrossPort site port).any g.siteIn) && (port < 16 || decide (192 ≤ unit ∧ unit < 240))

/-- R275: every in-service unit is reachable from every in-service site by at most 34 hops. -/
def State.allReached (s : State) (t : RouteTables) : Bool :=
  s.gaz.sitesIn.all fun a => s.unitsIn.all fun u => (walkOf (s.gaz.tablePort u) t a u 35).isSome

/-- R275: every pair of in-service sites is joined by at most 34 hops. -/
def State.sitesReached (s : State) (t : RouteTables) : Bool :=
  s.gaz.sitesIn.all fun a => s.gaz.sitesIn.all fun b => (walkOf (s.gaz.tablePort b) t a b 35).isSome

/-- 01 R24: the entry site for each pair of source site and stack: of the home sites whose memory link is up, the one with the fewest hops
from the source in this edition, ties to the lower index. -/
def State.entriesOk (s : State) (t : RouteTables) : Bool :=
  s.gaz.sitesIn.all fun a => (List.range 48).all fun k =>
    (s.gaz.stack k).status != 0 ||
      (walkOf (s.gaz.tablePort (192 + k)) t a (192 + k) 35).map (·.2)
        == argMin (fun h => (hopsOf t a h 35).getD 1000) ((homeSites k).filter s.gaz.memLink)

/-- A channel of the dependency graph: router, port and sub-channel. -/
abbrev Channel := Nat × Nat × Bool

/-- The channels of the route from a site to a unit, in order; ESC is set from the first detour on (R259). -/
def routeChannels (t : RouteTables) (site unit : Nat) (esc : Bool) : Nat → List Channel
  | 0 => []
  | fuel + 1 =>
    if unit = site then []
    else
      let e := t.uniAt site unit
      let p := bits e 4 0
      let esc1 := esc || e.getLsbD 14
      if !e.getLsbD 15 || !meshPort p then []
      else match acrossPort site p with
        | some s1 => (site, p, esc1) :: routeChannels t s1 unit esc1 fuel
        | none => []

/-- The dependencies of a route: consecutive channels. -/
def pairsOf : List Channel → List (Channel × Channel)
  | a :: b :: r => (a, b) :: pairsOf (b :: r)
  | _ => []

/-- Channels without a dependency left are taken away until none is; an acyclic graph leaves nothing. -/
def prune (es : List (Channel × Channel)) : Nat → List (Channel × Channel)
  | 0 => es
  | fuel + 1 =>
    let es1 := es.filter fun e => es.any fun d => d.1 == e.2
    if es1.length = es.length then es else prune es1 fuel

/-- R275: the channel-dependency graph is free of cycles. The classes have the same routes and separate buffers. -/
def State.acyclic (s : State) (t : RouteTables) : Bool :=
  let es := (s.gaz.sitesIn.flatMap fun a => s.unitsIn.flatMap fun u => pairsOf (routeChannels t a u false 35)).dedup
  (prune es es.length).isEmpty

/-- R251, R271: the routers below one of a group's tree, each with its parent and its depth below the root: those across the mesh ports of
its set, whose reverse port must lead back. -/
def treeBelow (t : RouteTables) (group parent site depth : Nat) : Nat → List (Nat × Nat × Nat)
  | 0 => []
  | fuel + 1 =>
    (site, parent, depth) :: ((List.range 4).filter fun p => (t.multiAt site group).getLsbD p).flatMap fun p =>
      match acrossPort site p with
      | some c => treeBelow t group site c (depth + 1) fuel
      | none => [(192, site, depth)]

/-- R249, R271: a port that a set may name: a mesh, memory or X port that joins something in service, or that of a cluster or Lockkeeper in
service. Transit ports carry no multicast packet (R251). -/
def Gaz.setPort (g : Gaz) (site p : Nat) : Bool :=
  if p < 4 then g.portOk site p && (acrossPort site p).any g.siteIn
  else if p = 12 ∨ p = 14 ∨ p = 15 then g.portOk site p
  else if p = 13 then g.siteIn site
  else decide (p < 12) && g.clusterIn (8 * site + (p - 4))

/-- R271: a group's tree is acyclic, has one root, names no router twice, leads back from each router to its parent, names ports that may be
named, and counts its children. -/
def Gaz.treeOk (g : Gaz) (t : RouteTables) (group : Nat) : Bool :=
  let ns := (List.range 192).filter fun x => (t.multiAt x group) % 2 ^ 20 != 0
  match ns.filter fun x => bits (t.multiAt x group) 31 27 = 31 with
  | [] => ns.isEmpty
  | [root] =>
    let below := treeBelow t group root root 0 35
    let sites := below.map (·.1)
    decide sites.Nodup && sites.all ns.contains && ns.all sites.contains
      && (below.all fun b => b.1 == root || (decide (bits (t.multiAt b.1 group) 31 27 < 4) && acrossPort b.1 (bits (t.multiAt b.1 group) 31 27) == some b.2.1))
      && ns.all fun x =>
        let e := t.multiAt x group
        let set := (List.range 20).filter e.getLsbD
        decide (bits e 24 20 = set.length) && set.all (g.setPort x)
  | _ => false

/-- R275: the least depth that the in-service sites allow for some of them, from the attachment sites of the active Surveyor. -/
def State.distance (s : State) (x : Nat) : Nat :=
  let near := (dieSites (s.gaz.surveyor s.fw.active)).filter s.gaz.siteIn
  ((List.range 193).find? fun n => (s.gaz.spread near n).contains x).getD 193

/-- R275: a HALT tree is no deeper than 26 hops, or than its farthest router is from the active Surveyor, whichever is more. -/
def State.haltDepthOk (s : State) (t : RouteTables) (group : Nat) : Bool :=
  match (List.range 192).filter fun x => (t.multiAt x group) % 2 ^ 20 != 0 && bits (t.multiAt x group) 31 27 == 31 with
  | [root] =>
    let below := treeBelow t group root root 0 35
    let deep := (below.map (·.2.2)).foldl Nat.max 0
    decide (deep ≤ 26) || decide (deep ≤ (below.map fun b => s.distance b.1).foldl Nat.max 0)
  | _ => true

/-- The groups that a table set lists. -/
def groupsOf (t : RouteTables) : List Nat := (t.multi.map fun (k, _) => k % 4096).dedup

/-- R273: the leaves of the broadcast group are every in-service cluster and Lockkeeper. -/
def State.broadcastOk (s : State) (t : RouteTables) : Bool :=
  (List.range 192).all fun x => (span 4 10).all fun p =>
    p == 12 || (t.multiAt x 0).getLsbD p == (s.gaz.siteIn x && (p == 13 || s.gaz.clusterIn (8 * x + (p - 4))))

/-- R249: no unicast entry of a router in service names a port that joins nothing, or that its unit's packets may not take. -/
def State.entriesJoin (s : State) (t : RouteTables) : Bool :=
  t.uni.all fun (k, e) => !e.getLsbD 15 || !s.gaz.siteIn (k / 512) || k % 512 == k / 512 || s.gaz.tablePort (k % 512) (k / 512) (bits e 4 0)

/-- R275: the checks of an edition. -/
def State.editionOk (s : State) (t : RouteTables) : Bool :=
  s.allReached t && s.entriesOk t && s.entriesJoin t && s.acyclic t && (groupsOf t).all (s.gaz.treeOk t) && s.broadcastOk t
    && s.ten.parts.all fun (_, p) => p.state == 0 || s.haltDepthOk t p.haltGroup

/-- R275 step 2: the site of the kept part farthest from the nearer in-service attachment site of the active Surveyor; ties to the
higher index. -/
def State.farthest (s : State) : Option Nat :=
  argMin (fun x => 1000 * (1000 - s.distance x) - x) s.gaz.sitesIn

/-- R275: a site masked with NO_LINK, in the change set that made the edition necessary: its generation is counted once. -/
def State.maskSite (s : State) (x : Nat) : State :=
  let f (g : Gaz) : Gaz := g.siteLeaves s.mcount 3 x 1 8
  if !s.gaz.siteIn x || !decide (x < 192) then s else if s.gaz.owed then s.applyRest f else s.applyGaz f

/-- R37, R275: a published edition ends the change set that it was made for: the path tables are built from it. An edition made for no
change set, which alters a path, is one of its own. -/
def State.recordPaths (s : State) (t : RouteTables) : State :=
  if s.gaz.owed then s.modGaz fun g => { g with paths := t, owed := false, old := none }
  else if s.gaz.paths.uni = t.uni then s
  else (s.applyGaz fun g => { g with paths := t }).modGaz fun g => { g with owed := false, old := none }

/-- R277 step 1: a slot is free, and no edition change is under way. -/
def State.slotFree (s : State) : Bool := s.gaz.sitesIn.all fun x => let r := s.delta.router x; !r.oldPend && !r.armed

/-- The slot that the next edition goes to: the one not stamped now. -/
def State.nextSlot (s : State) : Bool := !(s.delta.router (s.gaz.sitesIn.headD 0)).cur

/-- R277 steps 3 and 4: the tables written into the free slot of every router, and the switch armed. Every router's slot is a part of the one
table, so the CRCs that the Surveyor compares are those of what it wrote. -/
def State.install (s : State) (t : RouteTables) (tsw : Word) : State :=
  let slot := s.nextSlot
  (s.modDelta fun d =>
    let d1 := if slot then { d with tabs1 := t } else { d with tabs0 := t }
    { d1.mapRouters fun r => { r with tsw := tsw, armed := true } with edWanted := false }).modTen fun x =>
      { x with entering := x.entering.map fun (c, e) => (c, if e.step = 5 then { e with step := 6 } else e) }

/-- R275, R277: the Surveyor's successive table sets: a set that joins some pair of sites by no route of at most 34 hops costs the
farthest site, and the next is tried; one that passes every check is published, and one that fails another is not. -/
def State.publish (s : State) (tsw : Word) : List RouteTables → State
  | [] => s
  | t :: rest =>
    if !s.sitesReached t then
      (match s.farthest with
       | some x => if rest.isEmpty then s else State.publish (s.maskSite x) tsw rest
       | none => s)
    else if s.editionOk t then (s.install t tsw).recordPaths t
    else s

/-- 09 R249, R290: the ports follow the Gazetteer; an outer port that has come into service starts with full books. -/
def State.portsFollow (s : State) : State :=
  (List.range 192).foldl (fun s x => outerPorts.foldl (fun s p =>
    let up := s.gaz.portOk x p
    let n := (s.gaz.portBraids x p).length
    s.modDelta fun d => d.modRouter x fun r => r.modPort p fun k =>
      if up && !k.up then { k with up := true, frozen := false, braids := n, sent := [], freed := [], rxFreed := [], queue := [], flying := [] }
      else { k with up := up, braids := if up then n else 0 }) ((span 4 10).foldl (fun s p =>
        if p = 12 then s
        else s.modDelta fun d => d.modRouter x fun r => r.modPort p fun k =>
          { k with up := if p = 13 then s.gaz.siteIn x else s.gaz.clusterIn (8 * x + (p - 4)) }) s)) s

/-- 15 R432: every stack in service in which a partition holds an allotment holds its tenant's key. -/
def State.keyed (s : State) (n : Nat) : Bool :=
  let p := s.ten.part n
  p.allot.all fun (k, (_, len)) => len == 0 || (s.gaz.stack k).status != 0 || (Tbl.get? (s.stk k).keys (keySlot false p.tenant)).isSome

/-- 15 R431 step 7, R432: a changing partition becomes active once its clusters are through their change and its keys are in place. -/
def State.settleParts (s : State) : State :=
  let ready (n : Nat) : Bool := s.keyed n && s.ten.entering.all fun (_, e) => e.part != n || e.step == 7
  s.modTen fun t =>
    { t with parts := t.parts.map fun (n, p) => (n, if p.state = 2 ∧ ready n then { p with state := 1 } else p)
             entering := t.entering.filter fun (_, e) => e.step != 7 || !ready e.part }

/-- 15 R431 steps 6 and 7: at T_sw the trees of the armed edition serve the clusters that entered. -/
def State.partsSwitched (s : State) : State :=
  (s.modTen fun t => { t with entering := t.entering.map fun (c, e) => (c, if e.step = 6 then { e with step := 7 } else e) }).settleParts

end Sys2Proof.Machine
end

