-- ==== Sys2Proof/Machine/Levee.lean ====
section
/-!
DEFINITION. The meanings of the Levee braids' events (spec 10).
-/
namespace Sys2Proof.Machine

/-! What the events share -/

def State.brd (s : State) (b : Nat) : LevBraid := s.lev.braid b
def State.modBrd (s : State) (b : Nat) (f : LevBraid → LevBraid) : State := s.modLev fun l => l.modBraid b f

/-- The unit code of an end of a braid. -/
def endUnit (b : Nat) (hi : Bool) : Nat := if hi then (braidEnds b).2 else (braidEnds b).1

/-- R299: a sideband message of an end, as its frame. -/
def State.side (s : State) (b : Nat) (hi : Bool) (kind value : Nat) : State := s.emit (.sideband (endUnit b hi) b kind (sideFrame kind value))

/-- R299: the same message from both ends. -/
def State.sideBoth (s : State) (b kind value : Nat) : State := (s.side b false kind value).side b true kind value

/-- R299: an RT_REQ's fields. -/
def rtReqValue (r : RtReq) : Nat := fld 68 r.kind + fld 64 r.reason + fld 61 r.depth

/-- R303, R305: an end asks for a procedure; nothing where one is asked for or runs. -/
def State.askBraid (s : State) (b : Nat) (hi : Bool) (r : RtReq) : State :=
  let e := (s.brd b).endOf hi
  if e.own.isSome || e.state != 2 then s
  else (s.modBrd b fun x => x.modEnd hi fun e => e.request r).side b hi 0x06 (rtReqValue r)

/-- R305: the watcher of an end: a replay alarm, then a low margin that no survey lane can mend. -/
def State.watch (s : State) (b : Nat) (hi : Bool) (before : LevEnd) : State :=
  let x := s.brd b
  let e := x.endOf hi
  if e.rephi && !before.rephi then s.askBraid b hi ⟨1, 1, 0⟩
  else if e.mlow && x.svyblk then s.askBraid b hi ⟨1, 2, 0⟩
  else s

/-- R305: an end whose MLOW stands while SVYBLK does asks for a retrain (reason 2). -/
def State.watchLow (s : State) (b : Nat) (hi : Bool) : State :=
  if ((s.brd b).endOf hi).mlow && (s.brd b).svyblk then s.askBraid b hi ⟨1, 2, 0⟩ else s

/-- R304, R305: a braid without a survey lane reports SURVEY_BLOCKED at its lower end; a margin already low then asks for a retrain. -/
def State.noteBlocked (s : State) (b : Nat) (was : Bool) : State :=
  if (s.brd b).svyblk && !was then
    ((s.raise .surveyBlocked (endUnit b false) (localIndex b (endUnit b false)) 0).watchLow b false).watchLow b true
  else s

/-- R43, R44: a braid's lanes as a training has left them enter the record. -/
def Gaz.recordLanes (g : Gaz) (b : Nat) (x : LevBraid) : Gaz :=
  let r : BraidRec := { g.braid b with lanes := x.carry, slane := x.slane, half := x.half, survey := if x.svyblk then 1 else 0 }
  { g with braids := Tbl.set g.braids b r }

/-- R33, R45, R297, R306: a lane is retired and its spare assigned, in one change set with its history entries (log entry 33: the
reason is START_TEST at a start and FAULT_RATE later). The live map and the record's each lose it by R297; `bad` are the lanes that the
same test has failed. -/
def State.loseLane (s : State) (src b l : Nat) (bad : List Nat) : State :=
  let x := s.brd b
  if x.retired.contains l ∨ 68 ≤ l then s
  else
    let y0 := x.retireLane l bad
    let rs := if src = 1 then 2 else 5
    let y := (if y0.slane.any fun m => !y0.idle.contains m then y0.chooseSurvey else y0).aim
    let s1 := (s.modBrd b fun _ => y).noteBlocked b x.svyblk
    s1.applyGaz fun g =>
      let r := g.braid b
      let (r1, spare) := r.retireLane x.retired bad l
      let r2 : BraidRec := { r1 with half := decide (y.healthyCount < 64), survey := if y.svyblk then 1 else r1.survey }
      let g1 := ({ g with braids := Tbl.set g.braids b r2 }).note ⟨s.mcount, 5, 0, b, l, r.status, 4, rs, src, 0⟩
      match spare with
      | some m => g1.note ⟨s.mcount, 5, 1, b, l, 4, 4, rs, src, m⟩
      | none => g1

/-- A lane's result at the lane test: lane, errors, margin in 1/256 UI, opening in mV, and whether its skew lies in the deskew range
(R301, R302). -/
abbrev LaneTest := Nat × Nat × Nat × Nat × Bool

/-- R300 steps 4 to 6: the retained lane map is applied; the lanes that fail are retired, in ascending order, the margins kept and told
over the sideband, the width chosen. Answers whether the braid lives. -/
def State.laneTest (s : State) (src b : Nat) (tests : List LaneTest) : State × Bool :=
  let failed := (tests.filter fun (t : LaneTest) => !(laneAccepted t.2.1 t.2.2.1 t.2.2.2.1 && t.2.2.2.2)).map (·.1)
  let bad := (List.range 68).filter failed.contains
  let s0 := s.modBrd b fun x => { x with carry := (s.gaz.braid b).lanes, slane := none, cal := none }
  let s1 := bad.foldl (fun s l => s.loseLane src b l bad) s0
  let ms := tests.foldl (fun (m : Tbl (Nat × Nat)) (t : LaneTest) => Tbl.set m t.1 (t.2.2.1, t.2.2.2.1)) (s1.brd b).a.margins
  let s2 := s1.modBrd b fun x => (x.both fun e => { e with margins := ms }).checkLow
  let s3 := tests.foldl (fun (s : State) (t : LaneTest) => s.sideBoth b 0x0C (fld 65 t.1 + fld 57 (Nat.min 255 t.2.2.1))) s2
  let (y, ok) := (s3.brd b).chooseWidth
  (s3.modBrd b fun _ => y, ok)

/-- R300 steps 7 and 8: the sideband at full rate where it has trained, sequence 0, the replay buffers empty, the survey lane chosen. -/
def State.braidReady (s : State) (b : Nat) (fullRate : Bool) : State :=
  let was := (s.brd b).svyblk
  (s.modBrd b fun x => ((x.chooseSurvey).both fun e =>
    { e with sbslow := !fullRate, rxSeq := 0, txSeq := 0, discarding := false, buf := [], phase := 0 }).aim).noteBlocked b was

/-- R300: a braid whose training fails leaves service; a braid of a reserve, in its site's activation, as the step's own row says (R297,
01 R36; log entry 59). -/
def State.failBraid (s : State) (src : Nat) (b : BraidId) (st rs : Nat) : State :=
  if (s.gaz.braid b).status = 2 then s.applyGaz fun g => g.leave s.mcount src (.braid b) st rs else s.retireUnit src (.braid b) st rs

/-- R297: a braid left below 32 lanes is retired with SPARE_EXHAUSTED. -/
def State.braidDead (s : State) (src : Nat) (b : BraidId) : State :=
  (s.modBrd b fun x => x.both fun e => { e with state := 6, inlist := false, own := none, waiting := none }).failBraid src b 4 6

/-- R299, R300 step 2: both ends send IDENT. -/
def State.sendIdents (s : State) (b : Nat) : State :=
  let v (hi : Bool) : Nat := fld 56 (endUnit b hi) + fld 40 b + fld 24 (s.lmcGen % 65536)
  (s.side b false 0x01 (v false)).side b true 0x01 (v true)

/-- R300 steps 1 to 8 of one braid, by a start or an activation (`src`): IDENT, the lane test, the width and the survey lane. `fullRate`
tells that the sideband has trained (R299). -/
def State.trainBraid (s : State) (src : Nat) (b : BraidId) (identOk fullRate : Bool) (tests : List LaneTest) : State :=
  let s0 := (s.modBrd b fun x => x.both fun e => { e with state := 1, sbslow := true }).sendIdents b
  if !identOk then (s0.modBrd b fun x => x.both fun e => { e with state := 0 }).failBraid src b 1 8
  else
    let s1 := s0.modBrd b fun x => x.both fun e => { e with identOk := true }
    let (s2, ok) := s1.laneTest src b tests
    if ok then s2.braidReady b fullRate else s2.braidDead src b

/-- R264, R299: the receiver at a port sends its absolute freed-flit counts by CSYNC, one message for each class. -/
def State.sendCsync (s : State) (b site port : Nat) : State :=
  (List.range 3).foldl (fun s c => s.emit (.sideband site b 0x03 (sideFrame 0x03 (((s.delta.router site).port port).freedValue c)))) s

/-- R303 step 3: no flit of the braid awaits a replay. -/
def LevBraid.clear (x : LevBraid) : Bool := !x.a.discarding && !x.b.discarding

/-- R303 steps 3 and 7: once the braid's last flits are checked, each receiver of its ports sends CSYNC. -/
def State.csyncs (s : State) (b : Nat) : State :=
  if (s.brd b).clear then (s.gaz.braidPorts b).foldl (fun s (site, port) => s.sendCsync b site port) s else s

/-- R296, R299: a TURN of an end (a router's, or where `far` the unit's that its port joins) for each class and sub-channel, with the packet
count from which the list applies. -/
def State.sendTurns (s : State) (b : Nat) (far : Bool) (site port : Nat) : State :=
  let ts := s.portTurns site port
  let halves := (ts.map fun t => if t.2 then 2 ^ t.1 else 0).sum
  let v := fld 64 ((ts.map fun t => 2 ^ t.1).sum) + flg 63 (decide (halves ≠ 0)) + fld 55 halves
  let unit := if far then (if (braidEnds b).1 = site then (braidEnds b).2 else (braidEnds b).1) else site
  (List.range 6).foldl (fun s k => s.emit (.sideband unit b 0x05 (sideFrame 0x05
    (v + fld 53 (k / 2) + fld 52 (k % 2) + fld 40 (Tbl.get 0 s.lev.placed (turnKey (if far then 192 + site else site) port k)))))) s

/-- R303 steps 2, 3 and 7: a braid leaves or joins the lists of its ports, and of the units that they join: TURN, the books frozen until the
CSYNC of each receiver. -/
def State.turnChange (s : State) (b : Nat) (inlist : Bool) : State :=
  let s1 := s.modBrd b fun x => x.both fun e => { e with inlist := inlist }
  ((s1.gaz.braidPorts b).foldl (fun s (site, port) =>
    let s2 := s.setTurns site port
    let n := (s2.portTurns site port).length
    let s3 := s2.modDelta fun d => d.modRouter site fun r => r.modPort port fun k => { k with frozen := k.up, braids := if k.up then n else 0 }
    let s4 := s3.sendTurns b false site port
    if meshPort port then s4 else s4.sendTurns b true site port) s1).csyncs b

/-- R43, R44, R303 step 6: what a retrain has changed of a braid's lanes enters the record, in one change set. -/
def State.noteLanes (s : State) (b : Nat) : State :=
  if s.gaz.recordLanes b (s.brd b) = s.gaz then s else s.applyGaz fun g => g.recordLanes b (s.brd b)

/-- R303 steps 4 to 8: the braid is trained anew; it rejoins, or is retired. -/
def State.finishRetrain (s : State) (b : BraidId) (fullRate : Bool) (tests : List LaneTest) : State :=
  let (s1, ok) := s.laneTest 2 b tests
  if ok then (((s1.braidReady b fullRate).noteLanes b).turnChange b true).side b false 0x08 (fld 71 1)
  else (s1.braidDead 2 b).side b false 0x08 0

/-! The events -/

/-- R300 step 1: V_LEV lies within its window and LMC is loaded at both ends. -/
def State.levReady (s : State) : Bool := s.pwr.inwin.testBit 4 && s.fw.delivered.contains 3

/-- R300: a braid trains in part 2 of a start. -/
def execBraidTraining (b : BraidId) (identOk : Bool) (shown : LaneRun) (s : State) : Ans :=
  .next (
    if s.boot.part ≠ 2 ∨ (s.gaz.braid b).status ≠ 0 ∨ (s.brd b).a.state ≠ 0 ∨ !s.levReady then s
    else s.trainBraid 1 b identOk shown.fullRate shown.lanes)

/-- R298: the role that the rules give a braid, from the transit braids asked for. -/
def Gaz.roleOf (g : Gaz) (transit b : Nat) : Nat :=
  if 2 ≤ braidKind b then 2
  else if braidKind b = 0 then 0
  else
    let base := b - braidSlot b
    let n := ((span base 8).filter fun x => (g.braid x).status == 0).length
    let m := Nat.min transit (n - 6)
    if siteRow (braidEnds b).1 % 2 = 1 ∧ 8 ≤ braidSlot b + m then 1 else 0

/-- R298: every role assigned, a changed one with its history entry. -/
def Gaz.assignRoles (g : Gaz) (now transit : Nat) : Gaz :=
  (List.range 2848).foldl (fun (g' : Gaz) b =>
    let r := g.roleOf transit b
    if (g'.braid b).role = r then g'
    else
      let x := g'.braid b
      ({ g' with braids := Tbl.set g'.braids b { x with role := r } }).note ⟨now, 4, 3, b, 0, x.status, x.status, x.reason, 1, r⟩) g

/-- R298: the braids of an edge with fewer than three in service of role 0 are masked with NO_LINK. -/
def Gaz.maskThin (g : Gaz) (now : Nat) : Gaz :=
  ((List.range 356).map (· * 8)).foldl (fun (g' : Gaz) base =>
    if g.edgeUp base then g'
    else (span base 8).foldl (fun (g' : Gaz) b =>
      if (g'.braid b).status = 0 then
        (match (if h : b < 3320 then some (GUnit.braid ⟨b, h⟩) else none) with
         | some u => g'.change now 1 u 1 8
         | none => g')
      else g') g') g

/-- R298, R300 step 9: once every braid in service has reached step 8: roles assigned, turn lists built, ports offered. -/
def execRoleAssignment (s : State) : Ans :=
  .next (
    let live := (List.range 3320).filter fun b => (s.gaz.braid b).status == 0
    if s.boot.part ≠ 2 ∨ s.lev.ranged ∨ live.any (fun b => (s.brd b).a.state == 0) then s
    else
      let s1 := (s.modLev fun l => { l with ranged := true }).applyGaz fun g =>
        ((live.foldl (fun g b => g.recordLanes b (s.brd b)) g).assignRoles s.mcount (Nat.min 2 (s.obj 0x5100 0))).maskThin s.mcount
      let up := (List.range 3320).filter fun b => (s1.gaz.braid b).status == 0 && (s1.brd b).a.state == 1
      let s2 := up.foldl (fun s b => s.modBrd b fun x => x.both fun e => { e with state := 2, inlist := true }) s1
      let s3 := s2.portsFollow
      let s4 := (List.range 192).foldl (fun s x => outerPorts.foldl (fun s p => s.setLists x p) s) s3
      up.foldl (fun s b => (s.watchLow b false).watchLow b true) s4)

/-- R294: a flit arrives at an end with its check bits; the last of a braid that is being withdrawn lets its books be synced (R303 step 3). -/
def execFlitReceive (b : BraidId) (hi : Bool) (flit : BitVec 512) (crc : Half) (s : State) : Ans :=
  .next (
    let e := (s.brd b).endOf hi
    if e.state = 0 ∨ e.state = 6 then s
    else
      let (e1, rep) := e.receive s.mcount flit crc.toNat
      let s1 := s.modBrd b fun x => x.modEnd hi fun _ => e1
      let s2 := match rep with
        | some q => s1.side b hi 0x04 (fld 60 q)
        | none => s1
      (if e.discarding && !e1.discarding && !e.inlist && 3 ≤ e.state then s2.csyncs b else s2).watch b hi e)

/-- R294: a REPLAY reaches the sender, which resends from the named flit onward while its buffer of 256 holds it. -/
def execLeveeReplay (b : BraidId) (hi : Bool) (seq : BitVec 12) (s : State) : Ans :=
  .next (
    let e := (s.brd b).endOf hi
    if e.state = 0 ∨ e.state = 6 then s
    else s.emits ((e.resent seq.toNat).map fun (f, crc) => Msg.flit (endUnit b hi) b f crc))

/-- R299, R300 step 2: an IDENT checked against the Gazetteer, and its generation against the panel's own; a mismatch masks the braid. -/
def execLeveeIdent (b : BraidId) (hi : Bool) (unit : Half) (link : LinkIdent) (s : State) : Ans :=
  .next (
    if (s.gaz.braid b).status ≠ 0 then s
    else if unit.toNat = endUnit b (!hi) ∧ link.number.toNat = b ∧ link.gen.toNat = s.lmcGen % 65536 then
      s.modBrd b fun x => x.modEnd hi fun e => { e with identOk := true }
    else (s.modBrd b fun x => x.both fun e => { e with state := 0, inlist := false, identOk := false }).retireUnit 2 (.braid b) 1 8)

/-- R296, R299: a TURN reaches its packet count at a port: its receiver takes the heads of that class and sub-channel by the new list. -/
def execTurn (site : SiteId) (port : Fin 20) (cls : BitVec 2) (esc : Bool) (slots half : Byte) (s : State) : Ans :=
  let list := turnList (((List.range 8).filter fun i => slots.getLsbD i).map fun i => (i, half.getLsbD i))
  .next (s.modLev fun l => { l with rxTurns := Tbl.set l.rxTurns (turnKey site port (2 * cls.toNat + (if esc then 1 else 0))) list })

/-- R303, R307: an RT_REQ reaches an end: it is accepted, waits, or loses the race. -/
def execLeveeRtReq (b : BraidId) (hi : Bool) (kind reason : BitVec 4) (depth : BitVec 3) (s : State) : Ans :=
  .next (
    let e := (s.brd b).endOf hi
    if e.state = 0 ∨ e.state = 6 ∨ kind.toNat = 0 ∨ 3 < kind.toNat then s
    else
      let (e1, ans) := e.rtReq hi ⟨kind.toNat, reason.toNat, depth.toNat⟩
      let s1 := s.modBrd b fun x => x.modEnd hi fun _ => e1
      match ans with
      | .accept c => s1.side b hi 0x07 (fld 71 1 + fld 67 c)
      | _ => s1)

/-- R303 steps 1 and 2, R307: an RT_RSP reaches the end that asked: it initiates, and the braid is withdrawn. -/
def execLeveeRtRsp (b : BraidId) (hi : Bool) (accept : Bool) (converted : BitVec 4) (s : State) : Ans :=
  .next (
    let e := (s.brd b).endOf hi
    match e.own with
    | none => s
    | some r =>
      if !accept then s.modBrd b fun x => x.modEnd hi fun e => { e with own := none, state := 2 }
      else
        (s.modBrd b fun x => x.modEnd hi fun e =>
          { e with own := none, init := true, state := procState r.kind, race := e.race || decide (converted.toNat ≠ 0) }).turnChange b false)

/-- R303 step 8, R307: an RT_DONE at an end: up, or retired. What waited is taken up; an end whose converted need remains asks
again, once nothing waits: every procedure has retrained the braid and chosen its width anew, so of a lost request only a loopback's need remains. -/
def execLeveeRtDone (b : BraidId) (hi : Bool) (up : Bool) (s : State) : Ans :=
  .next (
    let e := (s.brd b).endOf hi
    if e.state ≠ 3 ∧ e.state ≠ 4 ∧ e.state ≠ 5 then s
    else if !up then s.modBrd b fun x => x.modEnd hi fun e => { e with state := 6, inlist := false }
    else
      let s1 := s.modBrd b fun x => x.modEnd hi fun e =>
        { e with state := 2, retrain := satAdd 0xFFFFFFFF e.retrain 1, converted := if e.waiting.isSome then e.converted else 0, waiting := none }
      match e.waiting with
      | some r => (s1.modBrd b fun x => x.modEnd hi fun e => { e with init := false, state := procState r.kind }).side b hi 0x07 (fld 71 1)
      | none => if e.converted = 3 ∧ e.lbGo then s1.askBraid b hi ⟨3, 0, e.lbDepth⟩ else s1.watch b hi e)

/-- R303 step 3: the braid is withdrawn: out of the lists, no flit of it awaits a replay, and its ports' books are thawed. -/
def State.withdrawn (s : State) (b : Nat) : Bool :=
  let x := s.brd b
  !x.a.inlist && !x.b.inlist && x.clear && !(s.gaz.braidPorts b).any fun (site, port) => ((s.delta.router site).port port).frozen

/-- R303 steps 4 to 7: the training of a withdrawn braid ends. -/
def execBraidRetrainComplete (b : BraidId) (shown : LaneRun) (s : State) : Ans :=
  .next (
    let x := s.brd b
    if (x.a.state = 3 ∨ x.a.state = 4) ∧ s.withdrawn b then s.finishRetrain b shown.fullRate shown.lanes else s)

/-- R305: a sudden loss of a healthy lane, one carrying data or the survey lane: the watcher of the end asks for a retrain (reason 4). -/
def execLaneLoss (b : BraidId) (hi : Bool) (lane : Fin 68) (s : State) : Ans :=
  .next (if (s.brd b).healthy lane then s.askBraid b hi ⟨1, 4, 0⟩ else s)

/-- R306 step 1: the next survey step, 2^SVYPER ms after the last began: the next data lane is shadowed onto the survey lane. -/
def execSurveyStep (b : BraidId) (s : State) : Ans :=
  .next (
    let x := s.brd b
    if !x.a.svyen || s.obj 0x5101 0 != 1 || x.a.state != 2 || x.a.phase != 0 || x.slane.isNone || s.mcount < x.a.svyAt + 2 ^ x.a.svyper * 1000000 then s
    else match x.nextData x.a.dlane with
      | none => s
      | some (d, _) =>
        (s.modBrd b fun y => y.both fun e => { e with dlane := d, phase := 1, svyAt := s.mcount }).side b false 0x09 (fld 65 d + fld 58 (x.slane.getD 0)))

/-- R306 step 1: SVY_SHADOW reaches the other end. -/
def execSvyShadow (b : BraidId) (d sl : Fin 68) (s : State) : Ans :=
  .next (
    let x := s.brd b
    if x.a.phase = 1 ∧ x.a.dlane = d ∧ x.slane = some sl.val then
      s.modBrd b fun y => y.modEnd true fun e => { e with shadow := some (d.val, sl.val) }
    else s)

/-- R306 steps 2 and 3: the comparison of S with D ends; where they agree, SVY_MOVE names a flit N (a free value), from which the survey
lane carries D's logical lane, and D is calibrated; otherwise S is. -/
def execSvyMove (b : BraidId) (d sl : Fin 68) (agree : Bool) (s : State) : Ans :=
  .next (
    let x := s.brd b
    if x.a.phase ≠ 1 ∨ x.a.dlane ≠ d ∨ x.slane ≠ some sl.val then s
    else
      let y : LevBraid := if agree then
          { x with carry := Tbl.set (Tbl.set x.carry sl (x.lane d)) d none, slane := none, cal := some d.val }
        else { x with cal := some sl.val }
      let s1 := s.modBrd b fun _ => y.both fun e => { e with phase := 2, shadow := none }
      if agree then s1.side b true 0x0A (fld 65 d + fld 58 sl + fld 46 (Config.surveyFlit b x.a.txSeq).toNat) else s1)

/-- R306 step 4: the calibration of the idle lane ends: it becomes the survey lane, or is retired. -/
def execSurveyCalibrationDone (b : BraidId) (errors : Word32) (margin : Byte) (mv : Half) (s : State) : Ans :=
  .next (
    let x := s.brd b
    match x.cal with
    | none => s
    | some d =>
      let ok := laneAccepted errors.toNat margin.toNat mv.toNat
      let s1 := s.modBrd b fun y => (({ y with cal := none, slane := if ok then some d else y.slane }).both fun e =>
        { e with phase := 3, lastm := margin.toNat, margins := Tbl.set e.margins d (margin.toNat, mv.toNat) }).checkLow
      let s2 := (s1.sideBoth b 0x0C (fld 65 d + fld 57 margin.toNat)).side b false 0x0B (fld 65 d + flg 64 ok)
      if ok then s2
      else
        let s3 := (s2.modBrd b fun y => { y with slane := some d }).loseLane 2 b d []
        if (s3.brd b).svyblk then s3.askBraid b false ⟨1, 3, 0⟩ else s3)

/-- R306 steps 4 and 5: SVY_RETURN ends the step; ROTATIONS counts after the last lane. -/
def execSvyReturn (b : BraidId) (d : Fin 68) (pass : Bool) (s : State) : Ans :=
  .next (
    let x := s.brd b
    if x.a.phase ≠ 3 then s
    else
      let next := x.nextData (x.a.dlane + 1)
      s.modBrd b fun y =>
        ({ y with slane := if pass && y.healthy d && (y.lane d).isNone then some d.val else y.slane }).both fun e =>
          { e with phase := 0, dlane := (next.map fun (n : Nat × Bool) => n.1).getD 0,
                   rotations := if next.all fun (n : Nat × Bool) => n.2 then (e.rotations + 1) % 2 ^ 32 else e.rotations })

/-- R299, R302: a lane's margin reported over the sideband. -/
def execMargin (b : BraidId) (hi : Bool) (lane : Fin 68) (margin : Byte) (s : State) : Ans :=
  .next (
    let e := (s.brd b).endOf hi
    let s1 := s.modBrd b fun x => (x.modEnd hi fun e =>
      { e with margins := Tbl.set e.margins lane (margin.toNat, (Tbl.get (0, 0) e.margins lane).2) }).checkLow
    s1.watch b hi e)

/-- R308, R312: LEV_LB.GO written at an end: the loopback is asked for; DEPTH outside 1 to 4 refuses it. -/
def State.levLoopback (s : State) (b : Nat) (hi : Bool) (depth pat : Nat) : State :=
  let e := (s.brd b).endOf hi
  if depth = 0 ∨ 4 < depth ∨ e.lbGo ∨ e.state ≠ 2 then s
  else (s.modBrd b fun x => x.modEnd hi fun e => { e with lbGo := true, lbDepth := depth, lbPat := pat }).askBraid b hi ⟨3, 0, depth⟩

def execLeveeLoopback (b : BraidId) (hi : Bool) (depth : BitVec 3) (pat : BitVec 4) (s : State) : Ans :=
  .next (s.levLoopback b hi depth.toNat pat.toNat)

/-- R308: after 10 ms of pattern the result is recorded, and the braid rejoins by R303 steps 4 to 8. -/
def execLeveeLoopbackEnd (b : BraidId) (hi : Bool) (errors : Word32) (shown : LaneRun) (s : State) : Ans :=
  .next (
    let e := (s.brd b).endOf hi
    if !e.lbGo || e.state != 5 || !s.withdrawn b then s
    else
      (s.modBrd b fun x => x.modEnd hi fun e =>
        { e with lbGo := false, lbDone := true, lbPass := errors.toNat == 0, lbErrs := Nat.min (2 ^ 22 - 1) errors.toNat }).finishRetrain b
          shown.fullRate shown.lanes)

/-- R312: a read of LEV_REPLAY (false) or LEV_RETRAIN (true) clears it. -/
def execLevCounterRead (b : BraidId) (hi : Bool) (which : Bool) (s : State) : Ans :=
  .next (s.modBrd b fun x => x.modEnd hi fun e => if which then { e with retrain := 0 } else { e with replay := 0 })

end Sys2Proof.Machine
end

