-- ==== Sys2Proof/Machine/Bundle.lean ====
section
/-!
DEFINITION. Issue of whole bundles, yields, groups of an SX thread, and HALT at a cluster (spec 05 R151, 06 R159 to R162, R178 to
R182, 15 R448).
-/
namespace Sys2Proof.Machine

/-! HALT and YIELD -/

/-- R182, R101, R138, R450: HALT at a cluster: the sequencer and every thread stop, operations not started are cancelled, running ones
complete, the timers of issued moves are disarmed. -/
def Cluster.halt (k : Cluster) : Cluster :=
  { k with
    sq := { k.sq with run := false, halted := true, stopPend := false, startWait := false, hold := .none, wait := 0,
                      moves := k.sq.moves.map fun m => { m with timer := none } },
    mx := k.mx.haltCancel,
    vx := { k.vx with run := k.vx.run.map fun r => { r with stopReq := false } },
    sx := { k.sx with thr := k.sx.thr.map fun (t, h) => (t, { h with run := false, stopPend := false, hold := .none }) } }

/-- R448: no engine operation running or queued, and no move outstanding. -/
def Cluster.idle (k : Cluster) : Bool := k.mx.ops.isEmpty && k.vx.run.isNone && k.sq.moves.isEmpty

/-- R448: a YIELD at a quiescent cluster: it stops the sequencer where the scheduler asked for it, else it is a NOP. -/
def Cluster.resolveYield (k : Cluster) : Cluster :=
  match k.sq.hold with
  | .yield n =>
    if !k.idle then k
    else if k.chn.ytp ≠ 0 ∧ k.chn.ytp.toNat ≤ k.chn.ydl.toNat then
      { k with sq := { k.sq with run := false, stopPend := false, hold := .none }, chn := { k.chn with ystat := 2 ^ 31 + n % 65536 } }
    else { k with sq := { k.sq with hold := .none } }
  | _ => k

/-! Bundles -/

/-- R159: the slots of a bundle. -/
structure Bundle where
  scalar : Word32
  matrix : Word32
  vector : Word32
  move : BitVec 24
  wait : Nat
  deriving DecidableEq, Repr

def decBundle (bs : List Byte) : Bundle :=
  let n := leNat bs
  ⟨BitVec.ofNat 32 (n >>> 96), BitVec.ofNat 32 (n >>> 64), BitVec.ofNat 32 (n >>> 32), BitVec.ofNat 24 (n >>> 8), n % 256⟩

/-- R162: a vector slot that is not a NOP; its fields are checked against VXE_LSD, VXE_RDESC and g(VS). -/
def bundleVecIllegal (kind : Nat) (k : Cluster) (w : Word32) : Option Nat :=
  if w = 0 then none
  else if kind ≠ 1 then some 4
  else if (decVec w).vop = 0 then some 6
  else vecIllegal w k.vx.lsd k.vx.rdesc (k.sq.gpr (decVec w).vs)

def bundleMxIllegal (kind : Nat) (k : Cluster) (w : Word32) : Option Nat :=
  match decMatrix k.mx w with
  | .nop => none
  | .illegal sub => some (if kind = 0 then sub else Nat.min sub 3)
  | .op _ => if kind = 0 then none else some 3

/-- R160: two slots name one destination: VCOMPRESS writes g(VD). -/
def bundleDup (b : Bundle) : Option Nat :=
  if (decVec b.vector).vop = 0x34 ∧ scalarDest b.scalar = some (decVec b.vector).vd then some 0x0B else none

/-- R171: the lowest sub-code of the bundle's refusals. -/
def bundleIllegal (c : Nat) (k : Cluster) (b : Bundle) : Option Nat :=
  let kind := clusterKind c
  ([scalarIllegal kind b.scalar, bundleMxIllegal kind k b.matrix, bundleVecIllegal kind k b.vector, moveIllegal b.move, bundleDup b].filterMap id).min?

def bundleMxOp (kind : Nat) (k : Cluster) (b : Bundle) : Option MxOp :=
  match decMatrix k.mx b.matrix with | .op o => if kind = 0 then some o else none | _ => none

/-- R100, R108, R131, R174, R227, R228: an interlock holds the bundle. -/
def bundleHeld (c : Nat) (k : Cluster) (b : Bundle) : Bool :=
  let kind := clusterKind c
  ((scalarIllegal kind b.scalar).isNone && scalarHeld k b.scalar)
    || (match bundleMxOp kind k b with | some o => mxHeld k.mx o | none => false)
    || (kind == 1 && b.vector != 0 && k.vx.run.isSome)
    || ((decMove b.move).mvop != 0 && (moveHeld k.sq || k.gHeld [(decMove b.move).gd]))

/-- R178, R179: the refusal of a legal bundle at issue, by slot, with the slot's own record. -/
def bundleRefuse (c : Nat) (k : Cluster) (b : Bundle) : Option (Cause × Nat × Nat) :=
  let kind := clusterKind c
  let slot (n : Nat) (r : Refuse) : Option (Cause × Nat × Nat) := r.map fun (x, sub) => (x, sub, n)
  (slot 0 (scalarRefuse k.sq b.scalar)).or
    ((slot 1 (match bundleMxOp kind k b with | some o => mxRefuse k.mx k.spd o | none => none)).or
      (slot 2 (if kind = 1 ∧ b.vector ≠ 0 then vecRefuse k.vx k.spd b.vector (k.sq.gpr (decVec b.vector).vs) false else none)))

/-- R233: the extents of a bundle. -/
def State.bundleExtents (s : State) (c : Nat) (k : Cluster) (b : Bundle) : List Extent :=
  scalarExtents k.sq b.scalar
    ++ (match bundleMxOp (clusterKind c) k b with | some o => o.extents | none => [])
    ++ (if b.vector = 0 then [] else vecExtents b.vector k.vx.lsd k.vx.rdesc (k.sq.gpr (decVec b.vector).vs))
    ++ s.moveSlotExtents c b.move

/-- R160, R161: a bundle issues: every slot reads the cluster `p` before any slot wrote. What the move slot's reads set and count stands over the
scalar slot's writes and reads of those registers (08 R244, R245). -/
def State.issueBundle (s : State) (c : Nat) (b : Bundle) : State :=
  let p := s.cl c
  let kind := clusterKind c
  let s1 := s.modCl c fun k =>
    let k1 := match bundleMxOp kind p b with | some o => { k with mx := mxIssue k.mx o } | none => k
    if kind = 1 ∧ b.vector ≠ 0 then { k1 with vx := k1.vx.issue b.vector (p.sq.gpr (decVec b.vector).vs) } else k1
  let s2 := s1.modCl c fun k =>
    scalarExec kind (s.merCopy (c / 8)) (s.dieCount (c / 8)) p
      { k with sq := { k.sq with pc := p.sq.pc + 16, wait := b.wait, startWait := false, hold := .none } } b.scalar
  s2.issueMove c p.sq b.move

/-- R184: the sequencer stops at its issue point. -/
def Cluster.stopHere (k : Cluster) : Cluster := { k with sq := { k.sq with run := false, stopPend := false, hold := .none, wait := 0 } }

/-- R160, R162, R171, R178, R179, R184: a bundle comes to its issue point once no interlock and no Weir range holds it whole (the Weir among the
holds of R178: DEDUCED, log entry 77). There the sequencer stops if asked to, which goes before the bundle's refusals and the pending causes
(DESIGN CHOICE, log entry 77); a refusal or a pending cause is entered; or the bundle issues. -/
def State.atIssue (s : State) (c : Nat) (b : Bundle) : State :=
  let k := s.cl c
  if bundleHeld c k b then s
  else if k.spd.weirStalls (s.bundleExtents c k b) then s.modCl c fun k => { k with spd := k.spd.noteStall }
  else if k.sq.stopPend then s.modCl c Cluster.stopHere
  else match bundleIllegal c k b with
  | some sub => s.enterTrap c .illegalBundle sub
  | none =>
    match bundleRefuse c k b with
    | some (cause, sub, slot) =>
      (s.modCl c fun k =>
        if slot = 1 then (k.headerRead cause sub ((bundleMxOp (clusterKind c) k b).bind MxOp.header)).refuseMx cause sub
        else if slot = 2 then (k.headerRead cause sub (vecHeader b.vector k.vx.rdesc (k.sq.gpr (decVec b.vector).vs))).refuseVx cause b.vector
        else k).enterTrap c cause sub
    | none =>
      match (if k.sq.inh then none else k.sq.nextPend) with
      | some (cause, _) => (s.modCl c Cluster.enterPending).countCause c cause
      | none => s.issueBundle c b

/-- R159, R178: the bundle at the program counter is fetched on port 6 and comes to its issue point; an uncorrected word in it stops the
sequencer there. A fetch beyond the end of the scratchpad enters ADDR_BOUND (DESIGN CHOICE, log entry 77). -/
def State.fetchBundle (s : State) (c : Nat) : State :=
  let k := s.cl c
  if k.sq.pc + 16 > spdSize then (if k.sq.stopPend then s.modCl c Cluster.stopHere else s.enterTrap c .addrBound 0)
  else
    let (bs, k1) := { k with sq := { k.sq with stopPend := false } }.rd 6 k.sq.pc 16
    if k1.sq.stopPend then s.modCl c fun _ => k1.stopHere
    else (s.modCl c fun _ => { k1 with sq := { k1.sq with stopPend := k.sq.stopPend } }).atIssue c (decBundle bs)

/-- R159 to R162, R178 to R181, R184: the next bundle of a running sequencer comes to its issue point, every hold but a SYNC or a
YIELD spent, a zeroization among them (08 R242): a recorded vector operation that waited resumes, or the bundle is fetched. -/
def State.bundle (s : State) (c : Nat) : State :=
  let s0 := s.modCl c Cluster.resolveYield
  let k := s0.cl c
  let held : Bool := match k.sq.hold with | .sync .. => true | .yield _ => true | _ => false
  if !k.sq.run || held || k.spd.zRun then s0
  else if k.sq.startWait && decide (s.dieCount (c / 8) < Nat.max k.sq.ebase.toNat k.sq.startAt) then s0
  else if k.vx.resumeDue && !k.sq.inh && k.vx.run.isNone && !k.sq.stopPend then s0.modCl c Cluster.resumeVx
  else s0.fetchBundle c

/-- R178, R179: a pending cause at an issue point of a running sequencer: no cause of its order goes before the issue-time refusals of the
bundle that would issue there, and its holds and interlocks put the issue point off. -/
def execTrapEntry (c : ClusterId) (s : State) : Ans :=
  .next (
    let q := (s.cl c).sq
    if q.inh || q.nextPend.isNone then s else s.bundle c)

/-- R178, R184: SQR_CTL.STOP: the sequencer stops at its next issue point: at once, or when every hold of its next bundle is spent. -/
def execSequencerStop (c : ClusterId) (s : State) : Ans :=
  .next (
    let s1 := s.modCl c fun k => { k with sq := k.sq.askStop }
    if (s1.cl c).sq.run then s1.bundle c else s1)

/-! Groups of a thread (R151) -/

/-- The x registers that an operation reads, and the one it writes. -/
def thrReads (w : Word32) : List Nat :=
  let o := decScalar w
  scalarReads w
    ++ (if (0x30 ≤ o.sop ∧ o.sop ≤ 0x39) ∨ o.sop = 0x3B ∨ o.sop = 0x3C then [o.rs1] else [])
    ++ (if (0x30 ≤ o.sop ∧ o.sop ≤ 0x33) ∨ o.sop = 0x36 ∨ o.sop = 0x39 then [o.rd] else [])
    ++ (if 0x37 ≤ o.sop ∧ o.sop ≤ 0x39 then [o.imm / 2 ^ 11] else [])

def thrWrites (o : SWord) : Option Nat :=
  if (1 ≤ o.sop ∧ o.sop ≤ 0x20) ∨ o.sop = 0x2A ∨ o.sop = 0x35 ∨ (0x37 ≤ o.sop ∧ o.sop ≤ 0x39) ∨ o.sop = 0x3B then some o.rd else none

/-- What an operation of a group did: the thread goes on in the group, or the group's issue ends here. -/
def State.threadOp (s : State) (site t : Nat) (w : Word32) : State × Bool :=
  let c := site * 8 + 7
  let k := s.cl c
  let o := decScalar w
  match thrGate k t w with
  | .fault code => (s.threadFault site t code, false)
  | .held => (s.modCl c fun k => k.thrStall t w, false)
  | .go =>
    if o.sop = 0x3B then
      let (s1, g) := s.gather site t o.rd o.rs1
      match g with
      | .go => (s1.modCl c fun k => k.modThread t fun h => { h with pc := h.pc + 4 }, true)
      | _ => (s1, false)
    else
      let h0 := k.thread t
      let s1 := s.modCl c fun k => (thrExec k t w).modThread t fun h => { h with pc := thrNextPc h0 w }
      (s1, (thrTarget h0 o).isNone && (s1.cl c).thrReady t && !((s1.cl c).thread t).waits)

/-- R151: operations of a group issue in order, up to the first that depends on an earlier one of this cycle. -/
def State.groupOps (s : State) (site t : Nat) : List Word32 → List Nat → State
  | [], _ => s
  | w :: rest, wrote =>
    let o := decScalar w
    if (thrReads w).any (fun r => r != 0 && wrote.contains r) then s
    else
      let (s1, more) := s.threadOp site t w
      if more then State.groupOps s1 site t rest ((thrWrites o).toList ++ wrote) else s1

/-- R151: the core selects the ready thread after the last one served. -/
def Cluster.nextThread (k : Cluster) : Option Nat :=
  ((List.range 8).map fun i => (k.sx.lastServed + 1 + i) % 8).find? fun t => k.thrReady t && !(k.thread t).waits

/-- R198: one of the core cycles for which a WAITC holds a thread. -/
def Cluster.tickWaits (k : Cluster) : Cluster :=
  { k with sx := { k.sx with thr := k.sx.thr.map fun (t, h) => (t, h.tickWait) } }

/-- R150, R151, R198: one core cycle of an SX cluster's threads. The operation of a group's lowest address is its first (DESIGN CHOICE, log entry
77), and a fetch beyond the end of the scratchpad is the thread's ADDR_BOUND (DESIGN CHOICE, log entry 77). -/
def State.group (s : State) (site : Nat) : State :=
  let c := site * 8 + 7
  let n := (s.cl c).nextThread
  let s := s.modCl c Cluster.tickWaits
  match (if (s.cl c).spd.zRun then none else n) with
  | none => s
  | some t =>
    let s0 := s.modCl c fun k => ({ k with sx := { k.sx with lastServed := t } }).modThread t fun h => { h with hold := .none }
    let pc := ((s0.cl c).thread t).pc
    if pc / 16 * 16 + 16 > spdSize then s0.threadFault site t 2
    else
      let (bs, k1) := (s0.cl c).rd 6 (pc / 16 * 16) 16
      let s1 := s0.modCl c fun _ => k1
      if (k1.thread t).stopPend then s1.modCl c fun k => k.modThread t fun h => { h with run := false, stopPend := false }
      else
        let ws := (List.range 4).map fun i => BitVec.ofNat 32 (le bs (4 * i) 4)
        s1.groupOps site t (ws.drop (pc % 16 / 4)) []

end Sys2Proof.Machine
end

