-- ==== Sys2Proof/Machine/Larre.lean ====
section
/-!
DEFINITION. The meanings of the Estuary engines' and the Larre fabric's events (spec 12).
-/
namespace Sys2Proof.Machine

/-! Framing (R355, R358) -/

/-- R355 step 2: a peer-bound packet at its egress engine is framed; a source whose panel is unreachable gets NAK_ROUTE. -/
def execLarreFraming (n : EngineId) (p : Packet) (s : State) : Ans :=
  .next (
    let port := p.destCluster % 4
    let a := p.addr
    let panel := (a >>> 44) % 65536
    if p.mode = 1 then
      let f := s.mkFrame p.cls 0 panel (farUnit panel (a % 2 ^ 44)) p.src p.tenant p.last (a % 2 ^ 44 + fld 64 p.tag) p.marked
      let r := s.frameOut n port f
      let s1 := r.1
      if !r.2 then (s1.sendNak (engineSite n) nakRouteCode p).raise .nakRoute (0x100 + n) 0 0
      else if p.cls ≠ 0 then s1
      else
        let k := e2eKey p.src panel
        let sum := (Tbl.get 0 s1.larre.e2eSent k + p.len) % 2 ^ 32
        s1.modLarre fun l => { l with e2eSent := Tbl.set l.e2eSent k sum
                                      egress := Tbl.mod [] l.egress (n * 4096 + p.src) fun q => q ++ [⟨panel, sum, p.len⟩] }
    else if p.mode = 2 ∧ p.op = 6 then
      let len := bits p.head 55 42
      let f := s.mkFrame 0 1 panel (farUnit panel (a % 2 ^ 44)) p.src p.tenant p.last (a % 2 ^ 44 + fld 64 (bits p.head 24 0) + fld 96 len + fld 112 (readTag p)) []
      let r := s.frameOut n port f
      if r.2 then r.1.modLarre fun l => { l with reads := l.reads ++ [(p.src, readTag p, len, n.val)] }
      else (r.1.sendNak (engineSite n) nakRouteCode p).raise .nakRoute (0x100 + n) 0 0
    else s)

/-! Reception (R348, R355 to R358) -/

/-- R348, R349: a data frame arrives at a port: a bad one is discarded; a duplicate or a gap is answered. Answers the state and
whether the frame was accepted. -/
def State.larreAccept (s : State) (n p : Nat) (f : Frame) (good : Bool) : State × Bool :=
  if !good || f.kind != 0 || f.len > 8192 then (s.modLport n p fun d => d.bump 0 1, false)
  else
    let (d1, ok, a) := (s.lport n p).receive (s.dieCount (0x100 + n)) f
    let s1 := s.modLport n p fun _ => d1
    (match a with
     | some a => s1.sentAck n p a
     | none => s1, ok)

/-- R355 step 3: a transit frame is looked up by its own edition; unreachable, it is discarded and counted. -/
def State.larreTransit (s : State) (n p : Nat) (f : Frame) : State :=
  match s.toFabric f with
  | some s1 => s1
  | none => s.modLport n p fun d => d.bump 5 1

/-- R351: a frame leaves the receive buffer of its port. -/
def State.leaves (s : State) (n p : Nat) (f : Frame) : State := s.modLport n p fun d => d.leave f

/-- R358: the end-to-end ACK of a pair returned to its source panel. -/
def State.sendE2e (s : State) (n p pair : Nat) : State :=
  let r := Tbl.get {} s.larre.rcvd pair
  let f := s.mkFrame 1 3 (pair / 4096) (pair % 4096) (0x100 + n) 0 false r.bytes []
  (s.frameOut n p f).1.modLarre fun l => { l with rcvd := Tbl.set l.rcvd pair r.acked }

/-- R356 step 1: the plot that a frame names: slot [43:38] of its TENANT. -/
def State.framePlot (s : State) (tenant addr : Nat) : Option (Nat × Plot) :=
  s.ten.plots.find? fun (_, x) => x.valid && x.tenant == tenant && x.slot == (addr >>> 38) % 64

/-- R356 steps 2 and 3: the place that `n` bytes of a frame name, or the reason of its refusal. -/
def State.framePlace (s : State) (tenant addr n : Nat) (wr : Bool) : Except Nat PAddr :=
  match s.framePlot tenant addr with
  | none => .error 1
  | some (i, x) =>
    let a := x.base + addr % 2 ^ 38
    if !x.covers a n then .error 2
    else if !x.grants .peer wr then .error 3
    else if wr && s.isSealed i then .error 4
    else match decodeAddr a with
      | .ok w => if w.inside n then .ok w else .error 2
      | .error _ => .error 2

/-- R356 step 5: a frame refused: counted, and NAK_PLOT on its way to the originating unit. -/
def State.framePlotDrop (s : State) (n p : Nat) (f : Frame) (tag reason : Nat) : State :=
  (((s.modLport n p fun d => d.bump 6 1).noteSeal reason).emit (.peerNak f.spanel.toNat f.sunit.toNat 4 tag)).raise .nakPlot (0x100 + n) p 0

/-- R357: a response frame is written at the return offset of the READ it answers; any other is discarded. -/
def State.larreResponse (s : State) (n p : Nat) (f : Frame) : State :=
  let u := f.dunit.toNat % 4096
  match s.larre.reads.find? fun x => x.1 == u && x.2.1 == f.dirTag with
  | none => s.modLport n p fun d => d.bump 5 1
  | some (src, tag, left, m) =>
    let s1 := s.modLarre fun l => { l with reads := if left ≤ f.len then l.reads.erase (src, tag, left, m)
                                                    else l.reads.map fun x => if x == (src, tag, left, m) then (src, tag, left - f.len, m) else x }
    let c := u % 512 * 8 + u / 512
    (if u % 512 < 192 then s1.writeAt (0x100 + m) f.tenant false f.marked (.spd c (f.addr % 2 ^ 25)) else s1).ackRead src (0x100 + m) f.len

/-- R356 step 6, R358: a peer's data written at its place and accepted, with the end-to-end ACK that is due. -/
def State.writeFrame (s : State) (n p : Nat) (f : Frame) (w : PAddr) : State :=
  let s2 := if f.len = 0 then s else s.writeAt (0x100 + n) f.tenant false f.marked w
  let pair := f.spanel.toNat * 4096 + f.sunit.toNat % 4096
  let (r, due) := (Tbl.get {} s2.larre.rcvd pair).accept (s2.dieCount (0x100 + n)) f.len f.last false
  let s3 := s2.modLarre fun l => { l with rcvd := Tbl.set l.rcvd pair r }
  if due then s3.sendE2e n p pair else s3

/-- 09 R280: the frame of an engine that waits under a REQID. -/
def Larre.waitFrame (l : Larre) (src reqid : Nat) : Option (Nat × Nat × Nat × Frame) :=
  l.waiting.find? fun x => 0x100 + x.1 == src && x.2.2.1 == reqid
/-- 09 R280: the lowest REQID that none of an engine's waiting frames uses. -/
def Larre.freeReq (l : Larre) (n : Nat) : Option Nat := (List.range 32).find? fun i => (l.waitFrame (0x100 + n) i).isNone

/-- 08 R231, 09 R280: the perimeter router asks for the range of a peer's write into a scratchpad; the frame waits for the grant. -/
def State.askFrame (s : State) (n p : Nat) (f : Frame) (c o reqid : Nat) : State :=
  (s.modLarre fun l => { l with waiting := l.waiting ++ [(n, p, reqid, f)] }).sendCtl (engineSite n)
    (weirReqPacket (c % 8 * 512 + c / 8) (0x100 + n) false reqid f.len o)

/-- R351, R356: a peer's write is placed: refused, written (and so out of its receive buffer), or, into a scratchpad, waiting for its Weir
range; with 32 of the engine's waiting, or while its stack's shapers hold it, it stays in its receive buffer. The crossing of Delta from the engine to the unit, and its
acknowledgement, take no step (log entry 74). -/
def State.placeFrame (s : State) (n p : Nat) (f : Frame) : State :=
  match s.framePlace f.tenant f.addr f.len true with
  | .error r => (s.framePlotDrop n p f f.dirTag r).leaves n p f
  | .ok (.spd c o) =>
    if f.len = 0 then (s.writeFrame n p f (.spd c o)).leaves n p f
    else match s.larre.freeReq n with
      | some r => s.askFrame n p f c o r
      | none => s.modLarre fun l => { l with buffered := l.buffered ++ [(n, p, f)] }
  | .ok w =>
    if s.memHolds (0x100 + n) f.tenant w then s.modLarre fun l => { l with buffered := l.buffered ++ [(n, p, f)] }
    else (s.writeFrame n p f w).leaves n p f

/-- R351, 11 R330: a write that waits in a receive buffer can be placed now: its engine has a REQID free, and its stack's shapers pass it. -/
def State.mayPlace (s : State) (n : Nat) (f : Frame) : Bool :=
  match s.framePlace f.tenant f.addr f.len true with
  | .ok (.spd _ _) => f.len == 0 || (s.larre.freeReq n).isSome
  | .ok w => !s.memHolds (0x100 + n) f.tenant w
  | .error _ => true

/-- R351: the writes that wait in an engine's receive buffers are placed, in the order of their arrival, while they can be. -/
def State.placeBuffered (s : State) (n : Nat) : Nat → State
  | 0 => s
  | fuel + 1 =>
    match s.larre.buffered.find? fun x => x.1 == n with
    | some (m, p, f) =>
      if s.mayPlace m f then ((s.modLarre fun l => { l with buffered := l.buffered.erase (m, p, f) }).placeFrame m p f).placeBuffered n fuel else s
    | none => s

/-- 09 R280: the grant has come: the frame is written, and its range released. -/
def State.frameGranted (s : State) (src c reqid : Nat) : State :=
  match s.larre.waitFrame src reqid with
  | none => s
  | some (n, p, _, f) =>
    let s1 := s.modLarre fun l => { l with waiting := l.waiting.filter fun x => !(0x100 + x.1 == src && x.2.2.1 == reqid) }
    let s2 := match s1.framePlace f.tenant f.addr f.len true with
      | .error r => s1.framePlotDrop n p f f.dirTag r
      | .ok w => s1.writeFrame n p f w
    let s3 := s2.modCl c fun k => { k with spd := { k.spd with weir := k.spd.weir.filter fun (_, w) => w.xfer != remoteXfer + src * 32 + reqid } }
    (s3.leaves n p f).placeBuffered n s3.larre.buffered.length

/-- 08 R242: a response into a scratchpad under zeroization. -/
def State.responseHeld (s : State) (f : Frame) : Bool :=
  let u := f.dunit.toNat % 4096
  f.dpanel.toNat == s.identity && f.mode == 0 && f.cls == 1 && decide (u % 512 < 192) && s.memHolds 0x100 f.tenant (.spd (u % 512 * 8 + u / 512) 0)

/-- R351, R355, R356: a Direct frame. A fabric control frame passes the same link checks; what it says reaches the Confluence agent by the
agent's own commands (14). A write goes behind those of its engine that wait in their receive buffers; a response waits for none. A response
into a scratchpad under zeroization is held (08 R242). -/
def State.directFrame (s : State) (n p : Nat) (f : Frame) (good : Bool) : State :=
  if (f.mode ≠ 0 ∧ f.mode ≠ 2 ∧ good) ∨ s.responseHeld f then s
  else
    let (s1, ok) := s.larreAccept n p f good
    if !ok then s1
    else if f.dpanel.toNat ≠ s.identity then (s1.larreTransit n p f).leaves n p f
    else if f.mode = 2 then s1.leaves n p f
    else if f.cls = 1 then (s1.larreResponse n p f).leaves n p f
    else if s1.larre.buffered.any fun x => x.1 == n then s1.modLarre fun l => { l with buffered := l.buffered ++ [(n, p, f)] }
    else s1.placeFrame n p f

def execLarreDirect (n : EngineId) (p : Fin 4) (f : Frame) (good : Bool) (s : State) : Ans := .next (s.directFrame n p f good)

/-- R357: the response frame to a READ, with the bytes read. -/
def readAnswer (n p : Nat) (f : Frame) (r : List PByte × State) : State :=
  r.2.sendFrame n p (r.2.mkFrame 1 0 f.spanel.toNat f.sunit.toNat (0x100 + n) f.tenant true (f.retOff + fld 64 f.readTag) r.1)

/-- R357: a READ frame is issued here and answered by a response frame; `data` are the bytes that host memory returned. One that reaches
a scratchpad under zeroization, or a stack whose shapers hold it, is held (08 R242, 11 R330). -/
def State.readFrame (s : State) (n p : Nat) (f : Frame) (good : Bool) (data : List Byte) : State :=
  if f.mode ≠ 1 ∧ good then s
  else
    let r := s.larreAccept n p f good
    let s1 := r.1
    if !r.2 then s1
    else if f.dpanel.toNat ≠ s.identity then (s1.larreTransit n p f).leaves n p f
    else match s1.framePlace f.tenant f.addr f.readLen false with
      | .error e => (s1.framePlotDrop n p f f.readTag e).leaves n p f
      | .ok w => if s.memHolds (0x100 + n) f.tenant w then s else (readAnswer n p f (s1.readAt (0x100 + n) f.tenant false data f.readLen w)).leaves n p f

def execLarreRead (n : EngineId) (p : Fin 4) (f : Frame) (good : Bool) (data : List Byte) (s : State) : Ans :=
  .next (s.readFrame n p f good data)

/-- R358: the Delta ACKs that end-to-end counts now cover, in the order that a source sent. -/
def releaseEgress (acked : Nat → Nat) : List Egress → Nat × List Egress
  | [] => (0, [])
  | e :: t =>
    if (acked e.panel + 2 ^ 32 - e.upTo) % 2 ^ 32 < 2 ^ 31 then
      let (n, r) := releaseEgress acked t
      (e.len + n, r)
    else (0, e :: t)

def State.ackEgress (s : State) (m src : Nat) : State :=
  let k := m * 4096 + src
  let (n, rest) := releaseEgress (fun panel => Tbl.get 0 s.larre.e2eAcked (e2eKey src panel)) (Tbl.get [] s.larre.egress k)
  if n = 0 then s
  else
    let sum := (Tbl.get 0 s.larre.delta k + n) % 2 ^ 32
    (s.modLarre fun l => { l with egress := Tbl.set l.egress k rest, delta := Tbl.set l.delta k sum }).sendCtl (engineSite m)
      (ackPacket src (0x100 + m) false sum)

/-- R358: an end-to-end ACK reaches the panel of its source. -/
def State.e2eFrame (s : State) (n p : Nat) (f : Frame) (good : Bool) : State :=
  if f.mode ≠ 3 ∧ good then s
  else
    let (s0, ok) := s.larreAccept n p f good
    let s1 := if ok then s0.leaves n p f else s0
    if !ok then s1
    else if f.dpanel.toNat ≠ s.identity then s1.larreTransit n p f
    else
      let src := f.dunit.toNat % 4096
      let k := e2eKey src f.spanel.toNat
      let v := bits f.body 31 0
      let old := Tbl.get 0 s1.larre.e2eAcked k
      let d := (v + 2 ^ 32 - old) % 2 ^ 32
      let s2 := s1.modLarre fun l => { l with e2eAcked := Tbl.set l.e2eAcked k v }
      if d ≥ 2 ^ 31 then s1
      else if 192 ≤ src ∧ src < 240 then s2.copiesAcked d
      else (List.range 36).foldl (fun s m => s.ackEgress m src) s2

def execLarreE2eAck (n : EngineId) (p : Fin 4) (f : Frame) (good : Bool) (s : State) : Ans := .next (s.e2eFrame n p f good)

/-! Link acknowledgement (R349, R350) -/

/-- R350, 13 R397: the replay timer has expired before count `now`: every ACK stamped at the expiry has been applied, and every unacknowledged
frame is sent again. -/
def State.replayDue (s : State) (n p : Nat) : State :=
  let d := s.lport n p
  let now := s.dieCount (0x100 + n)
  match d.expiry with
  | some t =>
    if t < now ∧ !d.frozen then
      let (d1, fs) := d.replayAll now
      (s.modLport n p fun _ => d1.bump 4 1).sentFrames n p fs
    else s
  | none => s

/-- R349 to R352: an ACK at the sender; one that fails its CRC is discarded. A replay timer that expired before it has replayed first. Counts that
leave the book of a class's credits out of balance are reported by the Surveyor (R369). -/
def execLarreAck (n : EngineId) (p : Fin 4) (retry sync : Bool) (aseq : BitVec 12) (freed : List (BitVec 24)) (good : Bool) (s0 : State) : Ans :=
  .next (
    if !good then s0.modLport n p fun d => d.bump 0 1
    else
      let s := s0.replayDue n p
      let (d, fs) := (s.lport n p).ack (s.dieCount (0x100 + n)) ⟨retry, sync, aseq.toNat, freed.map (·.toNat)⟩
      let s1 := ((s.modLport n p fun _ => d).sentFrames n p fs).pumpLarre n p
      if (List.range 4).all d.balances then s1 else s1.raiseSv .bookImbalance (0x100 + n) p 0)

/-- R349, R358: the ACK interval after the oldest frame accepted and not acknowledged; the end-to-end ACKs that are due go with it. -/
def execLarreAckTimer (n : EngineId) (p : Fin 4) (s : State) : Ans :=
  .next (
    let d := s.lport n p
    let now := s.dieCount (0x100 + n)
    let s1 := match d.oldestAcc with
      | some t => if t + 100 * d.ackus ≤ now then
          let (d1, a) := d.makeAck false false
          (s.modLport n p fun _ => d1).sentAck n p a
        else s
      | none => s
    s1.larre.rcvd.foldl (fun s (k, r) => match r.oldest with
      | some t => if t + 1000 ≤ now then s.sendE2e n p k else s
      | none => s) s1)

/-- R350: the replay timer expires. -/
def execReplayTimerExpiry (n : EngineId) (p : Fin 4) (s : State) : Ans := .next (s.replayDue n p)

/-! Retrain (R361, R362) -/

/-- An end of a Larre link asks for a procedure; one at a time. From here the books are frozen (R352). -/
def State.askLarre (s : State) (n p : Nat) (r : RtReq) : State :=
  let d := s.lport n p
  if d.own.isSome || d.state != 2 then s
  else (s.modLport n p fun d => { d with own := some r, need := none, state := if r.kind = 3 then 4 else 3, frozen := true }).emit
    (.link (n * 4 + p) 4 [r.kind, r.reason, r.depth])

/-- R346: RT_DONE leaves a port. -/
def State.sentDone (s : State) (n p : Nat) (up : Bool) : State := s.emit (.link (n * 4 + p) 6 [if up then 1 else 0])

/-- R361 steps 4 and 5: IDENT is compared with the expected peer: another peer starts a new link. A SYNC ACK follows, and RT_DONE from the end
that initiated a procedure. -/
def execLarreIdent (n : EngineId) (p : Fin 4) (panel : Half) (engine port : Byte) (eui : Word) (s : State) : Ans :=
  .next (
    let d := s.lport n p
    if d.state = 0 then s
    else
      let self := decide (panel.toNat = s.identity ∨ eui = s.gaz.eui)
      let other : Bool := match d.peerEui with
        | some e => e != eui || d.peerPanel != panel.toNat
        | none => false
      let d1 : LPort := if other || d.peerEui.isNone then d.newLink else d
      let d2 : LPort := { d1 with idbad := d1.idbad || self || other, peerEui := some eui, peerPanel := panel.toNat,
                                  peerEngine := engine.toNat % 64, peerPort := port.toNat % 4 }
      let (d3, a) := d2.makeAck false true
      let s1 := (s.modLport n p fun _ => d3).sentAck n p a
      if d.state = 3 ∧ d.init then s1.sentDone n p true else s1)

/-- R361, R362: an RT_REQ: accepted, waiting, or a race, which the lower EUI-64 initiates. -/
def execLarreRtReq (n : EngineId) (p : Fin 4) (kind reason depth : Byte) (s : State) : Ans :=
  .next (
    let d := s.lport n p
    let r : RtReq := ⟨kind.toNat, reason.toNat, depth.toNat⟩
    let st := if r.kind = 3 then 4 else 3
    if r.kind = 0 ∨ 3 < r.kind ∨ d.state < 2 then s
    else match d.own with
      | some o =>
        if s.gaz.eui.toNat < ((d.peerEui.getD 0).toNat) then s.modLport n p fun d => { d with race := true, init := true }
        else (s.modLport n p fun d => { d with race := true, init := false, own := none, need := some o, converted := o.kind, state := st }).emit
          (.link (n * 4 + p) 5 [128 + o.kind])
      | none =>
        if d.state = 3 ∨ d.state = 4 then s.modLport n p fun d => { d with waiting := some r }
        else (s.modLport n p fun d => { d with init := false, state := st, frozen := true, converted := 0 }).emit (.link (n * 4 + p) 5 [128]))

/-- R362: an RT_RSP: the end that asked initiates. Where it is refused the port goes on, its books frozen until a SYNC ACK (R352), which it
sends too; a loopback that was refused does not run. -/
def execLarreRtRsp (n : EngineId) (p : Fin 4) (accept : Bool) (converted : BitVec 4) (s : State) : Ans :=
  .next (
    let d := s.lport n p
    match d.own with
    | none => s
    | some r =>
      if accept then s.modLport n p fun d => { d with own := none, init := true, race := d.race || decide (converted.toNat ≠ 0) }
      else
        let (d1, a) := ({ d with own := none, state := 2 } : LPort).makeAck false true
        let s1 := (s.modLport n p fun _ => d1).sentAck n p a
        s1.modEng n fun e => Engine.settle (if r.kind = 3 then { e with lbGo := e.lbGo && e.runPort != p } else e))

/-- R361: a port that goes down is reported; a loopback that waited for it does not run. -/
def State.larreDown (s : State) (n p : Nat) : State :=
  ((s.modLport n p LPort.goDown).modEng n fun e => Engine.settle { e with lbGo := e.lbGo && e.runPort != p }).raise .linkDown (0x100 + n) p 0

/-- R361 step 5, R362: RT_DONE: the port is up, or down; the end that did not initiate answers it. A request that waited is taken up; the end
that lost a race asks again where its own need remains: every procedure has trained the link anew, so that of a lost request only a loopback's
need remains. -/
def execLarreRtDone (n : EngineId) (p : Fin 4) (up : Bool) (s : State) : Ans :=
  .next (
    let d := s.lport n p
    if d.state ≠ 3 ∧ d.state ≠ 4 then s
    else
      let s0 := if d.init then s else s.sentDone n p up
      if !up then s0.larreDown n p
      else
        let s1 := (s0.modLport n p fun d => ({ d with state := 2, fails := 0, converted := 0, waiting := none }).bump 7 1).modEng n Engine.settle
        match d.waiting, d.need with
        | some r, _ => (s1.modLport n p fun d => { d with init := false, state := if r.kind = 3 then 4 else 3, frozen := true }).emit (.link (n * 4 + p) 5 [128])
        | none, some r => if r.kind = 3 then (s1.askLarre n p r).modEng n Engine.settle else (s1.modLport n p fun d => { d with need := none }).pumpLarre n p
        | none, none => s1.pumpLarre n p)

/-- R361 step 3: the lanes on which a port resumes: all of them, or the lowest healthy half of an 8- or 16-lane Larre port. -/
def resumeLanes (split p role : Nat) (lock : Half) : Option (List Nat × Bool) :=
  let ls := portLanes split p
  let ok (l : List Nat) : Bool := l.all lock.getLsbD
  if ok ls then some (ls, false)
  else if role ≠ 1 ∨ split = 2 then none
  else
    let h := ls.length / 2
    if ok (ls.take h) then some (ls.take h, true) else if ok (ls.drop h) then some (ls.drop h, true) else none

/-- R361 steps 3 and 4: optical and FEC lock ends: IDENT follows; three failures in a row take the port down, which RT_DONE tells the other
end. -/
def execLarreRetrainLock (n : EngineId) (p : Fin 4) (lock : Half) (s : State) : Ans :=
  .next (
    let d := s.lport n p
    let e := s.larre.engine n
    if d.state ≠ 3 then s
    else
      let mask := BitVec.ofNat 16 (((portLanes e.split p).map fun l => 2 ^ l).sum)
      let s0 := s.modEng n fun e => { e with lock := (e.lock &&& ~~~mask) ||| (lock &&& mask) }
      match resumeLanes e.split p e.role lock with
      | some (_, red) =>
        (s0.modLport n p fun d => { d with widthred := red }).sentIdent n p
      | none =>
        if d.fails + 1 ≥ 3 then ((s0.modLport n p fun d => { d with fails := 0 }).sentDone n p false).larreDown n p
        else s0.modLport n p fun d => { d with fails := d.fails + 1 })

/-- R361, R373: FEC codewords are counted; UNCTHR uncorrected ones in 1 ms ask for a retrain of a Larre port (reason 1). -/
def execFecUncorrectedThreshold (n : EngineId) (p : Fin 4) (corrected uncorrected : Word32) (s : State) : Ans :=
  .next (
    let d := s.lport n p
    let s1 := s.modEng n fun e => { e with fecc := satAdd 0xFFFFFFFF e.fecc corrected.toNat, fecu := satAdd 0xFFFFFFFF e.fecu uncorrected.toNat }
    if uncorrected.toNat < d.uncthr then s1
    else
      let s2 := s1.modEng n fun e => { e with unchi := true }
      if (s.larre.engine n).role = 1 then s2.askLarre n p ⟨1, 1, 0⟩ else s2)

/-- R361: a lane loses lock: its port asks for a retrain (reason 2). -/
def execLaneLockLoss (n : EngineId) (lane : Fin 16) (s : State) : Ans :=
  .next (
    let e := s.larre.engine n
    let s1 := s.modEng n fun e => { e with lol := true, lock := putBit e.lock lane false }
    match (List.range (splitPorts e.split)).find? fun p => (portLanes e.split p).contains lane.val with
    | some p => if e.role = 1 then s1.askLarre n p ⟨1, 2, 0⟩ else s1
    | none => s1)

/-! Editions (R359, R360) -/

/-- R359 step 1: a table and its CRC-32 for the free slot; answers the status of the write, which an open vote refuses too
(14 R411). -/
def State.larreTable (s : State) (bs : List Byte) : FCode × State :=
  if bs.length ≠ 65540 then (.lengthMismatch, s)
  else if s.larre.oldPend || s.cnf.vote.isSome then (.busy, s)
  else
    let body := bs.take 65536
    if leNat (bs.drop 65536) ≠ crc32 body then (.crcMismatch, s)
    else
      let t : Tbl Byte := (body.mapIdx fun i b => (i, b)).filter fun x => x.2 != 0xFF
      (.ok, s.modLarre fun l => l.setTab (!l.cur) t)

def execLarreEditionWrite (data : List Byte) (s : State) : Ans := .next (s.larreTable data).2

/-- R359 step 2: T_sw at least one tick ahead arms the switch. -/
def State.larreArm (s : State) (tsw : Word) : FCode × State :=
  if tsw.toNat * 100000 < s.mcount + 100000 then (.valueRange, s)
  else if s.cnf.vote.isSome then (.busy, s)
  else (.ok, s.modLarre fun l => l.arm (tsw.toNat * 100000))

def execLarreEditionArm (tsw : Word) (s : State) : Ans := .next (s.larreArm tsw).2

/-- R359 step 3: at T_sw the new edition is looked up and stamped. -/
def execLarreEditionSwitch (s : State) : Ans :=
  .next s.larreDue

/-- R359 step 4, R360: the old-edition counts are latched and summed. -/
def execLarreOldcntLatch (s : State) : Ans :=
  .next (
    let me := s.identity
    let cs := (List.range 36).map fun n => (n, s.larre.oldFrames n (s.dieCount (0x100 + n)) me)
    s.modLarre fun l => { l with oldTick := tickOf s.mcount, oldCnt := cs, oldSum := (cs.map (·.2)).sum })

/-- R359 step 5: the draining edition's slot is freed, where the panel's own sum is 0. -/
def State.larreRetire (s : State) : FCode × State :=
  if s.larre.oldSum ≠ 0 then (.busy, s)
  else (.ok, if s.larre.oldPend then s.modLarre Larre.retireOld else s)

def execLarreEditionRetire (s : State) : Ans := .next s.larreRetire.2

/-! The Ethernet role (R363, R364; 15 R446) -/

/-- 15 R446: a datagram's record placed in a channel's window: length, sequence number, payload, aligned to 64 bytes. -/
def State.ethRecord (s : State) (i : Nat) (payload : List Byte) : State :=
  let c := s.ten.chan i
  let bs := leBytes 4 payload.length ++ leBytes 4 c.ethSeq ++ payload
  let off := if c.ethOff + bs.length ≤ c.winLen then c.ethOff else 0
  if bs.length > c.winLen ∨ s.memHoldsAt 0x100 c.tenant (c.win + off) then s
  else
    let s1 := s.modTen fun t => t.modChan i fun c => { c with ethOff := off + cdiv bs.length 64 * 64, ethSeq := (c.ethSeq + 1) % 2 ^ 32 }
    match decodeAddr (c.win + off) with
    | .ok w => s1.writeAt 0x100 c.tenant false (bs.map fun b => (b, false)) w
    | .error _ => s1

/-- R363, R364: what an Ethernet-role port receives. A Larre frame over Ethernet is taken where it comes from the port's peer. -/
def execEthernetFrame (n : EngineId) (p : Fin 4) (f : EthFrame) (s : State) : Ans :=
  .next (
    let e := s.larre.engine n
    let drop := s.modEng n fun e => { e with drop := satAdd 0xFFFFFFFF e.drop 1 }
    if e.role ≠ 2 then s
    else match f with
      | .larre fromPeer g good data =>
        if !fromPeer then s
        else if g.mode = 0 ∨ g.mode = 2 ∨ !good then s.directFrame n p g good
        else if g.mode = 1 then s.readFrame n p g good data
        else s.e2eFrame n p g good
      | .udp (some h) _ _ _ payload => if s.ten.current h.toNat then s.ethRecord (handleIndex h.toNat) payload else s.modTen Tenancy.countStale
      | .udp none _ _ _ _ => drop
      | .pause vector quanta =>
        s.modLport n p fun d => { d with paused := (List.range 8).foldl (fun t i =>
          if vector.getLsbD i then Tbl.set t i (s.dieCount (0x100 + n) + cdiv ((quanta.getD i 0).toNat * 512) (e.rate * 8)) else t) d.paused }
      | .solicitation => s.emit (.advertise (n * 4 + p))
      | .other => drop)

/-! The Oxbow (R365 to R367) -/

/-- R367: a ring pair's bypass opens if every condition holds. -/
def State.oxbowOpen (s : State) (i : Nat) : State :=
  let o := s.larre.oxbow i
  let d3 (n : Nat) : Bool := !(s.larre.engine n).passedD3.isEmpty
  if o.pair && o.closed && o.moving.isNone && o.released && s.mer.unit.t.locked && d3 (18 * i) && d3 (18 * i + 1) then
    s.modLarre fun l => l.modOxbow i fun o => { o with moving := some false }
  else s

/-- R367: 0x5205 (no pair named) releases and opens the declared bypasses; EST_OXB.OPEN opens one. -/
def execOxbowOpen (pair : Option (Fin 2)) (s : State) : Ans :=
  .next (
    match pair with
    | some i => s.oxbowOpen i
    | none => (List.range 2).foldl (fun s i => (s.modLarre fun l => l.modOxbow i fun o => { o with released := o.released || o.pair }).oxbowOpen i) s)

/-- R366: EST_OXB.CLOSE, or the loss of its hold. -/
def execOxbowClose (pair : Fin 2) (s : State) : Ans := .next (s.modLarre fun l => l.modOxbow pair Oxbow.close)

/-- R367: the bypass has moved: the ports of the pair lose their links, and train anew where it opened. -/
def execOxbowMoveComplete (pair : Fin 2) (s : State) : Ans :=
  .next (
    match (s.larre.oxbow pair).moving with
    | none => s
    | some b =>
      let s1 := s.modLarre fun l => l.modOxbow pair fun o => { o with closed := b, moving := none }
      [18 * pair.val, 18 * pair.val + 1].foldl (fun s n => s.modEng n fun e =>
        Engine.settle { e with ports := (List.range (splitPorts e.split)).map fun p =>
          (p, { (e.port p).goDown with state := if b || !e.laser then 0 else 1 }) }) s1)

/-! Loopbacks and counters (R368, R372, R373, R376) -/

/-- R368, R372: EST_LB.GO: DEPTH outside 1 to 4, and D4 on an Ethernet port, refuse it. A port with no link is looped at once, but for
D4; one in a procedure is withdrawn once that is done. -/
def State.estLoopback (s : State) (n p depth pat : Nat) : State :=
  let e := s.larre.engine n
  let d := e.port p
  if depth = 0 ∨ 4 < depth ∨ (depth = 4 ∧ e.role ≠ 1) ∨ e.lbGo ∨ splitPorts e.split ≤ p ∨ e.role = 0 then s
  else
    let go := s.modEng n fun e => { e with lbGo := true, lbDepth := depth, lbPat := pat, lbPort := p, runPort := p, runDepth := depth }
    if d.state = 2 ∧ d.own.isNone then (go.askLarre n p ⟨3, 0, depth⟩).modEng n Engine.settle
    else if 2 ≤ d.state then (go.modLport n p fun d => { d with need := some ⟨3, 0, depth⟩ }).modEng n Engine.settle
    else if d.state ≤ 1 ∧ depth ≠ 4 then (go.modLport n p fun d => { d with state := 4, frozen := false }).modEng n Engine.settle
    else s

def execEstuaryLoopback (n : EngineId) (p : Fin 4) (depth : BitVec 3) (pat : BitVec 4) (s : State) : Ans :=
  .next (s.estLoopback n p depth.toNat pat.toNat)

/-- R368: after 10 ms of pattern the result is recorded, and the port returns by R361 steps 3 to 5, or to training. -/
def execEstuaryLoopbackEnd (n : EngineId) (errors : Word32) (s : State) : Ans :=
  .next (
    let e := s.larre.engine n
    let d := e.port e.runPort
    if !e.lbGo || d.state != 4 then s
    else
      let ok := errors.toNat == 0
      ((s.modEng n fun e => { e with lbGo := false, lbDone := true, lbPass := ok, lbErrs := Nat.min (2 ^ 20 - 1) errors.toNat
                                     passedD3 := if ok && e.runDepth == 3 then e.runPort :: e.passedD3 else e.passedD3 }).modLport n e.runPort fun d =>
        { d with state := if d.frozen then 3 else if e.laser then 1 else 0 }).modEng n Engine.settle)

/-- R373: a read of EST_FECC, EST_FECU or EST_DROP clears it. -/
def execEstCounterRead (n : EngineId) (which : Fin 3) (s : State) : Ans :=
  .next (s.modEng n fun e => if which.val = 0 then { e with fecc := 0 } else if which.val = 1 then { e with fecu := 0 } else { e with drop := 0 })

/-- R376: a read of an LRL counter clears it. -/
def execLrlCounterRead (n : EngineId) (p : Fin 4) (which : Fin 8) (s : State) : Ans :=
  .next (s.modLport n p fun d => { d with counters := Tbl.erase d.counters which })

end Sys2Proof.Machine
end

