-- ==== Sys2Proof/Machine/Meridian.lean ====
section
/-!
DEFINITION. The meanings of the Meridian's events, the slot calendar, and the passing of time (spec 13).
-/
namespace Sys2Proof.Machine

/-! What the events share -/

def State.modUnit (s : State) (f : MerUnit → MerUnit) : State := s.modMer fun m => { m with unit := f m.unit }
def State.modDie (s : State) (u : Nat) (f : DieTime → DieTime) : State := s.modMer fun m => m.modDie u f

/-- The units that hold a count of their own: sites, base dies, engines, the Surveyors and the host-port dies. -/
def dieUnits : List Nat := List.range 240 ++ span 0x100 36 ++ span 0x140 4

/-- The count in 2^-16 ns. -/
def State.fine16 (s : State) : Nat := s.mer.unit.t.fine s.now / 2 ^ 16

/-- R382: the relay is to close; what closes it stays until the next start where RCLOSE was written. -/
def MerUnit.closeRelay (u : MerUnit) : MerUnit := if u.relay && u.target.isNone then u else { u with target := some true }

/-- R382: a locked unit opens its relay where nothing holds it closed. -/
def MerUnit.openRelay (u : MerUnit) : MerUnit :=
  if u.t.locked && u.relay && u.target.isNone && !u.rclosed && !u.ufault then { u with target := some false } else u

/-- R379: CRC-8, polynomial 0x07, initial value 0, over the bits of a value of `n` bits, most significant first. -/
def crc8 (n v : Nat) : Nat :=
  (List.range n).foldl (fun r i =>
    let fb := (r / 128 % 2 == 1) != v.testBit (n - 1 - i)
    let r1 := r * 2 % 256
    if fb then Nat.xor r1 7 else r1) 0

/-- R387, R390: a valid reference at count `cap`, expected at `exp` (2^-16 ns); a divergence is reported, a locked unit opens its
relay. -/
def State.reference (s : State) (cap exp : Nat) : State :=
  let (u, dv) := s.mer.unit.reference s.now cap exp
  let s1 := s.modUnit fun _ => u.openRelay
  if dv then s1.raiseSv .timeDiverge (0x140 + s.fw.active) 0 s1.mer.unit.statWord else s1

/-! The unit's inputs (R378 to R384, R390) -/

/-- 20 R535, R539: Meridian time is kept from part 2 of a start on; a panel held at level 0 keeps none. -/
def State.merOn (s : State) : Bool := decide (2 ≤ s.boot.part) && !s.boot.stopped

/-- R378, R390: the on-time edge of a second, `sub` 2^-16 ns after the time-base edge. Where the edge before it had no frame, that frame is
missing. -/
def execPpsOnTimeEdge (sub : Half) (s : State) : Ans :=
  .next (if s.merOn && s.mer.unit.src == 0 then
      s.modUnit fun u => { (if u.capture.isSome then u.miss s.now 2 else u) with capture := some (s.fine16 + sub.toNat) }
    else s)

/-- R379, R380: a time frame is complete: `timing` tells that its cells kept their timing. -/
def execTimeFrame (edge : Word) (pos flags crc : Byte) (timing : Bool) (s : State) : Ans :=
  .next (
    let u := s.mer.unit
    let own := s.obj 0x5301 0
    let body := edge.toNat * 65536 + pos.toNat * 256 + flags.toNat
    if !s.merOn || u.src != 0 then s
    else if !timing || crc8 80 body != crc.toNat || edge.toNat % 1000000000 != 0 then
      s.modUnit fun u => ({ u with frerr := true, capture := none }).miss s.now 2
    else if pos.toNat ≠ 0xFF ∧ own ≤ pos.toNat then s.modUnit fun u => ({ u with posbad := true, capture := none }).miss s.now 2
    else
      let b := if pos.toNat = 0xFF then own else own - pos.toNat - 1
      let s1 := s.modUnit fun u => { u with tod := edge, rpos := pos.toNat, byp := b, capture := none }
      match u.capture with
      | none => s1
      | some cap => s1.reference cap (expectedEdge edge.toNat (s.obj 0x5302 0) (s.obj 0x5303 0) b))

/-- R383: the port that 0x5304 names is in the Ethernet role. -/
def State.ptpPort (s : State) : Bool :=
  let v := s.obj 0x5304 0
  let n := v / 4 % 64
  decide (n < 36) && (s.larre.engine n).role == 2 && decide (v % 4 < splitPorts (s.larre.engine n).split)

/-- R383: a PTP time as a count in 2^-16 ns. -/
def ptpCount (sec : BitVec 48) (ns : Word32) : Nat := (sec.toNat * 1000000000 + ns.toNat) * 2 ^ 16

/-- R383: the count, in 2^-16 ns, that an exchange expects at its Sync, which the panel captured at `t2`: the Sync's time and the path delay, the
mean of the two directions. -/
def ptpExpected (x : PtpExchange) (t2 : Nat) : Nat :=
  let t1 : Int := ptpCount x.sec1 x.ns1
  let t4 : Int := ptpCount x.sec4 x.ns4
  (t1 + ((t2 - t1) + (t4 - x.sent.toNat)) / 2).toNat

/-- R383, R387, R390: a Sync interval ends: its exchange with the Sync that the unit captures now, or none was valid. A message of another PTP
domain than that of 0x5304 is no message for this clock. -/
def execPtpSync (x : Option PtpExchange) (s : State) : Ans :=
  .next (
    if !s.merOn || s.mer.unit.src != 1 || !s.ptpPort then s
    else match x with
      | some e => if e.domain.toNat = s.obj 0x5304 0 / 256 % 256 then s.reference s.fine16 (ptpExpected e s.fine16) else s
      | none => s.modUnit fun u => u.miss s.now 4)

/-- R390: MERID_IN shows no edge for 1 µs. -/
def execMeridInLoss (s : State) : Ans := .next (if s.merOn && s.mer.unit.src == 0 then s.modUnit fun u => u.enterHold s.now else s)

/-- R384: the unit runs from its local oscillator, its count from 0 (log entry 35: it then counts as locked). -/
def MerUnit.local (u : MerUnit) (now : Nat) : MerUnit :=
  { u with src := 2, hold := false, t := { u.t.setCount now 0 with locked := true, ever := true, integ := 0, inc := 0x100000000 } }

/-- R384: no valid reference 2 s after the unit started. -/
def execLocalOscillatorFallback (s : State) : Ans :=
  .next (
    let u := s.mer.unit
    if !s.merOn ∨ u.src = 2 ∨ u.seenRef ∨ s.now < u.startAt + 2000000000 then s
    else s.modUnit fun u => (MerUnit.local u s.now).openRelay)

/-! The dies (R385, R386) -/

/-- R388: an accepted step moves every count at the tick. -/
def State.applyStep (s : State) : State :=
  match s.mer.unit.stepPend with
  | none => s
  | some c =>
    let x := c.toNat * 2 ^ 16
    let s1 := s.modUnit fun u => { u with t := u.t.setCount s.now x, stepPend := none, hold := false, diverge := false, stay := false, missed := 0, lastErr := none, capture := none }
    dieUnits.foldl (fun s d => s.modDie d fun y => { y with t := y.t.setCount s.now (x + y.tdly) }) s1

/-- R385, R386, R391: a die receives the marker of a tick with the tick's number and its CRC-8, or, where the CRC fails, misses it. The unit sends
the number of its own tick and no other. -/
def execMeridianMarker (unit : BitVec 9) (tick : BitVec 48) (crc : Byte) (s : State) : Ans :=
  .next (
    if !s.merOn then s
    else if crc8 48 tick.toNat ≠ crc.toNat then s.modDie unit.toNat fun d => { d with mmiss := true }
    else if tick.toNat ≠ tickOf s.mcount % 2 ^ 48 then s
    else s.modDie unit.toNat fun d => { d.marker s.now tick.toNat with msrc := s.fw.active == 1 })

/-- R386: a die unlocked for 100 ms is masked. -/
def execDieUnlockedTimeout (unit : BitVec 9) (s : State) : Ans :=
  .next (
    let d := s.mer.die unit.toNat
    let n := unit.toNat
    if !s.merOn ∨ d.t.locked ∨ s.now < d.unlockedSince + 100000000 then s
    else if h : n < 192 then s.retireUnit 3 (.site ⟨n, h⟩) 1 8
    else if h : 192 ≤ n ∧ n - 192 < 48 then s.retireUnit 3 (.stack ⟨n - 192, h.2⟩) 1 8
    else if h : 0x100 ≤ n ∧ n - 0x100 < 36 then s.retireUnit 3 (.engine ⟨n - 0x100, h.2⟩) 1 8
    else s)

/-- R385: the tree delay to a die, in 2^-16 ns. -/
def execTreeDelayMeasure (unit : BitVec 9) (dly : Word32) (s : State) : Ans :=
  .next (if s.merOn then s.modDie unit.toNat fun d => { d with tdly := dly.toNat } else s)

/-! The relay (R382) -/

/-- R382, R402: MER_UCTL.RCLOSE. -/
def execMerRelayClose (s : State) : Ans := .next (s.modUnit fun u => { u.closeRelay with rclosed := true })

/-- R382: the relay has moved. -/
def execMeridianRelayMoveComplete (s : State) : Ans :=
  .next (s.modUnit fun u => match u.target with
    | some t => { u with relay := t, target := none }
    | none => u)

/-- R388: a partition has a started chart: a RUN under way, or a cluster that its start count started. -/
def State.chartStarted (s : State) : Bool := !s.ten.running.isEmpty || s.clusters.any fun (_, k) => k.sq.run

/-- R388: a write of 0x5305, refused while a partition has a started chart. -/
def State.timeStep (s : State) (count : Word) : FCode × State :=
  if s.chartStarted then (.busy, s) else (.ok, s.modUnit fun u => { u with stepPend := some count })

def execExpertTimeStep (count : Word) (s : State) : Ans := .next (s.timeStep count).2

/-! The slot calendar (R393 to R396) -/

/-- The Larre ports of the panel, by engine and port. -/
def State.larrePorts (s : State) : List Nat :=
  (List.range 36).flatMap fun n => let e := s.larre.engine n
    if e.role = 1 then (List.range (splitPorts e.split)).map (4 * n + ·) else []

/-- R399: a write of 0x5214: the next bank of every Larre port, and its CRC-32. -/
def State.calendarLoad (s : State) (bs : List Byte) : FCode × State :=
  let ps := s.larrePorts
  let n := 512 * ps.length
  if bs.length ≠ n + 4 then (.lengthMismatch, s)
  else if leNat (bs.drop n) ≠ crc32 (bs.take n) then (.crcMismatch, s)
  else (.ok, s.modMer fun m => (ps.mapIdx fun i p => (i, p)).foldl (fun m (i, p) => m.modCal p fun c =>
    (List.range 64).foldl (fun c k => c.write (1 - c.cur) k (BitVec.ofNat 64 (leNat ((bs.drop (512 * i + 8 * k)).take 8)))) c) m)

def execCalendarBankLoad (data : List Byte) (s : State) : Ans := .next (s.calendarLoad data).2

/-- R395: TICK written at one port, or through 0x5215 at every Larre port. -/
def State.calendarArm (s : State) (ps : List Nat) (tick : Nat) : State :=
  s.modMer fun m => ps.foldl (fun m p => m.modCal p fun c => c.arm tick (tickOf (s.dieCount (0x100 + p / 4)))) m

def execCalendarArm (port : Option (EngineId × BitVec 2)) (tick : Word) (s : State) : Ans :=
  .next (match port with
    | some (n, p) => s.calendarArm [4 * n.val + p.toNat] (tick.toNat % 2 ^ 48)
    | none => s.calendarArm s.larrePorts (tick.toNat % 2 ^ 48))

/-- R395, R398: the armed tick. -/
def execCalendarBankSwitch (engine : EngineId) (port : BitVec 2) (s : State) : Ans :=
  .next (s.modMer fun m => m.modCal (4 * engine.val + port.toNat) fun c => c.switch (tickOf (s.dieCount (0x100 + engine))))

/-- R393, R398: the window of an entry of the current bank opens, and with it those that prolong it; no window on a panel timed by its local
oscillator (R384). A switch whose tick has come is done first. -/
def execCalendarWindowOpen (engine : EngineId) (port : BitVec 2) (k : BitVec 6) (s : State) : Ans :=
  .next (
    let n := s.dieCount (0x100 + engine)
    let p := 4 * engine.val + port.toNat
    let c := (s.mer.cal p).switch (tickOf n)
    let w := c.entry c.cur k.toNat
    let (a, b) := calWindow w (tickOf n)
    if s.mer.unit.src = 2 ∨ !calApplies w (tickOf n) ∨ n < a ∨ b ≤ n then s
    else (s.modMer fun m => m.modCal p fun _ => { c with windowEnd := Nat.max c.windowEnd (c.unionEnd (tickOf n) 64 b) }).pumpLarre engine port.toNat)

/-! Time passes -/

/-- R381: in the cycle in which its own count reaches a second, from `before`, a locked panel with an open relay drives the on-time edge and its
frame. -/
def State.ownSecond (s : State) (before : Nat) : State :=
  let u := s.mer.unit
  let n := s.mcount / 1000000000
  if u.t.locked && !u.relay && decide (before / 1000000000 < n) then
    s.emit (.timeFrame (n * 1000000000) (s.obj 0x5301 0) (flg 0 u.t.locked + flg 1 u.hold))
  else s

/-- R388: at the start of a tick an accepted time step moves every count. -/
def State.stepAtTick (s : State) (before : Nat) : State := if tickOf before < tickOf s.mcount then s.applyStep else s

/-- R386, R397: a time-base cycle passes in which no command arrives. -/
def State.idleTick (s : State) : State :=
  let s1 := ({ s with now := s.now + 1 }).stepAtTick s.mcount
  if s.mer.unit.stepPend.isSome && s1.mer.unit.stepPend.isNone then s1 else s1.ownSecond s.mcount

end Sys2Proof.Machine
end

