-- ==== Sys2Proof/Machine/Confluence.lean ====
section
/-!
DEFINITION. The meanings of the Confluence agent's events: heartbeats, votes, epochs and rewinds (spec 14).
-/
namespace Sys2Proof.Machine

/-! What the events share -/

/-- The count of the last nanosecond of tick `n`. -/
def tickEnd (n : Nat) : Nat := (n + 1) * 100000 - 1

/-- R411: a 32-bit tick extended by the current tick. -/
def fullTick (cur low : Nat) : Nat := cur / 2 ^ 32 * 2 ^ 32 + low

/-- R403: the entry of the panel is a standby without a rank. -/
def State.isStandby (s : State) : Bool :=
  match s.cnf.record, s.cnf.becomes with
  | some r, none => match r.indexOf s.gaz.eui with
    | some i => ((r.entries[i]?).map (·.standby)).getD false
    | none => false
  | _, _ => false

/-- The clusters of a tenant's partitions. -/
def State.tenantClusters (s : State) (t : Nat) : List Nat :=
  (s.ten.parts.filter fun (_, p) => p.state != 0 && p.tenant == t).flatMap fun (_, p) => p.set

/-- R409, R420: every partition of the catchment's tenant stops as by HALT. -/
def State.haltTenant (s : State) : State :=
  match s.cnf.record with
  | none => s
  | some r => (s.tenantClusters r.tenant).foldl (fun s c => s.modCl c Cluster.halt) s

/-- R409: the member fences itself; the change is told (17 R489). -/
def State.fence (s : State) : State :=
  if s.cnf.fenced then s else (s.haltTenant.modCnf fun c => { c with fenced := true }).notifyAll 0x8002 0x1001

/-- R420: action 2. -/
def State.stopCatchment (s : State) : State :=
  (s.haltTenant.modCnf fun c => { c with stopped := true }).raiseSv .catchmentStop (0x140 + s.fw.active) 0 0

/-- R426: a close fails: no EPOCH_OK, both parities sealed, and a vote with REQ[2] (R419). -/
def State.failClose (s : State) (emism : Bool) : State :=
  (s.modCnf fun c => { c with close := none, eclose := 0, sealedParity := [0, 1], eabort := c.eabort || !emism, emism := c.emism || emism }).askVote 4

/-- R410: a message of this catchment from another entry: the sender's index. -/
def State.fromEntry (s : State) (ident catchment : Half) : Option Nat :=
  s.cnf.record.bind fun r =>
    if catchment.toNat = r.ident then (r.byIdentity ident.toNat).filter fun i => some i != s.cnf.me s.gaz.eui else none

/-! Heartbeats (R405 to R409) -/

/-- R406: a heartbeat on every Larre port that is up. -/
def execHeartbeatSend (s : State) : Ans :=
  .next (
    let c := s.cnf
    let ifgen := (s.fw.img 1).ifgen
    let ours := match c.record with
      | some r => if (c.me s.gaz.eui).isSome then [r.ident, ifgen, tickOf s.mcount, r.crc, c.last] else [0, ifgen, tickOf s.mcount, 0, 0]
      | none => [0, ifgen, tickOf s.mcount, 0, 0]
    let flags := flg 0 c.member + flg 1 c.fenced + flg 2 c.vote.isSome + flg 3 s.isStandby
    s.emits ((s.larrePorts.filter fun p => (s.larre.port (p / 4) (p % 4)).state == 2).map fun p => Msg.link p 2 (flags :: s.identity :: ours)))

/-- R405: every Larre link to another member has carried a matching heartbeat. -/
def State.allMatched (s : State) : Bool :=
  match s.cnf.record with
  | none => false
  | some r => s.larrePorts.all fun p =>
      let d := s.larre.port (p / 4) (p % 4)
      d.state == 0 || d.peerEui.isNone || (match r.byIdentity d.peerPanel with
        | some j => some j == s.cnf.me s.gaz.eui || (Tbl.get {} s.cnf.neigh j).matched.contains p
        | none => true)

/-- R420: a port whose peer is a retired member carries nothing in. -/
def State.retiredPeer (s : State) (n p : Nat) : Bool :=
  match s.cnf.record, (s.larre.port n p).peerEui with
  | some r, some e => (match r.indexOf e with | some j => s.cnf.retired.getLsbD j | none => false)
  | _, _ => false

/-- R405 to R407: a heartbeat arrives at a port. -/
def execHeartbeat (n : EngineId) (p : Fin 4) (ident catchment ifgen : Half) (tick : BitVec 48) (rcrc : Word32) (s : State) : Ans :=
  .next (
    match s.cnf.record, s.cnf.me s.gaz.eui with
    | some r, some me =>
      match (r.byIdentity ident.toNat).filter (· != me) with
      | none => s
      | some j =>
        if s.retiredPeer n p then s
        else if catchment.toNat ≠ r.ident ∨ rcrc.toNat ≠ r.crc ∨ ifgen.toNat ≠ r.ifgen ∨ (s.fw.img 1).ifgen ≠ r.ifgen then
          s.modCnf fun c => { c with mismatch := true, member := false }
        else
          let k := 4 * n.val + p.val
          let s1 := s.modCnf fun c => { c with neigh := Tbl.mod {} c.neigh j fun x => { x with matched := if x.matched.contains k then x.matched else k :: x.matched } }
          let s2 := if s1.allMatched && !s1.cnf.mismatch && s1.mer.unit.src != 2 then s1.modCnf fun c => { c with member := true } else s1
          if s.dieCount (0x100 + n) ≤ tickEnd tick.toNat then
            s2.modCnf fun c => { c with neigh := Tbl.mod {} c.neigh j fun x =>
              { x with heard := some (Nat.max tick.toNat (x.heard.getD 0)), silent := 0, suspect := false } }
          else s2.modCnf fun c => { c with late := satAdd 0xFFFFFFFF c.late 1 }
    | _, _ => s)

/-- R408: every link to a neighbour retrains. -/
def State.allRetrain (s : State) (x : Neighbour) : Bool :=
  !x.matched.isEmpty && x.matched.all fun p => let d := s.larre.port (p / 4) (p % 4); d.state == 3 || d.state == 4

/-- R407 to R409: tick `tick` ends: the silent neighbours are counted; a third silence makes a suspect, and a vote. -/
def execHeartbeatTickEnd (tick : BitVec 48) (s : State) : Ans :=
  .next (
    let n := tick.toNat
    if !s.cnf.member || decide (s.mcount ≤ tickEnd n) then s
    else
      let on (x : Neighbour) : Bool := match x.heard with | some t => decide (n ≤ t) | none => false
      let quiet := !(s.cnf.neigh.any fun (_, x) => on x)
      let miss (x : Neighbour) : Bool := !on x && !s.allRetrain x
      let silent := (s.cnf.neigh.filter fun (_, x) => miss x).length
      let fresh := s.cnf.neigh.any fun (_, x) => miss x && x.silent == 2
      let s1 := s.modCnf fun c =>
        { c with neigh := c.neigh.map fun (j, x) => (j, if miss x then { x with silent := x.silent + 1, suspect := decide (3 ≤ x.silent + 1) } else x)
                 hbmiss := satAdd 0xFFFFFFFF c.hbmiss silent, quietTicks := if quiet then c.quietTicks + 1 else 0 }
      if s1.cnf.quietTicks ≥ 3 then s1.fence
      else if fresh then s1.askVote 0 else s1)

/-- R426: CNF_CTL.FENCE. -/
def execCnfFence (s : State) : Ans := .next s.fence

/-- R423: 0x5406 or CNF_CTL.RWREQ. -/
def execRewindRequest (s : State) : Ans := .next (s.askVote 1)

/-! The vote (R410 to R414) -/

/-- R411: an ACCUSE: it opens the vote here, lowers its opening tick, or waits for the next. -/
def execAccuse (ident catchment : Half) (vseq a : Word32) (s : State) : Ans :=
  .next (
    let c := s.cnf
    if !c.member || c.fenced || (s.fromEntry ident catchment).isNone then s
    else
      let t := fullTick (tickOf s.mcount) a.toNat
      match c.vote with
      | none => if vseq.toNat = c.vseq + 1 then s.openVote t false else s
      | some v =>
        if vseq.toNat = v.vseq ∧ v.round = 1 then s.modCnf fun c => { c with vote := some { v with a := Nat.min v.a t }, atick := Nat.min v.a t }
        else if v.vseq < vseq.toNat then s.modCnf fun c => { c with waitAccuse := true }
        else s)

/-- R411: a BALLOT in time for round 1. -/
def execBallot (ident catchment : Half) (vseq : Word32) (b : Ballot) (s : State) : Ans :=
  .next (
    match s.fromEntry ident catchment, s.cnf.vote with
    | some i, some v =>
      if vseq.toNat = v.vseq ∧ s.mcount ≤ tickEnd (v.a + 2) then
        s.modCnf fun c => { c with vote := some { v with ballots := Tbl.set v.ballots i b } }
      else s
    | _, _ => s)

/-- R411: the round 1 deadline: DECIDE with every ballot in hand. -/
def execVoteRound1Deadline (s : State) : Ans :=
  .next (
    match s.cnf.vote with
    | none => s
    | some v =>
      if v.round ≠ 1 ∨ s.mcount ≤ tickEnd (v.a + 2) then s
      else
        let words := v.ballots.flatMap fun (i, b) => [i, b.silent.toNat, b.heard.toNat, b.last.toNat, b.req.toNat]
        (s.modCnf fun c => { c with vote := some { v with round := 2 } }).toEntries 3 ([v.vseq, v.a, (v.ballots.map fun (i, _) => 2 ^ i).sum] ++ words))

/-- R411: a DECIDE in time for round 2: its ballots join the union table. -/
def execDecide (ident catchment : Half) (vseq : Word32) (ballots : List (Fin 64 × Ballot)) (s : State) : Ans :=
  .next (
    match s.fromEntry ident catchment, s.cnf.vote with
    | some _, some v =>
      if vseq.toNat = v.vseq ∧ v.round ≤ 2 ∧ s.mcount ≤ tickEnd (v.a + 5) then
        s.modCnf fun c => { c with vote := some { v with ballots := ballots.foldl (fun t (i, b) =>
          if (Tbl.get? t i).isSome then t else Tbl.set t i b) v.ballots } }
      else s
    | _, _ => s)

/-- R414: the contingency patches of 0x5403, applied for the pairs (failed, standby) of identities: the table that results, and
whether every pair had a patch. -/
def applyPatches (bs : List Byte) (pairs : List (Nat × Nat)) (t : Tbl Byte) : Nat → Tbl Byte × List (Nat × Nat)
  | 0 => (t, [])
  | fuel + 1 =>
    if bs.length < 8 then (t, [])
    else
      let f := le bs 0 2
      let st := le bs 2 2
      let n := le bs 4 2
      let t1 := if pairs.contains (f, st) then
          (List.range n).foldl (fun t i => Tbl.set t (le bs (8 + 3 * i) 2) (bs.getD (10 + 3 * i) 0)) t
        else t
      let (t2, ps) := applyPatches (bs.drop (8 + cdiv (3 * n) 4 * 4)) pairs t1 fuel
      (t2, if pairs.contains (f, st) then (f, st) :: ps else ps)

/-- R414: the retired members of a verdict with their standbys, by identity. -/
def verdictPairs (r : Catchment) (present : List Nat) (retired : Nat) : List (Nat × Nat) :=
  let isStandby (i : Nat) : Bool := ((r.entries[i]?).map (·.standby)).getD false
  let out (i : Nat) : Bool := (retired >>> i) % 2 = 1
  let ms := (List.range r.entries.length).filter fun i => out i && !isStandby i
  let ss := (List.range r.entries.length).filter fun i => isStandby i && !out i && present.contains i
  (ms.zip ss).map fun (i, j) => (r.identityOf i, r.identityOf j)

/-- R414: a verdict is acted on by the panel's tables: its edition copied, patched and armed for T_sw; without a patch the failed
identity is unreachable and NOPATCH is set. -/
def State.contingency (s : State) (pairs : List (Nat × Nat)) (tsw : Nat) : State :=
  if pairs.isEmpty then s
  else
    let (t, found) := applyPatches s.cnf.patches pairs (s.larre.tab s.larre.cur) (s.cnf.patches.length + 1)
    let lacking := pairs.filter fun p => !found.contains p
    let s1 := if lacking.isEmpty then s
      else (s.modCnf fun c => { c with nopatch := true }).modLarre fun l =>
        { l with tab0 := lacking.foldl (fun t p => Tbl.erase t p.1) l.tab0, tab1 := lacking.foldl (fun t p => Tbl.erase t p.1) l.tab1 }
    if found.isEmpty then s1
    else
      let t1 := lacking.foldl (fun t p => Tbl.erase t p.1) t
      s1.modLarre fun l => { l with nextTab := some t1, armed := true, tsw := BitVec.ofNat 64 tsw }

/-- R412, R413: the freeze: the verdict of the union table is computed and sent. -/
def execVoteFreeze (s : State) : Ans :=
  .next (
    match s.cnf.record, s.cnf.vote with
    | some r, some v =>
      if v.round ≠ 2 ∨ s.mcount ≤ tickEnd (v.a + 5) then s
      else
        let w := computeVerdict r v.ballots
        let tsw := (v.a + 17) * 100000
        let dig := crc32 (verdictPayload w tsw)
        let unlike := v.others.any (· != dig)
        let s1 := s.modCnf fun c =>
          { c with vote := some { v with round := 3, diverge := v.diverge || unlike, verdict := some (w.retired, tsw, w.epoch, w.action) }
                   digest := dig, action := w.action, diverge := c.diverge || unlike, forwarded := v.vseq :: c.forwarded }
        let s2 := s1.toEntries 4 [v.vseq, v.a, dig, w.retired, tsw, w.epoch, w.action]
        let s3 := if unlike then s2.toEntries 8 [v.vseq, v.a, 1] else s2
        if w.action = 3 then s3.fence
        else
          let s4 := s3.contingency (verdictPairs r (v.ballots.map (·.1)) w.retired) tsw
          if w.action = 0 ∧ v.ballots.any (fun (_, b) => b.silent != 0) then s4.raiseSv .linkDown (0x140 + s.fw.active) 0 0 else s4
    | _, _ => s)

/-- R409, R413, R414: a VERDICT arrives: one of this catchment and not seen is forwarded and its patches armed; one that differs from
the member's own is answered with STOP; one that retires the member fences it. -/
def execVerdict (n : EngineId) (p : Fin 4) (catchment : Half) (vseq digest : Word32) (retired tsw : Word) (action : Byte) (s : State) : Ans :=
  .next (
    match s.cnf.record with
    | none => s
    | some r =>
      if catchment.toNat ≠ r.ident then s
      else
        let q := vseq.toNat
        let s1 := if s.cnf.forwarded.contains q then s
          else
            let ports := s.larrePorts.filter fun x => x != 4 * n.val + p.val && (s.larre.port (x / 4) (x % 4)).state == 2
            let present := (List.range r.entries.length).filter fun i => match s.cnf.vote with
              | some v => v.vseq != q || (Tbl.get? v.ballots i).isSome
              | none => true
            ((s.modCnf fun c => { c with forwarded := q :: c.forwarded }).emits
              (ports.map fun x => Msg.confluence x 4 [q, digest.toNat, retired.toNat, tsw.toNat, action.toNat])).contingency
                (if action = 1 then verdictPairs r present retired.toNat else []) tsw.toNat
        let s2 := match s1.cnf.vote with
          | some v =>
            if v.vseq ≠ q then s1
            else if v.round ≠ 3 then s1.modCnf fun c => { c with vote := some { v with others := digest.toNat :: v.others } }
            else if digest.toNat ≠ s1.cnf.digest then
              (s1.modCnf fun c => { c with diverge := true, vote := some { v with diverge := true } }).toEntries 8 [q, v.a, 1]
            else s1
          | none => s1
        match s2.cnf.me s2.gaz.eui with
        | some i => if retired.getLsbD i then s2.fence else s2
        | none => s2)

/-- R413, R421: a STOP: before T_sw it turns the verdict into action 2; of an unverifiable pull, it stops the catchment. -/
def execConfluenceStop (ident catchment : Half) (reason : Byte) (s : State) : Ans :=
  .next (
    if (s.fromEntry ident catchment).isNone then s
    else match s.cnf.vote with
      | some v => s.modCnf fun c => { c with diverge := true, vote := some { v with diverge := true } }
      | none => if reason = 2 then s.stopCatchment else s)

/-! Rewind (R420 to R422) -/

/-- R422: a member that has completed the rewind reports it. -/
def State.rewound (s : State) : State := (s.modCnf fun c => { c with rwdone := true }).notifyAll 0x8002 0x1001

/-- The lowest plot numbers that are free, for new plots. -/
def Tenancy.addPlots (t : Tenancy) (ps : List Plot) : Tenancy :=
  ps.foldl (fun t p => match Tbl.lowestFree t.plots 0 4096 with
    | some n => { t with plots := Tbl.set t.plots n p }
    | none => t) t

/-- R420: a standby takes member `i`: its identity, its rank, its plots (log entry 36: every permission, a copy at its owner's
address), its links anew. -/
def State.takeOver (s : State) (r : Catchment) (i : Nat) : State :=
  let mine := (r.manifest.filter fun (m : MirrorEntry) => m.owner == i).map fun (m : MirrorEntry) => (⟨m.base, m.length, r.tenant, m.slot, 0xFF⟩ : Plot)
  let kept := (r.manifest.filter fun (m : MirrorEntry) => ((r.entries[m.owner]?).map (·.buddy)) == some (r.identityOf i)).map fun (m : MirrorEntry) =>
    (⟨m.base, m.length, r.tenant, m.mslot, 0xBF⟩ : Plot)
  let s1 := s.setObj 0x5202 0 (65536 + r.identityOf i)
  let s2 := (s1.modTen fun t => t.addPlots (mine ++ kept)).modCnf fun c => { c with becomes := some i, pull := true }
  s2.larrePorts.foldl (fun s p => s.modLport (p / 4) (p % 4) fun d =>
    if d.state = 0 then d else { d.newLink with state := 1, peerEui := none }) s2

/-- R420: window entries toward retired identities are reset: here those toward the egress engines, whose peers alone are retired. -/
def State.resetRetired (s : State) (r : Catchment) (mask : Nat) : State :=
  let ids := ((List.range r.entries.length).filter fun i => (mask >>> i) % 2 == 1).map r.identityOf
  let gone := s.larre.egress.flatMap fun (k, es) => (es.filter fun e => ids.contains e.panel).map fun e => (k, e)
  let s1 := s.modLarre fun l => { l with egress := l.egress.map fun (k, es) => (k, es.filter fun e => !ids.contains e.panel) }
  gone.foldl (fun s (k, e) =>
    s.modWinOf (k % 4096) (0x100 + k / 4096) fun w => { w with ackd := (w.ackd + e.len) % 2 ^ 32, unreachable := false }) s1

/-- R420: action 1, rewind to epoch `e`; a standby that takes a member's rank goes on to pull (R421). -/
def State.rewind (s : State) (r : Catchment) (ballots : Tbl Ballot) (mask e : Nat) : State :=
  let cs := s.tenantClusters r.tenant
  let s1 := cs.foldl (fun s c => (s.modCl c fun k =>
    { k with sq := { k.sq with moves := [] }, spd := { k.spd with weir := [], weirWait := [] }, sx := { k.sx with gathers := [] } }).portSettle c) s.haltTenant
  let s2 := (s1.resetRetired r mask).modCnf fun c => { c with sealedParity := [e % 2], cur := e + 1, last := e, close := none, eclose := 0 }
  let heirs := ((List.range r.entries.length).filter fun i => (mask >>> i) % 2 == 1).filter fun i =>
    (match standbyFor r ballots mask i with | some j => some j == r.indexOf s.gaz.eui | none => false)
  match heirs, s.cnf.becomes with
  | i :: _, none => s2.takeOver r i
  | _, _ => s2.rewound

/-- R411, R413, R420: T_sw: the action is applied; what has waited opens the next vote. -/
def execVerdictSwitch (s : State) : Ans :=
  .next (
    match s.cnf.record, s.cnf.vote with
    | some r, some v =>
      match v.verdict with
      | none => s
      | some (mask, tsw, e, act) =>
        if s.mcount < tsw then s
        else
          let action := if v.diverge then 2 else act
          let s1 := s.modCnf fun c => { c with vote := none, action := action, retired := c.retired ||| BitVec.ofNat 64 mask
                                               reqs := c.waitReqs, waitReqs := 0, waitAccuse := false }
          let s2 := if action = 1 then s1.rewind r v.ballots mask e
            else if action = 2 then s1.stopCatchment
            else if action = 3 then s1.fence
            else s1
          if s.cnf.waitAccuse && !s2.cnf.fenced && s2.cnf.member then s2.openVote (tickOf s2.mcount) true else s2
    | _, _ => s)

/-- R421, R422: the pull ends: its bytes stand in the standby's plots (by slot); `ok` tells that every sealed one agreed with its
digest. -/
def execPullComplete (ok : Bool) (plots : List (BitVec 6 × List Byte)) (s : State) : Ans :=
  .next (
    match s.cnf.record with
    | none => s
    | some r =>
      if !s.cnf.pull then s
      else
        let s1 := s.modCnf fun c => { c with pull := false }
        let s2 := plots.foldl (fun s (slot, bs) =>
          match s.ten.plots.find? fun (_, x) => x.valid && x.tenant == r.tenant && x.slot == slot.toNat with
          | some (_, x) => (match decodeAddr x.base with
            | .ok (.hbm k o) => s.modStkNote k fun y => y.writeBytes k false r.tenant o ((bs.take x.length).map fun b => (b, false)) []
            | _ => s)
          | none => s) s1
        if ok then s2.rewound else (s2.toEntries 8 [s.cnf.vseq, s.cnf.atick, 2]).stopCatchment)

/-! Epochs (R416 to R419) -/

/-- R418: 0x5401, CNF_ECLOSE: the start of a tick at least two ticks ahead; any other value is ignored. -/
def State.armClose (s : State) (c : Nat) : State :=
  if c % 100000 = 0 ∧ s.mcount + 200000 ≤ c then s.modCnf fun x => { x with eclose := c } else s

def execEpochCloseArm (c : Word) (s : State) : Ans := .next (s.armClose c.toNat)

/-- R418 step 1: a cluster of the tenant is quiescent. -/
def Cluster.closeQuiet (k : Cluster) : Bool :=
  (!k.sq.run || (match k.sq.hold with | .sync .. => true | _ => false)) && k.sq.moves.isEmpty && k.sx.gathers.isEmpty

/-- R418 step 1: the close begins at C. -/
def execEpochClose (s : State) : Ans :=
  .next (
    match s.cnf.record with
    | none => s
    | some r =>
      let c := s.cnf
      if c.eclose = 0 ∨ s.mcount < c.eclose ∨ c.close.isSome ∨ !c.member ∨ c.fenced then s
      else
        let s1 := s.modCnf fun c => { c with close := some { epoch := c.cur, at_ := c.eclose }
                                             sealedParity := if c.sealedParity.contains (c.cur % 2) then c.sealedParity else c.cur % 2 :: c.sealedParity }
        if (s.tenantClusters r.tenant).all fun x => (s.cl x).closeQuiet then s1 else s1.failClose false)

/-- R418: the slots of this member's MIRROR plots of a parity. -/
def State.ownSlots (s : State) (parity : Nat) : List MirrorEntry :=
  match s.cnf.record, s.cnf.me s.gaz.eui with
  | some r, some me => r.manifest.filter fun (m : MirrorEntry) => m.owner == me && m.parity == parity
  | _, _ => []

/-- R418 step 6: the epoch is recorded once every member's EPOCH_OK has come: the other parity is unsealed, and the tenant's partition
groups land one header-only packet. -/
def State.recordEpoch (s : State) : State :=
  match s.cnf.record, s.cnf.close with
  | some r, some x =>
    let need := (List.range r.entries.length).filter fun i => !((r.entries[i]?).map (·.standby)).getD true && !s.cnf.retired.getLsbD i
    if !x.sentOk || !(need.all x.oks.contains) then s
    else
      let s1 := s.modCnf fun c => { c with last := x.epoch, cur := x.epoch + 1, lstep := c.nstep, close := none, eclose := 0, sealedParity := [x.epoch % 2] }
      let site := ((dieSites s.fw.active).find? s.gaz.siteIn).getD 0
      let groups := (s.ten.parts.filter fun (_, p) => p.state != 0 && p.tenant == r.tenant).map fun (_, p) => p.haltGroup
      groups.foldl (fun s g => s.sendCtl site
        (directPacket { dest := g, src := 0x140 + s.fw.active, cls := 2, mode := 1, len := 0, land := true, tenant := r.tenant } 0 0 [])) s1
  | _, _ => s

/-- R418 step 5: every plot has matched: EPOCH_OK. -/
def State.checkMatched (s : State) : State :=
  match s.cnf.close, s.cnf.me s.gaz.eui with
  | some x, some me =>
    if x.sentOk || !x.drained || !((s.ownSlots (x.epoch % 2)).all fun (m : MirrorEntry) => x.matched.contains (x.epoch, m.slot)) then s
    else ((s.modCnf fun c => { c with close := some { x with sentOk := true, oks := me :: x.oks } }).toEntries 7 [x.epoch]).recordEpoch
  | _, _ => s

/-- R418 step 2: the mirror has drained. -/
def execMirrorDrainDone (s : State) : Ans :=
  .next (
    match s.cnf.close with
    | some x => if s.cnf.mirror = 0 ∧ s.cnf.mirrorQ.isEmpty then (s.modCnf fun c => { c with close := some { x with drained := true } }).checkMatched else s
    | none => s)

/-- R419: the drain limit of 0x5404 passes. -/
def execDrainLimitExpiry (s : State) : Ans :=
  .next (
    match s.cnf.close with
    | some x => if !x.drained ∧ x.at_ + s.obj 0x5404 0 / 65536 * 100000 ≤ s.mcount then s.failClose false else s
    | none => s)

/-- R417: the digest of `n` bytes of a stack under a tenant's key. -/
def State.plotDigest (s : State) (tenant base n : Nat) : Nat :=
  crc64 (((s.stk (base >>> 54)).readBytes (base >>> 54) false tenant (base % 2 ^ 36) n []).1.map (·.1))

/-- R417, R418 step 3: the digest of a sealed MIRROR plot is complete, and goes to the buddy. -/
def execPlotDigestDone (slot : BitVec 6) (s : State) : Ans :=
  .next (
    match s.cnf.record, s.cnf.close, s.cnf.me s.gaz.eui with
    | some r, some x, some me =>
      (match (s.ownSlots (x.epoch % 2)).find? fun (m : MirrorEntry) => m.slot == slot.toNat with
       | some m =>
         if !x.drained then s
         else
           let d := s.plotDigest r.tenant m.base m.length
           (s.modCnf fun c => { c with close := some { x with digests := (x.epoch, m.slot, d) :: x.digests }, recorded := (x.epoch, m.slot, d) :: c.recorded }).emit
             (.confluence (((r.entries[me]?).map (·.buddy)).getD 0xFFFF) 5 [x.epoch, m.slot, m.parity, d])
       | none => s)
    | _, _, _ => s)

/-- R418 step 4: the buddy digests its copy and answers. -/
def execDigest (ident catchment : Half) (epoch : Word32) (slot : BitVec 6) (parity : Byte) (crc : Word) (s : State) : Ans :=
  .next (
    match s.cnf.record, s.fromEntry ident catchment with
    | some r, some i =>
      (match r.manifest.find? fun (m : MirrorEntry) => m.owner == i && m.slot == slot.toNat && m.parity == parity.toNat with
       | some m =>
         (match s.ten.plots.find? fun (_, x) => x.valid && x.tenant == r.tenant && x.slot == m.mslot with
          | some (_, x) =>
            let d := s.plotDigest r.tenant x.base m.length
            s.emit (.confluence ident.toNat 6 [epoch.toNat, slot.toNat, parity.toNat, crc.toNat, if d = crc.toNat then 1 else 0])
          | none => s.emit (.confluence ident.toNat 6 [epoch.toNat, slot.toNat, parity.toNat, crc.toNat, 0]))
       | none => s)
    | _, _ => s)

/-- R418 step 5, R419: a DMATCH. -/
def execDmatch (ident catchment : Half) (epoch : Word32) (slot : BitVec 6) (agree : Bool) (s : State) : Ans :=
  .next (
    match s.fromEntry ident catchment, s.cnf.close with
    | some _, some x =>
      if epoch.toNat ≠ x.epoch then s
      else if !agree then s.failClose true
      else (s.modCnf fun c => { c with close := some { x with matched := (x.epoch, slot.toNat) :: x.matched } }).checkMatched
    | _, _ => s)

/-- R418 step 6: an EPOCH_OK. -/
def execEpochOk (ident catchment : Half) (epoch : Word32) (s : State) : Ans :=
  .next (
    match s.fromEntry ident catchment, s.cnf.close with
    | some i, some x => if epoch.toNat = x.epoch then (s.modCnf fun c => { c with close := some { x with oks := i :: x.oks } }).recordEpoch else s
    | _, _ => s)

/-- R419: C plus the close window of 0x5404 passes. -/
def execCloseWindowExpiry (s : State) : Ans :=
  .next (
    match s.cnf.close with
    | some x => if x.at_ + s.obj 0x5404 0 % 65536 * 1000000 ≤ s.mcount then s.failClose false else s
    | none => s)

/-- R427: a read of CNF_HBMISS (false) or CNF_LATE (true) clears it. -/
def execCnfCounterRead (which : Bool) (s : State) : Ans :=
  .next (s.modCnf fun c => if which then { c with late := 0 } else { c with hbmiss := 0 })

end Sys2Proof.Machine
end

