-- ==== Sys2Proof/Machine/Tenants.lean ====
section
/-!
DEFINITION. Tenants, partitions, plots and HALT (spec 15 R428 to R436, R450, 16 R466).
-/
namespace Sys2Proof.Machine

/-! Tenants of functions (16 R461) -/

/-- R461: a function is bound to a tenant: a PF to every one, a VF by the binding objects. -/
def State.bound (s : State) (port fn t : Nat) : Bool :=
  let v := s.obj (0x4500 + port) (fn - 1)
  fn == 0 || (decide (fn ≤ 512) && v / 32768 % 2 == 1 && v % 512 == t)

/-! The partition table (R429 to R432) -/

/-- An allotment as stack bytes: base and end. -/
def allotBytes (a : Nat × Nat) : Nat × Nat := (a.1 * 2 ^ 20, (a.1 + a.2) * 2 ^ 20)

/-- The stretches of a stack that a tenant holds, of partitions `ps`. -/
def stretches (ps : Tbl Partition) (t k : Nat) : List (Nat × Nat) :=
  (ps.filter fun (_, p) => p.state != 0 && p.tenant == t).filterMap fun (_, p) =>
    (Tbl.get? p.allot k).bind fun a => if a.2 = 0 then none else some (allotBytes a)

/-- A stretch from `lo` to `hi` lies within the union of stretches. -/
def coveredBy (xs : List (Nat × Nat)) (lo hi : Nat) : Nat → Bool
  | 0 => decide (hi ≤ lo)
  | fuel + 1 =>
    if hi ≤ lo then true
    else
      let far := ((xs.filter fun x => decide (x.1 ≤ lo)).map (·.2)).foldl Nat.max lo
      decide (lo < far) && coveredBy xs far hi fuel

def within (xs : List (Nat × Nat)) (lo hi : Nat) : Bool := coveredBy xs lo hi (xs.length + 1)

/-- R430: the table that a write would make is refused. -/
def State.partBad (s : State) (ps : Tbl Partition) : Bool :=
  let live := ps.filter fun (_, p) => p.state != 0
  let all := live.flatMap fun (_, p) => p.set
  let past := live.any fun (_, p) => p.allot.any fun (_, a) => decide (0 < a.2 ∧ hbmDataSize < (a.1 + a.2) * 2 ^ 20)
  let clash := live.any fun (_, p) => live.any fun (_, q) => p.tenant != q.tenant && p.allot.any fun (k, a) =>
    match Tbl.get? q.allot k with
    | some b => decide (0 < a.2 ∧ 0 < b.2 ∧ a.1 < b.1 + b.2 ∧ b.1 < a.1 + a.2)
    | none => false
  let shrunk := s.ten.plots.any fun (_, x) => x.valid && (match decodeAddr x.base with
    | .ok (.hbm k o) => !within (stretches ps x.tenant k) o (o + x.length)
    | _ => false)
  let leaving := s.ten.parts.any fun (n, p) => (Tbl.get? s.ten.running n).isSome && p.state != 0
    && p.set.any fun c => !((Tbl.get {} ps n).state != 0 && (Tbl.get {} ps n).set.contains c)
  !decide all.Nodup || all.any (fun c => !s.gaz.clusterIn c) || past || clash || shrunk || leaving

/-- R432, R501: the tenant keys that the new table needs are generated and sent; slots without an allotment left are cleared. -/
def State.tenantKeys (s : State) : State :=
  if (s.ctg.unit s.fw.active).state ≠ 1 ∨ s.ctg.zPend.isSome then s
  else
    let tenants := ((s.ten.parts.filter fun (_, p) => p.state != 0).map fun (_, p) => p.tenant).dedup
    let held := s.ctg.tkeys.map (·.1)
    (tenants ++ held).dedup.foldl (fun s t =>
      (List.range 48).foldl (fun s k =>
        let want := !(stretches s.ten.parts t k).isEmpty && (s.gaz.stack k).status == 0
        let has := (Tbl.get? (s.stk k).keys (keySlot false t)).isSome
        if want && !has then
          let c := if (Tbl.get? s.ctg.tkeys t).isSome then s.ctg
            else { s.ctg with tkeys := Tbl.set s.ctg.tkeys t s.ctg.nextKey, nextKey := s.ctg.nextKey + 1 }
          s.modCtg fun _ => c.send (192 + k) 1 (keySlot false t) (Tbl.get 0 c.tkeys t)
        else if (stretches s.ten.parts t k).isEmpty && has then s.modCtg fun c => c.send (192 + k) 2 (keySlot false t) 0
        else s) s) s

/-- R451: the shapers of a tenant written at every stack and at its ports. -/
def State.shapeTenant (s : State) (t : Nat) : State :=
  let v := s.obj 0x4100 t
  let s1 := (List.range 48).foldl (fun s k => s.modStk k fun x => x.write (0x1000 + 8 * t) (stackShape v) .surveyor) s
  s1.modDelta fun d => (List.range 192).foldl (fun d x => [11, 14, 15].foldl (fun d p =>
    let q := (d.router x).port p
    if q.en ∧ q.tenant = t then d.modRouter x fun r => r.write (0x300 + 8 * p) (portShape v) else d) d) d

/-- R431: a cluster as the write finds it: its partition of old, if any, and its new one. A cluster that joins from no partition waits
for its zeroization; one of another tenant is halted first; one of the same tenant goes on to step 5, after the steps of a change that it
is still in; one that joins none is halted and its port disabled (log entry 37). -/
def State.moveCluster (s : State) (old new : Tbl Partition) (c : Nat) : State :=
  let find (ps : Tbl Partition) : Option (Nat × Partition) := ps.find? fun (_, p) => p.state != 0 && p.set.contains c
  let enter (s : State) (n k : Nat) : State := s.modTen fun t => { t with entering := Tbl.set t.entering c ⟨n, k, s.mcount⟩ }
  match find old, find new with
  | none, none => s
  | some (_, p), none => ((s.modCl c Cluster.halt).portConfig c false p).modTen fun t => { t with entering := Tbl.erase t.entering c }
  | none, some (n, _) => enter (s.modCl c fun k => { k with spd := { k.spd with zNeeded := true } }) n 4
  | some (m, p), some (n, q) =>
    if p.tenant ≠ q.tenant then enter (s.modCl c Cluster.halt) n 2
    else match (Tbl.get? s.ten.entering c).filter fun e => decide (e.step < 5) with
      | some e => s.modTen fun t => { t with entering := Tbl.set t.entering c { e with part := n } }
      | none =>
        if m ≠ n then enter (s.portConfig c true q) n 5
        else if p.direct ≠ q.direct ∨ p.maxpay ≠ q.maxpay then s.portConfig c true q
        else s

/-- R430 to R432: a write of 0x4200: refused whole, or applied. The Surveyor gives partition n the HALT group n + 1 (log entry 38). -/
def State.partWrite (s : State) (bs : List Byte) : FCode × State :=
  if bs.length ≠ 102400 then (.lengthMismatch, s)
  else
    let old := s.ten.parts
    let new := ((List.range 256).map fun n =>
      let p := partOfBytes ((bs.drop (400 * n)).take 400)
      (n, { p with haltGroup := n + 1 })).filter fun (_, p) => p.state != 0
    if s.partBad new then (.partitionInvalid, s)
    else
      let s1 := s.modTen fun t => { t with parts := new }
      let s2 := (List.range 1536).foldl (fun s c => s.moveCluster old new c) s1
      let s3 := s2.modTen fun t => { t with parts := t.parts.map fun (n, p) =>
        (n, { p with state := if t.entering.any (fun (_, e) => e.part == n) || !s2.keyed n then 2 else 1 }) }
      let moved := s3.ten.entering.any fun (_, e) => e.step ≥ 2
      (.ok, (if moved then s3.modDelta fun d => { d with edWanted := true } else s3).tenantKeys)

/-- R430, R463: the write by a host port; the secondary's is refused. -/
def execPartitionWrite (port : Fin 2) (data : List Byte) (s : State) : Ans :=
  .next (if s.hosts.primary = port then (s.partWrite data).2 else s)

/-- R431 step 3, R242: a cluster that changes tenant is drained: its threads stop, and its zeroization follows. -/
def State.drained (s : State) (c : Nat) (e : TChange) : State :=
  (s.modCl c fun k =>
    { k with spd := { k.spd with zNeeded := true, weir := [], weirWait := [] }
             sq := { k.sq with moves := [] }
             sx := { k.sx with gathers := [], thr := k.sx.thr.map fun (t, h) => (t, { h with run := false, stopPend := false }) } }).modTen fun t =>
    { t with entering := Tbl.set t.entering c { e with step := 4 } }

def execTenantDrainDone (c : ClusterId) (s : State) : Ans :=
  .next (
    let k := s.cl c
    match Tbl.get? s.ten.entering c with
    | some e => if e.step = 2 ∧ k.sq.moves.isEmpty ∧ k.sx.gathers.isEmpty ∧ k.spd.weir.isEmpty then s.drained c e else s
    | none => s)

/-- R431 step 3: after 10 ms what is still held is abandoned, and its ranges released. -/
def execTenantDrainLimit (c : ClusterId) (s : State) : Ans :=
  .next (
    match Tbl.get? s.ten.entering c with
    | some e => if e.step = 2 ∧ e.since + 10000000 ≤ s.mcount then s.drained c e else s
    | none => s)

/-! Plots (R433 to R436) -/

/-- R433: an entry breaks none of the rules of a plot, written by a function. -/
def State.plotOk (s : State) (num : Nat) (x : Plot) : Bool :=
  decide (1 ≤ x.length ∧ x.length ≤ 2 ^ 44 ∧ x.tenant < 512 ∧ x.slot < 64)
    && !(s.ten.plots.any fun (i, y) => i != num && y.valid && y.tenant == x.tenant && y.slot == x.slot)
    && (match decodeAddr x.base with
      | .ok (.hbm k o) => within (stretches s.ten.parts x.tenant k) o (o + x.length)
      | .ok (.spd c o) => decide (o + x.length ≤ spdSize) && s.ten.parts.any fun (_, p) => p.state != 0 && p.tenant == x.tenant && p.set.contains c
      | .ok (.host p fn a) => decide (a + x.length ≤ 2 ^ 49) && s.hosts.enabled p fn && s.bound p fn x.tenant
      | .ok (.peer _ slot o) => decide (fld 38 slot + o + x.length ≤ 2 ^ 44)
      | _ => false)

/-- R433: the stretches of a channel's queues and window. -/
def Chan.stretches (c : Chan) : List (Nat × Nat) :=
  [(c.sq - 8, c.sq + 64 * 2 ^ c.sqLog), (c.cq - 8, c.cq + 16 * 2 ^ c.cqLog)] ++ (if c.winLen = 0 then [] else [(c.win, c.win + c.winLen)])

/-- R433: a plot is in use by a channel's queues, window or save area, or by the manifest. -/
def State.plotInUse (s : State) (x : Plot) : Bool :=
  (s.ten.chans.any fun (_, c) => c.state != 0 && c.tenant == x.tenant
      && (c.saveSlot == x.slot || c.stretches.any fun (lo, hi) => decide (lo < x.base + x.length ∧ x.base < hi)))
    || (match s.cnf.record, s.cnf.me s.gaz.eui with
      | some r, some me => r.tenant == x.tenant && r.manifest.any fun (m : MirrorEntry) => (m.owner == me && m.slot == x.slot)
          || (m.mslot == x.slot && ((r.entries[m.owner]?).map (·.buddy)) == some (r.identityOf me))
      | _, _ => false)

/-- R436: a change takes something away: a destroy, a shrink, a permission removed. -/
def plotRemoves (old : Plot) : Option Plot → Bool
  | none => true
  | some x => !(decide (x.base ≤ old.base ∧ old.base + old.length ≤ x.base + x.length) && x.tenant == old.tenant && (old.perm &&& x.perm) == old.perm)

/-- R433: a destroy or a shrink. -/
def plotShrinks (old : Plot) : Option Plot → Bool
  | none => true
  | some x => !decide (x.base ≤ old.base ∧ old.base + old.length ≤ x.base + x.length) || x.slot != old.slot || x.tenant != old.tenant || !x.valid

/-- R436: transfers that passed a check under the old parity and have not completed. -/
def State.oldTransfers (s : State) : Nat :=
  let cur := s.ten.verCur
  ((s.clusters.map fun (_, k) => oldUnder cur (k.sq.moves.map (·.par)) + oldUnder cur (k.sx.gathers.map (·.par))).sum)
    + (s.ten.chans.map fun (_, c) => oldUnder cur ((c.entries.filter fun e => e.started && e.done.isNone && e.kind == 2).map (·.par))).sum

/-- R436 steps 1 to 4: a change applied as a new version; one that removes drains. -/
def Tenancy.applyPlot (t : Tenancy) (x : PlotChange) : Tenancy :=
  { t with plots := (match x.entry with | some p => Tbl.set t.plots x.num p | none => Tbl.erase t.plots x.num)
           verCur := !t.verCur, draining := if x.removes then some x else none }

/-- R433, R436, R451: a write of 0x4301 by a function: 0xFFFF takes a free number, and an entry of length 0 destroys. -/
def State.plotChange (s : State) (port fn num : Nat) (bs : List Byte) : FCode × State :=
  if s.atZero then (.notReady, s)
  else if bs.length ≠ 32 then (.lengthMismatch, s)
  else match (if num = 0xFFFF then Tbl.lowestFree s.ten.plots 0 8192 else some num) with
  | none => (.plotInvalid, s)
  | some n =>
    let entry := if le bs 8 8 = 0 then none else some (plotOfBytes bs)
    let old := Tbl.get? s.ten.plots n
    let owners := (entry.map (·.tenant)).toList ++ (old.map (·.tenant)).toList
    if owners.any fun t => !s.bound port fn t then (.tenantDenied, s)
    else if n ≥ 8192 ∨ (entry.isNone ∧ old.isNone) then (.plotInvalid, s)
    else if (match entry with | some x => !s.plotOk n x | none => false) then (.plotInvalid, s)
    else if (match old with | some o => plotShrinks o entry && s.plotInUse o | none => false) then (.plotBusy, s)
    else
      let x : PlotChange := ⟨n, entry, match old with | some o => plotRemoves o entry | none => false⟩
      (.ok, s.modTen fun t => if t.draining.isSome then { t with waitingPlots := t.waitingPlots ++ [x] } else t.applyPlot x)

def execPlotChange (port : Fin 2) (fn : Fin 513) (num : Half) (entry : List Byte) (s : State) : Ans :=
  .next (s.plotChange port fn num.toNat entry).2

/-- Waiting changes applied until one drains. -/
def Tenancy.nextPlots (t : Tenancy) : Nat → Tenancy
  | 0 => t
  | fuel + 1 =>
    match t.draining, t.waitingPlots with
    | none, x :: rest => Tenancy.nextPlots ({ t with waitingPlots := rest }.applyPlot x) fuel
    | _, _ => t

/-- R436 steps 2 and 4: a tick latches the transfers of the old parity; at 0 a removal completes, and the next change is applied. -/
def execPlotVersionDrained (s : State) : Ans :=
  .next (
    let n := s.oldTransfers
    let s1 := s.modTen fun t => { t with oldTick := tickOf s.mcount, oldCount := n }
    if n ≠ 0 ∨ s1.ten.draining.isNone then s1
    else s1.modTen fun t => ({ t with draining := none }).nextPlots t.waitingPlots.length)

end Sys2Proof.Machine
end

