-- ==== Sys2Proof/Machine/Channels.lean ====
section
/-!
DEFINITION. Channels, queues, the scheduler and HALT (spec 15 R437 to R450, R454, 16 R456 to R458, R460, R462, R466, R508).
-/
namespace Sys2Proof.Machine

/-! Host memory and host permissions -/

/-- 19 R531: the channel scheduler runs; while it is stopped, fetches, creates and destroys wait. -/
def State.schedUp (s : State) : Bool := (s.fw.comp 4).state == 1

/-- 18 R508: a port serves tenant traffic. -/
def State.portServes (s : State) (p : Nat) : Bool := !s.ctg.approved || (Tbl.get {} (s.hosts.port p).ide 0).secure

/-- R458, R508: the way to a place stands. -/
def State.pathUp (s : State) : PAddr → Bool
  | .host p _ _ => (s.hosts.port p).linkUp && s.portServes p
  | _ => true

/-- R445: a space that host DMA reaches. -/
def hostSpace (a : Nat) : Bool := [0, 1, 3, 4].contains (spaceOf a)

/-- R434, R445, R456, R458: an extent under the host permissions of a tenant: its place, or the status that an entry completes with. -/
def State.hostExtent (s : State) (tenant : Nat) (wr : Bool) (a n : Nat) : Except FCode PAddr :=
  if !hostSpace a then .error .addrSpace
  else match decodeAddr a with
  | .error _ => .error .addrBound
  | .ok p =>
    let on : Bool := match p with | .host q fn _ => s.hosts.enabled q fn | _ => true
    if !s.pathUp p then .error .addrBound
    else if on && (s.ten.plotCheck s.isSealed tenant .host wr a n).isNone then .ok p
    else .error .lengthBound

/-- 14 R416: a write that a sealed plot refuses sets CNF_STAT.SEALW. -/
def State.noteHostSeal (s : State) (tenant a n : Nat) : State :=
  match s.ten.plotCheck s.isSealed tenant .host true a n with
  | some 4 => s.noteSeal 4
  | _ => s

/-- Bytes of a channel's queues written; those for a host whose link is down are lost. -/
def State.queueWrite (s : State) (tenant a : Nat) (bs : List Byte) : State :=
  match decodeAddr a with
  | .ok p => if s.pathUp p then s.writeAt 0x140 tenant false (bs.map fun b => (b, false)) p else s
  | .error _ => s

/-- 16 R465: any TLP from the primary's host, stamped at or before the deadline, cancels a promotion. -/
def State.hostSeen (s : State) (port : Nat) : State :=
  match s.hosts.pend with
  | some d => if s.hosts.primary = port ∧ s.mcount ≤ d then s.modHosts fun h => { h with pend := none } else s
  | none => s

/-! Completions (R444, R462) -/

/-- R442, R444, R462: an entry's completion written where it asked for one, the position after it, and its MSI-X message. -/
def State.writeCompletion (s : State) (i : Nat) (e : SubEntry) (st : FCode) : State :=
  if !e.flag then s
  else
    let c := s.ten.chan i
    let s1 := s.queueWrite c.tenant (c.cq + 16 * (c.completed % 2 ^ c.cqLog)) (completionBytes e st)
    let s2 := s1.queueWrite c.tenant (c.cq - 8) (leBytes 8 (c.completed + 1))
    let s3 := s2.modTen fun t => t.modChan i fun c => { c with completed := c.completed + 1 }
    if (s.hosts.port c.port).linkUp then s3.emit (.msix c.port c.fn (completionVector c.fn i)) else s3

/-- R443: completions are written in entry order, up to the first entry that has not completed; a queue in a scratchpad that is being
zeroized, or a shaper of its stack, holds them (08 R242, 11 R330). -/
def State.flush (s : State) (i : Nat) : Nat → State
  | 0 => s
  | fuel + 1 =>
    match (s.ten.chan i).entries with
    | e :: rest =>
      match (if s.memHoldsAt 0x140 (s.ten.chan i).tenant (s.ten.chan i).cq then none else e.done) with
      | some st => State.flush ((s.writeCompletion i e st).modTen fun t => t.modChan i fun c => { c with entries := rest }) i fuel
      | none => s
    | [] => s

/-- R443: an entry has completed with a status. -/
def State.finish (s : State) (i seq : Nat) (st : FCode) : State :=
  let s1 := s.modTen fun t => t.modChan i fun c => { c with entries := c.entries.map fun e =>
    if e.seq = seq ∧ e.done.isNone then { e with started := true, done := some st, doneAt := s.mcount } else e }
  s1.flush i (s.ten.chan i).entries.length

/-! The scheduler (R447 to R449) -/

/-- R447: the waiting RUN that goes next on a partition: of the highest priority, the longest waiting; held channels' RUNs stay. -/
def Tenancy.bestWaiting (t : Tenancy) (p : Nat) : Option Running :=
  let ws := (Tbl.get [] t.waitingRuns p).filter fun r => (t.chan r.chan).state == 1
  (argMin (fun i => 7 - ((ws[i]?).map fun r => (t.chan r.chan).prio).getD 0) (List.range ws.length)).bind fun i => ws[i]?

def Tenancy.dropWaiting (t : Tenancy) (p : Nat) (r : Running) : Tenancy :=
  { t with waitingRuns := Tbl.set t.waitingRuns p ((Tbl.get [] t.waitingRuns p).erase r) }

/-- R443: the start count of a RUN: the one it names, or the start of the first tick at least 2 ticks ahead. -/
def State.startCount (s : State) (named : Word) : Nat :=
  if named = 0 then cdiv (s.mcount + 200000) 100000 * 100000 else named.toNat

/-- R193 step 7: SQR_PC and SQR_EBASE are set, and START; a sequencer that runs takes the EBASE alone (R184, R185). -/
def Cluster.startAt (k : Cluster) (pc : Nat) (e : Word) : Cluster :=
  if k.sq.run then { k with sq := { k.sq with ebase := e } } else { k with sq := { k.sq with pc := pc, ebase := e }.start }

/-- R443, R193 step 7, R453: the clusters of a RUN start. R48 asks a new check of a chart at a later generation and names no one who makes
it: a RUN starts the chart as loaded, unchecked (log entry 65). -/
def State.startRun (s : State) (p : Nat) (r : Running) (count : Nat) : State :=
  let h := (s.ten.chan r.chan).handle r.chan
  let s1 := (Tbl.get ⟨p, []⟩ s.ten.charts r.load).clusters.foldl (fun s (c, pc) => s.modCl c fun k =>
    { k.startAt pc (BitVec.ofNat 64 count) with chn := { k.chn with cur := h, ytp := 0, ystat := 0 } }) s
  s1.modTen fun t => { t with running := Tbl.set t.running p { r with since := s.mcount, preempt := false, start := none } }

/-- R447: a partition free of a RUN takes the next one; a pre-empted one waits for its resumption (R449). -/
def State.nextRun (s : State) (p : Nat) : State :=
  if (Tbl.get? s.ten.running p).isSome then s
  else match s.ten.bestWaiting p with
  | some r => if r.saved.isSome then s else (s.modTen fun t => t.dropWaiting p r).startRun p r (s.startCount (r.start.getD 0))
  | none => s

/-- R447, R448: pre-emption of a partition's RUN requested by one count TP, which the spec leaves to the scheduler: a free value at or
after the request (log entry 6). -/
def State.requestPreempt (s : State) (p : Nat) : State :=
  match Tbl.get? s.ten.running p with
  | none => s
  | some r =>
    if (s.ten.chan r.chan).saveSlot = 0xFF ∨ r.preempt then s
    else
      let (v, s1) := s.fresh
      let tp := BitVec.ofNat 64 (s.mcount + v)
      ((Tbl.get ⟨p, []⟩ s.ten.charts r.load).clusters.foldl (fun s (c, _) => s.modCl c fun k => { k with chn := { k.chn with ytp := tp } }) s1).modTen
        fun t => { t with running := Tbl.set t.running p { r with preempt := true } }

/-- R450: the RUN in progress on a partition completes with HALTED. -/
def State.haltRun (s : State) (p : Nat) : State :=
  match Tbl.get? s.ten.running p with
  | none => s
  | some r => (s.modTen fun t => { t with running := Tbl.erase t.running p }).finish r.chan r.seq .halted

/-! Entries (R443, R445) -/

/-- R443: the entry of a channel that starts next, where it is of a kind: a channel that is held starts none. -/
def State.nextEntry (s : State) (i kind : Nat) : Option SubEntry :=
  let c := s.ten.chan i
  if c.state ≠ 1 then none
  else (c.entries.find? fun e => !e.started).filter fun e => e.kind == kind

/-- R443: every earlier entry has completed: those before the next to start. -/
def State.earlierDone (s : State) (i : Nat) (e : SubEntry) : Bool :=
  (s.ten.chan i).entries.all fun x => decide (e.seq ≤ x.seq) || x.done.isSome

/-- R443, R447: a RUN entry starts its chart, or waits for the partition; a load number that names no chart of the partition completes
with ENTRY_INVALID (log entry 39). A chart of an earlier generation runs as it was loaded (R48; log entry 65). -/
def execRun (i : Fin 4096) (s : State) : Ans :=
  .next (
    match s.nextEntry i 1 with
    | none => s
    | some e =>
      let c := s.ten.chan i
      let load := e.b.toNat % 2 ^ 32
      let s1 := s.modTen fun t => t.modChan i fun c => { c with entries := c.entries.map fun x => if x.seq = e.seq then { x with started := true } else x }
      match Tbl.get? s.ten.charts load with
      | some ch =>
        if ch.part ≠ c.part then s1.finish i e.seq .entryInvalid
        else
          let r : Running := { chan := i, seq := e.seq, load := load, since := s.mcount, start := some e.a }
          let s2 := (s1.modTen fun t => { t with waitingRuns := Tbl.set t.waitingRuns c.part (Tbl.get [] t.waitingRuns c.part ++ [r]) }).nextRun c.part
          match Tbl.get? s2.ten.running c.part with
          | some q => if (s2.ten.chan q.chan).prio < c.prio then s2.requestPreempt c.part else s2
          | none => s2
      | none => s1.finish i e.seq .entryInvalid)

/-- R231: a DMA's number at a scratchpad. -/
def dmaXfer (i seq : Nat) : Nat := i * 2 ^ 32 + seq % 2 ^ 32

/-- R445, R458: a DMA entry is checked: refused whole, complete at once, or under way behind its Weir ranges. -/
def execDmaEntry (i : Fin 4096) (s : State) : Ans :=
  .next (
    match s.nextEntry i 2 with
    | none => s
    | some e =>
      let t := (s.ten.chan i).tenant
      let n := e.c.toNat
      if n = 0 then s.finish i e.seq .ok
      else match s.hostExtent t false e.a.toNat n, s.hostExtent t true e.b.toNat n with
      | .ok src, .ok dst =>
        let ask (s : State) (p : PAddr) (out : Bool) : State := match p with
          | .spd c o => s.modCl c fun k => { k with spd := k.spd.request ⟨o, n, out, 0, dmaXfer i e.seq⟩ }
          | _ => s
        (ask (ask s src true) dst false).modTen fun t => t.modChan i fun c => { c with entries := c.entries.map fun x =>
          if x.seq = e.seq then { x with started := true, par := s.ten.verCur } else x }
      | .error a, .error b => s.finish i e.seq (if b.num < a.num then b else a)
      | .error a, .ok _ => s.finish i e.seq a
      | .ok _, .error b => (s.noteHostSeal t e.b.toNat n).finish i e.seq b)

/-- R231: the ranges of a DMA at one of its places are released: its own, and an OUT range that its host-port die asked for by Delta. -/
def State.dmaFree (s : State) (i seq port n : Nat) : PAddr → State
  | .spd k o => s.modCl k fun k => { k with spd := (k.spd.release 0 (dmaXfer i seq)).releaseRead (0x142 + port) o n }
  | _ => s

/-- R231, R445, R457: the copy of a DMA ends, once its ranges are granted: `data` are host or peer bytes, poisoned or not. -/
def State.dmaDone (s : State) (i seq : Nat) (data : List Byte) (poison : Bool) : State :=
  match (s.ten.chan i).entries.find? fun e => e.seq == seq with
  | none => s
  | some e =>
    let c := s.ten.chan i
    let waits (p : Except Cause PAddr) : Bool := match p with | .ok (.spd k _) => (s.cl k).spd.waits 0 (dmaXfer i seq) | _ => false
    let src := decodeAddr e.a.toNat
    let dst := decodeAddr e.b.toNat
    if e.kind ≠ 2 || !e.started || e.done.isSome || c.state ≠ 1 && c.overrun || waits src || waits dst then s
    else match src, dst with
    | .ok a, .ok b =>
      let u := 0x142 + c.port
      if s.memHolds u c.tenant a || s.memHolds u c.tenant b then s
      else
      let (bs, s1) := s.readHost u c.tenant false data poison e.c.toNat a
      let free (s : State) : PAddr → State := s.dmaFree i seq c.port e.c.toNat
      (free (free (s1.writeAt u c.tenant false bs b) a) b).finish i seq .ok
    | _, _ => s

def execHostDmaComplete (i : Fin 4096) (seq : Nat) (data : List Byte) (poison : Bool) (s : State) : Ans := .next (s.dmaDone i seq data poison)

/-- R443: a FENCE completes once every earlier entry has. -/
def execFenceEntry (i : Fin 4096) (s : State) : Ans :=
  .next (
    match s.nextEntry i 3 with
    | some e => if s.earlierDone i e then s.finish i e.seq .ok else s
    | none => s)

/-- R443: a SIGNAL writes its value once every earlier entry has completed, behind a range where it lies in a scratchpad (08 R231). -/
def execSignalEntry (i : Fin 4096) (s : State) : Ans :=
  .next (
    match s.nextEntry i 4 with
    | some e =>
      if !s.earlierDone i e then s
      else
        let t := (s.ten.chan i).tenant
        match s.hostExtent t true e.a.toNat 8 with
        | .ok p => if s.rangeWaits 8 p || s.memHolds 0x140 t p then s else (s.writeAt 0x140 t false ((leBytes 8 e.b.toNat).map fun b => (b, false)) p).finish i e.seq .ok
        | .error st => (s.noteHostSeal t e.a.toNat 8).finish i e.seq st
    | none => s)

/-- R444, 23 R608: the R607 code of a cause that SQR_CAUSE.CODE records. -/
def causeStatus (code : Nat) : FCode :=
  let all : List Cause := [.illegalBundle, .illegalCount, .tileDescInvalid, .anchorMismatch, .shoalInvalid, .soundingOvf, .vxSuspended,
    .schedOverrun, .addrSpace, .addrBound, .lengthBound, .handleStale, .addrAlign]
  if code = Cause.sxFault.code then .sxFault else (((all.find? fun k => k.code == code).bind Cause.fcode).getD .trapNested)

/-- R444: the status of a stopped sequencer. -/
def Cluster.runStatus (k : Cluster) : FCode :=
  if k.sq.halted then .halted
  else if k.sq.nest then causeStatus k.sq.causeCode
  else .ok

/-- A sequencer stopped at a YIELD (R448). -/
def Cluster.yielded (k : Cluster) : Bool := !k.sq.run && k.chn.ystat.testBit 31

/-- R443, R444: every sequencer of a partition's RUN has stopped: it completes with the worst status among them. -/
def execRunComplete (p : Fin 256) (s : State) : Ans :=
  .next (
    match Tbl.get? s.ten.running p with
    | none => s
    | some r =>
      let ks := (Tbl.get ⟨p, []⟩ s.ten.charts r.load).clusters.map fun (c, _) => s.cl c
      if ks.any fun k => k.sq.run || k.yielded then s
      else
        let worst := (ks.map Cluster.runStatus).foldl (fun a b => if a.num < b.num then b else a) FCode.ok
        ((s.modTen fun t => { t with running := Tbl.erase t.running p }).finish r.chan r.seq worst).nextRun p)

/-- R447: a running channel's time-slice ends: pre-emption is requested where a RUN of equal priority waits. -/
def execTimeSliceExpiry (p : Fin 256) (s : State) : Ans :=
  .next (
    match Tbl.get? s.ten.running p with
    | none => s
    | some r =>
      let c := s.ten.chan r.chan
      let waits := (Tbl.get [] s.ten.waitingRuns p).any fun w => (s.ten.chan w.chan).prio == c.prio && w.chan != r.chan
      if decide (r.since + c.slice * 100000 ≤ s.mcount) && waits then s.requestPreempt p else s)

/-- R449: what the scheduler saves of a cluster; `xs` are the extents of its YIELD section. -/
def Cluster.saved (k : Cluster) (c : Nat) (xs : List (Nat × Nat)) : SavedCluster × Cluster :=
  let (bs, spd) := k.spd.readExtents 1 xs
  (⟨c, k.sq.g, k.mx.tdesc, k.sq.land, k.sq.pc, k.sq.ebase, k.chn.ydl, bs⟩, { k with spd := spd })

/-- The bytes that a save takes: g0 to g31, t0 to t15, SQR_LAND and the extents. -/
def SavedCluster.size (x : SavedCluster) : Nat := 516 + (x.bytes.map fun (_, b) => b.length).sum

/-- R449: every cluster of a partition's chart has yielded: its state is saved into the save plot, whose layout the spec does not
give (free values, log entry 40), and the next RUN goes on. `xs` are the extents that the chart's YIELD section lists for the point, as
cluster, offset and length. -/
def execChartYielded (p : Fin 256) (xs : List (ClusterId × Nat × Nat)) (s : State) : Ans :=
  .next (
    match Tbl.get? s.ten.running p with
    | none => s
    | some r =>
      let cs := (Tbl.get ⟨p, []⟩ s.ten.charts r.load).clusters.map (·.1)
      if cs.isEmpty || cs.any fun c => !(s.cl c).yielded then s
      else
        let c := s.ten.chan r.chan
        let ext (k : Nat) : List (Nat × Nat) := (xs.filter fun x => x.1.val == k).map (·.2)
        let saves := cs.map fun k => ((s.cl k).saved k (ext k)).1
        let s1 := cs.foldl (fun s c => s.modCl c fun k => let k1 := (k.saved c (ext c)).2; { k1 with chn := { k1.chn with ytp := 0 } }) s
        let s2 := match s.ten.plots.find? fun (_, x) => x.valid && x.tenant == c.tenant && x.slot == c.saveSlot with
          | some (_, x) =>
            let n := Nat.min x.length ((saves.map SavedCluster.size).sum)
            let bs := (List.range n).map fun j => (BitVec.ofNat 8 (Config.freeValue (s.freeCtr + j)), false)
            match decodeAddr x.base with
            | .ok a => ({ s1 with freeCtr := s1.freeCtr + n }).writeAt 0x140 c.tenant false bs a
            | .error _ => s1
          | none => s1
        (s2.modTen fun t =>
          { t with running := Tbl.erase t.running p
                   waitingRuns := Tbl.set t.waitingRuns p (Tbl.get [] t.waitingRuns p ++ [{ r with preempt := false, saved := some saves }]) }).nextRun p)

/-- R449: a saved cluster restored, rebased and started at count `r`. -/
def Cluster.restore (k : Cluster) (h r : Nat) (x : SavedCluster) : Cluster :=
  { k with
    sq := { { k.sq with g := x.g, land := x.land, pc := x.pc, ebase := x.ebase + BitVec.ofNat 64 r - x.ydl }.start with startAt := r }
    mx := { k.mx with tdesc := x.t }
    spd := x.bytes.foldl (fun d (o, bs) => (d.writeP 0 o bs).2) k.spd
    chn := { k.chn with cur := h, ytp := 0, ystat := 0, ydl := x.ydl } }

/-- R449: the RUN that goes next on a free partition was pre-empted: it resumes at a start count `r` at least 2 ticks ahead, once every
range that its restored extents need can be granted (08 R231). -/
def execYieldResume (p : Fin 256) (r : Word) (s : State) : Ans :=
  .next (
    match Tbl.get? s.ten.running p, s.ten.bestWaiting p with
    | none, some w =>
      match w.saved with
      | some saves =>
        if r.toNat < s.mcount + 200000 ∨ (saves.any fun x => x.bytes.any fun b => s.rangeWaits b.2.length (.spd x.cluster b.1)) then s
        else
          let h := (s.ten.chan w.chan).handle w.chan
          let s1 := saves.foldl (fun s x => s.modCl x.cluster fun k => k.restore h r.toNat x) s
          s1.modTen fun t => { t.dropWaiting p w with running := Tbl.set t.running p { w with saved := none, since := s.mcount, preempt := false } }
      | none => s
    | _, _ => s)

/-! Doorbells and fetches (R442, R460) -/

/-- R442, R458: the entry at position `k` of a channel's queue, fetched: `data` are the bytes from host memory, in order. An entry that
cannot be fetched completes with ADDR_BOUND, under a tag that was never read (log entry 6). -/
def State.fetchOne (s : State) (i k : Nat) (data : List Byte) : State :=
  let c := s.ten.chan i
  let slot := c.fetched % 2 ^ c.sqLog
  let push (s : State) (e : SubEntry) : State := s.modTen fun t => t.modChan i fun c =>
    { c with entries := c.entries ++ [e], fetched := (c.fetched + 1) % 2 ^ 32 }
  let add (s : State) (bs : List Byte) : State :=
    let e := subOfBytes c.fetched slot bs
    if 1 ≤ e.kind ∧ e.kind ≤ 4 then push s e else push s { e with started := true, done := some .entryInvalid, doneAt := s.mcount }
  match decodeAddr (c.sq + 64 * slot) with
  | .ok (.host p fn a) =>
    if s.pathUp (.host p fn a) then add (s.emit (.hostRead p fn a 64)) ((data.drop (64 * k)).take 64)
    else
      let (v, s1) := s.fresh
      push s1 { seq := c.fetched, idx := slot, kind := 0, flag := true, tag := v % 2 ^ 32, a := 0, b := 0, c := 0, started := true,
                done := some .addrBound, doneAt := s.mcount }
  | .ok q => let (bs, s1) := s.readAt 0x140 c.tenant false [] 64 q; add s1 (bs.map (·.1))
  | .error _ => s

def State.fetchAll (s : State) (i : Nat) (data : List Byte) (k : Nat) : Nat → State
  | 0 => s
  | n + 1 => State.fetchAll (s.fetchOne i k data) i data (k + 1) n

/-- R442: the entries up to the producer index fetched, the consumer index written (log entry 41), and what completed with them flushed;
a producer too far ahead holds the channel until it is destroyed. A held channel fetches nothing, nor does one whose queue lies in a
scratchpad that is being zeroized (08 R242), or in a stack whose shapers hold it (11 R330). -/
def State.fetch (s : State) (i : Nat) (data : List Byte) : State :=
  let c := s.ten.chan i
  let n := (c.prod + 2 ^ 32 - c.fetched) % 2 ^ 32
  if c.state ≠ 1 ∨ !s.schedUp ∨ n = 0 ∨ s.memHoldsAt 0x140 c.tenant c.sq then s
  else if n > 2 ^ c.sqLog then
    (s.modTen fun t => t.modChan i fun c => { c with state := 3, overrun := true }).raiseSv .queueOverrun 0xFFFF i 0
  else
    let s1 := s.fetchAll i data 0 n
    (s1.queueWrite c.tenant (c.sq - 8) (leBytes 8 (s1.ten.chan i).fetched)).flush i (s1.ten.chan i).entries.length

/-- R460: a doorbell checked and taken, from a function that `bound` tells about. -/
def State.ring (s : State) (bound : Nat → Bool) (page : Nat) (handle prod : Nat) (data : List Byte) : State :=
  if handleIndex handle ≠ page || !s.ten.current handle || !bound (handleTenant handle) then s.modTen Tenancy.countStale
  else (s.modTen fun t => t.modChan page fun c => { c with prod := prod }).fetch page data

/-- R442, R460, R469, 18 R508: a doorbell write at a page of a function; `data` are the queue's entries in host memory. Before SVF runs,
or where the port serves no tenants, it is discarded. -/
def execDoorbell (port : Fin 2) (fn : Fin 513) (page : Fin 4096) (handle prod : Word32) (data : List Byte) (s : State) : Ans :=
  .next (
    if !s.fw.accepted 1 || !(s.hosts.port port).linkUp || !s.hosts.enabled port fn || !s.portServes port then s
    else (s.hostSeen port).ring (s.bound port fn) page handle.toNat prod.toNat data)

/-- R454: a read of CHN_STALE clears it. -/
def execChnStaleRead (s : State) : Ans := .next (s.modTen fun t => { t with stale := 0 })

/-! Creation and destruction (R440, R441) -/

/-- R440: a create request. -/
structure CreateReq where
  tenant : Nat
  part : Nat
  prio : Nat
  sqLog : Nat
  cqLog : Nat
  slot : Nat
  slice : Nat
  cookie : Word32
  sq : Nat
  cq : Nat
  win : Nat
  winLen : Nat
  result : Nat
  deriving DecidableEq, Repr

def createOfBytes (bs : List Byte) : CreateReq :=
  ⟨le bs 0 2, le bs 2 2, le bs 4 1, le bs 5 1, le bs 6 1, le bs 7 1, le bs 8 2, BitVec.ofNat 32 (le bs 12 4), le bs 16 8, le bs 24 8,
   le bs 32 8, le bs 40 4, le bs 48 8⟩

/-- R440: every field is in its range. -/
def CreateReq.ok (q : CreateReq) (bs : List Byte) : Bool :=
  decide (q.prio ≤ 7 ∧ 4 ≤ q.sqLog ∧ q.sqLog ≤ 16 ∧ 4 ≤ q.cqLog ∧ q.cqLog ≤ 16 ∧ (q.slot < 64 ∨ q.slot = 0xFF) ∧ 1 ≤ q.slice
    ∧ q.winLen % 64 = 0 ∧ q.tenant < 512 ∧ le bs 10 2 = 0 ∧ le bs 44 4 = 0 ∧ le bs 56 8 = 0)

/-- R440, R442: queues in host memory or HBM that pass the check with host read and write, and a window with cluster write. -/
def State.createBounds (s : State) (q : CreateReq) : Bool :=
  let queue (a n : Nat) : Bool := [0, 3].contains (spaceOf a) && (match decodeAddr a with
    | .ok (.host p fn _) => s.hosts.enabled p fn
    | .ok _ => true
    | .error _ => false)
    && (s.ten.plotCheck s.isSealed q.tenant .host false a n).isNone && (s.ten.plotCheck s.isSealed q.tenant .host true a n).isNone
  queue q.sq (64 * 2 ^ q.sqLog) && queue q.cq (16 * 2 ^ q.cqLog)
    && (q.win == 0 || (s.ten.plotCheck s.isSealed q.tenant .cluster true q.win q.winLen).isNone)

/-- R440: the partition of a new channel: the one named, or, for the scheduler's choice, any of the tenant's (log entry 6). -/
def State.placement (s : State) (q : CreateReq) : Option Nat :=
  let ps := (s.ten.parts.filter fun (_, p) => p.state != 0 && p.tenant == q.tenant).map (·.1)
  if q.part = 0xFFFF then ps[Config.freeValue s.freeCtr % ps.length]? else if ps.contains q.part then some q.part else none

/-- R440: the 16 bytes written to the host. -/
def createResult (q : CreateReq) (handle : Nat) (st : FCode) : List Byte :=
  leBytes 4 q.cookie.toNat ++ leBytes 4 handle ++ leBytes 2 st.num ++ leBytes 6 0

/-- R438, R440, R451, 20 R539: a write of 0x4001 by a function: what the write answers, and the channel with its result. -/
def State.createChannel (s : State) (port fn : Nat) (bs : List Byte) : FCode × State :=
  let q := createOfBytes bs
  let answer (s : State) (h : Nat) (st : FCode) : State := s.emit (.hostWrite port fn (q.result % 2 ^ 49) (createResult q h st))
  if bs.length ≠ 64 then (.lengthMismatch, s)
  else if s.boot.level ≠ some 2 then (.busy, s)
  else if !q.ok bs then (.valueRange, s)
  else if !s.bound port fn q.tenant then (.tenantDenied, answer s 0 .tenantDenied)
  else match s.placement q with
  | none => (.ok, answer s 0 .partitionNone)
  | some p =>
    let s1 := { s with freeCtr := if q.part = 0xFFFF then s.freeCtr + 1 else s.freeCtr }
    if !s.createBounds q then (.ok, answer s1 0 .lengthBound)
    else match s.ten.freeIndex with
    | none => (.ok, answer s1 0 .channelFull)
    | some i =>
      let old := s.ten.chan i
      let c : Chan := {
        state := 1, gen := old.gen, lastDestroy := old.lastDestroy, tenant := q.tenant, part := p, prio := q.prio, sqLog := q.sqLog,
        cqLog := q.cqLog, saveSlot := q.slot, slice := q.slice, cookie := q.cookie, sq := q.sq, cq := q.cq, win := q.win,
        winLen := if q.win = 0 then 0 else q.winLen, port := port, fn := fn }
      (.ok, answer (s1.modTen fun t => { t with chans := Tbl.set t.chans i c }) (c.handle i) .ok)

def execChannelCreate (port : Fin 2) (fn : Fin 513) (req : List Byte) (s : State) : Ans :=
  .next (if s.schedUp then (s.createChannel port fn req).2 else s)

/-- R441 steps 1 to 4: a channel closes: its RUN completes with HALTED and its clusters halt, what has not completed is discarded, its
generation goes on and the index is free (log entry 42). -/
def State.destroyChannel (s : State) (i : Nat) : State :=
  let c := s.ten.chan i
  if c.state = 0 then s
  else
    let here : Option Running := (Tbl.get? s.ten.running c.part).filter fun r => r.chan == i
    let s1 := match here with
      | some r => ((Tbl.get ⟨c.part, []⟩ s.ten.charts r.load).clusters.foldl (fun s (k, _) => s.modCl k Cluster.halt) s).haltRun c.part
      | none => match (Tbl.get [] s.ten.waitingRuns c.part).find? fun r => r.chan == i && r.saved.isSome with
        | some r => s.finish i r.seq .halted
        | none => s
    let ranges (s : State) (e : SubEntry) : State := [e.a, e.b].foldl (fun s a => match decodeAddr a.toNat with
      | .ok (.spd k _) => s.modCl k fun k => { k with spd := { k.spd.release 0 (dmaXfer i e.seq) with
          weirWait := k.spd.weirWait.filter fun w => !(w.owner == 0 && w.xfer == dmaXfer i e.seq) } }
      | _ => s) s
    let s2 := (c.entries.filter fun e => e.kind == 2 && e.started && e.done.isNone).foldl ranges s1
    (s2.modTen fun t =>
      { t with destroys := t.destroys + 1
               chans := Tbl.set t.chans i { gen := nextGen c.gen, lastDestroy := t.destroys + 1 }
               waitingRuns := Tbl.set t.waitingRuns c.part ((Tbl.get [] t.waitingRuns c.part).filter fun r => r.chan != i) }).nextRun c.part

/-- R439, R441, R451: a write of 0x4003 by a function. -/
def State.destroyBy (s : State) (port fn handle : Nat) : FCode × State :=
  if !s.ten.current handle then (.handleStale, s.modTen Tenancy.countStale)
  else if !s.bound port fn (handleTenant handle) then (.tenantDenied, s)
  else (.ok, s.destroyChannel (handleIndex handle))

def execChannelDestroy (port : Fin 2) (fn : Fin 513) (handle : Word32) (s : State) : Ans :=
  .next (if s.schedUp then (s.destroyBy port fn handle.toNat).2 else s)

/-! HALT (R450, R466) -/

/-- R272: a multicast ACKREQ packet of a group waits at its port to be injected. -/
def State.mcWaits (s : State) (group : Nat) : Bool := s.delta.outbox.any fun x => x.2.2.multicast && x.2.2.ackreq && x.2.2.dest == group

/-- R284, R450: the HALT at the front of a partition's requests is injected: the packet goes into the partition's group, once the group's last
MACK has returned (R272), the RUN completes with HALTED, and the channels placed there are held. -/
def State.injectHalt (s : State) (p : Nat) : State :=
  let q := s.ten.part p
  let u := 0x140 + s.fw.active
  let x := s.siteOfUnit u
  let s0 := s.sendCtl x (haltPacket q.haltGroup u q.tenant)
  let s1 := if s0.delta.mcPend.contains q.haltGroup || s0.mcWaits q.haltGroup then s0
    else s0.modDelta fun d => { d with mcPend := q.haltGroup :: d.mcPend, mcEd := Tbl.set d.mcEd q.haltGroup ((d.router x).edAt s.mcount) }
  (s1.haltRun p).modTen fun t =>
    { t with chans := t.chans.map fun (i, c) => (i, if c.state = 1 ∧ c.part = p then { c with state := 3 } else c) }

/-- R466: a HALT completes: its record, where the port that asked named an address for it, and vector 0. -/
def State.haltAnswer (s : State) (p : Nat) (r : HaltReq) (short : Bool) (count : Nat) : State :=
  let q := r.port.getD s.hosts.primary
  let a := (s.hosts.port q).haltCq
  let rec16 := leBytes 4 r.tag ++ leBytes 1 p ++ leBytes 1 (if short then 1 else 0) ++ leBytes 2 count ++ leBytes 8 s.mcount
  let s1 := if r.port.isSome ∧ a ≠ 0 then s.emit (.hostWrite q 0 a rec16) else s
  let s2 := s1.emit (.msix q 0 0)
  if short then s2.raiseSv .haltShort 0xFFFF 0 0 else s2

/-- R450, R466: a HALT of a partition asked for: by the doorbell of a port, or by 0x4400. A second one waits for the first one's MACK; a
free partition has no cluster to reach. -/
def State.askHalt (s : State) (p : Nat) (port : Option Nat) (tag : Nat) : State :=
  let q := s.ten.part p
  let r : HaltReq := ⟨port, tag, q.set.length⟩
  if q.state = 0 then s.haltAnswer p r false 0
  else
    let s1 := s.modTen fun t => { t with halts := Tbl.set t.halts p (Tbl.get [] t.halts p ++ [r]) }
    if (Tbl.get [] s.ten.halts p).isEmpty then s1.injectHalt p else s1

/-- R450, R463: a write of 0x4400 by a host port. -/
def execPartitionHalt (port : Fin 2) (p : Half) (s : State) : Ans :=
  .next (if s.hosts.primary ≠ port ∨ p.toNat ≥ 256 then s else s.askHalt p.toNat none 0)

/-- R466, R472: a write of SVY_HALTDB by a function; only the primary's PF has it. -/
def execHaltDoorbell (port : Fin 2) (fn : Fin 513) (w : Word) (s : State) : Ans :=
  .next (if s.hosts.primary ≠ port ∨ fn ≠ 0 ∨ !(s.hosts.port port).linkUp then s else (s.hostSeen port).askHalt (bits w 7 0) (some port) (bits w 63 32))

/-- R272, R450: the MACK of the HALT in progress on a partition has come back: it completes, OK or HALT_SHORT, and the next one is
injected. -/
def execHaltComplete (p : Fin 256) (s : State) : Ans :=
  .next (
    let g := (s.ten.part p).haltGroup
    match Tbl.get [] s.ten.halts p with
    | [] => s
    | r :: rest =>
      if s.delta.mcPend.contains g || s.mcWaits g then s
      else
        let n := Tbl.get 0 s.delta.mackSum g
        let s1 := (s.haltAnswer p r (decide (n < r.expect)) n).modTen fun t => { t with halts := Tbl.set t.halts p rest }
        if rest.isEmpty then s1 else s1.injectHalt p)

/-- R450: the held channels of a partition released, and what was rung meanwhile fetched; `data` gives their entries in host memory, by
channel index. A channel held until it is destroyed stays held. -/
def State.releaseHeld (s : State) (p : Nat) (data : List (Fin 4096 × List Byte)) : State :=
  let is := (s.ten.chans.filter fun (_, c) => c.state == 3 && c.part == p && !c.overrun).map (·.1)
  is.foldl (fun s i => (s.modTen fun t => t.modChan i fun c => { c with state := 1 }).fetch i
    (((data.find? fun (j, _) => j.val == i).map (·.2)).getD [])) s

def execHaltRelease (port : Fin 2) (p : Half) (data : List (Fin 4096 × List Byte)) (s : State) : Ans :=
  .next (if s.hosts.primary ≠ port then s else (s.releaseHeld p.toNat data).nextRun p.toNat)

end Sys2Proof.Machine
end

