-- ==== Sys2Proof/Machine/Loader.lean ====
section
/-!
DEFINITION. The chart loader (spec 06 R190 to R193, 01 R48).
-/
namespace Sys2Proof.Machine

/-! The chart's tables (R190 to R192) -/

/-- R191: a section entry. -/
structure Sect where
  kind : Nat
  cluster : Nat
  off : Nat
  size : Nat
  addr : Nat
  deriving DecidableEq, Repr

def sectAt (bs : List Byte) (o : Nat) : Sect := ⟨le bs o 1, le bs (o + 2) 2, le bs (o + 4) 4, le bs (o + 8) 4, le bs (o + 16) 8⟩

/-- R192: a relocation. -/
structure Reloc where
  sect : Nat
  off : Nat
  sym : Nat
  type : Nat
  deriving DecidableEq, Repr

def relocAt (bs : List Byte) (o : Nat) : Reloc := ⟨le bs o 4, le bs (o + 4) 4, le bs (o + 8) 4, le bs (o + 12) 1⟩

/-- R192: bytes of a relocated field, by type. -/
def Reloc.width (r : Reloc) : Nat := [0, 8, 8, 1, 2, 8, 4, 2].getD r.type 0

/-- R192: the kind of symbol that a relocation type names. -/
def Reloc.symKind (r : Reloc) : Option Nat := if r.type = 5 then some 1 else if r.type = 6 then some 2 else if r.type = 7 then some 3 else none

def chartSects (bs : List Byte) : List Sect := (List.range (le bs 0x24 2)).map fun i => sectAt bs (le bs 0x20 4 + 24 * i)
def chartRels (bs : List Byte) : List Reloc := (List.range (le bs 0x34 4)).map fun i => relocAt bs (le bs 0x30 4 + 16 * i)
/-- R192: path records: source, hops, destination unit. -/
def chartPaths (bs : List Byte) : List (Nat × Nat × Nat) :=
  (List.range (le bs 0x3C 4)).map fun i => let o := le bs 0x38 4 + 4 * i; (le bs o 1, le bs (o + 1) 1, le bs (o + 2) 2)

/-- The byte string with `n` little-endian bytes of `v` at offset `o`. -/
def splice (bs : List Byte) (o n v : Nat) : List Byte := bs.take o ++ leBytes n v ++ bs.drop (o + n)

/-- A file extent lies within the chart. -/
def inFile (bs : List Byte) (o n : Nat) : Bool := decide (o + n ≤ bs.length)

/-- R190, R191: a section is well placed. -/
def sectOk (bs : List Byte) (symCount : Nat) (x : Sect) : Bool :=
  decide (1 ≤ x.kind ∧ x.kind ≤ 7) && inFile bs x.off x.size
    && (if x.kind ≤ 2 then decide (x.cluster < 1536) && (x.kind != 1 || x.addr % 16 == 0) else true)
    && (x.kind != 3 || decide (x.addr / 2 ^ 32 < symCount))

/-- R192: a relocation is well placed. -/
def relOk (bs : List Byte) (ss : List Sect) (r : Reloc) : Bool :=
  decide (1 ≤ r.type ∧ r.type ≤ 7) && (match ss[r.sect]? with
    | some x => x.kind != 1 && decide (r.off + r.width ≤ x.size)
    | none => false)
  && (match r.symKind with
    | some k => decide (r.sym < le bs 0x2C 4) && le bs (le bs 0x28 4 + 16 * r.sym + 4) 1 == k
    | none => true)

/-- R87: the cuts that a REDUCE section declares are allowed ones. The spec gives the section no layout (log entry 64). -/
def cutsOk (bs : List Byte) (x : Sect) : Bool :=
  x.kind != 4 || (Config.reduceCuts ((bs.drop x.off).take x.size)).all fun c => [0, 32, 64, 96, 128].contains c

/-- R193 step 1, R87: magic, format, CRC, section kinds, relocation placement and declared cuts. -/
def chartOk (bs : List Byte) : Bool :=
  let ss := chartSects bs
  inFile bs 0 64 && le bs 0 4 == 0x54524843 && le bs 4 2 == 1 && le bs 0x1C 4 == crc32 (splice bs 0x1C 4 0)
    && inFile bs (le bs 0x20 4) (24 * le bs 0x24 2) && inFile bs (le bs 0x28 4) (16 * le bs 0x2C 4)
    && inFile bs (le bs 0x30 4) (16 * le bs 0x34 4) && inFile bs (le bs 0x38 4) (4 * le bs 0x3C 4)
    && ss.all (sectOk bs (le bs 0x2C 4)) && (chartRels bs).all (relOk bs ss) && ss.all (cutsOk bs)

/-! The site map (R193 step 4) -/

/-- R193: the in-service site that a site maps to, along the chain of replaces fields. -/
def Gaz.heir (g : Gaz) (x : Nat) : Nat → Option Nat
  | 0 => none
  | fuel + 1 =>
    if g.siteIn x then some x
    else match (List.range 192).find? fun t => (g.site t).replaces == x with
      | some t => Gaz.heir g t fuel
      | none => none

/-- The value of a relocation's field as compiled. -/
def relOld (bs : List Byte) (ss : List Sect) (r : Reloc) : Nat := le bs (((ss[r.sect]?).map (·.off)).getD 0 + r.off) r.width

/-- The site that a relocation's field names. -/
def relSite (bs : List Byte) (ss : List Sect) (r : Reloc) : Option Nat :=
  let v := relOld bs ss r
  let x := if r.type ≤ 2 then (v >>> 52) % 256 else if r.type = 3 then v else v / 8
  if r.type ≤ 4 ∧ (r.type ≠ 2 ∨ x < 0xC0) then some x else none

/-- The clusters of a chart's sections, in order. -/
def chartClusters (ss : List Sect) : List Nat := (ss.filterMap fun x => if x.kind ≤ 2 ∨ x.cluster < 1536 then some x.cluster else none).dedup

/-- R192: the cluster that a relocation's field names: a scratchpad address or a cluster number. -/
def relCluster (bs : List Byte) (ss : List Sect) (r : Reloc) : Option Nat :=
  let v := relOld bs ss r
  match r.type with
  | 1 => match decodeAddr v with | .ok (.spd c _) => some c | _ => none
  | 4 => if v < 1536 then some v else none
  | _ => none

/-- R193 step 4: the clusters that a chart uses: those of its sections and those that its relocated fields name. -/
def chartUses (bs : List Byte) : List Nat :=
  let ss := chartSects bs
  (chartClusters ss ++ (chartRels bs).filterMap (relCluster bs ss)).dedup

/-- R193 step 4: the sites that a chart uses. -/
def chartSites (bs : List Byte) : List Nat :=
  let ss := chartSects bs
  ((chartClusters ss).map (· / 8) ++ (chartRels bs).filterMap (relSite bs ss)
    ++ (chartPaths bs).flatMap fun (x : Nat × Nat × Nat) => if x.2.2 < 192 then [x.1, x.2.2] else [x.1]).dedup

/-- R192: the new value of a relocated field. -/
def relNew (f : Nat → Nat) (syms : List Word) (old : Nat) (r : Reloc) : Nat :=
  let sym := (syms.getD r.sym 0).toNat
  let mapped := old - (old >>> 52) % 256 * 2 ^ 52 + fld 52 (f ((old >>> 52) % 256))
  match r.type with
  | 1 => mapped
  | 2 => if (old >>> 52) % 256 < 0xC0 then mapped else old
  | 3 => f old
  | 4 => f (old / 8) * 8 + old % 8
  | 5 => (sym + old) % 2 ^ 64
  | 6 => sym % 2 ^ 32
  | _ => sym % 2 ^ 16

/-- R193 step 6: every relocation applied. -/
def relocate (f : Nat → Nat) (syms : List Word) (bs : List Byte) : List Byte :=
  let ss := chartSects bs
  (chartRels bs).foldl (fun out r =>
    splice out (((ss[r.sect]?).map (·.off)).getD 0 + r.off) r.width (relNew f syms (relOld bs ss r) r)) bs

/-- R191: the address of a section's bytes, its cluster mapped; an offset past the scratchpad names none of its bytes. -/
def Sect.place (f : Nat → Nat) (syms : List Word) (x : Sect) : Nat :=
  if x.kind ≤ 2 then spdAddr (f (x.cluster / 8) * 8 + x.cluster % 8) (Nat.min x.addr (2 ^ 25 - 1))
  else ((syms.getD (x.addr / 2 ^ 32) 0).toNat + x.addr % 2 ^ 32) % 2 ^ 64

/-- R48, R193: what the loader's checks answer: a refusal with its reason, or the map of sites. -/
inductive ChartVerdict where
  | refuse (st : FCode) (reason : Nat)
  | go (map : List (Nat × Nat))
  deriving DecidableEq, Repr

/-- R193 steps 1 to 5: the checks in order. A chart that declares a cut that 03 R87 does not allow is refused with CHART_INVALID, a status that
neither rule names (DESIGN CHOICE, log entry 64). -/
def State.judgeChart (s : State) (bs : List Byte) : ChartVerdict :=
  let g := s.gaz
  let same : Bool := le bs 0x10 4 == g.gen
  let map := (chartSites bs).map fun x => (x, if same then some x else g.heir x 193)
  let f (x : Nat) : Nat := ((map.find? fun m => m.1 == x).bind (·.2)).getD x
  if !chartOk bs then .refuse .chartInvalid 0
  else if le bs 8 8 ≠ g.eui.toNat ∨ le bs 0x14 1 ≠ g.grade then .refuse .chartPanel 0
  else if s.obj 0x2201 0 < le bs 0x16 2 then .refuse .chartFloor 0
  else if map.any fun m => m.2.isNone then .refuse .relocSlack 2
  else if !same && (chartUses bs).any fun c => !g.clusterIn (f (c / 8) * 8 + c % 8) then .refuse .relocSlack 3
  else if !same && (chartPaths bs).any fun (a, h, b) => (match g.pathHops (f a) (if b < 192 then f b else b) with
      | some n => decide (h + le bs 0x15 1 < n)
      | none => true) then .refuse .relocSlack 1
  else .go ((chartSites bs).map fun x => (x, f x))

/-- R193 step 7: the sections that are written, with their places. -/
def chartWrites (f : Nat → Nat) (syms : List Word) (bs : List Byte) : List (Nat × List Byte) :=
  ((chartSects bs).filter fun x => x.kind ≤ 3).map fun x => (x.place f syms, (bs.drop x.off).take x.size)

/-- R193 step 7, R434: a section passes the plots of the partition: a scratchpad of one of its clusters, or a plot of its tenant. -/
def State.sectFits (s : State) (p : Partition) (w : Nat × List Byte) : Bool :=
  w.2.isEmpty || match decodeAddr w.1 with
    | .ok (.spd c o) => p.set.contains c && decide (o + w.2.length ≤ spdSize)
    | .ok _ => s.ten.plots.any fun (_, x) => x.valid && x.tenant == p.tenant && x.covers w.1 w.2.length
    | .error _ => false

/-- R193 step 6: a symbol that a relocation or an HBMIMG section takes is resolved: a plot symbol's value is the base of a plot of the
tenant, a channel symbol's the handle of a channel of the tenant, a group symbol's a Distributary group that is free or the tenant's own. -/
def State.symOk (s : State) (tenant kind v : Nat) : Bool :=
  match kind with
  | 1 => s.ten.plots.any fun (_, x) => x.valid && x.tenant == tenant && x.base == v
  | 2 => s.ten.chans.any fun (i, x) => x.state != 0 && x.tenant == tenant && x.handle i == v % 2 ^ 32
  | 3 => s.ten.groupFree tenant v
  | _ => true

/-- 09 R273: the groups that the relocations of a chart take are allocated to its partition. -/
def Tenancy.takeGroups (t : Tenancy) (p : Nat) (syms : List Word) (bs : List Byte) : Tenancy :=
  { t with groups := (chartRels bs).foldl (fun g r => if r.symKind = some 3 then Tbl.set g (syms.getD r.sym 0).toNat (p, (t.part p).tenant) else g) t.groups }

def State.symsOk (s : State) (tenant : Nat) (syms : List Word) (bs : List Byte) : Bool :=
  (chartRels bs).all (fun r => match r.symKind with | some k => s.symOk tenant k (syms.getD r.sym 0).toNat | none => true)
    && (chartSects bs).all fun x => x.kind != 3 || s.symOk tenant 1 (syms.getD (x.addr / 2 ^ 32) 0).toNat

/-- R231: a loader's write into a scratchpad waits while a local operation touches it: the range that it holds over the bytes is asked for,
granted, written through and released within the command. One into a stack waits while its shapers hold the Surveyor's writes for the tenant
(11 R330). -/
def State.sectWaits (s : State) (tenant : Nat) (w : Nat × List Byte) : Bool :=
  match decodeAddr w.1 with
  | .ok p => s.rangeWaits w.2.length p || s.memHolds 0x140 tenant p
  | .error _ => false

/-- 14 R423: the catchment's tenant asks for a vote: its load was refused, or its chart moved. -/
def State.chartVote (s : State) (tenant bits : Nat) : State :=
  match s.cnf.record with
  | some r => if r.tenant = tenant then s.askVote bits else s
  | none => s

/-- R193: a chart loaded for a partition: `syms` are its symbols' values, as plots, channels and groups were created or resolved by the
tenant's own commands; one that resolves to no plot, channel or group refuses the chart (log entry 64). With
`start` its clusters start at that count, else a RUN starts them (15 R443); a cluster that runs takes the EBASE alone (R184, R185). Each
cluster's SQR_PC is the place of its first CODE section (log entry 43). -/
def execChartLoad (p : Fin 256) (chart : List Byte) (syms : List Word) (start : Option Word) (s : State) : Ans :=
  .next (
    let q := s.ten.part p
    if s.atZero then s.emit (.loaded p .notReady 0 0)
    else match s.judgeChart chart with
    | .refuse st reason =>
      let s1 := s.emit (.loaded p st reason 0)
      if st = .relocSlack then (s1.raiseSv .relocSlack 0xFFFF 0 0).chartVote q.tenant 2 else s1
    | .go map =>
      let f (x : Nat) : Nat := ((map.find? fun m => m.1 == x).map (·.2)).getD x
      let bs := relocate f syms chart
      let ws := chartWrites f syms bs
      if q.state = 0 then s.emit (.loaded p .partitionNone 0 0)
      else if !s.symsOk q.tenant syms chart || !ws.all (s.sectFits q) then s.emit (.loaded p .lengthBound 0 0)
      else if ws.any (s.sectWaits q.tenant) then s
      else
        let s1 := ws.foldl (fun (s : State) w => match decodeAddr w.1 with
          | .ok a => s.writeAt 0x140 q.tenant false (w.2.map fun b => (b, false)) a
          | .error _ => s) s
        let pcs := (chartClusters (chartSects bs)).filterMap fun c =>
          ((chartSects bs).find? fun x => x.kind == 1 && x.cluster == c).map fun x => (f (c / 8) * 8 + c % 8, x.addr)
        let n := s.ten.nextLoad
        let s2 := s1.modTen fun t => { t.takeGroups p syms chart with charts := Tbl.set t.charts n ⟨p, pcs⟩, nextLoad := n + 1 }
        let s3 := match start with
          | some e => pcs.foldl (fun (s : State) (c, pc) => s.modCl c fun k =>
              k.startAt pc e) s2
          | none => s2
        let s4 := s3.emit (.loaded p .ok 0 n)
        if map.any fun (x, y) => x != y then s4.chartVote q.tenant 1 else s4)

end Sys2Proof.Machine
end

