-- ==== Sys2Proof/Machine/HostPorts.lean ====
section
/-!
DEFINITION. The host ports: links, roles, reset of functions and ports, IDE integrity, and the pod (spec 16).
-/
namespace Sys2Proof.Machine

/-! What other blocks call -/

/-- 17 R481, R489: sessions end for a reason other than CLOSE: each that asked for it is told. -/
def State.closeSessions (s : State) (p : Sess → Bool) : State :=
  let ms := (s.lgd.sessions.filter fun (_, x) => p x && x.note).map fun (n, x) => Msg.notify x.ep n 0x0004 0 s.mcount
  (s.modLgd fun l => l.endWhere p).emits ms

/-- 17 R480: a session is an expert session of a port. -/
def Sess.expertOf (x : Sess) (port : Nat) : Bool := x.expert && Endpoint.kind x.ep == port

/-- R463 to R465: the primary role passes to a port; the old primary's expert sessions close. -/
def State.passRole (s : State) (p : Nat) : State :=
  let old := s.hosts.primary
  ((s.modHosts fun h => h.promote p).closeSessions fun x => x.expertOf old).notifyAll 0x8002 0x1001

/-- R470: this panel is a member of a pod: 0x1103 names a head, and no link of its own is up. -/
def State.isMember (s : State) : Bool :=
  s.obj 0x1103 0 != 0xFFFF && !(s.hosts.port 0).linkUp && !(s.hosts.port 1).linkUp && !s.hosts.headLost

/-- R465, 13 R397: the promotion due at a count: past the deadline, every TLP stamped at it having been taken, the secondary takes the role, or it
takes it once its link is up. -/
def State.promotionDue (s : State) (at_ : Nat) : State :=
  match s.hosts.pend with
  | some d =>
    if at_ ≤ d then s
    else
      let o := 1 - s.hosts.primary
      if (s.hosts.port o).linkUp then s.passRole o
      else s.modHosts fun h => { h with pend := none, promoteAtLink := true }
  | none => s

/-! Roles (R463 to R465) -/

/-- R464, R472: a write of SVY_ROLEREQ by a port's PF: a GO with no request of the port pending is stamped; a member of a pod refuses
it (R470). -/
def execRoleRequest (port : Fin 2) (w : Word) (s : State) : Ans :=
  .next (
    let s0 := s.hostSeen port
    s0.modHosts fun h => h.modPort port fun x =>
      let x1 := { x with reqEpoch := bits w 63 32 }
      if !bit w 0 || x.goAt.isSome || s.isMember then x1
      else { x1 with goAt := some (s.mcount, bits w 63 32), result := 1 })

/-- R464: the window of the earliest tick with a request pending is decided in a later tick; a promotion due by then goes first. -/
def execRoleWindowDecision (s : State) : Ans :=
  .next (
    let ps := [0, 1].filterMap fun p => (s.hosts.port p).goAt.map fun g => (p, tickOf g.1, g.2)
    match (ps.map fun x => x.2.1).min? with
    | none => s
    | some n =>
      if tickOf s.mcount ≤ n then s
      else
        let s1 := s.promotionDue ((n + 1) * 100000)
        let result (s : State) (p r : Nat) : State := s.modHosts fun h => h.modPort p fun x => { x with goAt := none, result := r }
        match ps.filter fun x => x.2.1 == n with
        | [(p, _, e)] =>
          if e = s1.hosts.epoch then (s1.passRole (if s1.hosts.primary = p then 1 - p else p)).modHosts fun h => h.modPort p fun x =>
            { x with goAt := none, result := 2 }
          else result s1 p 4
        | xs => xs.foldl (fun s x => result s x.1 3) s1)

/-- R465: the promotion deadline. -/
def execPromotionDeadline (s : State) : Ans := .next (s.promotionDue s.mcount)

/-- R463: 10 s after SVF starts, the role goes to the other port where the one named has no link and the other has. -/
def execPrimarySelectionTimeout (s : State) : Ans :=
  .next (
    match s.hosts.selectAt with
    | some t =>
      if s.now < t + 10000000000 then s
      else
        let o := 1 - s.hosts.primary
        let s1 := s.modHosts fun h => { h with selectAt := none }
        if !(s.hosts.port s.hosts.primary).linkUp && (s.hosts.port o).linkUp then (s1.modHosts fun h => { h with primary := o }).notifyAll 0x8002 0x1001
        else s1
    | none => s)

/-! Links and resets (R458, R461, R465, R469) -/

/-- R465: the primary is lost: its deadline is set, and its expert sessions close (17 R480). -/
def State.primaryLost (s : State) (port : Nat) : State :=
  if s.hosts.primary ≠ port ∨ s.hosts.pend.isSome then s
  else (s.modHosts fun h => { h with pend := some (s.mcount + s.obj 0x1101 0 * 1000000) }).closeSessions fun x => x.expertOf port

/-- R458: a DMA entry in progress that crosses a port's link. -/
def SubEntry.crosses (e : SubEntry) (port : Nat) : Bool :=
  let on (a : Nat) : Bool := match decodeAddr a with | .ok (.host p _ _) => p == port | _ => false
  e.kind == 2 && e.started && e.done.isNone && (on e.a.toNat || on e.b.toNat)

/-- R458: the channels with a transfer in progress over a lost link are held until a host destroys them. -/
def Tenancy.linkLost (t : Tenancy) (port : Nat) : Tenancy :=
  { t with chans := t.chans.map fun (i, c) =>
      (i, if c.state ≠ 0 ∧ c.entries.any (fun e => e.crosses port) then { c with state := 3, overrun := true } else c) }

/-- R465: a port's link comes up, or, where `tlp`, a TLP has come from its host over it. -/
def execHostLinkUp (port : Fin 2) (tlp : Bool) (s : State) : Ans :=
  .next (
    let h := s.hosts.port port
    if h.perst || h.katFail || !s.pwr.vhk then s
    else
      let s1 := s.modHosts fun x => x.modPort port fun y => { y with linkUp := true }
      let s2 := if tlp then s1.hostSeen port else s1
      if s2.hosts.promoteAtLink && s2.hosts.primary != port then s2.passRole port else s2)

/-- R458, R465: a port's link goes down. -/
def execHostLinkDown (port : Fin 2) (s : State) : Ans :=
  .next (
    if !(s.hosts.port port).linkUp then s
    else (((s.modHosts fun h => h.modPort port fun x => { x with linkUp := false }).modTen fun t => t.linkLost port).primaryLost port))

/-- R461: the channels created through functions of a port destroyed. -/
def State.destroyThrough (s : State) (port : Nat) (fns : Nat → Bool) : State :=
  ((s.ten.chans.filter fun (_, c) => c.state != 0 && c.port == port && fns c.fn).map (·.1)).foldl State.destroyChannel s

/-- R461: a Function Level Reset; the binding survives. -/
def execFunctionLevelReset (port : Fin 2) (fn : Fin 513) (s : State) : Ans := .next (s.destroyThrough port fun f => f == fn)

/-- R469, 18 R500: PERST_N of a port asserted: its link, functions and IDE streams are reset, its sessions and channels are lost, and
nothing else moves. -/
def execPerstNAssert (port : Fin 2) (s : State) : Ans :=
  .next (
    let s1 := (s.destroyThrough port fun _ => true).modHosts fun h => h.modPort port fun x => { perst := true, katFail := x.katFail }
    let s2 := s1.primaryLost port
    (s2.modLgd fun l => l.endWhere fun x => Endpoint.kind x.ep == port.val).modCtg fun c => { c with spdm := c.spdm.filter fun (_, x) => Endpoint.kind x.ep != port.val })

def execPerstNDeassert (port : Fin 2) (s : State) : Ans := .next (s.modHosts fun h => h.modPort port fun x => { x with perst := false })

/-- The address names host memory. -/
def hostAddr (a : Nat) : Bool := match decodeAddr a with
  | .ok (.host _ _ _) => true
  | _ => false

/-- `k` bytes that are free values (log entry 6), and the state that has used them. -/
def State.freeBytes (s : State) (k : Nat) : List Byte := (List.range k).map fun j => BitVec.ofNat 8 (Config.freeValue (s.freeCtr + j))
def State.useFree (s : State) (k : Nat) : State := { s with freeCtr := s.freeCtr + k }

/-- R457: a read of host memory that does not complete in 50 ms is taken as poisoned data; its bytes are free values (log entry 6). -/
def execHostReadTimeout (r : HostRead) (s : State) : Ans :=
  .next (
    match r with
    | .dma i q => match (s.ten.chan i).entries.find? fun e => e.seq == q with
      | some e => if hostAddr e.a.toNat then (s.useFree e.c.toNat).dmaDone i q (s.freeBytes e.c.toNat) true else s
      | none => s
    | .move c tag => match (s.cl c).sq.moves.find? fun m => m.tag == tag with
      | some m => if hostAddr m.src.toNat then (s.useFree m.length).completeMove c tag (s.freeBytes m.length) true else s
      | none => s)

/-- R468, 18 R508: an IDE stream finds an integrity failure: it is Insecure, and the port carries no tenant traffic over it. -/
def execIdeIntegrityFailure (port : Fin 2) (stream : Fin 256) (s : State) : Ans :=
  .next (s.modHosts fun h => h.modPort port fun x =>
    { x with ide := match Tbl.get? x.ide stream with | some y => Tbl.set x.ide stream { y with secure := false, insecure := true } | none => x.ide })

/-! The pod (R470) -/

/-- R470: a doorbell of a member: forwarded by the head, whose absent members discard it; taken by the member under R460, with the head's
bindings. -/
def execPodDoorbell (b : PodBell) (page : Fin 4096) (handle prod : Word32) (s : State) : Ans :=
  .next (
    match b with
    | .rung port m =>
      let id := (s.hosts.members[m.val - 1]?).getD 0xFFFF
      if m = 0 || id = 0xFFFF || s.hosts.lost.contains m.val || !(s.hosts.port port).linkUp then s
      else (s.hostSeen port).emit (.podBell id page handle.toNat prod.toNat)
    | .arrived bound => if s.isMember && s.fw.accepted 1 then s.ring (fun _ => bound) page handle.toNat prod.toNat [] else s)

/-- R470: the Larre path between head and member has been lost since a count: for the head, once its promotion timeout has passed, member
`m` is one no more; the member that lost its head holds its channels. -/
def execPodPathLoss (m : Option (Fin 64)) (since : Word) (s : State) : Ans :=
  .next (
    match m with
    | some k =>
      if s.mcount < since.toNat + s.obj 0x1101 0 * 1000000 then s
      else s.modHosts fun h => { h with lost := if h.lost.contains k.val then h.lost else k.val :: h.lost }
    | none =>
      if !s.isMember then s
      else (s.modHosts fun h => { h with headLost := true }).modTen fun t =>
        { t with chans := t.chans.map fun (i, c) => (i, if c.state = 1 then { c with state := 3 } else c) })

end Sys2Proof.Machine
end

