-- ==== Sys2Proof/Machine/Scrub.lean ====
section
/-!
DEFINITION. The scrubber, column repair and zeroization of a scratchpad (spec 08 R236 to R242).
-/
namespace Sys2Proof.Machine

/-- R224: the check bits of a word's data. -/
def dataCheck (d : Nat) : Nat := syndrome (BitVec.ofNat 72 (d % 2 ^ 64))

/-- The value that codeword bit `i` of a word reads, with the errors `e`. -/
def codeBit (d : Nat) (e : BitVec 72) (i : Nat) : Bool := (if i < 64 then d.testBit i else (dataCheck d).testBit (i - 64)) != e.getLsbD i

/-- R218: the number of a word from its bank, line and place in the line. -/
def wordNum (bank line w : Nat) : Nat := (bank * 4096 + line) * 8 + w
/-- R237: the subarray of a bank's line, as a key with the bank. -/
def subKeyOf (bank line : Nat) : Nat := bank * 16 + line / 256

/-- R237: an error counted for a column that is tracked, or for one of 8 columns; a further one sets TOVF. -/
def Spd.countCol (s : Spd) (key col row : Nat) (pol : Bool) (new : Bool) : Spd :=
  let cols := Tbl.get [] s.tally key
  match Tbl.get? cols col with
  | some t =>
    let t1 : ColTally := { t with rows := if t.rows.contains row then t.rows else row :: t.rows, mixed := t.mixed || t.pol != pol }
    { s with tally := Tbl.set s.tally key (Tbl.set cols col t1) }
  | none =>
    if !new then s
    else if cols.length ≥ 8 then { s with stat := s.stat ||| 0x100 }
    else { s with tally := Tbl.set s.tally key (Tbl.set cols col { rows := [row], pol := pol }) }

/-- R236, R237: one word read by the scrubber with the errors found in it: a corrected one written back as decoded (R224), both counted. -/
def Spd.scrubWord1 (s : Spd) (bank line w : Nat) (found : BitVec 72) : Spd :=
  let n := wordNum bank line w
  let e := Tbl.get 0 s.bad n ^^^ found
  let s0 := if e = 0 then { s with bad := Tbl.erase s.bad n } else { s with bad := Tbl.set s.bad n e }
  let d := s.rawWord n
  let key := subKeyOf bank line
  match eccDecode e with
  | .clean => s0
  | .corrected i => (s0.noteCe.storeDecoded n).countCol key (w * 72 + i) (line % 256) (codeBit d e i) true
  | .uncorrected y =>
    let s1 := s0.noteUe 7 y (8 * n)
    let named := (List.range 72).filter fun i => (Tbl.get? (Tbl.get [] s1.tally key) (w * 72 + i)).isSome
    named.foldl (fun s i =>
      match eccDecode (e ^^^ BitVec.ofNat 72 (2 ^ i)) with
      | .corrected _ => s.countCol key (w * 72 + i) (line % 256) (codeBit d e i) false
      | _ => s) s1

/-- R237: the column signature: errors in at least 4 rows, all of one polarity. -/
def ColTally.faulty (t : ColTally) : Bool := decide (t.rows.length ≥ 4) && !t.mixed

/-- R238, R240: the spares of a subarray in use. -/
def Spd.sparesUsed (s : Spd) (bank sub : Nat) : Nat :=
  ((s.steer ++ s.repair.toList ++ s.waitCols).filter fun r => r.bank == bank && r.sub == sub).length

def Spd.knownCol (s : Spd) (bank sub col : Nat) : Bool :=
  (s.steer ++ s.repair.toList ++ s.waitCols).any fun r => r.bank == bank && r.sub == sub && r.col == col

/-- R238, R240: the faulty columns of a subarray wait for repair; the answer tells of one that no spare is left for. -/
def Spd.declare (s : Spd) (bank sub : Nat) : Spd × Bool :=
  (Tbl.get [] s.tally (bank * 16 + sub)).foldl (fun (s, out) (col, t) =>
    if !t.faulty || s.knownCol bank sub col then (s, out)
    else if s.sparesUsed bank sub ≥ 4 then (s, true)
    else ({ s with waitCols := s.waitCols ++ [⟨bank, sub, col, s.sparesUsed bank sub⟩] }, out)) (s, false)

/-- R236: the end of a pass once every bank's 4,096 lines have been read. -/
def Spd.passEnd (s : Spd) : Spd :=
  if (List.range 96).all fun b => decide (4096 ≤ Tbl.get 0 s.lines b) then
    { s with passes := (s.passes + 1) % 2 ^ 32, stat := s.stat ||| 1, lines := [], tally := [] }
  else s

/-- R236, R237: the scrubber reads the next line of a bank; `faults` are the errors it finds by word. The answer tells of a
column with no spare left. -/
def Spd.scrub (s : Spd) (bank : Nat) (faults : List (Nat × BitVec 72)) : Spd × Bool :=
  let line := Tbl.get 0 s.lines bank
  if !s.scrubEn || decide (line ≥ 4096) then (s, false)
  else
    let s1 := (List.range 8).foldl (fun s w => s.scrubWord1 bank line w ((faults.find? fun f => f.1 == w).map (·.2) |>.getD 0)) s
    let (s2, out) := ({ s1 with lines := Tbl.set s1.lines bank (line + 1) }).declare bank (line / 256)
    (s2.passEnd, out)

/-- R238: the words of the subarray under repair that hold errors. -/
def Spd.repairWords (s : Spd) (r : Repair) : List Nat :=
  (s.bad.map (·.1)).filter fun n => n / 8 / 4096 == r.bank && n / 8 % 4096 / 256 == r.sub

/-- R224, R238, R239, R245: one word of the copy: read and counted, written back as decoded, or poisoned where it could not be read. -/
def Spd.copyWord (s : Spd) (n : Nat) : Spd :=
  match eccDecode (Tbl.get 0 s.bad n) with
  | .clean => s.storeDecoded n
  | .corrected _ => s.noteCe.storeDecoded n
  | .uncorrected y =>
    { s with bad := Tbl.set s.bad n poisonMask, stat := s.stat ||| 8, ueCnt := satAdd 0xFFFFFFFF s.ueCnt 1 }.recordFault 2 8 y (8 * n)

/-- R239: the words of the subarray that the copy cannot recover, by offset. -/
def Spd.lostWords (s : Spd) (r : Repair) : List Nat :=
  ((s.repairWords r).filter fun n => match eccDecode (Tbl.get 0 s.bad n) with | .uncorrected _ => true | _ => false).map (8 * ·)

/-- R238, R239: the copy has run. -/
def Spd.copied (s : Spd) (r : Repair) : Spd :=
  let s1 := (s.repairWords r).foldl Spd.copyWord s
  { s1 with repair := none, lastRepair := BitVec.ofNat 64 (2 ^ 62 + repairFields r), steer := s1.steer ++ [r] }

/-- R238: the cluster's quiescent point. -/
def Cluster.quiescent (c : Nat) (k : Cluster) : Bool :=
  clusterKind c == 2 ||
    ((!k.sq.run || (match k.sq.hold with | .sync .. => true | _ => false)) && k.mx.ops.isEmpty && k.vx.run.isNone && k.sq.moves.isEmpty)

/-- R241: zeroization may begin. -/
def Cluster.zReady (k : Cluster) : Bool :=
  k.spd.zNeeded && !k.spd.zRun && !k.sq.run && !(k.sx.thr.any fun (_, h) => h.run) && k.sq.moves.isEmpty && k.spd.weir.isEmpty && k.spd.repair.isNone

/-- R242 step 3, R97, R127, R150: a zeroized cluster; on a change of tenant its engines and threads are cleared too, with every register
of theirs at 0, MXE_EVEN and VXE_EVEN among them. -/
def Cluster.zeroized (k : Cluster) (tenantChange : Bool) : Cluster :=
  let k1 := { k with spd := k.spd.zeroize, sq := { k.sq with sb := [] },
                     sx := { k.sx with thr := k.sx.thr.map fun (t, h) => (t, { h with sb := [] }) } }
  if tenantChange then { k1 with mx := { even := 0 }, vx := { even := 0 }, sx := {}, chn := {} } else k1

/-- R511, R512: the scratchpads of a panel zeroization are done: ZDONE reads 1 at both instances. -/
def State.zeroDone (s : State) : State :=
  match s.ctg.zPend with
  | none => s
  | some cause =>
    if s.gaz.clustersIn.any fun c => (s.cl c).spd.zNeeded || (s.cl c).spd.zRun then s
    else s.modCtg fun c =>
      let f (u : CtgUnit) : CtgUnit := { u with zdone := true, state := if u.state = 3 then (if cause = 6 then 4 else if cause = 4 then 2 else 1) else u.state }
      { (c.modUnit 0 f).modUnit 1 f with zPend := none }

end Sys2Proof.Machine
end

