-- ==== Sys2Proof/Machine/Resets.lean ====
section
/-!
DEFINITION. What resets, zeroizations, takeovers, power-downs and starts share (spec 18 R510 to R513, 19 R533, 20 R535 to R544, 21 R551 to
R556).
-/
namespace Sys2Proof.Machine

/-! Surveyor takeover -/

/-- The unit code of the active Surveyor. -/
def State.svUnit (s : State) : Nat := 0x140 + s.fw.active

/-! Zeroization (R511, R512) -/

/-- R512 step 1: every partition halts as by HALT. -/
def State.haltPartitions (s : State) : State :=
  (s.ten.parts.filter fun (_, p) => p.state != 0).foldl (fun s (n, p) =>
    ((p.set.foldl (fun s c => s.modCl c Cluster.halt) s).haltRun n).modTen fun t =>
      { t with chans := t.chans.map fun (i, c) => (i, if c.state = 1 ∧ c.part = n then { c with state := 3 } else c) }) s

/-- The receiving units of the key paths: the key units of the stacks, and the IDE key units. -/
def keyUnits : List Nat := span 192 48 ++ [0x142, 0x143]

/-- R511 causes 2 and 3: the volatile secrets and every key slot overwritten at once. -/
def State.wipeKeys (s : State) : State :=
  { (s.modCtg Cartouche.wipe).modHosts fun h => { h with ports := h.ports.map fun (n, p) => (n, { p with ide := [] }) } with
    hbm := s.hbm.map fun (k, x) => (k, { x with keys := [] }) }

/-- R511, R512, R540, 17 R480: a zeroization of cause 1 to 6; the sessions inside SPDM sessions end with those. One that meets another in
progress joins it. -/
def State.zeroize (s : State) (cause : Nat) : State :=
  let s1 := ((s.modCtg fun c => c.noteZ (tickOf s.mcount) cause).raiseAs 6 .zeroized s.svUnit 0 cause).closeSessions fun x => x.spdm.isSome
  if cause = 2 ∨ cause = 3 then
    s1.wipeKeys.modCtg fun c => { c with zPend := none, units := c.units.map fun (i, u) => (i, { u with zdone := true }) }
  else if s.ctg.zPend.isSome then s1
  else
    let s2 := s1.haltPartitions.modCtg fun c =>
      let c1 := c.wipe
      let c2 := keyUnits.foldl (fun c u => c.send u 3 0 0) c1
      let f (u : CtgUnit) : CtgUnit := { u with state := if u.state = 2 then 2 else if cause = 6 then 4 else 3 }
      { (c2.modUnit 0 f).modUnit 1 f with zPend := some cause, endOfLife := c.endOfLife || cause = 6 }
    let s3 := s.gaz.clustersIn.foldl (fun s c => s.modCl c fun k => { k with spd := { k.spd with zNeeded := true } }) s2
    ((s3.setLevel (some 0)).modBoot fun b => { b with stopped := true }).zeroDone

/-- R510: a test of an instance fails: it is in error, its volatile secrets gone. The active instance hands over where the standby is
operational; else the panel zeroizes with cause 4. -/
def State.selftestFail (s : State) (i test unit : Nat) : State :=
  let s1 := (s.modCtg fun c => c.modUnit i fun u => ({ u with state := 2, stfail := true, running := false, pass := false }).fail 1 test unit).raiseAs 6
    .selftestFail (0x140 + i) 0 0
  if i ≠ s.fw.active then s1.modFw fun f => { f with svbUp := false }
  else if (s.ctg.unit (1 - i)).up then s1.takeover
  else s1.zeroize 4

/-! Resets (R541, R544) -/

/-- R544: what a braid keeps over a reset: its lanes, as the retained record holds them (01 R33); survey moves are not in it (10 R306). -/
def LevBraid.kept (b : LevBraid) (r : BraidRec) : LevBraid := { carry := r.lanes, retired := b.retired, half := r.half }

/-- R544: what a stack keeps: its channels' status, and contents that no key reads any more. -/
def Stack.kept (x : Stack) : Stack :=
  { mem := x.mem, lineKey := x.lineKey, zeroKey := x.zeroKey, poison := x.poison, retired := x.retired }

/-- R544: what the Cartouche keeps: its OTP store, and over a warm reset the count of zeroizations. -/
def Cartouche.kept (c : Cartouche) (cold debug : Bool) : Cartouche :=
  let z (u : CtgUnit) : CtgUnit := if cold then {} else { zTick := u.zTick, zCount := u.zCount, zCause := u.zCause }
  { units := [(0, z (c.unit 0)), (1, z (c.unit 1))], startNo := c.startNo, fuse := c.fuse, anchors := c.anchors,
    anchorsRevoked := c.anchorsRevoked, fwRevoked := c.fwRevoked, debug := debug, endOfLife := c.endOfLife, nextKey := c.nextKey }

/-- R544: the sequencer of the rails runs on; the sites' registers keep what the retained record holds. -/
def Power.kept (p : Power) : Power :=
  { p with doms := [], sites := p.sites.map fun (n, x) => (n, { trayflag := x.trayflag }), paths := [], waits := [], held := [],
           shed := false, inflt := false, fault := 0, tested := 0 }

/-- R541, R544: everything is reset but the always-on watch block and the fault log; a cold start resets the watch block too. The statuses
of the Gazetteer are the retained record's; its generation begins anew, so that the sites which left service earlier are told apart by
their index alone (log entry 60). Bypasses and relay move to closed. -/
def State.resetPanel (s : State) (cold : Bool) : State :=
  let debug := !cold && s.obj 0x7050 0 == 1
  { s with
    clusters := s.clusters.map fun (c, k) => (c, k.kept)
    hbm := s.hbm.map fun (k, x) => (k, x.kept)
    gaz := { s.gaz with gen := 0, changedAt := 0, act := none, sites := s.gaz.sites.map fun (n, x) => (n, { x with leftGen := 0 }),
                         braids := s.gaz.braids.map fun (b, x) => (b, { x with survey := 2, slane := none }), paths := ⟨[], []⟩, owed := false, old := none }
    delta := {}
    lev := { braids := s.lev.braids.map fun (b, x) => (b, x.kept (s.gaz.braid b)) }
    larre := { oxbows := s.larre.oxbows.map fun (i, o) => (i, { Oxbow.close o with pair := false, released := false }) }
    mer := { unit := let u := s.mer.unit.closeRelay; { relay := u.relay, target := u.target } }
    cnf := {}
    ten := {}
    hosts := {}
    lgd := { s.lgd.dropClass (fun p => p != 1 || cold) with sessions := [], xfers := [] }
    ctg := s.ctg.kept cold debug
    fw := {}
    boot := if cold then { s.boot with part := 0, stopped := false, restored := false, wave := 0, policy := 0, stuck := false, masked := false, portsOver := false }
      else { s.boot with part := 0, stopped := false, restored := false, wave := 0, portsOver := false }
    pwr := s.pwr.kept
    clk := { trip := s.clk.trip, tripUnit := s.clk.tripUnit, coolSince := s.clk.coolSince }
    log := if cold then { s.log with counts := [], fwd := [], overwritten := 0 } else s.log
    diag := {} }

/-! Power-down (21 R554) -/

/-- R554: the highest rail, down to V_AUX, that is still commanded on. -/
def Power.topRail (p : Power) : Option Nat := ((List.range 9).map fun i => 9 - i).find? p.on.testBit

/-- R554: the next rail commanded off, where the rail before it is off; with none left the power-down is complete. -/
def Power.lowerNext (p : Power) (now : Nat) : Power :=
  let falling := (List.range 9).any fun i => p.inwin.testBit (i + 1) && !p.on.testBit (i + 1)
  match p.topRail with
  | some r => if falling then p else { p with on := setBit p.on r false }
  | none => if falling then p else { p with seq := 5, offAt := now, inwin := p.inwin % 2 }

/-- R554: the power-down begins: PWR_GOOD drops, every header opens. -/
def Power.goDown (p : Power) (now : Nat) : Power :=
  ({ p with seq := 4, good := false, downFault := false, upFaults := p.upFaults }).lowerNext now

/-- 12 R366, 13 R382: the panel gives up its hold of the bypasses and of the Meridian relay, which move to closed. -/
def State.letGo (s : State) : State :=
  { s with larre := { s.larre with oxbows := s.larre.oxbows.map fun (i, o) => (i, o.close) }, mer := { s.mer with unit := s.mer.unit.closeRelay } }

/-- R541, R554, R556: what an assertion of PANEL_RESET_N does to the panel, and the power-down; one in progress, or its off time, goes
on. `cause` is that of the zeroization. -/
def State.panelDown (s : State) (cause : Nat) : State :=
  if s.pwr.seq = 4 ∨ s.pwr.seq = 5 then s.letGo
  else
    let s1 := ((s.zeroize cause).setLevel none).resetPanel false
    s1.modPwr fun p => p.goDown s.now

/-! Starts (R535, R543) -/

/-- R537: a start that stops at level 0. -/
def State.stopStart (s : State) (part : Nat) : State :=
  (s.setLevel (some 0)).modBoot (fun b => { b with stopped := true }) |>.raiseAs 3 .startStopped 0xFFFF 0 part

/-- R509, R518: an instance after its pre-operational tests. -/
def CtgUnit.tested (u : CtgUnit) (ok life : Bool) (tick : Nat) : CtgUnit :=
  if life then { u with state := 4 }
  else if ok then { u with state := 1, pass := true, passed := 0x1FF, testTick := tick % 2 ^ 32 }
  else ({ u with state := 2, stfail := true, testTick := tick % 2 ^ 32 }).fail 1 0 0

/-- R535 part 1, R543, R463, R505, R510, R513: a start begins: the boot ROMs run, both instances run their tests, with the outcomes `a` and `b`,
and the mode is fixed. -/
def State.beginStart (s : State) (cold a b : Bool) : State :=
  let tick := tickOf s.mcount
  let c0 := s.ctg
  let asked := c0.fuse || s.obj 0x7010 0 == 1
  let mode := asked && (a || b) && !c0.debug
  let c1 := { (c0.modUnit 0 fun u => u.tested a c0.endOfLife tick).modUnit 1 fun u => u.tested b c0.endOfLife tick with
    startNo := (c0.startNo + 1) % 2 ^ 32, nextCtr := 1, sent := [], kpLast := [], kpBad := [], kpPassed := [], spdm := [],
    approved := mode, apprRefused := asked && !mode }
  let c2 := ({ c1 with sec := c1.secState false, meas := [] }.send 0x142 4 0 0).send 0x143 4 0 0
  let s1 := { s with
    ctg := c2
    fw := { active := if !a && b then 1 else 0, svbUp := a && b }
    hosts := { primary := if s.obj 0x1100 0 = 1 then 1 else 0, ports := s.hosts.ports.map fun ((n, p) : Nat × HostPort) => (n, { linkUp := p.linkUp, perst := p.perst, vfs := p.vfs }) }
    pwr := { s.pwr with seq := 1 }
    boot := { s.boot with part := 1, partAt := s.now, cold := cold, stopped := false } }
  let s2 := s1.setLevel (some 0)
  let s3 := if a then s2 else s2.raiseAs 6 .selftestFail 0x140 0 0
  let s4 := if b then s3 else s3.raiseAs 6 .selftestFail 0x141 0 0
  if c0.endOfLife then s4.modBoot fun b => { b with stopped := true }
  else if (!a && !b) || (asked && !mode) then s4.stopStart 1
  else s4

/-- R543, R556, R542, R553: a start may begin: V_HK has just come up, or after a power-down the off time is over, PWR_EN is asserted, the
input has recovered and no third RAIL_FAULT_UP holds the panel; and PANEL_RESET_N is high or masked. -/
def State.startReady (s : State) : Bool :=
  s.pwr.vhk && (!s.boot.reset || s.boot.masked)
    && ((s.pwr.seq == 1 && s.boot.part == 0)
      || (s.pwr.seq == 5 && decide (s.pwr.offAt + 500000000 ≤ s.now) && s.pwr.en && s.pwr.vinOk && decide (s.pwr.upFaults < 3)))

/-- R543, R556: the start that was waited for, cold where V_HK has just come up. A power-up that ended in R553 has left the panel as it
was: its retry is a warm reset too. -/
def State.tryStart (s : State) (a b : Bool) : State :=
  if !s.startReady then s
  else if s.boot.part = 0 then s.beginStart (s.pwr.seq == 1) a b
  else (((s.zeroize 2).setLevel none).resetPanel false).beginStart false a b

/-! Power-up (21 R551) -/

/-- 11 R333 step 1: in part 3, with the rails of the stacks (V_HBM_VDD and its like, 5 to 7) in window, SBF delivered and a memory link in service, a
stack's STATE is 1. -/
def State.stacksReady (s : State) : State :=
  if s.boot.part = 3 && (span 5 3).all s.pwr.inwin.testBit && s.fw.delivered.contains 2 then
    (List.range 48).foldl (fun s k =>
      if (s.gaz.stack k).status == 0 && (s.stk k).state == 0 && ((homeSites k).any s.gaz.memLink) then s.modStk k fun x => { x with state := 1 } else s) s
  else s

/-- R548: the part of a start in which a rail is raised. -/
def railPart (r : Nat) : Nat := if r = 0 then 0 else if r ≤ 4 then 2 else if r ≤ 7 then 3 else if r = 8 then 4 else 5

/-- R551: the next rail raised: every rail below it in window, the start far enough, PWR_EN asserted, the input recovered, the configuration
known, no third RAIL_FAULT_UP. -/
def Power.raiseNext (p : Power) (part : Nat) : Power :=
  match (span 1 9).find? fun r => !p.on.testBit r with
  | some r =>
    if p.en && p.vinOk && p.config != 0 && decide (p.upFaults < 3) && decide (railPart r ≤ part) && (p.seq == 1 || p.seq == 2)
        && (List.range r).all p.inwin.testBit then { p with on := setBit p.on r true, seq := 2 } else p
  | none => p

def State.raiseRails (s : State) : State := s.modPwr fun p => p.raiseNext s.boot.part

end Sys2Proof.Machine
end

