-- ==== Sys2Proof/Machine/Power.lean ====
section
/-!
DEFINITION. The commands of power delivery (spec 21): the power module, the input, the rails, the domains and their wake tokens, and the
watch for cracked connections.
-/
namespace Sys2Proof.Machine

/-! Faults of the input and the rails -/

/-- R572: the phase of a fault: 0 power-up, 1 powered, 2 power-down. -/
def Power.phase (p : Power) : Nat := if p.seq = 3 ∨ p.seq = 6 then 1 else if p.seq = 4 ∨ p.seq = 5 then 2 else 0

/-- R572: PWR_FAULT's value for a fault. -/
def faultWord (code rail phase dom volt : Nat) : Nat := 2 ^ 63 + fld 48 code + fld 44 rail + fld 42 phase + fld 16 dom + volt % 65536

/-- R572, 23 R608: a power fault recorded and logged by the watch block's sequencer under its R607 code, with the register's value. -/
def State.powerFault (s : State) (code : FCode) (n rail : Nat) (dom : Option Nat) (volt : Nat) : State :=
  let ph := s.pwr.phase
  let d := dom.getD 0
  (s.raiseAs 5 code (if dom.isSome then d / 8 else 0xFFFF) (if dom.isSome then d % 8 else rail) (faultWord n rail ph d volt)).modPwr
    fun p => p.recordFault n rail ph d volt

/-- R547, R549, R554: an input or power-module fault with its power-down; `logged` gives the word that INPUT_FAULT is logged with. -/
def State.inputFault (s : State) (logged : Option Nat) : State :=
  let s1 := match logged with
    | some w => s.raiseSv .inputFault 0xFFFF 0 (faultWord 4 0 s.pwr.phase 0 w)
    | none => s
  let ph := s.pwr.phase
  (s1.panelDown 2).modPwr fun p =>
    let p1 := { p with inflt := true }
    match logged with
    | some w => p1.recordFault 4 0 ph 0 w
    | none => p1

/-! The power module (R545 to R547) -/

/-- Rails beyond V_HK are commanded on. -/
def Power.railsOn (p : Power) : Bool := p.on >>> 1 != 0

/-- R545, R546: the module's identity read; `code` is MFR_SPECIFIC_00, none where it does not answer. -/
def execPmbusIdentify (code : Option Word32) (s : State) : Ans :=
  .next (
    if !s.pwr.vhk then s
    else
      let k := match code with | some w => w.toNat % 256 | none => 0
      let known := decide (k = 1 ∨ k = 2)
      let rated := match code with | some w => w.toNat / 256 | none => 0
      if s.pwr.railsOn then
        (if code.isSome && k != s.pwr.config then
          (s.inputFault (some k)).modPwr fun p => { p with config := if known then k else 0, rated := if known then rated else 0 }
         else s)
      else
        let s1 := s.modPwr fun p => { p with config := if known then k else 0, rated := if known then rated else 0 }
        if known then s1.raiseRails else s1.raiseSv .psuUnknown 0xFFFF 0 0)

/-- R547: STATUS_WORD polled, in every start and while rails are powered. Bits that R547 does not name are warnings: logged, they change
nothing. -/
def execPmbusStatusPoll (w : Half) (s : State) : Ans :=
  .next (
    if !s.pwr.vhk || (!s.pwr.railsOn && (s.boot.part == 0 || s.boot.part == 6)) then s
    else if statusFault w.toNat then s.inputFault (some w.toNat)
    else if w.toNat ≠ 0 then s.raiseSv .inputFault 0xFFFF 0 w.toNat
    else s)

/-! The input (R549, R561) -/

/-- R561: every RUN in progress, the pre-empted ones too, completes with HALTED. -/
def State.haltRuns (s : State) : State :=
  (List.range 256).foldl (fun s n =>
    let cut := (Tbl.get [] s.ten.waitingRuns n).filter fun r => r.saved.isSome
    let s1 := s.haltRun n
    let s2 := cut.foldl (fun (s : State) (r : Running) => s.finish r.chan r.seq .halted) s1
    if cut.isEmpty then s2
    else s2.modTen fun t => { t with waitingRuns := Tbl.set t.waitingRuns n ((Tbl.get [] t.waitingRuns n).filter fun r => r.saved.isNone) }) s

/-- R561: a core shed: every header opens, cluster state and with it the loaded charts are lost, every other rail stays. -/
def State.shedCore (s : State) : State :=
  let s1 := (s.raiseSv .coreShed 0xFFFF 0 0).modPwr fun p =>
    { p with seq := 6, shed := true, good := false, waits := [], held := []
             doms := p.doms.map fun (c, d) => (c, if d.state = 4 then d else { d with state := 0, stage := 0, outside := none, wasOn := d.state != 0 || d.wasOn }) }
  let s2 := s1.haltRuns
  let s3 := s2.gaz.clustersIn.foldl (fun s c => s.setCl c (s.cl c).kept) (s2.modTen fun t => { t with charts := [] })
  if s3.boot.level = some 2 then s3.setLevel (some 1) else s3.notifyAll 0x8002 0x1001

/-- R549: VIN below 39 V for 100 µs; ignored during a power-down and its off time (R556). -/
def execVinSag (s : State) : Ans :=
  .next (
    let s1 := s.modPwr fun p => { p with vinOk := false }
    if s.pwr.seq = 3 then s1.shedCore else s1)

/-- R549, R550: VIN below 37 V for 50 µs. One during a shed supersedes it. -/
def execVinUndervoltage (s : State) : Ans :=
  .next (if s.pwr.vhk then (s.modPwr fun p => { p with vinOk := false }).inputFault none else s)

/-- R549: VIN above 62 V for 10 µs. -/
def execVinOvervoltage (s : State) : Ans :=
  .next (if s.pwr.vhk then (s.modPwr fun p => { p with vinOk := false }).inputFault none else s)

/-- R549, R561, R551, R556: VIN at or above 40 V for 10 ms: a shed ends, its domains waking again in waves; rails may be raised; a start
that waited for it begins, its pre-operational tests ending as `a` and `b` tell (18 R509). -/
def execVinRecovery (a b : Bool) (s : State) : Ans :=
  .next (
    let s1 := s.modPwr fun p => { p with vinOk := true }
    if s.pwr.seq = 6 then
      (s1.modPwr fun p =>
        { p with seq := 3, good := true
                 doms := p.doms.map fun (c, d) => (c, if d.wasOn then { d with state := 1, wasOn := false } else d) }).modBoot
        fun b => { b with wave := 0 }
    else s1.raiseRails.tryStart a b)

/-! PWR_EN (R551, R554) -/

def execPwrEnAssert (a b : Bool) (s : State) : Ans :=
  .next (if s.pwr.en then s else ((s.modPwr fun p => { p with en := true, upFaults := 0 }).raiseRails).tryStart a b)

def execPwrEnDeassert (s : State) : Ans :=
  .next (
    if !s.pwr.en then s
    else
      let s1 := s.modPwr fun p => { p with en := false, upFaults := 0 }
      if s.pwr.vhk then s1.panelDown 2 else s1)

/-! Rails (R548 to R556, R560, R568) -/

/-- R551: V_CORE is in window: PWR_GOOD, and every domain of a cluster in service comes up at the 0.8 GHz set-point, every sensor tried
again (R558), awaiting its token. -/
def State.coreUp (s : State) : State :=
  s.modPwr fun p =>
    { p with seq := 3, good := true
             doms := s.gaz.clustersIn.map fun c => (c, { state := 1, smask := 0xFF, setp := setPoint 0 0, vmin := setPoint 0 0 }) }

/-- R551, R568: a rail enters its window; while INTEG is set it has passed its test. Those of the stacks let their tests begin (11 R333). -/
def execRailInWindow (r : Fin 10) (s : State) : Ans :=
  .next (
    if s.pwr.seq ≠ 2 || !s.pwr.on.testBit r || s.pwr.inwin.testBit r then s
    else
      let s1 := s.modPwr fun p => { p with inwin := setBit p.inwin r true, tested := if p.integ then setBit p.tested r true else p.tested }
      (if r = 9 then s1.coreUp else s1).raiseRails.stacksReady)

/-- R553: a rail failed during power-up: every rail but V_HK is removed, and the off time runs; the panel is at service level 0. -/
def State.powerUpFails (s : State) (test : Bool) (r volt : Nat) : State :=
  let s1 := if test then s.powerFault .integrityFail 5 r none volt else s.powerFault .railFaultUp 1 r none volt
  ((s1.modPwr fun p =>
    { p with on := 1, inwin := p.inwin % 2, integ := true, good := false, seq := 5, offAt := s.now, tested := 0
             upFaults := if test then p.upFaults else p.upFaults + 1 }).setLevel (some 0)).modBoot fun b => { b with stopped := true }

/-- R548, R553, R568: a rail has not entered its window within twice its ramp; `test` tells that it failed its integrity test. -/
def execRailRampTimeout (r : Fin 10) (volt : Half) (test : Bool) (s : State) : Ans :=
  .next (
    if s.pwr.seq ≠ 2 || !s.pwr.on.testBit r || s.pwr.inwin.testBit r || (test && (!s.pwr.integ || r.val == 9)) then s
    else s.powerUpFails test r volt.toNat)

/-- R554: a commanded rail reads off, and the next is commanded off; with none left the off time begins. -/
def execRailOff (r : Fin 10) (s : State) : Ans :=
  .next (
    if s.pwr.seq ≠ 4 || s.pwr.on.testBit r || !s.pwr.inwin.testBit r then s
    else s.modPwr fun p => ({ p with inwin := setBit p.inwin r false }).lowerNext s.now)

/-- R555: a rail fault during a power-down: every remaining rail is removed at once; a second one is logged only. -/
def State.railDownFault (s : State) (r volt : Nat) (left : Bool) : State :=
  let s1 := s.powerFault .railFaultDown 2 r none volt
  if s.pwr.downFault then s1
  else s1.modPwr fun p =>
    ({ p with on := 1, downFault := true, integ := true, inwin := if left then setBit p.inwin r false else p.inwin }).lowerNext s.now

/-- R555: a commanded rail is not off within 1 ms. -/
def execRailOffTimeout (r : Fin 10) (volt : Half) (s : State) : Ans :=
  .next (if s.pwr.seq ≠ 4 || s.pwr.on.testBit r || !s.pwr.inwin.testBit r then s else s.railDownFault r volt.toNat false)

/-- R511 cause 3, R544, R366, R382, R587: V_HK is out of its window: the key stores are overwritten, the relay and the bypasses close, and
everything but the fault log is lost. Records not yet in flash are gone (23 R605, R606); INTEG is kept in the fault log (R555). -/
def State.vhkLost (s : State) : State :=
  if !s.pwr.vhk then s
  else
    let s1 := ((s.zeroize 3).setLevel none).resetPanel true
    { s1 with
      pwr := { seq := 0, on := 0, inwin := 0, vhk := false, integ := s.pwr.integ, en := s.pwr.en
               sites := s1.pwr.sites }
      clk := {}
      boot := { part := 0, level := none, reset := s.boot.reset, resetAt := s.boot.resetAt, slotPresent := s.boot.slotPresent }
      log := { s1.log with waiting := [], inbox := [], dropped := 0
                           nextSeq := match s1.log.ring with | r :: _ => (r.seq + 1) % 2 ^ 32 | [] => 0 } }

/-- R560, R553, R555: a rail leaves its window: in a power-up it ends it; with every rail powered it is a RAIL_FAULT, its power-down
removing that rail and every later one at once; during a power-down it is a RAIL_FAULT_DOWN. V_HK is R511's and R544's. -/
def execRailLeavesWindow (r : Fin 10) (volt : Half) (s : State) : Ans :=
  .next (
    if r = 0 then s.vhkLost
    else if r = 9 || !s.pwr.on.testBit r || !s.pwr.inwin.testBit r then s
    else if s.pwr.seq = 2 then s.powerUpFails false r volt.toNat
    else if s.pwr.seq = 4 then s.railDownFault r volt.toNat true
    else if s.pwr.seq = 3 ∨ s.pwr.seq = 6 then
      ((s.powerFault .railFault 3 r none volt.toNat).panelDown 2).modPwr fun p =>
        ({ p with integ := true, on := p.on % 2 ^ r.val, inwin := setBit p.inwin r false }.recordFault 3 r 1 0 volt.toNat).lowerNext s.now
    else s)

/-- R556: the off time ends. -/
def execOffTimeEnd (a b : Bool) (s : State) : Ans := .next (s.tryStart a b)

/-- R548, R535: V_HK reaches its window: a cold start begins, or waits for PANEL_RESET_N. -/
def execVHkPowerOn (a b : Bool) (s : State) : Ans :=
  .next (
    if s.pwr.vhk then s
    else ({ s with pwr := { s.pwr with vhk := true, seq := 1, on := 1, inwin := 1 } }).tryStart a b)

def execVHkLoss (s : State) : Ans := .next s.vhkLost

/-! Domains (R558, R559) -/

/-- R559: a domain fault: headers open, the cluster stops and its state is lost, its token comes back, and it is masked with POWER. -/
def State.domainFault (s : State) (c : ClusterId) : State :=
  let s1 := (s.modPwr fun p => ((p.dropToken c).modDom c fun d => { d with state := 4, stage := 0, outside := none }).modSite (c / 8)
    fun x => { x with dfault := true }).raise .domainFault (c / 8) (c % 8) 0
  (s1.setCl c (s1.cl c).kept).retireUnit 3 (.cluster c) 1 4

/-- A domain is powered. -/
def Dom.powered (d : Dom) : Bool := d.state == 2 || d.state == 3

def execDomainFault (c : ClusterId) (s : State) : Ans := .next (if (s.pwr.dom c).powered then s.domainFault c else s)

/-- R558: a sensor is dropped from the minimum, or (none) the sense bus fails; with fewer than 4 left the domain senses locally. -/
def execSensorDrop (c : ClusterId) (i : Option (Fin 8)) (s : State) : Ans :=
  .next (
    let d := s.pwr.dom c
    if d.state = 0 ∨ d.state = 4 then s
    else
      let d1 := match i with | some i => { d with smask := setBit d.smask i false } | none => d
      let s1 := s.modPwr fun p => p.modDom c fun _ => d1
      if d.local_ || (i.isSome && decide (d1.sensors ≥ 4)) then s1
      else (s1.modPwr fun p => (p.modDom c Dom.goLocal).modSite (c / 8) fun x => { x with sopen := true }).raise .senseOpen (c / 8) (c % 8) 0)

/-! Wake tokens (R562 to R564) and what follows a wake (20 R538, 23 R599) -/

/-- 23 R599, 01 R33: what an SRAM self-test showed of a cluster: spare columns assigned with source `src`, in one change set; a cluster with
a subarray out of spares or a cell beyond ECC is retired with START_TEST. -/
def State.sramTested (s : State) (src : Nat) (c : ClusterId) (r : SramResult) : State :=
  let (k1, notes, out) := r.cols.foldl (fun ((k, ns, out) : Spd × List Repair × Bool) (x : SramCol) =>
    if k.knownCol x.bank x.sub x.col then (k, ns, out)
    else if k.sparesUsed x.bank x.sub ≥ 4 then (k, ns, true)
    else
      let q : Repair := ⟨x.bank, x.sub, x.col, k.sparesUsed x.bank x.sub⟩
      ({ k with steer := k.steer ++ [q] }, ns ++ [q], out)) ((s.cl c).spd, [], false)
  let s1 := s.setCl c { s.cl c with spd := k1 }
  let bad := r.bad || out
  if notes.isEmpty && !bad then s1
  else s1.applyGaz fun g =>
    let g1 := notes.foldl (fun g (q : Repair) => g.note ⟨s.mcount, 6, 2, c, q.bank * 16 + q.sub, 0, 0, 0, src, q.col + fld 10 q.spare⟩) g
    if bad && transitionOk (.cluster c) (g1.status (.cluster c)) (g1.reason (.cluster c)) 4 2 false then g1.leave s.mcount src (.cluster c) 4 2 else g1

/-- 20 R538, 01 R36: the domain may wake now: its site's wave has begun, or its site is the reserve being activated. -/
def State.mayWake (s : State) (c : Nat) : Bool :=
  (s.gaz.clusterIn c && (s.gaz.sitesIn.take (16 * s.boot.wave)).contains (c / 8))
    || (match s.gaz.act with | some x => x.site == some (c / 8) && x.step == 2 | none => false)

/-- R562: a Lockkeeper asks for a token for a domain that awaits one. -/
def execWakeTokenRequest (c : ClusterId) (s : State) : Ans :=
  .next (
    let p := s.pwr
    if (p.dom c).state ≠ 1 || !p.inwin.testBit 9 || p.seq != 3 || !s.mayWake c || (p.waits.any fun (d, _) => d == c.val) || (p.held.any fun (d, _) => d == c.val) then s
    else s.modPwr fun p => { p with waits := insertWait c s.mcount p.waits })

/-- R562, R563: the first request of a quadrant with a free token is granted: staging begins. -/
def execWakeTokenGrant (q : Fin 4) (s : State) : Ans :=
  .next (
    match s.pwr.waits.find? fun (c, _) => quadrant c == q.val with
    | some (c, _) =>
      if s.pwr.heldIn q ≥ 24 then s
      else s.modPwr fun p =>
        ({ p with waits := p.waits.filter fun (d, _) => d != c, held := p.held ++ [(c, s.now)] }).modDom c fun d => { d with state := 2, stage := 0, stageAt := s.now }
    | none => s)

/-- R563: the next stage of switches turns on, the first with the grant, each other 200 ns after the one before; a domain outside its
window (`ok` false) stands still, and has faulted where it has for 2 µs. -/
def execWakeStage (c : ClusterId) (ok : Bool) (s : State) : Ans :=
  .next (
    let d := s.pwr.dom c
    if d.state ≠ 2 then s
    else if ok then
      let s1 := s.modPwr fun p => p.modDom c fun d => { d with outside := none }
      if d.stage < 4 && (d.stage == 0 || decide (d.stageAt + 200 ≤ s.now)) then
        s1.modPwr fun p => p.modDom c fun d => { d with stage := d.stage + 1, stageAt := s.now }
      else s1
    else match d.outside with
      | none => s.modPwr fun p => p.modDom c fun d => { d with outside := some s.now }
      | some t => if t + 2000 ≤ s.now then s.domainFault c else s)

/-- R563 step 6, R562: 1 µs after the last stage the domain is on and its token comes back. In a wave the cluster then runs its quick
SRAM self-test (20 R538); the first cluster reachable again ends service level 1 (R561). -/
def execWakeTokenReturn (c : ClusterId) (test : SramResult) (s : State) : Ans :=
  .next (
    let d := s.pwr.dom c
    if d.state ≠ 2 || d.stage != 4 || d.outside.isSome || decide (s.now < d.stageAt + 1000) then s
    else
      let s1 := s.modPwr fun p => (p.dropToken c).modDom c fun d => { d with state := 3 }
      (if s.gaz.clusterIn c then s1.sramTested 1 c test else s1).relevel)

/-- R562: a token held for 1 ms is reclaimed, and its domain has faulted. -/
def execWakeTokenTimeout (c : ClusterId) (s : State) : Ans :=
  .next (
    match s.pwr.held.find? fun (d, _) => d == c.val with
    | some (_, t) => if t + 1000000 ≤ s.now then s.domainFault c else s
    | none => s)

/-! Cracked connections (R566, R567) -/

def pathKey (c i : Nat) : Nat := c * 8 + i

/-- R566: sensor `i` meets the first two conditions: R at least 1.5 × R0, and at least 8 mV beyond R0 times the current (drop in µV,
current in mA, R0 in µΩ). -/
def Path.exceeds (x : Path) (current drop : Nat) : Bool :=
  decide (0 < x.r0 ∧ 3 * x.r0 * current ≤ 2000 * drop ∧ x.r0 * current + 8000000 ≤ 1000 * drop)

/-- R571: PWR_FRACT for a suspect. -/
def fractWord (c i r0 current drop : Nat) : Word :=
  let excess := (1000 * drop - r0 * current) / 1000000
  BitVec.ofNat 64 (2 ^ 63 + fld 56 (c % 8) + fld 53 i + fld 32 (Nat.min 255 excess) + fld 16 (Nat.min 65535 r0) + Nat.min 65535 (1000 * drop / Nat.max 1 current))

/-- R567: FRACTURE_SUSPECT at a site that is not derated: it is derated by 200 MHz in one change set, or masked where that lies below the
floor, and the tray is flagged. -/
def State.fracture (s : State) (c : ClusterId) (w : Word) : State :=
  let site := c.val / 8
  if (s.gaz.site site).derate ≠ 0 then s
  else
    let s1 := (s.modPwr fun p => p.modSite site fun x =>
      { x with fract := true, trayflag := true, fractW := if x.fractW.getLsbD 63 then x.fractW else w }).raise .fractureSuspect site (c % 8) w.toNat
    let low := decide (s.obj 0x2200 0 < s.obj 0x2201 0 + 200)
    s1.applyGaz fun g =>
      let g1 := { g with sites := Tbl.mod (shippedSite site) g.sites site fun r => { r with derate := 2 } }
      let u : GUnit := .site ⟨site, by have := c.isLt; simp only [site]; omega⟩
      if low && transitionOk u (g1.status u) (g1.reason u) 1 4 false then g1.leave s.mcount 3 u 1 4 else g1

/-- R566: an interval of 10 ms in which a domain carries from 1.2 A to 4.8 A: its `current` in mA, and the drop to each sensor in µV. -/
def execFractureInterval (c : ClusterId) (current : Nat) (drops : List Nat) (s : State) : Ans :=
  .next (
    if (s.pwr.dom c).state ≠ 3 || current < 1200 || 4800 < current then s
    else
      let over_ := (List.range 8).filter fun i => (Tbl.get {} s.pwr.paths (pathKey c i)).exceeds current (drops.getD i 0)
      let sus (i : Nat) : Bool := decide (over_.length ≤ 2) && over_.contains i
      let s1 := s.modPwr fun p => { p with paths := (List.range 8).foldl (fun t i =>
        if (Tbl.get? t (pathKey c i)).isSome then Tbl.mod {} t (pathKey c i) fun x => x.mark (sus i) else t) p.paths }
      match (List.range 8).find? fun i => sus i && (Tbl.get {} s1.pwr.paths (pathKey c i)).fractured with
      | some i => s1.fracture c (fractWord c i (Tbl.get {} s.pwr.paths (pathKey c i)).r0 current (drops.getD i 0))
      | none => s1)

end Sys2Proof.Machine
end

