-- ==== Sys2Proof/Machine/Activation.lean ====
section
/-!
DEFINITION. Change sets, expert status commands and the activation of a reserve (spec 01 R32 to R37).
-/
namespace Sys2Proof.Machine

/-! Change sets (R34) -/

/-- R34, R45: the unit code, kind and number of an event's subject. -/
def subjectCode : GSubject → Nat
  | .unit u => gunitCode u | .lane b _ => (braidEnds b).1 | .column c _ _ _ _ => c / 8
def subjectKind : GSubject → Nat
  | .unit u => gunitKind u | .lane _ _ => 5 | .column _ _ _ _ _ => 6
def subjectNum : GSubject → Nat
  | .unit u => gunitNum u | .lane b l => b * 128 + l | .column c bank sub col _ => ((c % 8 * 96 + bank) * 16 + sub) * 1024 + col

/-- R34: events of one nanosecond are applied in ascending unit code, then kind, then number. -/
def GazEvent.key (e : GazEvent) : Nat := (subjectCode e.u * 8 + subjectKind e.u) * 2 ^ 24 + subjectNum e.u

def insertEvent (e : GazEvent) : List GazEvent → List GazEvent
  | [] => [e]
  | d :: t => if GazEvent.key e < GazEvent.key d then e :: d :: t else d :: insertEvent e t

/-- R32, R34: one event: a unit leaves service, a lane is retired, a column that its cluster has steered enters the record. What R32 does not
allow is refused with STATUS_REFUSED and changes nothing. -/
def State.gazEvent (s : State) (e : GazEvent) : State :=
  let refused := s.emit (.refused (subjectCode e.u) .statusRefused)
  match e.u with
  | .unit u =>
    if 8 < e.reason || !transitionOk u (s.gaz.status u) (s.gaz.reason u) e.status e.reason false then refused
    else s.retireUnit e.source u e.status e.reason
  | .lane b l => if e.status ≠ 4 || !(s.brd b).healthy l then refused else s.loseLane e.source b l []
  | .column c bank sub col spare =>
    let r : Repair := ⟨bank, sub, col, spare⟩
    if (s.cl c).spd.steer.contains r then refused
    else (s.setCl c (let k := s.cl c; { k with spd := { k.spd with steer := k.spd.steer ++ [r] } })).applyGaz fun g =>
      g.note ⟨s.mcount, 6, 2, c, r.bank * 16 + r.sub, 0, 0, e.reason, e.source, r.col + fld 10 r.spare⟩

/-- R34: the events that reached the Surveyor in one nanosecond, each its own change set. -/
def execGazetteerChangeSet (es : List GazEvent) (s : State) : Ans :=
  .next ((es.foldl (fun l e => insertEvent e l) []).foldl State.gazEvent s)

/-- R561, R562: a domain of a unit that has come back into service awaits its token; one that was never up in this start tries every
sensor (R558). -/
def State.awaitToken (s : State) (c : Nat) : State :=
  if s.pwr.inwin.testBit 9 then s.modPwr fun p => p.modDom c fun d =>
    { d with state := 1, stage := 0, setp := setPoint 0 d.trim, smask := if d.setp = 0 then 0xFF else d.smask } else s

/-- R32, R35: an expert command masks, unmasks or retires a unit. An unmask returns that unit alone; one of a site waits for fewer than
180 sites in service. -/
def State.expertStatus (s : State) (u : GUnit) (st : Nat) : FCode × State :=
  let full := match u with | .site _ => st == 0 && decide (180 ≤ s.gaz.sitesIn.length) | _ => false
  if full || !transitionOk u (s.gaz.status u) (s.gaz.reason u) st 9 false then (.statusRefused, s)
  else if st = 0 then
    let s1 := s.applyGaz fun g => g.change s.mcount 4 u 0 0
    (.ok, match u with | .cluster c => s1.awaitToken c | _ => s1)
  else (.ok, s.applyGaz fun g => g.leave s.mcount 4 u st 9)

/-- A request of a client, whose refusal is told. -/
def State.told (s : State) (unit : Nat) (r : FCode × State) : State := if r.1 = .ok then r.2 else s.emit (.refused unit r.1)

def execExpertStatusCommand (u : GUnit) (st : Fin 5) (s : State) : Ans := .next (s.told (gunitCode u) (s.expertStatus u st))

/-! Activation (R35, R36) -/

/-- R35: a write of 0x3011. -/
def State.reserveActivate (s : State) (n : Nat) : FCode × State :=
  if s.gaz.act.isSome then (.busy, s)
  else if 192 ≤ n || (s.gaz.site n).status != 2 || decide (180 ≤ s.gaz.sitesIn.length) then (.statusRefused, s)
  else match s.gaz.replacedByManual with
    | some r => (.ok, s.modGaz fun g => { g with act := some ⟨1, some n, r, true⟩ })
    | none => (.statusRefused, s)

def execReserveActivate (site : Byte) (s : State) : Ans := .next (s.told site.toNat (s.reserveActivate site.toNat))

/-- R35: the site whose leaving calls for an automatic activation: gone since this start, replaced by none, and one for which the policy
names a reserve; of several the one that left first. -/
def Gaz.unreplaced (g : Gaz) (policy : Nat) : Option Nat :=
  argMin (fun x => (g.site x).leftGen) (g.leftSites.filter fun x => (g.site x).leftGen != 0 && (g.chooseReserve policy x).isSome)

/-- R36: the activation that step 2 takes up: the one requested, the one whose reserve failed, or an automatic one. -/
def State.nextActivation (s : State) : Option Activation :=
  let policy := s.obj 0x3010 0
  match s.gaz.act with
  | some a =>
    if a.step ≠ 1 then none
    else if a.site.isSome then some a
    else (s.gaz.chooseReserve policy a.replaced).map fun x => { a with site := some x }
  | none =>
    if 180 ≤ s.gaz.sitesIn.length then none
    else match s.gaz.unreplaced policy with
      | some r => (s.gaz.chooseReserve policy r).map fun x => ⟨1, some x, r, false⟩
      | none => none

/-- R36 step 2: the reserve's domains come up, each against its token; their scratchpads are zeroized before use (08 R241). -/
def execReservePowerUp (s : State) : Ans :=
  .next (
    match s.nextActivation with
    | some a =>
      if !s.pwr.inwin.testBit 9 || s.pwr.seq != 3 then s
      else
        let x := a.site.getD 0
        let s1 := s.modGaz fun g => { g with act := some { a with step := 2 } }
        ((span (8 * x) 8).filter fun c => (s.gaz.cluster c).status == 2).foldl (fun s c => (s.setCl c (s.cl c).kept).awaitToken c) s1
    | none => s)

/-- R36: a step failed: the reserve is retired with START_TEST and its cores are off; the next reserve that the policy allows is tried;
with none left the activation stops, and a vote is asked for (14 R423). -/
def State.activationFails (s : State) (a : Activation) : State :=
  let x := a.site.getD 0
  let s1 := (span (8 * x) 8).foldl (fun s c => (s.setCl c (s.cl c).kept).modPwr fun p => (p.dropToken c).modDom c fun _ => {}) s
  let s2 := if h : x < 192 then s1.retireUnit 1 (.site ⟨x, h⟩) 4 2 else s1
  if (s2.gaz.chooseReserve (s2.obj 0x3010 0) a.replaced).isSome then
    s2.modGaz fun g => { g with act := some { a with step := 1, site := none } }
  else (s2.modGaz fun g => { g with act := none }).askVote 2

/-- The activation in progress whose last step done is `n`. -/
def State.actAt (s : State) (n : Nat) : Option Activation := s.gaz.act.filter fun a => a.step == n && a.site.isSome

def State.actStep (s : State) (a : Activation) (n : Nat) : State := s.modGaz fun g => { g with act := some { a with step := n } }

/-- R36 step 3, 23 R599: once every domain of the reserve is on, LKF is delivered and the quick SRAM self-test runs, whose result stands in
0x9001; a domain that faulted, or a reserve none of whose clusters passes, fails the step. -/
def execReserveSelfTest (rs : List SramResult) (s : State) : Ans :=
  .next (
    match s.actAt 2 with
    | none => s
    | some a =>
      let x := a.site.getD 0
      let cs : List (Fin 8) := (List.finRange 8).filter fun (n : Fin 8) => (s.gaz.cluster (8 * x + n.val)).status == 2
      if cs.any fun (n : Fin 8) => (s.pwr.dom (8 * x + n.val)).state == 4 then s.activationFails a
      else if cs.any fun (n : Fin 8) => (s.pwr.dom (8 * x + n.val)).state != 3 then s
      else
        let s0 := s.modDiag fun d => d.report ((rs.map (·.lines)).sum) (tickOf s.mcount % 2 ^ 32)
        let s1 := cs.foldl (fun s (n : Fin 8) =>
          match rs.find? fun r => r.n == n with
          | some r => if h : 8 * x + n.val < 1536 then s.sramTested 1 ⟨8 * x + n.val, h⟩ r else s
          | none => s) s0
        if cs.all fun (n : Fin 8) => (s1.gaz.cluster (8 * x + n.val)).status == 4 then s1.activationFails a else s1.actStep a 3)

/-- R36 step 4, 10 R300: the reserve's mesh braids and memory port are lane-tested and trained. -/
def execReserveLinkTraining (bs : List BraidTest) (s : State) : Ans :=
  .next (
    match s.actAt 3 with
    | none => s
    | some a =>
      let x := a.site.getD 0
      let mine := siteMeshBraids x ++ siteMemBraids x
      let s1 := (bs.filter fun t => mine.contains t.b.val && (s.gaz.braid t.b).status == 2).foldl
        (fun (s : State) (t : BraidTest) => s.trainBraid 1 t.b t.identOk t.fullRate t.tests) s
      s1.actStep a 4)

/-- R36 step 6: a braid of the new site: its memory port by its own training, a mesh braid by the site at its other end. A braid that failed
its training has left as R297 and R300 say; one that no test has trained stays reserve (log entry 59). -/
def State.braidJoins (s : State) (x b : Nat) : Option (Nat × Nat) :=
  let good : Nat × Nat := if (s.brd b).a.state = 1 then (0, 10) else (2, 0)
  if (s.gaz.braid b).status ≠ 2 then none
  else if braidKind b = 2 then some good
  else
    let o := if (braidEnds b).1 = x then (braidEnds b).2 else (braidEnds b).1
    match (s.gaz.site o).status with
    | 0 => some good
    | 1 => some (1, 7)
    | 2 => none
    | _ => some (4, 7)

/-- R36 step 6: the Gazetteer with the new site in service. -/
def State.activated (s : State) (a : Activation) (x : SiteId) (g : Gaz) : Gaz :=
  let now := s.mcount
  let g1 := (g.putStatus (.site x) 0 10).note ⟨now, 0, 4, x, 0, 2, 0, 10, 3, a.replaced⟩
  let g2 := { g1 with sites := Tbl.mod {} g1.sites x fun r => { r with replaces := a.replaced } }
  let g3 := (span (8 * x) 8).foldl (fun g c =>
    if (g.cluster c).status = 2 then (if h : c < 1536 then g.change now 3 (.cluster ⟨c, h⟩) 0 10 a.replaced else g) else g) g2
  let g4 := (siteMeshBraids x ++ siteMemBraids x).foldl (fun (g : Gaz) b =>
    match s.braidJoins x b with
    | some (st, rs) => if h : b < 3320 then (if st = 0 then g.recordLanes b (s.brd b) else g).change now 3 (.braid ⟨b, h⟩) st rs a.replaced else g
    | none => g) g3
  { g4 with act := none, paths := s.delta.tabs (s.delta.router (s.gaz.sitesIn.headD 0)).cur }

/-- R36: the new site's memory port and a mesh edge are in service. -/
def Gaz.siteJoined (g : Gaz) (x : Nat) : Bool :=
  (siteMemBraids x).any (fun b => (g.braid b).status == 0) && (siteEdges x).any fun e => g.edgeUp e.2.2

/-- R36 step 5: an edition that includes the reserve, checked and armed. -/
def execReserveEdition (t : RouteTables) (tsw : Word) (s : State) : Ans :=
  .next (
    match s.actAt 4 with
    | none => s
    | some a =>
      if h : a.site.getD 192 < 192 then
        let s1 := s.modGaz (s.activated a ⟨a.site.getD 192, h⟩)
        if !s.slotFree || !decide (tsw.toNat % 100000 = 0 ∧ s.mcount + 200000 ≤ tsw.toNat) then s
        else if !s1.gaz.siteJoined (a.site.getD 192) || !s1.editionOk t then s.activationFails a
        else (s.install t tsw).actStep a 5
      else s)

/-- R36: an activation that may no longer bring its reserve into service, 180 sites being in service again (R35), ends: the reserve stays one,
its cores off (log entry 60). -/
def State.activationEnds (s : State) (a : Activation) : State :=
  let x := a.site.getD 0
  ((span (8 * x) 8).foldl (fun s c => (s.setCl c (s.cl c).kept).modPwr fun p => (p.dropToken c).modDom c fun _ => {}) s).modGaz fun g =>
    { g with act := none }

/-- R36 step 6: once the edition is current: the reserve is in service, its ports join, and a margin already low asks for a retrain (10 R305). -/
def execActivationComplete (s : State) : Ans :=
  .next (
    match s.actAt 5 with
    | none => s
    | some a =>
      if h : a.site.getD 192 < 192 then
        let x : SiteId := ⟨a.site.getD 192, h⟩
        if s.gaz.sitesIn.any fun y => (s.delta.router y).armed then s
        else if 180 ≤ s.gaz.sitesIn.length then s.activationEnds a
        else if !(s.activated a x s.gaz).siteJoined x then s.activationFails a
        else
          let s1 := (s.applyGaz (s.activated a x)).modGaz fun g => { g with owed := s.gaz.owed, old := if s.gaz.owed then g.old else none }
          let bs := (siteMeshBraids x ++ siteMemBraids x).filter fun b => (s1.gaz.braid b).status == 0
          let s2 := (bs.foldl (fun s b => s.modBrd b fun y => y.both fun e => { e with state := 2, inlist := true }) s1).portsFollow
          let s3 := (x.val :: neighbours x).foldl (fun s y => outerPorts.foldl (fun s p => s.setLists y p) s) s2
          bs.foldl (fun s b => (s.watchLow b false).watchLow b true) s3
      else s)

end Sys2Proof.Machine
end

