-- ==== Sys2Proof/Machine/Cartouche.lean ====
section
/-!
DEFINITION. The commands of the Cartouche (spec 18): SPDM, IDE key management, the key paths, self-tests, zeroization and anchors.
-/
namespace Sys2Proof.Machine

/-! The instance that serves -/

/-- R497: the state of the active instance. -/
def State.ctgState (s : State) : Nat := (s.ctg.unit s.fw.active).state

/-- R499, R509, R510: the active instance serves a request: while it tests itself services wait, in error it refuses all but status. -/
def State.serveSpdm (s : State) (ep : Endpoint) (f : State → State) : State :=
  if s.boot.level.isNone || s.ctgState == 0 then s
  else if s.ctgState ≠ 1 then s.emit (.spdm ep .refused)
  else f s

/-- R506: an SPDM session of an endpoint, its handshake finished or not. -/
def State.spdmOf (s : State) (ep : Endpoint) (id : Nat) (done : Bool) : Option SpdmSess :=
  (Tbl.get? s.ctg.spdm id).filter fun x => x.ep == ep && x.done == done

/-- A request inside a session, answered there. -/
def State.inSession (s : State) (ep : Endpoint) (id : Word32) (f : SpdmSess → State → State) : State :=
  s.serveSpdm ep fun s => match s.spdmOf ep id.toNat true with
    | some x => f x s
    | none => s.emit (.spdm ep .refused)

/-! SPDM (R505, R506) -/

def execGetVersion (ep : Endpoint) (s : State) : Ans := .next (s.serveSpdm ep fun s => s.emit (.spdm ep .version))
def execGetCapabilities (ep : Endpoint) (s : State) : Ans := .next (s.serveSpdm ep fun s => s.emit (.spdm ep .capabilities))

/-- R506: `ok` tells that the request offers the module's algorithms. -/
def execNegotiateAlgorithms (ep : Endpoint) (ok : Bool) (s : State) : Ans :=
  .next (s.serveSpdm ep fun s => s.emit (.spdm ep (if ok then .algorithms else .refused)))

/-- R506: the digest of slot 0's chain; the chain is the part's own (a free value, log entry 6). -/
def execGetDigests (ep : Endpoint) (s : State) : Ans :=
  .next (s.serveSpdm ep fun s => let (v, s1) := s.fresh; s1.emit (.spdm ep (.digests v)))

/-- R506: a portion of the certificate chain of slot 0. -/
def execGetCertificate (ep : Endpoint) (slot : Byte) (_off _len : Half) (s : State) : Ans :=
  .next (s.serveSpdm ep fun s =>
    if slot ≠ 0 then s.emit (.spdm ep .refused) else let (v, s1) := s.fresh; s1.emit (.spdm ep (.certificate v)))

/-- R506: a challenge signed with the DIK. -/
def execChallenge (ep : Endpoint) (slot : Byte) (_nonce : BitVec 256) (s : State) : Ans :=
  .next (s.serveSpdm ep fun s =>
    if slot ≠ 0 then s.emit (.spdm ep .refused) else let (v, s1) := s.fresh; s1.emit (.spdm ep (.challengeAuth v)))

/-- R505: the measurements of an index, of all (0xFF), or their count (0). -/
def execGetMeasurements (ep : Endpoint) (index : Byte) (_nonce : BitVec 256) (s : State) : Ans :=
  .next (s.serveSpdm ep fun s =>
    let all := s.ctg.meas ++ [(5, s.ctg.sec)]
    let i := index.toNat
    if i = 0 then s.emit (.spdm ep (.measurements [(0, all.length)]))
    else if i = 0xFF then s.emit (.spdm ep (.measurements all))
    else match all.filter fun (k, _) => k == i with
      | [] => s.emit (.spdm ep .refused)
      | xs => s.emit (.spdm ep (.measurements xs)))

/-- R506: a key exchange opens a session; with 16 open the answer is Busy. -/
def execKeyExchange (ep : Endpoint) (s : State) : Ans :=
  .next (s.serveSpdm ep fun s =>
    match (if s.ctg.spdm.length < 16 then s.ctg.freeSpdm else none) with
    | none => s.emit (.spdm ep .busy)
    | some n =>
      let (v, s1) := s.fresh
      (s1.modCtg fun c => { c with spdm := Tbl.set c.spdm n { ep := ep } }).emit (.spdm ep (.keyExchangeRsp n v)))

/-- R498: the role that a requester holds over a carrier: Host only on a host port's MCTP endpoint. -/
def State.requesterRole (s : State) (ep : Endpoint) (r : Requester) : Nat :=
  let k := s.ctg.roleOf r
  if k = 2 ∧ Endpoint.kind ep = 2 then 0 else k

/-- R498, R506: the handshake ends; `ok` that the requester's proof verified. A handshake that fails ends its session (R500). -/
def execFinish (ep : Endpoint) (id : Word32) (ok : Bool) (r : Requester) (s : State) : Ans :=
  .next (s.serveSpdm ep fun s =>
    match s.spdmOf ep id.toNat false with
    | none => s.emit (.spdm ep .refused)
    | some x =>
      if ok then
        let k := s.requesterRole ep r
        (s.modCtg fun c => { c with spdm := Tbl.set c.spdm id.toNat { x with done := true, role := k } }).emit (.spdm ep (.finishRsp id.toNat k))
      else (s.modCtg fun c => { c with spdm := Tbl.erase c.spdm id.toNat }).emit (.spdm ep .refused))

def execKeyUpdate (ep : Endpoint) (id : Word32) (s : State) : Ans :=
  .next (s.inSession ep id fun _ s => s.emit (.spdm ep (.ack id.toNat)))

def execSpdmHeartbeat (ep : Endpoint) (id : Word32) (s : State) : Ans :=
  .next (s.inSession ep id fun _ s => s.emit (.spdm ep (.ack id.toNat)))

/-- R500, R506, 17 R481: a session ends: its secrets go, and the LAP session inside it. -/
def execEndSession (ep : Endpoint) (id : Word32) (s : State) : Ans :=
  .next (s.inSession ep id fun _ s =>
    ((s.modCtg fun c => { c with spdm := Tbl.erase c.spdm id.toNat }).closeSessions fun x => x.spdm == some id).emit (.spdm ep (.ack id.toNat)))

/-! IDE key management (R507, R512) -/

/-- R507: a request for a port is accepted inside a Host or CO session that arrived on that port's endpoint; none during a zeroization. -/
def State.ideRequest (s : State) (ep : Endpoint) (id : Word32) (port : Nat) (f : State → State) : State :=
  s.inSession ep id fun x s =>
    if (x.role = 1 ∨ x.role = 2) ∧ Endpoint.kind ep = port ∧ s.ctg.zPend.isNone then f s else s.emit (.spdm ep .refused)

/-- The stream of a port, and a change of it. -/
def State.ideOf (s : State) (port stream : Nat) : IdeStream := Tbl.get {} (s.hosts.port port).ide stream
def State.modIde (s : State) (port stream : Nat) (f : IdeStream → IdeStream) : State :=
  s.modHosts fun h => h.modPort port fun x => { x with ide := Tbl.mod {} x.ide stream f }

/-- R507, R468: a key is sent to the port's IDE key unit; a port has five streams at most. -/
def execKeyProg (ep : Endpoint) (id : Word32) (port : Fin 2) (stream set dir sub : Byte) (key : BitVec 256) (s : State) : Ans :=
  .next (s.ideRequest ep id port fun s =>
    let ide := (s.hosts.port port).ide
    if (Tbl.get? ide stream.toNat).isNone && decide (5 ≤ ide.length) then s.emit (.spdm ep (.kmResp 1))
    else
      ((s.modCtg fun c => c.send (0x142 + port) 1 (ideSlot stream.toNat set.toNat dir.toNat sub.toNat) key.toNat).modIde port stream.toNat fun x => x).emit
        (.spdm ep (.kmResp 0)))

/-- R507, R468: a key set becomes active where its key is in place. -/
def execKeySetGo (ep : Endpoint) (id : Word32) (port : Fin 2) (stream set dir sub : Byte) (s : State) : Ans :=
  .next (s.ideRequest ep id port fun s =>
    let k := ideSlot 0 set.toNat dir.toNat sub.toNat
    if (Tbl.get? (s.ideOf port stream.toNat).keys k).isNone then s.emit (.spdm ep (.kmResp 1))
    else (s.modIde port stream.toNat fun x => IdeStream.settle
      { x with insecure := false, active := k :: x.active.filter fun j => j != k && j % 16 != k % 16 }).emit (.spdm ep (.kmResp 0)))

/-- R500, R507: a key set stops and its key is zeroized. -/
def execKeySetStop (ep : Endpoint) (id : Word32) (port : Fin 2) (stream set dir sub : Byte) (s : State) : Ans :=
  .next (s.ideRequest ep id port fun s =>
    let k := ideSlot 0 set.toNat dir.toNat sub.toNat
    ((s.modIde port stream.toNat fun x => IdeStream.settle { x with keys := Tbl.erase x.keys k, active := x.active.filter fun j => j != k }).modCtg
      fun c => c.send (0x142 + port) 2 (ideSlot stream.toNat set.toNat dir.toNat sub.toNat) 0).emit (.spdm ep (.kmResp 0)))

def execIdeQuery (ep : Endpoint) (id : Word32) (port : Fin 2) (s : State) : Ans :=
  .next (s.ideRequest ep id port fun s => s.emit (.spdm ep (.kmResp 0)))

/-! The key paths (R502, R503) -/

/-- The stack or the port of a key unit. -/
def keyStack (u : Nat) : Option StackId := if h : 192 ≤ u ∧ u - 192 < 48 then some ⟨u - 192, h.2⟩ else none
def keyPort (u : Nat) : Option Nat := if u = 0x142 then some 0 else if u = 0x143 then some 1 else none

/-- R502: every slot of a unit cleared. -/
def State.clearUnit (s : State) (u : Nat) : State :=
  match keyStack u, keyPort u with
  | some k, _ => s.modStk k fun x => { x with keys := [] }
  | none, some p => s.modHosts fun h => h.modPort p fun x => { x with ide := [] }
  | none, none => s

/-- R510, R502: a unit that failed: its stack is retired, or its port is down. -/
def State.unitOut (s : State) (u reason : Nat) : State :=
  match keyStack u, keyPort u with
  | some k, _ => s.retireUnit 3 (.stack k) 4 reason
  | none, some p => (((s.modHosts fun h => h.modPort p fun x => { x with katFail := true, linkUp := false }).modTen fun t => t.linkLost p).primaryLost p)
  | none, none => s

/-- R502, R511 cause 7: three refusals in a row: the unit clears its slots, KEY_PATH_FAIL is raised, and its stack or port leaves
service. -/
def State.keyPathFail (s : State) (u : Nat) : State :=
  let f (x : CtgUnit) : CtgUnit := ({ x with kpfail := true }).fail 2 0 u
  let s1 := (s.clearUnit u).modCtg fun c => ((c.modUnit 0 f).modUnit 1 f).noteZ (tickOf s.mcount) 7
  let detail := ((s1.ctg.unit s.fw.active).err).toNat
  (((s1.raiseAs 6 .keyPathFail u 0 detail).raiseAs 6 .zeroized u 0 7).unitOut u 5)

/-- R502: a message at its unit: acted on where it verifies and its counter is fresh, refused otherwise. -/
def State.keyPath (s : State) (m : KpMsg) (f : State → State) : State :=
  if !keyUnits.contains m.unit then s
  else if s.ctg.accepts m then f (s.modCtg fun c => c.accept m)
  else
    let (c, third) := s.ctg.refuse m.unit
    let s1 := { s with ctg := c }
    if third then s1.keyPathFail m.unit else s1

/-- R501, R502, R507: a key load takes effect. -/
def execKeyPathLoad (unit : Half) (ctr : Word) (slot : Half) (key : Nat) (s : State) : Ans :=
  .next (s.keyPath ⟨unit.toNat, 1, ctr.toNat, slot.toNat, key⟩ fun s =>
    match keyStack unit.toNat, keyPort unit.toNat with
    | some k, _ => if slot.toNat < 516 then (s.modStk k fun x => { x with keys := Tbl.set x.keys slot.toNat key }).settleParts else s
    | none, some p => s.modIde p (slot.toNat / 256) fun x => { x with keys := Tbl.set x.keys (slot.toNat % 256) key }
    | none, none => s)

/-- R501: the Cartouche discards a tenant key that no stack holds any more and none is being sent. -/
def State.dropKey (s : State) (t : Nat) : State :=
  let held := (List.range 48).any fun k => (Tbl.get? (s.stk k).keys t).isSome
  let sent := s.ctg.sent.any fun m => m.op == 1 && m.slot == t && decide (m.unit < 0x100) && decide (Tbl.get 0 s.ctg.kpLast m.unit < m.ctr)
  if t < 512 && !held && !sent then s.modCtg fun c => { c with tkeys := Tbl.erase c.tkeys t } else s

def execKeyPathClearSlot (unit : Half) (ctr : Word) (slot : Half) (s : State) : Ans :=
  .next (s.keyPath ⟨unit.toNat, 2, ctr.toNat, slot.toNat, 0⟩ fun s =>
    match keyStack unit.toNat, keyPort unit.toNat with
    | some k, _ => (s.modStk k fun x => { x with keys := Tbl.erase x.keys slot.toNat }).dropKey slot.toNat
    | none, some p => s.modIde p (slot.toNat / 256) fun x => IdeStream.settle
        { x with keys := Tbl.erase x.keys (slot.toNat % 256), active := x.active.filter fun j => j != slot.toNat % 256 }
    | none, none => s)

def execKeyPathClearAll (unit : Half) (ctr : Word) (s : State) : Ans :=
  .next (s.keyPath ⟨unit.toNat, 3, ctr.toNat, 0, 0⟩ fun s => s.clearUnit unit.toNat)

/-- R509, R510: a key unit's known-answer test. CTG_STEST.KUNIT reads 1 once all fifty units have passed. -/
def execKeyPathKat (unit : Half) (ctr : Word) (pass : Bool) (s : State) : Ans :=
  .next (s.keyPath ⟨unit.toNat, 4, ctr.toNat, 0, 0⟩ fun s =>
    let u := unit.toNat
    if pass then
      s.modCtg fun c =>
        let ok := (u :: c.kpPassed).dedup
        let f (x : CtgUnit) : CtgUnit := { x with passed := if ok.length = 50 then x.passed ||| 0x200 else x.passed }
        { (c.modUnit 0 f).modUnit 1 f with kpPassed := ok }
    else
      let f (x : CtgUnit) : CtgUnit := x.fail 1 11 u
      let s1 := s.modCtg fun c => (c.modUnit 0 f).modUnit 1 f
      ((s1.raiseAs 6 .selftestFail u 0 ((s1.ctg.unit s.fw.active).err).toNat).unitOut u 2))

/-! Services of the CO role (R499, R509 to R516) -/

/-- R509, R510: the tests of the active instance on demand; `fails` is the failing test, as a bit of CTG_STEST [10:2]. -/
def State.selfTest (s : State) (fails : Option Nat) : State :=
  let i := s.fw.active
  let tick := tickOf s.mcount % 2 ^ 32
  if s.ctgState ≠ 1 then s
  else match fails with
    | some f =>
      (s.modCtg fun c => c.modUnit i fun u => { u with testTick := tick, passed := if u.passed.testBit f then u.passed - 2 ^ f else u.passed }).selftestFail i (f + 2) 0
    | none => s.modCtg fun c => c.modUnit i fun u => { u with testTick := tick, pass := true, passed := u.passed ||| 0x1FF }

def execOnDemandSelfTest (fails : Option (Fin 10)) (s : State) : Ans :=
  .next (s.selfTest ((fails.map (·.val)).filter fun f => decide (f < 9)))

/-- R511 cause 1. -/
def execZeroizeCommand (s : State) : Ans := .next (s.zeroize 1)

/-- R511 cause 6: 0xDEC0 twice within 10 s. -/
def State.endLife (s : State) (w : Nat) : FCode × State :=
  if w ≠ 0xDEC0 then (.valueRange, s)
  else match s.ctg.eolAt with
    | some t =>
      if s.now ≤ t + 10000000000 then (.ok, (s.modCtg fun c => { c with eolAt := none }).zeroize 6)
      else (.ok, s.modCtg fun c => { c with eolAt := some s.now })
    | none => (.ok, s.modCtg fun c => { c with eolAt := some s.now })

def execEndOfLife (w : Half) (s : State) : Ans := .next (s.endLife w.toNat).2

/-- R516: an empty requester anchor slot is written, once. -/
def State.anchorWrite (s : State) (slot : Nat) (bs : List Byte) : FCode × State :=
  if bs.length ≠ 48 then (.lengthMismatch, s)
  else if (Tbl.get? s.ctg.anchors slot).isSome then (.valueRange, s)
  else (.ok, s.modCtg fun c => { c with anchors := Tbl.set c.anchors slot bs })

def execAnchorWrite (slot : Fin 4) (digest : List Byte) (s : State) : Ans := .next (s.anchorWrite slot digest).2

/-- R516: anchors revoked; the one in use for the running SVF cannot be. -/
def State.anchorRevoke (s : State) (w : Nat) : FCode × State :=
  if Nat.land (w % 16) s.fw.svfAnchors ≠ 0 ∧ s.fw.accepted 1 then (.valueRange, s)
  else (.ok, s.modCtg fun c => { c with fwRevoked := c.fwRevoked ||| w % 16, anchorsRevoked := c.anchorsRevoked ||| w / 16 % 16 })

def execAnchorRevoke (w : Byte) (s : State) : Ans := .next (s.anchorRevoke w.toNat).2

/-- R516: a write of 1 blows the fuse; a write of 0 does nothing. -/
def execApprovedFuse (w : Bool) (s : State) : Ans := .next (if w then s.modCtg fun c => { c with fuse := true } else s)

end Sys2Proof.Machine
end

