-- ==== Sys2Proof/Machine/Clocks.lean ====
section
/-!
DEFINITION. The commands of clocks, steps, margins and temperatures (spec 22), and the temperatures of stacks (11 R326).
-/
namespace Sys2Proof.Machine

/-! Steps (R576 to R579) -/

/-- R576: the ceiling and the floor of a site, as step codes. -/
def State.ceilOf (s : State) (x : Nat) : Nat := stepCode (Nat.min (s.obj 0x2200 0) s.maxStep) - (s.gaz.site x).derate
def State.floorCode (s : State) : Nat := stepCode (s.obj 0x2201 0)

/-- R589: the target that the Surveyor writes to every site: object 0x2203 less the panel reduction, which takes none below the floor. -/
def State.targetCode (s : State) : Nat :=
  let t := Nat.min 10 (stepCode (s.obj 0x2203 0))
  Nat.min t (Nat.max s.floorCode (t - s.clk.cut))

/-- R593: CLK_STAT of a site. -/
def State.clkStat (s : State) (x : Nat) : Nat :=
  let k := s.clk.site x
  k.statWord k.target (s.ceilOf x) s.floorCode

/-- R595: THM_PSTAT. -/
def State.thmPstat (s : State) : Nat :=
  s.clk.pstat s.gaz.siteIn ((List.range 48).filter fun k => (s.gaz.stack k).status == 0 && (s.stk k).band == 2).length

def State.retarget (s : State) : State :=
  let t := s.targetCode
  s.modClk fun k => s.gaz.sitesIn.foldl (fun k x => k.modSite x fun y => { y with target := t }) k

/-- R565, R557: the set-points of a site's powered domains move to those of a step. -/
def State.setPoints (s : State) (x step : Nat) : State :=
  s.modPwr fun p => (span (8 * x) 8).foldl (fun p c => if (p.dom c).state = 3 then p.modDom c fun d => { d with setp := setPoint step d.trim } else p) p

/-- R569, R557: a written override of 0x5500 takes effect at a step change. -/
def State.overrideTrims (s : State) (x : Nat) : State :=
  s.modPwr fun p => (span (8 * x) 8).foldl (fun p c =>
    let v := s.obj 0x5500 c
    if v = 0x80 then p else p.modDom c fun d => { d with trim := if v < 128 then (v : Int) else (v : Int) - 256 }) p

/-- R576 to R578: a site's running step computed; where it differs and no change is in progress, one starts: the idle PLL is programmed, and
on a rising step the set-points begin to rise (R565). -/
def State.recompute (s : State) (x : Nat) : State :=
  let k := s.clk.site x
  let want := wantStep k.target (s.ceilOf x) s.floorCode k.tcap k.mcap k.band k.marginBelow
  if !s.gaz.siteIn x || k.chg.isSome || want = k.cur || !(k.plla || k.pllb) then s
  else
    let s1 := s.overrideTrims x
    let s2 := s1.modClk fun c => c.modSite x fun y =>
      { y with chg := some (want, false), plla := y.plla && !y.act, pllb := y.pllb && y.act }
    if k.cur < want then s2.setPoints x want else s2

/-- R576: a value has changed, or a sample was taken. -/
def execStepRecompute (site : SiteId) (s : State) : Ans := .next (s.recompute site)

/-- R577 steps 2 to 4: the idle PLL has locked and the voltages are ready: the clock switches; on a falling step the set-points fall. -/
def execStepRelockDone (site : SiteId) (s : State) : Ans :=
  .next (
    match (s.clk.site site).chg with
    | some (n, false) =>
      let old := (s.clk.site site).cur
      let s1 := s.modClk fun c => c.modSite site fun y =>
        { y with act := !y.act, plla := y.plla || y.act, pllb := y.pllb || !y.act, cur := n, chg := some (n, true) }
      if n < old then s1.setPoints site n else s1
    | _ => s)

/-- R577 step 5, R578: the set-points are settled: the change is complete, and the step is computed afresh. -/
def execSetpointSettled (site : SiteId) (s : State) : Ans :=
  .next (
    match (s.clk.site site).chg with
    | some (_, true) =>
      let s1 := s.modClk fun c => c.modSite site fun y => { y with chg := none, chgCount := satAdd 0xFFFFFFFF y.chgCount 1 }
      let s2 := s1.modPwr fun p => (span (8 * site.val) 8).foldl (fun p c => p.modDom c fun d => if d.state = 3 then { d with vmin := d.setp } else d) p
      s2.recompute site
    | _ => s)

/-- R574: the driving PLL loses lock; the other takes over, locked at the same step, or (`other` false) cannot. -/
def execPllLockLoss (site : SiteId) (other : Bool) (s : State) : Ans :=
  .next (
    let k := s.clk.site site
    if !(if k.act then k.pllb else k.plla) then s
    else
      (s.modClk fun c => c.modSite site fun y =>
        if other then { y with plla := y.act, pllb := !y.act, act := !y.act, clkloss := true }
        else { y with plla := false, pllb := false, clkloss := true, noPllSince := some s.now }) |> fun s => s.raise .clockLoss site 0 (s.clkStat site))

/-- R574: no locked PLL for 100 µs: the clusters stop, and the site is masked with NO_LINK. -/
def execPllNoneTimeout (site : SiteId) (s : State) : Ans :=
  .next (
    match (s.clk.site site).noPllSince with
    | some t =>
      if s.now < t + 100000 then s
      else
        let s1 := (span (8 * site.val) 8).foldl (fun s c => s.modCl c Cluster.halt) (s.modClk fun c => c.modSite site fun y => { y with noPllSince := none })
        s1.retireUnit 3 (.site site) 1 8
    | none => s)

/-! Temperatures (R583 to R587) -/

/-- R587: the last temperature of a unit. -/
def State.tempOf (s : State) (u : Nat) : Int := if u < 192 then (s.clk.site u).temp else Tbl.get 0 s.clk.temps u

/-- R587: every unit stands 10 °C below its hard limit; the time since when is kept while THERM_TRIP_N is low. -/
def State.coolCheck (s : State) : State :=
  let us := span 0 240 ++ span 0x100 36 ++ span 0x140 4
  if !s.clk.trip then s
  else if us.all fun u => decide (s.tempOf u + degC 10 ≤ hardLimit u) then
    s.modClk fun k => { k with coolSince := k.coolSince.or (some s.now) }
  else s.modClk fun k => { k with coolSince := none }

/-- R587: a unit's temperature against its hard limit: THERM_TRIP_N. -/
def State.tripCheck (s : State) (u : Nat) (t : Int) : State :=
  let (k, newly) := s.clk.tripAt u t
  let s1 := { s with clk := k }
  (if newly then (s1.modBoot fun b => { b with tripLow := true }).raise .thermTrip u 0 s1.thmPstat else s1).coolCheck

/-- R585, R586, R595: a unit leaves service for its temperature. -/
def State.thermalOut (s : State) (u : GUnit) (st : Nat) : State :=
  if transitionOk u (s.gaz.status u) (s.gaz.reason u) st 3 false then
    (s.modClk fun k => { k with oos := satAdd 255 k.oos 1 }).retireUnit 3 u st 3
  else s

/-- R583: the sample of a unit's sensors other than a compute die's: a sensor bad four times in a row is dropped; the highest good
reading is the unit's temperature. -/
def Clocks.sampleUnit (k : Clocks) (u : Nat) (ts : List (Option Int)) : Clocks × Option Int :=
  let k1 := (List.range ts.length).foldl (fun (k : Clocks) i =>
    let key := u * 32 + i
    if k.sensDropped.contains key then k
    else if sensorBad (ts[i]?).join then
      let n := Tbl.get 0 k.sensBad key + 1
      { k with sensBad := Tbl.set k.sensBad key n, sensDropped := if n ≥ 4 then key :: k.sensDropped else k.sensDropped }
    else { k with sensBad := Tbl.erase k.sensBad key }) k
  let good := (List.range ts.length).filterMap fun i =>
    if k1.sensDropped.contains (u * 32 + i) || sensorBad (ts[i]?).join then none else (ts[i]?).join
  match good with
  | [] => (k1, none)
  | t :: r =>
    let top := r.foldl (fun (a b : Int) => if a < b then b else a) t
    ({ k1 with temps := Tbl.set k1.temps u top }, some top)

/-- R583, R584, R587: a compute die's sample of its 20 sensors, in 1/16 °C, none where the parity fails. -/
def execDieTemperatureSample (site : SiteId) (ts : List (Option Int)) (s : State) : Ans :=
  .next (
    if 1 < (s.gaz.site site).status then s
    else
      let s1 := s.modClk fun k => k.modSite site fun x => x.sample ts
      let x := s1.clk.site site
      if x.inUse.length < 10 then s1.thermalOut (.site site) 1
      else match x.hottest with
        | none => s1
        | some (i, t) =>
          let s2 := s1.modClk fun k => k.modSite site fun y =>
            { y with temp := t, hotsen := i, tripped := decide (hardLimit site.val ≤ t), max := some (match y.max with | some m => if m < t then t else m | none => t) }
          let s3 := s2.tripCheck site.val t
          if (s.gaz.site site).status ≠ 0 ∨ x.band = 3 then s3
          else
            let (y, ev) := (s3.clk.site site).bandStep s.now s.floorCode (s.ceilOf site.val) t
            let s4 := s3.modClk fun k => k.modSite site fun _ => y
            if ev = 3 then (s4.raise .thermOut site 0 y.thmWord).thermalOut (.site site) 1
            else
              let s5 := if ev = 1 then s4.raise .thermThrottle site 0 y.thmWord
                else if ev = 2 then s4.raise .thermBelowFloor site 0 y.thmWord else s4
              s5.recompute site)

/-- R583: the first sensor in use of a unit that reads `t`. -/
def Clocks.sensorAt (k : Clocks) (u : Nat) (ts : List (Option Int)) (t : Int) : Nat :=
  ((List.range ts.length).find? fun i => !k.sensDropped.contains (u * 32 + i) && (ts[i]?).join == some t).getD 0

/-- 11 R336, log entry 75: the die that a stack's sensor stands on: sensors 0 to 11 on DRAM dies 1 to 12, 12 to 15 on the base die. -/
def dieOfSensor (i : Nat) : Nat := if i < 12 then i + 1 else 0

/-- 11 R326, R336, R585, R587: a stack's sample of its 16 sensors at a tick; at 105 °C it is masked. -/
def execStackTemperatureSample (k : StackId) (ts : List (Option Int)) (s : State) : Ans :=
  .next (
    if 1 < (s.gaz.stack k).status then s
    else match s.clk.sampleUnit (192 + k) ts with
      | (c, none) => { s with clk := c }
      | (c, some t) =>
        let s1 := (({ s with clk := c }).modStk k fun x => { x with temp := t, band := nextBand x.band t, hotdie := dieOfSensor (c.sensorAt (192 + k) ts t) }).tripCheck (192 + k) t
        if degC 105 ≤ t ∧ (s.gaz.stack k).status = 0 then (s1.raise .thermOut (192 + k) 0 0).thermalOut (.stack k) 1 else s1)

/-- R586, R587: an optical engine's sample of its two sensors; at 85 °C it is retired. -/
def execEngineTemperatureSample (n : EngineId) (ts : List (Option Int)) (s : State) : Ans :=
  .next (
    if 1 < (s.gaz.engine n).status then s
    else match s.clk.sampleUnit (0x100 + n) ts with
      | (c, none) => { s with clk := c }
      | (c, some t) =>
        let s1 := ({ s with clk := c }).tripCheck (0x100 + n) t
        if degC 85 ≤ t ∧ (s.gaz.engine n).status ≤ 1 then (s1.raise .thermOut (0x100 + n) 0 0).thermalOut (.engine n) 4 else s1)

/-- R583, R587, 24 R619: a Surveyor or host-port die's sample of its four sensors; a Surveyor die that reaches 110 °C or falls below
-10 °C zeroizes the panel with cause 5. -/
def execSurveyorDieTemperatureSample (d : Fin 4) (ts : List (Option Int)) (s : State) : Ans :=
  .next (
    let outside (t : Int) : Bool := decide (degC 110 ≤ t ∨ t < degC (-10))
    match s.clk.sampleUnit (0x140 + d) ts with
    | (c, none) => { s with clk := c }
    | (c, some t) =>
      let s1 := ({ s with clk := c }).tripCheck (0x140 + d) t
      if d.val < 2 && outside t && !outside (s.tempOf (0x140 + d)) then s1.zeroize 5 else s1)

/-- R587: THERM_TRIP_N is released once every unit has stood 10 °C below its hard limit for 1 s. -/
def execThermTripRelease (s : State) : Ans :=
  .next (
    match s.clk.coolSince with
    | some t =>
      if s.clk.trip && decide (t + 1000000000 ≤ s.now) then
        (s.modClk fun k => { k with trip := false, coolSince := none }).modBoot fun b => { b with tripLow := false }
      else s
    | none => s)

/-! Margins (R580, R582) -/

/-- R580: the margin of domain `n`: the least slack of its four replica paths. -/
def marginOf (slacks : List Byte) (n : Nat) : Nat :=
  (List.range 4).foldl (fun m i => Nat.min m ((slacks.getD (4 * n + i) 255).toNat)) 255

/-- R582: voltage can rise no further in a domain. -/
def Dom.atTop (d : Dom) : Bool := decide (30 ≤ d.trim ∨ 900 ≤ d.setp)

/-- R582 row 1: the trim of domain `n` rises by 5 mV, at most once per 100 µs. -/
def State.raiseTrim (s : State) (x n : Nat) : State :=
  let c := 8 * x + n
  let g := (s.clk.site x).mg n
  let due := match g.lastRaise with | some t => decide (t + 100000 ≤ s.now) | none => true
  if !due then s
  else
    (s.modPwr fun p => p.modDom c fun d =>
      let t : Int := if d.trim + 5 ≤ 30 then d.trim + 5 else 30
      { d with trim := t, setp := setPoint (s.clk.site x).cur t }).modClk fun k => k.modSite x fun y =>
        { y with marg := Tbl.mod {} y.marg n fun g => { g with lastRaise := some s.now } }

/-- R582 rows 2, 3 and 5, as they bear on the site's cap: `top` that a warning domain is at its top, `crit` that a critical one is, `good`
that every domain stands at twice WARN. The answer tells whether MARGIN_LOW is logged. -/
def ClkSite.marginCap (y : ClkSite) (now floor ceil : Nat) (top crit good : Bool) : ClkSite × Bool :=
  if crit && decide (y.cur ≤ floor) then
    let m := y.cur - 1
    ({ y with mcap := some m, marginBelow := true, lastMcap := some now, goodSince := none }, decide (y.mcap ≠ some m) || !y.marginBelow)
  else if top && (match y.lastMcap with | some t => decide (t + 1000000 ≤ now) | none => true) then
    ({ y with mcap := some (Nat.max floor (y.cur - 1)), lastMcap := some now, goodSince := none }, false)
  else if !good then ({ y with goodSince := none }, false)
  else match y.goodSince with
    | none => ({ y with goodSince := some now }, false)
    | some t =>
      if now < t + 100000000 then (y, false)
      else match y.mcap with
        | none => (y, false)
        | some m =>
          ({ y with mcap := if m + 1 ≥ ceil then none else some (m + 1), marginBelow := y.marginBelow && decide (m + 1 < floor), goodSince := some now }, false)

/-- R580, R582: a sample of the site's 32 replica paths. -/
def execMarginSample (site : SiteId) (slacks : List Byte) (s : State) : Ans :=
  .next (
    let x := site.val
    let warn := s.obj 0x5600 0
    let ds := (List.range 8).filter fun n => (s.pwr.dom (8 * x + n)).state == 3
    if !s.gaz.siteIn x then s
    else
      let slow := decide ((s.clk.site x).cur = 0)
      let s1 := s.modClk fun k => k.modSite x fun y => { y with marg := ds.foldl (fun t n =>
        let m := marginOf slacks n
        Tbl.mod {} t n fun g =>
          { g with margin := m, warn := g.warn || decide (m < warn), crit := g.crit || decide (m < 8)
                   critSince := if m < 8 ∧ slow then g.critSince.or (some s.now) else none }) y.marg }
      let warning := ds.filter fun n => decide (marginOf slacks n < warn)
      let atTop (n : Nat) : Bool := (s.pwr.dom (8 * x + n)).atTop
      let s2 := (warning.filter fun n => !atTop n).foldl (fun s n => s.raiseTrim x n) s1
      let (y, low) := (s2.clk.site x).marginCap s.now s.floorCode (s.ceilOf x) (warning.any atTop)
        (warning.any fun n => decide (marginOf slacks n < 8) && atTop n) (ds.all fun n => decide (2 * warn ≤ marginOf slacks n))
      let s3 := s2.modClk fun k => k.modSite x fun _ => y
      let s4 := if low then s3.raise .marginLow x 0 (((warning.filter fun n => decide (marginOf slacks n < 8) && atTop n).map fun n => (y.mg n).word).headD 0) else s3
      let dead := ds.filter fun n => match ((s4.clk.site x).mg n).critSince with
        | some t => decide (t + 1000000 ≤ s.now)
        | none => false
      let s5 := dead.foldl (fun s n => if h : 8 * x + n < 1536 then s.domainFault ⟨8 * x + n, h⟩ else s) s4
      s5.recompute x)

/-! The power manager (R547, R589) -/

/-- R589: whether the reduction holds every site at the floor. -/
def State.allAtFloor (s : State) : Bool := s.targetCode == Nat.min s.floorCode (Nat.min 10 (stepCode (s.obj 0x2203 0)))

/-- R547, R589: the input measured at a tick, and the panel reduction adjusted; while the power and thermal manager is stopped (19 R531)
the reduction stands. 0x2500 shows the temperatures of the tick. -/
def execPowerManagerCheck (pin vin : Word32) (s : State) : Ans :=
  .next (
    let p := pin.toNat
    let s1 := (s.modPwr fun q => { q with pin := p, vin := vin.toNat }).modClk fun k =>
      { k with snapTemps := (span 0 240).map fun u => (u, s.tempOf u) }
    let limit := s.obj 0x5501 0
    if (s.fw.comp 2).state ≠ 1 then s1
    else if p > limit then
      let n := s.clk.above + 1
      if n < 10 then s1.modClk fun k => { k with above := n, below := 0 }
      else
        let s2 := s1.modClk fun k => { k with above := 0, below := 0 }
        if s.allAtFloor then s2.raiseSv .powerLimit 0xFFFF 0 0
        else (s2.modClk fun k => { k with cut := k.cut + 1 }).retarget
    else if 100 * p < 95 * limit then
      let n := s.clk.below + 1
      if n < 100 then s1.modClk fun k => { k with above := 0, below := n }
      else (s1.modClk fun k => { k with above := 0, below := 0, cut := k.cut - 1 }).retarget
    else s1.modClk fun k => { k with above := 0, below := 0 })

/-! Read-clear registers (R593, R594) -/

def execClkChgRead (site : SiteId) (s : State) : Ans := .next (s.modClk fun k => k.modSite site fun y => { y with chgCount := 0 })
def execThmMaxRead (site : SiteId) (s : State) : Ans := .next (s.modClk fun k => k.modSite site fun y => { y with max := none })

end Sys2Proof.Machine
end

