-- ==== Sys2Proof/Machine/Scalar.lean ====
section
/-!
DEFINITION. The meanings of the scalar-slot operations of a sequencer and of an SX thread (spec 05 R150 to R158, 06 R163 to R166,
07 R197 to R205), but for moves and gathers.
-/
namespace Sys2Proof.Machine

/-- The cluster number of a site's SX cluster (01 R22). -/
def sxOf (site : Nat) : Nat := site * 8 + 7

/-- R159 to R166, R199: a scalar-slot word issued alone by the sequencer of cluster `c`: held by its
store buffer or a Weir range, refused with its trap, or given its effect. The program counter moves only by a transfer; BUNDLE_ISSUE moves it past
a bundle. -/
def scalarWord (c : ClusterId) (w : Word32) (s : State) : State :=
  let k := s.cl c
  match scalarIllegal (clusterKind c) w with
  | some sub => s.enterTrap c .illegalBundle sub
  | none =>
    if scalarHeld k w then s
    else if k.spd.weirStalls (scalarExtents k.sq w) then s.modCl c fun k => { k with spd := k.spd.noteStall }
    else match scalarRefuse k.sq w with
      | some (cause, sub) => s.enterTrap c cause sub
      | none => s.modCl c fun k => scalarExec (clusterKind c) (s.merCopy (c / 8)) (s.dieCount (c / 8)) k k w

/-- R151, R152, R153, R158, R201: a scalar-slot word issued by a thread: an SXFENCE or a GWAIT before it holds it, a fault stops the thread,
an interlock holds it. A transfer alone moves its program counter; SX_GROUP_ISSUE moves it past an operation. -/
def threadWord (site : SiteId) (t : ThreadId) (w : Word32) (s : State) : State :=
  let c := sxOf site
  if !(s.cl c).holdOver t then s
  else match thrGate (s.cl c) t w with
  | .fault code => (s.modCl c fun k => k.sxFault t code (k.thread t).pc).raise .sxFault site 7 0
  | .held => s.modCl c fun k => k.thrStall t w
  | .go => s.modCl c fun k =>
      let k1 := thrExec (k.modThread t fun h => { h with hold := .none }) t w
      match thrTarget (k.thread t) (decScalar w) with
      | some x => k1.modThread t fun h => { h with pc := x.toNat }
      | none => k1

/-- A scalar-slot word by either kind of issuer. -/
def scalarRow (ag : Agent) (w : Word32) (s : State) : Ans :=
  match ag with
  | .seq c => .next (scalarWord c w s)
  | .thr site t => .next (threadWord site t w s)

/-- R198, R164: ADD, SOP 0x01. -/
def execAdd (ag : Agent) (rd rs1 rs2 : Reg) (s : State) : Ans :=
  scalarRow ag (encR 0x01 rd rs1 rs2) s

/-- R198, R164: SUB, SOP 0x02. -/
def execSub (ag : Agent) (rd rs1 rs2 : Reg) (s : State) : Ans :=
  scalarRow ag (encR 0x02 rd rs1 rs2) s

/-- R198, R164: AND, SOP 0x03. -/
def execAnd (ag : Agent) (rd rs1 rs2 : Reg) (s : State) : Ans :=
  scalarRow ag (encR 0x03 rd rs1 rs2) s

/-- R198, R164: OR, SOP 0x04. -/
def execOr (ag : Agent) (rd rs1 rs2 : Reg) (s : State) : Ans :=
  scalarRow ag (encR 0x04 rd rs1 rs2) s

/-- R198, R164: XOR, SOP 0x05. -/
def execXor (ag : Agent) (rd rs1 rs2 : Reg) (s : State) : Ans :=
  scalarRow ag (encR 0x05 rd rs1 rs2) s

/-- R198, R164: SHL, SOP 0x06. -/
def execShl (ag : Agent) (rd rs1 rs2 : Reg) (s : State) : Ans :=
  scalarRow ag (encR 0x06 rd rs1 rs2) s

/-- R198, R164: SHR, SOP 0x07. -/
def execShr (ag : Agent) (rd rs1 rs2 : Reg) (s : State) : Ans :=
  scalarRow ag (encR 0x07 rd rs1 rs2) s

/-- R198, R164: SRA, SOP 0x08. -/
def execSra (ag : Agent) (rd rs1 rs2 : Reg) (s : State) : Ans :=
  scalarRow ag (encR 0x08 rd rs1 rs2) s

/-- R198, R164: MUL, SOP 0x09. -/
def execMul (ag : Agent) (rd rs1 rs2 : Reg) (s : State) : Ans :=
  scalarRow ag (encR 0x09 rd rs1 rs2) s

/-- R198, R164: MULHU, SOP 0x0A. -/
def execMulhu (ag : Agent) (rd rs1 rs2 : Reg) (s : State) : Ans :=
  scalarRow ag (encR 0x0A rd rs1 rs2) s

/-- R198, R164: MIN, SOP 0x0B. -/
def execMin (ag : Agent) (rd rs1 rs2 : Reg) (s : State) : Ans :=
  scalarRow ag (encR 0x0B rd rs1 rs2) s

/-- R198, R164: MAX, SOP 0x0C. -/
def execMax (ag : Agent) (rd rs1 rs2 : Reg) (s : State) : Ans :=
  scalarRow ag (encR 0x0C rd rs1 rs2) s

/-- R198, R164: SLT, SOP 0x0D. -/
def execSlt (ag : Agent) (rd rs1 rs2 : Reg) (s : State) : Ans :=
  scalarRow ag (encR 0x0D rd rs1 rs2) s

/-- R198, R164: SLTU, SOP 0x0E. -/
def execSltu (ag : Agent) (rd rs1 rs2 : Reg) (s : State) : Ans :=
  scalarRow ag (encR 0x0E rd rs1 rs2) s

/-- R198, R164: ADDI, SOP 0x0F. -/
def execAddi (ag : Agent) (rd rs1 : Reg) (imm : Half) (s : State) : Ans :=
  scalarRow ag (encI 0x0F rd rs1 imm) s

/-- R198, R164: ANDI, SOP 0x10. -/
def execAndi (ag : Agent) (rd rs1 : Reg) (imm : Half) (s : State) : Ans :=
  scalarRow ag (encI 0x10 rd rs1 imm) s

/-- R198, R164: ORI, SOP 0x11. -/
def execOri (ag : Agent) (rd rs1 : Reg) (imm : Half) (s : State) : Ans :=
  scalarRow ag (encI 0x11 rd rs1 imm) s

/-- R198, R164: XORI, SOP 0x12. -/
def execXori (ag : Agent) (rd rs1 : Reg) (imm : Half) (s : State) : Ans :=
  scalarRow ag (encI 0x12 rd rs1 imm) s

/-- R198, R164: SHLI, SOP 0x13. -/
def execShli (ag : Agent) (rd rs1 : Reg) (imm : Half) (s : State) : Ans :=
  scalarRow ag (encI 0x13 rd rs1 imm) s

/-- R198, R164: SHRI, SOP 0x14. -/
def execShri (ag : Agent) (rd rs1 : Reg) (imm : Half) (s : State) : Ans :=
  scalarRow ag (encI 0x14 rd rs1 imm) s

/-- R198, R164: SRAI, SOP 0x15. -/
def execSrai (ag : Agent) (rd rs1 : Reg) (imm : Half) (s : State) : Ans :=
  scalarRow ag (encI 0x15 rd rs1 imm) s

/-- R198, R164: LIH, SOP 0x16. -/
def execLih (ag : Agent) (rd : Reg) (imm : Half) (s : State) : Ans :=
  scalarRow ag (encI 0x16 rd 0 imm) s

/-- R203, R164: FADD, SOP 0x17. -/
def execFadd (ag : Agent) (rd rs1 rs2 : Reg) (s : State) : Ans :=
  scalarRow ag (encR 0x17 rd rs1 rs2) s

/-- R202, R164: FSUB, SOP 0x18. -/
def execFsub (ag : Agent) (rd rs1 rs2 : Reg) (s : State) : Ans :=
  scalarRow ag (encR 0x18 rd rs1 rs2) s

/-- R203, R164: FMUL, SOP 0x19. -/
def execFmul (ag : Agent) (rd rs1 rs2 : Reg) (s : State) : Ans :=
  scalarRow ag (encR 0x19 rd rs1 rs2) s

/-- R204, R164: FMIN, SOP 0x1A. -/
def execFmin (ag : Agent) (rd rs1 rs2 : Reg) (s : State) : Ans :=
  scalarRow ag (encR 0x1A rd rs1 rs2) s

/-- R204, R164: FMAX, SOP 0x1B. -/
def execFmax (ag : Agent) (rd rs1 rs2 : Reg) (s : State) : Ans :=
  scalarRow ag (encR 0x1B rd rs1 rs2) s

/-- R204, R164: FCMPLT, SOP 0x1C. -/
def execFcmplt (ag : Agent) (rd rs1 rs2 : Reg) (s : State) : Ans :=
  scalarRow ag (encR 0x1C rd rs1 rs2) s

/-- R204, R164: FCMPEQ, SOP 0x1D. -/
def execFcmpeq (ag : Agent) (rd rs1 rs2 : Reg) (s : State) : Ans :=
  scalarRow ag (encR 0x1D rd rs1 rs2) s

/-- R205, R164: FCVTIF, SOP 0x1E. -/
def execFcvtif (ag : Agent) (rd rs1 : Reg) (s : State) : Ans :=
  scalarRow ag (encR 0x1E rd rs1 0) s

/-- R205, R164: FCVTFI, SOP 0x1F. -/
def execFcvtfi (ag : Agent) (rd rs1 : Reg) (s : State) : Ans :=
  scalarRow ag (encR 0x1F rd rs1 0) s

/-- R199, R164: LD, SOP 0x20. -/
def execLd (ag : Agent) (rd rs1 : Reg) (imm : Half) (s : State) : Ans :=
  scalarRow ag (encI 0x20 rd rs1 imm) s

/-- R199, R164: ST, SOP 0x21. -/
def execSt (ag : Agent) (rd rs1 : Reg) (imm : Half) (s : State) : Ans :=
  scalarRow ag (encI 0x21 rd rs1 imm) s

/-- R200, R164: CSRR, SOP 0x22. -/
def execCsrr (c : ClusterId) (rd : Reg) (csr : Half) (s : State) : Ans :=
  .next (scalarWord c (encI 0x22 rd 0 csr) s)

/-- R200, R164: CSRW, SOP 0x23. -/
def execCsrw (c : ClusterId) (rs1 : Reg) (csr : Half) (s : State) : Ans :=
  .next (scalarWord c (encI 0x23 0 rs1 csr) s)

/-- R200, R164: CSRS, SOP 0x24. -/
def execCsrs (c : ClusterId) (rs1 : Reg) (csr : Half) (s : State) : Ans :=
  .next (scalarWord c (encI 0x24 0 rs1 csr) s)

/-- R200, R164: CSRC, SOP 0x25. -/
def execCsrc (c : ClusterId) (rs1 : Reg) (csr : Half) (s : State) : Ans :=
  .next (scalarWord c (encI 0x25 0 rs1 csr) s)

/-- R164, R164: TDW, SOP 0x26. -/
def execTdw (c : ClusterId) (td rs1 rs2 : Reg) (s : State) : Ans :=
  .next (scalarWord c (encR 0x26 td rs1 rs2) s)

/-- R164, R164: TDRL, SOP 0x27. -/
def execTdrl (c : ClusterId) (rd td : Reg) (s : State) : Ans :=
  .next (scalarWord c (encR 0x27 rd td 0) s)

/-- R164, R164: TDRH, SOP 0x28. -/
def execTdrh (c : ClusterId) (rd td : Reg) (s : State) : Ans :=
  .next (scalarWord c (encR 0x28 rd td 0) s)

/-- R166, R164: JMP, SOP 0x29. -/
def execJmp (ag : Agent) (off : BitVec 26) (s : State) : Ans :=
  scalarRow ag (encJ 0x29 off) s

/-- R166, R164: LOOP, SOP 0x2A. -/
def execLoop (ag : Agent) (rd : Reg) (imm : Half) (s : State) : Ans :=
  scalarRow ag (encI 0x2A rd 0 imm) s

/-- R175, R164: SYNC, SOP 0x2B. -/
def execSync (c : ClusterId) (rs1 rs2 : Reg) (s : State) : Ans :=
  .next (scalarWord c (encR 0x2B 0 rs1 rs2) s)

/-- R198, R164: WAITC, SOP 0x2C. -/
def execWaitc (ag : Agent) (rs1 : Reg) (s : State) : Ans :=
  scalarRow ag (encR 0x2C 0 rs1 0) s

/-- R180, R164: TRET, SOP 0x2E. -/
def execTret (c : ClusterId) (s : State) : Ans :=
  .next (scalarWord c (encR 0x2E 0 0 0) s)

/-- R164, R164: SQEND, SOP 0x2F. -/
def execSqend (c : ClusterId) (s : State) : Ans :=
  .next (scalarWord c (encR 0x2F 0 0 0) s)

/-- R201, R164: BEQ, SOP 0x30. -/
def execBeq (site : SiteId) (t : ThreadId) (rd rs1 : Reg) (imm : Half) (s : State) : Ans :=
  .next (threadWord site t (encI 0x30 rd rs1 imm) s)

/-- R201, R164: BNE, SOP 0x31. -/
def execBne (site : SiteId) (t : ThreadId) (rd rs1 : Reg) (imm : Half) (s : State) : Ans :=
  .next (threadWord site t (encI 0x31 rd rs1 imm) s)

/-- R201, R164: BLT, SOP 0x32. -/
def execBlt (site : SiteId) (t : ThreadId) (rd rs1 : Reg) (imm : Half) (s : State) : Ans :=
  .next (threadWord site t (encI 0x32 rd rs1 imm) s)

/-- R201, R164: BGE, SOP 0x33. -/
def execBge (site : SiteId) (t : ThreadId) (rd rs1 : Reg) (imm : Half) (s : State) : Ans :=
  .next (threadWord site t (encI 0x33 rd rs1 imm) s)

/-- R201, R164: JR, SOP 0x34. -/
def execJr (site : SiteId) (t : ThreadId) (rs1 : Reg) (s : State) : Ans :=
  .next (threadWord site t (encR 0x34 0 rs1 0) s)

/-- R201, R164: LDX, SOP 0x35. -/
def execLdx (site : SiteId) (t : ThreadId) (rd rs1 : Reg) (size : BitVec 2) (off : BitVec 14) (s : State) : Ans :=
  .next (threadWord site t (encI 0x35 rd rs1 (size ++ off)) s)

/-- R201, R164: STX, SOP 0x36. -/
def execStx (site : SiteId) (t : ThreadId) (rd rs1 : Reg) (size : BitVec 2) (off : BitVec 14) (s : State) : Ans :=
  .next (threadWord site t (encI 0x36 rd rs1 (size ++ off)) s)

/-- R201, R164: AMOADD, SOP 0x37. -/
def execAmoadd (site : SiteId) (t : ThreadId) (rd rs1 xs : Reg) (wide : Bool) (s : State) : Ans :=
  .next (threadWord site t (encI 0x37 rd rs1 (BitVec.ofNat 16 (fld 11 xs.toNat + flg 10 wide))) s)

/-- R201, R164: AMOMAX, SOP 0x38. -/
def execAmomax (site : SiteId) (t : ThreadId) (rd rs1 xs : Reg) (wide : Bool) (s : State) : Ans :=
  .next (threadWord site t (encI 0x38 rd rs1 (BitVec.ofNat 16 (fld 11 xs.toNat + flg 10 wide))) s)

/-- R201, R164: CAS, SOP 0x39. -/
def execCas (site : SiteId) (t : ThreadId) (rd rs1 xs : Reg) (wide : Bool) (s : State) : Ans :=
  .next (threadWord site t (encI 0x39 rd rs1 (BitVec.ofNat 16 (fld 11 xs.toNat + flg 10 wide))) s)

/-- R152, R164: SXFENCE, SOP 0x3A. -/
def execSxfence (site : SiteId) (t : ThreadId) (s : State) : Ans :=
  .next (threadWord site t (encR 0x3A 0 0 0) s)

/-- R153, R164: GWAIT, SOP 0x3C. -/
def execGwait (site : SiteId) (t : ThreadId) (rs1 : Reg) (s : State) : Ans :=
  .next (threadWord site t (encR 0x3C 0 rs1 0) s)

/-- R157, R164: SXDONE, SOP 0x3D. -/
def execSxdone (site : SiteId) (t : ThreadId) (s : State) : Ans :=
  .next (threadWord site t (encR 0x3D 0 0 0) s)

/-- R157: SXC_TCTL.START: the thread starts at its program counter, FAULT and DONE cleared; a running thread is left. -/
def execSxThreadStart (site : SiteId) (t : ThreadId) (s : State) : Ans :=
  .next (s.modCl (sxOf site) fun k => k.modThread t Thread.start)

/-- R157: SXC_TCTL.STOP: the thread stops once its issued operations are complete: at once, or when its SXFENCE or GWAIT is over. -/
def execSxThreadStop (site : SiteId) (t : ThreadId) (s : State) : Ans :=
  .next (s.modCl (sxOf site) fun k =>
    k.modThread t fun h => if k.holdOver t then { h with run := false, stopPend := false, hold := .none } else h.askStop)

/-- R227: the oldest entry of a store buffer is written at its bank; a fence waits for the buffer to empty. Zeroization holds it (R242). -/
def execStoreBufferDrain (ag : Agent) (s : State) : Ans :=
  .next <| match ag with
  | .seq c => s.modCl c fun k =>
      match k.sq.sb with
      | [] => k
      | e :: t =>
        if k.spd.zRun then k else
        let (ue, spd) := k.spd.drain e
        let k1 := { k with spd := spd, sq := { k.sq with sb := t } }
        if ue then k1.stopAll else k1
  | .thr site t => s.modCl (sxOf site) fun k =>
      match (k.thread t).sb with
      | [] => k
      | e :: rest =>
        if k.spd.zRun then k else
        let (ue, spd) := k.spd.drain e
        let k1 := ({ k with spd := spd }).modThread t fun h => { h with sb := rest }
        if ue then k1.stopAll else k1

/-- R184: SQR_CTL.START: a stopped sequencer starts at SQR_PC and waits for the count SQR_EBASE. -/
def execSequencerStart (c : ClusterId) (s : State) : Ans := .next (s.modCl c fun k => { k with sq := k.sq.start })

/-- R175: the Meridian count has reached the deadline of a held SYNC, or an untimed SYNC's landings are in: the landings are
compared, and the SYNC passes or SCHED_OVERRUN is raised. -/
def execSyncDeadline (c : ClusterId) (s : State) : Ans :=
  .next (s.modCl c fun k => k.syncDue (s.dieCount (c / 8)))

end Sys2Proof.Machine
end

