-- ==== Sys2Proof/Machine/Compute.lean ====
section
/-!
DEFINITION. The meanings of the move-slot operations, bundle and group issue, gathers, and the scratchpad's own events (spec 05 R151 to
R154, 06 R159 to R174, 08 R231 to R248, 15 R448).
-/
namespace Sys2Proof.Machine

/-- R169: DMA_RD, MVOP 1. -/
def execDmaRd (c : ClusterId) (gd : Reg) (lcls : BitVec 5) (s : State) : Ans := .next (moveRow c (encMove 1 gd lcls.toNat 0) s)
/-- R169: DMA_WR, MVOP 2. -/
def execDmaWr (c : ClusterId) (gd : Reg) (lcls : BitVec 5) (s : State) : Ans := .next (moveRow c (encMove 2 gd lcls.toNat 0) s)
/-- R169: DSEND, MVOP 3. -/
def execDsend (c : ClusterId) (gd : Reg) (lcls : BitVec 5) (s : State) : Ans := .next (moveRow c (encMove 3 gd lcls.toNat 0) s)
/-- R169: SSEND, MVOP 4. -/
def execSsend (c : ClusterId) (gd : Reg) (lcls : BitVec 5) (cut : BitVec 3) (s : State) : Ans :=
  .next (moveRow c (encMove 4 gd lcls.toNat cut.toNat) s)

/-- R174: a move's last byte is written and readable, and acknowledged; `data` are the bytes that came from host memory or a peer. -/
def execMoveComplete (c : ClusterId) (tag : Nat) (data : List Byte) (poison : Bool) (s : State) : Ans := .next (s.completeMove c tag data poison)

/-- R174: a timed move's timer expires first: SCHED_OVERRUN with sub-code 0x03. -/
def execMoveTimerExpiry (c : ClusterId) (tag : Nat) (s : State) : Ans :=
  .next (s.modCl c fun k =>
    match k.sq.moves.find? fun m => m.tag == tag && m.timer.isSome && !m.expired with
    | none => k
    | some m =>
      ({ k with sq := { k.sq with moves := k.sq.moves.map fun (x : Move) => if x.tag = tag then { x with expired := true } else x } }).overrun 3 m.lcls m.pc)

/-- R159 to R162: the next bundle comes to its issue point. -/
def execBundleIssue (c : ClusterId) (s : State) : Ans := .next (s.bundle c)

/-- R448: YIELD: the sequencer holds at the next bundle until its cluster is quiescent, and then stops or goes on. -/
def execYield (c : ClusterId) (imm : Half) (s : State) : Ans :=
  .next (s.modCl c fun k => ({ k with sq := { k.sq with hold := .yield imm.toNat, pc := k.sq.pc + 16 } }).resolveYield)

/-- R151: one core cycle of a site's SX threads. -/
def execSxGroupIssue (site : SiteId) (s : State) : Ans := .next (s.group site)

/-- R152, R153: GATHER, SOP 0x3B, issued alone once no SXFENCE or GWAIT before it holds its thread, and no zeroization the read of its
descriptor (08 R242); the program counter stays. -/
def execGather (site : SiteId) (t : ThreadId) (rd rs1 : Reg) (s : State) : Ans :=
  .next (if (s.cl (sxOf site)).holdOver t && !(s.cl (sxOf site)).spd.zRun then
    ((s.modCl (sxOf site) fun k => k.modThread t fun h => { h with hold := .none }).gather site t rd.toNat rs1.toNat).1 else s)

/-- R153, R154: a gather completes; `data` are the rows, in order, of a table at a peer. -/
def execGatherComplete (site : SiteId) (ticket : Nat) (data : List Byte) (s : State) : Ans := .next (s.completeGather site ticket data)

/-- R232: waiting Weir requests are granted where they can be. -/
def execWeirAllocation (c : ClusterId) (s : State) : Ans := .next (s.allocate c)

/-- R236, R237, R240: the scrubber reads a bank's next line; a column with no spare left retires the cluster. -/
def execScrubRead (c : ClusterId) (bank : Fin 96) (faults : List (Nat × BitVec 72)) (s : State) : Ans :=
  .next (
    let out := ((s.cl c).spd.scrub bank faults).2
    let s1 := s.modCl c fun k => { k with spd := (k.spd.scrub bank faults).1 }
    if out then s1.retireUnit 2 (.cluster c) 4 6 else s1)

/-- R238: at the quiescent point the next faulty column's write steering begins. -/
def execColumnRepairStart (c : ClusterId) (s : State) : Ans :=
  .next (s.modCl c fun k =>
    match k.spd.waitCols with
    | r :: t => if k.spd.repair.isSome || k.spd.zRun || !k.quiescent c then k else { k with spd := { k.spd with repair := some r, waitCols := t } }
    | [] => k)

/-- R238, R239: the copy is done; reads use the spare, and the Surveyor records the repair. -/
def execColumnRepairCopyDone (c : ClusterId) (s : State) : Ans :=
  .next (
    match (s.cl c).spd.repair with
    | none => s
    | some r =>
      let lost := (s.cl c).spd.lostWords r
      let s1 := s.modCl c fun k => { k with spd := k.spd.copied r }
      let s2 := lost.foldl (fun s off => (s.raise .columnLoss (c / 8) (c % 8) off).askVote 1) s1
      s2.applyGaz fun g => g.note ⟨s.mcount, 6, 2, c, r.bank * 16 + r.sub, 0, 0, 0, 2, r.col + fld 10 r.spare⟩)

/-- R241: zeroization of a cluster's scratchpad begins. -/
def execZeroizationStart (c : ClusterId) (s : State) : Ans :=
  .next (s.modCl c fun k => if k.zReady then { k with spd := { k.spd with zRun := true } } else k)

/-- R242, 15 R431: the passes end. A cluster that enters a partition gets its port's configuration (step 5); one whose second verify
failed is retired, in a wave of a start with START_TEST (20 R538). -/
def execZeroizationComplete (c : ClusterId) (verified : Bool) (s : State) : Ans :=
  .next (
    if !(s.cl c).spd.zRun then s
    else
      let ent := Tbl.get? s.ten.entering c
      let s1 := s.modCl c fun k => k.zeroized ent.isSome
      if verified then
        match ent with
        | none => s1.zeroDone
        | some e =>
          let p := s.ten.part e.part
          ((s1.portConfig c true p).modTen fun t =>
            { t with entering := Tbl.set t.entering c { e with step := 5 } }).zeroDone
      else
        let s2 := s1.modCl c fun k => { k with spd := { k.spd with stat := k.spd.stat ||| 0x800 } }
        ((s2.modTen fun t => { t with entering := Tbl.erase t.entering c }).retireUnit (if s.boot.part = 5 then 1 else 3) (.cluster c) 4 (if s.boot.part = 5 then 2 else 5)).zeroDone)

/-- R245: a read of SPD_CECNT or SPD_UECNT clears it. -/
def execSpdCounterRead (c : ClusterId) (uncorrected : Bool) (s : State) : Ans :=
  .next (s.modCl c fun k => { k with spd := if uncorrected then { k.spd with ueCnt := 0 } else { k.spd with ceCnt := 0 } })

/-- R248: a read of WEIR_STALL clears it. -/
def execWeirStallRead (c : ClusterId) (s : State) : Ans := .next (s.modCl c fun k => { k with spd := { k.spd with stall := 0 } })

end Sys2Proof.Machine
end

