-- ==== Sys2Proof/Machine/Delta.lean ====
section
/-!
DEFINITION. The meanings of the Delta network's events (spec 09, 15 R439, R446).
-/
namespace Sys2Proof.Machine

/-- R231, R280: the grant covers a packet: it is its initiator's, and the range that the entry granted holds takes in the packet's bytes. -/
def State.covers (s : State) (p : Packet) (g : Nat × Nat × Nat × Nat) : Bool :=
  let c := 8 * p.destUnit + p.destCluster
  let o := p.addr % 2 ^ 25
  g.1 == p.src && g.2.2.1 == c && match Tbl.get? (s.cl c).spd.weir g.2.2.2 with
    | some w => decide (w.base ≤ o ∧ o + p.len ≤ w.base + w.len)
    | none => false

/-- R231, R280: data that a host-port die, an engine or a Surveyor writes into a cluster's scratchpad waits for its Weir grant. -/
def State.ungranted (s : State) (p : Packet) : Bool :=
  !p.multicast && p.mode == 1 && p.cls == 0 && decide (p.destUnit < 192 ∧ 0x100 ≤ p.srcUnit ∧ p.len ≠ 0) && !(s.delta.grants.any (s.covers p))

/-- The bytes of a move that a packet carries, or asks for. -/
def moveBytes (p : Packet) : Nat := if p.mode = 2 then bits p.head 55 42 else p.len

/-- R176, R254, R256, R266: the packet is the next that the move engine of cluster `c` cuts: of the effective maximum but for the last, which for
DSEND and SSEND carries ACKREQ, and LAND where the move lands. A Direct packet's TAG is the move's number. -/
def Move.next (m : Move) (c maxp : Nat) (p : Packet) : Bool :=
  let left := m.length - m.sentBytes
  !m.sent && m.nak.isNone && p.src == c % 8 * 512 + c / 8 && moveBytes p == Nat.min maxp left
    && (p.mode != 1 || p.tag == m.tag % 65536)
    && (p.mode == 2 || (p.last == decide (left ≤ maxp) && p.land == (m.land && p.last) && (p.ackreq || decide (m.mvop < 3) || !p.last)))

/-- The cluster whose port a packet of a move is injected at, and the move: those of the engine of that port, its Weir range held. -/
def State.moveOf (s : State) (site port : Nat) (move : Option Nat) : Option Move :=
  move.bind fun t => if 4 ≤ port ∧ port ≤ 11 then
    (let k := s.cl (8 * site + (port - 4)); if k.spd.waits 1 t then none else k.sq.moves.find? fun (m : Move) => m.tag == t)
  else none

/-- A packet of a move has left: its bytes counted; the last records the count that its destination's ACK must cover. -/
def State.notePacket (s : State) (c : Nat) (t : Nat) (p : Packet) : State :=
  let at_ := (s.winOf p.src p.destUnit).map fun w => (p.destUnit, w.snt)
  s.modCl c fun k => { k with sq := { k.sq with moves := k.sq.moves.map fun (m : Move) =>
    if m.tag = t then
      (if m.length ≤ m.sentBytes + moveBytes p then { m with sentBytes := m.sentBytes + moveBytes p, sent := true, ackAt := at_ }
       else { m with sentBytes := m.sentBytes + moveBytes p })
    else m } }

/-- R231, R272, R281: what an injected packet leaves behind: its charge, its group's MACK to come, a grant used up by its last packet. -/
def State.noteInjected (s : State) (site port : Nat) (q : Packet) : State :=
  let s1 := s.noteEntered site port q
  if q.last && q.mode == 1 && q.cls == 0 then s1.modDelta fun d => { d with grants := d.grants.eraseP (s.covers q) } else s1

/-- R277 step 5, R278, 15 R431: at T_sw every injection point stamps the new edition, and an entry with bytes outstanding holds injection until
they are acknowledged. -/
def State.switchDue (s : State) : State :=
  let now := s.mcount
  if !(s.delta.routers.any fun (_, r) => r.due now) then s
  else
    let d := s.delta
    let s1 := s.modDelta fun x => { x.mapRouters (fun r => if r.due now then r.switch else r) with
      wins := x.wins.map fun (src, ws) => (src,
        if (d.router (s.siteOfUnit (src % 512))).due now then ws.map fun w => if w.outstanding = 0 then w else { w with oldUntil := some w.snt }
        else ws) }
    s1.partsSwitched.portsFollow

/-- 12 R355 step 1: where the first router sends a packet for a peer panel: the engine and port that its Larre table of the moment names. -/
def State.peerRouted (s : State) (q : Packet) : Option Packet :=
  if q.cls = 0 && (q.mode == 1 || (q.mode == 2 && q.op == 6)) && q.addr >>> 60 == 4 then
    (s.larre.route s.larre.cur ((q.addr >>> 44) % 65536)).map fun (n, p) => { q with route := put q.route 63 52 (p * 512 + 0x100 + n) }
  else some q

/-- R253 to R281: a port injects a packet: dropped with its NAK, held by a window, a shaper, its input buffer, an outstanding MACK or a grant
to come, dropped for want of a route to a peer panel (12 R355), or sent on its way. `move` is the tag of the move that the packet belongs to. A cluster originates no multicast packet (R257). -/
def State.inject (s : State) (site port : Nat) (p : Packet) (move : Option Nat) : State :=
  let d := (s.delta.router site).port port
  let q0 := s.takeAtPort site port p
  if port < 4 ∨ 16 ≤ port then s
  else if d.check q0 ≠ .pass then s.injectAt site port q0
  else
    let m := s.moveOf site port move
    let wrong : Bool := move.isSome && !(m.any fun m => m.next (8 * site + (port - 4)) (d.cutMax q0) q0)
    if wrong || (decide (port ≤ 11) && q0.multicast) then s
    else match s.peerRouted q0 with
      | none => (((s.modDelta fun d => d.modRouter site fun r => { r.bump 2 1 with rdrop := true }).sendNak site nakRouteCode q0).raise .nakRoute site 0 0)
      | some q =>
        if s.unitHeld site port q || s.ungranted q then s
        else match s.window q.src q.destUnit (pktCounted q) (d.effMax q.mode) (windowed q) with
          | none => s
          | some s1 =>
            let s2 := s1.noteInjected site port q
            ((match m with | some m => s2.notePacket (8 * site + (port - 4)) m.tag q | none => s2).unitFlits site port p).forwardAt site port q

def execPacketInject (site : SiteId) (port : Fin 20) (p : Packet) (move : Option Nat) (s : State) : Ans :=
  .next ((s.switchDue.inject site port p move).sendRecords site)

/-- R250, R260, R276: a packet's head arrives at a router by a port that joins another, and is forwarded by its own edition's table. -/
def execDeltaHop (site : SiteId) (port : Fin 20) (p : Packet) (s : State) : Ans :=
  .next (if meshPort port then (s.forwardAt site port p).sendRecords site else s)

/-- R231: the range that a packet's transfer holds is released with its last packet: the range of its initiator that ends with the packet's last
byte, else the first that takes it in. -/
def Spd.releaseLast (x : Spd) (p : Packet) (off : Nat) : Spd :=
  let holds (w : WeirEntry) : Bool :=
    decide (w.xfer ≥ remoteXfer) && (w.xfer - remoteXfer) / 32 == p.src && !w.out && decide (w.base ≤ off ∧ off + p.len ≤ w.base + w.len)
  let ends (w : WeirEntry) : Bool := holds w && off + p.len == w.base + w.len
  if !p.last then x
  else { x with weir := if x.weir.any fun (_, w) => ends w then x.weir.eraseP fun (_, w) => ends w else x.weir.eraseP fun (_, w) => holds w }

/-- R232: the transfer of a packet still waits for its range. -/
def Spd.waitsRemote (x : Spd) (p : Packet) (off : Nat) : Bool :=
  !p.multicast && p.cls == 0 && x.weirWait.any fun w =>
    decide (remoteXfer ≤ w.xfer) && (w.xfer - remoteXfer) / 32 == p.src && !w.out && decide (w.base ≤ off ∧ off + p.len ≤ w.base + w.len)

/-- R226, R232, R254, R273: a Direct packet's payload written into a cluster's scratchpad; nothing is written while it is zeroized, or before
the transfer's range is granted. -/
def State.directToCluster (s : State) (c : Nat) (p : Packet) : State :=
  let off := p.addr % 2 ^ 25
  let k := s.cl c
  if k.spd.zRun || k.spd.waitsRemote p off || decide (off + p.len > spdSize) then s
  else
    let s1 := s.modCl c fun k =>
      let k1 := { k with spd := ((k.spd.writeP 0 off p.marked).2).releaseLast p off }
      if p.land then k1.landed (s.dieCount (c / 8)) else k1
    if p.multicast then (if p.ackreq then s1.mackAt (c / 8) (4 + c % 8) p.dest 1 else s1)
    else (if p.cls = 1 then s1.ackRead (c % 8 * 512 + c / 8) p.srcUnit p.len else s1).accepted (c / 8) p

/-- R272, R273: a multicast Direct packet written into a Lockkeeper's memory at [24:0]. -/
def State.directToLockkeeper (s : State) (site : Nat) (p : Packet) : State :=
  if !p.multicast then s
  else
    let s1 := s.modDelta fun d =>
      { d with lkMem := (p.payload.mapIdx fun i b => (site * 2 ^ 25 + (p.addr + i) % 2 ^ 25, b)).foldl (fun m (x : Nat × Byte) => Tbl.set m x.1 x.2) d.lkMem }
    if p.ackreq then s1.mackAt site 13 p.dest 1 else s1

/-- R254, R266: a Direct packet at its destination: a cluster (`leaf` 0 to 7), a site's Lockkeeper (8), a stack, or a host-port die. -/
def execDirectPacketDelivery (unit : BitVec 9) (leaf : Fin 9) (p : Packet) (s : State) : Ans :=
  .next (
    let u := unit.toNat
    if u < 192 then (if leaf.val = 8 then s.directToLockkeeper u p else s.directToCluster (8 * u + leaf) p)
    else if u < 240 then s.hbmRequest (u - 192) p []
    else if u = 0x142 ∨ u = 0x143 then
      match decodeAddr p.addr with
      | .ok (.host port fn a) => (s.emit (.hostWrite port fn a p.payload (poisonedAt p.marked))).accepted u p
      | _ => s
    else s)

/-- R439, R446: a Stream packet arrives for a channel's window. -/
def execStreamPacketDelivery (c : ClusterId) (p : Packet) (s : State) : Ans :=
  .next (
    let ch := s.ten.chan (handleIndex p.handle)
    if !s.ten.current p.handle then ((s.modTen Tenancy.countStale).sendNak (c / 8) 5 p).raise .nakHandle (c / 8) 0 0
    else if p.offset + p.len > ch.winLen then (s.sendNak (c / 8) 1 p).raise .nakLen (c / 8) 0 0
    else match decodeAddr (ch.win + p.offset) with
    | .ok (.spd d o) =>
      if (s.cl d).spd.zRun then s
      else
        let s1 := s.modCl d fun k =>
          let k1 := { k with spd := (k.spd.writeP 0 o p.marked).2 }
          if p.land then k1.landed (s.dieCount (d / 8)) else k1
        s1.accepted (d / 8) p
    | .ok w => (s.writeAt p.src p.tenant false p.marked w).accepted w.unit p
    | .error _ => s)

/-- R266, R268, R270: an ACK at its source, whose window may now take what waited; one that fails its link check is discarded. -/
def execDeltaAck (src : BitVec 12) (unit : BitVec 9) (mark : Bool) (rcvd : Word32) (good : Bool) (s : State) : Ans :=
  .next (if good then (s.ackWindow src.toNat unit.toNat mark rcvd.toNat).drainOutbox else s)

/-- R257, R268, R287, R289: a NAK recorded at its source's router, and against the cluster's move that it names: the NAK's body holds no TAG
(R255), so `move` comes with the event. -/
def execDeltaNak (src : BitVec 12) (move : Option Nat) (code : Byte) (good : Bool) (s : State) : Ans :=
  .next (
    let u := src.toNat % 512
    if !good then s
    else
      let s1 := s.modDelta fun d => d.modRouter (s.siteOfUnit u) fun r => { r with nakr := true }.bump 3 1
      match move with
      | some t => if u < 192 then (s1.modCl (8 * u + src.toNat / 512) fun k => k.nakMove t code.toNat).askVote 1 else s1
      | none => s1)

/-- R267, R358: a PROBE is answered at once; an egress engine answers with what a peer has acknowledged. -/
def execDeltaProbe (unit : BitVec 9) (src : BitVec 12) (s : State) : Ans :=
  .next (
    let u := unit.toNat
    if 0x100 ≤ u ∧ u < 0x124 then
      s.sendCtl (s.siteOfUnit u) (ackPacket src.toNat u false (Tbl.get 0 s.larre.delta ((u - 0x100) * 4096 + src.toNat)))
    else s.sendAck u src.toNat)

/-- The owner kind of a Weir request by its initiator (08 R248). -/
def weirOwner (u : Nat) : Nat := if u < 0x100 then 1 else if u < 0x140 then 2 else if u < 0x142 then 3 else 0

/-- R280: a cluster receives a WEIR_REQ and queues it. -/
def execWeirReq (c : ClusterId) (src : BitVec 12) (out : Bool) (reqid : BitVec 5) (length base : BitVec 25) (s : State) : Ans :=
  .next (
    if base.toNat + length.toNat > spdSize then s
    else
      let w : WeirEntry := ⟨base.toNat, length.toNat, out, weirOwner (src.toNat % 512), remoteXfer + src.toNat * 32 + reqid.toNat⟩
      s.modCl c fun k => { k with spd := k.spd.request w })

/-- R280: the initiator receives its grant; an engine writes the peer frame that waited for it. -/
def execWeirGrant (src : BitVec 12) (c : ClusterId) (reqid : BitVec 5) (entry : BitVec 4) (s : State) : Ans :=
  .next (
    if (s.larre.waitFrame src.toNat reqid.toNat).isSome then s.frameGranted src.toNat c reqid.toNat
    else s.modDelta fun d => { d with grants := (src.toNat, reqid.toNat, c.val, entry.toNat) :: d.grants })

/-- R255, R258: a READ is served by a stack, or by a host-port die with the `data` that its link returned. -/
def execDeltaRead (unit : BitVec 9) (p : Packet) (data : List Byte) (s : State) : Ans :=
  .next (
    let u := unit.toNat
    if p.mode ≠ 2 ∨ p.op ≠ 6 then s
    else if 192 ≤ u ∧ u < 240 then s.hbmRequest (u - 192) p []
    else if u = 0x142 ∨ u = 0x143 then
      let n := bits p.head 55 42
      s.sendData (s.siteOfUnit u) (directPacket { dest := p.src, src := u, cls := 1, mode := 1, len := n, tenant := p.tenant } (bits p.head 24 0) (readTag p)
        (((data ++ List.replicate n 0).take n).map fun b => (b, false)))
    else s)

/-- R41, R249: the SRC of what comes in by a port: the cluster's, the Lockkeeper's, or the next site's. -/
def portSrc (site port : Nat) : Nat :=
  if meshPort port then (acrossPort site port).getD site else if 4 ≤ port ∧ port ≤ 11 then (port - 4) * 512 + site else site

/-- R272, R282: a router takes a MACK in, which is counted as any packet, and combines those of its group. -/
def execMack (site : SiteId) (port : Fin 20) (group : BitVec 12) (count : Word32) (s : State) : Ans :=
  .next ((s.counted site port (mackPacket 0 (portSrc site port) group.toNat count.toNat)).mackAt site port group.toNat count.toNat)

/-- R272, R284: HALT reaches a leaf cluster of the tenant it names: the cluster stops, and its MACK goes up. -/
def execDeltaHalt (c : ClusterId) (group : BitVec 12) (tenant : BitVec 9) (ackreq : Bool) (s : State) : Ans :=
  .next (
    if s.clTenant c ≠ tenant.toNat then s
    else
      let s1 := s.modCl c Cluster.halt
      if ackreq then s1.mackAt (c / 8) (4 + c % 8) group.toNat 1 else s1)

/-- R266: 1 µs after the oldest byte accepted and not acknowledged. -/
def execAckTimer (unit : BitVec 9) (src : BitVec 12) (s : State) : Ans :=
  .next (
    match (Tbl.get {} s.delta.rcvd (rcvdKey unit.toNat src.toNat)).oldest with
    | some t => if t + 1000 ≤ s.dieCount unit.toNat then s.sendAck unit.toNat src.toNat else s
    | none => s)

/-- R267: a window entry's timeout: a PROBE, or after 8 unanswered ones the destination is unreachable. -/
def execProbeTimeout (src : BitVec 12) (unit : BitVec 9) (s : State) : Ans :=
  .next (
    let x := src.toNat
    let now := s.dieCount (x % 512)
    match s.winOf x unit.toNat with
    | none => s
    | some w =>
      let due : Bool := match w.probeAt with | some t => decide (t < now) | none => false
      if !due || w.outstanding = 0 || w.unreachable then s
      else if w.probes ≥ 8 then
        (((s.modWinOf x unit.toNat fun w => { w with unreachable := true, probeAt := none }).modDelta fun d =>
          d.modRouter (s.siteOfUnit (x % 512)) fun r => { r with e2e := true }).raise .e2eUnreachable (x % 512) (x / 512) unit.toNat).askVote 1
      else
        (s.modWinOf x unit.toNat fun w => { w with probes := w.probes + 1, probeAt := some (now + (s.winRouter x).timeout * 1000) }).sendCtl
          (s.siteOfUnit (x % 512)) (probePacket unit.toNat x))

/-- R270: the recovery timer of a window entry. -/
def execEddyRecoveryTimer (src : BitVec 12) (unit : BitVec 9) (s : State) : Ans :=
  .next (s.modWinOf src.toNat unit.toNat fun w => w.recover (s.dieCount (src.toNat % 512)))

/-- A port sends what its credits allow; what waited for room at the router's inputs, and the records that can leave, follow. -/
def State.pumpPort (s : State) (site port : Nat) : State :=
  let (r, cs) := (s.delta.router site).pump port
  ((s.commitRouter site r (cs.map fun c => (port, c))).drainOutbox).sendRecords site

/-- R263, R264: a hop acknowledgement; a frozen port applies none. -/
def execHopack (site : SiteId) (port : Fin 20) (freed : List Half) (s : State) : Ans :=
  .next (
    if ((s.delta.router site).port port).frozen then s
    else (s.modDelta fun d => d.modRouter site fun r => r.modPort port fun k => k.applyFreed freed).pumpPort site port)

/-- R264, R283: a credit sync. Counts of freed flits that leave more than a buffer outstanding are a book out of balance. -/
def execCsync (site : SiteId) (port : Fin 20) (freed : List Half) (s : State) : Ans :=
  .next (
    let s1 := if ((s.delta.router site).port port).balances freed then s else s.raise .bookImbalance site (portLocal port) 0
    (s1.modDelta fun d => d.modRouter site fun r => r.modPort port fun k => k.creditSync freed).pumpPort site port)

/-- R275, R277 steps 1 to 4: a new edition, checked, written into the free slot and armed at the start of a tick at least 200,000 ns
ahead. A change that comes while an edition is under way waits. -/
def execEditionPublish (stages : List RouteTables) (tsw : Word) (s : State) : Ans :=
  .next (if s.slotFree && decide (tsw.toNat % 100000 = 0 ∧ s.mcount + 200000 ≤ tsw.toNat) then s.publish tsw stages else s)

/-- R277 step 5: T_sw; what waits to be injected is tried under the new edition (R278). -/
def execEditionSwitch (s : State) : Ans := .next s.switchDue.drainOutbox

/-- R277 steps 6 and 7, R279: every router latches its old-edition count; a sum of 0 retires the old edition. -/
def execOldcntLatch (s : State) : Ans :=
  .next (
    let tick := tickOf s.mcount % 2 ^ 32
    let s1 := s.modDelta fun d => d.mapRouters fun r => { r with oldTick := tick, oldCnt := if r.oldPend then r.oldPackets else 0 }
    let sum := (s1.gaz.sitesIn.map fun x => (s1.delta.router x).oldCnt).sum
    let pend := s1.gaz.sitesIn.any fun x => (s1.delta.router x).oldPend
    if pend && sum == 0 then s1.modDelta fun d => d.mapRouters fun r => if r.oldPend then r.retireOld else r else s1)

/-- R289: a read of a counter clears it. -/
def execDltCounterRead (site : SiteId) (which : Fin 6) (s : State) : Ans :=
  .next (s.modDelta fun d => d.modRouter site fun r => { r with counters := Tbl.erase r.counters which })

end Sys2Proof.Machine
end

