-- ==== Sys2Proof/Machine/Firmware.lean ====
section
/-!
DEFINITION. The commands of firmware (spec 19): the checks of a committed image, the override, delivery, components and watchdogs.
-/
namespace Sys2Proof.Machine

/-! Images (R524 to R530) -/

/-- R504, R514: unsigned LKF, LMC and SBF images are accepted. -/
def State.unsignedOk (s : State) : Bool := !s.ctg.approved && s.obj 0x7051 0 == 1

/-- R526 to R529, R505: an image checked: accepted, its digest measured, or refused, held for an override, logged and notified. -/
def State.checkImage (s : State) (k : Nat) (bs : List Byte) : State :=
  let x := fwParse bs
  match s.fw.judge s.gaz.stepping s.ctg.fwRevoked s.unsignedOk k bs with
  | .accept ov =>
    let bare := k != 1 && !fwSigOk s.ctg.fwRevoked false k bs
    let s1 := s.modFw fun f =>
      { f with imgs := Tbl.set f.imgs k { x with state := if ov then 3 else 1 }
               held := Tbl.erase f.held k
               override := if (f.override >>> (k - 1)) % 2 = 1 then f.override - 2 ^ (k - 1) else f.override
               rkind := if f.rkind = k then 0 else f.rkind, reason := if f.rkind = k then 0 else f.reason }
    let s2 := s1.modCtg fun c => { c with meas := Tbl.set c.meas k x.digest, sec := if bare then c.sec ||| 0x80 else c.sec }
    if ov then s2.raiseSv .fwOverride s.svUnit 0 (fld 8 k + ((s.fw.misfit k x).getD 0)) else s2
  | .refuse code pk pv =>
    ((s.modFw fun f =>
      { f with imgs := Tbl.set f.imgs k { x with state := 2 }, held := Tbl.set f.held k bs
               rkind := k, reason := fwReason code, pkind := pk, rversion := x.version, pversion := pv }).raiseSv code s.svUnit 0 0).notifyAll 0x8003 0x1F00

/-- R524: images written before SVF runs are checked in the order LMC, LKF, SBF. -/
def State.checkHeld (s : State) : State :=
  [3, 2, 4].foldl (fun s k => match Tbl.get? s.fw.held k with
    | some bs => if (s.fw.img k).state = 0 then s.checkImage k bs else s
    | none => s) s

/-- R524 step 4, 16 R465: SVF accepted: its components run, SV-B's copy with them, and the 10 s for the primary's link begin. -/
def State.startSvf (s : State) (bs : List Byte) : State :=
  let s1 := s.modFw fun f =>
    { f with comps := (List.range 6).map fun i => (i, { f.comp i with state := 1 }), svfAnchors := fwAnchorsOf bs }
  ((s1.modHosts fun h => { h with selectAt := some s.now }).notifyAll 0x8003 0x1F00).checkHeld

/-- R524, R526: a commit of an image's write: SVF is checked by the boot ROM; the others wait for it. -/
def State.commitImage (s : State) (k : Nat) (bs : List Byte) : State :=
  if k = 1 then
    let s1 := s.checkImage 1 bs
    if s1.fw.accepted 1 then s1.startSvf bs else s1
  else if s.fw.accepted 1 then s.checkImage k bs
  else s.modFw fun f => { f with held := Tbl.set f.held k bs }

/-- R528, R514: a write of 0x1F01: a held image that was refused is checked again at once. -/
def State.overrideWrite (s : State) (w : Nat) : FCode × State :=
  if w % 2 = 1 ∨ 16 ≤ w then (.valueRange, s)
  else if s.ctg.approved then (.approvedMode, s)
  else
    let s1 := s.modFw fun f => { f with override := w }
    (.ok, [3, 2, 4].foldl (fun s k => match Tbl.get? s.fw.held k with
      | some bs => if (s.fw.img k).state = 2 ∧ (w >>> (k - 1)) % 2 = 1 ∧ s.fw.accepted 1 then s.checkImage k bs else s
      | none => s) s1)

def execTestedWithOverride (w : Byte) (s : State) : Ans := .next (s.overrideWrite w.toNat).2

/-- R525: an LKF (2) or LMC (3) broadcast has come back from every in-service Lockkeeper: the command stands for that MACK. -/
def execImageBroadcastDone (kind : Fin 5) (s : State) : Ans :=
  .next (if (kind = 2 ∨ kind = 3) ∧ s.fw.accepted kind ∧ !s.fw.delivered.contains kind.val then s.modFw fun f => { f with delivered := kind.val :: f.delivered } else s)

/-! Components (R531 to R533) -/

/-- R533: the watch block hands the active role to SV-B where it is operational; else the component stays stopped. -/
def State.handOver (s : State) (k : Nat) : State :=
  if s.fw.svbUp && (s.ctg.unit (1 - s.fw.active)).up then s.takeover else s.modFw fun f => f.modComp k fun c => { c with state := 0 }

/-- R532, R533: a component violates: it is stopped for a restart; a fourth within 10 s, or the boot manager's, is a hand-over. One that
is not running is not judged. -/
def State.compFails (s : State) (k addr : Nat) : State :=
  let c := s.fw.comp k
  if c.state ≠ 1 then s
  else
    let s1 := s.raiseSv .fwRestart s.svUnit k addr
    let rs := within10s s.now c.recent
    if k = 0 then s1.handOver 0
    else if rs.length ≥ 4 then s1.handOver k
    else s1.modFw fun f => f.modComp k fun c => { c with state := 2, recent := rs }

def execComponentViolation (k : Fin 6) (addr : Word) (s : State) : Ans := .next (s.compFails k addr.toNat)

/-- R532: a watchdog expires, with no service write stamped at or before the expiry. -/
def execComponentWatchdogExpiry (k : Fin 6) (s : State) : Ans := .next (s.compFails k 0)

/-- R533 step 4: the component resumes. The channel scheduler takes up the fetches that waited; `data` gives those entries' bytes by
channel. -/
def execComponentRestartDone (k : Fin 6) (data : List (Fin 4096 × List Byte)) (s : State) : Ans :=
  .next (
    if (s.fw.comp k).state ≠ 2 then s
    else
      let s1 := (s.modFw fun f => f.modComp k fun c =>
        { c with state := 1, restarts := Nat.min 0xFFFF (c.restarts + 1), last := s.mcount }).notifyAll 0x8003 0x1F00
      if k = 4 then data.foldl (fun (s : State) ((i, bs) : Fin 4096 × List Byte) => s.fetch i bs) s1 else s1)

/-! Watchdogs outside the Surveyor (R534) -/

/-- R534: an expiry at a unit; the answer tells whether it is the third within 10 s. -/
def State.dogBites (s : State) (kind n : Nat) : State × Bool :=
  let key := kind * 65536 + n
  let ts := within10s s.now (Tbl.get [] s.fw.dogs key)
  (s.modFw fun f => { f with dogs := Tbl.set f.dogs key ts }, decide (3 ≤ ts.length))

/-- R534: LKF reset and reloaded; the third expiry within 10 s retires the site. -/
def execLkfWatchdogExpiry (site : SiteId) (s : State) : Ans :=
  .next (
    if !s.gaz.siteIn site then s
    else
      let (s1, third) := s.dogBites 2 site
      if third then s1.retireUnit 2 (.site site) 4 5 else s1)

/-- R534: SBF reset and reloaded; retraining steps pause meanwhile. -/
def execSbfWatchdogExpiry (k : StackId) (s : State) : Ans :=
  .next (
    if (s.gaz.stack k).status ≠ 0 then s
    else
      let (s1, third) := s.dogBites 4 k
      if third then s1.retireUnit 3 (.stack k) 4 5 else s1)

/-- R534, 10 R303: LMC reset: the braid is withdrawn and retrained with reason 0. -/
def execLmcWatchdogExpiry (b : BraidId) (s : State) : Ans :=
  .next (
    if (s.gaz.braid b).status ≠ 0 then s
    else
      let (s1, third) := s.dogBites 3 b
      if third then s1.retireUnit 2 (.braid b) 4 5 else s1.askBraid b false ⟨1, 0, 0⟩)

end Sys2Proof.Machine
end

