-- ==== Sys2Proof/Machine/Hbm.lean ====
section
/-!
DEFINITION. The meanings of the memory stacks' events (spec 11).
-/
namespace Sys2Proof.Machine

/-- R331, 09 R281: a Meridian microsecond: every bucket of the stacks and of the Delta injection ports refills, and waiting requests
come up again, as do the packets that wait at the ports; peers' writes in the receive buffers of the engines are placed (12 R351). -/
def execShaperRefill (s : State) : Ans :=
  .next (
    let s1 := (List.range 48).foldl (fun s k => s.modStk k Stack.refillAll) s
    let s2 := s1.modDelta fun d => d.mapRouters fun r =>
      [11, 14, 15].foldl (fun r p => r.modPort p fun k => { k with shaper := k.shaper.refill }) r
    let s3 := (List.range 48).foldl (fun s k => s.readmit k) s2.drainOutbox
    (List.range 36).foldl (fun s n => s.placeBuffered n s.larre.buffered.length) s3)

/-- R317 to R332: a request reaches a base die; `faults` are the lines that fail their check (true where uncorrected). -/
def execHbmRequest (k : StackId) (p : Packet) (faults : List (Nat × Bool)) (s : State) : Ans := .next (s.hbmRequest k p faults)

/-- R322: a channel is retired: its data lost, its bit cleared in one change set, by the start-up test or in service (01 R45); the third
retires the stack. -/
def State.loseChannel (s : State) (k : StackId) (c reason : Nat) (service : Bool) : State :=
  if (s.stk k).retired.contains c then s
  else
    let src := if service then 3 else 1
    let s1 := s.modStk k fun x => x.loseChannel c
    let s2 := if service then ((s1.modStk k fun x => x.record 3 0 c).raise .channelLoss (192 + k) 0 c).askVote 1 else s1
    let s3 := s2.applyGaz fun g =>
      let r := g.stack k
      ({ g with stackRecs := Tbl.set g.stackRecs k { r with channels := putBit r.channels c false } }).note
        ⟨s.mcount, 2, 0, k, 0, 0, 0, reason, src, c⟩
    if (s3.stk k).retired.length ≥ 3 then s3.retireUnit src (.stack k) 4 6 else s3

/-- R328, R329: a refresh command; one in eight carries a retraining step, which measured `margin` (none: no passing setting). -/
def execRefreshCommand (k : StackId) (channel : Fin 32) (margin : Option Byte) (s : State) : Ans :=
  .next (
    if (s.stk k).retired.contains channel then s
    else
      let (x, r) := (s.stk k).refreshCmd channel (margin.map (·.toNat))
      let s1 := s.modStk k fun _ => x
      match r with
      | .keep => s1
      | .retire => s1.loseChannel k channel 5 true)

/-- R333 steps 2 to 5: a stack's test: key slots cleared, the firmware keys in place (18 R500), failing rows repaired, failing channels
retired, the data region written as zeros, the stack in service. `ok` is false where every channel fails step 2. -/
def State.testStack (s : State) (k : StackId) (ok full : Bool) (rows : Nat) (failed : List Nat) : State :=
  if (s.gaz.stack k).status ≠ 0 then s
  else
    let fw := s.ctg.fwKeys.map fun (i, v) => (512 + i, v)
    let s1 := s.modStk k fun x => { x with keys := fw, state := 2, full := full, done := false, rows := 0, prog := 0 }
    if !ok then s1.retireUnit 1 (.stack k) 4 2
    else
      let s2 := s1.modStk k fun x =>
        { x with mem := [], lineKey := [], zeroKey := Tbl.get 0 s.ctg.fwKeys 0, poison := [], rows := rows % 65536, prog := 255, done := true }
      let s3 := failed.foldl (fun s c => s.loseChannel k c 2 false) s2
      s3.modStk k fun x => { x with lost := [], fresh := [], state := if (s3.gaz.stack k).status = 0 then 3 else 0 }

/-- R333: the start-up test of a stack whose links are trained and SBF loaded (STATE 1), quick or full as 0x3020 says. The repairs of rows are
counted in ROWS; R607 has no code for their record (log entry 75). -/
def execStackTest (k : StackId) (ok : Bool) (rows : Half) (failed : List (Fin 32)) (s : State) : Ans :=
  .next (if (s.stk k).state ≠ 1 then s else s.testStack k ok (s.obj 0x3020 0 == 1) rows.toNat (failed.map (·.val)))

/-- R339: a read of HBS_CECNT (0), HBS_UECNT (1) or HBS_KEYMISS (2) clears it. -/
def execHbsCounterRead (k : StackId) (which : Fin 3) (s : State) : Ans :=
  .next (s.modStk k fun x => if which = 0 then { x with ceCnt := 0 } else if which = 1 then { x with ueCnt := 0 } else { x with keyMiss := 0 })

end Sys2Proof.Machine
end

