-- ==== Sys2Proof/Machine/Start.lean ====
section
/-!
DEFINITION. The parts of a start, its waves, and the reset input (spec 20), with the slot switch (24 R614).
-/
namespace Sys2Proof.Machine

/-! Retests (01 R32) -/

/-- R26, R32, R33, R35, 21 R567: the retest of a masked unit at a cold start; a site that a fracture keeps below the floor, a site that
would be the 181st in service (log entry 60), and an engine whose site is not back stay masked. -/
def State.retest (s : State) (r : Retest) : State :=
  let kept : Bool := match r.u with
    | .site n => ((s.gaz.site n).derate != 0 && (s.gaz.site n).reason == 4) || (r.ok && decide (180 ≤ s.gaz.sitesIn.length))
    | .engine n => r.ok && !s.gaz.siteIn (engineSite n)
    | _ => false
  if !s.boot.cold || kept || s.gaz.status r.u != 1 then s
  else if r.ok then s.applyGaz fun g => g.change s.mcount 1 r.u 0 0
  else s.applyGaz fun g => g.leave s.mcount 1 r.u 4 2

/-! What a part begins with -/

/-- R535 part 2, 13 R377, R384, R386: the Meridian unit starts from the source that 0x5300 names; the dies are unlocked from now. -/
def State.startMeridian (s : State) : State :=
  s.modMer fun m =>
    { m with unit := (let u := { m.unit with src := s.obj 0x5300 0, startAt := s.now, seenRef := false, capture := none, missed := 0, lastErr := none, stay := false }
               if s.obj 0x5300 0 = 2 then (MerUnit.local u s.now).openRelay else u)
             dies := dieUnits.map fun u => (u, { m.die u with unlockedSince := s.now }) }

/-- R536 step 4: the Gazetteer is served from generation 1, at service level 1; each die's driving PLL is locked (22 R574). -/
def State.startServing (s : State) : State :=
  let s1 := s.modGaz fun g => { g with gen := 1, changedAt := s.mcount }
  let s2 := s1.modClk fun k => s.gaz.sitesIn.foldl (fun k x => k.modSite x fun y => { y with plla := true }) k
  s2.retarget.setLevel (some 1)

/-- 18 R500, R502, R509: every stack's key unit runs its known-answer test; a new set of firmware keys is loaded into slots 512 to 515 of
each. -/
def Cartouche.newFwKeys (c0 : Cartouche) : Cartouche :=
  let c := (span 192 48).foldl (fun c u => c.send u 4 0 0) c0
  (List.range 4).foldl (fun (c : Cartouche) i =>
    let k := c.nextKey
    (span 192 48).foldl (fun c u => c.send u 1 (512 + i) k) { c with fwKeys := Tbl.set c.fwKeys i k, nextKey := k + 1 }) c

/-- 12 R342: the role and split of an engine at this start. -/
def State.engineRole (s : State) (n : Nat) : Nat × Nat :=
  let v := s.obj 0x5200 n
  let role := v % 4 % 3
  let split := v / 4 % 4
  let dark := (role == 2 && splitPorts split == 1) || (role == 1 && s.obj 0x5202 0 / 65536 % 2 == 0)
  (if dark then 0 else role, split)

/-- 12 R342, R365, R371: roles and splits applied, ring pairs accepted, lasers on; a pair's ports stay dark behind the closed bypass, and the
engines of a pair that was declared and not accepted stay idle. -/
def State.startEngines (s : State) : State :=
  let declared (i : Nat) : Bool := (s.obj 0x5201 0).testBit i
  let pairOk (i : Nat) : Bool := declared i && [18 * i, 18 * i + 1].all (fun n => (s.gaz.engine n).status == 0 && (s.engineRole n).1 == 1)
    && (s.engineRole (18 * i)).2 == (s.engineRole (18 * i + 1)).2
  let inPair (n : Nat) : Option Nat := (List.range 2).find? fun i => declared i && (n == 18 * i || n == 18 * i + 1)
  let s1 := s.modGaz fun g => { g with engines := (List.range 36).map fun n =>
    let (r, sp) := s.engineRole n
    (n, { g.engine n with role := r, split := sp }) }
  let s2 := (List.range 36).foldl (fun s1 n =>
    let (r, sp) := s.engineRole n
    let lit := (s.gaz.engine n).status == 0 && r != 0 && (match inPair n with | some i => pairOk i | none => true)
    s1.modEng n fun e => Engine.settle { e with
      role := r, split := sp, laser := lit, passedD3 := [], state := if (s.gaz.engine n).status = 4 then 4 else 0
      ports := (List.range (splitPorts sp)).map fun p => (p, { e.port p with state := if lit && (inPair n).isNone then 1 else 0 }) }) s1
  (List.range 2).foldl (fun s i => s.modLarre fun l => l.modOxbow i fun o =>
    { o with pair := pairOk i, released := pairOk i && s.obj 0x5204 0 == 0 }) s2

/-- 12 R365: an assigned port is still training. -/
def State.portsTraining (s : State) : Bool :=
  (List.range 36).any fun n => (s.gaz.engine n).status == 0 && (s.larre.engine n).role != 0
    && (s.larre.engine n).ports.any fun (_, p) => p.state == 1

/-! Calibration (22 R581, 21 R566) -/

/-- R581: how many steps below the ceiling a site's calibration ends: the first at which every domain passes, at most down to the floor. -/
def calDepth (span_ : Nat) (cs : List DomCal) : Nat :=
  ((List.range span_).find? fun k => cs.all fun d => ((d.tries[k]?).join).isSome).getD span_

/-- R581, R557: the trim of a calibrated domain. -/
def calTrim (lowest : Int) : Int := if lowest + 5 ≤ 30 then lowest + 5 else 30

/-- R581: a site's domains calibrated: trims, the margin cap, and domains that fail at the floor retired. -/
def State.calibrateSite (s : State) (cals : List DomCal) (x : Nat) : State :=
  let cs := cals.filter fun d => d.c.val / 8 == x && (s.pwr.dom d.c).state == 3
  let n := calDepth (s.ceilOf x - s.floorCode) cs
  if cs.isEmpty then s
  else
    let s1 := s.modPwr fun p => cs.foldl (fun (p : Power) (d : DomCal) => p.modDom d.c fun y =>
      let t := match (d.tries[n]?).join with | some t => calTrim t | none => 30
      { y with trim := t, setp := setPoint (s.clk.site x).cur t }) p
    let s2 := (s1.overrideTrims x).modClk fun k => k.modSite x fun y => { y with mcap := if n = 0 then none else some (s.ceilOf x - n) }
    (cs.filter fun d => ((d.tries[n]?).join).isNone).foldl (fun (s : State) (d : DomCal) => s.retireUnit 1 (.cluster d.c) 4 2) s2

/-- R566: the path resistances measured after the waves: the mean of the two loads. -/
def State.measurePaths (s : State) (ps : List PathCal) : State :=
  s.modPwr fun p => { p with paths := ps.foldl (fun t (x : PathCal) => Tbl.set t (pathKey x.c x.sensor) { r0 := (x.low + x.high) / 2 }) p.paths }

/-! The parts (R535) -/

/-- R535: the end condition of a part. -/
def State.partEnds (s : State) : Bool :=
  let rails (lo n : Nat) : Bool := (span lo n).all s.pwr.inwin.testBit
  match s.boot.part with
  | 1 => s.fw.allAccepted && s.boot.restored
  | 2 => rails 1 4 && s.mer.unit.t.locked && [2, 3].all s.fw.delivered.contains
      && !(s.delta.tabs (s.delta.router (s.gaz.sitesIn.headD 0)).cur).uni.isEmpty
      && !(s.gaz.sitesIn.any fun x => (s.delta.router x).armed)
  | 3 => rails 5 3 && (List.range 48).all fun k => (s.gaz.stack k).status != 0 || (s.stk k).state == 3
  | 4 => rails 8 1 && (s.boot.portsOver || !s.portsTraining) && (!s.pwr.integ || (span 1 8).all s.pwr.tested.testBit)
  | 5 => rails 9 1 && decide (s.gaz.sitesIn.length ≤ 16 * s.boot.wave)
      && s.gaz.clustersIn.all fun c => (s.pwr.dom c).state == 3 && !(s.cl c).spd.zNeeded && !(s.cl c).spd.zRun
  | _ => false

/-- 21 R568: the domains tested between parts 4 and 5: a failing one's cluster is retired with POWER; INTEG clears. -/
def State.domainsTested (s : State) (fails : List ClusterId) : State :=
  if !s.pwr.integ then s
  else
    (fails.foldl (fun (s : State) c => (s.powerFault .integrityFail 5 9 (some c.val) 0).retireUnit 1 (.cluster c) 4 4) s).modPwr
      fun p => { p with integ := false, tested := 0 }

/-- R535 to R537: a part ends and the next begins. -/
def execStartPartComplete (r : PartResults) (s : State) : Ans :=
  .next (
    if s.boot.stopped || !s.partEnds then s
    else
      let s0 := r.retests.foldl (fun (s : State) x => s.retest x) s
      let next (n : Nat) (s : State) : State := (s.modBoot fun b => { b with part := n, partAt := s.now }).raiseRails
      match s.boot.part with
      | 1 => next 2 s0.startMeridian
      | 2 =>
        if !s0.gaz.diagOk s0.fw.active then s0.stopStart 2
        else next 3 (s0.startServing.modCtg Cartouche.newFwKeys)
      | 3 => next 4 s0.startEngines
      | 4 => next 5 (s0.domainsTested r.domFails)
      | _ => (next 6 ((s0.gaz.sitesIn.foldl (fun s x => s.calibrateSite r.cals x) s0).measurePaths r.paths)).relevel)

/-- R535: part 4 has run for 10 s. -/
def execEstuaryPartTimeout (s : State) : Ans :=
  .next (if s.boot.part = 4 ∧ s.boot.partAt + 10000000000 ≤ s.now then s.modBoot fun b => { b with portsOver := true } else s)

/-- R535, 12 R361: an Estuary port that trains comes up: its lanes lock, its engine is to join the next editions. -/
def execEstuaryPortTrained (n : EngineId) (p : Fin 4) (s : State) : Ans :=
  .next (
    let e := s.larre.engine n
    if s.boot.part < 4 || !e.laser || (e.port p).state != 1 then s
    else
      let mask := ((portLanes e.split p).map fun l => 2 ^ l).sum
      ((s.modEng n fun e => Engine.settle ({ e with lock := e.lock ||| BitVec.ofNat 16 mask, ports := Tbl.set e.ports p { e.port p with state := 2, fails := 0 } })).modDelta
        fun d => { d with edWanted := true }).sentIdent n p |>.pumpLarre n p)

/-! Waves (R538) -/

/-- R538: every domain of the waves begun has finished power-up. -/
def State.wavesDone (s : State) : Bool :=
  (s.gaz.sitesIn.take (16 * s.boot.wave)).all fun x => (span (8 * x) 8).all fun c =>
    !s.gaz.clusterIn c || (let d := (s.pwr.dom c).state; d != 1 && d != 2)

/-- R538: the next wave begins: in a start's part 5, or as the domains of a shed core are restored (21 R561). -/
def execWaveStart (s : State) : Ans :=
  .next (
    let b := s.boot
    if (b.part ≠ 5 ∧ b.part ≠ 6) || s.pwr.seq != 3 || decide (s.gaz.sitesIn.length ≤ 16 * b.wave) || !s.wavesDone
        || (b.wave != 0 && decide (s.now < b.waveAt + 500000000)) then s
    else
      let xs := (s.gaz.sitesIn.drop (16 * b.wave)).take 16
      let s1 := (xs.flatMap fun x => span (8 * x) 8).foldl (fun s c => if s.gaz.clusterIn c && (s.pwr.dom c).state == 1 then s.setCl c (s.cl c).kept else s) s
      s1.modBoot fun b => { b with wave := b.wave + 1, waveAt := s.now })

/-! PANEL_RESET_N (R541 to R543) -/

/-- R541: PANEL_RESET_N low for 10 µs: an assertion, unless the input is masked; while PWR_EN is deasserted it changes nothing more. -/
def execPanelResetAssert (s : State) : Ans :=
  .next (
    if s.boot.reset then s
    else
      let s1 := s.modBoot fun b => { b with reset := true, resetAt := s.now, stuck := false }
      if s.boot.masked || !s.pwr.vhk || !s.pwr.en then s1
      else ((s1.modBoot fun b => { b with policy := s.obj 0x2300 0 }).raiseAs 5 .resetAsserted 0xFFFF 0 0).panelDown 2)

/-- 23 R603: the newest RESET_ASSERTED record gets the length of its assertion, in µs. -/
def addLength (us : Nat) : List EventRec → Option (List EventRec)
  | [] => none
  | r :: t => if r.code = .resetAsserted then some ({ r with detail := us } :: t) else (addLength us t).map (r :: ·)

def Log.resetLength (l : Log) (us : Nat) : Log :=
  match addLength us l.waiting with
  | some w => { l with waiting := w }
  | none => match addLength us l.ring with
    | some r => { l with ring := r }
    | none => l

/-- R541, R543: PANEL_RESET_N high for 10 µs: the assertion's length joins its record, and a start begins where it can; a masked input
only starts its count of 100 ms (R542). -/
def execPanelResetRelease (a b : Bool) (s : State) : Ans :=
  .next (
    if !s.boot.reset then s
    else
      let s1 := s.modBoot fun b => { b with reset := false, resetAt := s.now, stuck := false }
      if s.boot.masked then s1
      else (s1.modLog fun l => l.resetLength ((s.now - s.boot.resetAt) / 1000)).tryStart a b)

/-- R542: an assertion has lasted 30 s: logged once; under IGNORE the input is masked and a start begins as at a release. -/
def execResetStuck (a b : Bool) (s : State) : Ans :=
  .next (
    if !s.boot.reset || s.boot.stuck || s.boot.masked || !s.pwr.vhk || decide (s.now < s.boot.resetAt + 30000000000) then s
    else
      let s1 := (s.modBoot fun b => { b with stuck := true, masked := b.policy == 1 }).raiseAs 5 .resetStuck 0xFFFF 0 0
      if s1.boot.masked then s1.tryStart a b else s1)

/-- R542: the masked input has been high for 100 ms without a break. -/
def execResetUnmask (s : State) : Ans :=
  .next (
    if s.boot.masked && !s.boot.reset && decide (s.boot.resetAt + 100000000 ≤ s.now) then s.modBoot fun b => { b with masked := false } else s)

/-- 24 R614: SLOT_PRESENT_N deasserted: the effects of an assertion of PANEL_RESET_N, with zeroization of cause 3, and a power-down; during
one the zeroization alone runs. -/
def execSlotPresentDeassert (s : State) : Ans :=
  .next (
    if !s.boot.slotPresent then s
    else
      let s1 := s.modBoot fun b => { b with slotPresent := false }
      if !s.pwr.vhk then s1
      else if s.pwr.seq = 4 ∨ s.pwr.seq = 5 then (s1.zeroize 3).letGo
      else s1.panelDown 3)

end Sys2Proof.Machine
end

