-- ==== Sys2Proof/Machine/Diagnostics.lean ====
section
/-!
DEFINITION. Diagnostic runs, the forwarding of events and the fault log (spec 23), with the supply watch of the Surveyor dies (24 R619).
-/
namespace Sys2Proof.Machine

/-! Diagnostic runs (R596 to R600) -/

/-- R596: the target exists, and its interface offers the depth. -/
def State.lbOffered (s : State) (iface depth target : Nat) : Bool :=
  depthOffered iface depth &&
    (match iface with
     | 0 => decide (target < 3320)
     | 1 => decide (target < 144) && decide (target % 4 < splitPorts (s.larre.engine (target / 4)).split) && (depth != 4 || (s.larre.engine (target / 4)).role == 1)
     | 2 => decide (target < 1536)
     | 3 => decide (target < 2)
     | _ => target == 0)

/-- R429, R598: a partition holds an allotment in a stack. -/
def State.allotted (s : State) (k : Nat) : Bool :=
  s.ten.parts.any fun (_, p) => p.state != 0 && p.allot.any fun (j, (_, len)) => j == k && len != 0

/-- R598, R261, 10 R293: the braid's port would keep fewer than three mesh braids. -/
def State.thinned (s : State) (b : Nat) : Bool :=
  let r := s.gaz.braid b
  decide (braidKind b ≤ 1) && r.role == 0 && decide (s.gaz.edgeHalves (b - braidSlot b) < 6 + s.gaz.halves b)

/-- R598: a loopback must wait. -/
def State.lbBusy (s : State) (ep : Endpoint) (iface target : Nat) : Bool :=
  s.diag.run.isSome ||
    (match iface with
     | 0 => (s.gaz.braid target).status != 0 || s.thinned target
     | 1 => (s.gaz.engine (target / 4)).status != 0
     | 2 => (s.gaz.stack (target / 32)).status != 0 || s.allotted (target / 32)
     | 3 => Endpoint.kind ep == target
     | _ => Endpoint.kind ep == 2)

/-- R514, R596: the approved mode forbids the loopback. -/
def State.lbForbidden (s : State) (iface target : Nat) : Bool :=
  s.ctg.approved && (iface == 2 || (iface == 3 && (s.hosts.port target).ide.any fun (_, x) => x.secure))

def State.startRunOf (s : State) (r : DiagRun) : State := s.modDiag fun d => { d with run := some r, state := 1 }

/-- R597, R598: a write of 0x9000 over an endpoint. -/
def State.loopback (s : State) (ep : Endpoint) (w : Nat) : FCode × State :=
  let iface := w / 2 ^ 28 % 16
  let depth := w / 2 ^ 25 % 8
  let pat := w / 2 ^ 21 % 16
  let target := w % 2 ^ 21
  if s.atZero then (.notReady, s)
  else if !s.lbOffered iface depth target then (.valueRange, s)
  else if s.lbBusy ep iface target then (.busy, s)
  else if s.lbForbidden iface target then (.approvedMode, s)
  else
    let s1 := (s.setObj 0x9000 0 w).startRunOf ⟨0, iface, depth, target⟩
    (.ok, match iface with
      | 0 => s1.levLoopback target false depth pat
      | 1 => s1.estLoopback (target / 4) (target % 4) depth pat
      | 3 => (((s1.modHosts fun h => h.modPort target fun x => { x with linkUp := false }).modTen fun t => t.linkLost target).primaryLost target)
      | _ => s1)

def execLoopbackRequest (ep : Endpoint) (w : Word32) (s : State) : Ans := .next (s.loopback ep w.toNat).2

/-- R597 to R599: a write of 0x9010. -/
def State.sramTest (s : State) (x : Nat) : FCode × State :=
  if s.atZero then (.notReady, s)
  else if 192 ≤ x then (.valueRange, s)
  else if s.diag.run.isSome || !s.gaz.siteIn x || (s.ten.parts.any fun (_, p) => p.state != 0 && p.set.any fun c => c / 8 == x) then (.busy, s)
  else (.ok, (s.setObj 0x9010 0 x).startRunOf ⟨1, 0, 0, x⟩)

def execSramSelfTestRequest (site : Byte) (s : State) : Ans := .next (s.sramTest site.toNat).2

/-- R597, R598, R600: a write of 0x9011: the stack serves no request until the run ends. -/
def State.stackTest (s : State) (w : Nat) : FCode × State :=
  let k := w % 64
  if s.atZero then (.notReady, s)
  else if 48 ≤ k ∨ w / 64 % 2 = 1 then (.valueRange, s)
  else if s.diag.run.isSome || (s.gaz.stack k).status != 0 || s.allotted k then (.busy, s)
  else (.ok, ((s.setObj 0x9011 0 w).startRunOf ⟨2, 0, w / 128 % 2, k⟩).modStk k fun x => { x with state := 2 })

def execStackTestRequest (w : Byte) (s : State) : Ans := .next (s.stackTest w.toNat).2

/-- R597 to R600: the run in progress ends: a loopback with its bit errors, a full SRAM test with repairs, retirements and a zeroization
to follow, a stack test with what it showed. -/
def execDiagnosticRunEnd (errors : Nat) (sram : List SramResult) (ok : Bool) (rows : Half) (failed : List (Fin 32)) (s : State) : Ans :=
  .next (
    let tick := tickOf s.mcount % 2 ^ 32
    match s.diag.run with
    | none => s
    | some r =>
      let lines := if r.kind = 1 then (sram.map (·.lines)).sum else errors
      let s1 := s.modDiag fun d => d.finish lines tick
      if r.kind = 1 then
        let s2 := sram.foldl (fun (s : State) (x : SramResult) =>
          if h : 8 * r.target + x.n.val < 1536 then s.sramTested 1 ⟨8 * r.target + x.n.val, h⟩ x else s) s1
        (span (8 * r.target) 8).foldl (fun s c => if s.gaz.clusterIn c then s.modCl c fun k => { k with spd := { k.spd with zNeeded := true } } else s) s2
      else if r.kind = 2 then
        (if h : r.target < 48 then s1.testStack ⟨r.target, h⟩ ok (r.depth == 1) rows.toNat (failed.map (·.val)) else s1)
      else s1)

/-! Counts and the fault log (R601 to R606) -/

/-- R601: a unit forwards its counts at a tick. -/
def execEventCountForward (unit : Half) (s : State) : Ans :=
  .next (s.modLog fun l =>
    let mine := l.fwd.filter fun (k, _) => k / 256 == unit.toNat
    { l with fwd := l.fwd.filter fun (k, _) => k / 256 != unit.toNat
             counts := mine.foldl (fun t ((k, n) : Nat × Nat) => Tbl.mod 0 t (k % 256) (satAdd (2 ^ 64 - 1) n)) l.counts })

/-- R605: the event that reached the Surveyor first is appended, or coalesced. -/
def execFaultEventReceived (s : State) : Ans :=
  .next (
    match s.log.inbox with
    | [] => s
    | e :: r => (s.modLog fun l => { l with inbox := r }.receive e).modGaz fun g => g.countFault e.unit)

/-- R602, R605: the waiting records have reached flash. -/
def execFaultLogFlashWrite (s : State) : Ans := .next (s.modLog fun l => l.flash s.mcount)

/-- R604: a write of 1 to 0x8011: the ring is emptied, and one STATUS_CHANGE record of the panel is appended. -/
def State.clearLog (s : State) : State := (s.modLog fun l => { l with ring := [] }).raiseAs 4 .statusChange 0xFFFF 0 0

def execFaultLogClear (s : State) : Ans := .next s.clearLog

/-- 24 R619, 18 R511: a Surveyor die's supply lies outside its limits for 10 µs: zeroization of cause 5. -/
def execSurveyorSupplyFault (_d : Fin 2) (s : State) : Ans := .next (if s.pwr.vhk then s.zeroize 5 else s)

end Sys2Proof.Machine
end

