-- ==== Sys2Proof/Machine/Record.lean ====
section
/-!
DEFINITION. The bytes of the Gazetteer's DOMAIN, Legend object 0x3000 (spec 01 R39 to R47).
-/
namespace Sys2Proof.Machine

/-- R41: which dies and engine a site attaches: [0] engine, [1] SV-A, [2] SV-B, [3] H0, [4] H1. -/
def attachBits (s : Nat) : Nat :=
  flg 0 (siteEngine s).isSome + ((List.range 4).map fun d => flg (d + 1) ((dieSites d).contains s)).sum

/-- R41: a site record; `hist` is the history, oldest first. -/
def State.siteBytes (s : State) (hist : List HistEntry) (n : Nat) : List Byte :=
  let r := s.gaz.site n
  let first := match findIdx (fun e : HistEntry => e.kind == 0 && e.object == n) hist 0 with
    | some (i, _) => i
    | none => 0xFFFFFFFF
  leBytes 1 n ++ leBytes 1 r.status ++ leBytes 1 r.reason ++ leBytes 1 n ++ leBytes 1 (homeStack n) ++ leBytes 1 r.derate
    ++ leBytes 1 r.replaces ++ leBytes 1 (attachBits n) ++ leBytes 1 ((siteEngine n).getD 0xFF)
    ++ leBytes 1 ((List.range 8).map fun c => flg c (s.gaz.clusterIn (8 * n + c))).sum ++ leBytes 2 r.faults ++ leBytes 4 first

/-- R41: a cluster record. -/
def State.clusterBytes (s : State) (c : Nat) : List Byte :=
  let r := s.gaz.cluster c
  let used := (s.cl c).spd.steer.length
  leBytes 2 c ++ leBytes 1 r.status ++ leBytes 1 r.reason ++ leBytes 1 (if c % 8 < 5 then 0 else if c % 8 < 7 then 1 else 2)
    ++ leBytes 1 0 ++ leBytes 2 c ++ leBytes 2 used ++ leBytes 2 (6144 - used)

/-- R41: a stack record and an engine record. -/
def Gaz.stackBytes (g : Gaz) (k : Nat) : List Byte :=
  let r := g.stack k
  leBytes 1 k ++ leBytes 1 r.status ++ leBytes 1 r.reason ++ leBytes 1 (192 + k) ++ leBytes 4 r.channels.toNat

def Gaz.engineBytes (g : Gaz) (n : Nat) : List Byte :=
  let r := g.engine n
  leBytes 1 n ++ leBytes 1 r.status ++ leBytes 1 r.reason ++ leBytes 1 (engineSite n) ++ leBytes 1 r.role ++ leBytes 1 r.split
    ++ leBytes 2 r.lanes.toNat

/-- R43: a braid record. -/
def State.braidBytes (s : State) (hist : List HistEntry) (b : Nat) : List Byte :=
  let r := s.gaz.braid b
  let named := (hist.filter fun e => (e.kind == 4 || e.kind == 5) && e.object == b).length
  leBytes 2 b ++ leBytes 1 r.status ++ leBytes 1 r.reason ++ leBytes 1 (braidKind b) ++ leBytes 1 r.role
    ++ leBytes 2 (braidEnds b).1 ++ leBytes 2 (braidEnds b).2 ++ leBytes 1 r.repairs
    ++ leBytes 1 r.survey ++ leBytes 1 (braidSlot b) ++ leBytes 1 0 ++ leBytes 2 named

/-- R44: a lane record, by the record's lane map. -/
def State.laneWord (s : State) (b l : Nat) : Nat :=
  let r := s.gaz.braid b
  let st := if (s.lev.braid b).healthy l then r.status else 4
  match r.lane l with
  | some j => fld 13 st + fld 11 (if l < 64 then 0 else 2) + j
  | none => fld 13 st + fld 11 (if r.slane = some l then 1 else 3) + l

/-- R45: a repair-history entry. -/
def HistEntry.bytes (e : HistEntry) : List Byte :=
  leBytes 8 e.at_ ++ leBytes 1 e.kind ++ leBytes 1 e.action ++ leBytes 2 e.object ++ leBytes 2 e.sub ++ leBytes 1 e.old
    ++ leBytes 1 e.new ++ leBytes 1 e.reason ++ leBytes 1 e.source ++ leBytes 4 e.detail ++ leBytes 2 0

/-- R46, R47: the path of the record's edition between units in service. -/
def Gaz.path (g : Gaz) (a unit : Nat) : Option (Nat × Nat) :=
  let up := if unit < 192 then g.siteIn unit else (g.stack (unit - 192)).status == 0
  if up && g.siteIn a then walkOf (fun _ _ => true) g.paths a unit 35 else none

/-- R47: a site-to-stack entry. -/
def Gaz.pathBytes (g : Gaz) (n k : Nat) : List Byte :=
  match g.path n (192 + k) with
  | some (h, x) => leBytes 1 h ++ leBytes 1 x ++ leBytes 1 (hopClass h)
  | none => leBytes 3 0xFFFFFF

/-- R40: the sections in order. -/
def State.gazSections (s : State) : List (List Byte) :=
  let hist := s.gaz.history.reverse
  [ (List.range 192).flatMap (s.siteBytes hist), (List.range 1536).flatMap s.clusterBytes,
    (List.range 48).flatMap s.gaz.stackBytes, (List.range 36).flatMap s.gaz.engineBytes,
    (List.range 3320).flatMap (s.braidBytes hist),
    (List.range 3320).flatMap fun b => (List.range 68).flatMap fun l => leBytes 2 (s.laneWord b l),
    (List.range 192).flatMap fun n => (List.range 48).flatMap (s.gaz.pathBytes n),
    (List.range 192).flatMap fun a => (List.range 192).flatMap fun b => leBytes 1 (((s.gaz.path a b).map (·.1)).getD 0xFF),
    hist.flatMap HistEntry.bytes ]

/-- R40: each section laid at the next multiple of 64 bytes: the directory's entries and the bytes. -/
def laySections (at_ : Nat) : List (List Byte) → List (Nat × Nat) × List Byte
  | [] => ([], [])
  | x :: t =>
    let pad := (64 - at_ % 64) % 64
    let (d, bs) := laySections (at_ + pad + x.length) t
    ((at_ + pad, x.length) :: d, List.replicate pad 0 ++ x ++ bs)

/-- R39: the header with its crc field at a value. -/
def State.gazHeader (s : State) (dir : List (Nat × Nat)) (total crc : Nat) : List Byte :=
  let g := s.gaz
  let cs := g.clustersIn
  leBytes 2 1 ++ leBytes 2 192 ++ leBytes 4 total ++ leBytes 8 g.eui.toNat ++ leBytes 4 g.gen ++ leBytes 1 g.grade
    ++ leBytes 1 g.stepping ++ leBytes 2 g.sitesIn.length ++ leBytes 2 cs.length ++ leBytes 2 (cs.filter fun c => c % 8 < 5).length
    ++ leBytes 2 (cs.filter fun c => c % 8 = 5 ∨ c % 8 = 6).length ++ leBytes 2 (cs.filter fun c => c % 8 = 7).length
    ++ leBytes 8 g.changedAt ++ leBytes 4 crc ++ leBytes 1 g.shortfall ++ leBytes 19 0
    ++ dir.flatMap (fun (o, n) => leBytes 4 o ++ leBytes 4 n) ++ leBytes (8 * (16 - dir.length)) 0

/-- R38, R39: the DOMAIN of the current generation. -/
def State.gazDomain (s0 : State) : List Byte :=
  let s := s0.modGaz Gaz.shown
  let (dir, body) := laySections 192 s.gazSections
  let total := 192 + body.length
  s.gazHeader dir total (crc32 (s.gazHeader dir total 0 ++ body)) ++ body

end Sys2Proof.Machine
end

