-- ==== Sys2Proof/Machine/Dictionary.lean ====
section
/-!
DEFINITION. What the Legend's objects read as, and what a write of one does (spec 17 R473 to R478, R493 to R495, and the rules of the
chapters that define each object).
-/
namespace Sys2Proof.Machine

/-! Sizes (R474, R475) -/

/-- R474, R523: the most bytes of a value of variable size. -/
def ObjDef.maxLen (d : ObjDef) : Nat :=
  if d.typ = 0xB then 255 else if 0x1F11 ≤ d.idx ∧ d.idx ≤ 0x1F14 then 64 * 2 ^ 20 else 0xFFFFFFFF

/-- R474: the bytes of the whole value, none for a variable one. -/
def ObjDef.size (d : ObjDef) : Option Nat :=
  if d.typ = 0xD then some (d.n * typeSize d.elem)
  else if d.typ = 0xE ∨ d.typ = 0xB then (if d.n = 0 then none else some d.n)
  else some (typeSize d.typ)

/-- R475: the bytes of one element or record. -/
def ObjDef.unit (d : ObjDef) : Nat := if d.typ = 0xD then typeSize d.elem else d.recSz

/-- R475: the elements or records that a subindex can reach; `len` is the length of the value now. -/
def ObjDef.units (d : ObjDef) (len : Nat) : Nat :=
  if d.typ = 0xD then Nat.min 255 d.n else if d.recSz = 0 then 0 else Nat.min 255 (len / d.recSz)

/-- R484: DESCRIBE's payload; the size of a variable value is its most. -/
def ObjDef.describe (d : ObjDef) : List Byte :=
  leBytes 1 d.typ ++ leBytes 1 d.elem ++ leBytes 1 d.acc ++ leBytes 1 (if d.expert then 1 else 0) ++ leBytes 1 d.pers ++ leBytes 3 0
    ++ leBytes 4 (if d.typ = 0xD then d.n else d.size.getD d.maxLen)

/-! The text and the records that objects show -/

/-- R493: decimal digits as text. -/
def digits (n : Nat) : List Byte := (Nat.toDigits 10 n).map fun c => BitVec.ofNat 8 c.toNat

/-- R493, 19 R521: the version of the running SVF as text (DEDUCED, log entry 47). -/
def versionText (v : Nat) : List Byte := digits (v / 2 ^ 24) ++ [0x2E] ++ digits (v / 2 ^ 16 % 256) ++ [0x2E] ++ digits (v % 2 ^ 16)

/-- R493: the identity record. -/
def State.identityRecord (s : State) : List Byte :=
  leBytes 2 (Config.identity 0) ++ leBytes 2 (Config.identity 1) ++ leBytes 2 (Config.identity 2) ++ leBytes 2 (Config.identity 3)
    ++ leBytes 1 s.gaz.stepping ++ leBytes 1 s.gaz.grade ++ leBytes 2 0 ++ leBytes 8 s.gaz.eui.toNat
    ++ leBytes 8 (Config.identity 4 % 2 ^ 48) ++ leBytes 4 0

/-- R493: 0x1001. -/
def State.panelStatus (s : State) : Nat :=
  s.boot.level.getD 0 + flg 2 s.ctg.approved + flg 3 (s.fw.active == 1) + flg 4 (s.gaz.shortfall != 0) + flg 5 s.cnf.fenced + flg 6 s.boot.restored

/-- R493: the session table, in ascending number. -/
def Legend.sessionTable (l : Legend) : List Byte :=
  ((span 1 200).filterMap fun n => (Tbl.get? l.sessions n).map fun x => (n, x)).flatMap fun ((n, x) : Nat × Sess) =>
    leBytes 2 n ++ leBytes 1 (if x.expert then 1 else 0) ++ leBytes 1 (Endpoint.kind x.ep) ++ leBytes 4 x.timeout ++ leBytes 8 x.last

/-- 22 R591: an element of 0x2204. -/
def State.thermalByte (s : State) (n : Nat) : Nat :=
  let r := s.gaz.site n
  let k := s.clk.site n
  if r.status = 1 ∧ r.reason = 3 then 3
  else if r.status ≠ 0 then 0xFF
  else k.band % 4 + flg 2 k.mcap.isSome + flg 3 (decide (k.cur < s.floorCode))

/-- 22 R591: 0x2510. -/
def State.thermalFlags (s : State) : Nat :=
  let hot (p : ClkSite → Bool) : Bool := s.gaz.sitesIn.any fun x => p (s.clk.site x)
  flg 0 s.clk.trip + flg 1 (hot fun k => k.band == 1 || k.band == 2) + flg 2 (hot fun k => decide (k.cur < s.floorCode))
    + flg 3 ((List.range 48).any fun k => (s.gaz.stack k).status == 0 && (s.stk k).band == 2)

/-- R493: an element of 0x2500. -/
def State.tempWord (s : State) (u : Nat) : Nat :=
  if (if u < 192 then s.gaz.siteIn u else (s.gaz.stack (u - 192)).status == 0) then lowBits 16 (Tbl.get 0 s.clk.snapTemps u) else 0x8000

/-- 15 R429: the partition table. -/
def Partition.bytes (p : Partition) : List Byte :=
  leBytes 2 p.tenant ++ leBytes 1 p.state ++ leBytes 1 (flg 0 p.direct + fld 1 p.maxpay) ++ leBytes 2 p.haltGroup ++ leBytes 2 p.set.length
    ++ leBytes 8 0 ++ leBytes 192 ((p.set.map fun c => 2 ^ c).sum)
    ++ (List.range 48).flatMap fun k => let a := Tbl.get (0, 0) p.allot k; leBytes 2 a.1 ++ leBytes 2 a.2

def Tenancy.partTable (t : Tenancy) : List Byte := (List.range 256).flatMap fun p => (t.part p).bytes

/-- 15 R433: the plot table. -/
def Tenancy.plotTable (t : Tenancy) : List Byte :=
  (List.range 8192).flatMap fun n => match Tbl.get? t.plots n with
    | some x => leBytes 8 x.base ++ leBytes 8 x.length ++ leBytes 2 x.tenant ++ leBytes 1 x.slot ++ [x.perm] ++ leBytes 12 0
    | none => leBytes 32 0

/-- 15 R451: the channel table. -/
def Tenancy.chanTable (t : Tenancy) : List Byte :=
  (List.range 4096).flatMap fun i =>
    let c := t.chan i
    if c.state = 0 then leBytes 40 0
    else leBytes 4 (c.handle i) ++ leBytes 1 c.state ++ leBytes 1 c.prio ++ leBytes 2 c.part ++ leBytes 8 c.sq ++ leBytes 8 c.cq
      ++ leBytes 8 c.win ++ leBytes 4 c.winLen ++ leBytes 2 c.slice ++ leBytes 1 c.saveSlot ++ leBytes 1 0

/-- 23 R603: an event record. -/
def EventRec.bytes (e : EventRec) : List Byte :=
  let b := leBytes 8 e.at_ ++ leBytes 4 e.seq ++ leBytes 2 e.code.num ++ leBytes 2 e.unit ++ leBytes 2 e.sub ++ leBytes 1 e.source
    ++ leBytes 1 e.repeats ++ leBytes 8 e.detail
  b ++ leBytes 4 (crc32 b)

/-- 23 R604: the fault log. -/
def State.logDomain (s : State) : List Byte :=
  let rs := s.log.ring.reverse
  leBytes 2 1 ++ leBytes 2 0 ++ leBytes 4 rs.length ++ leBytes 4 ((rs.head?.map (·.seq)).getD 0) ++ leBytes 4 s.log.overwritten
    ++ leBytes 8 s.mcount ++ leBytes 8 0 ++ rs.flatMap EventRec.bytes

/-! Reads (R476, R478) -/

/-- R478, 20 R535: the objects whose source runs only from part 2 or from the end of part 2 of the start (log entry 48). -/
def State.sourceUp (s : State) (i : Nat) : Bool :=
  if i = 0x2400 ∨ i = 0x2401 then decide (2 ≤ s.boot.part)
  else if [0x2202, 0x2204, 0x2500, 0x2510, 0x3000, 0x3001, 0x3002, 0x5503, 0x5213].contains i then decide (3 ≤ s.boot.part)
  else true

/-- R475, R476: an element of an object as it reads: the block's own value, or the value last written. -/
def State.element (s : State) (i k : Nat) : Nat :=
  match i with
  | 0x1000 => 0x00019248
  | 0x1001 => s.panelStatus
  | 0x1010 => if s.boot.restored then 1 else 0
  | 0x1F01 => s.fw.override
  | 0x2100 => s.pwr.config
  | 0x2101 => s.pwr.pin
  | 0x2102 => s.pwr.vin
  | 0x2110 => flg 0 (s.pwr.sites.any fun (_, x) => x.trayflag) + flg 1 s.pwr.integ
  | 0x2202 => if s.gaz.siteIn k then 800 + 100 * (s.clk.site k).cur else 0
  | 0x2204 => s.thermalByte k
  | 0x2400 => s.mer.unit.statWord
  | 0x2401 => s.mcount
  | 0x2500 => s.tempWord k
  | 0x2510 => s.thermalFlags
  | 0x3001 => s.gaz.shown.gen
  | 0x3002 => s.gaz.shown.shortfall
  | 0x3011 => 0xFF
  | 0x5213 => fld 32 (s.larre.oldTick % 2 ^ 32) + s.larre.oldSum % 2 ^ 32
  | 0x5401 => s.cnf.eclose
  | 0x5402 => s.cnf.nstep
  | 0x5503 => if s.gaz.siteIn k then ((span (8 * k) 8).map fun c => (s.pwr.dom c).sensors).sum else 0
  | 0x7000 => s.ctgState + flg 3 s.ctg.approved + flg 4 (s.ctg.unit (1 - s.fw.active)).up + flg 5 s.ctg.apprRefused
  | 0x7011 => flg 0 s.ctg.fuse
  | 0x7042 => s.ctg.anchorWord
  | 0x7043 => s.ctg.fwRevoked % 16 + fld 4 s.ctg.anchorsRevoked
  | 0x8000 => Tbl.get 0 s.log.counts k
  | 0x9001 => s.diag.word
  | _ => s.obj i k

/-- R475, R476: the bytes of a DOMAIN or STR as it reads. -/
def State.domain (s : State) (d : ObjDef) : List Byte :=
  match d.idx with
  | 0x1008 => [0x54, 0x48, 0x2D, 0x31, 0x39, 0x32, 0x34, 0x38]
  | 0x1009 => if s.fw.accepted 1 then versionText (s.fw.img 1).version else []
  | 0x1018 => s.identityRecord
  | 0x1200 => s.lgd.sessionTable
  | 0x1F00 => s.fw.record
  | 0x3000 => s.gazDomain
  | 0x4000 => s.ten.chanTable
  | 0x4200 => s.ten.partTable
  | 0x4300 => s.ten.plotTable
  | 0x7001 => Config.cryptoBytes 0 0x7001
  | 0x7041 => (List.range 4).flatMap fun n => Tbl.get (leBytes 48 0) s.ctg.anchors n
  | 0x8010 => s.logDomain
  | i => match Tbl.get? s.lgd.doms i with
    | some bs => bs
    | none => leBytes d.n 0

/-- R475: the whole value of an object. -/
def State.value (s : State) (d : ObjDef) : List Byte :=
  if d.typ = 0xE ∨ d.typ = 0xB then s.domain d
  else if d.typ = 0xD then (List.range d.n).flatMap fun k => leBytes (typeSize d.elem) (s.element d.idx k)
  else leBytes (typeSize d.typ) (s.element d.idx 0)

/-- R475: the value that a subindex names. -/
def State.valueAt (s : State) (d : ObjDef) (sub : Nat) : List Byte :=
  if sub = 0 then s.value d else ((s.value d).drop ((sub - 1) * d.unit)).take d.unit

/-- R475: an object has the subindex. -/
def State.hasSub (s : State) (d : ObjDef) (sub : Nat) : Bool :=
  sub == 0 || decide (sub ≤ d.units (if d.typ = 0xE then (s.value d).length else 0))

/-! Writes: what a value may be -/

/-- R475: the elements that a write of `bs` to a subindex gives. -/
def elementsOf (d : ObjDef) (sub : Nat) (bs : List Byte) : List (Nat × Nat) :=
  if d.typ = 0xD then
    let w := typeSize d.elem
    (List.range (bs.length / Nat.max 1 w)).map fun k => ((if sub = 0 then k else sub - 1), leNat ((bs.drop (w * k)).take w))
  else [(0, leNat bs)]

/-- R474 and the defining rule of each object: a scalar or an element may take the value. -/
def State.inRange (s : State) (d : ObjDef) (v : Nat) : Bool :=
  let btw (lo hi : Nat) : Bool := decide (lo ≤ v ∧ v ≤ hi)
  let step (hi : Nat) : Bool := btw 800 hi && v % 100 == 0
  (d.typ != 1 || decide (v ≤ 1)) &&
    (match d.idx with
     | 0x1100 => btw 0 1
     | 0x1101 => btw 10 60000
     | 0x1201 => btw 1000 600000
     | 0x1300 => btw 0 16 || v == 0xFF
     | 0x1301 => btw 2 17
     | 0x2200 => step s.maxStep
     | 0x2201 => step (s.obj 0x2200 0)
     | 0x2203 => step (s.obj 0x2200 0)
     | 0x2300 => btw 0 1
     | 0x3010 => btw 0 2
     | 0x3020 => btw 0 1
     | 0x4100 => v % 16 == 0
     | 0x4400 => btw 0 255
     | 0x4401 => btw 0 255
     | 0x4500 => v / 512 % 64 == 0
     | 0x4501 => v / 512 % 64 == 0
     | 0x5100 => btw 0 2
     | 0x5200 => btw 0 15
     | 0x5201 => btw 0 3
     | 0x5202 => btw 0 0x1FFFF
     | 0x5204 => btw 0 1
     | 0x5212 => btw 0 1
     | 0x5300 => btw 0 2
     | 0x5301 => btw 0 254
     | 0x5304 => btw 0 0xFFFF
     | 0x5500 => btw 0 30 || v == 0x80 || btw 216 255
     | 0x5501 => btw 0 s.ratedPower
     | 0x5502 => btw 0x08 0x77
     | 0x5600 => btw 12 64
     | 0x5601 => btw (s.obj 0x5600 0 + 4) 96
     | _ => true)

/-- R404: a catchment record as it may be written: its sizes, its CRC-32, and who mirrors whom. -/
def catchOk (bs : List Byte) : Bool :=
  let n := le bs 4 1
  let r := catchOfBytes bs
  le bs 0 2 == 1 && decide (8 ≤ n ∧ n ≤ 64) && decide (1 ≤ r.standbys ∧ r.standbys ≤ n - 7) && decide (le bs 10 2 ≤ 4096)
    && bs.length == 16 + 16 * n + 24 * le bs 10 2
    && r.crc == crc32 (bs.take 12 ++ leBytes 4 0 ++ bs.drop 16)
    && (r.entries.filter (·.standby)).length == r.standbys
    && (r.entries.all fun e => e.standby || r.entries.any fun f => !f.standby && f.identity == e.buddy && f.eui != e.eui)
    && (r.manifest.all fun m => decide (m.owner < n ∧ m.slot < 64 ∧ m.mslot < 64 ∧ m.parity ≤ 1))

/-- R463, 15 R430, R450: the objects whose writes the primary owns. -/
def primaryOwned (i : Nat) : Bool := [0x4100, 0x4200, 0x4400, 0x4401, 0x4500, 0x4501].contains i

/-- R461: the write changes the tenant of a VF through which an open channel was created. -/
def State.bindBusy (s : State) (port : Nat) (vs : List (Nat × Nat)) : Bool :=
  vs.any fun (k, v) => s.obj (0x4500 + port) k != v && s.ten.chans.any fun (_, c) => c.state != 0 && c.port == port && c.fn == k + 1

/-! Writes: what they do -/

/-- R476: the elements as last written. -/
def State.setObjs (s : State) (i : Nat) (vs : List (Nat × Nat)) : State := vs.foldl (fun s (k, v) => s.setObj i k v) s

/-- R478: a write of 1 to 0x1010: the host-supplied objects stand restored, and 0x1102 is applied (log entry 49). -/
def State.restoreObjects (s : State) : State :=
  if s.boot.restored then s
  else (s.modBoot fun b => { b with restored := true }).modHosts fun h =>
    { h with members := ((List.range 63).map fun k => s.obj 0x1102 k).filter (· != 0xFFFF) }

/-- R404, R405: a catchment record taken, or the object emptied. -/
def State.takeRecord (s : State) (bs : List Byte) : FCode × State :=
  let put (r : Option Catchment) : State := (s.setDom 0x5400 bs).modCnf fun c => { c with record := r, member := false, neigh := [] }
  if bs.isEmpty then (.ok, put none) else if catchOk bs then (.ok, put (some (catchOfBytes bs))) else (.valueRange, s)

/-- 12 R367: a write of 1 to 0x5205. -/
def State.openPairs (s : State) : State :=
  (List.range 2).foldl (fun s i => (s.modLarre fun l => l.modOxbow i fun o => { o with released := o.released || o.pair }).oxbowOpen i) s

/-- R476, R488: what a write does to a scalar or to elements, once the value may be taken. `fails` and `data` bring what the self-test and
the release of held channels meet outside the panel. -/
def State.writeElements (s : State) (ep : Endpoint) (i : Nat) (vs : List (Nat × Nat)) (fails : Option (Fin 10))
    (data : List (Fin 4096 × List Byte)) : FCode × State :=
  let v := (vs.map (·.2)).headD 0
  let stored := s.setObjs i vs
  let one (t : State) : FCode × State := (.ok, if v = 1 then t else s)
  match i with
  | 0x1010 => one s.restoreObjects
  | 0x1F01 => s.overrideWrite v
  | 0x2200 => (.ok, stored.retarget)
  | 0x2201 => if s.ten.running.isEmpty then (.ok, stored.retarget) else (.busy, s)
  | 0x2203 => (.ok, stored.retarget)
  | 0x3011 => s.reserveActivate v
  | 0x4003 => (match ep with
    | .host p => if s.schedUp then s.destroyBy p 0 v else (.busy, s)
    | .field _ _ => (.tenantDenied, s))
  | 0x4100 => (.ok, vs.foldl (fun s (t, _) => s.shapeTenant t) stored)
  | 0x4400 => (.ok, stored.askHalt v none 0)
  | 0x4401 => (.ok, (stored.releaseHeld v data).nextRun v)
  | 0x4500 => if s.bindBusy 0 vs then (.bindBusy, s) else (.ok, stored)
  | 0x4501 => if s.bindBusy 1 vs then (.bindBusy, s) else (.ok, stored)
  | 0x5205 => (.ok, if v = 1 then stored.openPairs else stored)
  | 0x5211 => let r := s.larreArm (BitVec.ofNat 64 v); (r.1, if r.1 = .ok then r.2.setObj i 0 v else s)
  | 0x5212 => if v = 1 then s.larreRetire else (.ok, s)
  | 0x5215 => (.ok, stored.calendarArm s.larrePorts (v % 2 ^ 48))
  | 0x5305 => let r := s.timeStep (BitVec.ofNat 64 v); (r.1, if r.1 = .ok then r.2.setObj i 0 v else s)
  | 0x5401 => (.ok, s.armClose v)
  | 0x5402 => (.ok, s.modCnf fun c => { c with nstep := v })
  | 0x5406 => one (s.askVote 1)
  | 0x5504 => (.ok, if v = 1 then stored.modPwr fun p => { p with integ := true } else stored)
  | 0x7011 => one (s.modCtg fun c => { c with fuse := true })
  | 0x7020 => one (s.selfTest ((fails.map (·.val)).filter fun f => decide (f < 9)))
  | 0x7030 => one (s.zeroize 1)
  | 0x7031 => s.endLife v
  | 0x7043 => s.anchorRevoke v
  | 0x8011 => one s.clearLog
  | 0x9000 => s.loopback ep v
  | 0x9010 => s.sramTest v
  | 0x9011 => s.stackTest v
  | _ => (.ok, stored)

/-- 18 R516: requester anchors written: one slot, or all four. -/
def State.writeAnchors (s : State) (sub : Nat) (bs : List Byte) : FCode × State :=
  if sub ≠ 0 then s.anchorWrite (sub - 1) bs
  else if s.ctg.anchors.isEmpty then
    (.ok, (List.range 4).foldl (fun s n => (s.anchorWrite n ((bs.drop (48 * n)).take 48)).2) s)
  else (.valueRange, s)

/-- R488: what a write does to a DOMAIN. -/
def State.writeDomain (s : State) (ep : Endpoint) (i sub : Nat) (bs : List Byte) : FCode × State :=
  match i with
  | 0x1F11 => (.ok, s.commitImage 1 bs)
  | 0x1F12 => (.ok, s.commitImage 2 bs)
  | 0x1F13 => (.ok, s.commitImage 3 bs)
  | 0x1F14 => (.ok, s.commitImage 4 bs)
  | 0x4001 => (match ep with
    | .host p => if s.schedUp then s.createChannel p 0 bs else (.busy, s)
    | .field _ _ => (.tenantDenied, s))
  | 0x4200 => s.partWrite (if sub = 0 then bs else s.ten.partTable.take (400 * (sub - 1)) ++ bs ++ s.ten.partTable.drop (400 * sub))
  | 0x4301 => (match ep with
    | .host p => if bs.length < 2 then (.lengthMismatch, s) else s.plotChange p 0 (le bs 0 2) (bs.drop 2)
    | .field _ _ => (.tenantDenied, s))
  | 0x5210 => let r := s.larreTable bs; (r.1, if r.1 = .ok then r.2.setDom i bs else s)
  | 0x5214 => let r := s.calendarLoad bs; (r.1, if r.1 = .ok then r.2.setDom i bs else s)
  | 0x5400 => s.takeRecord bs
  | 0x5403 => (.ok, (s.setDom i bs).modCnf fun c => { c with patches := bs })
  | 0x7041 => s.writeAnchors sub bs
  | _ => (.ok, s.setDom i bs)

/-- R523: a kind's image may be written now: it is not accepted, and from the field network only while no host link is up. -/
def State.imageBusy (s : State) (ep : Endpoint) (i : Nat) : Bool :=
  decide (0x1F11 ≤ i ∧ i ≤ 0x1F14) &&
    (s.fw.accepted (i - 0x1F10) || (Endpoint.kind ep == 2 && ((s.hosts.port 0).linkUp || (s.hosts.port 1).linkUp)))

/-- R474: the length that a write of a subindex must have. -/
def ObjDef.lengthOk (d : ObjDef) (sub n : Nat) : Bool :=
  if sub ≠ 0 then n == d.unit else match d.size with
    | some m => n == m
    | none => decide (n ≤ d.maxLen)

/-- R474 to R477, R488, 18 R514: a value checked by its type and its object's rule and applied whole, or refused. -/
def State.objWrite (s : State) (ep : Endpoint) (d : ObjDef) (sub : Nat) (bs : List Byte) (fails : Option (Fin 10))
    (data : List (Fin 4096 × List Byte)) : FCode × State :=
  if !d.lengthOk sub bs.length then (.lengthMismatch, s)
  else if d.typ = 0xE then
    (if s.imageBusy ep d.idx then (.busy, s) else s.writeDomain ep d.idx sub bs)
  else
    let vs := elementsOf d sub bs
    if !vs.all fun x => s.inRange d x.2 then
      (if s.ctg.approved ∧ (d.idx = 0x5500 ∨ d.idx = 0x5501) then .approvedMode else .valueRange, s)
    else if s.ctg.approved ∧ (d.idx = 0x7050 ∨ d.idx = 0x7051) then (.approvedMode, s)
    else s.writeElements ep d.idx vs fails data

end Sys2Proof.Machine
end

