-- ==== Sys2Proof/Machine/Legend.lean ====
section
/-!
DEFINITION. The LAP operations, sessions and segmented transfers of the Legend server (spec 17 R479 to R489).
-/
namespace Sys2Proof.Machine

/-! What every request passes -/

/-- What an operation answers: its status, ARG, payload, and for OPEN the session assigned. -/
structure Reply where
  status : FCode
  arg : Nat := 0
  payload : List Byte := []
  session : Option Nat := none
  deriving DecidableEq, Repr

/-- R481, R487: sessions whose deadline has passed end, and so do transfers idle for more than 10 s. -/
def State.purge (s : State) : State :=
  s.modLgd fun l =>
    let l1 := l.endWhere fun x => decide (x.deadline < s.mcount)
    { l1 with xfers := l1.xfers.filter fun (_, x) => decide (s.mcount ≤ x.last + 10000000000) }

/-- R478, 19 R523, R531, 20 R539: a request reaches a server: the panel offers a service, the carrier is up, and the Legend server, or before
SVF the boot ROM, runs. A secured message is of an SPDM session open at its endpoint. -/
def State.lapServed (s : State) (h : LapHdr) : Bool :=
  s.boot.level.isSome && (!s.fw.accepted 1 || (s.fw.comp 1).state == 1)
    && (match h.ep with | .host p => (s.hosts.port p).linkUp | .field _ _ => true)
    && (match h.spdm with | some x => (s.spdmOf h.ep x.toNat true).isSome | none => true)

/-- R479, R480: the session that a request names, where it may: its own endpoint, and for an expert session its own SPDM session. -/
def State.sessionOf (s : State) (h : LapHdr) : Option Sess :=
  (Tbl.get? s.lgd.sessions h.session.toNat).filter fun x => x.ep == h.ep && (!x.expert || x.spdm == h.spdm)

/-- R483: a response to a request. -/
def State.answer (s : State) (op : Nat) (h : LapHdr) (r : Reply) : State :=
  s.emit (.lap h.ep (op + 0x80) (r.session.getD h.session.toNat) h.xid.toNat h.index.toNat h.sub.toNat r.status r.arg r.payload)

def State.refuseLap (s : State) (op : Nat) (h : LapHdr) (st : FCode) : State := s.answer op h { status := st }

/-- R486: a response kept by its session, where that still stands. -/
def State.keepReply (s : State) (op : Nat) (h : LapHdr) (r : Reply) : State :=
  let n := h.session.toNat
  match Tbl.get? s.lgd.sessions n with
  | none => s
  | some x =>
    let x1 := x.keep h.xid.toNat ⟨op, n, h.index.toNat, h.sub.toNat, r.status, r.arg, r.payload⟩
    s.modLgd fun l => { l with sessions := Tbl.set l.sessions n x1 }

/-- R481, R483 to R486: a request of a session: refused, answered from the cache, or executed with its answer kept. The session's
deadline is renewed. -/
def State.inLap (s : State) (op : Nat) (h : LapHdr) (f : Sess → State → Reply × State) : State :=
  if !s.lapServed h then s
  else
    let s1 := s.purge
    let n := h.session.toNat
    if h.ver ≠ 1 then s1.refuseLap op h .version
    else match s1.sessionOf h with
    | none => s1.refuseLap op h .sessionInvalid
    | some x =>
      let x1 := { x with last := s1.mcount, warned := false }
      let s2 := s1.modLgd fun l => { l with sessions := Tbl.set l.sessions n x1 }
      match x.cache.find? fun (k, _) => k == h.xid.toNat with
      | some (k, r) => s2.emit (.lap h.ep (r.op + 0x80) r.session k r.index r.sub r.status r.arg r.payload)
      | none =>
        let (r, s3) := f x1 s2
        (s3.keepReply op h r).answer op h r

/-- R479: a request in session 0. -/
def State.sessionless (s : State) (op : Nat) (h : LapHdr) (f : State → Reply × State) : State :=
  if !s.lapServed h then s
  else
    let s1 := s.purge
    if h.ver ≠ 1 then s1.refuseLap op h .version
    else let (r, s2) := f s1
         s2.answer op h r

/-- A request that session 0 may carry too. -/
def State.anyLap (s : State) (op : Nat) (h : LapHdr) (f : Option Sess → State → Reply × State) : State :=
  if h.session = 0 then s.sessionless op h (f none) else s.inLap op h fun x => f (some x)

/-! Objects (R473 to R477) -/

/-- 19 R523, R524: what the boot ROM serves; it takes the images of the other kinds too (log entry 50). -/
def bootObjects : List Nat := [0x1000, 0x1001, 0x1008, 0x1018, 0x1F00, 0x1F11, 0x1F12, 0x1F13, 0x1F14, 0x7000, 0x7001]

/-- R473: the dictionary that the running server holds. -/
def State.lookup (s : State) (i : Nat) : Option ObjDef :=
  (objDef i).filter fun d => s.fw.accepted 1 || bootObjects.contains d.idx

/-- R475, R479: the object and subindex that a request names, or why not. Session 0 reaches basic objects of access CONST or RO. -/
def State.reach (s : State) (h : LapHdr) (x : Option Sess) : Except FCode ObjDef :=
  match s.lookup h.index.toNat with
  | none => .error .noObject
  | some d =>
    if !s.hasSub d h.sub.toNat then .error .noSubindex
    else if x.isNone && (d.expert || decide (1 < d.acc)) then .error .sessionInvalid
    else .ok d

/-- R476 to R478: why a read is refused. -/
def State.readRefused (s : State) (d : ObjDef) (x : Option Sess) : Option FCode :=
  if d.expert && !(x.any (·.expert)) then some .levelDenied
  else if d.acc = 3 then some .accessDenied
  else if !s.sourceUp d.idx then some .notReady
  else none

/-- 18 R516: requester anchors may be written without a session: every slot is empty, and the approved mode is not in force. -/
def State.openAnchors (s : State) (d : ObjDef) : Bool := d.idx == 0x7041 && s.ctg.anchors.isEmpty && !s.ctg.approved

/-- R463, R476, R477: why a write is refused before its value is looked at. -/
def State.writeRefused (s : State) (h : LapHdr) (d : ObjDef) (x : Option Sess) : Option FCode :=
  if primaryOwned d.idx && Endpoint.kind h.ep != s.hosts.primary then some .roleDenied
  else if d.expert && !(x.any (·.expert)) && !s.openAnchors d then some .levelDenied
  else if d.acc ≤ 1 then some .accessDenied
  else none

/-- R488: an object has an open segmented write. -/
def Legend.writing (l : Legend) (i : Nat) : Bool := l.xfers.any fun (_, x) => x.write && x.index == i

/-! READ, WRITE, DESCRIBE (R484) -/

def State.lapRead (s : State) (h : LapHdr) (x : Option Sess) : Reply :=
  match s.reach h x with
  | .error e => { status := e }
  | .ok d =>
    match s.readRefused d x with
    | some e => { status := e }
    | none =>
      let bs := s.valueAt d h.sub.toNat
      if (Endpoint.segment h.ep) < bs.length then { status := .lengthMismatch } else { status := .ok, arg := bs.length, payload := bs }

def execLapRead (h : LapHdr) (s : State) : Ans := .next (s.anyLap 1 h fun x s => (s.lapRead h x, s))

/-- R475, R476, R488: a WRITE. -/
def State.lapWrite (s : State) (h : LapHdr) (x : Option Sess) (bs : List Byte) (fails : Option (Fin 10)) (data : List (Fin 4096 × List Byte)) :
    Reply × State :=
  match s.lookup h.index.toNat with
  | none => ({ status := .noObject }, s)
  | some d =>
    if !s.hasSub d h.sub.toNat then ({ status := .noSubindex }, s)
    else if x.isNone && !s.openAnchors d then ({ status := .sessionInvalid }, s)
    else match s.writeRefused h d x with
    | some e => ({ status := e }, s)
    | none =>
      if (Endpoint.segment h.ep) < bs.length then ({ status := .lengthMismatch }, s)
      else if s.lgd.writing d.idx then ({ status := .busy }, s)
      else let (st, s1) := s.objWrite h.ep d h.sub.toNat bs fails data
           ({ status := st }, s1)

def execLapWrite (h : LapHdr) (value : List Byte) (fails : Option (Fin 10)) (data : List (Fin 4096 × List Byte)) (s : State) : Ans :=
  .next (s.anyLap 2 h fun x s => s.lapWrite h x value fails data)

/-- R484: the attributes of an object, whatever its level (log entry 51). -/
def execLapDescribe (h : LapHdr) (s : State) : Ans :=
  .next (s.anyLap 3 h fun x s => match s.reach h x with
    | .error e => ({ status := e }, s)
    | .ok d => ({ status := .ok, payload := d.describe }, s))

/-! Segmented transfers (R487, R488) -/

/-- R485: the value of the object is none of one scalar. -/
def ObjDef.segmented (d : ObjDef) : Bool := d.typ == 0xB || d.typ == 0xD || d.typ == 0xE

/-- R479: one more transfer would pass a limit. -/
def Legend.xferFull (l : Legend) (n : Nat) : Bool := decide (4 ≤ (l.xfers.filter fun (_, x) => x.sess == n).length) || decide (16 ≤ l.xfers.length)

/-- R479: a transfer opened; its number is the lowest free one (log entry 26). -/
def State.openXfer (s : State) (x : Xfer) (f : Nat → Reply) : Reply × State :=
  match (if s.lgd.xferFull x.sess then none else s.lgd.freeXfer) with
  | none => ({ status := .transferLimit }, s)
  | some n => (f n, s.modLgd fun l => { l with xfers := Tbl.set l.xfers n x })

/-- R487: a snapshot for a segmented read. -/
def execSegReadStart (h : LapHdr) (s : State) : Ans :=
  .next (s.inLap 4 h fun x s =>
    match s.reach h (some x) with
    | .error e => ({ status := e }, s)
    | .ok d =>
      match s.readRefused d (some x) with
      | some e => ({ status := e }, s)
      | none =>
        if !d.segmented then ({ status := .typeMismatch }, s)
        else
          let bs := s.valueAt d h.sub.toNat
          s.openXfer ⟨h.session.toNat, d.idx, h.sub.toNat, false, bs.length, bs, [], s.mcount⟩ fun n =>
            { status := .ok, arg := bs.length, payload := leBytes 2 n ++ leBytes 2 0 ++ leBytes 4 (crc32 bs) })

/-- The transfer that a request of a session names, of its kind, its idle time begun anew. -/
def State.xferOf (s : State) (h : LapHdr) (n : Nat) (write : Bool) : Option Xfer :=
  (Tbl.get? s.lgd.xfers n).filter fun y => y.sess == h.session.toNat && y.write == write

def State.putXfer (s : State) (n : Nat) (y : Xfer) : State := s.modLgd fun l => { l with xfers := Tbl.set l.xfers n { y with last := s.mcount } }

/-- R487: bytes of the snapshot. -/
def execSegRead (h : LapHdr) (xfer want : Half) (off : Word32) (s : State) : Ans :=
  .next (s.inLap 5 h fun _ s =>
    match s.xferOf h xfer.toNat false with
    | none => ({ status := .segmentInvalid }, s)
    | some y =>
      let s1 := s.putXfer xfer.toNat y
      if y.total < off.toNat then ({ status := .segmentInvalid }, s1)
      else
        let bs := (y.data.drop off.toNat).take (Nat.min want.toNat (Endpoint.segment h.ep))
        ({ status := .ok, arg := bs.length, payload := bs }, s1))

/-- R488: a staged write opened. -/
def execSegWriteStart (h : LapHdr) (total : Word32) (s : State) : Ans :=
  .next (s.inLap 6 h fun x s =>
    match s.reach h (some x) with
    | .error e => ({ status := e }, s)
    | .ok d =>
      match s.writeRefused h d (some x) with
      | some e => ({ status := e }, s)
      | none =>
        if !d.segmented then ({ status := .typeMismatch }, s)
        else if !d.lengthOk h.sub.toNat total.toNat then ({ status := .lengthMismatch }, s)
        else if s.lgd.writing d.idx || s.imageBusy h.ep d.idx then ({ status := .busy }, s)
        else s.openXfer ⟨h.session.toNat, d.idx, h.sub.toNat, true, total.toNat, [], [], s.mcount⟩ fun n => { status := .ok, payload := leBytes 2 n })

/-- R488: bytes staged; a byte written twice keeps its last value. -/
def execSegWrite (h : LapHdr) (xfer : Half) (off : Word32) (data : List Byte) (s : State) : Ans :=
  .next (s.inLap 7 h fun _ s =>
    match s.xferOf h xfer.toNat true with
    | none => ({ status := .segmentInvalid }, s)
    | some y =>
      if (Endpoint.segment h.ep) < data.length then ({ status := .lengthMismatch }, s.putXfer xfer.toNat y)
      else if y.total < off.toNat + data.length then ({ status := .segmentInvalid }, s.putXfer xfer.toNat y)
      else
        let t := (data.mapIdx fun i b => (off.toNat + i, b)).foldl (fun (t : Tbl Byte) (p : Nat × Byte) => Tbl.set t p.1 p.2) y.staged
        ({ status := .ok }, s.putXfer xfer.toNat { y with staged := t }))

/-- R488: a commit: refused with the transfer open for want of bytes or a wrong CRC-32, else applied whole or refused by the object's rule,
and the transfer ends. -/
def execSegWriteEnd (h : LapHdr) (xfer : Half) (crc : Word32) (s : State) : Ans :=
  .next (s.inLap 8 h fun _ s =>
    match s.xferOf h xfer.toNat true with
    | none => ({ status := .segmentInvalid }, s)
    | some y =>
      match y.assembled with
      | none => ({ status := .segmentInvalid }, s.putXfer xfer.toNat y)
      | some bs =>
        if crc32 bs ≠ crc.toNat then ({ status := .crcMismatch }, s.putXfer xfer.toNat y)
        else
          let s1 := s.modLgd fun l => { l with xfers := Tbl.erase l.xfers xfer.toNat }
          match objDef y.index with
          | none => ({ status := .noObject }, s1)
          | some d =>
            let (st, s2) := s1.objWrite h.ep d y.sub bs none []
            ({ status := st }, s2))

/-- R487, R488: a transfer ends. -/
def execSegAbort (h : LapHdr) (xfer : Half) (s : State) : Ans :=
  .next (s.inLap 9 h fun _ s =>
    match Tbl.get? s.lgd.xfers xfer.toNat with
    | some y =>
      if y.sess = h.session.toNat then ({ status := .ok }, s.modLgd fun l => { l with xfers := Tbl.erase l.xfers xfer.toNat })
      else ({ status := .segmentInvalid }, s)
    | none => ({ status := .segmentInvalid }, s))

/-! OPEN, CLOSE, PING (R479 to R481, R484) -/

/-- R480: an endpoint owns the expert sessions: the primary's PF; the field network while no host link is up and the primary holds none. -/
def State.expertOwner (s : State) (ep : Endpoint) : Bool :=
  match ep with
  | .host p => s.hosts.primary == p.val
  | .field _ _ => !(s.hosts.port 0).linkUp && !(s.hosts.port 1).linkUp
      && !(s.lgd.sessions.any fun (_, x) => x.expert && Endpoint.kind x.ep != 2)

/-- R479: sessions of an endpoint's kind, basic or expert. -/
def Legend.openCount (l : Legend) (expert : Bool) (kind : Nat) : Nat :=
  (l.sessions.filter fun (_, x) => x.expert == expert && (expert || Endpoint.kind x.ep == kind)).length

/-- R479 to R481: an OPEN, expert in its SPDM session of the CO role. -/
def State.lapOpen (s : State) (h : LapHdr) (level : Nat) (flags : Byte) (spdm : Word32) (timeout : Nat) : Reply × State :=
  let ms := if timeout = 0 then s.obj 0x1201 0 else timeout
  let expert := level == 1
  if 1 < level ∨ ms < 1000 ∨ 600000 < ms then ({ status := .valueRange }, s)
  else if h.session ≠ 0 ∨ (expert ∧ h.spdm ≠ some spdm) then ({ status := .sessionInvalid }, s)
  else if expert ∧ !(s.fw.accepted 1 && s.expertOwner h.ep && ((s.spdmOf h.ep spdm.toNat true).map (·.role)) == some 1) then ({ status := .roleDenied }, s)
  else
    let s1 := if expert ∧ Endpoint.kind h.ep ≠ 2 then s.closeSessions fun x => x.expert && Endpoint.kind x.ep == 2 else s
    if s1.lgd.openCount expert (Endpoint.kind h.ep) ≥ (if expert then 4 else 32) then ({ status := .sessionLimit }, s)
    else match s1.lgd.freeSession with
    | none => ({ status := .sessionLimit }, s)
    | some n =>
      let x : Sess := { ep := h.ep, expert := expert, spdm := if expert then some spdm else none, note := flags.getLsbD 0, timeout := ms, last := s1.mcount }
      ({ status := .ok, session := some n, payload := leBytes 2 (Endpoint.segment h.ep) ++ leBytes 2 0 ++ leBytes 4 ms },
       s1.modLgd fun l => { l with sessions := Tbl.set l.sessions n x })

def execLapOpen (h : LapHdr) (level flags : Byte) (spdm timeout : Word32) (s : State) : Ans :=
  .next (s.sessionless 0x10 h fun s => s.lapOpen h level.toNat flags spdm timeout.toNat)

/-- R481: a CLOSE. -/
def execLapClose (h : LapHdr) (s : State) : Ans :=
  .next (s.inLap 0x11 h fun _ s => ({ status := .ok }, s.modLgd fun l => l.endSession h.session.toNat))

/-- R484: the Meridian count. -/
def execLapPing (h : LapHdr) (s : State) : Ans :=
  .next (s.inLap 0x12 h fun _ s => ({ status := .ok, payload := leBytes 8 s.mcount }, s))

/-! Time (R481, R487, R489) -/

/-- R481: the deadline of a session has passed. -/
def execSessionExpiry (n : Half) (s : State) : Ans :=
  .next (match Tbl.get? s.lgd.sessions n.toNat with
    | some x => if x.deadline < s.mcount then s.modLgd fun l => l.endSession n.toNat else s
    | none => s)

/-- R489: a session is within 1 s of its deadline. -/
def execSessionExpiryWarning (n : Half) (s : State) : Ans :=
  .next (match Tbl.get? s.lgd.sessions n.toNat with
    | some x =>
      if x.note && !x.warned && decide (x.deadline ≤ s.mcount + 1000000000) then
        (s.modLgd fun l => { l with sessions := Tbl.set l.sessions n.toNat { x with warned := true } }).emit (.notify x.ep n.toNat 0x0004 0 s.mcount)
      else s
    | none => s)

/-- R487, R488: a transfer that no request has named for 10 s ends. -/
def execTransferIdleExpiry (x : Half) (s : State) : Ans :=
  .next (match Tbl.get? s.lgd.xfers x.toNat with
    | some y => if y.last + 10000000000 < s.mcount then s.modLgd fun l => { l with xfers := Tbl.erase l.xfers x.toNat } else s
    | none => s)

/-- R478: 0x1010 is written 1 in an expert session. -/
def execHostSuppliedRestored (s : State) : Ans := .next s.restoreObjects

end Sys2Proof.Machine
end

