-- ==== Sys2Proof/Machine/Matrix.lean ====
section
/-!
DEFINITION. The meanings of the matrix-slot operations and of the matrix engine's events (spec 04).
-/
namespace Sys2Proof.Machine

/-- R102, R107, R108, R162, R621: a matrix-slot word issued alone by cluster `c`: held by an interlock or a Weir range (before
its refusals: DEDUCED, log entry 77), refused with its trap, or given a place of its unit. -/
def matrixRow (c : ClusterId) (w : Word32) (s : State) : State :=
  let k := s.cl c
  match decMatrix k.mx w with
  | .nop => s
  | .illegal sub => s.enterTrap c .illegalBundle (if clusterKind c = 0 then sub else Nat.min sub 3)
  | .op o =>
    if clusterKind c ≠ 0 then s.enterTrap c .illegalBundle 3
    else if mxHeld k.mx o then s
    else if k.spd.weirStalls o.extents then s.modCl c fun k => { k with spd := k.spd.noteStall }
    else match mxRefuse k.mx k.spd o with
      | some (cause, sub) => (s.modCl c fun k => (k.headerRead cause sub o.header).refuseMx cause sub).enterTrap c cause sub
      | none => s.modCl c fun k => { k with mx := mxIssue k.mx o }

/-- R103, R167: MMA. -/
def execMma (c : ClusterId) (ta tb : BitVec 4) (accb : BitVec 2) (opens : Bool) (km1 : BitVec 12) (s : State) : Ans :=
  .next (matrixRow c (BitVec.ofNat 32 (fld 28 1 + fld 24 ta.toNat + fld 20 tb.toNat + fld 18 accb.toNat + flg 17 opens + fld 5 km1.toNat)) s)

/-- R114, R167: MREAD. -/
def execMread (c : ClusterId) (td : BitVec 4) (accb : BitVec 2) (s : State) : Ans :=
  .next (matrixRow c (BitVec.ofNat 32 (fld 28 2 + fld 24 td.toNat + fld 18 accb.toNat)) s)

/-- R116, R167: MSPILL. -/
def execMspill (c : ClusterId) (td : BitVec 4) (accb : BitVec 2) (cut : BitVec 3) (s : State) : Ans :=
  .next (matrixRow c (BitVec.ofNat 32 (fld 28 3 + fld 24 td.toNat + fld 18 accb.toNat + fld 15 cut.toNat)) s)

/-- R117, R167: MCOMB. -/
def execMcomb (c : ClusterId) (td : BitVec 4) (accb : BitVec 2) (cut : BitVec 3) (cutself : Bool) (s : State) : Ans :=
  .next (matrixRow c (BitVec.ofNat 32 (fld 28 4 + fld 24 td.toNat + fld 18 accb.toNat + fld 15 cut.toNat + flg 14 cutself)) s)

/-- R100, R101, R104: the product array's next operation starts its first k-step; none where it has started or the array is
idle, or, after a stop of R181 or 08 R226, where it was queued. -/
def execMmaFirstKstep (c : ClusterId) (s : State) : Ans :=
  .next (if (s.cl c).sq.engHold then s else s.modCl c fun k => { k with mx := k.mx.startMma })

/-- R100, R103, R121: the running MMA's last k-step; a zeroization holds its reads (08 R242). -/
def execMmaLastKstep (c : ClusterId) (s : State) : Ans := .next (if (s.cl c).spd.zRun then s else s.modCl c Cluster.finishMma)

/-- R108, R118: the read-out unit's next operation starts once its banks are readable. -/
def execReadoutStart (c : ClusterId) (s : State) : Ans :=
  .next (if (s.cl c).mx.roReady && !(s.cl c).sq.engHold then s.modCl c fun k => { k with mx := k.mx.startRo } else s)

/-- R118: the running read-out operation completes its last write; a zeroization holds its accesses (08 R242). -/
def execReadoutComplete (c : ClusterId) (s : State) : Ans := .next (if (s.cl c).spd.zRun then s else s.modCl c Cluster.finishRo)

/-- R124: a read of MXE_CEIL by the register path returns the maximum and clears it. -/
def execMxeCeilRead (c : ClusterId) (s : State) : Ans := .next (s.modCl c fun k => { k with mx := k.mx.readCeil.2 })

end Sys2Proof.Machine
end

