-- ==== Sys2Proof/Machine/Registers.lean ====
section
/-!
DEFINITION. A write to a register of control space (spec 01 R28, R29, 00 R16, R17, and the register maps of each block). `ctl` is the writer
(01 R29). A bit that starts an action starts it here as its own row does.
-/
namespace Sys2Proof.Machine

/-- The entries of `w` bytes that an aligned 8-byte word covers, each with its number in the table. -/
def wordEntries (w off v : Nat) : List (Nat × Nat) := (List.range (8 / w)).map fun i => (off / w + i, v / 2 ^ (8 * w * i) % 2 ^ (8 * w))

/-- 09 R286, R276: a word of a router's table slot; the slot of the current or draining edition (V0, V1) is left. -/
def State.writeRoutes (s : State) (site : Nat) (e multi : Bool) (off v : Nat) : State :=
  let r := s.delta.router site
  if r.slotHeld e then s
  else s.modDelta fun d =>
    let t := d.tabs e
    let t1 : RouteTables :=
      if multi then { t with multi := (wordEntries 4 off v).foldl (fun m (k, x) => Tbl.set m (site * 4096 + k) (BitVec.ofNat 32 x)) t.multi }
      else { t with uni := (wordEntries 2 off v).foldl (fun m (k, x) => if k < 512 then Tbl.set m (site * 512 + k) (BitVec.ofNat 16 x) else m) t.uni }
    if e then { d with tabs1 := t1 } else { d with tabs0 := t1 }

/-- 12 R370: a word of a Larre table slot; the panel's tables are one (log entry 52). -/
def State.writeLarreTable (s : State) (e : Bool) (off v : Nat) : State :=
  if s.larre.slotHeld e then s
  else s.modLarre fun l =>
    l.setTab e ((wordEntries 1 off v).foldl (fun m ((k, x) : Nat × Nat) => if x = 0xFF then Tbl.erase m k else Tbl.set m k (BitVec.ofNat 8 x)) (l.tab e))

/-- 10 R305, R309, R310, R312: a LEV register of a unit; LEV_CTL takes a write of a Lockkeeper, a stack controller or an expert object only;
a new MTHR may set MLOW; GO starts the loopback. -/
def State.writeLev (s : State) (unit j off v : Nat) (ctl : Writer) : State :=
  match levIndex unit j with
  | none => s
  | some (b, hi) =>
    if off = 0x08 ∧ !ctl.owner then s
    else
    let s1 := (s.modBrd b fun x => (x.modEnd hi fun e => e.write off v).checkLow).watchLow b hi
    if off = 0x30 ∧ v / 2 ^ 31 % 2 = 1 then s1.levLoopback b hi (v / 2 ^ 28 % 8) (v / 2 ^ 24 % 16) else s1

/-- 13 R401: a MER register of a die. -/
def DieTime.write (d : DieTime) (off v : Nat) : DieTime :=
  if off = 8 then { d with dloss := d.dloss && v / 16 % 2 = 0, mmiss := d.mmiss && v / 8 % 2 = 0 } else d

/-- 13 R402: a register of the Meridian unit. -/
def MerUnit.write (u : MerUnit) (off v : Nat) : MerUnit :=
  if off = 0 then
    { u with ufault := u.ufault && v / 2 ^ 10 % 2 = 0, diverge := u.diverge && v / 2 ^ 9 % 2 = 0
             posbad := u.posbad && v / 2 ^ 8 % 2 = 0, frerr := u.frerr && v / 2 ^ 7 % 2 = 0 }
  else if off = 8 ∧ v % 2 = 1 then { u.closeRelay with rclosed := true }
  else u

/-- 12 R370, R373: LRL_SWITCH, of an engine or a router's copy: writing arms it. -/
def State.writeLarreSwitch (s : State) (v : Nat) : State := s.modLarre fun l => l.arm v

/-- A register of a compute site; at service level 0 no cluster operates (00 R20, log entry 71). -/
def State.writeSite (s : State) (x off v : Nat) (ctl : Writer) : State :=
  if off < 0x800000 then
    (if s.atZero then s else s.modCl (8 * x + off / 0x100000) fun k => csrWrite (clusterKind (off / 0x100000)) (some ctl) k (off % 0x100000) v)
  else if 0x900000 ≤ off ∧ off < 0x904000 then s.modDelta fun d => d.modRouter x fun r => r.write (off - 0x900000) v
  else if 0x904000 ≤ off ∧ off < 0x906000 then s.writeRoutes x (decide (0x905000 ≤ off)) false ((off - 0x904000) % 0x1000) v
  else if 0x908000 ≤ off ∧ off < 0x910000 then s.writeRoutes x (decide (0x90C000 ≤ off)) true ((off - 0x908000) % 0x4000) v
  else if 0x940000 ≤ off ∧ off < 0x960000 then s.writeLarreTable (decide (0x950000 ≤ off)) ((off - 0x940000) % 0x10000) v
  else if off = 0x960000 then s.writeLarreSwitch v
  else if 0xA00000 ≤ off ∧ off < 0xA02600 then s.writeLev x ((off - 0xA00000) / 0x100) ((off - 0xA00000) % 0x100) v ctl
  else if 0xB00000 ≤ off ∧ off < 0xC00000 then s.modMer fun m => m.modDie x fun d => d.write (off - 0xB00000) v
  else if 0xC00000 ≤ off ∧ off < 0xD00000 then s.modPwr fun p => p.modSite x fun y => y.write (off - 0xC00000) v
  else if 0xD00000 ≤ off ∧ off < 0xD10000 then s.modClk fun k => k.modSite x fun y => y.write false (off - 0xD00000) v
  else if 0xD10000 ≤ off ∧ off < 0xE00000 then s.modClk fun k => k.modSite x fun y => y.write true (off - 0xD10000) v
  else s

/-- A register of a stack's base die. -/
def State.writeStack (s : State) (k off v : Nat) (ctl : Writer) : State :=
  if 0x800000 ≤ off ∧ off < 0x900000 then s.modStk k fun x => x.write (off - 0x800000) v ctl
  else if 0xA00000 ≤ off ∧ off < 0xA00800 then s.writeLev (192 + k) ((off - 0xA00000) / 0x100) ((off - 0xA00000) % 0x100) v ctl
  else if 0xB00000 ≤ off ∧ off < 0xC00000 then s.modMer fun m => m.modDie (192 + k) fun d => d.write (off - 0xB00000) v
  else s

/-- 14 R425 to R427: a CNF register. -/
def State.writeCnf (s : State) (off v : Nat) : State :=
  if off = 0x08 then
    let s1 := if v / 2 % 2 = 1 then s.askVote 1 else s
    if v % 2 = 1 then s1.fence else s1
  else if off = 0x18 then s.armClose v
  else s.modCnf fun c => c.write off v

/-- A register of Surveyor die `i`: its own Cartouche, and where it is the active one the panel's blocks; the standby's mirror those. The Surveyor
and expert objects alone write MER_UCTL (13 R400). -/
def State.writeSurveyor (s : State) (i off v : Nat) (ctl : Writer) : State :=
  if 0x900000 ≤ off ∧ off < 0xA00000 then s.modCtg fun c => c.modUnit i fun u => u.write (off - 0x900000) v
  else if i ≠ s.fw.active then s
  else if 0x600000 ≤ off ∧ off < 0x700000 then
    (if off = 0x600008 ∧ !ctl.panel then s else s.modUnit fun u => u.write (off - 0x600000) v)
  else if 0x700000 ≤ off ∧ off < 0x800000 then s.writeCnf (off - 0x700000) v
  else if 0xA00000 ≤ off ∧ off < 0xB00000 then s.modPwr fun p => p.write (off - 0xA00000) v
  else if off = 0xB00000 then s.modClk fun k => { k with tripw := k.tripw && v / 2 ^ 46 % 2 = 0 }
  else s

/-- 16 R466, R472: a register of a host-port die: the epoch of a role request, the HALT doorbell, which the primary alone has, and the
address of HALT's completion record. -/
def State.writeHost (s : State) (p off v : Nat) : State :=
  if off = 0x100008 then s.modHosts fun h => h.modPort p fun x =>
    let x1 := { x with reqEpoch := v / 2 ^ 32 % 2 ^ 32 }
    if v % 2 = 0 || x.goAt.isSome || s.isMember then x1 else { x1 with goAt := some (s.mcount, v / 2 ^ 32 % 2 ^ 32), result := 1 }
  else if off = 0x101000 then (if s.hosts.primary ≠ p then s else s.askHalt (v % 256) (some p) (v / 2 ^ 32 % 2 ^ 32))
  else if off = 0x101008 then s.modHosts fun h => h.modPort p fun x => { x with haltCq := v % 2 ^ 49 / 16 * 16 }
  else if 0xB00000 ≤ off ∧ off < 0xC00000 then s.modMer fun m => m.modDie (0x142 + p) fun d => d.write (off - 0xB00000) v
  else s

/-- 12 R370, R372, R374, 13 R395, R396: a register of engine `n`; `off` lies within its 64 KiB. The Surveyor and expert objects alone write
EST_OXB, EST_LB and LRL_CTL. -/
def State.writeEngine (s : State) (n off v : Nat) (ctl : Writer) : State :=
  let p := (off - 0x8000) / 0x800
  let q := (off - 0x8000) % 0x800
  if !ctl.panel && (off == 0x30 || off == 0x38 || (decide (0x8000 ≤ off ∧ off < 0xA000) && q == 8)) then s
  else if off = 0x30 then
    (if n % 18 < 2 then
      let s1 := if v / 4 % 2 = 1 then s.oxbowOpen (n / 18) else s
      if v / 8 % 2 = 1 then s1.modLarre fun l => l.modOxbow (n / 18) Oxbow.close else s1
    else s)
  else if off = 0x38 then
    let s1 := s.modLarre fun l => l.modEngine n fun e => e.write off v
    if v / 2 ^ 31 % 2 = 1 then s1.estLoopback n (v / 2 ^ 20 % 4) (v / 2 ^ 28 % 8) (v / 2 ^ 24 % 16) else s1
  else if off = 0x108 then s.writeLarreSwitch v
  else if 0x8000 ≤ off ∧ off < 0xA000 ∧ q = 0xC0 then s.calendarArm [4 * n + p] (v % 2 ^ 48)
  else if 0x8000 ≤ off ∧ off < 0xA000 ∧ 0x200 ≤ q ∧ q < 0x600 then
    s.modMer fun m => m.modCal (4 * n + p) fun c => c.write ((q - 0x200) / 0x200) ((q - 0x200) % 0x200 / 8) (BitVec.ofNat 64 v)
  else s.modLarre fun l => l.modEngine n fun e => e.write off v

/-- 01 R28, R29: a register of a control unit; an offset that names none ignores the write. -/
def State.writeRegister (s : State) (unit off v : Nat) (ctl : Writer) : State :=
  if s.boot.level.isNone ∨ off % 8 ≠ 0 then s
  else if unit < 192 then s.writeSite unit off v ctl
  else if unit < 240 then s.writeStack (unit - 192) off v ctl
  else if unit < 242 then s.writeSurveyor (unit - 240) off v ctl
  else if unit < 244 then s.writeHost (unit - 242) off v
  else if unit = 0xF8 then
    (if off < 36 * 0x10000 then s.writeEngine (off / 0x10000) (off % 0x10000) v ctl
    else if 0x1000000 ≤ off ∧ off < 0x1000000 + 36 * 0x20000 then s.writeLarreTable (decide (0x10000 ≤ off % 0x20000)) (off % 0x10000) v
    else s)
  else s

/-- 00 R16: a write to a register without a row of its own. -/
def execRegisterWrite (unit : Byte) (off : Word) (w : CtlWrite) (s : State) : Ans :=
  .next (s.writeRegister unit.toNat off.toNat w.value.toNat w.ctl)

end Sys2Proof.Machine
end

