-- ==== Sys2Proof/Machine/Vector.lean ====
section
/-!
DEFINITION. The meanings of the vector-slot operations and of the vector engine's events (spec 05).
-/
namespace Sys2Proof.Machine

/-- R128 to R141, R162, R171: a vector-slot word issued alone by cluster `c`: held while an operation runs (R131) or by a
Weir range, refused with its trap, or started. A recorded operation that waits for its resumption goes before it (R140). -/
def vectorWord (c : ClusterId) (w : Word32) (s : State) : State :=
  let k := s.cl c
  let g := k.sq.gpr (decVec w).vs
  if clusterKind c ≠ 1 then s.enterTrap c .illegalBundle 4
  else if k.vx.run.isSome then s
  else if k.vx.resumeDue && !k.sq.inh then s.modCl c Cluster.resumeVx
  else if k.spd.weirStalls (vecExtents w k.vx.lsd k.vx.rdesc g) then s.modCl c fun k => { k with spd := k.spd.noteStall }
  else match vecIllegal w k.vx.lsd k.vx.rdesc g with
    | some sub => s.enterTrap c .illegalBundle sub
    | none =>
      match vecRefuse k.vx k.spd w g false with
      | some (cause, sub) => (s.modCl c fun k => (k.headerRead cause sub (vecHeader w k.vx.rdesc g)).refuseVx cause w).enterTrap c cause sub
      | none => s.modCl c fun k => { k with vx := k.vx.issue w g }

/-- R168: a vector-slot operation by its VOP and fields. -/
def vecRow (vop : Nat) (c : ClusterId) (vd vs : Reg) (m : BitVec 3) (count : BitVec 13) (s : State) : Ans :=
  .next (vectorWord c (encVec vop vd vs m count) s)

/-- R130, R168: VADD_F, VOP 0x01. -/
def execVaddF (c : ClusterId) (vd vs : Reg) (m : BitVec 3) (count : BitVec 13) (s : State) : Ans :=
  vecRow 0x01 c vd vs m count s

/-- R130, R168: VSUB_F, VOP 0x02. -/
def execVsubF (c : ClusterId) (vd vs : Reg) (m : BitVec 3) (count : BitVec 13) (s : State) : Ans :=
  vecRow 0x02 c vd vs m count s

/-- R130, R168: VMUL_F, VOP 0x03. -/
def execVmulF (c : ClusterId) (vd vs : Reg) (m : BitVec 3) (count : BitVec 13) (s : State) : Ans :=
  vecRow 0x03 c vd vs m count s

/-- R130, R168: VMIN_F, VOP 0x04. -/
def execVminF (c : ClusterId) (vd vs : Reg) (m : BitVec 3) (count : BitVec 13) (s : State) : Ans :=
  vecRow 0x04 c vd vs m count s

/-- R130, R168: VMAX_F, VOP 0x05. -/
def execVmaxF (c : ClusterId) (vd vs : Reg) (m : BitVec 3) (count : BitVec 13) (s : State) : Ans :=
  vecRow 0x05 c vd vs m count s

/-- R130, R168: VADD_H, VOP 0x06. -/
def execVaddH (c : ClusterId) (vd vs : Reg) (m : BitVec 3) (count : BitVec 13) (s : State) : Ans :=
  vecRow 0x06 c vd vs m count s

/-- R130, R168: VSUB_H, VOP 0x07. -/
def execVsubH (c : ClusterId) (vd vs : Reg) (m : BitVec 3) (count : BitVec 13) (s : State) : Ans :=
  vecRow 0x07 c vd vs m count s

/-- R130, R168: VMUL_H, VOP 0x08. -/
def execVmulH (c : ClusterId) (vd vs : Reg) (m : BitVec 3) (count : BitVec 13) (s : State) : Ans :=
  vecRow 0x08 c vd vs m count s

/-- R130, R168: VMIN_H, VOP 0x09. -/
def execVminH (c : ClusterId) (vd vs : Reg) (m : BitVec 3) (count : BitVec 13) (s : State) : Ans :=
  vecRow 0x09 c vd vs m count s

/-- R130, R168: VMAX_H, VOP 0x0A. -/
def execVmaxH (c : ClusterId) (vd vs : Reg) (m : BitVec 3) (count : BitVec 13) (s : State) : Ans :=
  vecRow 0x0A c vd vs m count s

/-- R130, R168: VFMA_F, VOP 0x0B. -/
def execVfmaF (c : ClusterId) (vd vs : Reg) (m : BitVec 3) (count : BitVec 13) (s : State) : Ans :=
  vecRow 0x0B c vd vs m count s

/-- R130, R168: VFMA_H, VOP 0x0C. -/
def execVfmaH (c : ClusterId) (vd vs : Reg) (m : BitVec 3) (count : BitVec 13) (s : State) : Ans :=
  vecRow 0x0C c vd vs m count s

/-- R207, R168: VCVT_F32_TO_BF16, VOP 0x0D. -/
def execVcvtF32ToBf16 (c : ClusterId) (vd vs : Reg) (m : BitVec 3) (count : BitVec 13) (s : State) : Ans :=
  vecRow 0x0D c vd vs m count s

/-- R207, R168: VCVT_BF16_TO_F32, VOP 0x0E. -/
def execVcvtBf16ToF32 (c : ClusterId) (vd vs : Reg) (m : BitVec 3) (count : BitVec 13) (s : State) : Ans :=
  vecRow 0x0E c vd vs m count s

/-- R207, R168: VCVT_F32_TO_F16, VOP 0x0F. -/
def execVcvtF32ToF16 (c : ClusterId) (vd vs : Reg) (m : BitVec 3) (count : BitVec 13) (s : State) : Ans :=
  vecRow 0x0F c vd vs m count s

/-- R207, R168: VCVT_F16_TO_F32, VOP 0x10. -/
def execVcvtF16ToF32 (c : ClusterId) (vd vs : Reg) (m : BitVec 3) (count : BitVec 13) (s : State) : Ans :=
  vecRow 0x10 c vd vs m count s

/-- R130, R168: VIADD, VOP 0x11. -/
def execViadd (c : ClusterId) (vd vs : Reg) (m : BitVec 3) (count : BitVec 13) (s : State) : Ans :=
  vecRow 0x11 c vd vs m count s

/-- R130, R168: VISUB, VOP 0x12. -/
def execVisub (c : ClusterId) (vd vs : Reg) (m : BitVec 3) (count : BitVec 13) (s : State) : Ans :=
  vecRow 0x12 c vd vs m count s

/-- R130, R168: VAND, VOP 0x13. -/
def execVand (c : ClusterId) (vd vs : Reg) (m : BitVec 3) (count : BitVec 13) (s : State) : Ans :=
  vecRow 0x13 c vd vs m count s

/-- R130, R168: VOR, VOP 0x14. -/
def execVor (c : ClusterId) (vd vs : Reg) (m : BitVec 3) (count : BitVec 13) (s : State) : Ans :=
  vecRow 0x14 c vd vs m count s

/-- R130, R168: VXOR, VOP 0x15. -/
def execVxor (c : ClusterId) (vd vs : Reg) (m : BitVec 3) (count : BitVec 13) (s : State) : Ans :=
  vecRow 0x15 c vd vs m count s

/-- R130, R168: VSHL, VOP 0x16. -/
def execVshl (c : ClusterId) (vd vs : Reg) (m : BitVec 3) (count : BitVec 13) (s : State) : Ans :=
  vecRow 0x16 c vd vs m count s

/-- R130, R168: VSHR, VOP 0x17. -/
def execVshr (c : ClusterId) (vd vs : Reg) (m : BitVec 3) (count : BitVec 13) (s : State) : Ans :=
  vecRow 0x17 c vd vs m count s

/-- R130, R168: VSRA, VOP 0x18. -/
def execVsra (c : ClusterId) (vd vs : Reg) (m : BitVec 3) (count : BitVec 13) (s : State) : Ans :=
  vecRow 0x18 c vd vs m count s

/-- R130, R168: VCMP_EQ_F, VOP 0x19. -/
def execVcmpEqF (c : ClusterId) (vd vs : Reg) (m : BitVec 3) (count : BitVec 13) (s : State) : Ans :=
  vecRow 0x19 c vd vs m count s

/-- R130, R168: VCMP_NE_F, VOP 0x1A. -/
def execVcmpNeF (c : ClusterId) (vd vs : Reg) (m : BitVec 3) (count : BitVec 13) (s : State) : Ans :=
  vecRow 0x1A c vd vs m count s

/-- R130, R168: VCMP_LT_F, VOP 0x1B. -/
def execVcmpLtF (c : ClusterId) (vd vs : Reg) (m : BitVec 3) (count : BitVec 13) (s : State) : Ans :=
  vecRow 0x1B c vd vs m count s

/-- R130, R168: VCMP_LE_F, VOP 0x1C. -/
def execVcmpLeF (c : ClusterId) (vd vs : Reg) (m : BitVec 3) (count : BitVec 13) (s : State) : Ans :=
  vecRow 0x1C c vd vs m count s

/-- R130, R168: VCMP_EQ_H, VOP 0x1D. -/
def execVcmpEqH (c : ClusterId) (vd vs : Reg) (m : BitVec 3) (count : BitVec 13) (s : State) : Ans :=
  vecRow 0x1D c vd vs m count s

/-- R130, R168: VCMP_NE_H, VOP 0x1E. -/
def execVcmpNeH (c : ClusterId) (vd vs : Reg) (m : BitVec 3) (count : BitVec 13) (s : State) : Ans :=
  vecRow 0x1E c vd vs m count s

/-- R130, R168: VCMP_LT_H, VOP 0x1F. -/
def execVcmpLtH (c : ClusterId) (vd vs : Reg) (m : BitVec 3) (count : BitVec 13) (s : State) : Ans :=
  vecRow 0x1F c vd vs m count s

/-- R130, R168: VCMP_LE_H, VOP 0x20. -/
def execVcmpLeH (c : ClusterId) (vd vs : Reg) (m : BitVec 3) (count : BitVec 13) (s : State) : Ans :=
  vecRow 0x20 c vd vs m count s

/-- R130, R168: VCMP_EQ_I, VOP 0x21. -/
def execVcmpEqI (c : ClusterId) (vd vs : Reg) (m : BitVec 3) (count : BitVec 13) (s : State) : Ans :=
  vecRow 0x21 c vd vs m count s

/-- R130, R168: VCMP_NE_I, VOP 0x22. -/
def execVcmpNeI (c : ClusterId) (vd vs : Reg) (m : BitVec 3) (count : BitVec 13) (s : State) : Ans :=
  vecRow 0x22 c vd vs m count s

/-- R130, R168: VCMP_LT_I, VOP 0x23. -/
def execVcmpLtI (c : ClusterId) (vd vs : Reg) (m : BitVec 3) (count : BitVec 13) (s : State) : Ans :=
  vecRow 0x23 c vd vs m count s

/-- R130, R168: VCMP_LE_I, VOP 0x24. -/
def execVcmpLeI (c : ClusterId) (vd vs : Reg) (m : BitVec 3) (count : BitVec 13) (s : State) : Ans :=
  vecRow 0x24 c vd vs m count s

/-- R130, R168: VBCAST, VOP 0x25. -/
def execVbcast (c : ClusterId) (vd vs : Reg) (m : BitVec 3) (count : BitVec 13) (s : State) : Ans :=
  vecRow 0x25 c vd vs m count s

/-- R135, R168: VEXP2_F, VOP 0x26. -/
def execVexp2F (c : ClusterId) (vd vs : Reg) (m : BitVec 3) (count : BitVec 13) (s : State) : Ans :=
  vecRow 0x26 c vd vs m count s

/-- R135, R168: VLOG2_F, VOP 0x27. -/
def execVlog2F (c : ClusterId) (vd vs : Reg) (m : BitVec 3) (count : BitVec 13) (s : State) : Ans :=
  vecRow 0x27 c vd vs m count s

/-- R135, R168: VRCP_F, VOP 0x28. -/
def execVrcpF (c : ClusterId) (vd vs : Reg) (m : BitVec 3) (count : BitVec 13) (s : State) : Ans :=
  vecRow 0x28 c vd vs m count s

/-- R135, R168: VRSQ_F, VOP 0x29. -/
def execVrsqF (c : ClusterId) (vd vs : Reg) (m : BitVec 3) (count : BitVec 13) (s : State) : Ans :=
  vecRow 0x29 c vd vs m count s

/-- R135, R168: VTANH_F, VOP 0x2A. -/
def execVtanhF (c : ClusterId) (vd vs : Reg) (m : BitVec 3) (count : BitVec 13) (s : State) : Ans :=
  vecRow 0x2A c vd vs m count s

/-- R135, R168: VSIG_F, VOP 0x2B. -/
def execVsigF (c : ClusterId) (vd vs : Reg) (m : BitVec 3) (count : BitVec 13) (s : State) : Ans :=
  vecRow 0x2B c vd vs m count s

/-- R135, R168: VEXP2_H, VOP 0x2C. -/
def execVexp2H (c : ClusterId) (vd vs : Reg) (m : BitVec 3) (count : BitVec 13) (s : State) : Ans :=
  vecRow 0x2C c vd vs m count s

/-- R135, R168: VLOG2_H, VOP 0x2D. -/
def execVlog2H (c : ClusterId) (vd vs : Reg) (m : BitVec 3) (count : BitVec 13) (s : State) : Ans :=
  vecRow 0x2D c vd vs m count s

/-- R135, R168: VRCP_H, VOP 0x2E. -/
def execVrcpH (c : ClusterId) (vd vs : Reg) (m : BitVec 3) (count : BitVec 13) (s : State) : Ans :=
  vecRow 0x2E c vd vs m count s

/-- R135, R168: VRSQ_H, VOP 0x2F. -/
def execVrsqH (c : ClusterId) (vd vs : Reg) (m : BitVec 3) (count : BitVec 13) (s : State) : Ans :=
  vecRow 0x2F c vd vs m count s

/-- R135, R168: VTANH_H, VOP 0x30. -/
def execVtanhH (c : ClusterId) (vd vs : Reg) (m : BitVec 3) (count : BitVec 13) (s : State) : Ans :=
  vecRow 0x30 c vd vs m count s

/-- R135, R168: VSIG_H, VOP 0x31. -/
def execVsigH (c : ClusterId) (vd vs : Reg) (m : BitVec 3) (count : BitVec 13) (s : State) : Ans :=
  vecRow 0x31 c vd vs m count s

/-- R132, R168: VLD, VOP 0x32. -/
def execVld (c : ClusterId) (vd vs : Reg) (m : BitVec 3) (count : BitVec 13) (s : State) : Ans :=
  vecRow 0x32 c vd vs m count s

/-- R132, R168: VST, VOP 0x33. -/
def execVst (c : ClusterId) (vd vs : Reg) (m : BitVec 3) (count : BitVec 13) (s : State) : Ans :=
  vecRow 0x33 c vd vs m count s

/-- R134, R168: VCOMPRESS, VOP 0x34. -/
def execVcompress (c : ClusterId) (vd vs : Reg) (m : BitVec 3) (count : BitVec 13) (s : State) : Ans :=
  vecRow 0x34 c vd vs m count s

/-- R134, R168: VEXPAND, VOP 0x35. -/
def execVexpand (c : ClusterId) (vd vs : Reg) (m : BitVec 3) (count : BitVec 13) (s : State) : Ans :=
  vecRow 0x35 c vd vs m count s

/-- R136, R168: VRSUM, VOP 0x36. -/
def execVrsum (c : ClusterId) (vd vs : Reg) (m : BitVec 3) (count : BitVec 13) (s : State) : Ans :=
  vecRow 0x36 c vd vs m count s

/-- R136, R168: VRSUM_OPEN, VOP 0x37. -/
def execVrsumOpen (c : ClusterId) (vd vs : Reg) (m : BitVec 3) (count : BitVec 13) (s : State) : Ans :=
  vecRow 0x37 c vd vs m count s

/-- R136, R168: VRDOT, VOP 0x38. -/
def execVrdot (c : ClusterId) (vd vs : Reg) (m : BitVec 3) (count : BitVec 13) (s : State) : Ans :=
  vecRow 0x38 c vd vs m count s

/-- R136, R168: VRDOT_OPEN, VOP 0x39. -/
def execVrdotOpen (c : ClusterId) (vd vs : Reg) (m : BitVec 3) (count : BitVec 13) (s : State) : Ans :=
  vecRow 0x39 c vd vs m count s

/-- R136, R168: VROUT, VOP 0x3A. -/
def execVrout (c : ClusterId) (vd vs : Reg) (m : BitVec 3) (count : BitVec 13) (s : State) : Ans :=
  vecRow 0x3A c vd vs m count s

/-- R136, R168: VRSPILL, VOP 0x3B. -/
def execVrspill (c : ClusterId) (vd vs : Reg) (m : BitVec 3) (count : BitVec 13) (s : State) : Ans :=
  vecRow 0x3B c vd vs m count s

/-- R136, R168: VRCOMB, VOP 0x3C. -/
def execVrcomb (c : ClusterId) (vd vs : Reg) (m : BitVec 3) (count : BitVec 13) (s : State) : Ans :=
  vecRow 0x3C c vd vs m count s

/-- R137, R168: VFSUM, VOP 0x3D. -/
def execVfsum (c : ClusterId) (vd vs : Reg) (m : BitVec 3) (count : BitVec 13) (s : State) : Ans :=
  vecRow 0x3D c vd vs m count s

/-- R141, R168: VSHST, VOP 0x3E. -/
def execVshst (c : ClusterId) (vd vs : Reg) (m : BitVec 3) (count : BitVec 13) (s : State) : Ans :=
  vecRow 0x3E c vd vs m count s

/-- R141, R168: VSHLD, VOP 0x3F. -/
def execVshld (c : ClusterId) (vd vs : Reg) (m : BitVec 3) (count : BitVec 13) (s : State) : Ans :=
  vecRow 0x3F c vd vs m count s

/-- R131, R138: the running vector operation commits one beat; a suspension asked for at a trap entry takes effect here. A zeroization holds the
beat (08 R242). -/
def execVxBeatCommit (c : ClusterId) (s : State) : Ans := .next (if (s.cl c).spd.zRun then s else s.modCl c Cluster.commitBeat)

/-- R149: a read of VXE_CEIL returns the maximum and clears it. -/
def execVxeCeilRead (c : ClusterId) (s : State) : Ans := .next (s.modCl c fun k => { k with vx := k.vx.readCeil.2 })

end Sys2Proof.Machine
end

