-- ==== Sys2Proof/Machine/Dispatch.lean ====
section
/-!
DEFINITION. The dispatch: one arm per constructor of Instr, each one direct call of its meaning.
-/
namespace Sys2Proof.Machine

def exec (i : Instr) (s : State) : Host.Outcome State Fault Refusal :=
  match i with
  | .gazetteerChangeSet es => Sys2Proof.Machine.execGazetteerChangeSet es s
  | .expertStatusCommand u st => Sys2Proof.Machine.execExpertStatusCommand u st s
  | .reserveActivate site => Sys2Proof.Machine.execReserveActivate site s
  | .reservePowerUp => Sys2Proof.Machine.execReservePowerUp s
  | .reserveSelfTest rs => Sys2Proof.Machine.execReserveSelfTest rs s
  | .reserveLinkTraining bs => Sys2Proof.Machine.execReserveLinkTraining bs s
  | .reserveEdition t tsw => Sys2Proof.Machine.execReserveEdition t tsw s
  | .activationComplete => Sys2Proof.Machine.execActivationComplete s
  | .chartLoad p chart syms start => Sys2Proof.Machine.execChartLoad p chart syms start s
  | .mma c ta tb accb opens km1 => Sys2Proof.Machine.execMma c ta tb accb opens km1 s
  | .mread c td accb => Sys2Proof.Machine.execMread c td accb s
  | .mspill c td accb cut => Sys2Proof.Machine.execMspill c td accb cut s
  | .mcomb c td accb cut cutself => Sys2Proof.Machine.execMcomb c td accb cut cutself s
  | .mmaFirstKstep c => Sys2Proof.Machine.execMmaFirstKstep c s
  | .mmaLastKstep c => Sys2Proof.Machine.execMmaLastKstep c s
  | .readoutStart c => Sys2Proof.Machine.execReadoutStart c s
  | .readoutComplete c => Sys2Proof.Machine.execReadoutComplete c s
  | .mxeCeilRead c => Sys2Proof.Machine.execMxeCeilRead c s
  | .vaddF c vd vs m count => Sys2Proof.Machine.execVaddF c vd vs m count s
  | .vsubF c vd vs m count => Sys2Proof.Machine.execVsubF c vd vs m count s
  | .vmulF c vd vs m count => Sys2Proof.Machine.execVmulF c vd vs m count s
  | .vminF c vd vs m count => Sys2Proof.Machine.execVminF c vd vs m count s
  | .vmaxF c vd vs m count => Sys2Proof.Machine.execVmaxF c vd vs m count s
  | .vaddH c vd vs m count => Sys2Proof.Machine.execVaddH c vd vs m count s
  | .vsubH c vd vs m count => Sys2Proof.Machine.execVsubH c vd vs m count s
  | .vmulH c vd vs m count => Sys2Proof.Machine.execVmulH c vd vs m count s
  | .vminH c vd vs m count => Sys2Proof.Machine.execVminH c vd vs m count s
  | .vmaxH c vd vs m count => Sys2Proof.Machine.execVmaxH c vd vs m count s
  | .vfmaF c vd vs m count => Sys2Proof.Machine.execVfmaF c vd vs m count s
  | .vfmaH c vd vs m count => Sys2Proof.Machine.execVfmaH c vd vs m count s
  | .vcvtF32ToBf16 c vd vs m count => Sys2Proof.Machine.execVcvtF32ToBf16 c vd vs m count s
  | .vcvtBf16ToF32 c vd vs m count => Sys2Proof.Machine.execVcvtBf16ToF32 c vd vs m count s
  | .vcvtF32ToF16 c vd vs m count => Sys2Proof.Machine.execVcvtF32ToF16 c vd vs m count s
  | .vcvtF16ToF32 c vd vs m count => Sys2Proof.Machine.execVcvtF16ToF32 c vd vs m count s
  | .viadd c vd vs m count => Sys2Proof.Machine.execViadd c vd vs m count s
  | .visub c vd vs m count => Sys2Proof.Machine.execVisub c vd vs m count s
  | .vand c vd vs m count => Sys2Proof.Machine.execVand c vd vs m count s
  | .vor c vd vs m count => Sys2Proof.Machine.execVor c vd vs m count s
  | .vxor c vd vs m count => Sys2Proof.Machine.execVxor c vd vs m count s
  | .vshl c vd vs m count => Sys2Proof.Machine.execVshl c vd vs m count s
  | .vshr c vd vs m count => Sys2Proof.Machine.execVshr c vd vs m count s
  | .vsra c vd vs m count => Sys2Proof.Machine.execVsra c vd vs m count s
  | .vcmpEqF c vd vs m count => Sys2Proof.Machine.execVcmpEqF c vd vs m count s
  | .vcmpNeF c vd vs m count => Sys2Proof.Machine.execVcmpNeF c vd vs m count s
  | .vcmpLtF c vd vs m count => Sys2Proof.Machine.execVcmpLtF c vd vs m count s
  | .vcmpLeF c vd vs m count => Sys2Proof.Machine.execVcmpLeF c vd vs m count s
  | .vcmpEqH c vd vs m count => Sys2Proof.Machine.execVcmpEqH c vd vs m count s
  | .vcmpNeH c vd vs m count => Sys2Proof.Machine.execVcmpNeH c vd vs m count s
  | .vcmpLtH c vd vs m count => Sys2Proof.Machine.execVcmpLtH c vd vs m count s
  | .vcmpLeH c vd vs m count => Sys2Proof.Machine.execVcmpLeH c vd vs m count s
  | .vcmpEqI c vd vs m count => Sys2Proof.Machine.execVcmpEqI c vd vs m count s
  | .vcmpNeI c vd vs m count => Sys2Proof.Machine.execVcmpNeI c vd vs m count s
  | .vcmpLtI c vd vs m count => Sys2Proof.Machine.execVcmpLtI c vd vs m count s
  | .vcmpLeI c vd vs m count => Sys2Proof.Machine.execVcmpLeI c vd vs m count s
  | .vbcast c vd vs m count => Sys2Proof.Machine.execVbcast c vd vs m count s
  | .vexp2F c vd vs m count => Sys2Proof.Machine.execVexp2F c vd vs m count s
  | .vlog2F c vd vs m count => Sys2Proof.Machine.execVlog2F c vd vs m count s
  | .vrcpF c vd vs m count => Sys2Proof.Machine.execVrcpF c vd vs m count s
  | .vrsqF c vd vs m count => Sys2Proof.Machine.execVrsqF c vd vs m count s
  | .vtanhF c vd vs m count => Sys2Proof.Machine.execVtanhF c vd vs m count s
  | .vsigF c vd vs m count => Sys2Proof.Machine.execVsigF c vd vs m count s
  | .vexp2H c vd vs m count => Sys2Proof.Machine.execVexp2H c vd vs m count s
  | .vlog2H c vd vs m count => Sys2Proof.Machine.execVlog2H c vd vs m count s
  | .vrcpH c vd vs m count => Sys2Proof.Machine.execVrcpH c vd vs m count s
  | .vrsqH c vd vs m count => Sys2Proof.Machine.execVrsqH c vd vs m count s
  | .vtanhH c vd vs m count => Sys2Proof.Machine.execVtanhH c vd vs m count s
  | .vsigH c vd vs m count => Sys2Proof.Machine.execVsigH c vd vs m count s
  | .vld c vd vs m count => Sys2Proof.Machine.execVld c vd vs m count s
  | .vst c vd vs m count => Sys2Proof.Machine.execVst c vd vs m count s
  | .vcompress c vd vs m count => Sys2Proof.Machine.execVcompress c vd vs m count s
  | .vexpand c vd vs m count => Sys2Proof.Machine.execVexpand c vd vs m count s
  | .vrsum c vd vs m count => Sys2Proof.Machine.execVrsum c vd vs m count s
  | .vrsumOpen c vd vs m count => Sys2Proof.Machine.execVrsumOpen c vd vs m count s
  | .vrdot c vd vs m count => Sys2Proof.Machine.execVrdot c vd vs m count s
  | .vrdotOpen c vd vs m count => Sys2Proof.Machine.execVrdotOpen c vd vs m count s
  | .vrout c vd vs m count => Sys2Proof.Machine.execVrout c vd vs m count s
  | .vrspill c vd vs m count => Sys2Proof.Machine.execVrspill c vd vs m count s
  | .vrcomb c vd vs m count => Sys2Proof.Machine.execVrcomb c vd vs m count s
  | .vfsum c vd vs m count => Sys2Proof.Machine.execVfsum c vd vs m count s
  | .vshst c vd vs m count => Sys2Proof.Machine.execVshst c vd vs m count s
  | .vshld c vd vs m count => Sys2Proof.Machine.execVshld c vd vs m count s
  | .vxBeatCommit c => Sys2Proof.Machine.execVxBeatCommit c s
  | .vxeCeilRead c => Sys2Proof.Machine.execVxeCeilRead c s
  | .sxThreadStart site t => Sys2Proof.Machine.execSxThreadStart site t s
  | .sxThreadStop site t => Sys2Proof.Machine.execSxThreadStop site t s
  | .sxGroupIssue site => Sys2Proof.Machine.execSxGroupIssue site s
  | .beq site t rd rs1 imm => Sys2Proof.Machine.execBeq site t rd rs1 imm s
  | .bne site t rd rs1 imm => Sys2Proof.Machine.execBne site t rd rs1 imm s
  | .blt site t rd rs1 imm => Sys2Proof.Machine.execBlt site t rd rs1 imm s
  | .bge site t rd rs1 imm => Sys2Proof.Machine.execBge site t rd rs1 imm s
  | .jr site t rs1 => Sys2Proof.Machine.execJr site t rs1 s
  | .ldx site t rd rs1 size off => Sys2Proof.Machine.execLdx site t rd rs1 size off s
  | .stx site t rd rs1 size off => Sys2Proof.Machine.execStx site t rd rs1 size off s
  | .amoadd site t rd rs1 xs wide => Sys2Proof.Machine.execAmoadd site t rd rs1 xs wide s
  | .amomax site t rd rs1 xs wide => Sys2Proof.Machine.execAmomax site t rd rs1 xs wide s
  | .cas site t rd rs1 xs wide => Sys2Proof.Machine.execCas site t rd rs1 xs wide s
  | .sxfence site t => Sys2Proof.Machine.execSxfence site t s
  | .gather site t rd rs1 => Sys2Proof.Machine.execGather site t rd rs1 s
  | .gwait site t rs1 => Sys2Proof.Machine.execGwait site t rs1 s
  | .sxdone site t => Sys2Proof.Machine.execSxdone site t s
  | .gatherComplete site ticket data => Sys2Proof.Machine.execGatherComplete site ticket data s
  | .storeBufferDrain ag => Sys2Proof.Machine.execStoreBufferDrain ag s
  | .bundleIssue c => Sys2Proof.Machine.execBundleIssue c s
  | .add ag rd rs1 rs2 => Sys2Proof.Machine.execAdd ag rd rs1 rs2 s
  | .sub ag rd rs1 rs2 => Sys2Proof.Machine.execSub ag rd rs1 rs2 s
  | .and ag rd rs1 rs2 => Sys2Proof.Machine.execAnd ag rd rs1 rs2 s
  | .or ag rd rs1 rs2 => Sys2Proof.Machine.execOr ag rd rs1 rs2 s
  | .xor ag rd rs1 rs2 => Sys2Proof.Machine.execXor ag rd rs1 rs2 s
  | .shl ag rd rs1 rs2 => Sys2Proof.Machine.execShl ag rd rs1 rs2 s
  | .shr ag rd rs1 rs2 => Sys2Proof.Machine.execShr ag rd rs1 rs2 s
  | .sra ag rd rs1 rs2 => Sys2Proof.Machine.execSra ag rd rs1 rs2 s
  | .mul ag rd rs1 rs2 => Sys2Proof.Machine.execMul ag rd rs1 rs2 s
  | .mulhu ag rd rs1 rs2 => Sys2Proof.Machine.execMulhu ag rd rs1 rs2 s
  | .min ag rd rs1 rs2 => Sys2Proof.Machine.execMin ag rd rs1 rs2 s
  | .max ag rd rs1 rs2 => Sys2Proof.Machine.execMax ag rd rs1 rs2 s
  | .slt ag rd rs1 rs2 => Sys2Proof.Machine.execSlt ag rd rs1 rs2 s
  | .sltu ag rd rs1 rs2 => Sys2Proof.Machine.execSltu ag rd rs1 rs2 s
  | .addi ag rd rs1 imm => Sys2Proof.Machine.execAddi ag rd rs1 imm s
  | .andi ag rd rs1 imm => Sys2Proof.Machine.execAndi ag rd rs1 imm s
  | .ori ag rd rs1 imm => Sys2Proof.Machine.execOri ag rd rs1 imm s
  | .xori ag rd rs1 imm => Sys2Proof.Machine.execXori ag rd rs1 imm s
  | .shli ag rd rs1 imm => Sys2Proof.Machine.execShli ag rd rs1 imm s
  | .shri ag rd rs1 imm => Sys2Proof.Machine.execShri ag rd rs1 imm s
  | .srai ag rd rs1 imm => Sys2Proof.Machine.execSrai ag rd rs1 imm s
  | .lih ag rd imm => Sys2Proof.Machine.execLih ag rd imm s
  | .fadd ag rd rs1 rs2 => Sys2Proof.Machine.execFadd ag rd rs1 rs2 s
  | .fsub ag rd rs1 rs2 => Sys2Proof.Machine.execFsub ag rd rs1 rs2 s
  | .fmul ag rd rs1 rs2 => Sys2Proof.Machine.execFmul ag rd rs1 rs2 s
  | .fmin ag rd rs1 rs2 => Sys2Proof.Machine.execFmin ag rd rs1 rs2 s
  | .fmax ag rd rs1 rs2 => Sys2Proof.Machine.execFmax ag rd rs1 rs2 s
  | .fcmplt ag rd rs1 rs2 => Sys2Proof.Machine.execFcmplt ag rd rs1 rs2 s
  | .fcmpeq ag rd rs1 rs2 => Sys2Proof.Machine.execFcmpeq ag rd rs1 rs2 s
  | .fcvtif ag rd rs1 => Sys2Proof.Machine.execFcvtif ag rd rs1 s
  | .fcvtfi ag rd rs1 => Sys2Proof.Machine.execFcvtfi ag rd rs1 s
  | .ld ag rd rs1 imm => Sys2Proof.Machine.execLd ag rd rs1 imm s
  | .st ag rd rs1 imm => Sys2Proof.Machine.execSt ag rd rs1 imm s
  | .csrr c rd csr => Sys2Proof.Machine.execCsrr c rd csr s
  | .csrw c rs1 csr => Sys2Proof.Machine.execCsrw c rs1 csr s
  | .csrs c rs1 csr => Sys2Proof.Machine.execCsrs c rs1 csr s
  | .csrc c rs1 csr => Sys2Proof.Machine.execCsrc c rs1 csr s
  | .tdw c td rs1 rs2 => Sys2Proof.Machine.execTdw c td rs1 rs2 s
  | .tdrl c rd td => Sys2Proof.Machine.execTdrl c rd td s
  | .tdrh c rd td => Sys2Proof.Machine.execTdrh c rd td s
  | .jmp ag off => Sys2Proof.Machine.execJmp ag off s
  | .loop ag rd imm => Sys2Proof.Machine.execLoop ag rd imm s
  | .sync c rs1 rs2 => Sys2Proof.Machine.execSync c rs1 rs2 s
  | .waitc ag rs1 => Sys2Proof.Machine.execWaitc ag rs1 s
  | .yield c imm => Sys2Proof.Machine.execYield c imm s
  | .tret c => Sys2Proof.Machine.execTret c s
  | .sqend c => Sys2Proof.Machine.execSqend c s
  | .dmaRd c gd lcls => Sys2Proof.Machine.execDmaRd c gd lcls s
  | .dmaWr c gd lcls => Sys2Proof.Machine.execDmaWr c gd lcls s
  | .dsend c gd lcls => Sys2Proof.Machine.execDsend c gd lcls s
  | .ssend c gd lcls cut => Sys2Proof.Machine.execSsend c gd lcls cut s
  | .moveComplete c tag data poison => Sys2Proof.Machine.execMoveComplete c tag data poison s
  | .moveTimerExpiry c tag => Sys2Proof.Machine.execMoveTimerExpiry c tag s
  | .syncDeadline c => Sys2Proof.Machine.execSyncDeadline c s
  | .trapEntry c => Sys2Proof.Machine.execTrapEntry c s
  | .sequencerStart c => Sys2Proof.Machine.execSequencerStart c s
  | .sequencerStop c => Sys2Proof.Machine.execSequencerStop c s
  | .scrubRead c bank faults => Sys2Proof.Machine.execScrubRead c bank faults s
  | .columnRepairStart c => Sys2Proof.Machine.execColumnRepairStart c s
  | .columnRepairCopyDone c => Sys2Proof.Machine.execColumnRepairCopyDone c s
  | .zeroizationStart c => Sys2Proof.Machine.execZeroizationStart c s
  | .zeroizationComplete c verified => Sys2Proof.Machine.execZeroizationComplete c verified s
  | .weirAllocation c => Sys2Proof.Machine.execWeirAllocation c s
  | .spdCounterRead c uncorrected => Sys2Proof.Machine.execSpdCounterRead c uncorrected s
  | .weirStallRead c => Sys2Proof.Machine.execWeirStallRead c s
  | .packetInject site port p move => Sys2Proof.Machine.execPacketInject site port p move s
  | .deltaHop site port p => Sys2Proof.Machine.execDeltaHop site port p s
  | .directPacketDelivery unit cluster p => Sys2Proof.Machine.execDirectPacketDelivery unit cluster p s
  | .streamPacketDelivery c p => Sys2Proof.Machine.execStreamPacketDelivery c p s
  | .deltaAck src unit mark rcvd good => Sys2Proof.Machine.execDeltaAck src unit mark rcvd good s
  | .deltaNak c move code good => Sys2Proof.Machine.execDeltaNak c move code good s
  | .deltaProbe unit src => Sys2Proof.Machine.execDeltaProbe unit src s
  | .weirReq c src out reqid length base => Sys2Proof.Machine.execWeirReq c src out reqid length base s
  | .weirGrant src c reqid entry => Sys2Proof.Machine.execWeirGrant src c reqid entry s
  | .deltaRead unit p data => Sys2Proof.Machine.execDeltaRead unit p data s
  | .mack site port group count => Sys2Proof.Machine.execMack site port group count s
  | .deltaHalt c group tenant ackreq => Sys2Proof.Machine.execDeltaHalt c group tenant ackreq s
  | .ackTimer unit src => Sys2Proof.Machine.execAckTimer unit src s
  | .probeTimeout src unit => Sys2Proof.Machine.execProbeTimeout src unit s
  | .eddyRecoveryTimer src unit => Sys2Proof.Machine.execEddyRecoveryTimer src unit s
  | .hopack site port freed => Sys2Proof.Machine.execHopack site port freed s
  | .csync site port freed => Sys2Proof.Machine.execCsync site port freed s
  | .editionPublish stages tsw => Sys2Proof.Machine.execEditionPublish stages tsw s
  | .editionSwitch => Sys2Proof.Machine.execEditionSwitch s
  | .oldcntLatch => Sys2Proof.Machine.execOldcntLatch s
  | .shaperRefill => Sys2Proof.Machine.execShaperRefill s
  | .dltCounterRead site which => Sys2Proof.Machine.execDltCounterRead site which s
  | .braidTraining b identOk shown => Sys2Proof.Machine.execBraidTraining b identOk shown s
  | .roleAssignment => Sys2Proof.Machine.execRoleAssignment s
  | .flitReceive b hi flit crc => Sys2Proof.Machine.execFlitReceive b hi flit crc s
  | .leveeReplay b hi seq => Sys2Proof.Machine.execLeveeReplay b hi seq s
  | .leveeIdent b hi unit link => Sys2Proof.Machine.execLeveeIdent b hi unit link s
  | .turn site port cls esc slots half => Sys2Proof.Machine.execTurn site port cls esc slots half s
  | .leveeRtReq b hi kind reason depth => Sys2Proof.Machine.execLeveeRtReq b hi kind reason depth s
  | .leveeRtRsp b hi accept converted => Sys2Proof.Machine.execLeveeRtRsp b hi accept converted s
  | .leveeRtDone b hi up => Sys2Proof.Machine.execLeveeRtDone b hi up s
  | .braidRetrainComplete b shown => Sys2Proof.Machine.execBraidRetrainComplete b shown s
  | .laneLoss b hi lane => Sys2Proof.Machine.execLaneLoss b hi lane s
  | .surveyStep b => Sys2Proof.Machine.execSurveyStep b s
  | .svyShadow b d sl => Sys2Proof.Machine.execSvyShadow b d sl s
  | .svyMove b d sl agree => Sys2Proof.Machine.execSvyMove b d sl agree s
  | .surveyCalibrationDone b errors margin mv => Sys2Proof.Machine.execSurveyCalibrationDone b errors margin mv s
  | .svyReturn b d pass => Sys2Proof.Machine.execSvyReturn b d pass s
  | .margin b hi lane margin => Sys2Proof.Machine.execMargin b hi lane margin s
  | .leveeLoopback b hi depth pat => Sys2Proof.Machine.execLeveeLoopback b hi depth pat s
  | .leveeLoopbackEnd b hi errors shown => Sys2Proof.Machine.execLeveeLoopbackEnd b hi errors shown s
  | .levCounterRead b hi which => Sys2Proof.Machine.execLevCounterRead b hi which s
  | .hbmRequest k p faults => Sys2Proof.Machine.execHbmRequest k p faults s
  | .refreshCommand k channel margin => Sys2Proof.Machine.execRefreshCommand k channel margin s
  | .stackTemperatureSample k ts => Sys2Proof.Machine.execStackTemperatureSample k ts s
  | .stackTest k ok rows failed => Sys2Proof.Machine.execStackTest k ok rows failed s
  | .hbsCounterRead k which => Sys2Proof.Machine.execHbsCounterRead k which s
  | .larreFraming n p => Sys2Proof.Machine.execLarreFraming n p s
  | .larreDirect n p f good => Sys2Proof.Machine.execLarreDirect n p f good s
  | .larreRead n p f good data => Sys2Proof.Machine.execLarreRead n p f good data s
  | .larreE2eAck n p f good => Sys2Proof.Machine.execLarreE2eAck n p f good s
  | .larreAck n p retry sync aseq freed good => Sys2Proof.Machine.execLarreAck n p retry sync aseq freed good s
  | .larreAckTimer n p => Sys2Proof.Machine.execLarreAckTimer n p s
  | .replayTimerExpiry n p => Sys2Proof.Machine.execReplayTimerExpiry n p s
  | .larreIdent n p panel engine port eui => Sys2Proof.Machine.execLarreIdent n p panel engine port eui s
  | .larreRtReq n p kind reason depth => Sys2Proof.Machine.execLarreRtReq n p kind reason depth s
  | .larreRtRsp n p accept converted => Sys2Proof.Machine.execLarreRtRsp n p accept converted s
  | .larreRtDone n p up => Sys2Proof.Machine.execLarreRtDone n p up s
  | .larreRetrainLock n p lock => Sys2Proof.Machine.execLarreRetrainLock n p lock s
  | .fecUncorrectedThreshold n p corrected uncorrected => Sys2Proof.Machine.execFecUncorrectedThreshold n p corrected uncorrected s
  | .laneLockLoss n lane => Sys2Proof.Machine.execLaneLockLoss n lane s
  | .larreEditionWrite data => Sys2Proof.Machine.execLarreEditionWrite data s
  | .larreEditionArm tsw => Sys2Proof.Machine.execLarreEditionArm tsw s
  | .larreEditionSwitch => Sys2Proof.Machine.execLarreEditionSwitch s
  | .larreOldcntLatch => Sys2Proof.Machine.execLarreOldcntLatch s
  | .larreEditionRetire => Sys2Proof.Machine.execLarreEditionRetire s
  | .ethernetFrame n p f => Sys2Proof.Machine.execEthernetFrame n p f s
  | .oxbowOpen pair => Sys2Proof.Machine.execOxbowOpen pair s
  | .oxbowClose pair => Sys2Proof.Machine.execOxbowClose pair s
  | .oxbowMoveComplete pair => Sys2Proof.Machine.execOxbowMoveComplete pair s
  | .estuaryLoopback n p depth pat => Sys2Proof.Machine.execEstuaryLoopback n p depth pat s
  | .estuaryLoopbackEnd n errors => Sys2Proof.Machine.execEstuaryLoopbackEnd n errors s
  | .estCounterRead n which => Sys2Proof.Machine.execEstCounterRead n which s
  | .lrlCounterRead n p which => Sys2Proof.Machine.execLrlCounterRead n p which s
  | .ppsOnTimeEdge sub => Sys2Proof.Machine.execPpsOnTimeEdge sub s
  | .timeFrame edge pos flags crc timing => Sys2Proof.Machine.execTimeFrame edge pos flags crc timing s
  | .ptpSync exp => Sys2Proof.Machine.execPtpSync exp s
  | .meridInLoss => Sys2Proof.Machine.execMeridInLoss s
  | .localOscillatorFallback => Sys2Proof.Machine.execLocalOscillatorFallback s
  | .meridianMarker unit tick good => Sys2Proof.Machine.execMeridianMarker unit tick good s
  | .dieUnlockedTimeout unit => Sys2Proof.Machine.execDieUnlockedTimeout unit s
  | .treeDelayMeasure unit dly => Sys2Proof.Machine.execTreeDelayMeasure unit dly s
  | .merRelayClose => Sys2Proof.Machine.execMerRelayClose s
  | .expertTimeStep count => Sys2Proof.Machine.execExpertTimeStep count s
  | .calendarBankLoad data => Sys2Proof.Machine.execCalendarBankLoad data s
  | .calendarArm port tick => Sys2Proof.Machine.execCalendarArm port tick s
  | .calendarBankSwitch engine port => Sys2Proof.Machine.execCalendarBankSwitch engine port s
  | .calendarWindowOpen engine port k => Sys2Proof.Machine.execCalendarWindowOpen engine port k s
  | .heartbeatSend => Sys2Proof.Machine.execHeartbeatSend s
  | .heartbeat n p ident catchment ifgen tick rcrc => Sys2Proof.Machine.execHeartbeat n p ident catchment ifgen tick rcrc s
  | .heartbeatTickEnd tick => Sys2Proof.Machine.execHeartbeatTickEnd tick s
  | .cnfFence => Sys2Proof.Machine.execCnfFence s
  | .rewindRequest => Sys2Proof.Machine.execRewindRequest s
  | .accuse ident catchment vseq a => Sys2Proof.Machine.execAccuse ident catchment vseq a s
  | .ballot ident catchment vseq b => Sys2Proof.Machine.execBallot ident catchment vseq b s
  | .voteRound1Deadline => Sys2Proof.Machine.execVoteRound1Deadline s
  | .decide ident catchment vseq ballots => Sys2Proof.Machine.execDecide ident catchment vseq ballots s
  | .voteFreeze => Sys2Proof.Machine.execVoteFreeze s
  | .verdict n p catchment vseq digest retired tsw action => Sys2Proof.Machine.execVerdict n p catchment vseq digest retired tsw action s
  | .confluenceStop ident catchment reason => Sys2Proof.Machine.execConfluenceStop ident catchment reason s
  | .verdictSwitch => Sys2Proof.Machine.execVerdictSwitch s
  | .pullComplete ok plots => Sys2Proof.Machine.execPullComplete ok plots s
  | .epochCloseArm c => Sys2Proof.Machine.execEpochCloseArm c s
  | .epochClose => Sys2Proof.Machine.execEpochClose s
  | .mirrorDrainDone => Sys2Proof.Machine.execMirrorDrainDone s
  | .drainLimitExpiry => Sys2Proof.Machine.execDrainLimitExpiry s
  | .plotDigestDone slot => Sys2Proof.Machine.execPlotDigestDone slot s
  | .digest ident catchment epoch slot parity crc => Sys2Proof.Machine.execDigest ident catchment epoch slot parity crc s
  | .dmatch ident catchment epoch slot agree => Sys2Proof.Machine.execDmatch ident catchment epoch slot agree s
  | .epochOk ident catchment epoch => Sys2Proof.Machine.execEpochOk ident catchment epoch s
  | .closeWindowExpiry => Sys2Proof.Machine.execCloseWindowExpiry s
  | .cnfCounterRead which => Sys2Proof.Machine.execCnfCounterRead which s
  | .partitionWrite port data => Sys2Proof.Machine.execPartitionWrite port data s
  | .tenantDrainDone c => Sys2Proof.Machine.execTenantDrainDone c s
  | .tenantDrainLimit c => Sys2Proof.Machine.execTenantDrainLimit c s
  | .plotChange port fn num entry => Sys2Proof.Machine.execPlotChange port fn num entry s
  | .plotVersionDrained => Sys2Proof.Machine.execPlotVersionDrained s
  | .channelCreate port fn req => Sys2Proof.Machine.execChannelCreate port fn req s
  | .channelDestroy port fn handle => Sys2Proof.Machine.execChannelDestroy port fn handle s
  | .doorbell port fn page handle prod data => Sys2Proof.Machine.execDoorbell port fn page handle prod data s
  | .run ix => Sys2Proof.Machine.execRun ix s
  | .dmaEntry ix => Sys2Proof.Machine.execDmaEntry ix s
  | .fenceEntry ix => Sys2Proof.Machine.execFenceEntry ix s
  | .signalEntry ix => Sys2Proof.Machine.execSignalEntry ix s
  | .runComplete p => Sys2Proof.Machine.execRunComplete p s
  | .hostDmaComplete ix seq data poison => Sys2Proof.Machine.execHostDmaComplete ix seq data poison s
  | .timeSliceExpiry p => Sys2Proof.Machine.execTimeSliceExpiry p s
  | .chartYielded p xs => Sys2Proof.Machine.execChartYielded p xs s
  | .yieldResume p r => Sys2Proof.Machine.execYieldResume p r s
  | .partitionHalt port p => Sys2Proof.Machine.execPartitionHalt port p s
  | .haltRelease port p data => Sys2Proof.Machine.execHaltRelease port p data s
  | .haltComplete p => Sys2Proof.Machine.execHaltComplete p s
  | .chnStaleRead => Sys2Proof.Machine.execChnStaleRead s
  | .haltDoorbell port fn w => Sys2Proof.Machine.execHaltDoorbell port fn w s
  | .functionLevelReset port fn => Sys2Proof.Machine.execFunctionLevelReset port fn s
  | .perstNAssert port => Sys2Proof.Machine.execPerstNAssert port s
  | .perstNDeassert port => Sys2Proof.Machine.execPerstNDeassert port s
  | .hostLinkDown port => Sys2Proof.Machine.execHostLinkDown port s
  | .promotionDeadline => Sys2Proof.Machine.execPromotionDeadline s
  | .roleRequest port w => Sys2Proof.Machine.execRoleRequest port w s
  | .roleWindowDecision => Sys2Proof.Machine.execRoleWindowDecision s
  | .hostReadTimeout r => Sys2Proof.Machine.execHostReadTimeout r s
  | .ideIntegrityFailure port stream => Sys2Proof.Machine.execIdeIntegrityFailure port stream s
  | .podDoorbell b page handle prod => Sys2Proof.Machine.execPodDoorbell b page handle prod s
  | .podPathLoss m since => Sys2Proof.Machine.execPodPathLoss m since s
  | .lapRead h => Sys2Proof.Machine.execLapRead h s
  | .lapWrite h value fails data => Sys2Proof.Machine.execLapWrite h value fails data s
  | .lapDescribe h => Sys2Proof.Machine.execLapDescribe h s
  | .segReadStart h => Sys2Proof.Machine.execSegReadStart h s
  | .segRead h xfer want off => Sys2Proof.Machine.execSegRead h xfer want off s
  | .segWriteStart h total => Sys2Proof.Machine.execSegWriteStart h total s
  | .segWrite h xfer off data => Sys2Proof.Machine.execSegWrite h xfer off data s
  | .segWriteEnd h xfer crc => Sys2Proof.Machine.execSegWriteEnd h xfer crc s
  | .segAbort h xfer => Sys2Proof.Machine.execSegAbort h xfer s
  | .lapOpen h level flags spdm timeout => Sys2Proof.Machine.execLapOpen h level flags spdm timeout s
  | .lapClose h => Sys2Proof.Machine.execLapClose h s
  | .lapPing h => Sys2Proof.Machine.execLapPing h s
  | .sessionExpiry n => Sys2Proof.Machine.execSessionExpiry n s
  | .transferIdleExpiry x => Sys2Proof.Machine.execTransferIdleExpiry x s
  | .hostSuppliedRestored => Sys2Proof.Machine.execHostSuppliedRestored s
  | .getVersion ep => Sys2Proof.Machine.execGetVersion ep s
  | .getCapabilities ep => Sys2Proof.Machine.execGetCapabilities ep s
  | .negotiateAlgorithms ep ok => Sys2Proof.Machine.execNegotiateAlgorithms ep ok s
  | .getDigests ep => Sys2Proof.Machine.execGetDigests ep s
  | .getCertificate ep slot off len => Sys2Proof.Machine.execGetCertificate ep slot off len s
  | .challenge ep slot nonce => Sys2Proof.Machine.execChallenge ep slot nonce s
  | .getMeasurements ep index nonce => Sys2Proof.Machine.execGetMeasurements ep index nonce s
  | .keyExchange ep => Sys2Proof.Machine.execKeyExchange ep s
  | .finish ep id ok r => Sys2Proof.Machine.execFinish ep id ok r s
  | .keyUpdate ep id => Sys2Proof.Machine.execKeyUpdate ep id s
  | .spdmHeartbeat ep id => Sys2Proof.Machine.execSpdmHeartbeat ep id s
  | .endSession ep id => Sys2Proof.Machine.execEndSession ep id s
  | .keyProg ep id port stream set dir sub key => Sys2Proof.Machine.execKeyProg ep id port stream set dir sub key s
  | .keySetGo ep id port stream set dir sub => Sys2Proof.Machine.execKeySetGo ep id port stream set dir sub s
  | .keySetStop ep id port stream set dir sub => Sys2Proof.Machine.execKeySetStop ep id port stream set dir sub s
  | .ideQuery ep id port => Sys2Proof.Machine.execIdeQuery ep id port s
  | .keyPathLoad unit ctr slot key => Sys2Proof.Machine.execKeyPathLoad unit ctr slot key s
  | .keyPathClearSlot unit ctr slot => Sys2Proof.Machine.execKeyPathClearSlot unit ctr slot s
  | .keyPathClearAll unit ctr => Sys2Proof.Machine.execKeyPathClearAll unit ctr s
  | .keyPathKat unit ctr pass => Sys2Proof.Machine.execKeyPathKat unit ctr pass s
  | .onDemandSelfTest fails => Sys2Proof.Machine.execOnDemandSelfTest fails s
  | .zeroizeCommand => Sys2Proof.Machine.execZeroizeCommand s
  | .endOfLife w => Sys2Proof.Machine.execEndOfLife w s
  | .anchorWrite slot digest => Sys2Proof.Machine.execAnchorWrite slot digest s
  | .anchorRevoke w => Sys2Proof.Machine.execAnchorRevoke w s
  | .approvedFuse w => Sys2Proof.Machine.execApprovedFuse w s
  | .testedWithOverride w => Sys2Proof.Machine.execTestedWithOverride w s
  | .imageBroadcastDone kind => Sys2Proof.Machine.execImageBroadcastDone kind s
  | .componentViolation k addr => Sys2Proof.Machine.execComponentViolation k addr s
  | .componentWatchdogExpiry k => Sys2Proof.Machine.execComponentWatchdogExpiry k s
  | .componentRestartDone k data => Sys2Proof.Machine.execComponentRestartDone k data s
  | .lkfWatchdogExpiry site => Sys2Proof.Machine.execLkfWatchdogExpiry site s
  | .sbfWatchdogExpiry k => Sys2Proof.Machine.execSbfWatchdogExpiry k s
  | .lmcWatchdogExpiry b => Sys2Proof.Machine.execLmcWatchdogExpiry b s
  | .startPartComplete r => Sys2Proof.Machine.execStartPartComplete r s
  | .estuaryPartTimeout => Sys2Proof.Machine.execEstuaryPartTimeout s
  | .waveStart => Sys2Proof.Machine.execWaveStart s
  | .panelResetAssert => Sys2Proof.Machine.execPanelResetAssert s
  | .panelResetRelease a b => Sys2Proof.Machine.execPanelResetRelease a b s
  | .resetStuck a b => Sys2Proof.Machine.execResetStuck a b s
  | .resetUnmask => Sys2Proof.Machine.execResetUnmask s
  | .pmbusIdentify code => Sys2Proof.Machine.execPmbusIdentify code s
  | .pmbusStatusPoll w => Sys2Proof.Machine.execPmbusStatusPoll w s
  | .vinSag => Sys2Proof.Machine.execVinSag s
  | .vinUndervoltage => Sys2Proof.Machine.execVinUndervoltage s
  | .vinOvervoltage => Sys2Proof.Machine.execVinOvervoltage s
  | .vinRecovery a b => Sys2Proof.Machine.execVinRecovery a b s
  | .pwrEnAssert a b => Sys2Proof.Machine.execPwrEnAssert a b s
  | .pwrEnDeassert => Sys2Proof.Machine.execPwrEnDeassert s
  | .railInWindow r => Sys2Proof.Machine.execRailInWindow r s
  | .railRampTimeout r volt test => Sys2Proof.Machine.execRailRampTimeout r volt test s
  | .railOff r => Sys2Proof.Machine.execRailOff r s
  | .railOffTimeout r volt => Sys2Proof.Machine.execRailOffTimeout r volt s
  | .railLeavesWindow r volt => Sys2Proof.Machine.execRailLeavesWindow r volt s
  | .offTimeEnd a b => Sys2Proof.Machine.execOffTimeEnd a b s
  | .domainFault c => Sys2Proof.Machine.execDomainFault c s
  | .sensorDrop c ix => Sys2Proof.Machine.execSensorDrop c ix s
  | .wakeTokenRequest c => Sys2Proof.Machine.execWakeTokenRequest c s
  | .wakeTokenGrant q => Sys2Proof.Machine.execWakeTokenGrant q s
  | .wakeStage c ok => Sys2Proof.Machine.execWakeStage c ok s
  | .wakeTokenReturn c test => Sys2Proof.Machine.execWakeTokenReturn c test s
  | .wakeTokenTimeout c => Sys2Proof.Machine.execWakeTokenTimeout c s
  | .fractureInterval c current drops => Sys2Proof.Machine.execFractureInterval c current drops s
  | .pllLockLoss site other => Sys2Proof.Machine.execPllLockLoss site other s
  | .pllNoneTimeout site => Sys2Proof.Machine.execPllNoneTimeout site s
  | .stepRecompute site => Sys2Proof.Machine.execStepRecompute site s
  | .stepRelockDone site => Sys2Proof.Machine.execStepRelockDone site s
  | .setpointSettled site => Sys2Proof.Machine.execSetpointSettled site s
  | .dieTemperatureSample site ts => Sys2Proof.Machine.execDieTemperatureSample site ts s
  | .thermTripRelease => Sys2Proof.Machine.execThermTripRelease s
  | .marginSample site slacks => Sys2Proof.Machine.execMarginSample site slacks s
  | .engineTemperatureSample n ts => Sys2Proof.Machine.execEngineTemperatureSample n ts s
  | .powerManagerCheck pin vin => Sys2Proof.Machine.execPowerManagerCheck pin vin s
  | .clkChgRead site => Sys2Proof.Machine.execClkChgRead site s
  | .thmMaxRead site => Sys2Proof.Machine.execThmMaxRead site s
  | .loopbackRequest ep w => Sys2Proof.Machine.execLoopbackRequest ep w s
  | .sramSelfTestRequest site => Sys2Proof.Machine.execSramSelfTestRequest site s
  | .stackTestRequest w => Sys2Proof.Machine.execStackTestRequest w s
  | .diagnosticRunEnd errors sram ok rows failed => Sys2Proof.Machine.execDiagnosticRunEnd errors sram ok rows failed s
  | .faultLogClear => Sys2Proof.Machine.execFaultLogClear s
  | .eventCountForward unit => Sys2Proof.Machine.execEventCountForward unit s
  | .faultEventReceived => Sys2Proof.Machine.execFaultEventReceived s
  | .slotPresentDeassert => Sys2Proof.Machine.execSlotPresentDeassert s
  | .registerWrite unit off w => Sys2Proof.Machine.execRegisterWrite unit off w s
  | .vHkPowerOn a b => Sys2Proof.Machine.execVHkPowerOn a b s
  | .vHkLoss => Sys2Proof.Machine.execVHkLoss s
  | .hostLinkUp port tlp => Sys2Proof.Machine.execHostLinkUp port tlp s
  | .primarySelectionTimeout => Sys2Proof.Machine.execPrimarySelectionTimeout s
  | .estuaryPortTrained n p => Sys2Proof.Machine.execEstuaryPortTrained n p s
  | .surveyorDieTemperatureSample d ts => Sys2Proof.Machine.execSurveyorDieTemperatureSample d ts s
  | .surveyorSupplyFault d => Sys2Proof.Machine.execSurveyorSupplyFault d s
  | .meridianRelayMoveComplete => Sys2Proof.Machine.execMeridianRelayMoveComplete s
  | .faultLogFlashWrite => Sys2Proof.Machine.execFaultLogFlashWrite s
  | .sessionExpiryWarning n => Sys2Proof.Machine.execSessionExpiryWarning n s

end Sys2Proof.Machine
end

