-- ==== Sys2Proof/WellFormed.lean ====
section
/-!
DEFINITION. Which commands are well formed: operands that the panel or its neighbours could present. An ill-formed command still has
a meaning (exec is total); the statements about operands assume well-formedness where they need it.
-/
namespace Sys2Proof

/-- R252: the payload has LEN bytes; the poison map one bit for each 8-byte word of them, where POISON is set. -/
def Packet.wf (p : Packet) : Bool :=
  decide (p.payload.length = p.len) && decide (p.poison.length = if p.poisoned then Machine.cdiv p.len 64 else 0)
/-- R343, R344: the same for a Larre data frame. -/
def Frame.wf (f : Frame) : Bool :=
  decide (f.payload.length = f.len) && decide (f.poison.length = if f.poisoned then Machine.cdiv f.len 64 else 0)
/-- R363: an Ethernet-role port receives data frames of R343 and datagrams. -/
def EthFrame.wf : EthFrame → Bool
  | .larre _ f _ _ => f.wf
  | .udp _ _ _ _ payload => decide (payload.length < 65536)
  | .solicitation => true
  | .pause _ quanta => decide (quanta.length = 8)
  | .other => true
/-- R30, R31, R45: status, reason and source are defined codes. -/
def GazEvent.wf (e : GazEvent) : Bool := decide (e.status ≤ 4) && decide (e.reason ≤ 10) && decide (e.source ≤ 6)
/-- R276: the entries of an edition, each router and unit (or group) once. -/
def RouteTables.wf (t : RouteTables) : Bool := Machine.Tbl.wf t.uni && Machine.Tbl.wf t.multi
/-- R599: a column is reported where the subarray holds it: one finding per place. -/
def SramResult.wf (r : SramResult) : Bool := decide r.cols.Nodup
/-- R286, R301: a braid has 68 lanes; each is tested once. -/
def laneTestsWf (ts : List (Nat × Nat × Nat × Nat × Bool)) : Bool :=
  ts.all (fun t => decide (t.1 < 68)) && decide (ts.map (·.1)).Nodup
/-- A list with one entry for each sensor (R583), replica path (R580), voltage sensor (R566) or byte of a digest (R516). -/
def lengthIs {α : Type} (n : Nat) (xs : List α) : Bool := decide (xs.length = n)
/-- R224, R236: a line has eight words. -/
def faultsWf (fs : List (Nat × BitVec 72)) : Bool := fs.all fun f => decide (f.1 < 8)
/-- R306: a Survey lane is compared with another. -/
def lanesDiffer (d sl : Fin 68) : Bool := decide (d ≠ sl)
/-- R449: an extent that a YIELD section lists lies in the scratchpad. -/
def extentsWf (xs : List (ClusterId × Nat × Nat)) : Bool := xs.all fun x => decide (x.2.1 + x.2.2 ≤ 0x1800000)
/-- R502: a key has at most 256 bits. -/
def keyWf (key : Nat) : Bool := decide (key < 2 ^ 256)
/-- R28: the unit bytes of the panel: a compute site, a stack's base die, an engine and the service blocks. -/
def registerUnit (u : Byte) : Bool := decide (u.toNat ≤ 0xF3) || decide (u.toNat = 0xF8)

/-- R27, R16: the offset of a 64-bit register within its unit. -/
def registerOffset (off : Word) : Bool := decide (off.toNat < 2 ^ 52) && decide (off.toNat % 8 = 0)

/-- R16, R34, R252, R276, R301, R306, R343, R449, R502, R516, R566, R580, R583: the checks of a command's operands. -/
def Instr.wellFormed : Instr → Bool
  | .gazetteerChangeSet es => es.all GazEvent.wf
  | .expertStatusCommand _ _ => true
  | .reserveActivate _ => true
  | .reservePowerUp => true
  | .reserveSelfTest rs => rs.all SramResult.wf
  | .reserveLinkTraining bs => bs.all fun b => laneTestsWf b.tests
  | .reserveEdition t _ => t.wf
  | .activationComplete => true
  | .chartLoad _ _ _ _ => true
  | .mma _ _ _ _ _ _ => true
  | .mread _ _ _ => true
  | .mspill _ _ _ _ => true
  | .mcomb _ _ _ _ _ => true
  | .mmaFirstKstep _ => true
  | .mmaLastKstep _ => true
  | .readoutStart _ => true
  | .readoutComplete _ => true
  | .mxeCeilRead _ => true
  | .vaddF _ _ _ _ _ => true
  | .vsubF _ _ _ _ _ => true
  | .vmulF _ _ _ _ _ => true
  | .vminF _ _ _ _ _ => true
  | .vmaxF _ _ _ _ _ => true
  | .vaddH _ _ _ _ _ => true
  | .vsubH _ _ _ _ _ => true
  | .vmulH _ _ _ _ _ => true
  | .vminH _ _ _ _ _ => true
  | .vmaxH _ _ _ _ _ => true
  | .vfmaF _ _ _ _ _ => true
  | .vfmaH _ _ _ _ _ => true
  | .vcvtF32ToBf16 _ _ _ _ _ => true
  | .vcvtBf16ToF32 _ _ _ _ _ => true
  | .vcvtF32ToF16 _ _ _ _ _ => true
  | .vcvtF16ToF32 _ _ _ _ _ => true
  | .viadd _ _ _ _ _ => true
  | .visub _ _ _ _ _ => true
  | .vand _ _ _ _ _ => true
  | .vor _ _ _ _ _ => true
  | .vxor _ _ _ _ _ => true
  | .vshl _ _ _ _ _ => true
  | .vshr _ _ _ _ _ => true
  | .vsra _ _ _ _ _ => true
  | .vcmpEqF _ _ _ _ _ => true
  | .vcmpNeF _ _ _ _ _ => true
  | .vcmpLtF _ _ _ _ _ => true
  | .vcmpLeF _ _ _ _ _ => true
  | .vcmpEqH _ _ _ _ _ => true
  | .vcmpNeH _ _ _ _ _ => true
  | .vcmpLtH _ _ _ _ _ => true
  | .vcmpLeH _ _ _ _ _ => true
  | .vcmpEqI _ _ _ _ _ => true
  | .vcmpNeI _ _ _ _ _ => true
  | .vcmpLtI _ _ _ _ _ => true
  | .vcmpLeI _ _ _ _ _ => true
  | .vbcast _ _ _ _ _ => true
  | .vexp2F _ _ _ _ _ => true
  | .vlog2F _ _ _ _ _ => true
  | .vrcpF _ _ _ _ _ => true
  | .vrsqF _ _ _ _ _ => true
  | .vtanhF _ _ _ _ _ => true
  | .vsigF _ _ _ _ _ => true
  | .vexp2H _ _ _ _ _ => true
  | .vlog2H _ _ _ _ _ => true
  | .vrcpH _ _ _ _ _ => true
  | .vrsqH _ _ _ _ _ => true
  | .vtanhH _ _ _ _ _ => true
  | .vsigH _ _ _ _ _ => true
  | .vld _ _ _ _ _ => true
  | .vst _ _ _ _ _ => true
  | .vcompress _ _ _ _ _ => true
  | .vexpand _ _ _ _ _ => true
  | .vrsum _ _ _ _ _ => true
  | .vrsumOpen _ _ _ _ _ => true
  | .vrdot _ _ _ _ _ => true
  | .vrdotOpen _ _ _ _ _ => true
  | .vrout _ _ _ _ _ => true
  | .vrspill _ _ _ _ _ => true
  | .vrcomb _ _ _ _ _ => true
  | .vfsum _ _ _ _ _ => true
  | .vshst _ _ _ _ _ => true
  | .vshld _ _ _ _ _ => true
  | .vxBeatCommit _ => true
  | .vxeCeilRead _ => true
  | .sxThreadStart _ _ => true
  | .sxThreadStop _ _ => true
  | .sxGroupIssue _ => true
  | .beq _ _ _ _ _ => true
  | .bne _ _ _ _ _ => true
  | .blt _ _ _ _ _ => true
  | .bge _ _ _ _ _ => true
  | .jr _ _ _ => true
  | .ldx _ _ _ _ _ _ => true
  | .stx _ _ _ _ _ _ => true
  | .amoadd _ _ _ _ _ _ => true
  | .amomax _ _ _ _ _ _ => true
  | .cas _ _ _ _ _ _ => true
  | .sxfence _ _ => true
  | .gather _ _ _ _ => true
  | .gwait _ _ _ => true
  | .sxdone _ _ => true
  | .gatherComplete _ _ _ => true
  | .storeBufferDrain _ => true
  | .bundleIssue _ => true
  | .add _ _ _ _ => true
  | .sub _ _ _ _ => true
  | .and _ _ _ _ => true
  | .or _ _ _ _ => true
  | .xor _ _ _ _ => true
  | .shl _ _ _ _ => true
  | .shr _ _ _ _ => true
  | .sra _ _ _ _ => true
  | .mul _ _ _ _ => true
  | .mulhu _ _ _ _ => true
  | .min _ _ _ _ => true
  | .max _ _ _ _ => true
  | .slt _ _ _ _ => true
  | .sltu _ _ _ _ => true
  | .addi _ _ _ _ => true
  | .andi _ _ _ _ => true
  | .ori _ _ _ _ => true
  | .xori _ _ _ _ => true
  | .shli _ _ _ _ => true
  | .shri _ _ _ _ => true
  | .srai _ _ _ _ => true
  | .lih _ _ _ => true
  | .fadd _ _ _ _ => true
  | .fsub _ _ _ _ => true
  | .fmul _ _ _ _ => true
  | .fmin _ _ _ _ => true
  | .fmax _ _ _ _ => true
  | .fcmplt _ _ _ _ => true
  | .fcmpeq _ _ _ _ => true
  | .fcvtif _ _ _ => true
  | .fcvtfi _ _ _ => true
  | .ld _ _ _ _ => true
  | .st _ _ _ _ => true
  | .csrr _ _ _ => true
  | .csrw _ _ _ => true
  | .csrs _ _ _ => true
  | .csrc _ _ _ => true
  | .tdw _ _ _ _ => true
  | .tdrl _ _ _ => true
  | .tdrh _ _ _ => true
  | .jmp _ _ => true
  | .loop _ _ _ => true
  | .sync _ _ _ => true
  | .waitc _ _ => true
  | .yield _ _ => true
  | .tret _ => true
  | .sqend _ => true
  | .dmaRd _ _ _ => true
  | .dmaWr _ _ _ => true
  | .dsend _ _ _ => true
  | .ssend _ _ _ _ => true
  | .moveComplete _ _ _ _ => true
  | .moveTimerExpiry _ _ => true
  | .syncDeadline _ => true
  | .trapEntry _ => true
  | .sequencerStart _ => true
  | .sequencerStop _ => true
  | .scrubRead _ _ faults => faultsWf faults
  | .columnRepairStart _ => true
  | .columnRepairCopyDone _ => true
  | .zeroizationStart _ => true
  | .zeroizationComplete _ _ => true
  | .weirAllocation _ => true
  | .spdCounterRead _ _ => true
  | .weirStallRead _ => true
  | .packetInject _ _ p _ => p.wf
  | .deltaHop _ _ p => p.wf
  | .directPacketDelivery _ _ p => p.wf
  | .streamPacketDelivery _ p => p.wf
  | .deltaAck _ _ _ _ _ => true
  | .deltaNak _ _ _ _ => true
  | .deltaProbe _ _ => true
  | .weirReq _ _ _ _ _ _ => true
  | .weirGrant _ _ _ _ => true
  | .deltaRead _ p _ => p.wf
  | .mack _ _ _ _ => true
  | .deltaHalt _ _ _ _ => true
  | .ackTimer _ _ => true
  | .probeTimeout _ _ => true
  | .eddyRecoveryTimer _ _ => true
  | .hopack _ _ _ => true
  | .csync _ _ _ => true
  | .editionPublish stages _ => stages.all RouteTables.wf
  | .editionSwitch => true
  | .oldcntLatch => true
  | .shaperRefill => true
  | .dltCounterRead _ _ => true
  | .braidTraining _ _ shown => laneTestsWf shown.lanes
  | .roleAssignment => true
  | .flitReceive _ _ _ _ => true
  | .leveeReplay _ _ _ => true
  | .leveeIdent _ _ _ _ => true
  | .turn _ _ _ _ _ _ => true
  | .leveeRtReq _ _ _ _ _ => true
  | .leveeRtRsp _ _ _ _ => true
  | .leveeRtDone _ _ _ => true
  | .braidRetrainComplete _ shown => laneTestsWf shown.lanes
  | .laneLoss _ _ _ => true
  | .surveyStep _ => true
  | .svyShadow _ d sl => lanesDiffer d sl
  | .svyMove _ d sl _ => lanesDiffer d sl
  | .surveyCalibrationDone _ _ _ _ => true
  | .svyReturn _ _ _ => true
  | .margin _ _ _ _ => true
  | .leveeLoopback _ _ _ _ => true
  | .leveeLoopbackEnd _ _ _ shown => laneTestsWf shown.lanes
  | .levCounterRead _ _ _ => true
  | .hbmRequest _ p _ => p.wf
  | .refreshCommand _ _ _ => true
  | .stackTemperatureSample _ ts => lengthIs 16 ts
  | .stackTest _ _ _ _ => true
  | .hbsCounterRead _ _ => true
  | .larreFraming _ p => p.wf
  | .larreDirect _ _ f _ => f.wf
  | .larreRead _ _ f _ _ => f.wf
  | .larreE2eAck _ _ f _ => f.wf
  | .larreAck _ _ _ _ _ _ _ => true
  | .larreAckTimer _ _ => true
  | .replayTimerExpiry _ _ => true
  | .larreIdent _ _ _ _ _ _ => true
  | .larreRtReq _ _ _ _ _ => true
  | .larreRtRsp _ _ _ _ => true
  | .larreRtDone _ _ _ => true
  | .larreRetrainLock _ _ _ => true
  | .fecUncorrectedThreshold _ _ _ _ => true
  | .laneLockLoss _ _ => true
  | .larreEditionWrite _ => true
  | .larreEditionArm _ => true
  | .larreEditionSwitch => true
  | .larreOldcntLatch => true
  | .larreEditionRetire => true
  | .ethernetFrame _ _ f => f.wf
  | .oxbowOpen _ => true
  | .oxbowClose _ => true
  | .oxbowMoveComplete _ => true
  | .estuaryLoopback _ _ _ _ => true
  | .estuaryLoopbackEnd _ _ => true
  | .estCounterRead _ _ => true
  | .lrlCounterRead _ _ _ => true
  | .ppsOnTimeEdge _ => true
  | .timeFrame _ _ _ _ _ => true
  | .ptpSync _ => true
  | .meridInLoss => true
  | .localOscillatorFallback => true
  | .meridianMarker _ _ _ => true
  | .dieUnlockedTimeout _ => true
  | .treeDelayMeasure _ _ => true
  | .merRelayClose => true
  | .expertTimeStep _ => true
  | .calendarBankLoad _ => true
  | .calendarArm _ _ => true
  | .calendarBankSwitch _ _ => true
  | .calendarWindowOpen _ _ _ => true
  | .heartbeatSend => true
  | .heartbeat _ _ _ _ _ _ _ => true
  | .heartbeatTickEnd _ => true
  | .cnfFence => true
  | .rewindRequest => true
  | .accuse _ _ _ _ => true
  | .ballot _ _ _ _ => true
  | .voteRound1Deadline => true
  | .decide _ _ _ _ => true
  | .voteFreeze => true
  | .verdict _ _ _ _ _ _ _ _ => true
  | .confluenceStop _ _ _ => true
  | .verdictSwitch => true
  | .pullComplete _ _ => true
  | .epochCloseArm _ => true
  | .epochClose => true
  | .mirrorDrainDone => true
  | .drainLimitExpiry => true
  | .plotDigestDone _ => true
  | .digest _ _ _ _ _ _ => true
  | .dmatch _ _ _ _ _ => true
  | .epochOk _ _ _ => true
  | .closeWindowExpiry => true
  | .cnfCounterRead _ => true
  | .partitionWrite _ _ => true
  | .tenantDrainDone _ => true
  | .tenantDrainLimit _ => true
  | .plotChange _ _ _ _ => true
  | .plotVersionDrained => true
  | .channelCreate _ _ _ => true
  | .channelDestroy _ _ _ => true
  | .doorbell _ _ _ _ _ _ => true
  | .run _ => true
  | .dmaEntry _ => true
  | .fenceEntry _ => true
  | .signalEntry _ => true
  | .runComplete _ => true
  | .hostDmaComplete _ _ _ _ => true
  | .timeSliceExpiry _ => true
  | .chartYielded _ xs => extentsWf xs
  | .yieldResume _ _ => true
  | .partitionHalt _ _ => true
  | .haltRelease _ _ _ => true
  | .haltComplete _ => true
  | .chnStaleRead => true
  | .haltDoorbell _ _ _ => true
  | .functionLevelReset _ _ => true
  | .perstNAssert _ => true
  | .perstNDeassert _ => true
  | .hostLinkDown _ => true
  | .promotionDeadline => true
  | .roleRequest _ _ => true
  | .roleWindowDecision => true
  | .hostReadTimeout _ => true
  | .ideIntegrityFailure _ _ => true
  | .podDoorbell _ _ _ _ => true
  | .podPathLoss _ _ => true
  | .lapRead _ => true
  | .lapWrite _ _ _ _ => true
  | .lapDescribe _ => true
  | .segReadStart _ => true
  | .segRead _ _ _ _ => true
  | .segWriteStart _ _ => true
  | .segWrite _ _ _ _ => true
  | .segWriteEnd _ _ _ => true
  | .segAbort _ _ => true
  | .lapOpen _ _ _ _ _ => true
  | .lapClose _ => true
  | .lapPing _ => true
  | .sessionExpiry _ => true
  | .transferIdleExpiry _ => true
  | .hostSuppliedRestored => true
  | .getVersion _ => true
  | .getCapabilities _ => true
  | .negotiateAlgorithms _ _ => true
  | .getDigests _ => true
  | .getCertificate _ _ _ _ => true
  | .challenge _ _ _ => true
  | .getMeasurements _ _ _ => true
  | .keyExchange _ => true
  | .finish _ _ _ _ => true
  | .keyUpdate _ _ => true
  | .spdmHeartbeat _ _ => true
  | .endSession _ _ => true
  | .keyProg _ _ _ _ _ _ _ _ => true
  | .keySetGo _ _ _ _ _ _ _ => true
  | .keySetStop _ _ _ _ _ _ _ => true
  | .ideQuery _ _ _ => true
  | .keyPathLoad _ _ _ key => keyWf key
  | .keyPathClearSlot _ _ _ => true
  | .keyPathClearAll _ _ => true
  | .keyPathKat _ _ _ => true
  | .onDemandSelfTest _ => true
  | .zeroizeCommand => true
  | .endOfLife _ => true
  | .anchorWrite _ dg => lengthIs 48 dg
  | .anchorRevoke _ => true
  | .approvedFuse _ => true
  | .testedWithOverride _ => true
  | .imageBroadcastDone _ => true
  | .componentViolation _ _ => true
  | .componentWatchdogExpiry _ => true
  | .componentRestartDone _ _ => true
  | .lkfWatchdogExpiry _ => true
  | .sbfWatchdogExpiry _ => true
  | .lmcWatchdogExpiry _ => true
  | .startPartComplete _ => true
  | .estuaryPartTimeout => true
  | .waveStart => true
  | .panelResetAssert => true
  | .panelResetRelease _ _ => true
  | .resetStuck _ _ => true
  | .resetUnmask => true
  | .pmbusIdentify _ => true
  | .pmbusStatusPoll _ => true
  | .vinSag => true
  | .vinUndervoltage => true
  | .vinOvervoltage => true
  | .vinRecovery _ _ => true
  | .pwrEnAssert _ _ => true
  | .pwrEnDeassert => true
  | .railInWindow _ => true
  | .railRampTimeout _ _ _ => true
  | .railOff _ => true
  | .railOffTimeout _ _ => true
  | .railLeavesWindow _ _ => true
  | .offTimeEnd _ _ => true
  | .domainFault _ => true
  | .sensorDrop _ _ => true
  | .wakeTokenRequest _ => true
  | .wakeTokenGrant _ => true
  | .wakeStage _ _ => true
  | .wakeTokenReturn _ test => test.wf
  | .wakeTokenTimeout _ => true
  | .fractureInterval _ _ drops => lengthIs 8 drops
  | .pllLockLoss _ _ => true
  | .pllNoneTimeout _ => true
  | .stepRecompute _ => true
  | .stepRelockDone _ => true
  | .setpointSettled _ => true
  | .dieTemperatureSample _ ts => lengthIs 20 ts
  | .thermTripRelease => true
  | .marginSample _ slacks => lengthIs 32 slacks
  | .engineTemperatureSample _ ts => lengthIs 2 ts
  | .powerManagerCheck _ _ => true
  | .clkChgRead _ => true
  | .thmMaxRead _ => true
  | .loopbackRequest _ _ => true
  | .sramSelfTestRequest _ => true
  | .stackTestRequest _ => true
  | .diagnosticRunEnd _ sram _ _ _ => sram.all SramResult.wf
  | .faultLogClear => true
  | .eventCountForward _ => true
  | .faultEventReceived => true
  | .slotPresentDeassert => true
  | .registerWrite unit off _ => registerUnit unit && registerOffset off
  | .vHkPowerOn _ _ => true
  | .vHkLoss => true
  | .hostLinkUp _ _ => true
  | .primarySelectionTimeout => true
  | .estuaryPortTrained _ _ => true
  | .surveyorDieTemperatureSample _ ts => lengthIs 4 ts
  | .surveyorSupplyFault _ => true
  | .meridianRelayMoveComplete => true
  | .faultLogFlashWrite => true
  | .sessionExpiryWarning _ => true

end Sys2Proof
end

