-- ==== Sys2Proof/Safety.lean ====
section
/-!
DEFINITION. What a safe run is, and the words in which the statements speak of the panel: a command that completes, the parts of the
panel that stay, the canonical memories.
-/
namespace Sys2Proof.Machine

/-! Completion and frames -/

/-- The command completes on the panel `s`: exec answers a next state, of which `P` holds. -/
def Completes (i : Instr) (s : State) (P : State → Prop) : Prop := ∃ t, exec i s = .next t ∧ P t

/-- The parts of the panel. -/
inductive Part where
  | clusters | hbm | gaz | delta | lev | larre | mer | cnf | ten | hosts | lgd | ctg | fw | boot | pwr | clk | log | diag | out
  | now | freeCtr | pending
  deriving DecidableEq, Repr

/-- A part of the panel `s` that is the same in `t`. -/
def Part.same (s t : State) : Part → Prop
  | .clusters => t.clusters = s.clusters
  | .hbm => t.hbm = s.hbm
  | .gaz => t.gaz = s.gaz
  | .delta => t.delta = s.delta
  | .lev => t.lev = s.lev
  | .larre => t.larre = s.larre
  | .mer => t.mer = s.mer
  | .cnf => t.cnf = s.cnf
  | .ten => t.ten = s.ten
  | .hosts => t.hosts = s.hosts
  | .lgd => t.lgd = s.lgd
  | .ctg => t.ctg = s.ctg
  | .fw => t.fw = s.fw
  | .boot => t.boot = s.boot
  | .pwr => t.pwr = s.pwr
  | .clk => t.clk = s.clk
  | .log => t.log = s.log
  | .diag => t.diag = s.diag
  | .out => t.out = s.out
  | .now => t.now = s.now
  | .freeCtr => t.freeCtr = s.freeCtr
  | .pending => t.pending = s.pending

/-- Every part of the panel but those named is as it was. -/
def ChangesOnly (ps : List Part) (s t : State) : Prop := ∀ p, p ∉ ps → p.same s t

/-- Every cluster but `c` is as it was. -/
def OtherClusters (c : Nat) (s t : State) : Prop := ∀ d, d ≠ c → t.cl d = s.cl d

/-! The memories -/

/-- Every scratchpad and every stack keeps its memory in the canonical form: addresses rising, no entry zero (log entry 5). -/
def State.MemoriesCanonical (s : State) : Prop :=
  (∀ e ∈ s.clusters, Memory.wf e.2.spd.mem = true) ∧ ∀ e ∈ s.hbm, Memory.wf e.2.mem = true

/-- Every waiting command is well formed. -/
def State.QueueWf (s : State) : Prop := ∀ i ∈ s.pending, i.wellFormed = true

/-! Sequencers and threads (05, 06, 07) -/

/-- g register `r` of the sequencer of cluster `c` (06 R163), and the panel with another value there. -/
def State.g (s : State) (c : ClusterId) (r : Reg) : Word := (s.cl c).sq.gpr r.toNat
def State.withG (s : State) (c : ClusterId) (r : Reg) (v : Word) : State :=
  s.setCl c { s.cl c with sq := (s.cl c).sq.setG r.toNat v }
/-- 05 R131, 06 R165: no running VCOMPRESS of cluster `c` has a register of `rs` still to write. -/
def State.GFree (s : State) (c : ClusterId) (rs : List Reg) : Prop := ∀ r ∈ rs, (s.cl c).gPending ≠ some r.toNat
/-- 05 R152, R153: neither an SXFENCE nor a GWAIT holds the thread any more, so that its next operation may issue. -/
def State.ThrGoes (s : State) (site : SiteId) (t : ThreadId) : Prop := (s.cl (sxOf site)).holdOver t = true
/-- x register `r` of a thread (05 R150: x0 reads 0 and ignores writes), and the panel with another value there, the thread's hold over. -/
def State.x (s : State) (site : SiteId) (t : ThreadId) (r : Reg) : Word :=
  if r = 0 then 0 else Tbl.get 0 ((s.cl (sxOf site)).sx.thread t).x r.toNat
def State.withX (s : State) (site : SiteId) (t : ThreadId) (r : Reg) (v : Word) : State :=
  s.setCl (sxOf site) ((s.cl (sxOf site)).modThread t fun h =>
    if r = 0 then { h with hold := .none } else { h with hold := .none, x := Tbl.set h.x r.toNat v })
/-- The thread `t` of a site, and the panel with that thread, its hold over, changed. -/
def State.thread (s : State) (site : SiteId) (t : ThreadId) : Thread := (s.cl (sxOf site)).sx.thread t
def State.withThread (s : State) (site : SiteId) (t : ThreadId) (f : Thread → Thread) : State :=
  s.setCl (sxOf site) ((s.cl (sxOf site)).modThread t fun h => f { h with hold := .none })
/-- The panel with the sequencer of cluster `c` changed. -/
def State.withSq (s : State) (c : ClusterId) (f : Sqr → Sqr) : State := s.setCl c { s.cl c with sq := f (s.cl c).sq }

/-- 07 R198: the rows of two registers with their results. -/
def integerRows : List ((Agent → Reg → Reg → Reg → Instr) × (Word → Word → Word)) := [
  (.add, fun a b => a + b), (.sub, fun a b => a - b), (.and, fun a b => a &&& b), (.or, fun a b => a ||| b),
  (.xor, fun a b => a ^^^ b), (.shl, fun a b => a <<< (b.toNat % 64)), (.shr, fun a b => a >>> (b.toNat % 64)),
  (.sra, fun a b => a.sshiftRight (b.toNat % 64)), (.mul, fun a b => a * b),
  (.mulhu, fun a b => BitVec.ofNat 64 (a.toNat * b.toNat / 2 ^ 64)),
  (.min, fun a b => if a.toInt ≤ b.toInt then a else b), (.max, fun a b => if a.toInt ≤ b.toInt then b else a),
  (.slt, fun a b => if a.toInt < b.toInt then 1 else 0), (.sltu, fun a b => if a.toNat < b.toNat then 1 else 0)]

/-- 07 R198: the rows of a register and an immediate with their results; a shift takes counts below 64. -/
def immediateRows : List ((Agent → Reg → Reg → Half → Instr) × (Word → Half → Word)) := [
  (.addi, fun a i => a + i.signExtend 64), (.andi, fun a i => a &&& i.setWidth 64),
  (.ori, fun a i => a ||| i.setWidth 64), (.xori, fun a i => a ^^^ i.setWidth 64)]
def shiftRows : List ((Agent → Reg → Reg → Half → Instr) × (Word → Nat → Word)) := [
  (.shli, fun a n => a <<< n), (.shri, fun a n => a >>> n), (.srai, fun a n => a.sshiftRight n)]

/-- 07 R203, R204: the binary32 rows of two registers with their results: the low 32 bits are operated on, the high ones are 0. -/
def floatRows : List ((Agent → Reg → Reg → Reg → Instr) × (Nat → Nat → Nat)) := [
  (.fadd, fun a b => (convIeee fmtF32 false ((decIeee fmtF32 a).add (decIeee fmtF32 b))).code),
  (.fsub, fun a b => (convIeee fmtF32 false ((decIeee fmtF32 a).add (decIeee fmtF32 b).flip)).code),
  (.fmul, fun a b => (convIeee fmtF32 false ((decIeee fmtF32 a).mul (decIeee fmtF32 b))).code),
  (.fmin, fun a b => (convIeee fmtF32 false ((decIeee fmtF32 a).min (decIeee fmtF32 b))).code),
  (.fmax, fun a b => (convIeee fmtF32 false ((decIeee fmtF32 a).max (decIeee fmtF32 b))).code),
  (.fcmplt, fun a b => if (decIeee fmtF32 a).lt (decIeee fmtF32 b) then 1 else 0),
  (.fcmpeq, fun a b => if (decIeee fmtF32 a).eq (decIeee fmtF32 b) then 1 else 0)]

/-- The panel with cluster `c` changed, no uncorrected word met. -/
def State.withCl (s : State) (c : Nat) (f : Cluster → Cluster) : State := s.setCl c (f (s.cl c))

/-- The address of a sequencer's and of a thread's access: a register and a signed offset, modulo 2^64 (07 R199, R201). -/
def State.seqAddr (s : State) (c : ClusterId) (r : Reg) (imm : Half) : Nat := (s.g c r + imm.signExtend 64).toNat
def State.thrAddr (s : State) (site : SiteId) (t : ThreadId) (r : Reg) (imm : Half) : Nat := (s.x site t r + imm.signExtend 64).toNat
def State.thrAddr14 (s : State) (site : SiteId) (t : ThreadId) (r : Reg) (off : BitVec 14) : Nat := (s.x site t r + off.signExtend 64).toNat

/-- A load of `n` bytes at `a` by a scalar unit of cluster `c` with the store buffer `sb` reads the scratchpad: it lies inside, meets no
held Weir range (08 R233), no entry of its own store buffer (R228) and no word with errors (R224). -/
def State.Loads (s : State) (c : Nat) (sb : List SbEntry) (a n : Nat) : Prop :=
  a + n ≤ spdSize ∧ (s.cl c).spd.weirStalls [⟨a, n, false⟩] = false ∧ sbLookup sb a n = .miss ∧
    ∀ w ∈ wordsOf a n, Tbl.get 0 (s.cl c).spd.bad w = 0
/-- The `n` bytes at `a` of the scratchpad of cluster `c`, little-endian. -/
def State.spdWord (s : State) (c a n : Nat) : Word := BitVec.ofNat 64 (leNat (Memory.readN (s.cl c).spd.mem a n))

/-- The scratchpad `u` is `p` with the bytes `bs` written at `off`: every other byte as before, no word with errors. -/
def SpdWritten (p u : Spd) (off : Nat) (bs : List Byte) : Prop :=
  u = { p with mem := u.mem, bad := u.bad } ∧ (∀ w, Tbl.get 0 u.bad w = 0) ∧
    ∀ x, Memory.read u.mem x = if off ≤ x ∧ x < off + bs.length then bs.getD (x - off) 0 else Memory.read p.mem x
/-- The scratchpad of cluster `c` is canonical and holds no word with errors. -/
def State.SpdClean (s : State) (c : Nat) : Prop :=
  Memory.wf (s.cl c).spd.mem = true ∧ ∀ w, Tbl.get 0 (s.cl c).spd.bad w = 0

/-- 06 R166: a transfer's target in bundles or groups from `pc`. -/
def jumpTo (pc : Nat) (d : Int) : Int := pc + 16 * d
/-- The target lies in the scratchpad. -/
def InSpd (t : Int) : Prop := 0 ≤ t ∧ t < spdSize

/-- A thread refused its address or target: 05 R158. -/
def State.thrFault (s : State) (site : SiteId) (t : ThreadId) (code : Nat) : State :=
  ((s.withCl (sxOf site) fun k => k.sxFault t code (k.thread t).pc)).raise .sxFault site 7 0

/-- 07 R201: the branches with their conditions. -/
def branchRows : List ((SiteId → ThreadId → Reg → Reg → Half → Instr) × (Word → Word → Bool)) := [
  (.beq, fun a b => decide (a = b)), (.bne, fun a b => decide (a ≠ b)),
  (.blt, fun a b => decide (a.toInt < b.toInt)), (.bge, fun a b => decide (b.toInt ≤ a.toInt))]

/-- 07 R201: the atomics: the value written from the old one, the operand register's and rd's, in a width of `n` bytes. -/
def atomicRows : List ((SiteId → ThreadId → Reg → Reg → Reg → Bool → Instr) × (Nat → Nat → Nat → Nat → Nat)) := [
  (.amoadd, fun n old x _ => (old + x) % 2 ^ (8 * n)),
  (.amomax, fun n old x _ => if sext (8 * n) old < sext (8 * n) x then x else old),
  (.cas, fun n old x d => if old = d % 2 ^ (8 * n) then x else old)]

/-! The vector and matrix engines (04, 05) -/

/-- 06 R168: the vector rows with their VOP. -/
def vectorRows : List (Nat × (ClusterId → Reg → Reg → BitVec 3 → BitVec 13 → Instr)) := [
  (0x01, .vaddF), (0x02, .vsubF), (0x03, .vmulF), (0x04, .vminF), (0x05, .vmaxF), (0x06, .vaddH), (0x07, .vsubH), (0x08, .vmulH),
  (0x09, .vminH), (0x0A, .vmaxH), (0x0B, .vfmaF), (0x0C, .vfmaH), (0x0D, .vcvtF32ToBf16), (0x0E, .vcvtBf16ToF32),
  (0x0F, .vcvtF32ToF16), (0x10, .vcvtF16ToF32), (0x11, .viadd), (0x12, .visub), (0x13, .vand), (0x14, .vor), (0x15, .vxor),
  (0x16, .vshl), (0x17, .vshr), (0x18, .vsra), (0x19, .vcmpEqF), (0x1A, .vcmpNeF), (0x1B, .vcmpLtF), (0x1C, .vcmpLeF),
  (0x1D, .vcmpEqH), (0x1E, .vcmpNeH), (0x1F, .vcmpLtH), (0x20, .vcmpLeH), (0x21, .vcmpEqI), (0x22, .vcmpNeI), (0x23, .vcmpLtI),
  (0x24, .vcmpLeI), (0x25, .vbcast), (0x26, .vexp2F), (0x27, .vlog2F), (0x28, .vrcpF), (0x29, .vrsqF), (0x2A, .vtanhF),
  (0x2B, .vsigF), (0x2C, .vexp2H), (0x2D, .vlog2H), (0x2E, .vrcpH), (0x2F, .vrsqH), (0x30, .vtanhH), (0x31, .vsigH),
  (0x32, .vld), (0x33, .vst), (0x34, .vcompress), (0x35, .vexpand), (0x36, .vrsum), (0x37, .vrsumOpen), (0x38, .vrdot),
  (0x39, .vrdotOpen), (0x3A, .vrout), (0x3B, .vrspill), (0x3C, .vrcomb), (0x3D, .vfsum), (0x3E, .vshst), (0x3F, .vshld)]

/-- 05 R131, R136, R141: the rows that work on registers alone, whatever they hold: their operands lie in no scratchpad and name no
Sounding register that must be open. -/
def laneVops : List Nat := (List.range 64).filter fun v => 1 ≤ v ∧ v ≤ 0x31 ∨ v = 0x34 ∨ v = 0x35 ∨ v = 0x37 ∨ v = 0x39 ∨ v = 0x3D

/-- 05 R139: how an operation uses the shadow: 1 the pre-image, 2 the result, 0 not at all. -/
def shadowUse (vop : Nat) (vd vs : Reg) : Nat :=
  if vop ≤ 0x0C ∨ (0x11 ≤ vop ∧ vop ≤ 0x18) then 1
  else if (vop ≤ 0x10 ∨ (0x26 ≤ vop ∧ vop ≤ 0x31)) ∧ vd = vs then 1
  else if (vop = 0x34 ∨ vop = 0x35) ∧ vd = vs then 2 else 0

/-- 05 R131, R138: the operation as it starts: its word, what it read at issue, no beat committed. -/
def State.vectorRun (s : State) (c : ClusterId) (vop : Nat) (vd vs : Reg) (m : BitVec 3) (count : BitVec 13) : VxRun :=
  { word := encVec vop vd vs m count, lsd := (s.cl c).vx.lsd, rdesc := (s.cl c).vx.rdesc, gval := s.g c vs, shmode := shadowUse vop vd vs }

/-- 05 R131, R140: the vector engine of cluster `c` is idle, and no recorded operation waits to be resumed first. -/
def State.VxIdle (s : State) (c : ClusterId) : Prop :=
  (s.cl c).vx.run = none ∧ ((s.cl c).vx.resumeDue = false ∨ (s.cl c).sq.inh = true)

/-- The panel with the operation `r` started on the vector engine of cluster `c`, its output pointer 0; VXE_PROGRESS follows it, and both stay for
VSHST and VSHLD (05 R141, R146). -/
def State.withVxRun (s : State) (c : ClusterId) (r : VxRun) : State :=
  s.withCl c fun k => { k with vx := if (decVec r.word).vop = 0x3E ∨ (decVec r.word).vop = 0x3F then { k.vx with run := some r }
    else { k.vx with run := some r, optr := 0, progress := progressWord false r 0 } }

/-- Element `i` of vector register `r` of cluster `c` in 32-bit form (05 R126). -/
def State.elem (s : State) (c : ClusterId) (r : Reg) (i : Nat) : Word32 := Tbl.get 0 (s.cl c).vx.v (r.toNat * 4096 + i)
/-- Element `i` of mask `m`: every bit of m0 is 1 (05 R125). -/
def State.maskBit (s : State) (c : ClusterId) (m : BitVec 3) (i : Nat) : Bool := m = 0 || (Tbl.get 0 (s.cl c).vx.m m.toNat).getLsbD i

/-- 05 R130: the 32-bit integer operations and the binary32 ones of two registers, by VOP: the element of vd from its own value and the
element of vs. -/
def laneRows : List (Nat × (Word32 → Word32 → Word32)) := [
  (0x01, fun a b => BitVec.ofNat 32 (convIeee fmtF32 false ((decIeee fmtF32 a.toNat).add (decIeee fmtF32 b.toNat))).code),
  (0x02, fun a b => BitVec.ofNat 32 (convIeee fmtF32 false ((decIeee fmtF32 a.toNat).add (decIeee fmtF32 b.toNat).flip)).code),
  (0x03, fun a b => BitVec.ofNat 32 (convIeee fmtF32 false ((decIeee fmtF32 a.toNat).mul (decIeee fmtF32 b.toNat))).code),
  (0x04, fun a b => BitVec.ofNat 32 (convIeee fmtF32 false ((decIeee fmtF32 a.toNat).min (decIeee fmtF32 b.toNat))).code),
  (0x05, fun a b => BitVec.ofNat 32 (convIeee fmtF32 false ((decIeee fmtF32 a.toNat).max (decIeee fmtF32 b.toNat))).code),
  (0x11, fun a b => a + b), (0x12, fun a b => a - b), (0x13, fun a b => a &&& b), (0x14, fun a b => a ||| b),
  (0x15, fun a b => a ^^^ b), (0x16, fun a b => a <<< (b.toNat % 32)), (0x17, fun a b => a >>> (b.toNat % 32)),
  (0x18, fun a b => a.sshiftRight (b.toNat % 32))]

/-- The panel with the matrix engine of cluster `c` changed. -/
def State.withMx (s : State) (c : ClusterId) (f : Mx → Mx) : State := s.withCl c fun k => { k with mx := f k.mx }

/-- 04 R107, R108, R621, 08 R233: the operation may issue: no interlock, no refusal, no held Weir range. -/
def State.MxFree (s : State) (c : ClusterId) (o : MxOp) : Prop :=
  clusterKind c = 0 ∧ mxHeld (s.cl c).mx o = false ∧ mxRefuse (s.cl c).mx (s.cl c).spd o = none ∧ (s.cl c).spd.weirStalls o.extents = false

/-- 06 R178: the issue point of the sequencer of cluster `c` is reached: it runs, and neither SYNC nor YIELD holds it. -/
def State.AtIssue (s : State) (c : ClusterId) : Prop := (s.cl c).sq.run = true ∧ (s.cl c).sq.hold = .none
/-- The sixteen bytes at offset `a` of the scratchpad of cluster `c`. -/
def State.bundleAt (s : State) (c a : Nat) : Bundle := decBundle (Memory.readN (s.cl c).spd.mem a 16)
/-- 06 R159, R178, R184, 05 R140, 08 R242: cluster `c` fetches the bundle `b` at its program counter, inside a scratchpad without errors:
started, not asked to stop, its scratchpad not being zeroized, no recorded vector operation waiting to be resumed. -/
def State.Fetches (s : State) (c : ClusterId) (b : Bundle) : Prop :=
  s.AtIssue c ∧ (s.cl c).spd.zRun = false ∧ (s.cl c).sq.startWait = false ∧ (s.cl c).sq.stopPend = false ∧
    ((s.cl c).vx.resumeDue = false ∨ (s.cl c).sq.inh = true) ∧
    (s.cl c).sq.pc + 16 ≤ spdSize ∧ s.SpdClean c ∧ s.bundleAt c (s.cl c).sq.pc = b
/-- 06 R179: the bundle that the cluster fetches comes to its issue with no cause to be entered. -/
def State.Issues (s : State) (c : ClusterId) (b : Bundle) : Prop :=
  s.Fetches c b ∧ ((s.cl c).sq.inh = true ∨ (s.cl c).sq.nextPend = none)
/-- 06 R178, R187: the cluster with the trap `k` entered, as the handler finds it. -/
def Cluster.trapped (x : Cluster) (k : Cause) (sub : Nat) : Cluster :=
  { x with sq := { x.sq with epc := x.sq.pc, causeCode := k.code, causeSub := sub, inh := true, pc := x.sq.tvec, hold := .none, wait := 0 }
           vx := { x.vx with run := x.vx.run.map fun r => { r with stopReq := true }, resumeDue := false } }

/-- 06 R169, R171: the move rows with their MVOP, from their operands; SSEND alone has a cut. -/
def moveRows : List (Nat × (ClusterId → Reg → BitVec 5 → Instr)) := [
  (1, .dmaRd), (2, .dmaWr), (3, .dsend), (4, fun c gd lcls => .ssend c gd lcls 0)]
/-- 06 R173: the latency classes of MVOP `n`: its own six, or 31 for an untimed move. -/
def lclsOk (mvop lcls : Nat) : Prop := lcls = 31 ∨ (lcls < 24 ∧ lcls / 6 + 1 = mvop)


/-! The Delta network and the stacks (09, 11) -/

/-- The panel with the router of a site, or one of its ports, changed. -/
def State.withRouter (s : State) (site : Nat) (f : Router → Router) : State := s.modDelta fun d => d.modRouter site f
def State.withPort (s : State) (site port : Nat) (f : DPort → DPort) : State := s.withRouter site fun r => r.modPort port f
/-- 09 R282: the router of a site counts one more accepted packet. -/
def Router.counted (r : Router) : Router := { r with accepted := r.accepted + 1 }
/-- 09 R277: no router's T_sw has come. -/
def State.NoSwitchDue (s : State) : Prop := ∀ e ∈ s.delta.routers, e.2.due s.mcount = false
/-- 09 R282: the router of a site takes no samples and has no record to send. -/
def State.NoTelemetry (s : State) (site : Nat) : Prop := (s.delta.router site).tlmEn = false ∧ (s.delta.router site).tlmBuf = []
/-- 09 R259, R263: the panel after the router of a site has handed a packet from `port` to the unit at its port `out`: what its input buffer held
is freed, and acknowledged on the port's braids. -/
def State.handedOver (s : State) (site port out : Nat) (p : Packet) : State :=
  (s.emit (.packet site out p)).commitRouter site ((s.delta.router site).freeIn port p) []
/-- 09 R290: the window entry of a source for a unit. -/
def State.HasWindow (s : State) (src unit : Nat) (w : WinEntry) : Prop :=
  Tbl.get [] s.delta.wins src = [w] ∧ w.unit = unit
/-- The panel with the window cache of a source replaced. -/
def State.withWindow (s : State) (src : Nat) (w : WinEntry) : State := s.modDelta fun d => { d with wins := Tbl.set d.wins src [w] }
/-- 11 R317: the stack serves requests at once: in service, neither stopped nor under test, no request waiting, its aggregate bucket not active. -/
def State.StackServes (s : State) (k : Nat) : Prop :=
  (s.stk k).stopped = false ∧ s.diag.run = none ∧ (s.gaz.stack k).status = 0 ∧ (s.stk k).waiting = [] ∧ (s.stk k).band < 2

/-! The Levee braids (10) -/

/-- One end of a braid, and the panel with it changed. -/
def State.levEnd (s : State) (b : Nat) (hi : Bool) : LevEnd := (s.brd b).endOf hi
def State.withEnd (s : State) (b : Nat) (hi : Bool) (f : LevEnd → LevEnd) : State := s.modBrd b fun x => x.modEnd hi f
/-- 10 R294: the end is live: neither down nor retired. -/
def State.LevLive (s : State) (b : Nat) (hi : Bool) : Prop := (s.levEnd b hi).state ≠ 0 ∧ (s.levEnd b hi).state ≠ 6
/-- 10 R301, R302: every lane tested passes: no error, margin and opening in range, skew inside the deskew range. -/
def LanesPass (tests : List LaneTest) : Prop := ∀ t ∈ tests, t.2.1 = 0 ∧ 51 ≤ t.2.2.1 ∧ 30 ≤ t.2.2.2.1 ∧ t.2.2.2.2 = true

/-! Clocks and temperatures (22) -/

/-- The clock and temperature state of a site, and the panel with it changed. -/
def State.clkSite (s : State) (x : Nat) : ClkSite := s.clk.site x
def State.withClk (s : State) (x : Nat) (f : ClkSite → ClkSite) : State := s.modClk fun k => k.modSite x f
/-- 22 R576: the step that the values of a site ask for now. -/
def State.wants (s : State) (x : Nat) : Nat :=
  let k := s.clk.site x
  wantStep k.target (s.ceilOf x) s.floorCode k.tcap k.mcap k.band k.marginBelow
/-- 21 R557: no set-point of the site is overridden by object 0x5500. -/
def State.NoOverrides (s : State) (x : Nat) : Prop := ∀ n, n < 8 → s.obj 0x5500 (8 * x + n) = 0x80
/-- 22 R583: a reading in range. -/
def GoodTemp (t : Int) : Prop := -640 ≤ t ∧ t ≤ 2400

/-! The Larre fabric (12) -/

/-- 12 R348: the port takes the frame without an ACK due: it passes its checks, and leaves the port as `d`. -/
def State.LarreTakes (s : State) (n p : Nat) (f : Frame) (d : LPort) : Prop :=
  f.kind = 0 ∧ f.len ≤ 8192 ∧ (s.lport n p).receive (s.dieCount (0x100 + n)) f = (d, true, none)
/-- The panel with a port of an engine replaced. -/
def State.withLport (s : State) (n p : Nat) (d : LPort) : State := s.modLport n p fun _ => d
/-- 12 R361: a link message of a port. -/
def linkMsg (n p kind : Nat) (ws : List Nat) : Msg := .link (n * 4 + p) kind ws
/-- 12 R361: the lanes of port `p` in a split all hold lock. -/
def LanesLock (split p : Nat) (lock : Half) : Prop := ∀ l ∈ portLanes split p, lock.getLsbD l = true

/-! The catchment (14) -/

/-- 14 R404: the panel is entry `me` of the catchment `r`. -/
def State.Entry (s : State) (r : Catchment) (me : Nat) : Prop := s.cnf.record = some r ∧ s.cnf.me s.gaz.eui = some me
/-- 14 R410: a message names this catchment and comes from its entry `i`, another than this panel. -/
def State.From (s : State) (ident catchment : Half) (i : Nat) : Prop := s.fromEntry ident catchment = some i
/-- 14 R406: what is held of the neighbour `j`. -/
def State.neigh (s : State) (j : Nat) : Neighbour := Tbl.get {} s.cnf.neigh j

/-! Tenants, charts and channels (15, 06) -/

/-- 15 R429: the partitions that a write of 0x4200 names, each with its HALT group (log entry 38). -/
def newParts (data : List Byte) : Tbl Partition :=
  ((List.range 256).map fun n => (n, { partOfBytes ((data.drop (400 * n)).take 400) with haltGroup := n + 1 })).filter fun e => e.2.state != 0
/-- 15 R429: the partition that holds a cluster, with its number. -/
def holder (ps : Tbl Partition) (c : Nat) : Option (Nat × Partition) := ps.find? fun e => e.2.state != 0 && e.2.set.contains c
/-- The panel with the partition `n` entered by cluster `c` as far as step `k`. -/
def State.Enters (s : State) (c n k since : Nat) : Prop := Tbl.get? s.ten.entering c = some ⟨n, k, since⟩
/-- 06 R193 steps 1 to 3: the chart is well formed, of this panel, of a floor that the panel keeps, and of its generation. -/
def State.ChartFits (s : State) (bs : List Byte) : Prop :=
  chartOk bs = true ∧ le bs 8 8 = s.gaz.eui.toNat ∧ le bs 0x14 1 = s.gaz.grade ∧ le bs 0x16 2 ≤ s.obj 0x2201 0 ∧ le bs 0x10 4 = s.gaz.gen
/-- The panel with the channel `i` changed. -/
def State.withChan (s : State) (i : Nat) (f : Chan → Chan) : State := s.modTen fun t => t.modChan i f
/-- 15 R443: `e` is the only entry of the open channel `i`, and has not started; it is of a kind; the completion queue lies in no scratchpad
under zeroization and in no stack that would hold the write. -/
def State.OneEntry (s : State) (i : Nat) (e : SubEntry) (kind : Nat) : Prop :=
  (s.ten.chan i).state = 1 ∧ (s.ten.chan i).entries = [e] ∧ e.started = false ∧ e.done = none ∧ e.kind = kind ∧ s.memHoldsAt 0x140 (s.ten.chan i).tenant (s.ten.chan i).cq = false
/-- 15 R443: no entry of a kind starts next on channel `i`. -/
def State.NoEntry (s : State) (i kind : Nat) : Prop := s.nextEntry i kind = none
/-- The panel with the only entry of channel `i` completed, no completion asked for. -/
def State.entryDone (s : State) (i : Nat) : State := s.withChan i fun c => { c with entries := [] }
/-- 16 R460: the doorbell is taken at the port. -/
def State.Rings (s : State) (port : Fin 2) (fn : Nat) : Prop :=
  s.fw.accepted 1 = true ∧ (s.hosts.port port).linkUp = true ∧ s.hosts.enabled port fn = true ∧ s.portServes port = true ∧ s.hosts.pend = none
/-- The panel with a host port changed. -/
def State.withHost (s : State) (p : Nat) (f : HostPort → HostPort) : State := s.modHosts fun h => h.modPort p f
/-- Each channel number is listed once. -/
def State.ChansListed (s : State) : Prop := ∀ e ∈ s.ten.chans, s.ten.chan e.1 = e.2
/-- 16 R465: the primary role passes to `p`: the epoch advances. -/
def Promoted (p : Nat) (s u : State) : Prop :=
  u.hosts.primary = p ∧ u.hosts.epoch = (s.hosts.epoch + 1) % 2 ^ 32 ∧ u.hosts.pend = none ∧ u.hosts.promoteAtLink = false
/-- 16 R465: the loss of the primary at a port sets its deadline and closes its expert sessions; of the other port, nothing. -/
def State.LosesPrimary (s u : State) (port : Nat) : Prop :=
  (s.hosts.primary = port → u.hosts.pend = some (s.hosts.pend.getD (s.mcount + s.obj 0x1101 0 * 1000000))) ∧
  (s.hosts.primary ≠ port → u.hosts.pend = s.hosts.pend)

/-! The Legend server (17) -/

/-- 17 R481, R487: no session is past its deadline, and no transfer has been idle for 10 s. -/
def State.NothingIdle (s : State) : Prop :=
  (∀ e ∈ s.lgd.sessions, s.mcount ≤ e.2.deadline) ∧ ∀ e ∈ s.lgd.xfers, s.mcount ≤ e.2.last + 10000000000
/-- 17 R479, R486: the request is served in the open session `x`, and is no repeat. -/
def State.InSession (s : State) (h : LapHdr) (x : Sess) : Prop :=
  s.lapServed h = true ∧ h.ver = 1 ∧ h.session ≠ 0 ∧ s.NothingIdle ∧ s.sessionOf h = some x ∧ ∀ e ∈ x.cache, e.1 ≠ h.xid.toNat
/-- 17 R481: the panel with the deadline of the session renewed. -/
def State.renewed (s : State) (h : LapHdr) (x : Sess) : State :=
  s.modLgd fun l => { l with sessions := Tbl.set l.sessions h.session.toNat { x with last := s.mcount, warned := false } }
/-- 17 R483: a response to a request. -/
def lapMsg (op : Nat) (h : LapHdr) (st : FCode) (arg : Nat) (bs : List Byte) : Msg :=
  .lap h.ep (op + 0x80) h.session.toNat h.xid.toNat h.index.toNat h.sub.toNat st arg bs
/-- 17 R486: the panel `t` with the response to a request of the panel `s` sent, and kept by the session `x`, its deadline renewed. -/
def State.replied (s t : State) (op : Nat) (h : LapHdr) (x : Sess) (st : FCode) (arg : Nat) (bs : List Byte) : State :=
  (t.modLgd fun l => { l with sessions := Tbl.set l.sessions h.session.toNat { x with
    last := s.mcount, warned := false
    cache := ((h.xid.toNat, ⟨op, h.session.toNat, h.index.toNat, h.sub.toNat, st, arg, bs⟩) :: x.cache).take 8 } }).emit (lapMsg op h st arg bs)
/-- The panel with a transfer replaced. -/
def State.withXfer (s : State) (n : Nat) (y : Xfer) : State := s.modLgd fun l => { l with xfers := Tbl.set l.xfers n y }

/-! The Cartouche (18) -/

/-- 18 R499, R509: the active instance of the Cartouche serves requests. -/
def State.SpdmUp (s : State) : Prop := s.boot.level.isSome = true ∧ s.ctgState = 1
/-- 18 R506: the SPDM session `id` of an endpoint, its handshake finished. -/
def State.Secure (s : State) (ep : Endpoint) (id : Word32) (x : SpdmSess) : Prop := s.spdmOf ep id.toNat true = some x
/-- An SPDM response sent. -/
def State.says (s : State) (ep : Endpoint) (r : SpdmResp) : State := s.emit (.spdm ep r)
/-- 18 R502: a message that its unit acts on: sent at this start, its counter fresh. -/
def State.KeyOk (s : State) (m : KpMsg) : Prop := m ∈ s.ctg.sent ∧ Tbl.get 0 s.ctg.kpLast m.unit < m.ctr
/-- 18 R502: the panel with a key-path message accepted. -/
def State.keyTaken (s : State) (m : KpMsg) : State :=
  s.modCtg fun c => { c with kpLast := Tbl.set c.kpLast m.unit m.ctr, kpBad := Tbl.erase c.kpBad m.unit }
/-- 18 R511: the volatile secrets of the Cartouche are gone. -/
def State.SecretsGone (s : State) : Prop := s.ctg.spdm = [] ∧ s.ctg.tkeys = [] ∧ s.ctg.fwKeys = []

/-! Starts, resets and power (20, 21) -/

/-- 20 R541, R544: `u` is the panel `s` after the effects of an assertion of PANEL_RESET_N at a warm reset: no part of a start runs, no
service is offered, secrets, firmware, sessions, channels, routing and Confluence state are gone, lasers are off, no sequencer runs; the
steered columns, the objects retained across warm reset and the reset-stuck policy are kept; the rails are on their way down. -/
def ResetFrom (s u : State) : Prop :=
  u.boot.part = 0 ∧ u.boot.level = none ∧ u.SecretsGone ∧ u.fw = {} ∧ u.lgd.sessions = [] ∧ u.ten = {} ∧ u.delta = {} ∧ u.cnf = {} ∧
  u.hosts = {} ∧ (∀ n, (u.larre.engine n).laser = false) ∧
  (∀ c, (u.cl c).sq.run = false ∧ (u.cl c).spd.steer = (s.cl c).spd.steer) ∧
  (∀ k, k < 2 ^ 16 → u.obj 0x2300 k = s.obj 0x2300 k ∧ u.obj 0x5500 k = s.obj 0x5500 k) ∧ u.obj 0x1010 0 = objDefault 0x1010 ∧
  u.pwr.good = false ∧ (u.pwr.seq = 4 ∨ u.pwr.seq = 5) ∧ u.pwr.waits = [] ∧ u.pwr.held = [] ∧ ∀ c, (u.pwr.dom c).state = 0
/-- 20 R543, 21 R556: a start may begin: the panel has no start under way, V_HK stays, the off time is over, PWR_EN is asserted, the input has
recovered, no third RAIL_FAULT_UP holds it. -/
def State.MayStart (s : State) : Prop :=
  s.boot.part = 0 ∧ s.pwr.vhk = true ∧ s.pwr.seq = 5 ∧ s.pwr.offAt + 500000000 ≤ s.now ∧ s.pwr.en = true ∧ s.pwr.vinOk = true ∧ s.pwr.upFaults < 3
/-- 20 R535, R543, 18 R509: `u` is the panel `s` at the begin of a start whose pre-operational tests end as `a` and `b` tell. -/
def Started (a b : Bool) (s u : State) : Prop :=
  u.boot.part = 1 ∧ u.boot.partAt = s.now ∧ u.boot.level = some 0 ∧ (u.boot.stopped = true ↔ a = false ∧ b = false ∨ s.ctg.endOfLife = true) ∧
  u.pwr.seq = 1 ∧ u.fw.active = (if !a && b then 1 else 0) ∧ u.fw.svbUp = (a && b) ∧ u.ctg.startNo = (s.ctg.startNo + 1) % 2 ^ 32 ∧
  (s.ctg.endOfLife = false → (u.ctg.unit 0).state = (if a then 1 else 2) ∧ (u.ctg.unit 1).state = if b then 1 else 2)
/-- 18 R513: the approved mode is not asked for. -/
def State.NoApproval (s : State) : Prop := s.ctg.fuse = false ∧ s.obj 0x7010 0 ≠ 1
end Sys2Proof.Machine
end

