-- ==== Sys2Proof/Certificates/Slice0/Obligations.lean ====
section
/-!
DEFINITION. The statements about the panel for the provers.
-/
open Sys2Proof Sys2Proof.Machine

/-- Every command, on every panel, answers a next state: the memories of every scratchpad and every stack keep their canonical form (log entry
5), every waiting command stays well formed and waiting, no time passes, free values are never taken back (log entry 6), and what the panel has
sent stays sent. A step does the same and takes the command at the front of the queue off it; time passes only where no command waits
(log entry 2). -/
def Obligations.EveryStepKeepsMemoriesQueueAndTime : Prop :=
  (∀ (c : Instr) (s : State), Completes c s fun t => (s.MemoriesCanonical → t.MemoriesCanonical) ∧ (s.QueueWf → t.QueueWf) ∧ t.pending = s.pending ∧
    t.now = s.now ∧ s.freeCtr ≤ t.freeCtr ∧ s.out <:+ t.out) ∧
  ∀ s : State, ∃ t, step s = .next t ∧ (s.MemoriesCanonical → t.MemoriesCanonical) ∧ (s.QueueWf → t.QueueWf) ∧ t.pending = s.pending.tail ∧
    (s.pending ≠ [] → t.now = s.now) ∧ (s.pending = [] → t.now = s.now + 1) ∧ s.freeCtr ≤ t.freeCtr ∧ s.out <:+ t.out

/-- A step takes the command at the front of the queue and runs it on the panel with the rest of the queue; with no command waiting a cycle of
the time base passes and nothing else changes but a time frame that may be sent, and the counts where a step of the time waits for the tick
(13 R388): the model's choice (log entry 2). What it runs completes where its rule says: 17 R473 to R487, the requests of an open session; 15 R429 to R450, 06 R193, partitions, plots, charts and channels; 01
R32 to R36, change sets and activations; 14 R405 to R422, neighbours, votes and epoch closes; 16 R457 to R470, the host ports; 20 R535 to
R544, the parts of a start and the resets. -/
def Obligations.AStepRunsTheFrontCommand : Prop :=
  (∀ (c : Instr) (s : State), step (s.withFront c) = exec c s) ∧
  (∀ (c : Instr) (rest : List Instr) (s : State), s.pending = c :: rest → step s = exec c { s with pending := rest }) ∧
  (∀ s : State, s.pending = [] → ∃ t, step s = .next t ∧ t.now = s.now + 1 ∧ s.out <:+ t.out ∧ ChangesOnly [.now, .out, .mer] s t ∧
    (s.mer.unit.stepPend = none → ChangesOnly [.now, .out] s t)) ∧
  -- 17: the requests of a session, its transfers, and what ends them
  (∀ (h : LapHdr) (x : Sess) (d : ObjDef) (y : Xfer) (xf want : Half) (off : Word32) (bs : List Byte) (fails : Option (Fin 10))
      (data : List (Fin 4096 × List Byte)) (s : State), s.InSession h x → let t := s.renewed h x; let n := xf.toNat; let sn := h.session.toNat
    exec (.lapPing h) s = .next (s.replied s 0x12 h x .ok 0 (leBytes 8 s.mcount)) ∧ (Completes (.lapClose h) s fun u => Tbl.get? u.lgd.sessions sn = none) ∧
    (s.lookup h.index.toNat = some d → t.hasSub d h.sub.toNat = true → d.expert = false →
      (∃ v, exec (.lapDescribe h) s = .next (s.replied s 3 h x .ok 0 v)) ∧
      (d.acc ≠ 3 → s.sourceUp d.idx = true → let v := t.valueAt d h.sub.toNat
        (v.length ≤ Endpoint.segment h.ep → exec (.lapRead h) s = .next (s.replied s 1 h x .ok v.length v)) ∧
        (d.segmented = true → s.lgd.xferFull sn = false → s.lgd.freeXfer = some n → exec (.segReadStart h) s =
          .next (s.replied (s.withXfer n ⟨sn, d.idx, h.sub.toNat, false, v.length, v, [], s.mcount⟩) 4 h x .ok v.length (leBytes 2 n ++ leBytes 2 0 ++ leBytes 4 (crc32 v))))) ∧
      (1 < d.acc → primaryOwned d.idx = false → d.segmented = true → d.lengthOk h.sub.toNat off.toNat = true → s.lgd.writing d.idx = false →
        s.imageBusy h.ep d.idx = false → s.lgd.xferFull sn = false → s.lgd.freeXfer = some n → exec (.segWriteStart h off) s =
          .next (s.replied (s.withXfer n ⟨sn, d.idx, h.sub.toNat, true, off.toNat, [], [], s.mcount⟩) 6 h x .ok 0 (leBytes 2 n)))) ∧
    (s.lookup h.index.toNat = objDef 0x1101 → h.index = 0x1101 → h.sub = 0 → x.expert = true → bs.length = 4 → s.lgd.writing 0x1101 = false → s.fw.accepted 1 = true →
      s.ctg.approved = false → 10 ≤ leNat bs → leNat bs ≤ 60000 → exec (.lapWrite h bs fails data) s = .next (s.replied (s.setObj 0x1101 0 (leNat bs)) 2 h x .ok 0 [])) ∧
    (Tbl.get? s.lgd.xfers n = some y → y.sess = sn →
      exec (.segAbort h xf) s = .next (s.replied (s.modLgd fun l => { l with xfers := Tbl.erase l.xfers n }) 9 h x .ok 0 []) ∧
      (y.write = false → off.toNat ≤ y.total → ∃ v, exec (.segRead h xf want off) s = .next (s.replied (s.withXfer n { y with last := s.mcount }) 5 h x .ok v.length v)) ∧
      (y.write = true → bs.length ≤ Endpoint.segment h.ep → off.toNat + bs.length ≤ y.total → ∃ z,
        exec (.segWrite h xf off bs) s = .next (s.replied (s.withXfer n { y with staged := z, last := s.mcount }) 7 h x .ok 0 [])) ∧
      (y.write = true → bs.length = y.total → (∀ k, k < y.total → Tbl.get? y.staged k = bs[k]?) → crc32 bs = off.toNat → y.index = 0x5403 → y.sub = 0 →
        bs.length ≤ 0xFFFFFFFF → Completes (.segWriteEnd h xf off) s fun u => u.cnf.patches = bs))) ∧
  (∀ (h : LapHdr) (flags : Byte) (spdm : Word32) (n : Half) (x : Sess) (y : Xfer) (s : State),
    (s.lapServed h = true → s.NothingIdle → h.ver = 1 → h.session = 0 → s.lgd.openCount false (Endpoint.kind h.ep) < 32 → s.lgd.freeSession = some n.toNat →
      Completes (.lapOpen h 0 flags spdm 1000) s fun u => (Tbl.get? u.lgd.sessions n.toNat).map (·.ep) = some h.ep) ∧
    (Tbl.get? s.lgd.sessions n.toNat = some x →
      (x.deadline < s.mcount → Completes (.sessionExpiry n) s fun u => Tbl.get? u.lgd.sessions n.toNat = none) ∧
      (x.note = true → x.warned = false → x.deadline ≤ s.mcount + 1000000000 → Completes (.sessionExpiryWarning n) s fun u =>
        Tbl.get? u.lgd.sessions n.toNat = some { x with warned := true })) ∧
    (Tbl.get? s.lgd.xfers n.toNat = some y → y.last + 10000000000 < s.mcount → Completes (.transferIdleExpiry n) s fun u => Tbl.get? u.lgd.xfers n.toNat = none) ∧
    (s.boot.restored = false → Completes .hostSuppliedRestored s fun u => u.boot.restored = true)) ∧
  -- 15, 06: partitions, plots, charts, channels
  (∀ (port : Fin 2) (c : ClusterId) (e : TChange) (fn : Fin 513) (num : Half) (bs : List Byte) (p : Fin 256) (z : Sect) (s : State),
    (s.hosts.primary = port.val → bs.length = 102400 → s.partBad (newParts bs) = false → Completes (.partitionWrite port bs) s fun u =>
      ∀ q ∈ newParts bs, ∃ st, (q.1, { q.2 with state := st }) ∈ u.ten.parts) ∧
    (Tbl.get? s.ten.entering c.val = some e → e.step = 2 →
      ((s.cl c).sq.moves = [] → (s.cl c).sx.gathers = [] → (s.cl c).spd.weir = [] → Completes (.tenantDrainDone c) s fun u => u.Enters c e.part 4 e.since) ∧
      (e.since + 10000000 ≤ s.mcount → Completes (.tenantDrainLimit c) s fun u => u.Enters c e.part 4 e.since ∧ (u.cl c).sq.moves = [])) ∧
    (s.atZero = false → bs.length = 32 → num.toNat < 8192 → (plotOfBytes bs).length ≠ 0 → Tbl.get? s.ten.plots num.toNat = none → s.ten.draining = none →
      s.bound port fn (plotOfBytes bs).tenant = true → s.plotOk num.toNat (plotOfBytes bs) = true → Completes (.plotChange port fn num bs) s fun u =>
        Tbl.get? u.ten.plots num.toNat = some (plotOfBytes bs)) ∧
    (s.oldTransfers = 0 → s.ten.draining.isSome → s.ten.waitingPlots = [] → Completes .plotVersionDrained s fun u => u.ten.draining = none) ∧
    (s.atZero = false → s.ChartFits bs → (s.ten.part p).state ≠ 0 → chartSects bs = [z] → chartRels bs = [] → z.kind = 1 → 1 ≤ z.size → z.cluster ∈ (s.ten.part p).set →
      z.addr + z.size ≤ spdSize → s.sectWaits (s.ten.part p).tenant (spdAddr z.cluster z.addr, (bs.drop z.off).take z.size) = false → s.SpdClean z.cluster →
      Completes (.chartLoad p bs [] none) s fun u => u.out = .loaded p .ok 0 s.ten.nextLoad :: s.out)) ∧
  (∀ (port : Fin 2) (fn : Fin 513) (bs data : List Byte) (handle prod : Word32) (i : Fin 4096) (e : SubEntry) (p f a b q g k o seq : Nat) (s : State)
      (c : Chan), c = s.ten.chan i →
    (let r := createOfBytes bs; s.schedUp = true → bs.length = 64 → s.boot.level = some 2 → r.ok bs = true → s.bound port fn r.tenant = true → r.part ≠ 0xFFFF →
      (∃ e ∈ s.ten.parts, e.1 = r.part ∧ e.2.state ≠ 0 ∧ e.2.tenant = r.tenant) → s.createBounds r = true → c.state = 0 → (∀ j, j < 4096 → j ≠ i.val → (s.ten.chan j).state ≠ 0) →
      Completes (.channelCreate port fn bs) s fun u => (u.ten.chan i).state = 1 ∧ (u.ten.chan i).tenant = r.tenant ∧ (u.ten.chan i).part = r.part) ∧
    (s.schedUp = true → s.ten.current handle.toNat = true → s.bound port fn (handleTenant handle.toNat) = true → Completes (.channelDestroy port fn handle) s fun u =>
      u.ten.current handle.toNat = false) ∧
    exec .chnStaleRead s = .next (s.modTen fun t => { t with stale := 0 }) ∧
    (s.Rings port fn → handleIndex handle.toNat = i.val → s.ten.current handle.toNat = true → s.bound port fn (handleTenant handle.toNat) = true → c.state = 1 → s.schedUp = true →
      s.memHoldsAt 0x140 c.tenant c.sq = false → (prod.toNat + 2 ^ 32 - c.fetched) % 2 ^ 32 = 1 → c.entries = [] → s.pathUp (.host p f a) = true →
      decodeAddr (c.sq + 64 * (c.fetched % 2 ^ c.sqLog)) = .ok (.host p f a) → decodeAddr (c.sq - 8) = .ok (.host p f b) →
      let e := subOfBytes c.fetched (c.fetched % 2 ^ c.sqLog) (data.take 64)
      1 ≤ e.kind → e.kind ≤ 4 → Completes (.doorbell port fn i handle prod data) s fun u => (u.ten.chan i).entries = [e]) ∧
    (e.flag = false →
      (∀ x pc, s.OneEntry i e 1 → Tbl.get? s.ten.charts (e.b.toNat % 2 ^ 32) = some ⟨c.part, [(x, pc)]⟩ → Tbl.get? s.ten.running c.part = none →
        Tbl.get [] s.ten.waitingRuns c.part = [] → (s.cl x).sq.run = false → Completes (.run i) s fun u => (u.cl x).sq.run = true ∧ (u.cl x).sq.pc = pc) ∧
      (s.OneEntry i e 2 → e.c ≠ 0 → s.cnf.record = none → s.hostExtent c.tenant false e.a.toNat e.c.toNat = .ok (.host p f a) →
        s.hostExtent c.tenant true e.b.toNat e.c.toNat = .ok (.host q g b) →
        exec (.dmaEntry i) s = .next (s.withChan i fun c => { c with entries := [{ e with started := true, par := s.ten.verCur }] })) ∧
      (s.OneEntry i e 3 → exec (.fenceEntry i) s = .next (s.entryDone i)) ∧
      (s.OneEntry i e 4 → s.hostExtent c.tenant true e.a.toNat 8 = .ok (.host p f a) →
        exec (.signalEntry i) s = .next ((s.entryDone i).emit (.hostWrite p f a (leBytes 8 e.b.toNat)))) ∧
      (c.entries = [e] → e.seq = seq → e.kind = 2 → e.started = true → e.done = none → c.state = 1 → s.memHoldsAt 0x140 c.tenant c.cq = false →
        decodeAddr e.a.toNat = .ok (.host p f a) → decodeAddr e.b.toNat = .ok (.spd k o) → (s.cl k).spd.zRun = false → (s.cl k).spd.waits 0 (dmaXfer i seq) = false → data.length = e.c.toNat → o + e.c.toNat ≤ spdSize → s.SpdClean k →
        Completes (.hostDmaComplete i seq data false) s fun u => (u.ten.chan i).entries = [] ∧ Memory.readN (u.cl k).spd.mem o e.c.toNat = data))) ∧
  (∀ (p : Fin 256) (r w : Running) (e : SubEntry) (x : SavedCluster) (start : Word) (s : State),
    let cs := (Tbl.get ⟨p, []⟩ s.ten.charts r.load).clusters.map (·.1); let c := s.ten.chan r.chan; let ws := Tbl.get [] s.ten.waitingRuns p
    (Tbl.get? s.ten.running p = some r →
      ((∀ k ∈ cs, (s.cl k).sq.run = false ∧ (s.cl k).chn.ystat.testBit 31 = false) → c.entries = [e] → e.seq = r.seq → e.done = none → e.flag = false → ws = [] →
        s.memHoldsAt 0x140 c.tenant c.cq = false → exec (.runComplete p) s = .next ((s.modTen fun t => { t with running := Tbl.erase t.running p }).entryDone r.chan)) ∧
      (r.since + c.slice * 100000 ≤ s.mcount → (∃ w ∈ ws, (s.ten.chan w.chan).prio = c.prio ∧ w.chan ≠ r.chan) → c.saveSlot ≠ 0xFF → r.preempt = false →
        Completes (.timeSliceExpiry p) s fun u => Tbl.get? u.ten.running p = some { r with preempt := true }) ∧
      (cs ≠ [] → (∀ k ∈ cs, (s.cl k).yielded = true) → s.ten.plots = [] → ws = [] → Completes (.chartYielded p []) s fun u =>
        Tbl.get? u.ten.running p = none ∧ ∀ k ∈ cs, (u.cl k).chn.ytp = 0)) ∧
    (Tbl.get? s.ten.running p = none → ws = [w] → (s.ten.chan w.chan).state = 1 → w.saved = some [x] → s.mcount + 200000 ≤ start.toNat → x.bytes = [] →
      Completes (.yieldResume p start) s fun u => (u.cl x.cluster).sq.pc = x.pc ∧ (u.cl x.cluster).sq.startAt = start.toNat)) ∧
  (∀ (port : Fin 2) (P : Half) (p : Fin 256) (w : Word) (r : HaltReq) (s : State), let q := s.ten.part p; let halts (u : State) : List HaltReq := Tbl.get [] u.ten.halts p
    (s.hosts.primary = port.val → P.toNat = p.val → (w.setWidth 8).toNat = p.val → s.hosts.pend = none → (s.hosts.port port).linkUp = true → q.state ≠ 0 → halts s = [] →
      (Completes (.partitionHalt port P) s fun u => halts u = [⟨none, 0, q.set.length⟩]) ∧
      (Completes (.haltDoorbell port 0 w) s fun u => halts u = [⟨some port, w.toNat / 2 ^ 32, q.set.length⟩])) ∧
    (s.hosts.primary = port.val → P.toNat = p.val → (∀ e ∈ s.ten.chans, e.2.prod = e.2.fetched) → Tbl.get [] s.ten.waitingRuns p = [] → Completes (.haltRelease port P []) s fun u =>
      ∀ i, (s.ten.chan i).state = 3 → (s.ten.chan i).part = p.val → (s.ten.chan i).overrun = false → u.ten.chan i = { s.ten.chan i with state := 1 }) ∧
    (halts s = [r] → q.haltGroup ∉ s.delta.mcPend → s.mcWaits q.haltGroup = false → r.expect ≤ Tbl.get 0 s.delta.mackSum q.haltGroup → r.port = none → Completes (.haltComplete p) s fun u => halts u = [])) ∧
  -- 01: change sets, expert commands, the steps of an activation
  (∀ (e : GazEvent) (k : StackId) (x : SiteId) (r : Nat) (m : Bool) (b : BraidTest) (rt : RouteTables) (tsw : Word) (s : State),
    let at_ (k : Nat) : Option Activation := some ⟨k, some x, r, m⟩
    (e.u = .unit (.stack k) → e.reason ≤ 8 → transitionOk (.stack k) (s.gaz.stack k).status (s.gaz.stack k).reason e.status e.reason false = true →
      Completes (.gazetteerChangeSet [e]) s fun u => (u.gaz.stack k).status = e.status ∧ (u.gaz.stack k).reason = e.reason) ∧
    (transitionOk (.stack k) (s.gaz.stack k).status (s.gaz.stack k).reason 1 9 false = true → Completes (.expertStatusCommand (.stack k) 1) s fun u =>
      (u.gaz.stack k).status = 1 ∧ (u.gaz.stack k).reason = 9) ∧
    (s.gaz.act = none → (s.gaz.site x).status = 2 → s.gaz.sitesIn.length < 180 → s.gaz.replacedByManual = some r →
      exec (.reserveActivate (BitVec.ofNat 8 x)) s = .next (s.modGaz fun g => { g with act := some ⟨1, some x, r, true⟩ })) ∧
    (s.gaz.act = at_ 1 → s.pwr.inwin.testBit 9 = true → s.pwr.seq = 3 → Completes .reservePowerUp s fun u => u.gaz.act = at_ 2 ∧
      ∀ c, c / 8 = x.val → (s.gaz.cluster c).status = 2 → (u.pwr.dom c).state = 1) ∧
    (s.gaz.act = at_ 2 → (∃ c, c / 8 = x.val ∧ (s.gaz.cluster c).status = 2) → (∀ c, c / 8 = x.val → (s.gaz.cluster c).status = 2 → (s.pwr.dom c).state = 3) →
      Completes (.reserveSelfTest []) s fun u => u.gaz.act = at_ 3 ∧ u.diag.pass = true) ∧
    (s.gaz.act = at_ 3 → b.b.val ∈ siteMeshBraids x ++ siteMemBraids x → (s.gaz.braid b.b).status = 2 → exec (.reserveLinkTraining [b]) s =
      .next ((s.trainBraid 1 b.b b.identOk b.fullRate b.tests).modGaz fun g => { g with act := at_ 4 })) ∧
    (s.gaz.act = at_ 4 → let t := s.modGaz (s.activated ⟨4, some x, r, m⟩ x)
      s.slotFree = true → tsw.toNat % 100000 = 0 → s.mcount + 200000 ≤ tsw.toNat → t.gaz.siteJoined x = true → t.editionOk rt = true →
      Completes (.reserveEdition rt tsw) s fun u => u.gaz.act = at_ 5 ∧ u.delta.tabs s.nextSlot = rt) ∧
    (s.gaz.act = at_ 5 → let g := s.activated ⟨5, some x, r, m⟩ x s.gaz
      (∀ y ∈ s.gaz.sitesIn, (s.delta.router y).armed = false) → s.gaz.sitesIn.length < 180 → g.siteJoined x = true → (∀ y ∈ g.sitesIn, y ∈ g.kept s.fw.active) →
      Completes .activationComplete s fun u => (u.gaz.site x).status = 0 ∧ (u.gaz.site x).replaces = r ∧ u.gaz.act = none)) ∧
  -- 14: the neighbours, a vote, and the close of an epoch
  (∀ (n : EngineId) (p : Fin 4) (ident catchment ifgen : Half) (tick : BitVec 48) (rcrc vseq a digest : Word32) (b : Ballot) (ret tw : Word) (action : Byte)
      (r : Catchment) (v : Vote) (me i : Nat) (s : State), let c := s.cnf
    (s.cnf.record = none → exec .heartbeatSend s = .next (s.emits ((s.larrePorts.filter fun p => (s.larre.port (p / 4) (p % 4)).state == 2).map fun p => Msg.link p 2
      [flg 0 c.member + flg 1 c.fenced + flg 2 c.vote.isSome + flg 3 s.isStandby, s.identity, 0, (s.fw.img 1).ifgen, tickOf s.mcount, 0, 0]))) ∧
    (c.member = true → tickEnd tick.toNat < s.mcount → c.neigh ≠ [] → (∀ e ∈ c.neigh, ∃ t, e.2.heard = some t ∧ tick.toNat ≤ t) →
      Completes (.heartbeatTickEnd tick) s fun u => u.cnf.quietTicks = 0) ∧
    (c.fenced = false → Completes .cnfFence s fun u => u.cnf = { c with fenced := true }) ∧ (Completes (.cnfCounterRead true) s fun u => u.cnf = { c with late := 0 }) ∧
    (s.Entry r me →
      (r.byIdentity ident.toNat = some i → i ≠ me → s.retiredPeer n p = false → catchment.toNat = r.ident → rcrc.toNat = r.crc → ifgen.toNat = r.ifgen →
        (s.fw.img 1).ifgen = r.ifgen → s.dieCount (0x100 + n) ≤ tickEnd tick.toNat → Completes (.heartbeat n p ident catchment ifgen tick rcrc) s fun u =>
          4 * n.val + p.val ∈ (u.neigh i).matched ∧ (u.neigh i).silent = 0) ∧
      (c.member = true → c.fenced = false → c.vote = none → Completes .rewindRequest s fun u => (u.cnf.vote.map (·.vseq)) = some (c.vseq + 1)) ∧
      (catchment.toNat = r.ident → ret.getLsbD me = true → Completes (.verdict n p catchment vseq digest ret tw action) s fun u => u.cnf.fenced = true)) ∧
    (s.From ident catchment i →
      (c.member = true → c.fenced = false → c.vote = none → vseq.toNat = c.vseq + 1 → Completes (.accuse ident catchment vseq a) s fun u =>
        (u.cnf.vote.map (·.vseq)) = some vseq.toNat) ∧
      (c.vote = some v → vseq.toNat = v.vseq → s.mcount ≤ tickEnd (v.a + 2) → exec (.ballot ident catchment vseq b) s =
        .next (s.modCnf fun c => { c with vote := some { v with ballots := Tbl.set v.ballots i b } })) ∧
      (c.vote = some v → vseq.toNat = v.vseq → v.round ≤ 2 → s.mcount ≤ tickEnd (v.a + 5) → Completes (.decide ident catchment vseq []) s fun u => ∃ w : Vote,
        u.cnf.vote = some w ∧ ∀ k x, Tbl.get? v.ballots k = some x → Tbl.get? w.ballots k = some x) ∧
      (c.vote = none → Completes (.confluenceStop ident catchment 2) s fun u => u.cnf = { c with stopped := true })) ∧
    (c.record = some r → c.vote = some v →
      (v.round = 1 → tickEnd (v.a + 2) < s.mcount → Completes .voteRound1Deadline s fun u => u.cnf = { c with vote := some { v with round := 2 } }) ∧
      (v.round = 2 → tickEnd (v.a + 5) < s.mcount → v.others = [] → v.diverge = false → Completes .voteFreeze s fun u => (u.cnf.vote.map (·.round)) = some 3) ∧
      (∀ mask tsw e, v.verdict = some (mask, tsw, e, 0) → v.diverge = false → tsw ≤ s.mcount → c.waitAccuse = false → Completes .verdictSwitch s fun u => u.cnf.vote = none))) ∧
  (∀ (w : Word) (x : Close) (r : Catchment) (me i k : Nat) (m : MirrorEntry) (pl : Plot) (slot : BitVec 6) (ident catchment : Half) (epoch : Word32) (parity : Byte) (crc : Word)
      (s : State), let c := s.cnf
    (w.toNat % 100000 = 0 → s.mcount + 200000 ≤ w.toNat → exec (.epochCloseArm w) s = .next (s.modCnf fun x => { x with eclose := w.toNat })) ∧
    (c.record = some r → c.eclose ≠ 0 → c.eclose ≤ s.mcount → c.close = none → c.member = true → c.fenced = false →
      (∀ x ∈ s.tenantClusters r.tenant, (s.cl x).closeQuiet = true) → Completes .epochClose s fun u => u.cnf.close = some { epoch := c.cur, at_ := c.eclose }) ∧
    (c.record = some r → c.pull = true → Completes (.pullComplete true []) s fun u => u.cnf = { c with pull := false, rwdone := true }) ∧
    (c.close = some x → let limit := x.at_ + s.obj 0x5404 0 / 65536 * 100000; let window := x.at_ + s.obj 0x5404 0 % 65536 * 1000000
      (c.mirror = 0 → c.mirrorQ = [] → s.Entry r me → (∃ e ∈ s.ownSlots (x.epoch % 2), (x.epoch, e.slot) ∉ x.matched) →
        Completes .mirrorDrainDone s fun u => u.cnf.close = some { x with drained := true }) ∧
      (x.drained = false → limit ≤ s.mcount → Completes .drainLimitExpiry s fun u => u.cnf.close = none ∧ u.cnf.eabort = true) ∧
      (window ≤ s.mcount → Completes .closeWindowExpiry s fun u => u.cnf.close = none ∧ u.cnf.eabort = true) ∧
      (s.Entry r me → (s.ownSlots (x.epoch % 2)).find? (fun e => e.slot == slot.toNat) = some m → x.drained = true →
        Completes (.plotDigestDone slot) s fun u => (x.epoch, m.slot, s.plotDigest r.tenant m.base m.length) ∈ u.cnf.recorded) ∧
      (s.Entry r me → s.From ident catchment i → epoch.toNat = x.epoch →
        (x.drained = false → Completes (.dmatch ident catchment epoch slot true) s fun u =>
          u.cnf.close = some { x with matched := (x.epoch, slot.toNat) :: x.matched }) ∧
        (x.sentOk = false → Completes (.epochOk ident catchment epoch) s fun u => u.cnf.close = some { x with oks := i :: x.oks }))) ∧
    (s.Entry r me → s.From ident catchment i → r.manifest.find? (fun e => e.owner == i && e.slot == slot.toNat && e.parity == parity.toNat) = some m →
      s.ten.plots.find? (fun e => e.2.valid && e.2.tenant == r.tenant && e.2.slot == m.mslot) = some (k, pl) →
      exec (.digest ident catchment epoch slot parity crc) s = .next (s.emit (.confluence ident.toNat 6
        [epoch.toNat, slot.toNat, parity.toNat, crc.toNat, if s.plotDigest r.tenant pl.base m.length = crc.toNat then 1 else 0])))) ∧
  -- 11 R330, 09 R255: a stack serves a READ that nothing shapes
  (∀ (k : StackId) (p : Packet) (s : State), let x := s.stk k
    s.StackServes k → shapedSrc p.src = false → p.multicast = false → Memory.wf x.mem = true → (Tbl.get? x.keys (keySlot p.fwkey p.tenant)).isSome → p.mode = 2 →
      p.addr % 2 ^ 36 + bits p.head 55 42 ≤ hbmDataSize → (∀ line, some (Tbl.get x.zeroKey x.lineKey line) = Tbl.get? x.keys (keySlot p.fwkey p.tenant) ∧ x.isPoisoned line = false) →
      exec (.hbmRequest k p []) s = .next ((s.modStk k id).sendData (s.entryOf p.srcUnit k)
        (directPacket { dest := p.src, src := 192 + k.val, cls := 1, mode := 1, len := bits p.head 55 42, tenant := p.tenant } (bits p.head 24 0) (readTag p)
          ((Memory.readN x.mem (p.addr % 2 ^ 36) (bits p.head 55 42)).map fun b => (b, false))))) ∧
  -- 09 R253, R257, R260: a packet for a unit of its own site, from a mesh link and from one of the site's units
  (∀ (site : SiteId) (port : Fin 20) (p : Packet) (s : State), s.NoTelemetry site → let r := s.delta.router site; let q := s.takeAtPort site port p
    (meshPort port = true → p.multicast = false → p.destUnit = site → exec (.deltaHop site port p) s =
      .next ((s.withRouter site Router.counted).handedOver site port (4 + p.destCluster) p)) ∧
    (4 ≤ port.val → port.val < 16 → s.NoSwitchDue → (r.port port).check q = .pass → q.multicast = false → (r.port port).shaper.admits = true → r.hasRoom port q = true →
      s.ungranted q = false → s.delta.outbox = [] → s.peerRouted q = some q → q.destUnit = site → pktCounted q = 0 → q.mode = 2 → windowed q = false →
        exec (.packetInject site port p none) s = .next ((((s.withRouter site fun r => r.modPort port fun k =>
          { k with shaper := k.shaper.charge (shapeCharge q) }).unitFlits site port p).withRouter site Router.counted).handedOver site port (4 + q.destCluster) q))) ∧
  -- 09 R263, R269: deliveries to a host port and to a scratchpad; 05 R153: a gather and its completion; 12: frames of a Larre link
  (∀ (h : Fin 2) (n : Fin 9) (c : ClusterId) (p : Packet) (port fn a d o : Nat) (s : State), let ch := s.ten.chan (handleIndex p.handle); let key := rcvdKey (d / 8) p.src
    (decodeAddr p.addr = .ok (.host port fn a) → exec (.directPacketDelivery (BitVec.ofNat 9 (0x142 + h.val)) n p) s =
      .next ((s.emit (.hostWrite port fn a p.payload (poisonedAt p.marked))).accepted (0x142 + h.val) p)) ∧
    (s.ten.current p.handle = true → p.offset + p.len ≤ ch.winLen → decodeAddr (ch.win + p.offset) = .ok (.spd d o) → (s.cl d).spd.zRun = false → s.SpdClean d →
      p.payload.length = p.len → p.poisoned = false → ((Tbl.get {} s.delta.rcvd key).accept (s.dieCount (d / 8)) p.len p.ackreq p.e).2 = false →
      Completes (.streamPacketDelivery c p) s fun u => SpdWritten (s.cl d).spd (u.cl d).spd o p.payload)) ∧
  (∀ (site : SiteId) (t : ThreadId) (rd rs1 : Reg) (g : Gather) (o1 o2 : Nat) (s : State), let c := sxOf site; let k := s.cl c; let off := (s.x site t rs1).toNat
    let d := decGather (Memory.readN k.spd.mem off 32); let ix := leNat (Memory.readN k.spd.mem g.idx (if g.wide then 8 else 4))
    (s.ThrGoes site t → k.spd.zRun = false → off + 32 ≤ spdSize → (k.sx.gathers.filter fun g => g.thread == t.val).length < 8 → s.SpdClean c → d.count ≠ 0 →
      s.gatherFail c d = none → Completes (.gather site t rd rs1) s fun u => (u.cl c).sx.gathers.length = k.sx.gathers.length + 1 ∧ (u.cl c).sx.nextTicket = k.sx.nextTicket + 1) ∧
    (k.sx.gathers = [g] → g.count = 1 → ix < g.rows → s.SpdClean c → decodeAddr g.dest.toNat = .ok (.spd c o2) → decodeAddr (g.table.toNat + ix * g.rowBytes) = .ok (.spd c o1) →
      (∀ e, (s.cl e).spd.weirWait = []) → k.spd.zRun = false → s.memHoldsAt (clSrc c) (s.clTenant c) g.table.toNat = false →
      Completes (.gatherComplete site g.ticket []) s fun u => (u.cl c).sx.gathers = [])) ∧
  (∀ (n : EngineId) (p : Fin 4) (f : Frame) (data : List Byte) (d1 : LPort) (w : PAddr) (k o m q : Nat) (x : Packet) (s : State),
    let takes := s.withLport n p d1; let l := s.larreDue.larre
    (s.LarreTakes n p f d1 → f.dpanel.toNat = s.identity →
      (f.mode = 0 → f.cls ≠ 1 → (s.larre.buffered.any fun x => x.1 == n.val) = false → s.framePlace f.tenant f.addr f.len true = .ok (.hbm k o) →
        s.memHolds (0x100 + n) f.tenant (.hbm k o) = false → exec (.larreDirect n p f true) s = .next ((takes.writeFrame n p f (.hbm k o)).leaves n p f)) ∧
      (f.mode = 1 → s.framePlace f.tenant f.addr f.readLen false = .ok w → s.memHolds (0x100 + n) f.tenant w = false → exec (.larreRead n p f true data) s =
        .next ((readAnswer n p f (takes.readAt (0x100 + n) f.tenant false data f.readLen w)).leaves n p f)) ∧
      (f.mode = 3 → let src := f.dunit.toNat % 4096; let k := e2eKey src f.spanel.toNat; let v := bits f.body 31 0
        (v + 2 ^ 32 - Tbl.get 0 s.larre.e2eAcked k) % 2 ^ 32 < 2 ^ 31 → src < 192 ∨ 240 ≤ src → s.larre.egress = [] → exec (.larreE2eAck n p f true) s =
          .next ((takes.leaves n p f).modLarre fun l => { l with e2eAcked := Tbl.set l.e2eAcked k v }))) ∧
    (x.mode = 1 → x.cls = 0 → l.route l.cur ((x.addr >>> 44) % 65536) = some (m, q) → Completes (.larreFraming n x) s fun u => ChangesOnly [.larre, .out] s u ∧
      Tbl.get 0 u.larre.e2eSent (e2eKey x.src ((x.addr >>> 44) % 65536)) = (Tbl.get 0 s.larre.e2eSent (e2eKey x.src ((x.addr >>> 44) % 65536)) + x.len) % 2 ^ 32)) ∧
  (∀ (n : EngineId) (p : Fin 4) (r : BitVec 5) (f : Frame) (c : ClusterId) (o : Nat) (entry : BitVec 4) (s : State), let key := f.spanel.toNat * 4096 + f.sunit.toNat % 4096
    s.larre.waiting = [(n.val, p.val, r.toNat, f)] → s.larre.buffered = [] → s.framePlace f.tenant f.addr f.len true = .ok (.spd c o) → s.SpdClean c → 0 < f.len →
      f.payload.length = f.len → f.poisoned = false → ((Tbl.get {} s.larre.rcvd key).accept (s.dieCount (0x100 + n)) f.len f.last false).2 = false →
      Completes (.weirGrant (BitVec.ofNat 12 (0x100 + n)) c r entry) s fun u => u.larre.waiting = [] ∧ Memory.readN (u.cl c).spd.mem o f.len = f.payload) ∧
  -- 16: the host ports and their roles
  (∀ (port : Fin 2) (fn : Fin 513) (w : Word) (t : Nat) (g : Nat × Nat) (i : Fin 4096) (q : Nat) (e : SubEntry) (h f a h' f' a' : Nat) (stream : Fin 256) (x : IdeStream)
      (page : Fin 4096) (handle prod : Word32) (s : State), let y := s.hosts.port port; let o := 1 - s.hosts.primary
    (y.perst = false → y.katFail = false → s.pwr.vhk = true → Completes (.hostLinkUp port false) s fun u => (u.hosts.port port).linkUp = true) ∧
    (y.linkUp = true → Completes (.hostLinkDown port) s fun u => (u.hosts.port port).linkUp = false ∧ s.LosesPrimary u port) ∧
    exec (.perstNDeassert port) s = .next (s.withHost port fun x => { x with perst := false }) ∧
    (Completes (.perstNAssert port) s fun u => u.hosts.port port = { perst := true, katFail := y.katFail }) ∧
    (Completes (.functionLevelReset port fn) s fun u => ∀ i, (s.ten.chan i).port = port.val → (s.ten.chan i).fn = fn.val → (u.ten.chan i).state = 0) ∧
    (s.hosts.pend = none → w.getLsbD 0 = true → y.goAt = none → s.isMember = false → exec (.roleRequest port w) s =
      .next (s.withHost port fun x => { x with reqEpoch := w.toNat / 2 ^ 32, goAt := some (s.mcount, w.toNat / 2 ^ 32), result := 1 })) ∧
    ((s.hosts.port 0).goAt = some g → (s.hosts.port 1).goAt = none → tickOf g.1 < tickOf s.mcount → s.hosts.pend = none → g.2 = s.hosts.epoch →
      Completes .roleWindowDecision s (Promoted (if s.hosts.primary = 0 then 1 else 0) s)) ∧
    (s.hosts.pend = some t → t < s.mcount → (s.hosts.port o).linkUp = true → Completes .promotionDeadline s (Promoted o s)) ∧
    (s.hosts.selectAt = some t → t + 10000000000 ≤ s.now → (s.hosts.port s.hosts.primary).linkUp = false → (s.hosts.port o).linkUp = true →
      Completes .primarySelectionTimeout s fun u => u.hosts = { s.hosts with selectAt := none, primary := o }) ∧
    ((s.ten.chan i).entries = [e] → (s.ten.chan i).state = 1 → e.seq = q → e.kind = 2 → e.started = true → e.done = none → e.flag = false →
      s.memHoldsAt 0x140 (s.ten.chan i).tenant (s.ten.chan i).cq = false →
      decodeAddr e.a.toNat = .ok (.host h f a) → decodeAddr e.b.toNat = .ok (.host h' f' a') → Completes (.hostReadTimeout (.dma i q)) s fun u => (u.ten.chan i).entries = []) ∧
    (Tbl.get? y.ide stream = some x → exec (.ideIntegrityFailure port stream) s =
      .next (s.withHost port fun y => { y with ide := Tbl.set y.ide stream { x with secure := false, insecure := true } })) ∧
    (s.isMember = true → s.fw.accepted 1 = true → s.ten.current handle.toNat = true → handleIndex handle.toNat = page.val → (s.ten.chan page).state = 3 →
      exec (.podDoorbell (.arrived true) page handle prod) s = .next (s.withChan page fun c => { c with prod := prod.toNat })) ∧
    (s.isMember = true → Completes (.podPathLoss none w) s fun u => u.hosts = { s.hosts with headLost := true })) ∧
  -- 20: the parts of a start and the resets
  ∀ (e : EngineId) (p : Fin 4) (a b : Bool) (r : PartResults) (s : State),
    (s.boot.part = 1 → s.boot.stopped = false → s.partEnds = true → r.retests = [] → Completes (.startPartComplete r) s fun u => u.boot = { s.boot with part := 2, partAt := s.now }) ∧
    (s.boot.part = 4 → s.boot.partAt + 10000000000 ≤ s.now → exec .estuaryPartTimeout s = .next (s.modBoot fun b => { b with portsOver := true })) ∧
    (4 ≤ s.boot.part → (s.larre.engine e).laser = true → (s.lport e p).state = 1 → (s.lport e p).queue = [] → Completes (.estuaryPortTrained e p) s fun u => (u.lport e p).state = 2) ∧
    (s.boot.part = 5 → s.pwr.seq = 3 → s.boot.wave = 0 → s.gaz.sitesIn ≠ [] → Completes .waveStart s fun u => u.boot = { s.boot with wave := 1, waveAt := s.now }) ∧
    (s.boot.reset = false → s.boot.masked = false → s.pwr.vhk = true → s.pwr.en = true → s.pwr.seq ≠ 4 → s.pwr.seq ≠ 5 → Completes .panelResetAssert s (ResetFrom s)) ∧
    (s.boot.reset = true → s.boot.masked = false → s.MayStart → s.NoApproval → Completes (.panelResetRelease a b) s (Started a b s)) ∧
    (s.boot.reset = true → s.boot.stuck = false → s.boot.masked = false → s.pwr.vhk = true → s.boot.resetAt + 30000000000 ≤ s.now → s.boot.policy ≠ 1 →
      Completes (.resetStuck a b) s fun u => u.boot = { s.boot with stuck := true }) ∧
    (s.boot.masked = true → s.boot.reset = false → s.boot.resetAt + 100000000 ≤ s.now → exec .resetUnmask s = .next (s.modBoot fun b => { b with masked := false })) ∧
    (s.boot.slotPresent = true → s.pwr.vhk = true → Completes .slotPresentDeassert s fun u => u.boot.slotPresent = false ∧ u.SecretsGone)

/-- 07 R198: each register-register and each immediate integer row writes its result to rd, in a sequencer's g registers or in a thread's x
registers (R162), and nothing else changes; no operand value traps. ADDI sign-extends its immediate, ANDI, ORI and XORI zero-extend it, a
shift takes a count below 64, LIH shifts rd left by 16 bits and fills in IMM; LOOP counts its counter down as 64 unsigned bits, and a
counter of 0 falls through and stays 0; WAITC holds the issue for the low 32 bits of its register. A sequencer's row waits for a running
VCOMPRESS that has a register it reads still to write (05 R131, 06 R165), a thread's for its SXFENCE or GWAIT (05 R152, R153). A shift whose
IMM[15:6] is not 0 is ILLEGAL_BUNDLE with sub-code 6 (06 R164, R171), in a thread a fault with code 1 (05 R158). -/
def Obligations.IntegerOperationsFollowTheirTable : Prop :=
  ∀ (rd rs1 rs2 : Reg) (imm : Half) (s : State),
    (∀ e ∈ integerRows,
      (∀ c, s.GFree c [rs1, rs2] → exec (e.1 (.seq c) rd rs1 rs2) s = .next (s.withG c rd (e.2 (s.g c rs1) (s.g c rs2)))) ∧
      (∀ c, ¬ s.GFree c [rs1, rs2] → exec (e.1 (.seq c) rd rs1 rs2) s = .next s) ∧
      (∀ site t, s.ThrGoes site t → exec (e.1 (.thr site t) rd rs1 rs2) s = .next (s.withX site t rd (e.2 (s.x site t rs1) (s.x site t rs2)))) ∧
      (∀ site t, ¬ s.ThrGoes site t → exec (e.1 (.thr site t) rd rs1 rs2) s = .next s)) ∧
    (∀ e ∈ immediateRows,
      (∀ c, s.GFree c [rs1] → exec (e.1 (.seq c) rd rs1 imm) s = .next (s.withG c rd (e.2 (s.g c rs1) imm))) ∧
      (∀ site t, s.ThrGoes site t → exec (e.1 (.thr site t) rd rs1 imm) s = .next (s.withX site t rd (e.2 (s.x site t rs1) imm)))) ∧
    (∀ e ∈ shiftRows, imm.toNat < 64 →
      (∀ c, s.GFree c [rs1] → exec (e.1 (.seq c) rd rs1 imm) s = .next (s.withG c rd (e.2 (s.g c rs1) imm.toNat))) ∧
      (∀ site t, s.ThrGoes site t → exec (e.1 (.thr site t) rd rs1 imm) s = .next (s.withX site t rd (e.2 (s.x site t rs1) imm.toNat)))) ∧
    (∀ e ∈ shiftRows, 64 ≤ imm.toNat →
      (∀ c, exec (e.1 (.seq c) rd rs1 imm) s = .next (s.enterTrap c .illegalBundle 6)) ∧
      (∀ site t, s.ThrGoes site t → exec (e.1 (.thr site t) rd rs1 imm) s = .next (s.thrFault site t 1))) ∧
    (∀ c, s.GFree c [rd] → exec (.lih (.seq c) rd imm) s = .next (s.withG c rd ((s.g c rd) <<< 16 ||| imm.setWidth 64))) ∧
    (∀ site t, s.ThrGoes site t → exec (.lih (.thr site t) rd imm) s = .next (s.withX site t rd ((s.x site t rd) <<< 16 ||| imm.setWidth 64))) ∧
    (∀ c : ClusterId, s.GFree c [rd] → let x := jumpTo (s.cl c).sq.pc imm.toInt
      (s.g c rd = 0 → exec (.loop (.seq c) rd imm) s = .next (s.withCl c id)) ∧
      (s.g c rd ≠ 0 → InSpd x → Completes (.loop (.seq c) rd imm) s fun u => (u.g c rd).toNat = (s.g c rd).toNat - 1 ∧ ((u.cl c).sq.pc : Int) = x)) ∧
    (∀ c : ClusterId, s.GFree c [rs1] → exec (.waitc (.seq c) rs1) s = .next (s.withSq c fun q =>
      { q with hold := if (s.g c rs1).toNat % 2 ^ 32 = 0 then .none else .waitc ((s.g c rs1).toNat % 2 ^ 32) }))

/-- 07 R202 to R205: each binary32 row works on the low 32 bits of its operands and writes a result with bits [63:32] 0; FCVTIF rounds a
signed integer to binary32, FCVTFI a binary32 value to a signed integer. Nothing else changes. Like every row, it waits for a running
VCOMPRESS that writes a register it reads (06 R165), in a thread for an SXFENCE or GWAIT (05 R152, R153). -/
def Obligations.FloatRowsWriteTheirResult : Prop :=
  ∀ (rd rs1 rs2 : Reg) (s : State),
    (∀ e ∈ floatRows,
      (∀ c, s.GFree c [rs1, rs2] → exec (e.1 (.seq c) rd rs1 rs2) s = .next (s.withG c rd
        (BitVec.ofNat 64 (e.2 ((s.g c rs1).toNat % 2 ^ 32) ((s.g c rs2).toNat % 2 ^ 32))))) ∧
      (∀ site t, s.ThrGoes site t → exec (e.1 (.thr site t) rd rs1 rs2) s = .next (s.withX site t rd
        (BitVec.ofNat 64 (e.2 ((s.x site t rs1).toNat % 2 ^ 32) ((s.x site t rs2).toNat % 2 ^ 32)))))) ∧
    (∀ c, s.GFree c [rs1] → exec (.fcvtif (.seq c) rd rs1) s = .next (s.withG c rd
        (BitVec.ofNat 64 (roundFin fmtF32 false (decide ((s.g c rs1).toInt < 0)) (s.g c rs1).toInt.natAbs 0 false).code))) ∧
    (∀ site t, s.ThrGoes site t → exec (.fcvtif (.thr site t) rd rs1) s = .next (s.withX site t rd
        (BitVec.ofNat 64 (roundFin fmtF32 false (decide ((s.x site t rs1).toInt < 0)) (s.x site t rs1).toInt.natAbs 0 false).code))) ∧
    (∀ c, s.GFree c [rs1] → exec (.fcvtfi (.seq c) rd rs1) s = .next (s.withG c rd (fcvtfi ((s.g c rs1).toNat % 2 ^ 32)))) ∧
    (∀ site t, s.ThrGoes site t → exec (.fcvtfi (.thr site t) rd rs1) s = .next (s.withX site t rd (fcvtfi ((s.x site t rs1).toNat % 2 ^ 32))))

/-- 07 R199, 08 R227, R228: a sequencer's LD writes rd with the eight bytes at its address, or with what its own store buffer forwards;
ST enters the store buffer with all eight bytes enabled. Where no held Weir range meets the access (08 R233, log entry 77), above the last word the cause is ADDR_BOUND, off an 8-byte boundary
ADDR_ALIGN. Nothing else changes. No register that it reads is one that a running VCOMPRESS has still to write (06 R165). -/
def Obligations.SequencerLoadsAndStores : Prop :=
  ∀ (c : ClusterId) (rd rs1 : Reg) (imm : Half) (s : State), s.GFree c [rs1, rd] → let a := s.seqAddr c rs1 imm; let q := (s.cl c).sq
    (a % 8 = 0 → s.Loads c q.sb a 8 → exec (.ld (.seq c) rd rs1 imm) s = .next (s.withG c rd (s.spdWord c a 8))) ∧
    (∀ v, a % 8 = 0 → a + 8 ≤ spdSize → sbLookup q.sb a 8 = .forward v → (s.cl c).spd.weirStalls [⟨a, 8, false⟩] = false →
      exec (.ld (.seq c) rd rs1 imm) s = .next (s.withG c rd (BitVec.ofNat 64 v))) ∧
    (a % 8 = 0 → a + 8 ≤ spdSize → q.sb.length < 8 → (s.cl c).spd.weirStalls [⟨a, 8, true⟩] = false →
      exec (.st (.seq c) rd rs1 imm) s = .next (s.withSq c fun q => { q with sb := q.sb ++ [⟨a, 0xFF, s.g c rd⟩] })) ∧
    (q.sb = [] → ∀ out : Bool, (s.cl c).spd.weirStalls [⟨a, 8, out⟩] = false →
      let r := exec ((if out then Instr.st else .ld) (.seq c) rd rs1 imm) s
      (spdSize < a + 8 → r = .next (s.enterTrap c .addrBound 0)) ∧ (a + 8 ≤ spdSize → a % 8 ≠ 0 → r = .next (s.enterTrap c .addrAlign 0)))

/-- 07 R201, 08 R227, R228: a thread's LD and LDX write rd with the 8, or the 1, 2, 4 or 8 bytes at their address, zero-extended; ST and
STX enter the thread's store buffer. Beyond the scratchpad the thread faults with code 2 (05 R158). No SXFENCE or GWAIT holds the
thread (R152, R153). -/
def Obligations.ThreadLoadsAndStores : Prop :=
  ∀ (site : SiteId) (t : ThreadId) (rd rs1 : Reg) (imm : Half) (size : BitVec 2) (off : BitVec 14) (s : State), s.ThrGoes site t →
    let a := s.thrAddr site t rs1 imm; let b := s.thrAddr14 site t rs1 off; let n := 2 ^ size.toNat; let h := s.thread site t
    let c := sxOf site
    (s.Loads c h.sb a 8 → exec (.ld (.thr site t) rd rs1 imm) s = .next (s.withX site t rd (s.spdWord c a 8))) ∧
    (s.Loads c h.sb b n → exec (.ldx site t rd rs1 size off) s = .next (s.withX site t rd (s.spdWord c b n))) ∧
    (a + 8 ≤ spdSize → (s.cl c).spd.weirStalls [⟨a, 8, true⟩] = false → h.sb.length + (wordsOf a 8).length ≤ 8 →
      exec (.st (.thr site t) rd rs1 imm) s =
        .next (s.withThread site t fun h => { h with sb := h.sb ++ sbEntries a 8 (s.x site t rd).toNat })) ∧
    (b + n ≤ spdSize → (s.cl c).spd.weirStalls [⟨b, n, true⟩] = false → h.sb.length + (wordsOf b n).length ≤ 8 →
      exec (.stx site t rd rs1 size off) s =
        .next (s.withThread site t fun h => { h with sb := h.sb ++ sbEntries b n (s.x site t rd).toNat })) ∧
    (spdSize < b + n → exec (.ldx site t rd rs1 size off) s = .next (s.thrFault site t 2) ∧
      exec (.stx site t rd rs1 size off) s = .next (s.thrFault site t 2))

/-- 08 R225, R227: the drain of a store buffer writes the enabled bytes of its oldest entry at the bank, and no other byte of any memory
changes; the entry leaves the buffer. A scratchpad that is being zeroized drains nothing (R242). -/
def Obligations.StoreBufferDrainWritesItsOldestEntry : Prop :=
  ∀ (e : SbEntry) (rest : List SbEntry) (i n : Nat) (s : State), i + n < 8 →
    (∀ j, j < 8 → e.be.getLsbD j = decide (i ≤ j ∧ j ≤ i + n)) →
    let bs := ((leBytes 8 e.data.toNat).drop i).take (n + 1)
    (∀ c : ClusterId, (s.cl c).spd.zRun = true → exec (.storeBufferDrain (.seq c)) s = .next (s.withCl c id)) ∧
    (∀ c : ClusterId, (s.cl c).spd.zRun = false → s.SpdClean c → (s.cl c).sq.sb = e :: rest →
      ∃ u, SpdWritten (s.cl c).spd u (e.addr + i) bs ∧
        exec (.storeBufferDrain (.seq c)) s = .next (s.withCl c fun k => { k with spd := u, sq := { k.sq with sb := rest } })) ∧
    (∀ (site : SiteId) (t : ThreadId), (s.cl (sxOf site)).spd.zRun = false → s.SpdClean (sxOf site) → (s.thread site t).sb = e :: rest →
      ∃ u, SpdWritten (s.cl (sxOf site)).spd u (e.addr + i) bs ∧
        exec (.storeBufferDrain (.thr site t)) s =
          .next (s.withCl (sxOf site) fun k => ({ k with spd := u }).modThread t fun h => { h with sb := rest }))

/-- 07 R201, 05 R152: an atomic of an empty store buffer reads 4 or 8 aligned bytes, writes the combined value there and nothing else in
memory, and writes rd with the old value. An address off its width's boundary faults with code 3. No GWAIT holds the thread. -/
def Obligations.ThreadAtomicsReadAndWriteOnce : Prop :=
  ∀ e ∈ atomicRows, ∀ (site : SiteId) (t : ThreadId) (rd rs1 xs : Reg) (wide : Bool) (s : State), s.ThrGoes site t →
    let n := if wide then 8 else 4; let a := (s.x site t rs1).toNat; let c := sxOf site
    let old := leNat (Memory.readN (s.cl c).spd.mem a n)
    (a % n = 0 → a + n ≤ spdSize → s.SpdClean c → (s.cl c).spd.weirStalls [⟨a, n, true⟩] = false → (s.thread site t).sb = [] →
      Completes (e.1 site t rd rs1 xs wide) s fun u =>
        SpdWritten (s.cl c).spd (u.cl c).spd a
          (leBytes n (e.2 n old ((s.x site t xs).toNat % 2 ^ (8 * n)) (s.x site t rd).toNat)) ∧
        u.x site t rd = (if rd = 0 then 0 else BitVec.ofNat 64 old) ∧ (∀ r, r ≠ rd → u.x site t r = s.x site t r) ∧
        (∀ t', t' ≠ t → u.thread site t' = s.thread site t') ∧
        (u.cl c).sq = (s.cl c).sq ∧ (u.cl c).mx = (s.cl c).mx ∧ (u.cl c).vx = (s.cl c).vx ∧ (u.cl c).chn = (s.cl c).chn ∧
        OtherClusters c s u ∧ ChangesOnly [.clusters] s u) ∧
    (a + n ≤ spdSize → a % n ≠ 0 → exec (e.1 site t rd rs1 xs wide) s = .next (s.thrFault site t 3))

/-- 06 R166, 07 R201: JMP sets the program counter to its target; LOOP counts rd down and jumps until rd is 0; a branch jumps where its
condition holds; JR jumps to the group that its register names. A thread's target counts from its own program counter (log entry 61). A
target outside the scratchpad is refused: ADDR_BOUND in a sequencer, a fault with code 2 in a thread. -/
def Obligations.TransfersSetTheProgramCounter : Prop :=
  (∀ (c : ClusterId) (off : BitVec 26) (s : State), let x := jumpTo (s.cl c).sq.pc off.toInt
    (InSpd x → exec (.jmp (.seq c) off) s = .next (s.withSq c fun q => { q with pc := x.toNat })) ∧
    (¬ InSpd x → exec (.jmp (.seq c) off) s = .next (s.enterTrap c .addrBound 0))) ∧
  (∀ (c : ClusterId) (rd : Reg) (imm : Half) (s : State), s.GFree c [rd] → let x := jumpTo (s.cl c).sq.pc imm.toInt
    (s.g c rd = 0 → exec (.loop (.seq c) rd imm) s = .next (s.withCl c id)) ∧
    (s.g c rd ≠ 0 → InSpd x →
      exec (.loop (.seq c) rd imm) s = .next (s.withSq c fun q => { q.setG rd.toNat (s.g c rd - 1) with pc := x.toNat })) ∧
    (s.g c rd ≠ 0 → ¬ InSpd x → exec (.loop (.seq c) rd imm) s = .next (s.enterTrap c .addrBound 0))) ∧
  (∀ (site : SiteId) (t : ThreadId) (rd : Reg) (imm : Half) (s : State), s.ThrGoes site t → let x := jumpTo (s.thread site t).pc imm.toInt
    (s.x site t rd = 0 → exec (.loop (.thr site t) rd imm) s = .next (s.withThread site t id)) ∧
    (s.x site t rd ≠ 0 → InSpd x → Completes (.loop (.thr site t) rd imm) s fun u =>
      u.thread site t = { s.thread site t with hold := .none, x := Tbl.set (s.thread site t).x rd.toNat (s.x site t rd - 1), pc := x.toNat } ∧
      (∀ t', t' ≠ t → u.thread site t' = s.thread site t') ∧
      (let k := u.cl (sxOf site); let k0 := s.cl (sxOf site); k = { k0 with sx := { k0.sx with thr := k.sx.thr } }) ∧
      OtherClusters (sxOf site) s u ∧ ChangesOnly [.clusters] s u) ∧
    (s.x site t rd ≠ 0 → ¬ InSpd x → exec (.loop (.thr site t) rd imm) s = .next (s.thrFault site t 2))) ∧
  (∀ (site : SiteId) (t : ThreadId) (off : BitVec 26) (s : State), s.ThrGoes site t → let x := jumpTo (s.thread site t).pc off.toInt
    (InSpd x → exec (.jmp (.thr site t) off) s = .next (s.withThread site t fun h => { h with pc := x.toNat })) ∧
    (¬ InSpd x → exec (.jmp (.thr site t) off) s = .next (s.thrFault site t 2))) ∧
  (∀ e ∈ branchRows, ∀ (site : SiteId) (t : ThreadId) (rd rs1 : Reg) (imm : Half) (s : State), s.ThrGoes site t →
    let x := jumpTo (s.thread site t).pc imm.toInt; let taken := e.2 (s.x site t rd) (s.x site t rs1)
    (taken = true → InSpd x → exec (e.1 site t rd rs1 imm) s = .next (s.withThread site t fun h => { h with pc := x.toNat })) ∧
    (taken = true → ¬ InSpd x → exec (e.1 site t rd rs1 imm) s = .next (s.thrFault site t 2)) ∧
    (taken = false → exec (e.1 site t rd rs1 imm) s = .next (s.withThread site t id))) ∧
  ∀ (site : SiteId) (t : ThreadId) (rs1 : Reg) (s : State), s.ThrGoes site t → let x := (s.x site t rs1).toNat % 2 ^ 25 / 16 * 16
    (x < spdSize → exec (.jr site t rs1) s = .next (s.withThread site t fun h => { h with pc := x })) ∧
    (spdSize ≤ x → exec (.jr site t rs1) s = .next (s.thrFault site t 2))

/-- 06 R175, R180, R184, 07 R198, R200, 05 R152, R153, R157: the rows that hold, stop or start a sequencer or a thread, or return from a
trap, and those of control registers and tile descriptors, with the registers each writes; what a row reads is no register that a running
VCOMPRESS has still to write (06 R165). -/
def Obligations.ControlRowsActOnTheirSequencer : Prop :=
  ∀ (c : ClusterId) (rd rs1 rs2 : Reg) (s : State), s.GFree c [rs1, rs2] → let q := (s.cl c).sq
    -- SYNC: late where the count is above the deadline, otherwise a hold
    ((s.g c rs1).toNat < s.dieCount (c / 8) → (s.g c rs1).toNat ≠ 2 ^ 64 - 1 →
      exec (.sync c rs1 rs2) s = .next (s.withCl c fun k => k.overrun 1 0 q.pc)) ∧
    ((s.g c rs1).toNat = 2 ^ 64 - 1 ∨ s.dieCount (c / 8) ≤ (s.g c rs1).toNat →
      exec (.sync c rs1 rs2) s = .next (s.withSq c fun q => { q with hold := .sync (s.g c rs1) ((s.g c rs2).setWidth 32) q.pc })) ∧
    -- WAITC, SQEND, SQR_CTL.START, SQR_CTL.STOP: the sequencer stops at its issue point, and STOP reads 1 until then
    exec (.waitc (.seq c) rs1) s =
      .next (s.withSq c fun q => { q with hold := if (s.g c rs1).toNat % 2 ^ 32 = 0 then .none else .waitc ((s.g c rs1).toNat % 2 ^ 32) }) ∧
    exec (.sqend c) s = .next (s.withSq c fun q => { q with run := false, done := true, stopPend := false }) ∧
    (q.run = false → exec (.sequencerStart c) s = .next (s.withSq c fun q =>
      { q with run := true, nest := false, halted := false, done := false, stopPend := false, engHold := false, startWait := true, startAt := 0, hold := .none, wait := 0 })) ∧
    (q.run = false → exec (.sequencerStop c) s = .next (s.withSq c id)) ∧
    (let asked := s.withSq c fun q => { q with stopPend := q.stopPend || q.run }
     let stopped := s.withSq c fun q => { q with run := false, stopPend := false, wait := 0 }
     (∀ d e pc, q.hold = .sync d e pc → exec (.sequencerStop c) s = .next asked) ∧
     (q.run = true → q.hold = .none → q.startWait = true → s.dieCount (c / 8) < Nat.max q.ebase.toNat q.startAt → exec (.sequencerStop c) s = .next asked) ∧
     (q.run = true → q.hold = .none → q.startWait = false ∨ Nat.max q.ebase.toNat q.startAt ≤ s.dieCount (c / 8) → (s.cl c).spd.zRun = false →
       (spdSize < q.pc + 16 → exec (.sequencerStop c) s = .next stopped) ∧
       (q.pc + 16 ≤ spdSize → s.SpdClean c → let b := s.bundleAt c q.pc
         (bundleHeld c (s.cl c) b = true → exec (.sequencerStop c) s = .next asked) ∧
         (bundleHeld c (s.cl c) b = false → (s.cl c).spd.weirStalls (s.bundleExtents c (s.cl c) b) = false → exec (.sequencerStop c) s = .next stopped)))) ∧
    -- TRET with nothing pending and no recorded vector operation
    (q.epc < spdSize → q.nextPend = none → (s.cl c).vx.progress.getLsbD 63 = false →
      exec (.tret c) s = .next (s.withCl c fun k =>
        { k with sq := { k.sq with inh := false, pc := k.sq.epc }, vx := { k.vx with run := k.vx.run.map (fun r => { r with stopReq := false }), resumeDue := false } })) ∧
    -- CSRR, CSRW, CSRS, CSRC on SQR_LAND and SQR_EBASE, and CSRR of a register that a read clears
    exec (.csrr c rd 0x2007) s = .next (s.withG c rd (q.land.setWidth 64)) ∧
    exec (.csrw c rs1 0x2007) s = .next (s.withSq c fun q => { q with land := (s.g c rs1).setWidth 32 }) ∧
    exec (.csrs c rs1 0x2008) s = .next (s.withSq c fun q => { q with ebase := q.ebase ||| s.g c rs1 }) ∧
    exec (.csrc c rs1 0x2008) s = .next (s.withSq c fun q => { q with ebase := q.ebase &&& ~~~(s.g c rs1) }) ∧
    exec (.csrr c rd 0x6002) s = .next (s.withCl c fun k =>
      { k with spd := { k.spd with ceCnt := 0 }, sq := k.sq.setG rd.toNat (BitVec.ofNat 64 k.spd.ceCnt) }) ∧
    -- TDW, TDRL, TDRH: of an MX cluster alone
    (clusterKind c = 0 → rd.toNat < 16 → exec (.tdw c rd rs1 rs2) s = .next (s.withCl c fun k =>
      { k with mx := { k.mx with tdesc := Tbl.set k.mx.tdesc rd.toNat (s.g c rs1 ++ s.g c rs2) } })) ∧
    (clusterKind c = 0 → rs1.toNat < 16 →
      exec (.tdrl c rd rs1) s = .next (s.withG c rd (((s.cl c).mx.td rs1.toNat).setWidth 64)) ∧
      exec (.tdrh c rd rs1) s = .next (s.withG c rd (((s.cl c).mx.td rs1.toNat >>> 64).setWidth 64))) ∧
    (clusterKind c ≠ 0 → rd.toNat < 16 → exec (.tdw c rd rs1 rs2) s = .next (s.enterTrap c .illegalBundle 12))

/-- 05 R152, R153, R157, 07 R198: SXFENCE and GWAIT hold a thread until its store buffer is empty or its gather complete, WAITC for the low 32 bits
of its register, SXDONE stops it as done; START runs a stopped thread; STOP stops it, one that an SXFENCE or GWAIT holds once that is
complete. -/
def Obligations.ControlRowsActOnTheirThread : Prop :=
  ∀ (site : SiteId) (t : ThreadId) (rs1 : Reg) (s : State),
    (s.ThrGoes site t → exec (.sxfence site t) s = .next (s.withThread site t fun h => { h with hold := if h.sb.isEmpty then .none else .fence })) ∧
    (¬ s.ThrGoes site t → exec (.sxfence site t) s = .next s ∧ exec (.gwait site t rs1) s = .next s ∧ exec (.sxdone site t) s = .next s) ∧
    (let out := (s.cl (sxOf site)).sx.gathers.any fun g => g.ticket == (s.x site t rs1).toNat
     s.ThrGoes site t → exec (.gwait site t rs1) s = .next (s.withThread site t fun h => { h with hold := if out then .ticket (s.x site t rs1) else .none })) ∧
    (s.ThrGoes site t → exec (.waitc (.thr site t) rs1) s = .next (s.withThread site t fun h =>
      { h with hold := if (s.x site t rs1).toNat % 2 ^ 32 = 0 then .none else .waitc ((s.x site t rs1).toNat % 2 ^ 32) })) ∧
    (s.ThrGoes site t → exec (.sxdone site t) s = .next (s.withThread site t fun h => { h with run := false, done := true, stopPend := false })) ∧
    ((s.thread site t).run = false → exec (.sxThreadStart site t) s =
      .next (s.withThread site t fun _ => { s.thread site t with run := true, faulted := false, done := false, stopPend := false, hold := .none })) ∧
    (s.ThrGoes site t → exec (.sxThreadStop site t) s = .next (s.withThread site t fun h => { h with run := false, stopPend := false })) ∧
    (¬ s.ThrGoes site t → exec (.sxThreadStop site t) s =
      .next (s.withCl (sxOf site) fun k => k.modThread t fun h => { h with stopPend := h.stopPend || h.run }))

/-- 05 R128, R131, R139, R146: each vector row that is legal, meets no refusal and no held Weir range starts its operation on the idle
engine of a VX cluster: what it reads at issue is kept in the run, and no element is written before its beats commit. COUNT 0
executes nothing. -/
def Obligations.VectorRowsStartTheirOperation : Prop :=
  ∀ e ∈ vectorRows, ∀ (c : ClusterId) (vd vs : Reg) (m : BitVec 3) (count : BitVec 13) (s : State),
    let k := s.cl c; let w := encVec e.1 vd vs m count
    clusterKind c = 1 → s.VxIdle c → vecIllegal w k.vx.lsd k.vx.rdesc (s.g c vs) = none →
    vecRefuse k.vx k.spd w (s.g c vs) false = none → k.spd.weirStalls (vecExtents w k.vx.lsd k.vx.rdesc (s.g c vs)) = false →
      (count ≠ 0 → exec (e.2 c vd vs m count) s = .next (s.withVxRun c (s.vectorRun c e.1 vd vs m count))) ∧
      (count = 0 → exec (e.2 c vd vs m count) s = .next (s.withCl c id))

/-- 05 R126, R129, R130, R138: one beat of a binary32 or integer operation of two registers writes its active elements from the elements
before the beat, and no other element of any register; the engine moves to the next beat, or falls idle after the last. A scratchpad that is
being zeroized holds the beat (08 R242). -/
def Obligations.VectorBeatWritesItsActiveElements : Prop :=
  ∀ e ∈ laneRows, ∀ (c : ClusterId) (vd vs : Reg) (m : BitVec 3) (count : BitVec 13) (r : VxRun) (s : State),
    (s.cl c).vx.run = some r → r.word = encVec e.1 vd vs m count → r.hibeat ≤ r.beat → r.beat * 128 < count.toNat → r.stopReq = false →
    r.phase = 0 → r.shmode = 1 → r.sinv = false → r.sovf = false → r.deferred = false → count.toNat ≤ 4096 →
      ((s.cl c).spd.zRun = true → exec (.vxBeatCommit c) s = .next s) ∧
      ((s.cl c).spd.zRun = false → Completes (.vxBeatCommit c) s fun u =>
        (∀ (reg : Reg) (i : Nat), i < 4096 → u.elem c reg i =
          if reg = vd ∧ r.beat * 128 ≤ i ∧ i < r.beat * 128 + 128 ∧ i < count.toNat ∧ s.maskBit c m i
          then e.2 (s.elem c vd i) (s.elem c vs i) else s.elem c reg i) ∧
        (if r.beat * 128 + 128 < count.toNat
         then (u.cl c).vx.run = some { r with beat := r.beat + 1, hibeat := r.beat + 1 } else (u.cl c).vx.run = none) ∧
        (u.cl c).vx.m = (s.cl c).vx.m ∧ (u.cl c).vx.sd = (s.cl c).vx.sd ∧ (u.cl c).vx.optr = (s.cl c).vx.optr ∧
        (let k := u.cl c; k = { s.cl c with vx := k.vx }) ∧ OtherClusters c s u ∧ ChangesOnly [.clusters] s u)

/-- 04 R100, R102, R103, R114, R116, R117, 06 R162, R167: MMA takes a place of the product array, MREAD, MSPILL and MCOMB one of the read-out
unit, with the tile descriptors as they stand at issue; a cut code above 4 is ILLEGAL_BUNDLE 7, and outside an MX cluster every row
is ILLEGAL_BUNDLE 3. -/
def Obligations.MatrixRowsTakeAPlaceOfTheirUnit : Prop :=
  ∀ (c : ClusterId) (ta tb td : BitVec 4) (accb : BitVec 2) (opens : Bool) (km1 : BitVec 12) (cut : BitVec 3) (cutself : Bool) (s : State),
    let x := (s.cl c).mx
    let readout (o : MxOp) : State := s.withMx c fun x =>
      if x.ro.isNone then { x with ro := some ⟨o, false⟩ } else { x with roQ := some ⟨o, false⟩ }
    (let o := MxOp.mma (x.td ta.toNat) (x.td tb.toNat) accb.toNat opens km1.toNat
     s.MxFree c o → exec (.mma c ta tb accb opens km1) s = .next (s.withMx c fun x =>
       if x.arr.isNone then { x with arr := some ⟨o, false⟩ } else { x with arrQ := some ⟨o, false⟩ })) ∧
    (let o := MxOp.mread (x.td td.toNat) accb.toNat
     s.MxFree c o → exec (.mread c td accb) s = .next (readout o)) ∧
    (let o := MxOp.mspill (x.td td.toNat) accb.toNat (cut.toNat * 32)
     cut.toNat ≤ 4 → s.MxFree c o → exec (.mspill c td accb cut) s = .next (readout o)) ∧
    (let o := MxOp.mcomb (x.td td.toNat) accb.toNat (cut.toNat * 32) cutself
     cut.toNat ≤ 4 → s.MxFree c o → exec (.mcomb c td accb cut cutself) s = .next (readout o)) ∧
    (clusterKind c = 0 → 4 < cut.toNat →
      exec (.mspill c td accb cut) s = .next (s.enterTrap c .illegalBundle 7) ∧
      exec (.mcomb c td accb cut cutself) s = .next (s.enterTrap c .illegalBundle 7)) ∧
    (clusterKind c ≠ 0 →
      exec (.mma c ta tb accb opens km1) s = .next (s.enterTrap c .illegalBundle 3) ∧
      exec (.mread c td accb) s = .next (s.enterTrap c .illegalBundle 3))

/-- 04 R100, R101, R104, R118, R124: the first k-step of an opening MMA gives its banks their anchor and clears their entries, and starts it;
its last k-step moves the queued operation up; a read-out operation starts when its banks are readable, and its completion moves the
next one up; a scratchpad that is being zeroized holds both ends (08 R242); a read clears MXE_CEIL. -/
def Obligations.MatrixUnitsAdvance : Prop :=
  ∀ (c : ClusterId) (ta tb : BitVec 128) (accb km1 : Nat) (opens : Bool) (op : MxOp) (s : State), let x := (s.cl c).mx
    (x.arr = some ⟨.mma ta tb accb opens km1, false⟩ → (s.cl c).sq.engHold = false →
      Completes (.mmaFirstKstep c) s fun u => let y := (u.cl c).mx
        y.arr = some ⟨.mma ta tb accb opens km1, true⟩ ∧
        (∀ b, y.bank b = if opens = true ∧ b ∈ banksOf accb (opDesc ta).rows then ⟨mmaAnchor ta tb, true, none⟩ else x.bank b) ∧
        (∀ i, Tbl.get {} y.acc i = if opens = true ∧ i / 2048 ∈ banksOf accb (opDesc ta).rows then {} else Tbl.get {} x.acc i) ∧
        (let k := u.cl c; k = { s.cl c with mx := { x with arr := y.arr, banks := y.banks, acc := y.acc } }) ∧
        OtherClusters c s u ∧ ChangesOnly [.clusters] s u) ∧
    ((s.cl c).spd.zRun = true → exec (.mmaLastKstep c) s = .next s ∧ exec (.readoutComplete c) s = .next s) ∧
    (x.arr = some ⟨.mma ta tb accb opens km1, true⟩ → s.SpdClean c → (s.cl c).spd.zRun = false →
      Completes (.mmaLastKstep c) s fun u => let y := (u.cl c).mx
        y.arr = x.arrQ ∧ y.arrQ = none ∧ y.ro = x.ro ∧ y.roQ = x.roQ ∧ y.banks = x.banks ∧ y.tdesc = x.tdesc ∧ y.ceil = x.ceil ∧
        (u.cl c).spd = (s.cl c).spd ∧ (u.cl c).vx = (s.cl c).vx ∧ (u.cl c).sx = (s.cl c).sx ∧ (u.cl c).chn = (s.cl c).chn ∧
        (u.cl c).sq = { (s.cl c).sq with pend := (u.cl c).sq.pend } ∧ OtherClusters c s u ∧ ChangesOnly [.clusters] s u) ∧
    (x.ro = some ⟨op, false⟩ → (∀ o ∈ x.arr.toList ++ x.arrQ.toList, ∀ b ∈ o.op.banks, b ∉ op.banks) → (s.cl c).sq.engHold = false →
      exec (.readoutStart c) s = .next (s.withMx c fun x => { x with ro := some ⟨op, true⟩ })) ∧
    (x.ro = some ⟨op, true⟩ → s.SpdClean c → (s.cl c).spd.zRun = false →
      Completes (.readoutComplete c) s fun u => let y := (u.cl c).mx
        y.ro = x.roQ ∧ y.roQ = none ∧ y.arr = x.arr ∧ y.arrQ = x.arrQ ∧ y.tdesc = x.tdesc ∧
        (u.cl c).vx = (s.cl c).vx ∧ (u.cl c).sx = (s.cl c).sx ∧ (u.cl c).chn = (s.cl c).chn ∧
        (u.cl c).sq = { (s.cl c).sq with pend := (u.cl c).sq.pend } ∧ OtherClusters c s u ∧ ChangesOnly [.clusters] s u) ∧
    exec (.mxeCeilRead c) s = .next (s.withMx c fun x => { x with ceil := 0 }) ∧
    exec (.vxeCeilRead c) s = .next (s.withCl c fun k => { k with vx := { k.vx with ceil := 0 } })

/-- 06 R178, R179, R181, R187: at an issue point outside a handler the pending cause of the lowest order is entered: SQR_EPC holds the program
counter, SQR_CAUSE the cause, INH is set, fetch goes on at SQR_TVEC, and a running vector operation is asked to stop; the other causes
stay pending; the bundle fetched there meets no interlock, no held Weir range and no refusal of its own, which go before a cause of order
3 to 6 (R179, log entry 77).
Inside a handler nothing is entered. -/
def Obligations.TrapEntrySavesAndRedirects : Prop :=
  ∀ (c : ClusterId) (k : Cause) (sub : Nat) (b : Bundle) (s : State),
    (s.Fetches c b → (s.cl c).sq.inh = false → bundleHeld c (s.cl c) b = false → (s.cl c).spd.weirStalls (s.bundleExtents c (s.cl c) b) = false →
      bundleIllegal c (s.cl c) b = none → bundleRefuse c (s.cl c) b = none → (s.cl c).sq.nextPend = some (k, sub) →
      exec (.trapEntry c) s = .next ((s.withCl c fun x =>
        { x with sq := { x.sq with pend := x.sq.pend.filter fun p => p.1 != k } }.trapped k sub).countCause c k) ∧
      (k, sub) ∈ (s.cl c).sq.pend ∧
      ∀ p ∈ (s.cl c).sq.pend, (p.1 ≠ .doorbell ∨ (s.cl c).sq.ienDb = true) → k.order ≤ p.1.order) ∧
    (s.Fetches c b → (s.cl c).sq.inh = false → (s.cl c).sq.nextPend.isSome = true →
      (bundleHeld c (s.cl c) b = true → exec (.trapEntry c) s = .next (s.withCl c id)) ∧
      ∀ n, bundleHeld c (s.cl c) b = false → (s.cl c).spd.weirStalls (s.bundleExtents c (s.cl c) b) = false → bundleIllegal c (s.cl c) b = some n →
        exec (.trapEntry c) s = .next ((s.withCl c id).enterTrap c .illegalBundle n)) ∧
    ((s.cl c).sq.inh = true ∨ (s.cl c).sq.nextPend = none → exec (.trapEntry c) s = .next s)

/-- 06 R159 to R162, R166, 15 R448: a bundle of no-operations moves the program counter past it and sets its wait field; a register-register
ADD in its scalar slot writes its result as well. YIELD holds the sequencer at a cluster that is not quiescent, is a no-operation at a
quiescent one, and stops it there where the yield point is due (CHN_YTP at or below the last deadline), with CHN_YSTAT. -/
def Obligations.BundleAndYieldAdvance : Prop :=
  ∀ (c : ClusterId) (b : Bundle) (rd rs1 rs2 : Reg) (imm : Half) (s : State),
    (s.Issues c b → b.matrix = 0 → b.vector = 0 → b.move = 0 →
      (b.scalar = 0 → exec (.bundleIssue c) s = .next (s.withSq c fun q => { q with pc := q.pc + 16, wait := b.wait })) ∧
      (b.scalar = encR 0x01 rd rs1 rs2 → s.GFree c [rs1, rs2] → exec (.bundleIssue c) s =
        .next (s.withSq c fun q => { q.setG rd.toNat (s.g c rs1 + s.g c rs2) with pc := q.pc + 16, wait := b.wait }))) ∧
    (let k := s.cl c
     let quiet := k.mx.arr = none ∧ k.mx.arrQ = none ∧ k.mx.ro = none ∧ k.mx.roQ = none ∧ k.vx.run = none ∧ k.sq.moves = []
     let due := k.chn.ytp ≠ 0 ∧ k.chn.ytp.toNat ≤ k.chn.ydl.toNat
     (¬ quiet → exec (.yield c imm) s = .next (s.withSq c fun q => { q with hold := .yield imm.toNat, pc := q.pc + 16 })) ∧
     (quiet → ¬ due → exec (.yield c imm) s = .next (s.withSq c fun q => { q with hold := .none, pc := q.pc + 16 })) ∧
     (quiet → due → exec (.yield c imm) s = .next (s.withCl c fun k =>
       { k with sq := { k.sq with hold := .none, pc := k.sq.pc + 16, run := false, stopPend := false }
                chn := { k.chn with ystat := 2 ^ 31 + imm.toNat } })))

/-- 06 R175: a SYNC is released once the landings it expects are counted, at its deadline if it has one: they are taken from SQR_LAND and the
deadline kept; landings missing at the deadline are SCHED_OVERRUN with sub-code 2; up to the deadline, a landing at the deadline itself
included, it holds (13 R397). A landing after it counts for the next SYNC. -/
def Obligations.SyncReleasesAtItsDeadline : Prop :=
  ∀ (c : ClusterId) (d : Word) (e : Word32) (pc : Nat) (s : State), (s.cl c).sq.hold = .sync d e pc →
    let timed := d.toNat ≠ 2 ^ 64 - 1
    ((timed → d.toNat < s.dieCount (c / 8)) → e.toNat ≤ (s.cl c).sq.land.toNat → exec (.syncDeadline c) s = .next (s.withCl c fun k =>
      { k with sq := { k.sq with land := k.sq.land - e, hold := .none }, chn := { k.chn with ydl := d } })) ∧
    (timed → d.toNat < s.dieCount (c / 8) → (s.cl c).sq.land.toNat < e.toNat → exec (.syncDeadline c) s =
      .next (s.withCl c fun k => ({ k with sq := { k.sq with hold := .none } }).overrun 2 0 pc)) ∧
    (timed → s.dieCount (c / 8) ≤ d.toNat → exec (.syncDeadline c) s = .next (s.withCl c id)) ∧
    (let l := (s.cl c).landed (s.dieCount (c / 8))
     (s.dieCount (c / 8) ≤ d.toNat → l = { s.cl c with sq := { (s.cl c).sq with land := (s.cl c).sq.land + 1 } }) ∧
     (timed → d.toNat < s.dieCount (c / 8) → l.sq.hold = .none ∧
       l.sq.land = (if e.toNat ≤ (s.cl c).sq.land.toNat then (s.cl c).sq.land - e else (s.cl c).sq.land) + 1))

/-- 06 R169, R170, R172, R174: a move row reads its 32-byte descriptor once and puts the move among the outstanding ones, with its timer where
it is timed; its completion writes the source bytes at the destination and nowhere else, counts the landing and takes the move out; a
timer that runs out first is SCHED_OVERRUN with sub-code 3. The packets of one whose far end has no path meet NAK_ROUTE, are counted in
DLT_ROUTE_DROP and DLT_NAK (09 R289), and it never completes. -/
def Obligations.MovesStartCompleteAndExpire : Prop :=
  (∀ e ∈ moveRows, ∀ (c : ClusterId) (gd : Reg) (lcls : BitVec 5) (s : State), lclsOk e.1 lcls.toNat →
    let off := (s.g c gd).toNat % 2 ^ 25; let d := decDesc (Memory.readN (s.cl c).spd.mem off 32); let k := s.cl c
    let w := encMove e.1 gd lcls.toNat 0
    off % 32 = 0 → off + 32 ≤ spdSize → s.SpdClean c → s.GFree c [gd] → k.sq.moves.length < 16 → k.spd.weir = [] → k.spd.zRun = false →
    s.checkMove c (decMove w) d = .go →
      Completes (e.2 c gd lcls) s fun u => ∃ m : Move,
        m.tag = k.sq.nextTag ∧ m.mvop = e.1 ∧ m.lcls = lcls.toNat ∧ m.src.toNat = d.src ∧ m.dst.toNat = d.dst ∧ m.length = d.length ∧
        m.handle = d.handle ∧ m.count = d.count ∧ m.pc = k.sq.pc ∧ m.cut = 0 ∧ m.expired = false ∧ m.nak = none ∧ m.sent = false ∧ m.sentBytes = 0 ∧ m.ackAt = none ∧
        (m.timer = none ↔ lcls.toNat = 31) ∧ (m.land = true ↔ d.land = true ∧ 3 ≤ e.1) ∧
        (u.cl c).sq = { k.sq with moves := k.sq.moves ++ [m], nextTag := k.sq.nextTag + 1 } ∧
        (u.cl c).spd = { k.spd with weirWait := (u.cl c).spd.weirWait } ∧
        OtherClusters c s u ∧ ChangesOnly [.clusters] s u) ∧
  (∀ (c : ClusterId) (m : Move) (d1 o1 d2 o2 : Nat) (data : List Byte) (poison : Bool) (s : State), let q := (s.cl c).sq
    m ∈ q.moves → (∀ x ∈ q.moves, x.tag = m.tag → x = m) → m.nak = none → m.sent = false → m.sentBytes = 0 → (s.cl c).spd.waits 1 m.tag = false →
    s.streams c m.mvop = false → decodeAddr m.src.toNat = .ok (.spd d1 o1) → decodeAddr m.dst.toNat = .ok (.spd d2 o2) →
    let far := if m.mvop = 1 then PAddr.spd d1 o1 else PAddr.spd d2 o2
    (s.noPath c far = true → exec (.moveComplete c m.tag data poison) s =
      .next ((((s.countNaks c m).withRouter (c / 8) fun r => { r.bump 2 (s.movePackets c m) with rdrop := true }).withCl c fun k => k.nakMove m.tag 2).raise
        .nakRoute (c / 8) 0 0)) ∧
    (s.noPath c far = false → (s.cl d1).spd.zRun = false → (s.cl d2).spd.zRun = false → c.val ∉ s.ten.cfgDue → s.SpdClean d1 → s.SpdClean d2 →
      Completes (.moveComplete c m.tag data poison) s fun u =>
        (∀ x, Memory.read (u.cl d2).spd.mem x = if o2 ≤ x ∧ x < o2 + m.length
          then Memory.read (s.cl d1).spd.mem (o1 + (x - o2)) else Memory.read (s.cl d2).spd.mem x) ∧
        (∀ d, d ≠ d2 → (u.cl d).spd.mem = (s.cl d).spd.mem) ∧
        (u.cl c).sq.moves = q.moves.filter (fun (x : Move) => x.tag != m.tag) ∧
        (let l := if m.land then (s.cl d2).landed (s.dieCount (d2 / 8)) else s.cl d2
         (u.cl d2).sq.land = l.sq.land ∧ (u.cl d2).chn = l.chn) ∧
        (∀ d, (u.cl d).sq.g = (s.cl d).sq.g ∧ (u.cl d).sq.pc = (s.cl d).sq.pc ∧ (u.cl d).mx = (s.cl d).mx ∧ (u.cl d).vx = (s.cl d).vx ∧
          (u.cl d).sx = (s.cl d).sx ∧ (d ≠ d2 → (u.cl d).chn = (s.cl d).chn)) ∧ ChangesOnly [.clusters] s u)) ∧
  ∀ (c : ClusterId) (m : Move) (s : State), let q := (s.cl c).sq
    q.moves.find? (fun (x : Move) => x.tag == m.tag && x.timer.isSome && !x.expired) = some m →
      exec (.moveTimerExpiry c m.tag) s = .next (s.withCl c fun k => { k with sq := { k.sq with
        moves := k.sq.moves.map fun (x : Move) => if x.tag = m.tag then { x with expired := true } else x } }.overrun 3 m.lcls m.pc)

/-- 05 R150, R151: a core cycle of an SX cluster serves the ready thread after the last one served: a group of four no-operations moves its
program counter past the group, an ADD in the first place writes its result as well; with no thread ready, or its scratchpad being zeroized
(08 R242), none is served. The cycle counts for every thread that a WAITC holds, and none of them is served (07 R198). A group beyond the
scratchpad is a fault with code 2, and a thread asked to stop stops at the group. -/
def Obligations.GroupIssueServesTheNextThread : Prop :=
  ∀ (site : SiteId) (t : ThreadId) (rd rs1 rs2 : Reg) (s0 : State), let c := sxOf site
    let s := s0.withCl c Cluster.tickWaits; let h := s.thread site t
    let served : State := s.withCl c fun k => ({ k with sx := { k.sx with lastServed := t } }).modThread t fun h => { h with hold := .none }
    let word (i : Nat) : Nat := leNat (Memory.readN (s.cl c).spd.mem (h.pc + 4 * i) 4)
    (∀ n : Nat, (s0.thread site t).hold = .waitc n → (s.thread site t).hold = .waitc (n - 1)) ∧
    ((∀ n, (s0.thread site t).hold ≠ .waitc n) → s.thread site t = s0.thread site t) ∧ ((s0.thread site t).waits = true → (s0.cl c).nextThread ≠ some t.val) ∧
    ((s0.cl c).nextThread = none ∨ (s.cl c).spd.zRun = true → exec (.sxGroupIssue site) s0 = .next s) ∧
    ((s0.cl c).nextThread = some t.val → (s.cl c).spd.zRun = false → s.SpdClean c → h.pc % 16 = 0 → h.pc + 16 ≤ spdSize → h.stopPend = false →
      (∀ i, 1 ≤ i → i < 4 → word i = 0) →
      (word 0 = 0 → exec (.sxGroupIssue site) s0 = .next (s.withCl c fun k =>
        ({ k with sx := { k.sx with lastServed := t } }).modThread t fun h => { h with hold := .none, pc := h.pc + 16 })) ∧
      (word 0 = (encR 0x01 rd rs1 rs2).toNat → Completes (.sxGroupIssue site) s0 fun u =>
        u.x site t rd = (if rd = 0 then 0 else s.x site t rs1 + s.x site t rs2) ∧ (∀ r, r ≠ rd → u.x site t r = s.x site t r) ∧
        u.thread site t = { h with x := (u.thread site t).x, pc := h.pc + 16, hold := .none } ∧
        (∀ t', t' ≠ t → u.thread site t' = s.thread site t') ∧
        (let k := u.cl c; k = { s.cl c with sx := { (s.cl c).sx with thr := k.sx.thr, lastServed := t } }) ∧
        OtherClusters c s u ∧ ChangesOnly [.clusters] s u)) ∧
    ((s0.cl c).nextThread = some t.val → (s.cl c).spd.zRun = false → spdSize < h.pc / 16 * 16 + 16 → exec (.sxGroupIssue site) s0 = .next (served.thrFault site t 2)) ∧
    ((s0.cl c).nextThread = some t.val → (s.cl c).spd.zRun = false → s.SpdClean c → h.pc / 16 * 16 + 16 ≤ spdSize → h.stopPend = true →
      exec (.sxGroupIssue site) s0 = .next (served.withThread site t fun h => { h with run := false, stopPend := false }))

/-- 08 R231, R232, R248: a waiting range that can be granted enters the lowest free Weir entry, and one that cannot waits on; a read of
WEIR_STALL, SPD_CECNT or SPD_UECNT clears it (R245). -/
def Obligations.WeirGrantsAndScratchpadCounters : Prop :=
  ∀ (c : ClusterId) (w : WeirEntry) (n : Nat) (s : State), let p := (s.cl c).spd
    (p.weirWait = [w] → w.xfer < remoteXfer → p.canGrant (s.busy c) w = true → Tbl.lowestFree p.weir 0 16 = some n →
      exec (.weirAllocation c) s = .next (s.withCl c fun k => { k with spd := { k.spd with weir := Tbl.set k.spd.weir n w, weirWait := [] } })) ∧
    (p.weirWait = [w] → p.canGrant (s.busy c) w = false → exec (.weirAllocation c) s = .next (s.withCl c id)) ∧
    exec (.weirStallRead c) s = .next (s.withCl c fun k => { k with spd := { k.spd with stall := 0 } }) ∧
    exec (.spdCounterRead c false) s = .next (s.withCl c fun k => { k with spd := { k.spd with ceCnt := 0 } }) ∧
    exec (.spdCounterRead c true) s = .next (s.withCl c fun k => { k with spd := { k.spd with ueCnt := 0 } })

/-- 08 R236: the scrubber's read of a line without errors counts the line, and ends the pass when every bank's 4,096 lines are read;
disabled, or with its bank read, it does nothing. One inverted codeword bit of a word is written back: the word is clean again, the error
counted in SPD_CECNT and its column's tally (R237). -/
def Obligations.ScrubReadsTheNextLine : Prop :=
  ∀ (c : ClusterId) (bank : Fin 96) (w : Fin 8) (i : Fin 72) (s : State), let p := (s.cl c).spd; let line := Tbl.get 0 p.lines bank
    let full (ls : Tbl Nat) : Bool := (List.range 96).all fun b => decide (4096 ≤ Tbl.get 0 ls b)
    let ls := Tbl.set p.lines bank.val (line + 1)
    (p.scrubEn = false ∨ 4096 ≤ line → exec (.scrubRead c bank []) s = .next (s.withCl c id)) ∧
    (p.scrubEn = true → line < 4096 → Tbl.wf p.bad = true → (∀ v ∈ p.bad, v.2 ≠ 0) → (∀ x, Tbl.get 0 p.bad x = 0) → p.tally = [] →
      (full ls = false → exec (.scrubRead c bank []) s = .next (s.withCl c fun k => { k with spd := { k.spd with lines := ls } })) ∧
      (full ls = true → exec (.scrubRead c bank []) s = .next (s.withCl c fun k => { k with spd :=
        { k.spd with passes := (p.passes + 1) % 2 ^ 32, stat := p.stat ||| 1, lines := [] } })) ∧
      (full ls = false → Memory.wf p.mem = true → Completes (.scrubRead c bank [(w.val, BitVec.ofNat 72 (2 ^ i.val))]) s fun u => let q := (u.cl c).spd
        q = { p with lines := ls, ceCnt := satAdd 0xFFFFFFFF p.ceCnt 1, stat := p.stat ||| 2, tally := q.tally } ∧
        (∀ key, key ≠ subKeyOf bank line → Tbl.get? q.tally key = none) ∧
        (∀ col, (Tbl.get? (Tbl.get [] q.tally (subKeyOf bank line)) col).isSome = decide (col = w.val * 72 + i.val)) ∧
        (let k := u.cl c; k = { s.cl c with spd := q }) ∧ OtherClusters c s u ∧ ChangesOnly [.clusters] s u))

/-- 08 R238, R239: the repair of the first waiting column starts at a quiescent point with no other repair and no zeroization; when its copy is
done the column is steered for good, SPD_REPAIR holds it with its done bit, and the Gazetteer's history notes it (01 R45). A word that the
copy cannot read is poisoned and reported with COLUMN_LOSS. -/
def Obligations.ColumnRepairSteersItsColumn : Prop :=
  ∀ (c : ClusterId) (r : Repair) (rest : List Repair) (s : State), let p := (s.cl c).spd
    (p.waitCols = r :: rest → p.repair = none → p.zRun = false → (s.cl c).quiescent c = true →
      exec (.columnRepairStart c) s = .next (s.withCl c fun k => { k with spd := { k.spd with repair := some r, waitCols := rest } })) ∧
    (p.waitCols = [] ∨ p.repair.isSome ∨ p.zRun = true ∨ (s.cl c).quiescent c = false →
      exec (.columnRepairStart c) s = .next (s.withCl c id)) ∧
    (p.repair = some r → p.repairWords r = [] → exec (.columnRepairCopyDone c) s = .next ((s.withCl c fun k => { k with spd :=
      { k.spd with repair := none, steer := p.steer ++ [r], lastRepair := BitVec.ofNat 64 (2 ^ 62 + repairFields r) } }).applyGaz fun g =>
        g.note ⟨s.mcount, 6, 2, c, r.bank * 16 + r.sub, 0, 0, 0, 2, r.col + fld 10 r.spare⟩)) ∧
    (p.repair = some r → ∀ n y, p.repairWords r = [n] → eccDecode (Tbl.get 0 p.bad n) = .uncorrected y →
      Tbl.get 0 (p.copied r).bad n = poisonMask ∧ (p.copied r).mem = p.mem ∧ (p.copied r).steer = p.steer ++ [r] ∧
      exec (.columnRepairCopyDone c) s = .next ((((s.withCl c fun k => { k with spd := p.copied r }).raise .columnLoss (c / 8) (c % 8) (8 * n)).askVote
        1).applyGaz fun g => g.note ⟨s.mcount, 6, 2, c, r.bank * 16 + r.sub, 0, 0, 0, 2, r.col + fld 10 r.spare⟩)) ∧
    (p.repair = none → exec (.columnRepairCopyDone c) s = .next s)

/-- 08 R241, R242: zeroization starts at a cluster that needs it and is idle; verified, it leaves every byte of the scratchpad 0 and no word
with errors, the store buffers empty, the requests that wait for a range as they were, and every other memory as it was. Where the cluster
enters a partition its engines and threads are cleared too, every register of theirs 0 (04 R97, 05 R127, R150). -/
def Obligations.ZeroizationClearsTheScratchpad : Prop :=
  ∀ (c : ClusterId) (s : State), let p := (s.cl c).spd
    ((s.cl c).zReady = true → exec (.zeroizationStart c) s = .next (s.withCl c fun k => { k with spd := { k.spd with zRun := true } })) ∧
    ((s.cl c).zReady = false → exec (.zeroizationStart c) s = .next (s.withCl c id)) ∧
    (p.zRun = false → ∀ v, exec (.zeroizationComplete c v) s = .next s) ∧
    (p.zRun = true → Tbl.get? s.ten.entering c.val = none → Completes (.zeroizationComplete c true) s fun u =>
      (∀ x, Memory.read (u.cl c).spd.mem x = 0) ∧ (∀ w, Tbl.get 0 (u.cl c).spd.bad w = 0) ∧
      (u.cl c).spd.zNeeded = false ∧ (u.cl c).spd.zRun = false ∧ (u.cl c).sq = { (s.cl c).sq with sb := [] } ∧
      (∀ t, ((u.cl c).sx.thread t).sb = []) ∧ (u.cl c).mx = (s.cl c).mx ∧ (u.cl c).vx = (s.cl c).vx ∧ (u.cl c).chn = (s.cl c).chn ∧
      (u.cl c).spd.weirWait = p.weirWait ∧ OtherClusters c s u ∧ ChangesOnly [.clusters, .ctg] s u) ∧
    (∀ e, p.zRun = true → Tbl.get? s.ten.entering c.val = some e → Completes (.zeroizationComplete c true) s fun u =>
      (∀ x, Memory.read (u.cl c).spd.mem x = 0) ∧ (∀ w, Tbl.get 0 (u.cl c).spd.bad w = 0) ∧ (u.cl c).mx = { even := 0 } ∧
      (u.cl c).vx = { even := 0 } ∧ (u.cl c).sx = {} ∧ (u.cl c).chn = {} ∧ OtherClusters c s u ∧ ChangesOnly [.clusters, .ten, .delta, .ctg] s u)

/-- 09 R255, R266 to R268, R270, R280, R287: an ACK moves ACKD of its window entry to the count it carries where that lies among the bytes
outstanding, halves Q on a mark at most every 2 µs, answers the probes, and lets the packets enter that waited for the window; a stale one, and
one that fails its link check, changes no window; a NAK
sets NAKR and is recorded against its move, and asks for a vote; a PROBE, and 1 µs of unacknowledged bytes, are answered with an ACK; a Weir request
waits at its cluster, and its grant is held by its initiator; an engine then writes the peer frame that waited for it. -/
def Obligations.DeltaControlPacketsAct : Prop :=
  (∀ (src : BitVec 12) (unit : BitVec 9) (mark : Bool) (rcvd : Word32) (w : WinEntry) (s : State), s.HasWindow src.toNat unit.toNat w →
    let now := s.dieCount (src.toNat % 512); let t := (s.winRouter src.toNat).timeout * 1000
    let ahead := (rcvd.toNat + w.readAck + 2 ^ 32 - w.ackd) % 2 ^ 32
    exec (.deltaAck src unit mark rcvd false) s = .next s ∧
    (s.delta.outbox = [] → s.drainOutbox = s) ∧
    (w.outstanding < ahead ∨ ahead = 0 → exec (.deltaAck src unit mark rcvd true) s = .next (s.withWindow src.toNat w).drainOutbox) ∧
    (w.snt < 2 ^ 32 → w.ackd < 2 ^ 32 → 0 < ahead → ahead < w.outstanding → w.oldUntil = none → w.recovery = none →
      let w1 := { w with ackd := (w.ackd + ahead) % 2 ^ 32, probes := 0, probeAt := some (now + t) }
      exec (.deltaAck src unit false rcvd true) s = .next (s.withWindow src.toNat w1).drainOutbox ∧
      ((∀ h, w.lastHalf = some h → h + 2000 ≤ now) → exec (.deltaAck src unit true rcvd true) s = .next (s.withWindow src.toNat
        { w1 with
          q := Nat.max 4 (w.q / 2), lastHalf := some now, recovery := some (now + 10000)
          bucket := w.bucket + 3 * w.q * (now - w.bucketAt), bucketAt := Nat.max w.bucketAt now }).drainOutbox) ∧
      (∀ h, w.lastHalf = some h → now < h + 2000 → exec (.deltaAck src unit true rcvd true) s =
        .next (s.withWindow src.toNat { w1 with recovery := some (now + 10000) }).drainOutbox)) ∧
    (∀ at_, w.recovery = some at_ → at_ < now → exec (.eddyRecoveryTimer src unit) s = .next (s.withWindow src.toNat
      { w with
        q := Nat.min 256 (w.q + 16), recovery := some (at_ + 10000)
        bucket := w.bucket + 3 * w.q * (at_ - w.bucketAt), bucketAt := Nat.max w.bucketAt at_ })) ∧
    (∀ at_, w.recovery = some at_ → now ≤ at_ → exec (.eddyRecoveryTimer src unit) s = .next (s.withWindow src.toNat w)) ∧
    (∀ at_, w.probeAt = some at_ → at_ < now → w.outstanding ≠ 0 → w.unreachable = false → w.probes < 8 →
      exec (.probeTimeout src unit) s = .next ((s.withWindow src.toNat { w with probes := w.probes + 1, probeAt := some (now + t) }).sendCtl
        (s.siteOfUnit (src.toNat % 512)) (probePacket unit.toNat src.toNat))) ∧
    (w.outstanding = 0 → exec (.probeTimeout src unit) s = .next s)) ∧
  (∀ (src : BitVec 12) (code : Byte) (t : Nat) (s : State), let unit := src.toNat % 512
    let u := s.withRouter (s.siteOfUnit unit) fun r => ({ r with nakr := true } : Router).bump 3 1
    (∀ move, exec (.deltaNak src move code false) s = .next s) ∧ exec (.deltaNak src none code true) s = .next u ∧
    (192 ≤ unit → exec (.deltaNak src (some t) code true) s = .next u) ∧
    (unit < 192 → exec (.deltaNak src (some t) code true) s =
      .next ((u.withCl (8 * unit + src.toNat / 512) fun k => k.nakMove t code.toNat).askVote 1))) ∧
  (∀ (unit : BitVec 9) (src : BitVec 12) (s : State), let r := Tbl.get {} s.delta.rcvd (rcvdKey unit.toNat src.toNat)
    (unit.toNat < 0x100 ∨ 0x124 ≤ unit.toNat → exec (.deltaProbe unit src) s = .next (s.sendAck unit.toNat src.toNat)) ∧
    (∀ t, r.oldest = some t → t + 1000 ≤ s.dieCount unit.toNat → exec (.ackTimer unit src) s = .next (s.sendAck unit.toNat src.toNat)) ∧
    (∀ t, r.oldest = some t → s.dieCount unit.toNat < t + 1000 → exec (.ackTimer unit src) s = .next s) ∧
    (r.oldest = none → exec (.ackTimer unit src) s = .next s)) ∧
  ∀ (c : ClusterId) (src : BitVec 12) (out : Bool) (reqid : BitVec 5) (length base : BitVec 25) (entry : BitVec 4) (s : State),
    (spdSize < base.toNat + length.toNat → exec (.weirReq c src out reqid length base) s = .next s) ∧
    (base.toNat + length.toNat ≤ spdSize → length ≠ 0 → Completes (.weirReq c src out reqid length base) s fun u => ∃ w : WeirEntry,
      w.base = base.toNat ∧ w.len = length.toNat ∧ w.out = out ∧ w.xfer = remoteXfer + src.toNat * 32 + reqid.toNat ∧
      u = s.withCl c fun k => { k with spd := { k.spd with weirWait := k.spd.weirWait ++ [w] } }) ∧
    ((s.larre.waitFrame src.toNat reqid.toNat).isNone = true → exec (.weirGrant src c reqid entry) s =
      .next (s.modDelta fun d => { d with grants := (src.toNat, reqid.toNat, c.val, entry.toNat) :: d.grants })) ∧
    ((s.larre.waitFrame src.toNat reqid.toNat).isSome = true → exec (.weirGrant src c reqid entry) s =
      .next (s.frameGranted src.toNat c reqid.toNat))

/-- 09 R258, R271, R272, R284: a READ is a request at its stack, and at a host-port die is answered with Direct data of the length it asks
for, its TAG a free value (log entry 31); a MACK of a group is combined, by the edition of the packet that it answers, until every child has
reported, and then goes up the tree, or ends the group's wait at the root, where a sum that is not the number of the tree's leaves is a book out
of balance (R283); each MACK that a router takes or sends is counted (R282); a HALT stops a leaf cluster of its tenant and no other. -/
def Obligations.ReadsHaltsAndMulticastAcknowledgements : Prop :=
  (∀ (k : StackId) (h : Fin 2) (p : Packet) (data : List Byte) (s : State),
    (p.mode ≠ 2 ∨ p.op ≠ 6 → exec (.deltaRead (BitVec.ofNat 9 (192 + k.val)) p data) s = .next s) ∧
    (p.mode = 2 → p.op = 6 → exec (.deltaRead (BitVec.ofNat 9 (192 + k.val)) p data) s = .next (s.hbmRequest k p [])) ∧
    (p.mode = 2 → p.op = 6 → data.length = bits p.head 55 42 →
      exec (.deltaRead (BitVec.ofNat 9 (0x142 + h.val)) p data) s = .next (s.sendData (s.siteOfUnit (0x142 + h.val)) (directPacket
        { dest := p.src, src := 0x142 + h.val, cls := 1, mode := 1, len := data.length, tenant := p.tenant } (bits p.head 24 0) (readTag p)
        (data.map fun b => (b, false)))))) ∧
  (∀ (site : SiteId) (port : Fin 20) (group : BitVec 12) (count : Word32) (s : State),
    let s1 := s.counted site port (mackPacket 0 (portSrc site port) group.toNat count.toNat)
    let t := (s.delta.tabs (Tbl.get (s.delta.router site).cur s.delta.mcEd group.toNat)).multiAt site group.toNat; let key := site * 4096 + group.toNat
    let a := Tbl.get {} s.delta.mack key; let sum := a.sum + count.toNat; let freed := s1.modDelta fun d => { d with mack := Tbl.erase d.mack key }
    (t.getLsbD port = false ∨ port.val ∈ a.ports → exec (.mack site port group count) s = .next s1) ∧
    (t.getLsbD port = true → port.val ∉ a.ports →
      (a.ports.length + 1 < bits t 24 20 → exec (.mack site port group count) s =
        .next (s1.modDelta fun d => { d with mack := Tbl.set d.mack key ⟨port :: a.ports, sum⟩ })) ∧
      (bits t 24 20 ≤ a.ports.length + 1 → bits t 31 27 = 31 → let u := freed.modDelta fun d => { d with
          mcPend := d.mcPend.erase group.toNat, mackSum := Tbl.set d.mackSum group.toNat sum }
        exec (.mack site port group count) s = .next (if sum = u.groupLeaves group.toNat then u else u.raise .bookImbalance site 0 group.toNat).drainOutbox) ∧
      (bits t 24 20 ≤ a.ports.length + 1 → bits t 31 27 ≠ 31 → let p := freed.stamp site (mackPacket 0 site group.toNat sum); let u := freed.counted site 255 p
        exec (.mack site port group count) s = .next (u.routed site ((u.delta.router site).unicast 255 (bits t 31 27) false p))))) ∧
  ∀ (c : ClusterId) (group : BitVec 12) (tenant : BitVec 9) (ackreq : Bool) (s : State),
    (s.clTenant c ≠ tenant.toNat → exec (.deltaHalt c group tenant ackreq) s = .next s) ∧
    (s.clTenant c = tenant.toNat → Completes (.deltaHalt c group tenant ackreq) s fun u =>
      (u.cl c).sq.run = false ∧ (∀ t, ((u.cl c).sx.thread t).run = false) ∧ (u.cl c).spd = (s.cl c).spd ∧
      OtherClusters c s u ∧ (ackreq = false → ChangesOnly [.clusters] s u) ∧ ChangesOnly [.clusters, .delta, .lev, .out, .log] s u)

/-- 09 R263, R264, R277 to R279, R289: a hop acknowledgement with newer freed counts replaces them and takes the packets they cover out of
the books, a credit sync, which finds a book out of balance (R283), also thaws a frozen port, which alone ignores acknowledgements; an edition is installed in the free slot of every
router and armed for its T_sw, at which every router stamps it, and the packets that wait for the old edition's bytes enter (R278); with no packet of the old edition left its slot is freed; a read of a
counter clears it. -/
def Obligations.HopBooksAndEditions : Prop :=
  (∀ (site : SiteId) (port : Fin 20) (freed : List Half) (which : Fin 6) (s : State), let k := (s.delta.router site).port port; let empty := (s.delta.router site).tlmBuf = [] ∧ s.delta.outbox = []
    (k.frozen = true → exec (.hopack site port freed) s = .next s) ∧
    (k.frozen = false → k.up = false → empty → exec (.hopack site port freed) s =
      .next (s.withPort site port fun k => k.applyFreed freed)) ∧
    (k.up = false → empty → exec (.csync site port freed) s =
      .next ((if k.balances freed then s else s.raise .bookImbalance site (portLocal port) 0).withPort site port fun k => k.creditSync freed)) ∧
    (∀ i, i < freed.length →
      let v := (freed.getD i 0).toNat; let old := Tbl.get 0 k.freed i
      Tbl.get 0 (k.applyFreed freed).freed i = (if (v + 65536 - old) % 65536 ≤ (Tbl.get 0 k.sent i + 65536 - old) % 65536 then v else old) ∧
      Tbl.get 0 (k.creditSync freed).freed i = v) ∧ (k.creditSync freed).frozen = false ∧ (k.applyFreed freed).frozen = k.frozen ∧
    exec (.dltCounterRead site which) s = .next (s.withRouter site fun r => { r with counters := Tbl.erase r.counters which })) ∧
  (∀ (t : RouteTables) (rest : List RouteTables) (tsw : Word) (s : State),
    (s.slotFree = false ∨ tsw.toNat % 100000 ≠ 0 ∨ tsw.toNat < s.mcount + 200000 → exec (.editionPublish (t :: rest) tsw) s = .next s) ∧
    (s.slotFree = true → tsw.toNat % 100000 = 0 → s.mcount + 200000 ≤ tsw.toNat → s.editionOk t = true → s.gaz.owed = true ∨ s.gaz.paths.uni = t.uni →
      Completes (.editionPublish (t :: rest) tsw) s fun u =>
        (∀ x, x < 192 → u.delta.router x = { s.delta.router x with tsw := tsw, armed := true }) ∧
        u.delta.tabs s.nextSlot = t ∧ u.delta.tabs (!s.nextSlot) = s.delta.tabs (!s.nextSlot) ∧ u.delta.edWanted = false ∧
        u.gaz = (if s.gaz.owed then { s.gaz with paths := t, owed := false, old := none } else s.gaz) ∧ ChangesOnly [.delta, .ten, .gaz] s u)) ∧
  ∀ (s : State), let due (x : Nat) : Bool := (s.delta.router x).due s.mcount
    (s.NoSwitchDue → exec .editionSwitch s = .next s.drainOutbox) ∧
    ((∃ x, x < 192 ∧ due x = true) → s.delta.outbox = [] → Completes .editionSwitch s fun u =>
      (∀ x, x < 192 → (u.delta.router x).cur = (if due x then !(s.delta.router x).cur else (s.delta.router x).cur) ∧
        (u.delta.router x).armed = (if due x then false else (s.delta.router x).armed)) ∧ u.delta.tabs0 = s.delta.tabs0 ∧ u.delta.tabs1 = s.delta.tabs1 ∧
      ChangesOnly [.delta, .ten] s u) ∧
    (Completes .oldcntLatch s fun u =>
      (∀ x, x < 192 → (u.delta.router x).oldCnt = (if (s.delta.router x).oldPend then (s.delta.router x).oldPackets else 0) ∧
        (u.delta.router x).oldTick = tickOf s.mcount % 2 ^ 32) ∧
      ((∃ x ∈ s.gaz.sitesIn, (s.delta.router x).oldPend = true) →
        (∀ x ∈ s.gaz.sitesIn, (s.delta.router x).oldPend = true → (s.delta.router x).oldPackets = 0) →
          ∀ x, x < 192 → (u.delta.router x).oldPend = false) ∧ ChangesOnly [.delta] s u)

/-- 11 R328, R329, R331, R333, R339, 09 R281: at a Meridian microsecond every bucket of the stacks and of the shaped injection ports refills; a
refresh command counts, and each eighth retrains its channel and turns to the other pseudo-channel; a stack test that no row or channel fails
leaves the stack in service with every byte 0 and the firmware keys alone in its slots; one of a stack out of service, or whose links are not trained (STATE 1), does nothing; a
read of a counter clears it. -/
def Obligations.StackRefillsRefreshesAndTests : Prop :=
  (∀ s : State, (∀ k, (s.stk k).waiting = []) → s.delta.outbox = [] → s.larre.buffered = [] →
    Completes .shaperRefill s fun u =>
      (∀ k, k < 48 → u.stk k = (s.stk k).refillAll) ∧
      (∀ x, x < 192 → ∀ p, (u.delta.router x).port p =
        if p = 11 ∨ p = 14 ∨ p = 15 then { (s.delta.router x).port p with shaper := ((s.delta.router x).port p).shaper.refill }
        else (s.delta.router x).port p) ∧ ChangesOnly [.hbm, .delta] s u) ∧
  (∀ (k : StackId) (ch : Fin 32) (m : Byte) (margin : Option Byte) (s : State), let x := s.stk k; let n := Tbl.get 0 x.refresh ch + 1
    (ch.val ∈ x.retired → exec (.refreshCommand k ch margin) s = .next s) ∧
    (ch.val ∉ x.retired → n % 8 ≠ 0 → exec (.refreshCommand k ch margin) s =
      .next (s.modStk k fun x => { x with refresh := Tbl.set x.refresh ch (n % 8) })) ∧
    (ch.val ∉ x.retired → n % 8 = 0 → x.mthr < m.toNat → exec (.refreshCommand k ch (some m)) s =
      .next (s.modStk k fun x => { x with
        refresh := Tbl.set x.refresh ch 0, rch := ch, pc := Tbl.mod 0 x.pc ch (fun p => 1 - p), fails := Tbl.erase x.fails ch })) ∧
    (ch.val ∉ x.retired → n % 8 = 0 → m.toNat < x.mthr → Tbl.get 0 x.fails ch < 64 → exec (.refreshCommand k ch (some m)) s =
      .next (s.modStk k fun x => { x with
        refresh := Tbl.set x.refresh ch 0, rch := ch, pc := Tbl.mod 0 x.pc ch (fun p => 1 - p), mlow := true
        fails := Tbl.set x.fails ch (Tbl.get 0 x.fails ch + 1) }))) ∧
  ∀ (k : StackId) (ok : Bool) (rows : Half) (failed : List (Fin 32)) (s : State), let x := s.stk k
    ((s.gaz.stack k).status ≠ 0 ∨ x.state ≠ 1 → exec (.stackTest k ok rows failed) s = .next s) ∧
    ((s.gaz.stack k).status = 0 → x.state = 1 → Completes (.stackTest k true rows []) s fun u => let y := u.stk k
      (∀ a, Memory.read y.mem a = 0) ∧ y.poison = [] ∧ y.lost = [] ∧ y.state = 3 ∧ y.done = true ∧ y.rows = rows.toNat ∧ y.retired = x.retired ∧
      (∀ slot, Tbl.get? y.keys slot = if 512 ≤ slot then Tbl.get? s.ctg.fwKeys (slot - 512) else none) ∧
      (∀ j, j ≠ k.val → u.stk j = s.stk j) ∧ ChangesOnly [.hbm] s u) ∧
    exec (.hbsCounterRead k 0) s = .next (s.modStk k fun x => { x with ceCnt := 0 }) ∧
    exec (.hbsCounterRead k 1) s = .next (s.modStk k fun x => { x with ueCnt := 0 }) ∧
    exec (.hbsCounterRead k 2) s = .next (s.modStk k fun x => { x with keyMiss := 0 })

/-- 10 R294, R299, R302, R312: a flit whose CRC agrees with the end's sequence number advances it; one that does not is discarded and asks for a
REPLAY from that number, counted once; at a REPLAY the sender sends again from the flit it names what its buffer holds; MARGIN records a
lane's margin, and where one of a lane in use lies below MTHR and no survey lane is there, a retrain is asked for (reason 2); a TURN sets the
receiver's list of its class and sub-channel; the last flit that a withdrawn braid still owed lets CSYNC be sent (R303); a read of LEV_REPLAY or LEV_RETRAIN clears it. An end that is down or retired ignores flits. -/
def Obligations.BraidEndsReceiveAndReplay : Prop :=
  (∀ (b : BraidId) (hi : Bool) (flit : BitVec 512) (crc : Half) (seq : BitVec 12) (s : State), let e := s.levEnd b hi
    let n := if e.winStart + 1000000 ≤ s.mcount then 1 else e.winCount + 1
    (e.state = 0 ∨ e.state = 6 → exec (.flitReceive b hi flit crc) s = .next s ∧ exec (.leveeReplay b hi seq) s = .next s) ∧
    (s.LevLive b hi → exec (.leveeReplay b hi seq) s = .next (s.emits ((e.resent seq.toNat).map fun x => Msg.flit (endUnit b hi) b x.1 x.2))) ∧
    (s.LevLive b hi → e.mlow = false →
      (flitCrc e.rxSeq flit = crc.toNat → let u := s.withEnd b hi fun e => { e with rxSeq := (e.rxSeq + 1) % 4096, discarding := false }
        (e.discarding = false ∨ e.inlist = true ∨ e.state < 3 → exec (.flitReceive b hi flit crc) s = .next u) ∧
        (e.discarding = true → e.inlist = false → 3 ≤ e.state → exec (.flitReceive b hi flit crc) s = .next (u.csyncs b))) ∧
      (flitCrc e.rxSeq flit ≠ crc.toNat → e.discarding = true → exec (.flitReceive b hi flit crc) s =
        .next ((s.withEnd b hi id).side b hi 0x04 (fld 60 e.rxSeq))) ∧
      (flitCrc e.rxSeq flit ≠ crc.toNat → e.discarding = false → n ≤ e.repthr → e.rephi = false →
        Completes (.flitReceive b hi flit crc) s fun u => let y := u.levEnd b hi
          y.discarding = true ∧ y.replay = satAdd 0xFFFFFFFF e.replay 1 ∧ y.rxSeq = e.rxSeq ∧ y.winCount = n ∧ y.state = e.state ∧
          u.out = .sideband (endUnit b hi) b 0x04 (sideFrame 0x04 (fld 60 e.rxSeq)) :: s.out ∧
          (∀ b', b' ≠ b.val → u.brd b' = s.brd b') ∧ u.levEnd b (!hi) = s.levEnd b (!hi) ∧ ChangesOnly [.lev, .out] s u) ∧
      (flitCrc e.rxSeq flit ≠ crc.toNat → e.discarding = false → e.repthr < n → e.rephi = false → e.own = none → e.state = 2 →
        Completes (.flitReceive b hi flit crc) s fun u => let y := u.levEnd b hi
          y.rephi = true ∧ y.own = some ⟨1, 1, 0⟩ ∧ y.state = 3 ∧ ChangesOnly [.lev, .out] s u))) ∧
  (∀ (b : BraidId) (hi : Bool) (lane : Fin 68) (m : Byte) (s : State), let e := s.levEnd b hi
    let ms := Tbl.set e.margins lane (m.toNat, (Tbl.get (0, 0) e.margins lane).2)
    let x := s.brd b; let y := (x.modEnd hi fun e => { e with margins := ms }).checkLow; let low := ms.any fun r => x.healthy r.1 && decide (r.2.1 < e.mthr)
    (low = false ∨ x.svyblk = false → exec (.margin b hi lane m) s = .next (s.modBrd b fun _ => y)) ∧ ((y.endOf hi).mlow = low) ∧
    (low = true → x.svyblk = true → e.own = none → e.state = 2 → exec (.margin b hi lane m) s = .next ((s.modBrd b fun _ =>
      y.modEnd hi fun e => { e with own := some ⟨1, 2, 0⟩, state := 3 }).side b hi 0x06 (rtReqValue ⟨1, 2, 0⟩)))) ∧
  (∀ (b : BraidId) (hi : Bool) (s : State),
    exec (.levCounterRead b hi true) s = .next (s.withEnd b hi fun e => { e with retrain := 0 }) ∧
    exec (.levCounterRead b hi false) s = .next (s.withEnd b hi fun e => { e with replay := 0 })) ∧
  ∀ (site : SiteId) (port : Fin 20) (cls : BitVec 2) (esc : Bool) (slots half : Byte) (s : State),
    let on := (List.range 8).filter fun i => slots.getLsbD i
    exec (.turn site port cls esc slots half) s = .next (s.modLev fun l =>
      { l with rxTurns := Tbl.set l.rxTurns (turnKey site port (2 * cls.toNat + (if esc then 1 else 0))) (on ++ on.filter fun i => !half.getLsbD i) })

/-- 10 R299, R303, R305, R307, R308: an end with nothing under way accepts an RT_REQ and answers; of two ends that ask at once the lower one
initiates and the higher accepts; an acceptance makes the asking end the initiator and takes the braid from the lists of both ends; RT_DONE
ends the procedure, up or retired, takes up a request that waited, and asks again for a loopback that lost its race; a lane loss or a
loopback asks for its procedure with an RT_REQ. -/
def Obligations.BraidProceduresFollowTheirMessages : Prop :=
  ∀ (b : BraidId) (hi : Bool) (kind reason : BitVec 4) (depth : BitVec 3) (pat : BitVec 4) (lane : Fin 68) (conv : BitVec 4) (o : RtReq) (s : State),
    let e := s.levEnd b hi; let rq : RtReq := ⟨kind.toNat, reason.toNat, depth.toNat⟩
    (e.state = 0 ∨ e.state = 6 ∨ kind.toNat = 0 ∨ 3 < kind.toNat → exec (.leveeRtReq b hi kind reason depth) s = .next s) ∧
    (s.LevLive b hi → 1 ≤ kind.toNat → kind.toNat ≤ 3 →
      (e.own = none → e.state < 3 → exec (.leveeRtReq b hi kind reason depth) s =
        .next ((s.withEnd b hi fun e => { e with init := false, state := kind.toNat + 2, converted := 0 }).side b hi 0x07 (fld 71 1))) ∧
      (e.own = none → 3 ≤ e.state → e.state ≤ 5 → exec (.leveeRtReq b hi kind reason depth) s =
        .next (s.withEnd b hi fun e => { e with waiting := some rq })) ∧
      (e.own = some o → hi = false → exec (.leveeRtReq b hi kind reason depth) s =
        .next (s.withEnd b hi fun e => { e with race := true, init := true })) ∧
      (e.own = some o → hi = true → exec (.leveeRtReq b hi kind reason depth) s = .next ((s.withEnd b hi fun e =>
        { e with race := true, init := false, own := none, converted := o.kind, state := kind.toNat + 2 }).side b hi 0x07 (fld 71 1 + fld 67 o.kind)))) ∧
    (e.own = none → ∀ a, exec (.leveeRtRsp b hi a conv) s = .next s) ∧
    (e.own = some o → exec (.leveeRtRsp b hi false conv) s = .next (s.withEnd b hi fun e => { e with own := none, state := 2 })) ∧
    (e.own = some o → Completes (.leveeRtRsp b hi true conv) s fun u =>
      u.levEnd b hi = { e with own := none, init := true, state := o.kind + 2, race := e.race || decide (conv.toNat ≠ 0), inlist := false } ∧
      u.levEnd b (!hi) = { s.levEnd b (!hi) with inlist := false } ∧ (∀ b', b' ≠ b.val → u.brd b' = s.brd b') ∧
      (∀ p ∈ s.gaz.braidPorts b, ((u.delta.router p.1).port p.2).frozen = ((s.delta.router p.1).port p.2).up) ∧
      ChangesOnly [.lev, .delta, .out] s u) ∧
    (e.state ≠ 3 → e.state ≠ 4 → e.state ≠ 5 → ∀ up, exec (.leveeRtDone b hi up) s = .next s) ∧
    (3 ≤ e.state → e.state ≤ 5 →
      exec (.leveeRtDone b hi false) s = .next (s.withEnd b hi fun e => { e with state := 6, inlist := false }) ∧
      (e.waiting = none → e.mlow = false → e.converted ≠ 3 ∨ e.lbGo = false → exec (.leveeRtDone b hi true) s = .next (s.withEnd b hi fun e =>
        { e with state := 2, retrain := satAdd 0xFFFFFFFF e.retrain 1, converted := 0, waiting := none })) ∧
      (e.waiting = none → e.own = none → e.converted = 3 → e.lbGo = true → exec (.leveeRtDone b hi true) s = .next ((s.withEnd b hi fun e =>
        { e with state := 5, retrain := satAdd 0xFFFFFFFF e.retrain 1, converted := 0, waiting := none, own := some ⟨3, 0, e.lbDepth⟩ }).side b hi 0x06
          (rtReqValue ⟨3, 0, e.lbDepth⟩))) ∧
      (e.waiting = some o → exec (.leveeRtDone b hi true) s = .next ((s.withEnd b hi fun e => { e with
        state := o.kind + 2, retrain := satAdd 0xFFFFFFFF e.retrain 1, waiting := none, init := false }).side b hi 0x07 (fld 71 1)))) ∧
    ((s.brd b).healthy lane = false → exec (.laneLoss b hi lane) s = .next s) ∧
    (e.own = none → e.state = 2 →
      ((s.brd b).healthy lane = true → exec (.laneLoss b hi lane) s = .next ((s.withEnd b hi fun e =>
        { e with own := some ⟨1, 4, 0⟩, state := 3 }).side b hi 0x06 (fld 68 1 + fld 64 4))) ∧
      (e.lbGo = false → 1 ≤ depth.toNat → depth.toNat ≤ 4 → exec (.leveeLoopback b hi depth pat) s = .next ((s.withEnd b hi fun e =>
        { e with lbGo := true, lbDepth := depth.toNat, lbPat := pat.toNat, own := some ⟨3, 0, depth.toNat⟩, state := 5 }).side b hi 0x06
          (fld 68 3 + fld 61 depth.toNat)))) ∧
    (depth.toNat = 0 ∨ 4 < depth.toNat → exec (.leveeLoopback b hi depth pat) s = .next s)

/-- 10 R300, R302 to R304, R306, R308: a braid whose lanes all pass trains in part 2 of a start, V_LEV being in its window and LMC loaded, on
the lane map of its record, its survey lane the lowest idle healthy one; one withdrawn (out of its lists, its books settled, no flit awaiting
a replay) trains again and rejoins its lists; a loopback records its result and rejoins; the survey, a step each 2^SVYPER ms, shadows the next data lane, moves its
data to the survey lane where the two agree, and the idle lane that passes becomes the survey lane. -/
def Obligations.BraidsTrainAndSurvey : Prop :=
  (∀ (b : BraidId) (identOk fullRate : Bool) (tests : List LaneTest) (s : State)
      (x : LevBraid), x = { s.brd b with carry := (s.gaz.braid b).lanes } →
    (s.boot.part ≠ 2 ∨ (s.gaz.braid b).status ≠ 0 ∨ x.a.state ≠ 0 ∨ s.levReady = false →
      exec (.braidTraining b identOk ⟨fullRate, tests⟩) s = .next s) ∧
    (s.boot.part = 2 → (s.gaz.braid b).status = 0 → x.a.state = 0 → s.levReady = true → LanesPass tests → 64 ≤ x.healthyCount → x.idle ≠ [] →
      Completes (.braidTraining b true ⟨fullRate, tests⟩) s fun u => let y := u.brd b
        y.a.state = 1 ∧ y.b.state = 1 ∧ y.a.identOk = true ∧ y.b.identOk = true ∧ y.a.rxSeq = 0 ∧ y.b.rxSeq = 0 ∧ y.a.sbslow = !fullRate ∧
        y.half = false ∧ y.slane = x.idle.head? ∧ y.retired = x.retired ∧ y.carry = x.carry ∧
        (∀ b', b' ≠ b.val → u.brd b' = s.brd b') ∧ ChangesOnly [.lev, .out] s u)) ∧
  (∀ s : State, (s.boot.part ≠ 2 ∨ s.lev.ranged = true → exec .roleAssignment s = .next s) ∧
    (s.boot.part = 2 → s.lev.ranged = false → (∀ b hi, (s.levEnd b hi).mlow = false) →
      (∀ b, b < 3320 → (s.gaz.braid b).status = 0 → (s.brd b).a.state ≠ 0) →
      Completes .roleAssignment s fun u => ∀ b, b < 3320 → (u.gaz.braid b).status = 0 → (s.brd b).a.state = 1 →
        (u.brd b).a.state = 2 ∧ (u.brd b).b.state = 2 ∧ (u.brd b).a.inlist = true ∧ (u.brd b).b.inlist = true)) ∧
  (∀ (b : BraidId) (hi fullRate : Bool) (unit number gen : Half) (tests : List LaneTest) (errors : Word32) (s : State)
      (x : LevBraid), x = { s.brd b with carry := (s.gaz.braid b).lanes, half := false } → let e := s.levEnd b hi
    let known := s.gaz.recordLanes b { x with slane := x.idle.head?, svyblk := false } = s.gaz
    ((s.gaz.braid b).status = 0 → unit.toNat = endUnit b (!hi) → number.toNat = b.val → gen.toNat = s.lmcGen % 65536 →
      exec (.leveeIdent b hi unit ⟨number, gen⟩) s = .next (s.withEnd b hi fun e => { e with identOk := true })) ∧
    ((x.a.state ≠ 3 ∧ x.a.state ≠ 4) ∨ s.withdrawn b = false → exec (.braidRetrainComplete b ⟨fullRate, tests⟩) s = .next s) ∧
    (LanesPass tests → 64 ≤ x.healthyCount → x.idle ≠ [] → s.withdrawn b = true →
      (x.a.state = 3 ∨ x.a.state = 4 → Completes (.braidRetrainComplete b ⟨fullRate, tests⟩) s fun u => let y := u.brd b
        y.a.inlist = true ∧ y.b.inlist = true ∧ y.a.sbslow = !fullRate ∧ y.a.rxSeq = 0 ∧ y.b.rxSeq = 0 ∧ y.slane = x.idle.head? ∧
        u.out.head? = some (.sideband (endUnit b false) b 0x08 (sideFrame 0x08 (fld 71 1))) ∧ (∀ b', b' ≠ b.val → known → u.brd b' = s.brd b') ∧
        (known → y.a.state = x.a.state ∧ ChangesOnly [.lev, .delta, .out] s u)) ∧
      (e.lbGo = true → e.state = 5 → Completes (.leveeLoopbackEnd b hi errors ⟨fullRate, tests⟩) s fun u => let y := u.levEnd b hi
        y.lbGo = false ∧ y.lbDone = true ∧ y.lbPass = decide (errors = 0) ∧ y.lbErrs = Nat.min (2 ^ 22 - 1) errors.toNat ∧ y.inlist = true ∧
        (known → (∀ b', b' ≠ b.val → u.brd b' = s.brd b') ∧ ChangesOnly [.lev, .delta, .out] s u))) ∧
    (e.lbGo = false → exec (.leveeLoopbackEnd b hi errors ⟨fullRate, tests⟩) s = .next s)) ∧
  ∀ (b : BraidId) (d sl : Fin 68) (l : Nat) (wrap agree pass : Bool) (margin : Byte) (mv : Half) (s : State), let x := s.brd b
    (x.a.svyen = true → s.obj 0x5101 0 = 1 → x.a.state = 2 → x.a.phase = 0 → x.slane = some sl.val → x.nextData x.a.dlane = some (l, wrap) →
      x.a.svyAt + 2 ^ x.a.svyper * 1000000 ≤ s.mcount → exec (.surveyStep b) s =
        .next ((s.modBrd b fun y => y.both fun e => { e with dlane := l, phase := 1, svyAt := s.mcount }).side b false 0x09 (fld 65 l + fld 58 sl))) ∧
    (x.a.svyen = false ∨ s.obj 0x5101 0 ≠ 1 ∨ s.mcount < x.a.svyAt + 2 ^ x.a.svyper * 1000000 → exec (.surveyStep b) s = .next s) ∧
    (x.a.phase = 1 → x.a.dlane = d.val → x.slane = some sl.val →
      exec (.svyShadow b d sl) s = .next (s.withEnd b true fun e => { e with shadow := some (d.val, sl.val) }) ∧
      exec (.svyMove b d sl true) s = .next ((s.modBrd b fun x => ({ x with
        carry := Tbl.set (Tbl.set x.carry sl (x.lane d)) d none, slane := none, cal := some d.val }).both fun e =>
          { e with phase := 2, shadow := none }).side b true 0x0A (fld 65 d + fld 58 sl + fld 46 (Config.surveyFlit b x.a.txSeq).toNat)) ∧
      exec (.svyMove b d sl false) s = .next (s.modBrd b fun x => ({ x with cal := some sl.val }).both fun e =>
        { e with phase := 2, shadow := none })) ∧
    (x.cal = some d.val → 51 ≤ margin.toNat → 30 ≤ mv.toNat → Completes (.surveyCalibrationDone b 0 margin mv) s fun u => let y := u.brd b
      y.cal = none ∧ y.slane = some d.val ∧ y.a.phase = 3 ∧ y.b.phase = 3 ∧ y.a.lastm = margin.toNat ∧ y.carry = x.carry ∧ y.retired = x.retired ∧
      u.out = .sideband (endUnit b false) b 0x0B (sideFrame 0x0B (fld 65 d + 2 ^ 64)) ::
        ((s.side b false 0x0C (fld 65 d + fld 57 margin.toNat)).side b true 0x0C (fld 65 d + fld 57 margin.toNat)).out ∧
      (∀ b', b' ≠ b.val → u.brd b' = s.brd b') ∧ ChangesOnly [.lev, .out] s u) ∧
    (x.a.phase = 3 → Completes (.svyReturn b d pass) s fun u => let y := u.brd b
      y.a.phase = 0 ∧ y.b.phase = 0 ∧ y.carry = x.carry ∧
      (pass = true → d.val ∉ x.retired → x.lane d = none → y.slane = some d.val) ∧ (pass = false → y.slane = x.slane) ∧
      (y.a.dlane = (((List.range 68).find? fun l => decide (x.a.dlane < l) && (x.lane l).isSome && x.healthy l).or
        ((List.range 68).find? fun l => (x.lane l).isSome && x.healthy l)).getD 0) ∧
      (y.a.rotations = if ∃ l, l < 68 ∧ x.a.dlane < l ∧ (x.lane l).isSome ∧ x.healthy l = true then x.a.rotations else (x.a.rotations + 1) % 2 ^ 32) ∧
      (∀ b', b' ≠ b.val → u.brd b' = s.brd b') ∧ ChangesOnly [.lev] s u)

/-- 22 R576 to R578, R574: a site whose values ask for another step, with a locked PLL and no change under way, starts one change: the idle PLL
is programmed, and the set-points of its powered domains rise before the clock switches; the switch makes the new step current, and on a
falling step lowers the set-points then; settled, the change is counted. A PLL that loses lock leaves the other to drive, with
CLOCK_LOSS; with none for 100 µs the site's clusters stop and it is masked with NO_LINK. -/
def Obligations.StepChangesRunInOrder : Prop :=
  ∀ (site : SiteId) (n : Nat) (s : State), let k := s.clkSite site; let want := s.wants site
    let idle (y : ClkSite) : ClkSite := { y with chg := some (want, false), plla := y.plla && !y.act, pllb := y.pllb && y.act }
    let domsAt (u : State) (c : Nat) (f : Dom → Dom) : Prop := u.pwr.dom c = if c / 8 = site.val then f (s.pwr.dom c) else s.pwr.dom c
    (s.gaz.siteIn site = false ∨ k.chg.isSome ∨ want = k.cur ∨ (k.plla = false ∧ k.pllb = false) →
      exec (.stepRecompute site) s = .next s) ∧
    (s.gaz.siteIn site = true → k.chg = none → k.plla = true ∨ k.pllb = true → s.NoOverrides site →
      (want < k.cur → exec (.stepRecompute site) s = .next ((s.modPwr id).withClk site idle)) ∧
      (k.cur < want → Completes (.stepRecompute site) s fun u =>
        u.clkSite site = idle k ∧ (∀ x, x ≠ site.val → u.clkSite x = s.clkSite x) ∧
        (∀ c, domsAt u c fun d => if d.state = 3 then { d with setp := setPoint want d.trim } else d) ∧ ChangesOnly [.clk, .pwr] s u)) ∧
    (k.chg = some (n, false) →
      let switched (y : ClkSite) : ClkSite :=
        { y with act := !y.act, plla := y.plla || y.act, pllb := y.pllb || !y.act, cur := n, chg := some (n, true) }
      (k.cur ≤ n → exec (.stepRelockDone site) s = .next (s.withClk site switched)) ∧
      (n < k.cur → Completes (.stepRelockDone site) s fun u => u.clkSite site = switched k ∧
        (∀ c, domsAt u c fun d => if d.state = 3 then { d with setp := setPoint n d.trim } else d) ∧ ChangesOnly [.clk, .pwr] s u)) ∧
    (k.chg = some (n, true) → want = k.cur → Completes (.setpointSettled site) s fun u =>
      u.clkSite site = { k with chg := none, chgCount := satAdd 0xFFFFFFFF k.chgCount 1 } ∧
      (∀ c, domsAt u c fun d => if d.state = 3 then { d with vmin := d.setp } else d) ∧ ChangesOnly [.clk, .pwr] s u) ∧
    (k.chg = none → exec (.stepRelockDone site) s = .next s ∧ exec (.setpointSettled site) s = .next s) ∧
    ((if k.act then k.pllb else k.plla) = true →
      (let u := s.withClk site fun y => { y with plla := y.act, pllb := !y.act, act := !y.act, clkloss := true }
       exec (.pllLockLoss site true) s = .next (u.raise .clockLoss site 0 (u.clkStat site))) ∧
      (let u := s.withClk site fun y => { y with plla := false, pllb := false, clkloss := true, noPllSince := some s.now }
       exec (.pllLockLoss site false) s = .next (u.raise .clockLoss site 0 (u.clkStat site)))) ∧
    (∀ t, k.noPllSince = some t → s.now < t + 100000 → exec (.pllNoneTimeout site) s = .next s) ∧
    (∀ t, k.noPllSince = some t → t + 100000 ≤ s.now → transitionOk (.site site) (s.gaz.status (.site site)) (s.gaz.reason (.site site)) 1 8 false = false →
      Completes (.pllNoneTimeout site) s fun u => (∀ c, c / 8 = site.val → u.cl c = (s.cl c).halt) ∧
        (∀ c, c / 8 ≠ site.val → u.cl c = s.cl c) ∧ u.clkSite site = { k with noPllSince := none } ∧ ChangesOnly [.clusters, .clk] s u) ∧
    (∀ t, k.noPllSince = some t → t + 100000 ≤ s.now → exec (.pllNoneTimeout site) s =
      .next (((List.range 8).foldl (fun u i => u.modCl (8 * site + i) Cluster.halt) (s.withClk site fun y => { y with noPllSince := none })).retireUnit
        3 (.site site) 1 8)) ∧
    exec (.clkChgRead site) s = .next (s.withClk site fun y => { y with chgCount := 0 }) ∧
    exec (.thmMaxRead site) s = .next (s.withClk site fun y => { y with max := none })

/-- 22 R583 to R587, 11 R326: a sample sets a unit's temperature to the highest good reading; a compute die in no band and at or below 105 °C keeps
its caps; at 125 °C it enters the band of units that leave service; a stack's sample sets the refresh band of its temperature and HOTDIE; THERM_TRIP_N is
released once every unit has stood 10 °C below its hard limit for 1 s. -/
def Obligations.TemperatureSamplesSetTheirUnits : Prop :=
  (∀ (site : SiteId) (ts : List Int) (i : Nat) (t : Int) (s : State), let k := s.clkSite site
    ts.length = 20 → (∀ x ∈ ts, GoodTemp x) → ts[i]? = some t → (∀ (j : Nat) (x : Int), ts[j]? = some x → x ≤ t) → (∀ (j : Nat) (x : Int), j < i → ts[j]? = some x → x < t) →
    (s.gaz.site site).status = 0 → k.dropped = 0 → s.clk.trip = false → t < degC 130 →
      (t ≤ degC 105 → k.band = 0 → k.chg.isSome → Completes (.dieTemperatureSample site (ts.map some)) s fun u =>
        u.clkSite site = { k with
          temp := t, hotsen := i, tripped := false, badRun := (u.clkSite site).badRun, readings := (u.clkSite site).readings, coolSince := none
          max := some (match k.max with | some m => if m < t then t else m | none => t) } ∧
        (∀ j, j < 20 → Tbl.get? (u.clkSite site).readings j = ts[j]?) ∧ ChangesOnly [.clk] s u) ∧
      (degC 125 ≤ t → k.band ≠ 3 → Completes (.dieTemperatureSample site (ts.map some)) s fun u =>
        (u.clkSite site).band = 3 ∧ (u.clkSite site).hotw = true ∧ (u.clkSite site).temp = t)) ∧
  (∀ (site : SiteId) (ts : List (Option Int)) (s : State), 1 < (s.gaz.site site).status → exec (.dieTemperatureSample site ts) s = .next s) ∧
  (∀ (k : StackId) (n : EngineId) (d : Fin 4) (t : Int) (s : State), GoodTemp t → s.clk.sensDropped = [] → s.clk.sensBad = [] → s.clk.trip = false →
    t < degC 85 → degC (-10) ≤ t →
      let heat (u : Nat) : State := s.modClk fun k => { k with temps := Tbl.set k.temps u t }
      ((s.gaz.stack k).status ≤ 1 → exec (.stackTemperatureSample k (List.replicate 16 (some t))) s =
        .next ((heat (192 + k)).modStk k fun x => { x with temp := BitVec.ofInt 16 t, band := nextBand x.band t, hotdie := 1 })) ∧
      ((s.gaz.engine n).status ≤ 1 → exec (.engineTemperatureSample n [some t, some t]) s = .next (heat (0x100 + n))) ∧
      exec (.surveyorDieTemperatureSample d (List.replicate 4 (some t))) s = .next (heat (0x140 + d))) ∧
  ∀ s : State,
    (∀ t, s.clk.coolSince = some t → s.clk.trip = true → t + 1000000000 ≤ s.now → exec .thermTripRelease s =
      .next ((s.modClk fun k => { k with trip := false, coolSince := none }).modBoot fun b => { b with tripLow := false })) ∧
    (∀ t, s.clk.coolSince = some t → s.now < t + 1000000000 → exec .thermTripRelease s = .next s) ∧
    (s.clk.coolSince = none → exec .thermTripRelease s = .next s)

/-- 22 R580, R582, R589: a sample of the replica paths sets the margin of each powered domain to the least slack of its four paths, and its
warning and critical flags; the power manager counts ticks above its limit, and below 95 % of it, and neither between the two. -/
def Obligations.MarginsAndPowerAreMeasured : Prop :=
  (∀ (site : SiteId) (slacks : List Byte) (n : Nat) (s : State), slacks.length = 32 → n < 8 → let k := s.clkSite site
    (s.gaz.siteIn site = false → exec (.marginSample site slacks) s = .next s) ∧
    (s.gaz.siteIn site = true → (s.pwr.dom (8 * site + n)).state = 3 → Completes (.marginSample site slacks) s fun u =>
      let m := marginOf slacks n; let y := (u.clkSite site).mg n
      y.margin = m ∧ y.warn = ((k.mg n).warn || decide (m < s.obj 0x5600 0)) ∧ y.crit = ((k.mg n).crit || decide (m < 8)) ∧
      (∀ i, 4 * n ≤ i → i < 4 * n + 4 → m ≤ (slacks.getD i 0).toNat) ∧
      (∃ i, 4 * n ≤ i ∧ i < 4 * n + 4 ∧ m = (slacks.getD i 0).toNat))) ∧
  ∀ (pin vin : Word32) (s : State), let limit := s.obj 0x5501 0
    let u : State := (s.modPwr fun q => { q with pin := pin.toNat, vin := vin.toNat }).modClk fun k =>
      { k with snapTemps := (List.range 240).map fun u => (u, s.tempOf u) }
    ((s.fw.comp 2).state ≠ 1 → exec (.powerManagerCheck pin vin) s = .next u) ∧
    ((s.fw.comp 2).state = 1 →
      (limit < pin.toNat → s.clk.above < 9 → exec (.powerManagerCheck pin vin) s =
        .next (u.modClk fun k => { k with above := s.clk.above + 1, below := 0 })) ∧
      (limit < pin.toNat → 9 ≤ s.clk.above → s.allAtFloor = false → exec (.powerManagerCheck pin vin) s =
        .next (u.modClk fun k => { k with above := 0, below := 0, cut := k.cut + 1 }).retarget) ∧
      (pin.toNat ≤ limit → 95 * limit ≤ 100 * pin.toNat → exec (.powerManagerCheck pin vin) s =
        .next (u.modClk fun k => { k with above := 0, below := 0 })) ∧
      (100 * pin.toNat < 95 * limit → s.clk.below < 99 → exec (.powerManagerCheck pin vin) s =
        .next (u.modClk fun k => { k with above := 0, below := s.clk.below + 1 })) ∧
      (100 * pin.toNat < 95 * limit → 99 ≤ s.clk.below → exec (.powerManagerCheck pin vin) s =
        .next (u.modClk fun k => { k with above := 0, below := 0, cut := k.cut - 1 }).retarget))

/-- 12 R347 to R351: an ACK of a port with nothing queued releases the frames it covers and applies its FREED counts,
which, out of balance, are reported (R369); the ACK interval acts at its time and not before, the replay timer after its time (13 R397); a read of an LRL or EST counter clears it (R373, R376). -/
def Obligations.LarreAcknowledgementsReleaseFrames : Prop :=
  ∀ (n : EngineId) (p : Fin 4) (aseq : BitVec 12) (freed : List (BitVec 24)) (which : Fin 8) (h : Held) (rest : List Held) (s : State),
    let d := s.lport n p; let now := s.dieCount (0x100 + n); let k := (aseq.toNat + 4096 - h.f.seq) % 4096 + 1
    exec (.larreAck n p false false aseq freed false) s = .next (s.modLport n p fun d => d.bump 0 1) ∧
    (d.replay = h :: rest → d.queue = [] → d.frozen = false → k ≤ d.replay.length → d.replay.length ≤ 2047 → (∀ t, d.expiry = some t → now ≤ t) →
      Completes (.larreAck n p false false aseq freed true) s fun u => let y := u.lport n p
        y.replay = d.replay.drop k ∧ (∀ i, i < freed.length → Tbl.get 0 y.freed i = (freed.getD i 0).toNat) ∧ (y.expiry = none ↔ d.replay.drop k = []) ∧
        y.txNext = d.txNext ∧ y.rxNext = d.rxNext ∧ y.state = d.state ∧ u.out = s.out ∧
        (∀ m q, (m, q) ≠ (n.val, p.val) → u.lport m q = s.lport m q) ∧ ChangesOnly [.larre, .log, .gaz] s u ∧
        ((List.range 4).all ({ d with freed := freed.mapIdx fun i v => (i, v.toNat) } : LPort).balances = true → ChangesOnly [.larre] s u)) ∧
    (s.larre.rcvd = [] →
      (∀ t, d.oldestAcc = some t → t + 100 * d.ackus ≤ now → exec (.larreAckTimer n p) s =
        .next ((s.modLport n p fun d => { d with accSince := 0, oldestAcc := none }).sentAck n p
          ⟨false, false, (d.rxNext + 4095) % 4096, (List.range 4).map fun c => Tbl.get 0 d.rxFreed c⟩)) ∧
      (∀ t, d.oldestAcc = some t → now < t + 100 * d.ackus → exec (.larreAckTimer n p) s = .next s) ∧
      (d.oldestAcc = none → exec (.larreAckTimer n p) s = .next s)) ∧
    (∀ t, d.expiry = some t → t < now → d.frozen = false → Completes (.replayTimerExpiry n p) s fun u => let y := u.lport n p
      y.replay = d.replay.map (fun h => { h with sentAt := now }) ∧ u.out = ((d.replay.map fun h => s.frameMsg n p h.f).reverse ++ s.out) ∧
      Tbl.get 0 y.counters 4 = satAdd 0xFFFFFFFF (Tbl.get 0 d.counters 4) 1 ∧ y.txNext = d.txNext ∧
      (∀ m q, (m, q) ≠ (n.val, p.val) → u.lport m q = s.lport m q) ∧ ChangesOnly [.larre, .out] s u) ∧
    (∀ t, d.expiry = some t → now ≤ t → exec (.replayTimerExpiry n p) s = .next s) ∧ (d.expiry = none → exec (.replayTimerExpiry n p) s = .next s) ∧
    exec (.lrlCounterRead n p which) s = .next (s.modLport n p fun d => { d with counters := Tbl.erase d.counters which }) ∧
    exec (.estCounterRead n 0) s = .next (s.modEng n fun e => { e with fecc := 0 }) ∧
    exec (.estCounterRead n 1) s = .next (s.modEng n fun e => { e with fecu := 0 }) ∧
    exec (.estCounterRead n 2) s = .next (s.modEng n fun e => { e with drop := 0 })

/-- 12 R361, R362, R368: an IDENT of another peer starts a new link; a port that is up accepts an RT_REQ, freezes its books and answers; the end
that asked initiates when it is accepted, and, refused, goes on once a SYNC ACK has thawed it; RT_DONE, which the other end answers, takes the
port up or down, and a loopback that lost its race is asked for again; locked lanes bring IDENT, which a SYNC ACK answers, and three failures in
a row the port down; UNCTHR uncorrected codewords of a Larre port, or a lane's loss of lock, ask for a retrain; a loopback records its result. -/
def Obligations.LarreLinksTrainAndRetrain : Prop :=
  ∀ (n : EngineId) (p : Fin 4) (kind reason depth : Byte) (pat : BitVec 4) (dep : BitVec 3) (conv : BitVec 4) (lock : Half) (corr unc : Word32)
    (lane : Fin 16) (o : RtReq) (panel : Half) (eng port : Byte) (eui : Word) (s : State),
    let d := s.lport n p; let e := s.larre.engine n; let st := if kind = 3 then 4 else 3
    -- IDENT
    (d.state = 0 → exec (.larreIdent n p panel eng port eui) s = .next s) ∧
    (d.state ≠ 0 → panel.toNat ≠ s.identity → eui ≠ s.gaz.eui → Completes (.larreIdent n p panel eng port eui) s fun u => let y := u.lport n p
      let known := d.peerEui = some eui ∧ d.peerPanel = panel.toNat
      y.peerEui = some eui ∧ y.peerPanel = panel.toNat ∧ y.peerEngine = eng.toNat % 64 ∧ y.peerPort = port.toNat % 4 ∧
      (known → y.idbad = d.idbad ∧ y.txNext = d.txNext ∧ y.rxNext = d.rxNext ∧ y.replay = d.replay) ∧
      (d.peerEui = none → y.idbad = d.idbad) ∧ (¬ known → y.txNext = 0 ∧ y.rxNext = 0 ∧ y.replay = []) ∧
      (∀ x, d.peerEui = some x → ¬ known → y.idbad = true) ∧ ChangesOnly [.larre, .out] s u) ∧
    -- RT_REQ, RT_RSP, RT_DONE
    (kind = 0 ∨ 3 < kind.toNat ∨ d.state < 2 → exec (.larreRtReq n p kind reason depth) s = .next s) ∧
    (1 ≤ kind.toNat → kind.toNat ≤ 3 → 2 ≤ d.state →
      (d.own = none → d.state = 2 → exec (.larreRtReq n p kind reason depth) s = .next ((s.modLport n p fun d =>
        { d with init := false, state := st, frozen := true, converted := 0 }).emit (linkMsg n p 5 [128]))) ∧
      (d.own = none → d.state = 3 ∨ d.state = 4 → exec (.larreRtReq n p kind reason depth) s =
        .next (s.modLport n p fun d => { d with waiting := some ⟨kind.toNat, reason.toNat, depth.toNat⟩ })) ∧
      (d.own = some o → s.gaz.eui.toNat < (d.peerEui.getD 0).toNat → exec (.larreRtReq n p kind reason depth) s =
        .next (s.modLport n p fun d => { d with race := true, init := true })) ∧
      (d.own = some o → (d.peerEui.getD 0).toNat ≤ s.gaz.eui.toNat → exec (.larreRtReq n p kind reason depth) s = .next ((s.modLport n p fun d =>
        { d with race := true, init := false, own := none, need := some o, converted := o.kind, state := st }).emit (linkMsg n p 5 [128 + o.kind])))) ∧
    (d.own = none → ∀ a, exec (.larreRtRsp n p a conv) s = .next s) ∧
    (d.own = some o →
      exec (.larreRtRsp n p true conv) s = .next (s.modLport n p fun d =>
        { d with own := none, init := true, race := d.race || decide (conv.toNat ≠ 0) }) ∧
      exec (.larreRtRsp n p false conv) s = .next (((s.modLport n p fun _ => { d with own := none, state := 2, accSince := 0, oldestAcc := none }).sentAck n p
        ⟨false, true, (d.rxNext + 4095) % 4096, (List.range 4).map fun c => Tbl.get 0 d.rxFreed c⟩).modEng n fun e =>
          Engine.settle (if o.kind = 3 then { e with lbGo := e.lbGo && e.runPort != p.val } else e))) ∧
    (d.state ≠ 3 → d.state ≠ 4 → ∀ up, exec (.larreRtDone n p up) s = .next s) ∧
    (d.state = 3 ∨ d.state = 4 → let answered (up : Bool) : State := if d.init then s else s.emit (linkMsg n p 6 [if up then 1 else 0])
      exec (.larreRtDone n p false) s = .next ((((answered false).modLport n p LPort.goDown).modEng n fun e =>
        Engine.settle { e with lbGo := e.lbGo && e.runPort != p.val }).raise .linkDown (0x100 + n) p 0) ∧
      (∀ r, d.waiting = none → d.own = none → d.need = some r → r.kind = 3 → Completes (.larreRtDone n p true) s fun u => let y := u.lport n p
        y.own = some r ∧ y.need = none ∧ y.state = 4 ∧ y.frozen = true ∧ u.out = linkMsg n p 4 [3, r.reason, r.depth] :: (answered true).out ∧
        ChangesOnly [.larre, .out] s u) ∧
      (d.waiting = none → (∀ r, d.need = some r → r.kind ≠ 3) → d.queue = [] → Completes (.larreRtDone n p true) s fun u => let y := u.lport n p
        y.state = 2 ∧ y.fails = 0 ∧ y.waiting = none ∧ Tbl.get 0 y.counters 7 = satAdd 0xFFFFFFFF (Tbl.get 0 d.counters 7) 1 ∧
        (e.state ≠ 4 → e.lbGo = false → (u.larre.engine n).state = 2) ∧ u.out = (answered true).out ∧ ChangesOnly [.larre, .out] s u)) ∧
    -- lock after a retrain
    (d.state ≠ 3 → exec (.larreRetrainLock n p lock) s = .next s) ∧
    (d.state = 3 → LanesLock e.split p lock → Completes (.larreRetrainLock n p lock) s fun u => let y := u.lport n p
      y.widthred = false ∧ y.state = 3 ∧
      (∀ l ∈ portLanes e.split p, (u.larre.engine n).lock.getLsbD l = true) ∧
      u.out = linkMsg n p 3 [s.identity, n, p, s.lmcGen % 65536, s.gaz.eui.toNat] :: s.out ∧ ChangesOnly [.larre, .out] s u) ∧
    (d.state = 3 → resumeLanes e.split p e.role lock = none →
      (d.fails < 2 → Completes (.larreRetrainLock n p lock) s fun u => (u.lport n p) = { d with fails := d.fails + 1 } ∧ ChangesOnly [.larre] s u) ∧
      (2 ≤ d.fails → Completes (.larreRetrainLock n p lock) s fun u => (u.lport n p).state = 0 ∧ (u.lport n p).queue = [] ∧
        (u.lport n p).replay = [] ∧ u.out = linkMsg n p 6 [0] :: s.out ∧ ChangesOnly [.larre, .log, .out] s u)) ∧
    -- what asks for a retrain
    (unc.toNat < d.uncthr → exec (.fecUncorrectedThreshold n p corr unc) s = .next (s.modEng n fun e =>
      { e with fecc := satAdd 0xFFFFFFFF e.fecc corr.toNat, fecu := satAdd 0xFFFFFFFF e.fecu unc.toNat })) ∧
    (d.uncthr ≤ unc.toNat → e.role ≠ 1 → exec (.fecUncorrectedThreshold n p corr unc) s = .next ((s.modEng n fun e =>
      { e with fecc := satAdd 0xFFFFFFFF e.fecc corr.toNat, fecu := satAdd 0xFFFFFFFF e.fecu unc.toNat }).modEng n fun e => { e with unchi := true })) ∧
    (d.uncthr ≤ unc.toNat → e.role = 1 → d.own = none → d.state = 2 → Completes (.fecUncorrectedThreshold n p corr unc) s fun u =>
      (u.lport n p) = { d with own := some ⟨1, 1, 0⟩, need := none, state := 3, frozen := true } ∧ (u.larre.engine n).unchi = true ∧
      u.out = linkMsg n p 4 [1, 1, 0] :: s.out ∧ ChangesOnly [.larre, .out] s u) ∧
    (e.role ≠ 1 → exec (.laneLockLoss n lane) s = .next (s.modEng n fun e => { e with lol := true, lock := putBit e.lock lane false })) ∧
    -- loopback
    (dep.toNat = 0 ∨ 4 < dep.toNat ∨ e.role = 0 → exec (.estuaryLoopback n p dep pat) s = .next s) ∧
    (1 ≤ dep.toNat → dep.toNat ≤ 4 → e.role = 1 → e.lbGo = false → p.val < splitPorts e.split → d.state = 2 → d.own = none → e.state ≠ 4 →
      Completes (.estuaryLoopback n p dep pat) s fun u => let y := u.larre.engine n
        y.lbGo = true ∧ y.lbDepth = dep.toNat ∧ y.lbPat = pat.toNat ∧ y.lbPort = p.val ∧ y.runPort = p.val ∧ y.runDepth = dep.toNat ∧ y.state = 3 ∧ (u.lport n p).state = 4 ∧
        u.out = linkMsg n p 4 [3, 0, dep.toNat] :: s.out ∧ ChangesOnly [.larre, .out] s u) ∧
    (e.lbGo = false ∨ (e.port e.runPort).state ≠ 4 → exec (.estuaryLoopbackEnd n unc) s = .next s) ∧
    (e.lbGo = true → (e.port e.runPort).state = 4 → Completes (.estuaryLoopbackEnd n unc) s fun u => let y := u.larre.engine n
      y.lbGo = false ∧ y.lbDone = true ∧ y.lbPass = decide (unc = 0) ∧ y.lbErrs = Nat.min (2 ^ 20 - 1) unc.toNat ∧
      (y.port e.runPort).state = (if (e.port e.runPort).frozen then 3 else if e.laser then 1 else 0) ∧
      (unc = 0 → e.runDepth = 3 → e.runPort ∈ y.passedD3) ∧ ChangesOnly [.larre] s u)

/-- 12 R359, R360, R363 to R367: a table of 65,536 bytes with its CRC goes to the free slot, is armed a tick or more ahead and switched to at its
T_sw; the old edition's frames are counted, and its slot freed only when none is left. An Ethernet-role port takes what its peer sends,
pauses its priorities as told, and drops the rest, counted. A bypass opens only where it is declared, released, locked and tested, and its ports train anew. -/
def Obligations.LarreEditionsEthernetAndBypasses : Prop :=
  (∀ (data : List Byte) (tsw : Word) (s : State), let l := s.larre
    (data.length ≠ 65540 ∨ l.oldPend = true ∨ s.cnf.vote.isSome ∨ leNat (data.drop 65536) ≠ crc32 (data.take 65536) →
      exec (.larreEditionWrite data) s = .next s) ∧
    (data.length = 65540 → l.oldPend = false → s.cnf.vote = none → leNat (data.drop 65536) = crc32 (data.take 65536) →
      Completes (.larreEditionWrite data) s fun u =>
        (∀ i, i < 65536 → Tbl.get 0xFF (u.larre.tab (!l.cur)) i = data.getD i 0) ∧ u.larre.tab l.cur = l.tab l.cur ∧ ChangesOnly [.larre] s u) ∧
    (tsw.toNat * 100000 < s.mcount + 100000 ∨ s.cnf.vote.isSome → exec (.larreEditionArm tsw) s = .next s) ∧
    (s.mcount + 100000 ≤ tsw.toNat * 100000 → s.cnf.vote = none →
      exec (.larreEditionArm tsw) s = .next (s.modLarre fun l => { l with armed := true, tsw := BitVec.ofNat 64 (tsw.toNat * 100000) })) ∧
    (l.armed = false ∨ s.mcount < l.tsw.toNat → exec .larreEditionSwitch s = .next s) ∧
    (l.armed = true → l.tsw.toNat ≤ s.mcount → l.oldPend = false → l.nextTab = none → exec .larreEditionSwitch s =
      .next (s.modLarre fun l => { l with cur := !l.cur, armed := false, v0 := l.v0 || l.cur, v1 := l.v1 || !l.cur })) ∧
    (Completes .larreOldcntLatch s fun u => u.larre.oldTick = tickOf s.mcount ∧
      (∀ n, n < 36 → Tbl.get 0 u.larre.oldCnt n = l.oldFrames n (s.dieCount (0x100 + n)) s.identity) ∧
      u.larre.oldSum = ((List.range 36).map fun n => Tbl.get 0 u.larre.oldCnt n).sum ∧ u.larre.engines = l.engines ∧ ChangesOnly [.larre] s u) ∧
    (l.oldSum ≠ 0 → exec .larreEditionRetire s = .next s) ∧
    (l.oldSum = 0 → l.oldPend = true → exec .larreEditionRetire s =
      .next (s.modLarre fun l => if l.cur then { l with v0 := false } else { l with v1 := false }))) ∧
  (∀ (n : EngineId) (p : Fin 4) (f : EthFrame) (h : Word32) (payload data : List Byte) (g : Frame) (good : Bool) (v : Byte) (quanta : List Half) (s : State),
    let drop : State := s.modEng n fun e => { e with drop := satAdd 0xFFFFFFFF e.drop 1 }
    ((s.larre.engine n).role ≠ 2 → exec (.ethernetFrame n p f) s = .next s) ∧
    ((s.larre.engine n).role = 2 →
      exec (.ethernetFrame n p .other) s = .next drop ∧ exec (.ethernetFrame n p .solicitation) s = .next (s.emit (.advertise (n * 4 + p))) ∧
      exec (.ethernetFrame n p (.larre false g good data)) s = .next s ∧
      (Completes (.ethernetFrame n p (.pause v quanta)) s fun u => ChangesOnly [.larre] s u ∧ ∀ i, i < 8 → Tbl.get 0 (u.lport n p).paused i =
        if v.getLsbD i then s.dieCount (0x100 + n) + cdiv ((quanta.getD i 0).toNat * 512) ((s.larre.engine n).rate * 8) else Tbl.get 0 (s.lport n p).paused i) ∧
      (s.ten.current h.toNat = false → ∀ x y z, exec (.ethernetFrame n p (.udp (some h) x y z payload)) s = .next (s.modTen Tenancy.countStale)))) ∧
  ∀ (i : Fin 2) (closed : Bool) (s : State), let o := s.larre.oxbow i
    (o.pair = true → o.closed = true → o.moving = none → o.released = true → s.mer.unit.t.locked = true →
      (s.larre.engine (18 * i)).passedD3 ≠ [] → (s.larre.engine (18 * i + 1)).passedD3 ≠ [] → exec (.oxbowOpen (some i)) s =
        .next (s.modLarre fun l => l.modOxbow i fun o => { o with moving := some false })) ∧
    (o.pair = false ∨ o.released = false ∨ s.mer.unit.t.locked = false → exec (.oxbowOpen (some i)) s = .next s) ∧
    exec (.oxbowClose i) s = .next (s.modLarre fun l => l.modOxbow i fun o =>
      if o.closed = true ∧ o.moving = none then o else { o with moving := some true }) ∧
    (o.moving = none → exec (.oxbowMoveComplete i) s = .next s) ∧
    (o.moving = some closed → Completes (.oxbowMoveComplete i) s fun u =>
      u.larre.oxbow i = { o with closed := closed, moving := none } ∧
      (∀ n q, n = 18 * i.val ∨ n = 18 * i.val + 1 → q < splitPorts (s.larre.engine n).split →
        (u.lport n q).state = (if closed = false ∧ (s.larre.engine n).laser = true then 1 else 0) ∧ (u.lport n q).queue = [] ∧ (u.lport n q).replay = []) ∧
      (∀ n, n ≠ 18 * i.val → n ≠ 18 * i.val + 1 → u.larre.engine n = s.larre.engine n) ∧ ChangesOnly [.larre] s u)

/-- 13 R378 to R388, R390, R393 to R395, R401, R402: the Meridian unit captures on-time edges, takes a valid frame's time and position and counts an
invalid or missing one as missed, takes a PTP exchange of its domain by the mean of its two ways, holds over when its input fails, and runs from
its own oscillator when no reference came in 2 s; a die's marker of the unit's own tick corrects its count, a missed one sets MMISS; an accepted
time step, refused while a chart runs, moves every count at the next tick; the relay closes on command and moves to its target; the calendar's
next bank is loaded, armed for a tick to come and switched to at it, and an open window, with those that prolong it, lets its port send. A unit
that is not started does nothing. -/
def Obligations.MeridianKeepsTime : Prop :=
  (∀ (sub : Half) (edge : Word) (pos flags crc : Byte) (timing : Bool) (exp : PtpExchange) (s : State), let u := s.mer.unit; let own := s.obj 0x5301 0
    let ok := timing = true ∧ crc8 80 (edge.toNat * 65536 + pos.toNat * 256 + flags.toNat) = crc.toNat ∧ edge.toNat % 1000000000 = 0
    let b := if pos.toNat = 0xFF then own else own - pos.toNat - 1
    let taken (u : MerUnit) : MerUnit := { u with tod := edge, rpos := pos.toNat, byp := b, capture := none }
    (u.src ≠ 0 ∨ s.merOn = false → exec (.ppsOnTimeEdge sub) s = .next s ∧ exec (.timeFrame edge pos flags crc timing) s = .next s ∧ exec .meridInLoss s = .next s) ∧
    (u.src = 0 → s.merOn = true →
      (u.capture = none → exec (.ppsOnTimeEdge sub) s = .next (s.modUnit fun u => { u with capture := some (s.fine16 + sub.toNat) })) ∧
      (u.capture.isSome = true → u.missed = 0 → exec (.ppsOnTimeEdge sub) s = .next (s.modUnit fun u =>
        { u with capture := some (s.fine16 + sub.toNat), missed := 1, lastErr := none })) ∧
      (¬ ok → u.missed = 0 → exec (.timeFrame edge pos flags crc timing) s =
        .next (s.modUnit fun u => { u with frerr := true, capture := none, missed := 1, lastErr := none })) ∧
      (ok → pos.toNat ≠ 0xFF → own ≤ pos.toNat → u.missed = 0 → exec (.timeFrame edge pos flags crc timing) s =
        .next (s.modUnit fun u => { u with posbad := true, capture := none, missed := 1, lastErr := none })) ∧
      (ok → pos.toNat = 0xFF ∨ pos.toNat < own →
        (u.capture = none → exec (.timeFrame edge pos flags crc timing) s = .next (s.modUnit taken)) ∧
        (∀ cap, u.capture = some cap → u.seenRef = false → exec (.timeFrame edge pos flags crc timing) s = .next (s.modUnit fun u =>
          ((taken u).reference s.now cap (expectedEdge edge.toNat (s.obj 0x5302 0) (s.obj 0x5303 0) b)).1.openRelay))) ∧
      (u.hold = false → exec .meridInLoss s = .next (s.modUnit fun u => { u with hold := true, holdSince := s.now, lastErr := none }))) ∧
    (u.src ≠ 1 ∨ s.ptpPort = false ∨ s.merOn = false → ∀ x, exec (.ptpSync x) s = .next s) ∧
    (u.src = 1 → s.ptpPort = true → s.merOn = true →
      (u.missed = 0 → exec (.ptpSync none) s = .next (s.modUnit fun u => { u with missed := 1, lastErr := none })) ∧
      (exp.domain.toNat ≠ s.obj 0x5304 0 / 256 % 256 → exec (.ptpSync (some exp)) s = .next s) ∧
      (exp.domain.toNat = s.obj 0x5304 0 / 256 % 256 → u.seenRef = false → let t1 : Int := ptpCount exp.sec1 exp.ns1
        let due := t1 + ((s.fine16 - t1) + (ptpCount exp.sec4 exp.ns4 - exp.sent.toNat)) / 2
        exec (.ptpSync (some exp)) s = .next (s.modUnit fun u => (u.reference s.now s.fine16 due.toNat).1.openRelay))) ∧
    (s.merOn = false ∨ u.src = 2 ∨ u.seenRef = true ∨ s.now < u.startAt + 2000000000 → exec .localOscillatorFallback s = .next s) ∧
    (s.merOn = true → u.src ≠ 2 → u.seenRef = false → u.startAt + 2000000000 ≤ s.now → Completes .localOscillatorFallback s fun v =>
      v.mer.unit.src = 2 ∧ v.mer.unit.hold = false ∧ v.mer.unit.t.locked = true ∧ v.mcount = 0 ∧ v.mer.dies = s.mer.dies ∧ ChangesOnly [.mer] s v) ∧
    (Completes .merRelayClose s fun v => v.mer.unit.rclosed = true ∧
      v.mer.unit.target = (if u.relay = true ∧ u.target = none then none else some true) ∧ ChangesOnly [.mer] s v) ∧
    (∀ t, u.target = some t → exec .meridianRelayMoveComplete s = .next (s.modUnit fun u => { u with relay := t, target := none })) ∧
    (u.target = none → exec .meridianRelayMoveComplete s = .next (s.modUnit id))) ∧
  (∀ (unit : BitVec 9) (tick : BitVec 48) (crc : Byte) (dly : Word32) (c : Word) (s : State), let d := s.mer.die unit.toNat
    (s.merOn = false → exec (.treeDelayMeasure unit dly) s = .next s ∧ exec (.meridianMarker unit tick crc) s = .next s) ∧
    (s.merOn = true →
      exec (.treeDelayMeasure unit dly) s = .next (s.modDie unit.toNat fun d => { d with tdly := dly.toNat }) ∧
      (crc8 48 tick.toNat ≠ crc.toNat → exec (.meridianMarker unit tick crc) s = .next (s.modDie unit.toNat fun d => { d with mmiss := true })) ∧
      (crc8 48 tick.toNat = crc.toNat → tick.toNat ≠ tickOf s.mcount % 2 ^ 48 → exec (.meridianMarker unit tick crc) s = .next s) ∧
      (crc8 48 tick.toNat = crc.toNat → tick.toNat = tickOf s.mcount % 2 ^ 48 → d.t.ever = true → Completes (.meridianMarker unit tick crc) s fun u => let y := u.mer.die unit.toNat
        y.err = satErr ((s.mer.die unit.toNat).t.fine s.now / 2 ^ 16 - (tick.toNat * 100000 * 2 ^ 16 + d.tdly)) ∧
        y.t.good = (if y.err.natAbs < 2 ^ 14 then Nat.min (d.t.good + 1) 255 else 0) ∧
        y.t.fine s.now = d.t.fine s.now ∧ y.msrc = decide (s.fw.active = 1) ∧
        (∀ x, x ≠ unit.toNat → u.mer.die x = s.mer.die x) ∧ u.mer.unit = s.mer.unit ∧ ChangesOnly [.mer] s u)) ∧
    (s.pending = [] → s.mer.unit.stepPend = some c → let begun := tickOf s.mcount < tickOf ({ s with now := s.now + 1 } : State).mcount
      (begun → ∃ u, step s = .next u ∧ u.mcount = c.toNat ∧ u.mer.unit.stepPend = none ∧
        (∀ x ∈ dieUnits, u.dieCount x = (c.toNat + (s.mer.die x).tdly / 2 ^ 16) % 2 ^ 64) ∧ ChangesOnly [.now, .mer] s u) ∧
      (¬ begun → ∃ u, step s = .next u ∧ u.mer = s.mer)) ∧
    (s.merOn = false ∨ d.t.locked = true ∨ s.now < d.unlockedSince + 100000000 → exec (.dieUnlockedTimeout unit) s = .next s) ∧
    (∀ site : SiteId, unit.toNat = site.val → s.merOn = true → d.t.locked = false → d.unlockedSince + 100000000 ≤ s.now →
      exec (.dieUnlockedTimeout unit) s = .next (s.retireUnit 3 (.site site) 1 8)) ∧
    (s.chartStarted = true → exec (.expertTimeStep c) s = .next s) ∧
    (s.chartStarted = false → exec (.expertTimeStep c) s = .next (s.modUnit fun u => { u with stepPend := some c }))) ∧
  ∀ (n : EngineId) (p : BitVec 2) (k : BitVec 6) (tick : Word) (data : List Byte) (s : State), let q := 4 * n.val + p.toNat; let c := s.mer.cal q
    let now := s.dieCount (0x100 + n); let at_ := tick.toNat % 2 ^ 48; let c1 := c.switch (tickOf now); let w := c1.entry c1.cur k.toNat
    let win := calWindow w (tickOf now)
    (data.length ≠ 512 * s.larrePorts.length + 4 → exec (.calendarBankLoad data) s = .next s) ∧
    (data.length = 512 * s.larrePorts.length + 4 →
      leNat (data.drop (512 * s.larrePorts.length)) = crc32 (data.take (512 * s.larrePorts.length)) → s.larrePorts = [q] → c.cur < 2 →
      Completes (.calendarBankLoad data) s fun u => let y := u.mer.cal q
        (∀ j, j < 64 → y.entry (1 - c.cur) j = BitVec.ofNat 64 (leNat ((data.drop (8 * j)).take 8)) ∧ y.entry c.cur j = c.entry c.cur j) ∧
        y.cur = c.cur ∧ y.armed = c.armed ∧ y.tick = c.tick ∧ ChangesOnly [.mer] s u) ∧
    exec (.calendarArm (some (n, p)) tick) s = .next (s.modMer fun m => m.modCal q fun c =>
      if at_ ≤ tickOf now then c else { c with tick := at_, armed := true }) ∧
    (c.armed = false ∨ tickOf now < c.tick → exec (.calendarBankSwitch n p) s = .next (s.modMer fun m => m.modCal q id)) ∧
    (c.armed = true → c.tick ≤ tickOf now → exec (.calendarBankSwitch n p) s = .next (s.modMer fun m => m.modCal q fun c =>
      { c with armed := false, cur := 1 - c.cur })) ∧
    (s.mer.unit.src = 2 ∨ calApplies w (tickOf now) = false ∨ now < win.1 ∨ win.2 ≤ now → exec (.calendarWindowOpen n p k) s = .next s) ∧
    (s.mer.unit.src ≠ 2 → calApplies w (tickOf now) = true → win.1 ≤ now → now < win.2 → (s.lport n p.toNat).queue = [] →
      Completes (.calendarWindowOpen n p k) s fun u => (u.mer.cal q).windowEnd = Nat.max c.windowEnd (c1.unionEnd (tickOf now) 64 win.2) ∧ (u.mer.cal q).entries = c.entries ∧
        u.out = s.out ∧ u.lport n p.toNat = s.lport n p.toNat ∧ ChangesOnly [.mer, .larre] s u)

/-- 18 R498 to R502, R505 to R513, R516: while the Cartouche tests itself its services wait, and in error it refuses them. Versions,
digests, certificates, challenges and measurements are answered; a key exchange opens one of 16 sessions, whose handshake gives it a role;
IDE keys are sent, made active and stopped inside a session of the port with the role for it. A key unit acts on a message that was sent
and is fresh, and fails at the third refusal in a row. Self-tests, zeroizations, end of life, anchors and the fuse do what they say. -/
def Obligations.CartoucheServesAndGuards : Prop :=
  (∀ (ep : Endpoint) (id : Word32) (ok : Bool) (slot idx : Byte) (off len : Half) (nonce : BitVec 256) (r : Requester) (port : Fin 2) (st set dir sub : Byte) (s : State),
    ∀ c ∈ [Instr.getVersion ep, .getCapabilities ep, .negotiateAlgorithms ep ok, .getDigests ep, .getCertificate ep slot off len, .challenge ep slot nonce,
        .getMeasurements ep idx nonce, .keyExchange ep, .finish ep id ok r, .keyUpdate ep id, .spdmHeartbeat ep id, .endSession ep id,
        .keyProg ep id port st set dir sub nonce, .keySetGo ep id port st set dir sub, .keySetStop ep id port st set dir sub, .ideQuery ep id port],
      (s.boot.level = none ∨ s.ctgState = 0 → exec c s = .next s) ∧
      (s.boot.level.isSome = true → s.ctgState ≠ 0 → s.ctgState ≠ 1 → exec c s = .next (s.says ep .refused))) ∧
  (∀ (ep : Endpoint) (ok : Bool) (slot idx : Byte) (off len : Half) (nonce : BitVec 256) (id : Word32) (r : Requester) (x : SpdmSess) (n : Nat) (s : State), s.SpdmUp →
    exec (.getVersion ep) s = .next (s.says ep .version) ∧ exec (.getCapabilities ep) s = .next (s.says ep .capabilities) ∧
    exec (.negotiateAlgorithms ep ok) s = .next (s.says ep (if ok then .algorithms else .refused)) ∧
    (Completes (.getDigests ep) s fun u => ∃ v, u = { s.says ep (.digests v) with freeCtr := s.freeCtr + 1 }) ∧
    (slot ≠ 0 → exec (.getCertificate ep slot off len) s = .next (s.says ep .refused) ∧ exec (.challenge ep slot nonce) s = .next (s.says ep .refused)) ∧
    (Completes (.getCertificate ep 0 off len) s fun u => ∃ v, u = { s.says ep (.certificate v) with freeCtr := s.freeCtr + 1 }) ∧
    (Completes (.challenge ep 0 nonce) s fun u => ∃ v, u = { s.says ep (.challengeAuth v) with freeCtr := s.freeCtr + 1 }) ∧
    (let all := s.ctg.meas ++ [(5, s.ctg.sec)]
     exec (.getMeasurements ep 0 nonce) s = .next (s.says ep (.measurements [(0, all.length)])) ∧
     exec (.getMeasurements ep 0xFF nonce) s = .next (s.says ep (.measurements all)) ∧
     (idx ≠ 0 → idx ≠ 0xFF → let xs := all.filter fun e => e.1 == idx.toNat
       (xs = [] → exec (.getMeasurements ep idx nonce) s = .next (s.says ep .refused)) ∧
       (xs ≠ [] → exec (.getMeasurements ep idx nonce) s = .next (s.says ep (.measurements xs))))) ∧
    (16 ≤ s.ctg.spdm.length → exec (.keyExchange ep) s = .next (s.says ep .busy)) ∧
    (s.ctg.spdm.length < 16 → s.ctg.freeSpdm = some n → Completes (.keyExchange ep) s fun u => ∃ v,
      u = { (s.modCtg fun c => { c with spdm := Tbl.set c.spdm n { ep := ep, done := false, role := 0 } }).says ep (.keyExchangeRsp n v) with freeCtr := s.freeCtr + 1 }) ∧
    (s.spdmOf ep id.toNat false = none → exec (.finish ep id ok r) s = .next (s.says ep .refused)) ∧
    (s.spdmOf ep id.toNat false = some x →
      exec (.finish ep id false r) s = .next ((s.modCtg fun c => { c with spdm := Tbl.erase c.spdm id.toNat }).says ep .refused) ∧
      (let role := if s.ctg.roleOf r = 2 ∧ Endpoint.kind ep = 2 then 0 else s.ctg.roleOf r
       exec (.finish ep id true r) s = .next ((s.modCtg fun c => { c with spdm := Tbl.set c.spdm id.toNat { x with done := true, role := role } }).says ep
         (.finishRsp id.toNat role)))) ∧
    (s.spdmOf ep id.toNat true = none → ∀ c ∈ [Instr.keyUpdate ep id, .spdmHeartbeat ep id, .endSession ep id], exec c s = .next (s.says ep .refused)) ∧
    (s.Secure ep id x → exec (.keyUpdate ep id) s = .next (s.says ep (.ack id.toNat)) ∧ exec (.spdmHeartbeat ep id) s = .next (s.says ep (.ack id.toNat)) ∧
      Completes (.endSession ep id) s fun u => Tbl.get? u.ctg.spdm id.toNat = none ∧ (∀ e ∈ u.lgd.sessions, e.2.spdm ≠ some id) ∧
        Msg.spdm ep (.ack id.toNat) ∈ u.out ∧ ChangesOnly [.ctg, .lgd, .out] s u)) ∧
  (∀ (ep : Endpoint) (id : Word32) (port : Fin 2) (st set dir sub : Byte) (key : BitVec 256) (x : SpdmSess) (s : State), s.SpdmUp →
    let k := ideSlot 0 set.toNat dir.toNat sub.toNat; let slot := ideSlot st.toNat set.toNat dir.toNat sub.toNat
    let all := [Instr.keyProg ep id port st set dir sub key, .keySetGo ep id port st set dir sub, .keySetStop ep id port st set dir sub, .ideQuery ep id port]
    (s.spdmOf ep id.toNat true = none → ∀ c ∈ all, exec c s = .next (s.says ep .refused)) ∧
    (s.Secure ep id x → (x.role ≠ 1 ∧ x.role ≠ 2) ∨ Endpoint.kind ep ≠ port.val ∨ s.ctg.zPend.isSome → ∀ c ∈ all, exec c s = .next (s.says ep .refused)) ∧
    (s.Secure ep id x → x.role = 1 ∨ x.role = 2 → Endpoint.kind ep = port.val → s.ctg.zPend = none →
      exec (.ideQuery ep id port) s = .next (s.says ep (.kmResp 0)) ∧
      (Tbl.get? (s.hosts.port port).ide st.toNat = none → 5 ≤ (s.hosts.port port).ide.length → exec (.keyProg ep id port st set dir sub key) s = .next (s.says ep (.kmResp 1))) ∧
      ((Tbl.get? (s.hosts.port port).ide st.toNat).isSome ∨ (s.hosts.port port).ide.length < 5 → Completes (.keyProg ep id port st set dir sub key) s fun u =>
        u.ctg = { s.ctg with sent := s.ctg.sent ++ [⟨0x142 + port.val, 1, s.ctg.nextCtr, slot, key.toNat⟩], nextCtr := s.ctg.nextCtr + 1 } ∧
        u.ideOf port st.toNat = s.ideOf port st.toNat ∧ u.out = .spdm ep (.kmResp 0) :: s.out ∧ ChangesOnly [.ctg, .hosts, .out] s u) ∧
      (Tbl.get? (s.ideOf port st.toNat).keys k = none → exec (.keySetGo ep id port st set dir sub) s = .next (s.says ep (.kmResp 1))) ∧
      ((Tbl.get? (s.ideOf port st.toNat).keys k).isSome → Completes (.keySetGo ep id port st set dir sub) s fun u => let y := u.ideOf port st.toNat
        y.keys = (s.ideOf port st.toNat).keys ∧ k ∈ y.active ∧ (∀ j ∈ y.active, j ≠ k → j ∈ (s.ideOf port st.toNat).active ∧ j % 16 ≠ k % 16) ∧ y.insecure = false ∧
        u.out = .spdm ep (.kmResp 0) :: s.out ∧ ChangesOnly [.hosts, .out] s u) ∧
      (Completes (.keySetStop ep id port st set dir sub) s fun u => let y := u.ideOf port st.toNat
        Tbl.get? y.keys k = none ∧ k ∉ y.active ∧ (∀ j, j ≠ k → (j ∈ y.active ↔ j ∈ (s.ideOf port st.toNat).active)) ∧
        u.ctg = { s.ctg with sent := s.ctg.sent ++ [⟨0x142 + port.val, 2, s.ctg.nextCtr, slot, 0⟩], nextCtr := s.ctg.nextCtr + 1 } ∧
        u.out = .spdm ep (.kmResp 0) :: s.out ∧ ChangesOnly [.ctg, .hosts, .out] s u))) ∧
  (∀ (unit slot : Half) (ctr : Word) (key : Nat) (pass : Bool) (s : State), let u0 := unit.toNat; let bad := Tbl.get 0 s.ctg.kpBad u0
    ∀ e ∈ [(Instr.keyPathLoad unit ctr slot key, (⟨u0, 1, ctr.toNat, slot.toNat, key⟩ : KpMsg)), (.keyPathClearSlot unit ctr slot, ⟨u0, 2, ctr.toNat, slot.toNat, 0⟩),
        (.keyPathClearAll unit ctr, ⟨u0, 3, ctr.toNat, 0, 0⟩), (.keyPathKat unit ctr pass, ⟨u0, 4, ctr.toNat, 0, 0⟩)],
      (u0 ∉ keyUnits → exec e.1 s = .next s) ∧
      (u0 ∈ keyUnits → ¬ s.KeyOk e.2 → bad < 2 → exec e.1 s = .next (s.modCtg fun c => { c with kpBad := Tbl.set c.kpBad u0 (bad + 1) })) ∧
      (u0 ∈ keyUnits → ¬ s.KeyOk e.2 → 2 ≤ bad → Completes e.1 s fun u => (u.ctg.unit 0).kpfail = true ∧ (u.ctg.unit 1).kpfail = true ∧
        (u.ctg.unit 0).zCause = 7 ∧ Tbl.get? u.ctg.kpBad u0 = none ∧ (∀ k, keyStack u0 = some k → (u.stk k).keys = []) ∧
        (∀ p, keyPort u0 = some p → (u.hosts.port p).ide = [] ∧ (u.hosts.port p).linkUp = false ∧ (u.hosts.port p).katFail = true))) ∧
  (∀ (unit slot : Half) (ctr : Word) (key : Nat) (k : StackId) (p : Nat) (s : State), let u0 := unit.toNat; let sl := slot.toNat
    let load : KpMsg := ⟨u0, 1, ctr.toNat, sl, key⟩; let clr : KpMsg := ⟨u0, 2, ctr.toNat, sl, 0⟩; let every : KpMsg := ⟨u0, 3, ctr.toNat, 0, 0⟩
    let kat : KpMsg := ⟨u0, 4, ctr.toNat, 0, 0⟩
    (keyStack u0 = some k →
      (s.KeyOk load → sl < 516 → Completes (.keyPathLoad unit ctr slot key) s fun u => (u.stk k).keys = Tbl.set (s.stk k).keys sl key ∧
        u.ctg = (s.keyTaken load).ctg ∧ ChangesOnly [.ctg, .hbm, .ten] s u) ∧
      (s.KeyOk clr → Completes (.keyPathClearSlot unit ctr slot) s fun u => (u.stk k).keys = Tbl.erase (s.stk k).keys sl ∧ ChangesOnly [.ctg, .hbm] s u) ∧
      (s.KeyOk every → exec (.keyPathClearAll unit ctr) s = .next ((s.keyTaken every).modStk k fun x => { x with keys := [] }))) ∧
    (keyPort u0 = some p →
      (s.KeyOk load → exec (.keyPathLoad unit ctr slot key) s = .next ((s.keyTaken load).modIde p (sl / 256) fun x => { x with keys := Tbl.set x.keys (sl % 256) key })) ∧
      (s.KeyOk clr → Completes (.keyPathClearSlot unit ctr slot) s fun u => let y := u.ideOf p (sl / 256)
        Tbl.get? y.keys (sl % 256) = none ∧ sl % 256 ∉ y.active ∧ ChangesOnly [.ctg, .hosts] s u) ∧
      (s.KeyOk every → exec (.keyPathClearAll unit ctr) s = .next ((s.keyTaken every).withHost p fun x => { x with ide := [] })) ∧
      (s.KeyOk kat → Completes (.keyPathKat unit ctr false) s fun u => (u.hosts.port p).linkUp = false ∧ (u.hosts.port p).katFail = true ∧
        (u.ctg.unit 0).err.getLsbD 63 = true ∧ (u.ctg.unit 1).err.getLsbD 63 = true)) ∧
    (u0 ∈ keyUnits → s.KeyOk kat → Completes (.keyPathKat unit ctr true) s fun u => u0 ∈ u.ctg.kpPassed ∧ (∀ j ∈ s.ctg.kpPassed, j ∈ u.ctg.kpPassed) ∧
      ChangesOnly [.ctg] s u)) ∧
  ∀ (f : Fin 10) (w : Half) (b : Byte) (slot : Fin 4) (digest : List Byte) (t : Nat) (s : State), let i := s.fw.active
    (s.ctgState ≠ 1 → exec (.onDemandSelfTest none) s = .next s ∧ exec (.onDemandSelfTest (some f)) s = .next s) ∧
    (s.ctgState = 1 → exec (.onDemandSelfTest none) s = .next (s.modCtg fun c => c.modUnit i fun u => { u with
      testTick := tickOf s.mcount % 2 ^ 32, pass := true, passed := u.passed ||| 0x1FF })) ∧
    (s.ctgState = 1 → f.val < 9 → i < 2 → (s.ctg.unit (1 - i)).state = 1 → Completes (.onDemandSelfTest (some f)) s fun u =>
      (u.ctg.unit i).state = 2 ∧ (u.ctg.unit i).stfail = true ∧ (u.ctg.unit i).pass = false ∧ u.fw.active = 1 - i ∧ u.ctg.unit (1 - i) = s.ctg.unit (1 - i)) ∧
    (s.ctg.zPend = none → Completes .zeroizeCommand s fun u => u.SecretsGone ∧ u.boot.stopped = true ∧ u.boot.level = some 0 ∧ (u.ctg.unit 0).zCause = 1 ∧
      (u.ctg.unit 1).zCause = 1 ∧ (u.ctg.unit 0).zCount = satAdd 0xFFFF (s.ctg.unit 0).zCount 1 ∧ (∀ c ∈ s.gaz.clustersIn, (u.cl c).spd.zNeeded = true) ∧
      (∀ e ∈ s.ten.parts, e.2.state ≠ 0 → ∀ c ∈ e.2.set, (u.cl c).sq.run = false) ∧ ∀ e ∈ u.lgd.sessions, e.2.spdm = none) ∧
    (w ≠ 0xDEC0 → exec (.endOfLife w) s = .next s) ∧
    (s.ctg.eolAt = none ∨ s.ctg.eolAt = some t ∧ t + 10000000000 < s.now → exec (.endOfLife 0xDEC0) s = .next (s.modCtg fun c => { c with eolAt := some s.now })) ∧
    (s.ctg.eolAt = some t → s.now ≤ t + 10000000000 → s.ctg.zPend = none → Completes (.endOfLife 0xDEC0) s fun u =>
      u.ctg.endOfLife = true ∧ u.SecretsGone ∧ (u.ctg.unit 0).zCause = 6 ∧ u.boot.stopped = true) ∧
    (digest.length ≠ 48 ∨ (Tbl.get? s.ctg.anchors slot).isSome → exec (.anchorWrite slot digest) s = .next s) ∧
    (digest.length = 48 → Tbl.get? s.ctg.anchors slot = none → exec (.anchorWrite slot digest) s =
      .next (s.modCtg fun c => { c with anchors := Tbl.set c.anchors slot digest })) ∧
    (b.toNat % 16 &&& s.fw.svfAnchors ≠ 0 → s.fw.accepted 1 = true → exec (.anchorRevoke b) s = .next s) ∧
    (b.toNat % 16 &&& s.fw.svfAnchors = 0 ∨ s.fw.accepted 1 = false → exec (.anchorRevoke b) s = .next (s.modCtg fun c => { c with
      fwRevoked := c.fwRevoked ||| b.toNat % 16, anchorsRevoked := c.anchorsRevoked ||| b.toNat / 16 })) ∧
    exec (.approvedFuse true) s = .next (s.modCtg fun c => { c with fuse := true }) ∧ exec (.approvedFuse false) s = .next s

/-- 19 R525, R528, R531 to R534, 23 R596 to R605, 24 R619, 01 R28, R29: the override is written, and with it a held image accepted; broadcasts are
recorded; a component that violates is stopped and restarts, and at the fourth time within 10 s the other Surveyor takes over; watchdogs
outside the Surveyor retire their unit at the third expiry within 10 s. Diagnostic runs are refused, waited for or begun, and end with
their result; counts are forwarded, events appended or coalesced, written to flash, and cleared. A register write acts on the register
that it names, and on none where there is none. -/
def Obligations.FirmwareDiagnosticsAndRegisters : Prop :=
  (∀ (w : Byte) (k : Nat) (bs : List Byte) (kind : Fin 5) (s : State),
    (w.toNat % 2 = 1 ∨ 16 ≤ w.toNat ∨ s.ctg.approved = true → exec (.testedWithOverride w) s = .next s) ∧
    (w.toNat % 2 = 0 → w.toNat < 16 → s.ctg.approved = false →
      (s.fw.held = [] → exec (.testedWithOverride w) s = .next (s.modFw fun f => { f with override := w.toNat })) ∧
      (2 ≤ k → k ≤ 4 → s.fw.held = [(k, bs)] → (s.fw.img k).state = 2 → (w.toNat >>> (k - 1)) % 2 = 1 → s.fw.accepted 1 = true →
        { s.fw with override := w.toNat }.judge s.gaz.stepping s.ctg.fwRevoked s.unsignedOk k bs = .accept true →
        Completes (.testedWithOverride w) s fun u => u.fw.img k = { fwParse bs with state := 3 } ∧ u.fw.held = [] ∧ u.fw.override = w.toNat - 2 ^ (k - 1) ∧
          Tbl.get? u.ctg.meas k = some (fwParse bs).digest ∧ ChangesOnly [.fw, .ctg, .log, .gaz] s u)) ∧
    ((kind = 2 ∨ kind = 3) → s.fw.accepted kind = true → kind.val ∉ s.fw.delivered → exec (.imageBroadcastDone kind) s =
      .next (s.modFw fun f => { f with delivered := kind.val :: f.delivered })) ∧
    (kind ≠ 2 ∧ kind ≠ 3 ∨ s.fw.accepted kind = false ∨ kind.val ∈ s.fw.delivered → exec (.imageBroadcastDone kind) s = .next s)) ∧
  (∀ (k : Fin 6) (addr : Word) (data : List (Fin 4096 × List Byte)) (s : State), let c := s.fw.comp k; let rs := within10s s.now c.recent
    ∀ e ∈ [Instr.componentViolation k addr, .componentWatchdogExpiry k],
      (c.state ≠ 1 → exec e s = .next s) ∧
      (c.state = 1 → k ≠ 0 → rs.length < 4 → Completes e s fun u => u.fw.comp k = { c with state := 2, recent := rs } ∧
        (∀ j, j ≠ k.val → u.fw.comp j = s.fw.comp j) ∧ ChangesOnly [.fw, .log, .gaz] s u) ∧
      (c.state = 1 → k = 0 ∨ 4 ≤ rs.length → s.fw.svbUp = true → (s.ctg.unit (1 - s.fw.active)).state = 1 → Completes e s fun u =>
        u.fw.active = 1 - s.fw.active ∧ u.fw.svbUp = false ∧ ∀ x ∈ u.fw.comps, x.2.state = 1) ∧
      (c.state = 1 → k = 0 ∨ 4 ≤ rs.length → s.fw.svbUp = false → Completes e s fun u => (u.fw.comp k).state = 0 ∧ u.fw.active = s.fw.active) ∧
      (c.state ≠ 2 → exec (.componentRestartDone k data) s = .next s) ∧
      (c.state = 2 → k ≠ 4 → Completes (.componentRestartDone k data) s fun u => u.fw.comp k = { c with
          state := 1, restarts := Nat.min 0xFFFF (c.restarts + 1), last := s.mcount } ∧ ChangesOnly [.fw, .out] s u) ∧
      (c.state = 2 → k = 4 → Completes (.componentRestartDone k []) s fun u => (u.fw.comp k).state = 1 ∧ ChangesOnly [.fw, .out] s u)) ∧
  (∀ (x : SiteId) (k : StackId) (b : BraidId) (s : State),
    let bites (kind n : Nat) : List Nat := within10s s.now (Tbl.get [] s.fw.dogs (kind * 65536 + n))
    let noted (kind n : Nat) : State := s.modFw fun f => { f with dogs := Tbl.set f.dogs (kind * 65536 + n) (bites kind n) }
    (s.gaz.siteIn x = false → exec (.lkfWatchdogExpiry x) s = .next s) ∧ ((s.gaz.stack k).status ≠ 0 → exec (.sbfWatchdogExpiry k) s = .next s) ∧
    ((s.gaz.braid b).status ≠ 0 → exec (.lmcWatchdogExpiry b) s = .next s) ∧
    (s.gaz.siteIn x = true → ((bites 2 x).length < 3 → exec (.lkfWatchdogExpiry x) s = .next (noted 2 x)) ∧
      (3 ≤ (bites 2 x).length → Completes (.lkfWatchdogExpiry x) s fun u => (u.gaz.site x).status = 4)) ∧
    ((s.gaz.stack k).status = 0 → ((bites 4 k).length < 3 → exec (.sbfWatchdogExpiry k) s = .next (noted 4 k)) ∧
      (3 ≤ (bites 4 k).length → Completes (.sbfWatchdogExpiry k) s fun u => (u.gaz.stack k).status = 4)) ∧
    ((s.gaz.braid b).status = 0 → ((bites 3 b).length < 3 → (s.levEnd b false).state ≠ 2 → exec (.lmcWatchdogExpiry b) s = .next (noted 3 b)) ∧
      ((bites 3 b).length < 3 → (s.levEnd b false).state = 2 → (s.levEnd b false).own = none → Completes (.lmcWatchdogExpiry b) s fun u =>
        (u.levEnd b false).own = some ⟨1, 0, 0⟩ ∧ u.levEnd b true = s.levEnd b true ∧ ChangesOnly [.fw, .lev, .out] s u) ∧
      (3 ≤ (bites 3 b).length → Completes (.lmcWatchdogExpiry b) s fun u => (u.gaz.braid b).status = 4))) ∧
  (∀ (ep : Endpoint) (w : Word32) (site wk : Byte) (errors : Nat) (ok : Bool) (rows : Half) (r : DiagRun) (s : State),
    let v := w.toNat; let iface := v / 2 ^ 28 % 16; let depth := v / 2 ^ 25 % 8; let t := v % 2 ^ 21; let sn := site.toNat; let k := wk.toNat % 64
    let begun (i x kind d f : Nat) (s : State) : State := (s.setObj i 0 x).modDiag fun g => { g with run := some ⟨kind, f, d, if i = 0x9000 then t else if i = 0x9010 then sn else k⟩, state := 1 }
    (s.atZero = true ∨ s.lbOffered iface depth t = false ∨ s.lbBusy ep iface t = true ∨ s.lbForbidden iface t = true → exec (.loopbackRequest ep w) s = .next s) ∧
    (s.atZero = false → s.lbOffered iface depth t = true → s.lbBusy ep iface t = false → s.lbForbidden iface t = false →
      (iface = 2 ∨ iface = 4 → exec (.loopbackRequest ep w) s = .next (begun 0x9000 v 0 depth iface s)) ∧
      (Completes (.loopbackRequest ep w) s fun u => u.diag.run = some ⟨0, iface, depth, t⟩ ∧ u.diag.state = 1 ∧ u.obj 0x9000 0 = v ∧
        (iface = 3 → (u.hosts.port t).linkUp = false))) ∧
    (s.atZero = true ∨ 192 ≤ sn ∨ s.diag.run.isSome ∨ s.gaz.siteIn sn = false ∨ (∃ e ∈ s.ten.parts, e.2.state ≠ 0 ∧ ∃ c ∈ e.2.set, c / 8 = sn) → exec (.sramSelfTestRequest site) s = .next s) ∧
    (s.atZero = false → sn < 192 → s.diag.run = none → s.gaz.siteIn sn = true → (∀ e ∈ s.ten.parts, e.2.state ≠ 0 → ∀ c ∈ e.2.set, c / 8 ≠ sn) →
      exec (.sramSelfTestRequest site) s = .next (begun 0x9010 sn 1 0 0 s)) ∧
    (s.atZero = true ∨ 48 ≤ k ∨ wk.getLsbD 6 = true ∨ s.diag.run.isSome ∨ (s.gaz.stack k).status ≠ 0 ∨ s.allotted k = true → exec (.stackTestRequest wk) s = .next s) ∧
    (s.atZero = false → k < 48 → wk.getLsbD 6 = false → s.diag.run = none → (s.gaz.stack k).status = 0 → s.allotted k = false →
      exec (.stackTestRequest wk) s = .next ((begun 0x9011 wk.toNat 2 (wk.toNat / 128) 0 s).modStk k fun x => { x with state := 2 })) ∧
    (s.diag.run = none → exec (.diagnosticRunEnd errors [] ok rows []) s = .next s) ∧
    (s.diag.run = some r →
      let done (n : Nat) : Diag := { s.diag with run := none, state := 2, pass := n == 0, kind := r.kind, errors := Nat.min (2 ^ 26 - 1) n, tick := tickOf s.mcount % 2 ^ 32 }
      (r.kind = 0 → exec (.diagnosticRunEnd errors [] ok rows []) s = .next { s with diag := done errors }) ∧
      (r.kind = 1 → Completes (.diagnosticRunEnd errors [] ok rows []) s fun u => u.diag = done 0 ∧
        (∀ j, j < 8 → s.gaz.clusterIn (8 * r.target + j) = true → (u.cl (8 * r.target + j)).spd = { (s.cl (8 * r.target + j)).spd with zNeeded := true }) ∧
        ChangesOnly [.diag, .clusters] s u) ∧
      (r.kind = 2 → r.target < 48 → (s.gaz.stack r.target).status = 0 → Completes (.diagnosticRunEnd errors [] true rows []) s fun u => u.diag = done errors ∧
        (u.stk r.target).mem = [] ∧ (u.stk r.target).state = 3 ∧ (u.stk r.target).done = true ∧ ChangesOnly [.diag, .hbm] s u))) ∧
  (∀ (unit : Half) (c n : Nat) (e : FEvent) (es : List FEvent) (r : EventRec) (rs : List EventRec) (d : Fin 2) (s : State), let l := s.log
    (c < 256 → l.fwd = [(unit.toNat * 256 + c, n)] → exec (.eventCountForward unit) s = .next (s.modLog fun l => { l with
      fwd := [], counts := Tbl.set l.counts c (Nat.min (2 ^ 64 - 1) (n + Tbl.get 0 l.counts c)) })) ∧
    ((∀ x ∈ l.fwd, x.1 / 256 ≠ unit.toNat) → exec (.eventCountForward unit) s = .next s) ∧
    (l.inbox = [] → exec .faultEventReceived s = .next s) ∧
    (l.inbox = e :: es →
      ((∀ r ∈ l.waiting, ¬ (r.code = e.code ∧ r.unit = e.unit ∧ r.sub = e.sub)) → (∀ r ∈ l.ring, ¬ (r.code = e.code ∧ r.unit = e.unit ∧ r.sub = e.sub)) →
        l.waiting.length < 4096 → Completes .faultEventReceived s fun u => u.log = { l with
          inbox := es, waiting := ⟨e.at_, l.nextSeq, e.code, e.unit, e.sub, e.source, 1, e.detail⟩ :: l.waiting, nextSeq := (l.nextSeq + 1) % 2 ^ 32 } ∧
        (e.unit < 192 → (u.gaz.site e.unit).faults = Nat.min 65535 ((s.gaz.site e.unit).faults + 1)) ∧ ChangesOnly [.log, .gaz] s u) ∧
      (l.waiting = r :: rs → r.code = e.code → r.unit = e.unit → r.sub = e.sub → e.code ≠ .statusChange → e.at_ ≠ 0 → r.at_ ≠ 0 → e.at_ < r.at_ + 1000000 →
        Completes .faultEventReceived s fun u => u.log = { l with inbox := es, waiting := { r with repeats := Nat.min 255 (r.repeats + 1) } :: rs } ∧
          ChangesOnly [.log, .gaz] s u)) ∧
    (l.dropped = 0 → exec .faultLogFlashWrite s = .next (s.modLog fun l => { l with
      waiting := [], ring := (l.waiting ++ l.ring).take 65536, overwritten := l.overwritten + ((l.waiting ++ l.ring).length - 65536) })) ∧
    (l.dropped ≠ 0 → Completes .faultLogFlashWrite s fun u => u.log.dropped = 0 ∧ u.log.ring = (l.waiting ++ l.ring).take 65536 ∧
      u.log.waiting = [⟨s.mcount, l.nextSeq, .logOverflow, 0xFFFF, 0, 3, 1, l.dropped⟩] ∧ ChangesOnly [.log] s u) ∧
    (l.waiting.length < 4096 → Completes .faultLogClear s fun u => u.log.ring = [] ∧
      u.log.waiting = ⟨s.mcount, l.nextSeq, .statusChange, 0xFFFF, 0, 4, 1, 0⟩ :: l.waiting ∧ ChangesOnly [.log] s u) ∧
    (s.pwr.vhk = false → exec (.surveyorSupplyFault d) s = .next s) ∧
    (s.pwr.vhk = true → s.ctg.zPend = none → Completes (.surveyorSupplyFault d) s fun u => u.SecretsGone ∧ (u.ctg.unit 0).zCause = 5 ∧ u.boot.stopped = true)) ∧
  ∀ (unit : Byte) (off v : Word) (ctl : Writer) (n j : Nat) (p : Fin 2) (s : State), let o := off.toNat; let U := unit.toNat
    (s.boot.level = none ∨ o % 8 ≠ 0 ∨ (244 ≤ U ∧ U ≠ 0xF8) → exec (.registerWrite unit off ⟨v, ctl⟩) s = .next s) ∧
    (s.boot.level.isSome →
      (U < 192 → n < 8 → o = n * 0x100000 + 0x10018 →
        (s.atZero = false → exec (.registerWrite unit off ⟨v, ctl⟩) s = .next (s.setCl (8 * U + n) { s.cl (8 * U + n) with
          sq := { (s.cl (8 * U + n)).sq with tvec := v.toNat % 2 ^ 25 / 16 * 16 } })) ∧
        (s.atZero = true → exec (.registerWrite unit off ⟨v, ctl⟩) s = .next s)) ∧
      (U < 192 → n < 8 → o = n * 0x100000 + 0x30008 → s.atZero = false → exec (.registerWrite unit off ⟨v, ctl⟩) s = .next (s.setCl (8 * U + n)
        (if ctl = .surveyor then s.cl (8 * U + n) else { s.cl (8 * U + n) with
          spd := { (s.cl (8 * U + n)).spd with scrubEn := v.toNat.testBit 4, scrubDiv := v.toNat % 16 } }))) ∧
      (U < 192 → j < 128 → ∀ e : Bool, o = 0x904000 + (if e then 0x1000 else 0) + 8 * j → (s.delta.router U).slotHeld e = false → Completes (.registerWrite unit off ⟨v, ctl⟩) s fun u =>
          (∀ i, i < 4 → (u.delta.tabs e).uniAt U (4 * j + i) = BitVec.ofNat 16 (v.toNat / 2 ^ (16 * i))) ∧
          (∀ y z, y ≠ U → z < 512 → (u.delta.tabs e).uniAt y z = (s.delta.tabs e).uniAt y z) ∧ u.delta.tabs (!e) = s.delta.tabs (!e) ∧ ChangesOnly [.delta] s u) ∧
      (U < 192 → j < 128 → ∀ e : Bool, o = 0x904000 + (if e then 0x1000 else 0) + 8 * j → (s.delta.router U).slotHeld e = true → exec (.registerWrite unit off ⟨v, ctl⟩) s = .next s) ∧
      (U = 242 + p.val → o = 0x101008 → exec (.registerWrite unit off ⟨v, ctl⟩) s = .next (s.withHost p fun x => { x with haltCq := v.toNat % 2 ^ 49 / 16 * 16 })) ∧
      (s.fw.active = p.val → U = 240 + p.val →
        (o = 0x700008 → v = 1 → s.cnf.fenced = false → Completes (.registerWrite unit off ⟨v, ctl⟩) s fun u => u.cnf = { s.cnf with fenced := true }) ∧
        (o = 0x700018 → v.toNat % 100000 = 0 → s.mcount + 200000 ≤ v.toNat → exec (.registerWrite unit off ⟨v, ctl⟩) s = .next (s.modCnf fun c => { c with eclose := v.toNat }))) ∧
      (U < 192 → n < 34 → ctl = .surveyor → o = 0xA00008 + n * 0x100 → exec (.registerWrite unit off ⟨v, ctl⟩) s = .next s) ∧
      (U < 192 → o = 0x960000 → exec (.registerWrite unit off ⟨v, ctl⟩) s = .next (s.modLarre fun l => { l with armed := true, tsw := v })) ∧
      (U = 0xF8 → n < 36 → ctl = .lockkeeper ∨ ctl = .controller → o = n * 0x10000 + 0x30 ∨ o = n * 0x10000 + 0x38 ∨ (j < 4 ∧ o = n * 0x10000 + 0x8008 + j * 0x800) →
        exec (.registerWrite unit off ⟨v, ctl⟩) s = .next s) ∧
      (192 ≤ U → U < 240 → o = 0x800008 → exec (.registerWrite unit off ⟨v, ctl⟩) s =
        .next (s.modStk (U - 192) fun x => if ctl = .lockkeeper then x else { x with mthr := v.toNat % 256 })) ∧
      (s.fw.active = p.val → U = 240 + p.val → o = 0x600008 → ctl = .lockkeeper ∨ ctl = .controller → exec (.registerWrite unit off ⟨v, ctl⟩) s = .next s) ∧
      (U = 242 + p.val → o = 0x101000 → s.hosts.primary ≠ p.val → exec (.registerWrite unit off ⟨v, ctl⟩) s = .next s) ∧
      (s.fw.active ≠ p.val → U = 240 + p.val → 0x600000 ≤ o → o < 0x800000 → exec (.registerWrite unit off ⟨v, ctl⟩) s = .next s))

/-- 21 R545 to R567, R572, 20 R544: the power module's answers, the input and PWR_EN raise the rails, shed the core or take the panel
down; rails rise one by one in code order and fall in the reverse order; a rail that fails ends its power-up, its power-down or the
powered panel, and is recorded; domains wake against tokens, stage by stage, and fault alone; sensors are dropped; a cracked
connection derates its site. -/
def Obligations.PowerFollowsItsSequence : Prop :=
  (∀ (w : Word32) (h : Half) (a b : Bool) (s : State), let k := w.toNat % 256; let p := s.pwr
    let idle : Prop := s.pwr.seq ≠ 4 ∧ s.pwr.seq ≠ 5
    let cfg (c r : Nat) : State := s.modPwr fun q => { q with config := c, rated := r }
    (p.vhk = false → exec (.pmbusIdentify none) s = .next s ∧ exec (.pmbusIdentify (some w)) s = .next s ∧ exec (.pmbusStatusPoll h) s = .next s ∧
      exec .vinUndervoltage s = .next s ∧ exec .vinOvervoltage s = .next s) ∧
    (p.vhk = true → p.railsOn = false →
      (k = 1 ∨ k = 2 → exec (.pmbusIdentify (some w)) s = .next (cfg k (w.toNat / 256)).raiseRails) ∧
      (k ≠ 1 ∧ k ≠ 2 → exec (.pmbusIdentify (some w)) s = .next ((cfg 0 0).raiseSv .psuUnknown 0xFFFF 0 0)) ∧
      exec (.pmbusIdentify none) s = .next ((cfg 0 0).raiseSv .psuUnknown 0xFFFF 0 0) ∧
      (s.boot.part = 0 ∨ s.boot.part = 6 → exec (.pmbusStatusPoll h) s = .next s)) ∧
    (p.vhk = true → p.railsOn = true → exec (.pmbusIdentify none) s = .next s ∧ (k = p.config → exec (.pmbusIdentify (some w)) s = .next s) ∧
      (k ≠ p.config → idle → Completes (.pmbusIdentify (some w)) s fun u => ResetFrom s u ∧ u.pwr.inflt = true ∧
        u.pwr.config = (if k = 1 ∨ k = 2 then k else 0) ∧ u.pwr.fault = BitVec.ofNat 64 (faultWord 4 0 p.phase 0 k)) ∧
      (h = 0 → exec (.pmbusStatusPoll h) s = .next s) ∧
      ((∃ i, (i = 6 ∨ i = 5 ∨ i = 4 ∨ i = 3 ∨ i = 2) ∧ h.getLsbD i = true) → idle → Completes (.pmbusStatusPoll h) s fun u => ResetFrom s u ∧ u.pwr.inflt = true ∧
        u.pwr.fault = BitVec.ofNat 64 (faultWord 4 0 p.phase 0 h.toNat)) ∧
      (h ≠ 0 → (∀ i, 2 ≤ i → i ≤ 6 → h.getLsbD i = false) → exec (.pmbusStatusPoll h) s = .next (s.raiseSv .inputFault 0xFFFF 0 h.toNat))) ∧
    (p.vhk = true → ∀ e ∈ [Instr.vinUndervoltage, .vinOvervoltage],
      (idle → Completes e s fun u => ResetFrom s u ∧ u.pwr.inflt = true ∧ u.pwr.vinOk = false) ∧
      (p.seq = 4 ∨ p.seq = 5 → exec e s = .next (s.modPwr fun q => { q with vinOk := false, inflt := true }).letGo)) ∧
    (p.seq ≠ 3 → exec .vinSag s = .next (s.modPwr fun q => { q with vinOk := false })) ∧
    (p.seq = 3 → Completes .vinSag s fun u => u.pwr.seq = 6 ∧ u.pwr.shed = true ∧ u.pwr.good = false ∧ u.pwr.vinOk = false ∧ u.pwr.on = p.on ∧ u.pwr.held = [] ∧
      (∀ c, u.pwr.dom c = if (p.dom c).state = 4 then p.dom c else { p.dom c with
        state := 0, stage := 0, outside := none, wasOn := (p.dom c).state != 0 || (p.dom c).wasOn }) ∧
      (∀ c, c < 1536 → s.gaz.clusterIn c = true → u.cl c = (s.cl c).kept) ∧ u.ten.charts = [] ∧
      (s.ten.running = [] → s.ten.waitingRuns = [] → u.hbm = s.hbm ∧ u.ctg = s.ctg ∧ u.gaz = s.gaz ∧ u.ten.chans = s.ten.chans ∧ u.ten.plots = s.ten.plots) ∧
      (∀ n, n < 256 → Tbl.get? u.ten.running n = none) ∧ u.boot.level = if s.boot.level = some 2 then some 1 else s.boot.level) ∧
    (p.seq = 6 → Completes (.vinRecovery a b) s fun u => u.pwr.seq = 3 ∧ u.pwr.good = true ∧ u.pwr.vinOk = true ∧ u.boot = { s.boot with wave := 0 } ∧
      (∀ c, u.pwr.dom c = if (p.dom c).wasOn then { p.dom c with state := 1, wasOn := false } else p.dom c) ∧ ChangesOnly [.pwr, .boot] s u) ∧
    (let t := s.modPwr fun q => { q with vinOk := true };
      (p.seq = 3 ∨ p.seq = 4 ∨ (p.seq = 5 ∧ s.now < p.offAt + 500000000) → exec (.vinRecovery a b) s = .next t) ∧
      (t.MayStart → s.boot.reset = false → s.NoApproval → Completes (.vinRecovery a b) s fun u => Started a b s u ∧ u.boot.cold = false)) ∧
    (p.en = true → exec (.pwrEnAssert a b) s = .next s) ∧
    (p.en = false → let t := s.modPwr fun q => { q with en := true, upFaults := 0 };
      (p.seq = 4 ∨ (p.seq = 5 ∧ s.now < p.offAt + 500000000) ∨ (p.seq = 5 ∧ p.vinOk = false) → exec (.pwrEnAssert a b) s = .next t) ∧
      (t.MayStart → s.boot.reset = false → s.NoApproval → Completes (.pwrEnAssert a b) s fun u => Started a b s u ∧ u.boot.cold = false)) ∧
    (p.en = false → exec .pwrEnDeassert s = .next s) ∧
    (p.en = true → p.vhk = true → idle → Completes .pwrEnDeassert s fun u => ResetFrom s u ∧ u.pwr.en = false ∧ u.pwr.upFaults = 0) ∧
    (s.MayStart → s.boot.reset = false → s.NoApproval → Completes (.offTimeEnd a b) s fun u => Started a b s u ∧ u.boot.cold = false) ∧
    (p.seq ≠ 1 → p.seq ≠ 5 ∨ s.now < p.offAt + 500000000 ∨ p.en = false ∨ p.vinOk = false ∨ 3 ≤ p.upFaults ∨ (s.boot.reset = true ∧ s.boot.masked = false) →
      exec (.offTimeEnd a b) s = .next s) ∧
    (p.vhk = true → exec (.vHkPowerOn a b) s = .next s) ∧
    (p.vhk = false → s.boot.part = 0 →
      (s.boot.reset = false → s.NoApproval → Completes (.vHkPowerOn a b) s fun u => Started a b s u ∧ u.boot.cold = true ∧ u.pwr.vhk = true ∧ u.pwr.on = 1 ∧ u.pwr.inwin = 1) ∧
      (s.boot.reset = true → s.boot.masked = false → exec (.vHkPowerOn a b) s = .next (s.modPwr fun q => { q with vhk := true, seq := 1, on := 1, inwin := 1 }))) ∧
    (p.vhk = false → exec .vHkLoss s = .next s) ∧ exec (.railLeavesWindow 0 h) s = exec .vHkLoss s ∧
    (p.vhk = true → Completes .vHkLoss s fun u => u.SecretsGone ∧ u.pwr.vhk = false ∧ u.pwr.on = 0 ∧ u.pwr.seq = 0 ∧ u.pwr.integ = p.integ ∧ u.boot.part = 0 ∧
      u.boot.level = none ∧ u.log.waiting = [] ∧ u.ten = {} ∧ u.delta = {} ∧ u.obj 0x2300 0 = objDefault 0x2300 ∧
      (∀ c, (u.cl c).spd.steer = (s.cl c).spd.steer) ∧ ∀ c, u.gaz.cluster c = s.gaz.cluster c)) ∧
  (∀ (r : Fin 10) (v : Half) (test : Bool) (s : State), let p := s.pwr; let n := r.val
    let rising : Prop := p.seq = 2 ∧ p.on.testBit n = true ∧ p.inwin.testBit n = false
    let falling : Prop := p.seq = 4 ∧ p.on.testBit n = false ∧ p.inwin.testBit n = true
    (¬ rising → exec (.railInWindow r) s = .next s ∧ exec (.railRampTimeout r v test) s = .next s) ∧
    (n < 9 → p.seq = 2 → p.on = 2 ^ (n + 1) - 1 → p.inwin = 2 ^ n - 1 → p.integ = false → s.boot.part ≠ 3 ∨ n < 7 → exec (.railInWindow r) s = .next (s.modPwr fun q => { q with
      inwin := 2 ^ (n + 1) - 1
      on := if p.en = true ∧ p.vinOk = true ∧ p.config ≠ 0 ∧ p.upFaults < 3 ∧ railPart (n + 1) ≤ s.boot.part then 2 ^ (n + 2) - 1 else p.on })) ∧
    (n = 7 → rising → 2 ^ 7 - 1 = p.inwin → s.boot.part = 3 → s.fw.delivered.contains 2 = true → Completes (.railInWindow r) s fun u => ChangesOnly [.pwr, .hbm] s u ∧
      ∀ k, k < 48 → u.stk k = if (s.gaz.stack k).status = 0 ∧ (s.stk k).state = 0 ∧ (∃ x ∈ homeSites k, s.gaz.memLink x = true) then { s.stk k with state := 1 } else s.stk k) ∧
    (n = 9 → rising → p.on = 2 ^ 10 - 1 → Completes (.railInWindow r) s fun u => u.pwr.seq = 3 ∧ u.pwr.good = true ∧ u.pwr.inwin.testBit 9 = true ∧
      (∀ c, c < 1536 → s.gaz.clusterIn c = true → u.pwr.dom c = { state := 1, smask := 0xFF, setp := 600, vmin := 600 }) ∧ ChangesOnly [.pwr, .hbm] s u ∧ (s.boot.part ≠ 3 → u.hbm = s.hbm)) ∧
    (rising → p.fault.getLsbD 63 = false → test = false ∨ (p.integ = true ∧ n ≠ 9) → Completes (.railRampTimeout r v test) s fun u =>
      u.pwr = { p with
        on := 1, inwin := p.inwin % 2, integ := true, good := false, seq := 5, offAt := s.now, tested := 0
        upFaults := if test then p.upFaults else p.upFaults + 1, fault := BitVec.ofNat 64 (faultWord (if test then 5 else 1) n 0 0 v.toNat) } ∧
      u.boot = { s.boot with level := some 0, stopped := true } ∧ ChangesOnly [.pwr, .boot, .log, .out] s u) ∧
    (p.seq = 2 → n ≠ 0 → n ≠ 9 → p.on.testBit n = true → p.inwin.testBit n = true → Completes (.railLeavesWindow r v) s fun u =>
      u.pwr.on = 1 ∧ u.pwr.seq = 5 ∧ u.pwr.offAt = s.now ∧ u.pwr.integ = true ∧ u.pwr.upFaults = p.upFaults + 1 ∧ u.boot.level = some 0) ∧
    (¬ falling → exec (.railOff r) s = .next s ∧ exec (.railOffTimeout r v) s = .next s) ∧
    (n ≠ 0 → p.seq = 4 → p.on = 2 ^ n - 1 → p.inwin = 2 ^ (n + 1) - 1 →
      (2 ≤ n → exec (.railOff r) s = .next (s.modPwr fun q => { q with inwin := 2 ^ n - 1, on := 2 ^ (n - 1) - 1 })) ∧
      (n = 1 → exec (.railOff r) s = .next (s.modPwr fun q => { q with inwin := 1, seq := 5, offAt := s.now }))) ∧
    (falling → n ≠ 0 →
      (p.downFault = false → Completes (.railOffTimeout r v) s fun u => u.pwr.on = 1 ∧ u.pwr.integ = true ∧ u.pwr.downFault = true ∧ u.pwr.inwin = p.inwin ∧ u.pwr.seq = 4 ∧
        (p.fault.getLsbD 63 = false → u.pwr.fault = BitVec.ofNat 64 (faultWord 2 n 2 0 v.toNat)) ∧ ChangesOnly [.pwr, .log] s u) ∧
      (p.downFault = true → Completes (.railOffTimeout r v) s fun u => u.pwr = { p with fault := u.pwr.fault } ∧ ChangesOnly [.pwr, .log] s u)) ∧
    (n ≠ 0 → n = 9 ∨ p.on.testBit n = false ∨ p.inwin.testBit n = false → exec (.railLeavesWindow r v) s = .next s) ∧
    (n ≠ 0 → n ≠ 9 → p.on.testBit n = true → p.inwin.testBit n = true →
      (p.seq = 4 → p.downFault = false → Completes (.railLeavesWindow r v) s fun u => u.pwr.on = 1 ∧ u.pwr.inwin.testBit n = false ∧ u.pwr.integ = true ∧ ChangesOnly [.pwr, .log] s u) ∧
      (p.seq = 3 ∨ p.seq = 6 → p.inwin.testBit 9 = true → Completes (.railLeavesWindow r v) s fun u => ResetFrom s u ∧ u.pwr.integ = true ∧ u.pwr.on = p.on % 2 ^ n ∧
        u.pwr.inwin.testBit n = false ∧ u.pwr.fault = BitVec.ofNat 64 (faultWord 3 n 1 0 v.toNat)))) ∧
  (∀ (c d : ClusterId) (i : Fin 8) (q : Fin 4) (t : Nat) (rest : List (Nat × Nat)) (lines : Nat) (s : State), let p := s.pwr; let D := p.dom c
    (D.state ≠ 2 → D.state ≠ 3 → exec (.domainFault c) s = .next s) ∧
    (D.state = 2 ∨ D.state = 3 → (s.gaz.cluster c).status = 0 → exec (.domainFault c) s = .next (s.domainFault c) ∧ Completes (.domainFault c) s fun u =>
      (u.pwr.dom c).state = 4 ∧ (∀ e ∈ u.pwr.held, e.1 ≠ c.val) ∧ (u.pwr.site (c / 8)).dfault = true ∧ u.cl c = (s.cl c).kept ∧
      (u.gaz.cluster c).status = 1 ∧ ((u.gaz.site (c / 8)).status = (s.gaz.site (c / 8)).status → (u.gaz.cluster c).reason = 4) ∧ u.gaz.gen = s.gaz.gen + 1) ∧
    (D.state = 0 ∨ D.state = 4 → exec (.sensorDrop c (some i)) s = .next s ∧ exec (.sensorDrop c none) s = .next s) ∧
    (D.state ≠ 0 → D.state ≠ 4 →
      (4 ≤ ({ D with smask := setBit D.smask i false }).sensors → exec (.sensorDrop c (some i)) s =
        .next (s.modPwr fun p => p.modDom c fun _ => { D with smask := setBit D.smask i false })) ∧
      (D.local_ = false → ({ D with smask := setBit D.smask i false }).sensors < 4 → Completes (.sensorDrop c (some i)) s fun u =>
        u.pwr.dom c = { D with smask := setBit D.smask i false, local_ := true } ∧ (u.pwr.site (c / 8)).sopen = true ∧ (∀ x, x ≠ c.val → u.pwr.dom x = p.dom x) ∧
        ChangesOnly [.pwr, .log] s u) ∧
      (D.local_ = false → Completes (.sensorDrop c none) s fun u => u.pwr.dom c = { D with local_ := true } ∧ (u.pwr.site (c / 8)).sopen = true ∧ ChangesOnly [.pwr, .log] s u)) ∧
    (D.state ≠ 1 ∨ p.inwin.testBit 9 = false ∨ p.seq ≠ 3 ∨ (∃ e ∈ p.waits ++ p.held, e.1 = c.val) → exec (.wakeTokenRequest c) s = .next s) ∧
    (D.state = 1 → p.inwin.testBit 9 = true → p.seq = 3 → s.gaz.clusterIn c = true → c.val / 8 ∈ s.gaz.sitesIn.take (16 * s.boot.wave) →
      (∀ e ∈ p.waits ++ p.held, e.1 ≠ c.val) →
      ((∀ e ∈ p.waits, e.2 < s.mcount) → exec (.wakeTokenRequest c) s = .next (s.modPwr fun p => { p with waits := p.waits ++ [(c.val, s.mcount)] })) ∧
      (p.waits = [(d.val, s.mcount)] → c.val < d.val → exec (.wakeTokenRequest c) s = .next (s.modPwr fun p => { p with waits := [(c.val, s.mcount), (d.val, s.mcount)] }))) ∧
    ((∀ e ∈ p.waits, quadrant e.1 ≠ q.val) ∨ 24 ≤ p.heldIn q → exec (.wakeTokenGrant q) s = .next s) ∧
    (p.waits = (c.val, t) :: rest → quadrant c = q.val → p.heldIn q < 24 → (∀ e ∈ rest, e.1 ≠ c.val) → exec (.wakeTokenGrant q) s =
      .next (s.modPwr fun p => { p with waits := rest, held := p.held ++ [(c.val, s.now)] }.modDom c fun d => { d with state := 2, stage := 0, stageAt := s.now })) ∧
    (D.state ≠ 2 → ∀ ok, exec (.wakeStage c ok) s = .next s) ∧
    (D.state = 2 →
      (D.stage < 4 → D.stage = 0 ∨ D.stageAt + 200 ≤ s.now → Completes (.wakeStage c true) s fun u =>
        u.pwr.dom c = { D with outside := none, stage := D.stage + 1, stageAt := s.now } ∧ (∀ x, x ≠ c.val → u.pwr.dom x = p.dom x) ∧ ChangesOnly [.pwr] s u) ∧
      (4 ≤ D.stage ∨ D.stage ≠ 0 ∧ s.now < D.stageAt + 200 → exec (.wakeStage c true) s = .next (s.modPwr fun p => p.modDom c fun d => { d with outside := none })) ∧
      (D.outside = none → exec (.wakeStage c false) s = .next (s.modPwr fun p => p.modDom c fun d => { d with outside := some s.now })) ∧
      (∀ n, D.outside = some n → exec (.wakeStage c false) s = .next (if n + 2000 ≤ s.now then s.domainFault c else s))) ∧
    (D.state ≠ 2 ∨ D.stage ≠ 4 ∨ D.outside.isSome ∨ s.now < D.stageAt + 1000 → ∀ x, exec (.wakeTokenReturn c x) s = .next s) ∧
    (D.state = 2 → D.stage = 4 → D.outside = none → D.stageAt + 1000 ≤ s.now → Completes (.wakeTokenReturn c ⟨i, false, [], lines⟩) s fun u =>
      u.pwr.dom c = { D with state := 3 } ∧ (∀ x, x ≠ c.val → u.pwr.dom x = p.dom x) ∧ u.pwr.held = p.held.filter (fun e => e.1 != c.val) ∧
      (∀ x, u.cl x = s.cl x) ∧ ChangesOnly [.pwr, .clusters, .boot, .out] s u) ∧
    ((∀ e ∈ p.held, e.1 ≠ c.val) → exec (.wakeTokenTimeout c) s = .next s) ∧
    (p.held = (c.val, t) :: rest → exec (.wakeTokenTimeout c) s = .next (if t + 1000000 ≤ s.now then s.domainFault c else s))) ∧
  ∀ (c : ClusterId) (i : Fin 8) (x : Path) (mA : Nat) (drops : List Nat) (s : State), let site := c.val / 8
    let path (j : Nat) : Option Path := Tbl.get? s.pwr.paths (8 * c.val + j)
    ((s.pwr.dom c).state ≠ 3 ∨ mA < 1200 ∨ 4800 < mA → exec (.fractureInterval c mA drops) s = .next s) ∧
    ((s.pwr.dom c).state = 3 → 1200 ≤ mA → mA ≤ 4800 →
      ((∀ j y, path j = some y → 2000 * drops.getD j 0 < 3 * y.r0 * mA) → Completes (.fractureInterval c mA drops) s fun u =>
        (∀ j, j < 8 → Tbl.get? u.pwr.paths (8 * c.val + j) = (path j).map fun y => { y with marks := (false :: y.marks).take 100 }) ∧ ChangesOnly [.pwr] s u) ∧
      (path i = some x → 0 < x.r0 → (∀ j y, j ≠ i.val → path j = some y → 2000 * drops.getD j 0 < 3 * y.r0 * mA) →
        3 * x.r0 * mA ≤ 2000 * drops.getD i 0 → x.r0 * mA + 8000000 ≤ 1000 * drops.getD i 0 → (s.gaz.site site).derate = 0 →
        (((x.marks.take 99).filter (· == true)).length < 89 → Completes (.fractureInterval c mA drops) s fun u =>
          Tbl.get? u.pwr.paths (8 * c.val + i) = some { x with marks := (true :: x.marks).take 100 } ∧ ChangesOnly [.pwr] s u) ∧
        (89 ≤ ((x.marks.take 99).filter (· == true)).length → Completes (.fractureInterval c mA drops) s fun u =>
          (u.gaz.site site).derate = 2 ∧ (u.pwr.site site).fract = true ∧ (u.pwr.site site).trayflag = true ∧ u.gaz.gen = s.gaz.gen + 1 ∧
          (s.obj 0x2200 0 < s.obj 0x2201 0 + 200 → (s.gaz.site site).status = 0 → (u.gaz.site site).status = 1 ∧ (u.gaz.site site).reason = 4))))

/-- 05 R128, R130, R138: a vector row that works on registers alone starts for every COUNT from 1 to 4,096 while no operation is
suspended; VFMA and VRDOT take an even VS (06 R171). -/
def Obligations.RegisterVectorRowsNeedOnlyACount : Prop :=
  ∀ e ∈ vectorRows, e.1 ∈ laneVops → ∀ (c : ClusterId) (vd vs : Reg) (m : BitVec 3) (count : BitVec 13) (s : State),
    clusterKind c = 1 → s.VxIdle c → (s.cl c).vx.progress.getLsbD 63 = false → 1 ≤ count.toNat → count.toNat ≤ 4096 →
    (e.1 = 0x0B ∨ e.1 = 0x0C ∨ e.1 = 0x39 → vs.toNat % 2 = 0) →
      exec (e.2 c vd vs m count) s = .next (s.withVxRun c (s.vectorRun c e.1 vd vs m count))

/-- 09 R254, R266, R273, 08 R226, 15 R439: a Direct packet's payload is written at its address in its cluster's scratchpad and nowhere else,
counted for its source and acknowledged, and counted as a landing where it asks for one, once the range that its transfer asked for is granted
(08 R232); a multicast one is written in a Lockkeeper's memory as well; a Stream packet of a handle that is not current
is refused with NAK_HANDLE and counted, one beyond its window with NAK_LEN, and one inside it is written at its offset. -/
def Obligations.PacketDeliveryWritesItsPayload : Prop :=
  (∀ (site : SiteId) (n : Fin 8) (p : Packet) (s : State), let c := 8 * site.val + n.val; let k := s.cl c; let off := p.addr % 2 ^ 25
    let key := rcvdKey site p.src; let a := (Tbl.get {} s.delta.rcvd key).accept (s.dieCount site) p.len p.ackreq p.e
    p.multicast = false → p.cls ≠ 1 → p.payload.length = p.len → p.poisoned = false → p.last = false →
      (k.spd.zRun = true ∨ k.spd.waitsRemote p off = true ∨ spdSize < off + p.len → exec (.directPacketDelivery (BitVec.ofNat 9 site) n.castSucc p) s = .next s) ∧
      (k.spd.zRun = false → k.spd.waitsRemote p off = false → off + p.len ≤ spdSize → s.SpdClean c → a.2 = false →
        ∃ u, SpdWritten k.spd u off p.payload ∧ exec (.directPacketDelivery (BitVec.ofNat 9 site) n.castSucc p) s =
          .next ((s.withCl c fun k => let k1 : Cluster := { k with spd := u }; if p.land then k1.landed (s.dieCount (c / 8)) else k1).modDelta
            fun d => { d with rcvd := Tbl.set d.rcvd key a.1 })) ∧
      (k.spd.zRun = false → k.spd.waitsRemote p off = false → off + p.len ≤ spdSize → s.SpdClean c → a.2 = true →
        ∃ u, SpdWritten k.spd u off p.payload ∧ exec (.directPacketDelivery (BitVec.ofNat 9 site) n.castSucc p) s =
          .next (((s.withCl c fun k => let k1 : Cluster := { k with spd := u }; if p.land then k1.landed (s.dieCount (c / 8)) else k1).modDelta
            fun d => { d with rcvd := Tbl.set d.rcvd key a.1 }).sendAck site p.src))) ∧
  (∀ (site : SiteId) (p : Packet) (s : State),
    (p.multicast = false → exec (.directPacketDelivery (BitVec.ofNat 9 site) 8 p) s = .next s) ∧
    (p.multicast = true → p.ackreq = false → p.payload.length ≤ 4096 → ∃ m, exec (.directPacketDelivery (BitVec.ofNat 9 site) 8 p) s =
      .next (s.modDelta fun d => { d with lkMem := m }) ∧
      (∀ i, i < p.payload.length → Tbl.get 0 m (site * 2 ^ 25 + (p.addr + i) % 2 ^ 25) = p.payload.getD i 0) ∧
      ∀ x, (∀ i, i < p.payload.length → x ≠ site * 2 ^ 25 + (p.addr + i) % 2 ^ 25) → Tbl.get 0 m x = Tbl.get 0 s.delta.lkMem x)) ∧
  (∀ (k : StackId) (n : Fin 9) (p : Packet) (s : State),
    exec (.directPacketDelivery (BitVec.ofNat 9 (192 + k.val)) n p) s = .next (s.hbmRequest k p [])) ∧
  (∀ (h : Fin 2) (n : Fin 9) (p : Packet) (port fn a : Nat) (s : State), decodeAddr p.addr = .ok (.host port fn a) →
    exec (.directPacketDelivery (BitVec.ofNat 9 (0x142 + h.val)) n p) s =
      .next ((s.emit (.hostWrite port fn a p.payload (poisonedAt p.marked))).accepted (0x142 + h.val) p)) ∧
  ∀ (c : ClusterId) (p : Packet) (d o : Nat) (s : State), let ch := s.ten.chan (handleIndex p.handle)
    let key := rcvdKey (d / 8) p.src; let a := (Tbl.get {} s.delta.rcvd key).accept (s.dieCount (d / 8)) p.len p.ackreq p.e
    (s.ten.current p.handle = false → exec (.streamPacketDelivery c p) s =
      .next (((s.modTen Tenancy.countStale).sendNak (c / 8) 5 p).raise .nakHandle (c / 8) 0 0)) ∧
    (s.ten.current p.handle = true → ch.winLen < p.offset + p.len → exec (.streamPacketDelivery c p) s =
      .next ((s.sendNak (c / 8) 1 p).raise .nakLen (c / 8) 0 0)) ∧
    (s.ten.current p.handle = true → p.offset + p.len ≤ ch.winLen → decodeAddr (ch.win + p.offset) = .ok (.spd d o) →
      (s.cl d).spd.zRun = false → s.SpdClean d → p.payload.length = p.len → p.poisoned = false → a.2 = false →
        ∃ u, SpdWritten (s.cl d).spd u o p.payload ∧ exec (.streamPacketDelivery c p) s =
          .next ((s.withCl d fun k => let k1 : Cluster := { k with spd := u }; if p.land then k1.landed (s.dieCount (d / 8)) else k1).modDelta
            fun x => { x with rcvd := Tbl.set x.rcvd key a.1 }))

/-- 05 R153, R154: GATHER reads its 32-byte descriptor, returns its ticket in rd and asks for its ranges; a count of 0 returns a ticket and
gathers nothing; a descriptor beyond the scratchpad is a fault with code 2, an extent refused one with code 4. A gather of one row between
scratchpads, its ranges held, copies the row that its index names and nothing else, and ends. A thread that an SXFENCE or GWAIT holds
gathers nothing yet (R152), nor does one whose scratchpad is being zeroized (08 R242). -/
def Obligations.GatherReadsItsIndexedRows : Prop :=
  (∀ (site : SiteId) (t : ThreadId) (rd rs1 : Reg) (s : State), ¬ s.ThrGoes site t ∨ (s.cl (sxOf site)).spd.zRun = true →
    exec (.gather site t rd rs1) s = .next s) ∧
  (∀ (site : SiteId) (t : ThreadId) (rd rs1 : Reg) (s : State), s.ThrGoes site t → (s.cl (sxOf site)).spd.zRun = false → let c := sxOf site; let k := s.cl c
    let off := (s.x site t rs1).toNat; let d := decGather (Memory.readN k.spd.mem off 32); let n := k.sx.nextTicket
    (spdSize < off + 32 → exec (.gather site t rd rs1) s = .next (s.thrFault site t 2)) ∧
    (off + 32 ≤ spdSize → (k.sx.gathers.filter fun g => g.thread == t.val).length < 8 → s.SpdClean c →
      (d.count = 0 → exec (.gather site t rd rs1) s = .next (s.withCl c fun k =>
        ({ k with sx := { k.sx with nextTicket := n + 1 } }).modThread t fun h =>
          ({ h with hold := .none } : Thread).setX rd.toNat (BitVec.ofNat 64 n))) ∧
      (d.count ≠ 0 → s.gatherFail c d = some none → exec (.gather site t rd rs1) s = .next (s.thrFault site t 4)) ∧
      (d.count ≠ 0 → s.gatherFail c d = none → Completes (.gather site t rd rs1) s fun u =>
        (u.cl c).sx.gathers = k.sx.gathers ++ [{
          ticket := n, thread := t, table := BitVec.ofNat 64 d.table, dest := BitVec.ofNat 64 d.dest, rows := d.rows,
          rowBytes := d.rowBytes, idx := d.idx, wide := d.wide, count := d.count, pc := (s.thread site t).pc, par := s.ten.verCur }] ∧
        (u.cl c).sx.nextTicket = n + 1 ∧ u.thread site t = ({ s.thread site t with hold := .none } : Thread).setX rd.toNat (BitVec.ofNat 64 n) ∧
        (∀ t', t' ≠ t → u.thread site t' = s.thread site t') ∧
        (∀ e, ({ u.cl e with sx := (s.cl e).sx, spd := (s.cl e).spd } : Cluster) = s.cl e ∧
          ({ (u.cl e).spd with weirWait := (s.cl e).spd.weirWait } : Spd) = (s.cl e).spd) ∧
        ChangesOnly [.clusters] s u))) ∧
  ∀ (site : SiteId) (g : Gather) (data : List Byte) (d1 o1 d2 o2 : Nat) (s : State), let c := sxOf site; let k := s.cl c
    let w := if g.wide then 8 else 4; let ix := leNat (Memory.readN k.spd.mem g.idx w)
    k.sx.gathers.find? (fun x => x.ticket == g.ticket) = some g → g.count = 1 → ix < g.rows → s.SpdClean c → s.SpdClean d1 → s.SpdClean d2 →
    decodeAddr g.dest.toNat = .ok (.spd d2 o2) → decodeAddr (g.table.toNat + ix * g.rowBytes) = .ok (.spd d1 o1) →
    (∀ e, (s.cl e).spd.weirWait = []) → k.spd.zRun = false → (s.cl d2).spd.zRun = false → s.memHoldsAt (clSrc c) (s.clTenant c) g.table.toNat = false →
      Completes (.gatherComplete site g.ticket data) s fun u =>
        (∀ x, Memory.read (u.cl d2).spd.mem x = if o2 ≤ x ∧ x < o2 + g.rowBytes
          then Memory.read (s.cl d1).spd.mem (o1 + (x - o2)) else Memory.read (s.cl d2).spd.mem x) ∧
        (∀ e, e ≠ d2 → (u.cl e).spd.mem = (s.cl e).spd.mem) ∧
        (u.cl c).sx.gathers = k.sx.gathers.filter (fun x => x.ticket != g.ticket) ∧
        (∀ e, (u.cl e).sq = (s.cl e).sq ∧ (u.cl e).mx = (s.cl e).mx ∧ (u.cl e).vx = (s.cl e).vx ∧ (u.cl e).chn = (s.cl e).chn ∧
          (u.cl e).sx.thr = (s.cl e).sx.thr) ∧ ChangesOnly [.clusters] s u

/-- 12 R348, R355 to R358, 08 R231, 09 R280: a frame with a bad check is counted and dropped; one in sequence for this panel is taken: a
Direct frame waits for its range where its plot names a scratchpad, and is written elsewhere once its place takes it; granted, it is written
and counted for its source, and its range released; one that finds every REQID of its engine taken, or another before it, stays in the engine's
buffers, its credits held until it leaves them (R351); a READ is answered by a response frame
with the bytes read, an end-to-end ACK moves the count of its pair forward and never back; a frame that no plot covers is refused with
NAK_PLOT. A peer-bound packet at its egress engine is framed and counted, or, its panel unreachable, answered with NAK_ROUTE. -/
def Obligations.LarreFramesReachTheirPlaces : Prop :=
  (∀ (n : EngineId) (p : Fin 4) (f : Frame) (data : List Byte) (d1 : LPort) (w : PAddr) (e : Nat) (s : State),
    let bad : State := s.modLport n p fun d => d.bump 0 1
    let takes := s.withLport n p d1; let buffered := takes.modLarre fun l => { l with buffered := l.buffered ++ [(n.val, p.val, f)] }
    (s.responseHeld f = true → ∀ good, exec (.larreDirect n p f good) s = .next s) ∧
    (s.responseHeld f = false → exec (.larreDirect n p f false) s = .next bad) ∧ exec (.larreRead n p f false data) s = .next bad ∧ exec (.larreE2eAck n p f false) s = .next bad ∧
    (s.LarreTakes n p f d1 → f.dpanel.toNat = s.identity →
      (f.mode = 0 → f.cls ≠ 1 →
        ((s.larre.buffered.any fun x => x.1 == n.val) = true → exec (.larreDirect n p f true) s = .next buffered) ∧
        ((s.larre.buffered.any fun x => x.1 == n.val) = false →
          (∀ c o, s.framePlace f.tenant f.addr f.len true = .ok (.spd c o) → 0 < f.len →
            (s.larre.freeReq n = none → exec (.larreDirect n p f true) s = .next buffered) ∧
            ∀ r, s.larre.freeReq n = some r → exec (.larreDirect n p f true) s =
              .next ((takes.modLarre fun l => { l with waiting := l.waiting ++ [(n.val, p.val, r, f)] }).sendCtl
                (engineSite n) (weirReqPacket (c % 8 * 512 + c / 8) (0x100 + n) false r f.len o))) ∧
          (∀ k o, s.framePlace f.tenant f.addr f.len true = .ok (.hbm k o) → exec (.larreDirect n p f true) s =
            .next (if s.memHolds (0x100 + n) f.tenant (.hbm k o) then buffered else (takes.writeFrame n p f (.hbm k o)).leaves n p f)) ∧
          (s.framePlace f.tenant f.addr f.len true = .error e → e ≠ 4 → exec (.larreDirect n p f true) s =
            .next ((((takes.modLport n p fun d => d.bump 6 1).emit (.peerNak f.spanel.toNat f.sunit.toNat 4 f.dirTag)).raise
              .nakPlot (0x100 + n) p 0).leaves n p f))) ∧
        exec (.larreRead n p f true data) s = .next s ∧ exec (.larreE2eAck n p f true) s = .next s) ∧
      (f.mode = 1 → s.framePlace f.tenant f.addr f.readLen false = .ok w → s.memHolds (0x100 + n) f.tenant w = true → exec (.larreRead n p f true data) s = .next s) ∧
      (f.mode = 1 → s.framePlace f.tenant f.addr f.readLen false = .ok w → s.memHolds (0x100 + n) f.tenant w = false → exec (.larreRead n p f true data) s =
        .next ((readAnswer n p f (takes.readAt (0x100 + n) f.tenant false data f.readLen w)).leaves n p f)) ∧
      (f.mode = 3 → let src := f.dunit.toNat % 4096; let k := e2eKey src f.spanel.toNat; let v := bits f.body 31 0
        let ahead := (v + 2 ^ 32 - Tbl.get 0 s.larre.e2eAcked k) % 2 ^ 32
        (2 ^ 31 ≤ ahead → exec (.larreE2eAck n p f true) s = .next (takes.leaves n p f)) ∧
        (ahead < 2 ^ 31 → src < 192 ∨ 240 ≤ src → s.larre.egress = [] → exec (.larreE2eAck n p f true) s =
          .next ((takes.leaves n p f).modLarre fun l => { l with e2eAcked := Tbl.set l.e2eAcked k v }))))) ∧
  (∀ (n : EngineId) (p : Fin 4) (r : BitVec 5) (f : Frame) (c : ClusterId) (o : Nat) (entry : BitVec 4) (s : State),
    s.larre.waiting = [(n.val, p.val, r.toNat, f)] → s.larre.buffered = [] → s.framePlace f.tenant f.addr f.len true = .ok (.spd c o) → s.SpdClean c → 0 < f.len →
      f.payload.length = f.len → f.poisoned = false →
        let key := f.spanel.toNat * 4096 + f.sunit.toNat % 4096
        let a := (Tbl.get {} s.larre.rcvd key).accept (s.dieCount (0x100 + n)) f.len f.last false
        a.2 = false → ∃ x, SpdWritten (s.cl c).spd x o f.payload ∧ exec (.weirGrant (BitVec.ofNat 12 (0x100 + n)) c r entry) s =
          .next (((s.modLarre fun l => { l with waiting := [], rcvd := Tbl.set l.rcvd key a.1 }).withCl c fun k => { k with spd :=
            { x with weir := x.weir.filter fun w => w.2.xfer != remoteXfer + (0x100 + n) * 32 + r.toNat } }).leaves n p f)) ∧
  ∀ (n : EngineId) (p : Packet) (m q : Nat) (s : State), let panel := (p.addr >>> 44) % 65536; let port := p.destCluster % 4
    let l := s.larreDue.larre
    (s.larre.armed = false ∨ s.mcount < s.larre.tsw.toNat → s.larreDue = s) ∧
    (p.mode = 1 → l.route l.cur panel = none → exec (.larreFraming n p) s =
      .next (((s.larreDue.modLport n port fun d => d.bump 5 1).sendNak (engineSite n) 2 p).raise .nakRoute (0x100 + n) 0 0)) ∧
    (p.mode = 1 → p.cls = 0 → l.route l.cur panel = some (m, q) → Completes (.larreFraming n p) s fun u =>
      let k := e2eKey p.src panel; let sum := (Tbl.get 0 s.larre.e2eSent k + p.len) % 2 ^ 32
      Tbl.get 0 u.larre.e2eSent k = sum ∧
      Tbl.get [] u.larre.egress (n * 4096 + p.src) = Tbl.get [] s.larre.egress (n * 4096 + p.src) ++ [⟨panel, sum, p.len⟩] ∧
      ChangesOnly [.larre, .out] s u) ∧
    (p.mode = 2 → p.op = 6 → l.route l.cur panel = some (m, q) → Completes (.larreFraming n p) s fun u =>
      u.larre.reads = s.larre.reads ++ [(p.src, readTag p, bits p.head 55 42, n.val)] ∧ ChangesOnly [.larre, .out] s u) ∧
    (p.mode ≠ 1 → ¬ (p.mode = 2 ∧ p.op = 6) → exec (.larreFraming n p) s = .next s)

/-- 15 R430 to R433, R436, 06 R193: a write of the partition table by the other port, of another length, or that breaks a rule of R430,
changes nothing; one that is taken gives every partition its new entry, and every cluster that changes tenant its steps: it waits for its
zeroization, is halted and drained first, or is released. A plot is created, destroyed or refused by R433, one version at a time. A chart
is refused for each of its reasons, or its sections are written, its load number given and its clusters started. -/
def Obligations.PartitionsPlotsAndCharts : Prop :=
  (∀ (port : Fin 2) (data : List Byte) (s : State),
    let new := newParts data
    (s.hosts.primary ≠ port.val ∨ data.length ≠ 102400 → exec (.partitionWrite port data) s = .next s) ∧
    ((∃ c m n p q, (m, p) ∈ new ∧ (n, q) ∈ new ∧ m ≠ n ∧ c ∈ p.set ∧ c ∈ q.set) ∨ (∃ e ∈ new, ∃ c ∈ e.2.set, s.gaz.clusterIn c = false) ∨
      (∃ e ∈ new, ∃ a ∈ e.2.allot, 0 < a.2.2 ∧ hbmDataSize < (a.2.1 + a.2.2) * 2 ^ 20) ∨
      (∃ n r p c, Tbl.get? s.ten.running n = some r ∧ (n, p) ∈ s.ten.parts ∧ p.state ≠ 0 ∧ c ∈ p.set ∧ Tbl.get? new n = none) →
      exec (.partitionWrite port data) s = .next s) ∧
    (s.hosts.primary = port.val → data.length = 102400 → s.partBad new = false →
      Completes (.partitionWrite port data) s fun u =>
        (∀ e ∈ new, ∃ st, (st = 1 ∨ st = 2) ∧ (e.1, { e.2 with state := st }) ∈ u.ten.parts) ∧ u.ten.parts.length = new.length ∧
        (∀ c, c < 1536 → match holder s.ten.parts c, holder new c with
          | none, none => u.cl c = s.cl c
          | none, some (n, _) => (u.cl c).spd = { (s.cl c).spd with zNeeded := true } ∧ u.Enters c n 4 s.mcount
          | some _, none => u.cl c = (s.cl c).halt ∧ ((u.delta.router (c / 8)).port (4 + c % 8)).en = false ∧ Tbl.get? u.ten.entering c = none
          | some (m, p), some (n, q) =>
            (p.tenant ≠ q.tenant → u.cl c = (s.cl c).halt ∧ u.Enters c n 2 s.mcount) ∧
            (p.tenant = q.tenant → u.cl c = s.cl c ∧ (m ≠ n → Tbl.get? s.ten.entering c = none → u.Enters c n 5 s.mcount ∧
              ((u.delta.router (c / 8)).port (4 + c % 8)).tenant = q.tenant))) ∧
        ChangesOnly [.ten, .clusters, .delta, .ctg] s u)) ∧
  (∀ (c : ClusterId) (e : TChange) (s : State),
    (Tbl.get? s.ten.entering c.val = none → exec (.tenantDrainDone c) s = .next s ∧ exec (.tenantDrainLimit c) s = .next s) ∧
    (Tbl.get? s.ten.entering c.val = some e →
      let held := (s.cl c).sq.moves ≠ [] ∨ (s.cl c).sx.gathers ≠ [] ∨ (s.cl c).spd.weir ≠ []
      let gone (u : State) : Prop := u.Enters c e.part 4 e.since ∧ (u.cl c).spd.zNeeded = true ∧ (u.cl c).sq.moves = [] ∧ (u.cl c).spd.weir = [] ∧
        (u.cl c).sx.gathers = [] ∧ (∀ t h, (t, h) ∈ (u.cl c).sx.thr → h.run = false) ∧ OtherClusters c s u ∧ ChangesOnly [.clusters, .ten] s u
      (e.step ≠ 2 ∨ held → exec (.tenantDrainDone c) s = .next s) ∧ (e.step = 2 → ¬ held → Completes (.tenantDrainDone c) s gone) ∧
      (e.step ≠ 2 ∨ s.mcount < e.since + 10000000 → exec (.tenantDrainLimit c) s = .next s) ∧
      (e.step = 2 → e.since + 10000000 ≤ s.mcount → Completes (.tenantDrainLimit c) s gone))) ∧
  (∀ (port : Fin 2) (fn : Fin 513) (num : Half) (bs : List Byte) (o : Plot) (s : State),
    let x := plotOfBytes bs; let n := num.toNat
    (s.atZero = true ∨ bs.length ≠ 32 ∨ (8192 ≤ n ∧ n ≠ 0xFFFF) ∨ (x.length ≠ 0 ∧ s.bound port fn x.tenant = false) ∨ (x.length ≠ 0 ∧ 64 ≤ x.slot) ∨ 2 ^ 44 < x.length ∨
      (n < 8192 ∧ x.length ≠ 0 ∧ ∃ e ∈ s.ten.plots, e.1 ≠ n ∧ e.2.valid = true ∧ e.2.tenant = x.tenant ∧ e.2.slot = x.slot) →
      exec (.plotChange port fn num bs) s = .next s) ∧
    (s.atZero = false → bs.length = 32 → n < 8192 → x.length ≠ 0 → Tbl.get? s.ten.plots n = none → s.bound port fn x.tenant = true → s.plotOk n x = true →
      (s.ten.draining = none → exec (.plotChange port fn num bs) s = .next (s.modTen fun t => { t with
        plots := Tbl.set t.plots n x, verCur := !t.verCur })) ∧
      (s.ten.draining.isSome → exec (.plotChange port fn num bs) s = .next (s.modTen fun t => { t with
        waitingPlots := t.waitingPlots ++ [⟨n, some x, false⟩] }))) ∧
    (s.atZero = false → bs.length = 32 → n < 8192 → x.length = 0 → Tbl.get? s.ten.plots n = some o → s.bound port fn o.tenant = true →
      (s.plotInUse o = true → exec (.plotChange port fn num bs) s = .next s) ∧
      (s.plotInUse o = false → s.ten.draining = none → exec (.plotChange port fn num bs) s = .next (s.modTen fun t => { t with
        plots := Tbl.erase t.plots n, verCur := !t.verCur, draining := some ⟨n, none, true⟩ }))) ∧
    (s.oldTransfers ≠ 0 ∨ s.ten.draining = none → exec .plotVersionDrained s =
      .next (s.modTen fun t => { t with oldTick := tickOf s.mcount, oldCount := s.oldTransfers })) ∧
    (s.oldTransfers = 0 → s.ten.draining.isSome → s.ten.waitingPlots = [] → exec .plotVersionDrained s =
      .next (s.modTen fun t => { t with oldTick := tickOf s.mcount, oldCount := 0, draining := none }))) ∧
  ∀ (p : Fin 256) (bs : List Byte) (syms : List Word) (start : Option Word) (s : State),
    let q := s.ten.part p
    (s.atZero = true → exec (.chartLoad p bs syms start) s = .next (s.emit (.loaded p .notReady 0 0))) ∧ (s.atZero = false →
    (chartOk bs = false → exec (.chartLoad p bs syms start) s = .next (s.emit (.loaded p .chartInvalid 0 0))) ∧
    (chartOk bs = true → le bs 8 8 ≠ s.gaz.eui.toNat ∨ le bs 0x14 1 ≠ s.gaz.grade →
      exec (.chartLoad p bs syms start) s = .next (s.emit (.loaded p .chartPanel 0 0))) ∧
    (chartOk bs = true → le bs 8 8 = s.gaz.eui.toNat → le bs 0x14 1 = s.gaz.grade → s.obj 0x2201 0 < le bs 0x16 2 →
      exec (.chartLoad p bs syms start) s = .next (s.emit (.loaded p .chartFloor 0 0))) ∧
    (chartOk bs = true → le bs 8 8 = s.gaz.eui.toNat → le bs 0x14 1 = s.gaz.grade → le bs 0x16 2 ≤ s.obj 0x2201 0 → le bs 0x10 4 ≠ s.gaz.gen →
      (∃ x ∈ chartSites bs, s.gaz.heir x 193 = none) → Completes (.chartLoad p bs syms start) s fun u =>
        Msg.loaded p .relocSlack 2 0 ∈ u.out ∧ ChangesOnly [.out, .log, .cnf] s u) ∧
    (s.ChartFits bs → q.state = 0 → exec (.chartLoad p bs syms start) s = .next (s.emit (.loaded p .partitionNone 0 0))) ∧
    (s.ChartFits bs → q.state ≠ 0 → s.symsOk q.tenant syms bs = false → exec (.chartLoad p bs syms start) s = .next (s.emit (.loaded p .lengthBound 0 0))) ∧
    ∀ x, s.ChartFits bs → q.state ≠ 0 → chartSects bs = [x] → chartRels bs = [] → x.kind = 1 → 1 ≤ x.size →
      (x.cluster ∉ q.set ∨ spdSize < x.addr + x.size → exec (.chartLoad p bs syms start) s = .next (s.emit (.loaded p .lengthBound 0 0))) ∧
      (x.cluster ∈ q.set → x.addr + x.size ≤ spdSize →
        (s.sectWaits q.tenant (spdAddr x.cluster x.addr, (bs.drop x.off).take x.size) = true → exec (.chartLoad p bs syms start) s = .next s) ∧
        (s.sectWaits q.tenant (spdAddr x.cluster x.addr, (bs.drop x.off).take x.size) = false → s.SpdClean x.cluster →
          Completes (.chartLoad p bs syms start) s fun u => let k := s.cl x.cluster; let k' := u.cl x.cluster
            SpdWritten k.spd k'.spd x.addr ((bs.drop x.off).take x.size) ∧ OtherClusters x.cluster s u ∧
            u.ten = { s.ten with charts := Tbl.set s.ten.charts s.ten.nextLoad ⟨p, [(x.cluster, x.addr)]⟩, nextLoad := s.ten.nextLoad + 1 } ∧
            u.out = .loaded p .ok 0 s.ten.nextLoad :: s.out ∧ ChangesOnly [.clusters, .ten, .out] s u ∧
            k'.sq = match start with
              | some e => if k.sq.run then { k.sq with ebase := e } else { k.sq with pc := x.addr, ebase := e }.start
              | none => k.sq)))

/-- 15 R437 to R450, R454: a channel is created on the free index whose destroy is oldest, its result written to the host, or refused with
each reason; a destroy raises the generation. A doorbell of a handle that is not current is counted and does nothing; another one has the
entries fetched, or holds the channel where it runs too far ahead. A RUN starts its chart or waits, and completes with the worst status
a DMA is checked whole and copies; FENCE and SIGNAL wait for the entries before them; completions are written. Pre-emption happens at a
yield point, and a resumed RUN is rebased. A HALT holds the channels of its partition until they are released. -/
def Obligations.ChannelsRunTheirEntries : Prop :=
  (∀ (port : Fin 2) (fn : Fin 513) (bs : List Byte) (handle : Word32) (i : Nat) (s : State),
    let q := createOfBytes bs
    let told (h : Nat) (st : FCode) (s : State) : State := s.emit (.hostWrite port fn (q.result % 2 ^ 49)
      (leBytes 4 q.cookie.toNat ++ leBytes 4 h ++ leBytes 2 st.num ++ leBytes 6 0))
    let h := handle.toNat
    (s.schedUp = false → exec (.channelCreate port fn bs) s = .next s ∧ exec (.channelDestroy port fn handle) s = .next s) ∧
    (bs.length ≠ 64 ∨ s.boot.level ≠ some 2 ∨ q.ok bs = false → exec (.channelCreate port fn bs) s = .next s) ∧
    (s.schedUp = true → bs.length = 64 → s.boot.level = some 2 → q.ok bs = true →
      (s.bound port fn q.tenant = false → exec (.channelCreate port fn bs) s = .next (told 0 .tenantDenied s)) ∧
      (s.bound port fn q.tenant = true → q.part ≠ 0xFFFF →
        ((∀ e ∈ s.ten.parts, e.1 = q.part → e.2.state = 0 ∨ e.2.tenant ≠ q.tenant) →
          exec (.channelCreate port fn bs) s = .next (told 0 .partitionNone s)) ∧
        ((∃ e ∈ s.ten.parts, e.1 = q.part ∧ e.2.state ≠ 0 ∧ e.2.tenant = q.tenant) →
          (s.createBounds q = false → exec (.channelCreate port fn bs) s = .next (told 0 .lengthBound s)) ∧
          (s.createBounds q = true → (∀ j, j < 4096 → (s.ten.chan j).state ≠ 0) → exec (.channelCreate port fn bs) s = .next (told 0 .channelFull s)) ∧
          (s.createBounds q = true → i < 4096 → (s.ten.chan i).state = 0 → (∀ j, j < 4096 → j ≠ i → (s.ten.chan j).state = 0 →
              (s.ten.chan i).lastDestroy < (s.ten.chan j).lastDestroy ∨ ((s.ten.chan i).lastDestroy = (s.ten.chan j).lastDestroy ∧ i < j)) →
            let old := s.ten.chan i
            exec (.channelCreate port fn bs) s = .next (told (mkHandle old.gen q.tenant i) .ok (s.modTen fun t => { t with chans := Tbl.set t.chans i {
              state := 1, gen := old.gen, lastDestroy := old.lastDestroy, tenant := q.tenant, part := q.part, prio := q.prio, sqLog := q.sqLog,
              cqLog := q.cqLog, saveSlot := q.slot, slice := q.slice, cookie := q.cookie, sq := q.sq, cq := q.cq, win := q.win,
              winLen := if q.win = 0 then 0 else q.winLen, port := port, fn := fn } })))))) ∧
    (s.schedUp = true →
      (s.ten.current h = false → exec (.channelDestroy port fn handle) s = .next (s.modTen Tenancy.countStale)) ∧
      (s.ten.current h = true → s.bound port fn (handleTenant h) = false → exec (.channelDestroy port fn handle) s = .next s) ∧
      (s.ten.current h = true → s.bound port fn (handleTenant h) = true → Completes (.channelDestroy port fn handle) s fun u =>
        u.ten.chan (handleIndex h) = { gen := nextGen (s.ten.chan (handleIndex h)).gen, lastDestroy := s.ten.destroys + 1 } ∧
        (∀ j, j ≠ handleIndex h → u.ten.chan j = s.ten.chan j) ∧ u.ten.current h = false)) ∧
    exec .chnStaleRead s = .next (s.modTen fun t => { t with stale := 0 })) ∧
  (∀ (port : Fin 2) (fn : Fin 513) (page : Fin 4096) (handle prod : Word32) (data : List Byte) (s : State),
    let c := s.ten.chan page; let n := (prod.toNat + 2 ^ 32 - c.fetched) % 2 ^ 32
    let good := handleIndex handle.toNat = page.val ∧ s.ten.current handle.toNat = true ∧
      s.bound port fn (handleTenant handle.toNat) = true
    (s.fw.accepted 1 = false ∨ (s.hosts.port port).linkUp = false ∨ s.hosts.enabled port fn = false ∨ s.portServes port = false →
      exec (.doorbell port fn page handle prod data) s = .next s) ∧
    (s.Rings port fn → ¬ good → exec (.doorbell port fn page handle prod data) s = .next (s.modTen Tenancy.countStale)) ∧
    (s.Rings port fn → good → c.state ≠ 1 ∨ s.schedUp = false ∨ n = 0 ∨ s.memHoldsAt 0x140 c.tenant c.sq = true →
      exec (.doorbell port fn page handle prod data) s = .next (s.withChan page fun c => { c with prod := prod.toNat })) ∧
    (s.Rings port fn → good → c.state = 1 → s.schedUp = true → s.memHoldsAt 0x140 c.tenant c.sq = false → 2 ^ c.sqLog < n → Completes (.doorbell port fn page handle prod data) s fun u =>
      u.ten.chan page = { c with prod := prod.toNat, state := 3, overrun := true } ∧ ChangesOnly [.ten, .log] s u) ∧
    ∀ p f a b, s.Rings port fn → good → c.state = 1 → s.schedUp = true → s.memHoldsAt 0x140 c.tenant c.sq = false → n = 1 → c.entries = [] → s.pathUp (.host p f a) = true →
      decodeAddr (c.sq + 64 * (c.fetched % 2 ^ c.sqLog)) = .ok (.host p f a) → decodeAddr (c.sq - 8) = .ok (.host p f b) →
      let e := subOfBytes c.fetched (c.fetched % 2 ^ c.sqLog) (data.take 64)
      1 ≤ e.kind → e.kind ≤ 4 → exec (.doorbell port fn page handle prod data) s = .next ((s.withChan page fun c => { c with
        prod := prod.toNat, entries := [e], fetched := (c.fetched + 1) % 2 ^ 32 }).emits [.hostRead p f a 64, .hostWrite p f b (leBytes 8 ((c.fetched + 1) % 2 ^ 32))])) ∧
  (∀ (i : Fin 4096) (e : SubEntry) (s : State), let c := s.ten.chan i
    (s.NoEntry i 1 → exec (.run i) s = .next s) ∧ (s.NoEntry i 2 → exec (.dmaEntry i) s = .next s) ∧
    (s.NoEntry i 3 → exec (.fenceEntry i) s = .next s) ∧ (s.NoEntry i 4 → exec (.signalEntry i) s = .next s) ∧
    (s.nextEntry i 3 = some e → s.earlierDone i e = false → exec (.fenceEntry i) s = .next s) ∧
    (s.nextEntry i 4 = some e → s.earlierDone i e = false → exec (.signalEntry i) s = .next s) ∧
    (s.OneEntry i e 3 → e.flag = false → exec (.fenceEntry i) s = .next (s.entryDone i)) ∧
    (∀ p f a b, s.OneEntry i e 3 → e.flag = true → decodeAddr (c.cq + 16 * (c.completed % 2 ^ c.cqLog)) = .ok (.host p f a) →
      decodeAddr (c.cq - 8) = .ok (.host p f b) → s.pathUp (.host p f a) = true → (s.hosts.port c.port).linkUp = true →
      exec (.fenceEntry i) s = .next (((s.entryDone i).withChan i fun c => { c with completed := c.completed + 1 }).emits [
        .hostWrite p f a (leBytes 4 e.tag ++ leBytes 2 0 ++ leBytes 2 e.idx ++ leBytes 8 s.mcount), .hostWrite p f b (leBytes 8 (c.completed + 1)),
        .msix c.port c.fn (completionVector c.fn i)])) ∧
    (∀ p f a, s.OneEntry i e 4 → e.flag = false → s.hostExtent c.tenant true e.a.toNat 8 = .ok (.host p f a) →
      exec (.signalEntry i) s = .next ((s.entryDone i).emit (.hostWrite p f a (leBytes 8 e.b.toNat)))) ∧
    (∀ st, s.OneEntry i e 4 → e.flag = false → s.hostExtent c.tenant true e.a.toNat 8 = .error st → s.cnf.record = none →
      exec (.signalEntry i) s = .next (s.entryDone i)) ∧
    (s.OneEntry i e 2 → e.flag = false → s.cnf.record = none →
      (e.c = 0 → exec (.dmaEntry i) s = .next (s.entryDone i)) ∧
      (e.c ≠ 0 → (∃ st, s.hostExtent c.tenant false e.a.toNat e.c.toNat = .error st) ∨ (∃ st, s.hostExtent c.tenant true e.b.toNat e.c.toNat = .error st) →
        exec (.dmaEntry i) s = .next (s.entryDone i)) ∧
      (∀ p f a q g b, e.c ≠ 0 → s.hostExtent c.tenant false e.a.toNat e.c.toNat = .ok (.host p f a) →
        s.hostExtent c.tenant true e.b.toNat e.c.toNat = .ok (.host q g b) →
        exec (.dmaEntry i) s = .next (s.withChan i fun c => { c with entries := [{ e with started := true, par := s.ten.verCur }] }))) ∧
    (s.OneEntry i e 1 → e.flag = false → let load := e.b.toNat % 2 ^ 32; let P := c.part
      ((∀ ch, Tbl.get? s.ten.charts load = some ch → ch.part ≠ P) → exec (.run i) s = .next (s.entryDone i)) ∧
      (∀ ch r, Tbl.get? s.ten.charts load = some ch → ch.part = P → Tbl.get? s.ten.running P = some r → c.prio ≤ (s.ten.chan r.chan).prio → r.chan ≠ i →
        exec (.run i) s = .next ((s.withChan i fun c => { c with entries := [{ e with started := true }] }).modTen fun t => { t with
          waitingRuns := Tbl.set t.waitingRuns P (Tbl.get [] t.waitingRuns P ++ [{ chan := i, seq := e.seq, load := load, since := s.mcount, start := some e.a }]) })) ∧
      (∀ x pc, Tbl.get? s.ten.charts load = some ⟨P, [(x, pc)]⟩ → Tbl.get? s.ten.running P = none → Tbl.get [] s.ten.waitingRuns P = [] →
        (s.cl x).sq.run = false → Completes (.run i) s fun u =>
          u.cl x = { s.cl x with
            sq := { (s.cl x).sq with pc := pc, ebase := if e.a = 0 then BitVec.ofNat 64 (cdiv (s.mcount + 200000) 100000 * 100000) else e.a }.start
            chn := { (s.cl x).chn with cur := mkHandle c.gen c.tenant i, ytp := 0, ystat := 0 } } ∧
          Tbl.get? u.ten.running P = some { chan := i, seq := e.seq, load := load, since := s.mcount } ∧ OtherClusters x s u ∧
          ChangesOnly [.clusters, .ten] s u))) ∧
  (∀ (i : Fin 4096) (seq : Nat) (data : List Byte) (poison : Bool) (e : SubEntry) (p f a k o : Nat) (s : State), let c := s.ten.chan i
    (c.entries.all (fun e => e.seq != seq) = true → exec (.hostDmaComplete i seq data poison) s = .next s) ∧
    (c.entries = [e] → e.seq = seq → e.kind ≠ 2 ∨ e.started = false ∨ e.done.isSome → exec (.hostDmaComplete i seq data poison) s = .next s) ∧
    (c.entries = [e] → e.seq = seq → e.kind = 2 → e.started = true → e.done = none → e.flag = false → c.state = 1 → s.memHoldsAt 0x140 c.tenant c.cq = false →
      decodeAddr e.a.toNat = .ok (.host p f a) → decodeAddr e.b.toNat = .ok (.spd k o) →
      ((s.cl k).spd.waits 0 (dmaXfer i seq) = true ∨ (s.cl k).spd.zRun = true → exec (.hostDmaComplete i seq data poison) s = .next s) ∧
      ((s.cl k).spd.waits 0 (dmaXfer i seq) = false → (s.cl k).spd.zRun = false → data.length = e.c.toNat → o + e.c.toNat ≤ spdSize → s.SpdClean k →
        Completes (.hostDmaComplete i seq data false) s fun u => (u.ten.chan i).entries = [] ∧ OtherClusters k s u ∧ (u.cl k).spd.holds 0 (dmaXfer i seq) = false ∧
          (∀ x, Memory.read (u.cl k).spd.mem x = if o ≤ x ∧ x < o + e.c.toNat then data.getD (x - o) 0 else Memory.read (s.cl k).spd.mem x) ∧
          ChangesOnly [.clusters, .ten] s u))) ∧
  (∀ (p : Fin 256) (r : Running) (e : SubEntry) (xs : List (ClusterId × Nat × Nat)) (start : Word) (s : State),
    let cs := (Tbl.get ⟨p, []⟩ s.ten.charts r.load).clusters.map (·.1); let c := s.ten.chan r.chan
    (Tbl.get? s.ten.running p = none → exec (.runComplete p) s = .next s ∧ exec (.timeSliceExpiry p) s = .next s ∧ exec (.chartYielded p xs) s = .next s) ∧
    (Tbl.get? s.ten.running p = some r →
      ((∃ k ∈ cs, (s.cl k).sq.run = true) → exec (.runComplete p) s = .next s ∧ exec (.chartYielded p xs) s = .next s) ∧
      ((∀ k ∈ cs, (s.cl k).sq.run = false ∧ (s.cl k).chn.ystat.testBit 31 = false) → c.entries = [e] → e.seq = r.seq → e.done = none → e.flag = false →
        Tbl.get [] s.ten.waitingRuns p = [] → s.memHoldsAt 0x140 c.tenant c.cq = false →
        exec (.runComplete p) s = .next ((s.modTen fun t => { t with running := Tbl.erase t.running p }).entryDone r.chan)) ∧
      (s.mcount < r.since + c.slice * 100000 ∨ (∀ w ∈ Tbl.get [] s.ten.waitingRuns p, (s.ten.chan w.chan).prio ≠ c.prio) ∨ c.saveSlot = 0xFF →
        exec (.timeSliceExpiry p) s = .next s) ∧
      (r.since + c.slice * 100000 ≤ s.mcount → (∃ w ∈ Tbl.get [] s.ten.waitingRuns p, (s.ten.chan w.chan).prio = c.prio ∧ w.chan ≠ r.chan) →
        c.saveSlot ≠ 0xFF → r.preempt = false → Completes (.timeSliceExpiry p) s fun u => ∃ v : Nat,
          (∀ k ∈ cs, (u.cl k).chn.ytp = BitVec.ofNat 64 (s.mcount + v)) ∧ (∀ k, k ∉ cs → u.cl k = s.cl k) ∧
          Tbl.get? u.ten.running p = some { r with preempt := true } ∧ ChangesOnly [.clusters, .ten, .freeCtr] s u) ∧
      (cs ≠ [] → (∀ k ∈ cs, (s.cl k).yielded = true) → s.ten.plots = [] → Tbl.get [] s.ten.waitingRuns p = [] → Completes (.chartYielded p xs) s fun u =>
        Tbl.get? u.ten.running p = none ∧ Tbl.get [] u.ten.waitingRuns p = [{ r with
          preempt := false, saved := some (cs.map fun k => ((s.cl k).saved k ((xs.filter fun x => x.1.val == k).map (·.2))).1) }] ∧
        (∀ k ∈ cs, (u.cl k).chn.ytp = 0) ∧ ((∀ k ∈ cs, s.SpdClean k) → ChangesOnly [.clusters, .ten] s u))) ∧
    (∀ (w : Running) (x : SavedCluster), Tbl.get? s.ten.running p = none → Tbl.get [] s.ten.waitingRuns p = [w] → (s.ten.chan w.chan).state = 1 → w.saved = some [x] →
      (start.toNat < s.mcount + 200000 → exec (.yieldResume p start) s = .next s) ∧
      (s.mcount + 200000 ≤ start.toNat → x.bytes = [] → Completes (.yieldResume p start) s fun u => let q := (u.cl x.cluster).sq
        q.g = x.g ∧ q.land = x.land ∧ q.pc = x.pc ∧ q.ebase = x.ebase + start - x.ydl ∧ q.startAt = start.toNat ∧ (u.cl x.cluster).mx.tdesc = x.t ∧
        OtherClusters x.cluster s u ∧ Tbl.get? u.ten.running p = some { w with saved := none, since := s.mcount, preempt := false } ∧
        Tbl.get [] u.ten.waitingRuns p = [] ∧ ChangesOnly [.clusters, .ten] s u))) ∧
  ∀ (port : Fin 2) (fn : Fin 513) (P : Half) (p : Fin 256) (w : Word) (data : List (Fin 4096 × List Byte)) (r : HaltReq) (s : State), let q := s.ten.part p; let n := Tbl.get 0 s.delta.mackSum q.haltGroup
    (s.hosts.primary ≠ port.val → exec (.partitionHalt port P) s = .next s ∧ exec (.haltDoorbell port fn w) s = .next s ∧ exec (.haltRelease port P data) s = .next s) ∧
    (256 ≤ P.toNat → exec (.partitionHalt port P) s = .next s) ∧ (fn ≠ 0 ∨ (s.hosts.port port).linkUp = false → exec (.haltDoorbell port fn w) s = .next s) ∧
    (s.hosts.primary = port.val → P.toNat = p.val → (w.setWidth 8).toNat = p.val → s.hosts.pend = none → (s.hosts.port port).linkUp = true →
      let tag := w.toNat / 2 ^ 32
      let held (u : State) : Prop := (q.haltGroup ∈ u.delta.mcPend ∨ u.mcWaits q.haltGroup = true) ∧ Tbl.get? u.ten.running p = none ∧
        (∀ e ∈ u.ten.chans, e.2.part = p.val → e.2.state ≠ 1)
      (q.state = 0 → exec (.partitionHalt port P) s = .next (s.emit (.msix port 0 0))) ∧
      (q.state ≠ 0 → Tbl.get [] s.ten.halts p ≠ [] →
        exec (.partitionHalt port P) s = .next (s.modTen fun t => { t with halts := Tbl.set t.halts p (Tbl.get [] t.halts p ++ [⟨none, 0, q.set.length⟩]) }) ∧
        exec (.haltDoorbell port 0 w) s = .next (s.modTen fun t => { t with halts := Tbl.set t.halts p (Tbl.get [] t.halts p ++ [⟨some port, tag, q.set.length⟩]) })) ∧
      (q.state ≠ 0 → Tbl.get [] s.ten.halts p = [] →
        (Completes (.partitionHalt port P) s fun u => held u ∧ Tbl.get [] u.ten.halts p = [⟨none, 0, q.set.length⟩]) ∧
        (Completes (.haltDoorbell port 0 w) s fun u => held u ∧ Tbl.get [] u.ten.halts p = [⟨some port, tag, q.set.length⟩])) ∧
      ((∀ e ∈ s.ten.chans, e.2.prod = e.2.fetched) → Tbl.get [] s.ten.waitingRuns p = [] → Completes (.haltRelease port P data) s fun u =>
        (∀ i, (s.ten.chan i).state = 3 → (s.ten.chan i).part = p.val → (s.ten.chan i).overrun = false → u.ten.chan i = { s.ten.chan i with state := 1 }) ∧
        (∀ i, (s.ten.chan i).part ≠ p.val ∨ (s.ten.chan i).overrun = true → (∀ e ∈ s.ten.chans, e.1 = i → e.2 = s.ten.chan i) → u.ten.chan i = s.ten.chan i) ∧
        ChangesOnly [.ten] s u)) ∧
    (Tbl.get [] s.ten.halts p = [] ∨ q.haltGroup ∈ s.delta.mcPend ∨ s.mcWaits q.haltGroup = true → exec (.haltComplete p) s = .next s) ∧
    (Tbl.get [] s.ten.halts p = [r] → q.haltGroup ∉ s.delta.mcPend → s.mcWaits q.haltGroup = false →
      (r.expect ≤ n → r.port = none → exec (.haltComplete p) s = .next ((s.emit (.msix s.hosts.primary 0 0)).modTen fun t => { t with halts := Tbl.set t.halts p [] })) ∧
      (r.port = some port.val → (s.hosts.port port).haltCq ≠ 0 → Completes (.haltComplete p) s fun u =>
        u.out = .msix port 0 0 :: .hostWrite port 0 (s.hosts.port port).haltCq (leBytes 4 r.tag ++ leBytes 1 p ++ leBytes 1 (if n < r.expect then 1 else 0) ++
          leBytes 2 n ++ leBytes 8 s.mcount) :: s.out ∧ Tbl.get [] u.ten.halts p = [] ∧ ChangesOnly [.out, .ten, .log] s u))

/-- 17 R473 to R489: a request that reaches no server does nothing; one of another version or of no session is refused; a repeated one is
answered from the cache and executes nothing. Objects are read, described and written under their access, level and range; a segmented
read is a snapshot, a segmented write is staged and applied whole at its commit; sessions open within their limits, renew their
deadline with each request, and end with their transfers. -/
def Obligations.LegendServesItsSessions : Prop :=
  (∀ (h : LapHdr) (bs : List Byte) (fails : Option (Fin 10)) (data : List (Fin 4096 × List Byte)) (xf want : Half) (off : Word32) (x : Sess) (r : LapResp) (s : State),
    ∀ e ∈ [(1, Instr.lapRead h), (2, .lapWrite h bs fails data), (3, .lapDescribe h), (4, .segReadStart h), (5, .segRead h xf want off), (6, .segWriteStart h off),
        (7, .segWrite h xf off bs), (8, .segWriteEnd h xf off), (9, .segAbort h xf), (0x11, .lapClose h), (0x12, .lapPing h)],
      (s.lapServed h = false → exec e.2 s = .next s) ∧
      (s.lapServed h = true → h.ver ≠ 1 → s.NothingIdle → exec e.2 s = .next (s.emit (lapMsg e.1 h .version 0 []))) ∧
      (s.lapServed h = true → h.ver = 1 → s.NothingIdle → h.session ≠ 0 → s.sessionOf h = none → exec e.2 s = .next (s.emit (lapMsg e.1 h .sessionInvalid 0 []))) ∧
      (s.lapServed h = true → h.ver = 1 → s.NothingIdle → h.session ≠ 0 → s.sessionOf h = some x → x.cache.find? (fun e => e.1 == h.xid.toNat) = some (h.xid.toNat, r) →
        exec e.2 s = .next ((s.renewed h x).emit (.lap h.ep (r.op + 0x80) r.session h.xid.toNat r.index r.sub r.status r.arg r.payload)))) ∧
  (∀ (h : LapHdr) (x : Sess) (d : ObjDef) (e : FCode) (bs : List Byte) (fails : Option (Fin 10)) (data : List (Fin 4096 × List Byte)) (s : State), s.InSession h x →
    let t := s.renewed h x; let seg := Endpoint.segment h.ep
    exec (.lapPing h) s = .next (s.replied s 0x12 h x .ok 0 (leBytes 8 s.mcount)) ∧
    exec (.lapClose h) s = .next ((s.modLgd fun l => { l with
      sessions := Tbl.erase l.sessions h.session.toNat, xfers := l.xfers.filter fun e => e.2.sess != h.session.toNat }).emit (lapMsg 0x11 h .ok 0 [])) ∧
    (s.lookup h.index.toNat = none → exec (.lapRead h) s = .next (s.replied s 1 h x .noObject 0 []) ∧
      exec (.lapWrite h bs fails data) s = .next (s.replied s 2 h x .noObject 0 []) ∧ exec (.lapDescribe h) s = .next (s.replied s 3 h x .noObject 0 [])) ∧
    (s.lookup h.index.toNat = some d →
      (t.hasSub d h.sub.toNat = false → exec (.lapRead h) s = .next (s.replied s 1 h x .noSubindex 0 []) ∧
        exec (.lapWrite h bs fails data) s = .next (s.replied s 2 h x .noSubindex 0 []) ∧ exec (.lapDescribe h) s = .next (s.replied s 3 h x .noSubindex 0 [])) ∧
      (t.hasSub d h.sub.toNat = true →
        exec (.lapDescribe h) s = .next (s.replied s 3 h x .ok 0 (leBytes 1 d.typ ++ leBytes 1 d.elem ++ leBytes 1 d.acc ++ leBytes 1 (if d.expert then 1 else 0) ++
          leBytes 1 d.pers ++ leBytes 3 0 ++ leBytes 4 (if d.typ = 0xD then d.n else d.size.getD d.maxLen))) ∧
        (d.expert = true → x.expert = false → exec (.lapRead h) s = .next (s.replied s 1 h x .levelDenied 0 [])) ∧
        (d.expert = false ∨ x.expert = true →
          (d.acc = 3 → exec (.lapRead h) s = .next (s.replied s 1 h x .accessDenied 0 [])) ∧
          (d.acc ≠ 3 → s.sourceUp d.idx = false → exec (.lapRead h) s = .next (s.replied s 1 h x .notReady 0 [])) ∧
          (d.acc ≠ 3 → s.sourceUp d.idx = true → let v := t.valueAt d h.sub.toNat
            (v.length ≤ seg → exec (.lapRead h) s = .next (s.replied s 1 h x .ok v.length v)) ∧
            (seg < v.length → exec (.lapRead h) s = .next (s.replied s 1 h x .lengthMismatch 0 [])))) ∧
        (primaryOwned d.idx = true → Endpoint.kind h.ep ≠ s.hosts.primary → exec (.lapWrite h bs fails data) s = .next (s.replied s 2 h x .roleDenied 0 [])) ∧
        (primaryOwned d.idx = false ∨ Endpoint.kind h.ep = s.hosts.primary →
          (d.expert = true → x.expert = false → s.openAnchors d = false → exec (.lapWrite h bs fails data) s = .next (s.replied s 2 h x .levelDenied 0 [])) ∧
          (d.expert = false ∨ x.expert = true → d.acc ≤ 1 → exec (.lapWrite h bs fails data) s = .next (s.replied s 2 h x .accessDenied 0 [])) ∧
          (d.expert = false ∨ x.expert = true → 1 < d.acc → bs.length ≤ seg →
            (s.lgd.writing d.idx = true → exec (.lapWrite h bs fails data) s = .next (s.replied s 2 h x .busy 0 [])) ∧
            (s.lgd.writing d.idx = false → d.lengthOk h.sub.toNat bs.length = false → exec (.lapWrite h bs fails data) s = .next (s.replied s 2 h x .lengthMismatch 0 [])))))) ∧
    (s.lookup h.index.toNat = objDef 0x1101 → h.sub = 0 → x.expert = true → bs.length = 4 → s.lgd.writing 0x1101 = false → h.index = 0x1101 → s.fw.accepted 1 = true → s.ctg.approved = false →
      (10 ≤ leNat bs → leNat bs ≤ 60000 → exec (.lapWrite h bs fails data) s = .next (s.replied (s.setObj 0x1101 0 (leNat bs)) 2 h x .ok 0 [])) ∧
      (leNat bs < 10 ∨ 60000 < leNat bs → exec (.lapWrite h bs fails data) s = .next (s.replied s 2 h x .valueRange 0 [])))) ∧
  (∀ (h : LapHdr) (bs : List Byte) (d : ObjDef) (s : State), s.lapServed h = true → h.ver = 1 → s.NothingIdle → h.session = 0 → s.lookup h.index.toNat = some d →
    s.hasSub d h.sub.toNat = true →
    (d.expert = true ∨ 1 < d.acc → exec (.lapRead h) s = .next (s.emit (lapMsg 1 h .sessionInvalid 0 []))) ∧
    (d.expert = false → d.acc ≤ 1 → s.sourceUp d.idx = true → (s.valueAt d h.sub.toNat).length ≤ Endpoint.segment h.ep →
      exec (.lapRead h) s = .next (s.emit (lapMsg 1 h .ok (s.valueAt d h.sub.toNat).length (s.valueAt d h.sub.toNat)))) ∧
    (s.openAnchors d = false → exec (.lapWrite h bs none []) s = .next (s.emit (lapMsg 2 h .sessionInvalid 0 [])))) ∧
  (∀ (h : LapHdr) (x : Sess) (d : ObjDef) (xf want : Half) (off : Word32) (bs : List Byte) (y : Xfer) (s : State), s.InSession h x →
    let t := s.renewed h x; let n := xf.toNat; let sn := h.session.toNat; let touched := s.withXfer n { y with last := s.mcount }
    (s.lookup h.index.toNat = some d → t.hasSub d h.sub.toNat = true → d.expert = false ∨ x.expert = true →
      (d.acc ≠ 3 → s.sourceUp d.idx = true →
        (d.segmented = false → exec (.segReadStart h) s = .next (s.replied s 4 h x .typeMismatch 0 [])) ∧
        (d.segmented = true → s.lgd.xferFull sn = true → exec (.segReadStart h) s = .next (s.replied s 4 h x .transferLimit 0 [])) ∧
        (d.segmented = true → s.lgd.xferFull sn = false → s.lgd.freeXfer = some n → let v := t.valueAt d h.sub.toNat
          exec (.segReadStart h) s = .next (s.replied (s.withXfer n ⟨sn, d.idx, h.sub.toNat, false, v.length, v, [], s.mcount⟩) 4 h x .ok v.length
            (leBytes 2 n ++ leBytes 2 0 ++ leBytes 4 (crc32 v))))) ∧
      (1 < d.acc → primaryOwned d.idx = false → d.segmented = true →
        (d.lengthOk h.sub.toNat off.toNat = false → exec (.segWriteStart h off) s = .next (s.replied s 6 h x .lengthMismatch 0 [])) ∧
        (d.lengthOk h.sub.toNat off.toNat = true → s.lgd.writing d.idx = true → exec (.segWriteStart h off) s = .next (s.replied s 6 h x .busy 0 [])) ∧
        (d.lengthOk h.sub.toNat off.toNat = true → s.lgd.writing d.idx = false → s.imageBusy h.ep d.idx = false → s.lgd.xferFull sn = false → s.lgd.freeXfer = some n →
          exec (.segWriteStart h off) s = .next (s.replied (s.withXfer n ⟨sn, d.idx, h.sub.toNat, true, off.toNat, [], [], s.mcount⟩) 6 h x .ok 0 (leBytes 2 n))))) ∧
    (Tbl.get? s.lgd.xfers n = none → exec (.segRead h xf want off) s = .next (s.replied s 5 h x .segmentInvalid 0 []) ∧
      exec (.segWrite h xf off bs) s = .next (s.replied s 7 h x .segmentInvalid 0 []) ∧ exec (.segWriteEnd h xf off) s = .next (s.replied s 8 h x .segmentInvalid 0 []) ∧
      exec (.segAbort h xf) s = .next (s.replied s 9 h x .segmentInvalid 0 [])) ∧
    (Tbl.get? s.lgd.xfers n = some y →
      (y.sess ≠ sn → exec (.segRead h xf want off) s = .next (s.replied s 5 h x .segmentInvalid 0 []) ∧ exec (.segAbort h xf) s = .next (s.replied s 9 h x .segmentInvalid 0 [])) ∧
      (y.sess = sn → exec (.segAbort h xf) s = .next (s.replied (s.modLgd fun l => { l with xfers := Tbl.erase l.xfers n }) 9 h x .ok 0 [])) ∧
      (y.sess = sn → y.write = false →
        (y.total < off.toNat → exec (.segRead h xf want off) s = .next (s.replied touched 5 h x .segmentInvalid 0 [])) ∧
        (off.toNat ≤ y.total → let v := (y.data.drop off.toNat).take (Nat.min want.toNat (Endpoint.segment h.ep))
          exec (.segRead h xf want off) s = .next (s.replied touched 5 h x .ok v.length v))) ∧
      (y.sess = sn → y.write = true →
        (bs.length ≤ Endpoint.segment h.ep → y.total < off.toNat + bs.length → exec (.segWrite h xf off bs) s = .next (s.replied touched 7 h x .segmentInvalid 0 [])) ∧
        (bs.length ≤ Endpoint.segment h.ep → off.toNat + bs.length ≤ y.total → ∃ z : Tbl Byte,
          exec (.segWrite h xf off bs) s = .next (s.replied (s.withXfer n { y with staged := z, last := s.mcount }) 7 h x .ok 0 []) ∧
          ∀ k, Tbl.get? z k = if off.toNat ≤ k ∧ k < off.toNat + bs.length then bs[k - off.toNat]? else Tbl.get? y.staged k) ∧
        ((∃ k, k < y.total ∧ Tbl.get? y.staged k = none) → exec (.segWriteEnd h xf off) s = .next (s.replied touched 8 h x .segmentInvalid 0 [])) ∧
        (bs.length = y.total → (∀ k, k < y.total → Tbl.get? y.staged k = bs[k]?) →
          (crc32 bs ≠ off.toNat → exec (.segWriteEnd h xf off) s = .next (s.replied touched 8 h x .crcMismatch 0 [])) ∧
          (crc32 bs = off.toNat → y.index = 0x5403 → y.sub = 0 → bs.length ≤ 0xFFFFFFFF →
            exec (.segWriteEnd h xf off) s = .next (s.replied (((s.modLgd fun l => { l with
              xfers := Tbl.erase l.xfers n }).setDom 0x5403 bs).modCnf fun c => { c with patches := bs }) 8 h x .ok 0 [])))))) ∧
  (∀ (h : LapHdr) (level flags : Byte) (spdm timeout : Word32) (n : Nat) (s : State),
    let ms := if timeout = 0 then s.obj 0x1201 0 else timeout.toNat; let seg := Endpoint.segment h.ep
    let fresh (expert : Bool) : Sess := ⟨h.ep, expert, if expert then some spdm else none, flags.getLsbD 0, ms, s.mcount, [], false⟩
    let opened (expert : Bool) : Ans := .next ((s.modLgd fun l => { l with sessions := Tbl.set l.sessions n (fresh expert) }).emit
      (.lap h.ep 0x90 n h.xid.toNat h.index.toNat h.sub.toNat .ok 0 (leBytes 2 seg ++ leBytes 2 0 ++ leBytes 4 ms)))
    let refused (st : FCode) : Ans := .next (s.emit (lapMsg 0x10 h st 0 []))
    (s.lapServed h = false → exec (.lapOpen h level flags spdm timeout) s = .next s) ∧
    (s.lapServed h = true → s.NothingIdle →
      (h.ver ≠ 1 → exec (.lapOpen h level flags spdm timeout) s = refused .version) ∧
      (h.ver = 1 → 1 < level.toNat ∨ ms < 1000 ∨ 600000 < ms → exec (.lapOpen h level flags spdm timeout) s = refused .valueRange) ∧
      (h.ver = 1 → 1000 ≤ ms → ms ≤ 600000 →
        (level = 0 → h.session ≠ 0 → exec (.lapOpen h level flags spdm timeout) s = refused .sessionInvalid) ∧
        (level = 0 → h.session = 0 →
          (32 ≤ s.lgd.openCount false (Endpoint.kind h.ep) → exec (.lapOpen h level flags spdm timeout) s = refused .sessionLimit) ∧
          (s.lgd.openCount false (Endpoint.kind h.ep) < 32 → s.lgd.freeSession = some n → exec (.lapOpen h level flags spdm timeout) s = opened false)) ∧
        (level = 1 → h.session = 0 → h.spdm = some spdm →
          (s.fw.accepted 1 = false ∨ s.expertOwner h.ep = false → exec (.lapOpen h level flags spdm timeout) s = refused .roleDenied) ∧
          (s.fw.accepted 1 = true → s.expertOwner h.ep = true → (s.spdmOf h.ep spdm.toNat true).map (·.role) = some 1 →
            (∀ e ∈ s.lgd.sessions, e.2.expert = false ∨ Endpoint.kind e.2.ep ≠ 2) → s.lgd.openCount true 0 < 4 → s.lgd.freeSession = some n →
            exec (.lapOpen h level flags spdm timeout) s = opened true))))) ∧
  ∀ (n : Half) (x : Sess) (y : Xfer) (s : State), let l := s.lgd
    (Tbl.get? l.sessions n.toNat = none → exec (.sessionExpiry n) s = .next s ∧ exec (.sessionExpiryWarning n) s = .next s) ∧
    (Tbl.get? l.sessions n.toNat = some x →
      (s.mcount ≤ x.deadline → exec (.sessionExpiry n) s = .next s) ∧
      (x.deadline < s.mcount → exec (.sessionExpiry n) s = .next (s.modLgd fun l => { l with
        sessions := Tbl.erase l.sessions n.toNat, xfers := l.xfers.filter fun e => e.2.sess != n.toNat })) ∧
      (x.note = false ∨ x.warned = true ∨ s.mcount + 1000000000 < x.deadline → exec (.sessionExpiryWarning n) s = .next s) ∧
      (x.note = true → x.warned = false → x.deadline ≤ s.mcount + 1000000000 → exec (.sessionExpiryWarning n) s = .next ((s.modLgd fun l => { l with
        sessions := Tbl.set l.sessions n.toNat { x with warned := true } }).emit (.notify x.ep n.toNat 0x0004 0 s.mcount)))) ∧
    (Tbl.get? l.xfers n.toNat = none → exec (.transferIdleExpiry n) s = .next s) ∧
    (Tbl.get? l.xfers n.toNat = some y →
      (s.mcount ≤ y.last + 10000000000 → exec (.transferIdleExpiry n) s = .next s) ∧
      (y.last + 10000000000 < s.mcount → exec (.transferIdleExpiry n) s = .next (s.modLgd fun l => { l with xfers := Tbl.erase l.xfers n.toNat }))) ∧
    (s.boot.restored = true → exec .hostSuppliedRestored s = .next s) ∧
    (s.boot.restored = false → exec .hostSuppliedRestored s = .next ((s.modBoot fun b => { b with restored := true }).modHosts fun h => { h with
      members := ((List.range 63).map fun k => s.obj 0x1102 k).filter fun v => v != 0xFFFF }))

/-- 20 R535 to R544, 21 R568, 22 R581, 24 R614: a part of a start ends when its condition holds, never before, and the next part begins with
its rails and its own beginning; waves begin in their order; an assertion of PANEL_RESET_N resets the panel, a release or an ignored stuck
input begins a start when one may begin; SLOT_PRESENT_N deasserted zeroizes with cause 3 and takes the panel down. -/
def Obligations.StartsAndResetsRunTheirParts : Prop :=
  (∀ (r : PartResults) (s : State), let n := s.boot.part
    let on (m : Nat) (u : State) : Prop := u.boot = { s.boot with part := m, partAt := s.now } ∧ u.pwr = s.pwr.raiseNext m
    (s.boot.stopped = true ∨ n = 0 ∨ 6 ≤ n → exec (.startPartComplete r) s = .next s) ∧
    (n = 1 → s.fw.allAccepted = false ∨ s.boot.restored = false → exec (.startPartComplete r) s = .next s) ∧
    (n = 2 → s.mer.unit.t.locked = false ∨ (∃ i, 1 ≤ i ∧ i ≤ 4 ∧ s.pwr.inwin.testBit i = false) → exec (.startPartComplete r) s = .next s) ∧
    (n = 3 → (∃ k, k < 48 ∧ (s.gaz.stack k).status = 0 ∧ (s.stk k).state ≠ 3) → exec (.startPartComplete r) s = .next s) ∧
    (n = 4 → s.boot.portsOver = false ∧ s.portsTraining = true ∨ s.pwr.inwin.testBit 8 = false → exec (.startPartComplete r) s = .next s) ∧
    (n = 5 → (∃ c, c < 1536 ∧ s.gaz.clusterIn c = true ∧ (s.pwr.dom c).state ≠ 3) → exec (.startPartComplete r) s = .next s) ∧
    (s.boot.stopped = false → s.partEnds = true → r.retests = [] →
      (n = 1 → Completes (.startPartComplete r) s fun u => on 2 u ∧ u.mer.unit.src = s.obj 0x5300 0 ∧ u.mer.unit.startAt = s.now ∧
        (∀ d ∈ dieUnits, (u.mer.die d).unlockedSince = s.now) ∧ ChangesOnly [.boot, .pwr, .mer] s u) ∧
      (n = 2 → s.gaz.diagOk s.fw.active = true → Completes (.startPartComplete r) s fun u =>
        u.boot = { s.boot with part := 3, partAt := s.now, level := some 1 } ∧ u.pwr = s.pwr.raiseNext 3 ∧
        u.gaz = { s.gaz with gen := 1, changedAt := s.mcount } ∧ (∀ x, x < 192 → s.gaz.siteIn x = true → (u.clkSite x).plla = true) ∧
        (∀ i, i < 4 → (Tbl.get? u.ctg.fwKeys i).isSome = true) ∧ ChangesOnly [.boot, .pwr, .gaz, .clk, .ctg, .out] s u) ∧
      (n = 2 → s.gaz.diagOk s.fw.active = false → Completes (.startPartComplete r) s fun u =>
        u.boot = { s.boot with level := some 0, stopped := true } ∧ ChangesOnly [.boot, .log, .out] s u) ∧
      (n = 3 → Completes (.startPartComplete r) s fun u => on 4 u ∧
        (∀ m, m < 36 → (u.larre.engine m).role = (s.engineRole m).1 ∧ (u.larre.engine m).split = (s.engineRole m).2 ∧
          (u.gaz.engine m).role = (s.engineRole m).1 ∧ (u.gaz.engine m).status = (s.gaz.engine m).status ∧
          ((s.gaz.engine m).status ≠ 0 ∨ (s.engineRole m).1 = 0 → (u.larre.engine m).laser = false) ∧
          ((s.gaz.engine m).status = 0 → (s.engineRole m).1 ≠ 0 → s.obj 0x5201 0 = 0 → (u.larre.engine m).laser = true)) ∧
        ChangesOnly [.boot, .pwr, .gaz, .larre] s u) ∧
      (n = 4 → s.pwr.integ = false → Completes (.startPartComplete r) s fun u => on 5 u ∧ ChangesOnly [.boot, .pwr] s u) ∧
      (n = 4 → s.pwr.integ = true → r.domFails = [] → Completes (.startPartComplete r) s fun u =>
        u.pwr = { s.pwr with integ := false, tested := 0 }.raiseNext 5 ∧ u.boot = { s.boot with part := 5, partAt := s.now } ∧
        ChangesOnly [.boot, .pwr] s u) ∧
      (∀ (c : ClusterId) (i : Fin 8) (lo hi : Nat) (ts : List (Option Int)) (t : Int),
        n = 5 → s.boot.level = some 1 → s.gaz.diagOk s.fw.active = true → s.gaz.siteIn (c / 8) = true → (s.pwr.dom c).state = 3 →
        s.NoOverrides (c / 8) → r.cals = [⟨c, some t :: ts⟩] → r.paths = [⟨c, i, lo, hi⟩] → Completes (.startPartComplete r) s fun u =>
          u.pwr.dom c = { s.pwr.dom c with trim := calTrim t, setp := setPoint (s.clkSite (c / 8)).cur (calTrim t) } ∧
          (∀ d, d ≠ c.val → u.pwr.dom d = s.pwr.dom d) ∧ Tbl.get? u.pwr.paths (c * 8 + i) = some { r0 := (lo + hi) / 2 } ∧
          u.boot = { s.boot with part := 6, partAt := s.now, level := u.boot.level } ∧
          (u.boot.level = some 2 ↔ s.gaz.computeOk = true ∧ s.pwr.integ = false ∧ s.pwr.seq = 3 ∧ s.domainOn = true) ∧
          (u.boot.level ≠ some 2 → u.boot.level = some 1) ∧ ChangesOnly [.boot, .pwr, .clk, .out] s u)) ∧
    (∀ (k : StackId), n = 3 → s.boot.stopped = false → s.partEnds = true → (s.gaz.stack k).status = 1 →
      (s.boot.cold = true → r.retests = [⟨.stack k, false⟩] → Completes (.startPartComplete r) s fun u => (u.gaz.stack k).status = 4 ∧ (u.gaz.stack k).reason = 2) ∧
      (s.boot.cold = false → r.retests = [⟨.stack k, true⟩] → Completes (.startPartComplete r) s fun u => u.gaz.stack k = s.gaz.stack k))) ∧
  (∀ (e : EngineId) (p : Fin 4) (a b : Bool) (s : State), let n := s.boot.part; let w := s.boot.wave; let ranked := s.gaz.sitesIn
    (n = 4 → s.boot.partAt + 10000000000 ≤ s.now → exec .estuaryPartTimeout s = .next (s.modBoot fun b => { b with portsOver := true })) ∧
    (n ≠ 4 ∨ s.now < s.boot.partAt + 10000000000 → exec .estuaryPartTimeout s = .next s) ∧
    (n < 4 ∨ (s.larre.engine e).laser = false ∨ (s.lport e p).state ≠ 1 → exec (.estuaryPortTrained e p) s = .next s) ∧
    (4 ≤ n → (s.larre.engine e).laser = true → (s.lport e p).state = 1 → (s.lport e p).queue = [] → Completes (.estuaryPortTrained e p) s fun u =>
      (u.lport e p).state = 2 ∧ (u.lport e p).fails = 0 ∧ u.delta = { s.delta with edWanted := true } ∧
      (∀ l, l < 16 → (u.larre.engine e).lock.getLsbD l = ((s.larre.engine e).lock.getLsbD l || decide (l ∈ portLanes (s.larre.engine e).split p))) ∧
      (∀ m, m ≠ e.val → u.larre.engine m = s.larre.engine m) ∧ u.out = .link (e * 4 + p) 3 [s.identity, e, p, s.lmcGen % 65536, s.gaz.eui.toNat] :: s.out ∧ ChangesOnly [.larre, .delta, .out] s u) ∧
    (n ≠ 5 ∧ n ≠ 6 ∨ s.pwr.seq ≠ 3 ∨ ranked.length ≤ 16 * w ∨ (w ≠ 0 ∧ s.now < s.boot.waveAt + 500000000) → exec .waveStart s = .next s) ∧
    (n = 5 ∨ n = 6 → s.pwr.seq = 3 → 16 * w < ranked.length → w = 0 ∨ s.boot.waveAt + 500000000 ≤ s.now →
      (∀ x ∈ ranked.take (16 * w), ∀ i, i < 8 → s.gaz.clusterIn (8 * x + i) = true → (s.pwr.dom (8 * x + i)).state ≠ 1 ∧ (s.pwr.dom (8 * x + i)).state ≠ 2) →
      Completes .waveStart s fun u => u.boot = { s.boot with wave := w + 1, waveAt := s.now } ∧
        (∀ x, x < 192 → ∀ i, i < 8 → u.cl (8 * x + i) =
          if x ∈ (ranked.drop (16 * w)).take 16 ∧ s.gaz.clusterIn (8 * x + i) = true ∧ (s.pwr.dom (8 * x + i)).state = 1
          then (s.cl (8 * x + i)).kept else s.cl (8 * x + i)) ∧ ChangesOnly [.boot, .clusters] s u) ∧
    (s.boot.reset = true → exec .panelResetAssert s = .next s) ∧
    (s.boot.reset = false → let s1 := s.modBoot fun b => { b with reset := true, resetAt := s.now, stuck := false }
      (s.boot.masked = true ∨ s.pwr.vhk = false ∨ s.pwr.en = false → exec .panelResetAssert s = .next s1) ∧
      (s.boot.masked = false → s.pwr.vhk = true → s.pwr.en = true → s.log.waiting = [] → s.log.ring = [] →
        Completes .panelResetAssert s fun u => u.boot.reset = true ∧ u.boot.resetAt = s.now ∧ u.boot.policy = s.obj 0x2300 0 ∧
          (∃ r ∈ u.log.waiting, r.code = .resetAsserted) ∧
          (s.pwr.seq ≠ 4 ∧ s.pwr.seq ≠ 5 → ResetFrom s u ∧ ∀ i, i < 2 → (u.ctg.unit i).zCause = 2) ∧
          (s.pwr.seq = 4 ∨ s.pwr.seq = 5 → u.larre = s.letGo.larre ∧ u.mer = s.letGo.mer ∧ ChangesOnly [.boot, .log, .larre, .mer] s u))) ∧
    (s.boot.reset = false → exec (.panelResetRelease a b) s = .next s) ∧
    (s.boot.reset = true → let s1 := s.modBoot fun b => { b with reset := false, resetAt := s.now, stuck := false }
      (s.boot.masked = true → exec (.panelResetRelease a b) s = .next s1) ∧
      (s.boot.masked = false → ¬ s.MayStart → s.boot.part = 0 → s.pwr.seq ≠ 1 → Completes (.panelResetRelease a b) s fun u => u.boot = s1.boot ∧ ChangesOnly [.boot, .log] s u) ∧
      (s.boot.masked = false → s.MayStart → s.NoApproval → Completes (.panelResetRelease a b) s fun u => Started a b s u ∧ u.boot.reset = false ∧ u.boot.cold = false)) ∧
    (s.boot.reset = false ∨ s.boot.stuck = true ∨ s.boot.masked = true ∨ s.now < s.boot.resetAt + 30000000000 → exec (.resetStuck a b) s = .next s) ∧
    (s.boot.reset = true → s.boot.stuck = false → s.boot.masked = false → s.pwr.vhk = true → s.boot.resetAt + 30000000000 ≤ s.now →
      (s.boot.policy ≠ 1 → Completes (.resetStuck a b) s fun u => u.boot = { s.boot with stuck := true } ∧ ChangesOnly [.boot, .log] s u) ∧
      (s.boot.policy = 1 → s.MayStart → s.NoApproval → Completes (.resetStuck a b) s fun u => Started a b s u ∧ u.boot.masked = true ∧ u.boot.reset = true)) ∧
    (s.boot.masked = true → s.boot.reset = false → s.boot.resetAt + 100000000 ≤ s.now → exec .resetUnmask s = .next (s.modBoot fun b => { b with masked := false })) ∧
    (s.boot.masked = false ∨ s.boot.reset = true ∨ s.now < s.boot.resetAt + 100000000 → exec .resetUnmask s = .next s) ∧
    (s.boot.slotPresent = false → exec .slotPresentDeassert s = .next s) ∧
    (s.boot.slotPresent = true → s.pwr.vhk = true → Completes .slotPresentDeassert s fun u => u.boot.slotPresent = false ∧ u.SecretsGone ∧
      (∀ i, i < 2 → (u.ctg.unit i).zCause = 3) ∧ (s.pwr.seq ≠ 4 → s.pwr.seq ≠ 5 → ResetFrom s u)))

/-- 01 R32, R34 to R36: the events of one nanosecond are applied in the order of their keys, whatever order they are given in, each its own
change set, one that R32 does not allow being refused with STATUS_REFUSED; lanes and columns enter the record; expert commands mask,
retire and unmask; an activation names its reserve and the
site that it replaces, powers it up, tests it, trains its links, publishes an edition and brings it into service; a step that fails
retires the reserve with START_TEST. -/
def Obligations.ReservesAreActivatedStepByStep : Prop :=
  (∀ (e d : GazEvent) (k : StackId) (st : Nat) (s : State),
    exec (.gazetteerChangeSet []) s = .next s ∧
    (GazEvent.key e < GazEvent.key d → exec (.gazetteerChangeSet [d, e]) s = exec (.gazetteerChangeSet [e, d]) s) ∧
    let no : State := s.emit (.refused (subjectCode e.u) .statusRefused)
    (∀ w, e.u = .unit w → 8 < e.reason ∨ transitionOk w (s.gaz.status w) (s.gaz.reason w) e.status e.reason false = false →
      exec (.gazetteerChangeSet [e]) s = .next no) ∧
    (∀ b l, e.u = .lane b l → (e.status ≠ 4 ∨ (s.brd b).healthy l = false → exec (.gazetteerChangeSet [e]) s = .next no) ∧
      (e.status = 4 → (s.brd b).healthy l = true → exec (.gazetteerChangeSet [e]) s = .next (s.loseLane e.source b l []))) ∧
    (∀ c bank sub col spare, e.u = .column c bank sub col spare →
      (⟨bank, sub, col, spare⟩ ∈ (s.cl c).spd.steer → exec (.gazetteerChangeSet [e]) s = .next no) ∧
      (⟨bank, sub, col, spare⟩ ∉ (s.cl c).spd.steer → Completes (.gazetteerChangeSet [e]) s fun u => u.gaz.gen = s.gaz.gen + 1 ∧
        (u.cl c).spd.steer = (s.cl c).spd.steer ++ [⟨bank, sub, col, spare⟩] ∧
        ((∀ y ∈ s.gaz.sitesIn, y ∈ s.gaz.kept s.fw.active) →
          (⟨s.mcount, 6, 2, c, bank * 16 + sub, 0, 0, e.reason, e.source, col + fld 10 spare⟩ : HistEntry) ∈ u.gaz.history))) ∧
    (e.reason ≤ 8 → e.u = .unit (.stack k) → transitionOk (.stack k) (s.gaz.stack k).status (s.gaz.stack k).reason e.status e.reason false = true → Completes (.gazetteerChangeSet [e]) s fun u =>
      (u.gaz.stack k).status = e.status ∧ (u.gaz.stack k).reason = e.reason ∧ u.gaz.gen = s.gaz.gen + 1 ∧ u.gaz.changedAt = s.mcount) ∧
    (∀ n : Fin 5, n.val = st →
      (transitionOk (.stack k) (s.gaz.stack k).status (s.gaz.stack k).reason st 9 false = false → exec (.expertStatusCommand (.stack k) n) s = .next (s.emit (.refused (192 + k.val) .statusRefused))) ∧
      (st = 1 ∨ st = 4 → transitionOk (.stack k) (s.gaz.stack k).status (s.gaz.stack k).reason st 9 false = true → Completes (.expertStatusCommand (.stack k) n) s fun u =>
        (u.gaz.stack k).status = st ∧ (u.gaz.stack k).reason = 9 ∧ u.gaz.gen = s.gaz.gen + 1) ∧
      (st = 0 → (s.gaz.stack k).status = 1 → (s.gaz.stack k).reason = 9 → exec (.expertStatusCommand (.stack k) n) s =
        .next (s.applyGaz fun g => g.change s.mcount 4 (.stack k) 0 0)) ∧
      (st = 0 → (s.gaz.stack k).status = 1 → (s.gaz.stack k).reason ≠ 9 → exec (.expertStatusCommand (.stack k) n) s = .next (s.emit (.refused (192 + k.val) .statusRefused))) ∧
      (∀ x : SiteId, st = 0 → 180 ≤ s.gaz.sitesIn.length → exec (.expertStatusCommand (.site x) n) s = .next (s.emit (.refused x .statusRefused))))) ∧
  (∀ (site : Byte) (r : Nat) (s : State), let x := site.toNat
    let out (y : Nat) : Prop := y < 192 ∧ ((s.gaz.site y).status = 1 ∨ (s.gaz.site y).status = 4) ∧ s.gaz.served y = true ∧ ∀ t, t < 192 → (s.gaz.site t).replaces ≠ y
    (s.gaz.act.isSome = true → exec (.reserveActivate site) s = .next (s.emit (.refused x .busy))) ∧
    (s.gaz.act = none → 192 ≤ x ∨ (s.gaz.site x).status ≠ 2 ∨ 180 ≤ s.gaz.sitesIn.length ∨ (∀ y, ¬ out y) →
      exec (.reserveActivate site) s = .next (s.emit (.refused x .statusRefused))) ∧
    (s.gaz.act = none → x < 192 → (s.gaz.site x).status = 2 → s.gaz.sitesIn.length < 180 → out r →
      (∀ y, out y → (s.gaz.site r).leftGen < (s.gaz.site y).leftGen ∨ ((s.gaz.site r).leftGen = (s.gaz.site y).leftGen ∧ r ≤ y)) →
      exec (.reserveActivate site) s = .next (s.modGaz fun g => { g with act := some ⟨1, some x, r, true⟩ }))) ∧
  (∀ (x : SiteId) (r n : Nat) (m : Bool) (bt : BraidTest) (rt : RouteTables) (tsw : Word) (s : State), let c (i : Nat) : Nat := 8 * x + i
    let a (k : Nat) : Activation := ⟨k, some x, r, m⟩; let at_ (k : Nat) (s : State) : State := s.modGaz fun g => { g with act := some (a k) }
    let failed (u : State) : Prop := (u.gaz.site x).status = 4 ∧ (u.gaz.site x).reason = 2 ∧ (∀ i, i < 8 → (u.pwr.dom (c i)).state = 0) ∧ u.gaz.act = none
    (s.gaz.act = none → s.obj 0x3010 0 = 0 ∨ 180 ≤ s.gaz.sitesIn.length → exec .reservePowerUp s = .next s) ∧
    (s.gaz.act = some (a n) → n ≠ 1 → exec .reservePowerUp s = .next s) ∧
    (s.gaz.act = none → s.obj 0x3010 0 = 1 ∨ s.obj 0x3010 0 = 2 → s.gaz.sitesIn.length < 180 → s.gaz.unreplaced (s.obj 0x3010 0) = some r → (s.gaz.site x).status = 2 → siteRow x = siteRow r →
      (∀ y, y < x.val → siteRow y = siteRow r → (s.gaz.site y).status ≠ 2) → s.pwr.inwin.testBit 9 = true → s.pwr.seq = 3 →
      Completes .reservePowerUp s fun u => u.gaz = { s.gaz with act := some ⟨2, some x, r, false⟩ } ∧ ChangesOnly [.gaz, .pwr, .clusters] s u) ∧
    (s.gaz.act = some (a 1) → s.pwr.inwin.testBit 9 = true → s.pwr.seq = 3 → Completes .reservePowerUp s fun u => u.gaz = { s.gaz with act := some (a 2) } ∧
      (∀ d, u.pwr.dom d = if d / 8 = x.val ∧ (s.gaz.cluster d).status = 2 then { s.pwr.dom d with
        state := 1, stage := 0, setp := setPoint 0 (s.pwr.dom d).trim, smask := if (s.pwr.dom d).setp = 0 then 0xFF else (s.pwr.dom d).smask } else s.pwr.dom d) ∧
      (∀ d, u.cl d = if d / 8 = x.val ∧ (s.gaz.cluster d).status = 2 then (s.cl d).kept else s.cl d) ∧ ChangesOnly [.gaz, .pwr, .clusters] s u) ∧
    (s.gaz.act = none ∨ s.gaz.act = some (a n) ∧ n ≠ 2 → exec (.reserveSelfTest []) s = .next s) ∧
    (s.gaz.act = some (a 2) →
      let live (i : Nat) : Prop := i < 8 ∧ (s.gaz.cluster (c i)).status = 2
      ((∃ i, live i ∧ (s.pwr.dom (c i)).state ≠ 3) → (∀ i, live i → (s.pwr.dom (c i)).state ≠ 4) → exec (.reserveSelfTest []) s = .next s) ∧
      ((∃ i, live i) → (∀ i, live i → (s.pwr.dom (c i)).state = 3) → exec (.reserveSelfTest []) s =
        .next (at_ 3 (s.modDiag fun d => d.report 0 (tickOf s.mcount % 2 ^ 32)))) ∧
      ((∃ i, live i ∧ (s.pwr.dom (c i)).state = 4) → (s.gaz.site x).status = 2 → s.obj 0x3010 0 = 0 → Completes (.reserveSelfTest []) s failed)) ∧
    (s.gaz.act = none ∨ s.gaz.act = some (a n) ∧ n ≠ 3 → exec (.reserveLinkTraining [bt]) s = .next s) ∧
    (s.gaz.act = some (a 3) → exec (.reserveLinkTraining []) s = .next (at_ 4 s) ∧
      (bt.b.val ∈ siteMeshBraids x ++ siteMemBraids x → (s.gaz.braid bt.b).status = 2 → exec (.reserveLinkTraining [bt]) s =
        .next (at_ 4 (s.trainBraid 1 bt.b bt.identOk bt.fullRate bt.tests)))) ∧
    (s.gaz.act = none ∨ s.gaz.act = some (a n) ∧ n ≠ 4 → exec (.reserveEdition rt tsw) s = .next s) ∧
    (s.gaz.act = some (a 4) → let t := s.modGaz (s.activated (a 4) x)
      (s.slotFree = false ∨ tsw.toNat % 100000 ≠ 0 ∨ tsw.toNat < s.mcount + 200000 → exec (.reserveEdition rt tsw) s = .next s) ∧
      (s.slotFree = true → tsw.toNat % 100000 = 0 → s.mcount + 200000 ≤ tsw.toNat →
        (t.gaz.siteJoined x = true → t.editionOk rt = true → Completes (.reserveEdition rt tsw) s fun u => u.gaz = { s.gaz with act := some (a 5) } ∧
          (∀ y, y < 192 → (u.delta.router y).tsw = tsw ∧ (u.delta.router y).armed = true) ∧ u.delta.tabs s.nextSlot = rt ∧
          u.delta.tabs (!s.nextSlot) = s.delta.tabs (!s.nextSlot) ∧ ChangesOnly [.gaz, .delta, .ten] s u) ∧
        (t.gaz.siteJoined x = false ∨ t.editionOk rt = false → (s.gaz.site x).status = 2 → s.obj 0x3010 0 = 0 → Completes (.reserveEdition rt tsw) s failed))) ∧
    (s.gaz.act = none ∨ s.gaz.act = some (a n) ∧ n ≠ 5 → exec .activationComplete s = .next s) ∧
    (s.gaz.act = some (a 5) → let g := s.activated (a 5) x s.gaz
      ((∃ y ∈ s.gaz.sitesIn, (s.delta.router y).armed = true) → exec .activationComplete s = .next s) ∧
      ((∀ y ∈ s.gaz.sitesIn, (s.delta.router y).armed = false) → 180 ≤ s.gaz.sitesIn.length → Completes .activationComplete s fun u =>
        u.gaz = { s.gaz with act := none } ∧ (∀ i, i < 8 → (u.pwr.dom (c i)).state = 0 ∧ u.cl (c i) = (s.cl (c i)).kept) ∧
        (∀ d, d / 8 ≠ x.val → u.pwr.dom d = s.pwr.dom d ∧ u.cl d = s.cl d) ∧ ChangesOnly [.gaz, .pwr, .clusters] s u) ∧
      ((∀ y ∈ s.gaz.sitesIn, (s.delta.router y).armed = false) → s.gaz.sitesIn.length < 180 →
        (g.siteJoined x = true → (∀ y ∈ g.sitesIn, y ∈ g.kept s.fw.active) → Completes .activationComplete s fun u =>
          (u.gaz.site x).status = 0 ∧ (u.gaz.site x).reason = 10 ∧ (u.gaz.site x).replaces = r ∧ u.gaz.act = none ∧ u.gaz.gen = s.gaz.gen + 1 ∧
          ∀ i, i < 8 → (u.gaz.cluster (c i)).status = if (s.gaz.cluster (c i)).status = 2 then 0 else (s.gaz.cluster (c i)).status) ∧
        (g.siteJoined x = false → (s.gaz.site x).status = 2 → s.obj 0x3010 0 = 0 → Completes .activationComplete s failed))))

/-- 22 R586, 24 R619: an optical engine at 85 °C or above is retired with reason THERMAL, its lasers off, and an engine of a ring pair closes
its bypass; a Surveyor die above 110 °C, below -10 °C or outside its supply limits zeroizes under cause 5. -/
def Obligations.EnginesAndSurveyorDiesLeaveAtTheirLimits : Prop :=
  (∀ (n : EngineId) (t : Int) (s : State), s.clk.sensDropped = [] → s.clk.sensBad = [] → (s.gaz.engine n).status = 0 → degC 85 ≤ t → GoodTemp t →
    Completes (.engineTemperatureSample n [some t, some t]) s fun u =>
      (u.gaz.engine n).status = 4 ∧ (u.gaz.engine n).reason = 3 ∧ (u.larre.engine n).laser = false ∧
      ∀ i, i < 2 → n.val = 18 * i ∨ n.val = 18 * i + 1 → (u.larre.oxbow i) = (s.larre.oxbow i).close ∧
        ((u.larre.oxbow i).closed = true ∧ (u.larre.oxbow i).moving = none ∨ (u.larre.oxbow i).moving = some true)) ∧
  ∀ (d : Fin 2) (t : Int) (s : State), s.ctg.zPend = none →
    let gone (u : State) : Prop := u.SecretsGone ∧ (∀ i, i < 2 → (u.ctg.unit i).zCause = 5) ∧ u.boot.stopped = true ∧ u.boot.level = some 0
    (s.clk.sensDropped = [] → s.clk.sensBad = [] → GoodTemp t → degC 110 < t ∨ t < degC (-10) →
      degC (-10) ≤ s.tempOf (0x140 + d) → s.tempOf (0x140 + d) < degC 110 →
      Completes (.surveyorDieTemperatureSample ⟨d.val, by omega⟩ (List.replicate 4 (some t))) s gone) ∧
    (s.pwr.vhk = true → Completes (.surveyorSupplyFault d) s gone)

/-- 09 R250, R251, R259, R260, R276: a unicast packet that arrives by a mesh port leaves at its cluster's port at its own site; elsewhere it takes
the port that its edition's table names, with ESC set where the entry is a detour, its flits counted against the credits of that port; with
no route, or by a transit port that does not carry it, it is dropped, with a NAK_ROUTE for a Stream or Direct packet. A multicast packet is
copied to every port of its set (R271). -/
def Obligations.DeltaHopForwardsByTheTable : Prop :=
  ∀ (site : SiteId) (port : Fin 20) (p : Packet) (s : State), let r := s.delta.router site
    let entry := (s.delta.tabs p.ed).uniAt site p.destUnit; let out := bits entry 4 0
    let q : Packet := if entry.getLsbD 14 = true ∧ p.esc = false then { p with route := putBit p.route 37 true } else p
    let drop (u : State) : State := if p.mode ≤ 1 then ((u.sendNak site 2 p).raise .nakRoute site 0 0).sendRecords site else u
    (meshPort port = false → exec (.deltaHop site port p) s = .next s) ∧
    (meshPort port = true → s.NoTelemetry site →
      (p.multicast = false → p.destUnit = site → exec (.deltaHop site port p) s =
        .next ((s.withRouter site Router.counted).handedOver site port (4 + p.destCluster) p)) ∧
      (p.multicast = false → p.destUnit ≠ site → entry.getLsbD 15 = false ∨ 20 ≤ out ∨ transitOk out p = false ∨ (linkPort out = true ∧ (r.port out).up = false) →
        exec (.deltaHop site port p) s = .next (drop ((s.withRouter site Router.counted).commitRouter site
          (({ r.counted.bump 2 1 with rdrop := true } : Router).freeIn port p) []))) ∧
      (p.multicast = false → p.destUnit ≠ site → entry.getLsbD 15 = true → out < 20 → linkPort out = true → (r.port out).up = true → transitOk out p = true →
        (r.port out).queue = [] → q.flits ≤ (r.port out).held q.subKey → 0 < q.flits → (r.port out).classQueue q.cls ≤ r.thresh →
        Completes (.deltaHop site port p) s fun u => let y := (u.delta.router site).port out; let x := (r.port out)
          let sent := (Tbl.get 0 x.sent q.subKey + q.flits) % 65536
          .packet site out q ∈ u.out ∧ s.out <:+ u.out ∧ y.queue = [] ∧ Tbl.get 0 y.sent q.subKey = sent ∧ y.flying = x.flying ++ [⟨q, sent⟩] ∧
          (u.delta.router site).accepted = r.accepted + 1 ∧ (∀ site', site' ≠ site.val → u.delta.router site' = s.delta.router site') ∧
          ChangesOnly [.delta, .lev, .out] s u) ∧
      (p.multicast = true → (∀ i, i < 20 → ((s.delta.tabs p.ed).multiAt site p.dest).getLsbD i = true → linkPort i = false) →
        Completes (.deltaHop site port p) s fun u =>
          (∃ ms, u.out = ms ++ ((((List.range 20).filter fun i => ((s.delta.tabs p.ed).multiAt site p.dest).getLsbD i).map fun i =>
            Msg.packet site i p).reverse ++ s.out)) ∧ (u.delta.router site).accepted = r.accepted + 1 ∧
          (∀ site', site' ≠ site.val → u.delta.router site' = s.delta.router site') ∧ ChangesOnly [.delta, .out] s u))

/-- 09 R253, R257, R259, R266, R278, R280, R281: a packet injected at a port of a site's units has FWKEY, TENANT, ED, ESC and E set by the
router; one that fails a check is dropped and counted, with its NAK; one for a peer panel goes to the engine port that the Larre edition
names (12 R355), and is dropped with NAK_ROUTE where there is none; one that passes enters its source's window with the bytes it counts,
charges the port's shaper and is forwarded; one that the shaper, the window, the port's input buffer, an outstanding MACK, a packet before
it or a Weir grant to come holds changes nothing, nor does a mesh port inject, nor a cluster's port a multicast packet. A packet of a move is
the next that its move cuts (R256), or nothing: it counts in its move. -/
def Obligations.DeltaInjectionChecksAndCounts : Prop :=
  ∀ (site : SiteId) (port : Fin 20) (p : Packet) (s : State), s.NoSwitchDue → s.NoTelemetry site →
    let r := s.delta.router site; let d := r.port port
    let q0 := s.takeAtPort site port p
    let dropped (k : Nat) : State := s.withRouter site fun r => { r.bump k 1 with idrop := true }
    let charged (q : Packet) (u : State) : State := ((u.withRouter site fun r => r.modPort port fun k => { k with shaper := k.shaper.charge (shapeCharge q) }).modDelta
      fun d => if q.last = true ∧ q.mode = 1 ∧ q.cls = 0 then
        { d with grants := d.grants.eraseP (s.covers q) } else d)
    let goes (q : Packet) (u : State) : State := ((u.unitFlits site port p).withRouter site Router.counted).handedOver site port (4 + q.destCluster) q
    let behind (q : Packet) : Prop := ∃ x ∈ s.delta.outbox, x.1 = site.val ∧ x.2.1 = port.val ∧ x.2.2.cls = q.cls
    let held (q : Packet) : Prop := behind q ∨ s.mcHeld q = true ∨ d.shaper.admits = false ∨ r.hasRoom port q = false ∨ s.ungranted q = true ∨
      s.window q.src q.destUnit (pktCounted q) (d.effMax q.mode) (windowed q) = none
    let free (q : Packet) : Prop := ¬ behind q ∧ q0.multicast = false ∧ q.multicast = false ∧ d.shaper.admits = true ∧ r.hasRoom port q = true ∧
      s.ungranted q = false ∧ q.destUnit = site
    (port < 4 ∨ 16 ≤ port.val → ∀ move, exec (.packetInject site port p move) s = .next s) ∧
    (4 ≤ port.val → port.val < 16 →
      (d.check q0 = .badLen → exec (.packetInject site port p none) s =
        .next (if q0.mode ≤ 1 then (((dropped 0).sendNak site 1 q0).raise .nakLen site 0 0).sendRecords site else dropped 0)) ∧
      (d.check q0 = .badMode → exec (.packetInject site port p none) s =
        .next (if q0.mode ≤ 1 then (((dropped 1).sendNak site 3 q0).raise .nakMode site 0 0).sendRecords site else dropped 1)) ∧
      (d.check q0 = .disabled → exec (.packetInject site port p none) s = .next (dropped 1)) ∧
      (d.check q0 = .pass → port.val ≤ 11 → q0.multicast = true → exec (.packetInject site port p none) s = .next s) ∧
      (d.check q0 = .pass → q0.multicast = false → s.peerRouted q0 = none → exec (.packetInject site port p none) s =
        .next ((((s.withRouter site fun r => { r.bump 2 1 with rdrop := true }).sendNak site 2 q0).raise .nakRoute site 0 0).sendRecords site)) ∧
      (∀ q, d.check q0 = .pass → s.peerRouted q0 = some q → held q → exec (.packetInject site port p none) s = .next s) ∧
      (∀ q, d.check q0 = .pass → s.peerRouted q0 = some q → free q → let n := pktCounted q
        (n = 0 → (windowed q = true → ∀ w ∈ Tbl.get [] s.delta.wins q.src, w.unit = q.destUnit → w.holds = false) →
          exec (.packetInject site port p none) s = .next (goes q (charged q s))) ∧
        (n ≠ 0 → ∀ w, s.HasWindow q.src q.destUnit w →
          (w.recovered (s.dieCount q.srcUnit)).mayInject (s.dieCount q.srcUnit) n ((s.winRouter q.src).window * 1024) (d.effMax q.mode) = true →
          let u := charged q (s.withWindow q.src ((w.recovered (s.dieCount q.srcUnit)).inject (s.dieCount q.srcUnit) n ((s.winRouter q.src).timeout * 1000) (d.effMax q.mode)))
          exec (.packetInject site port p none) s = .next (goes q u) ∧
          ∀ tag m, port.val ≤ 11 → s.moveOf site port (some tag) = some m →
            (m.next (8 * site + (port.val - 4)) (d.cutMax q0) q0 = true →
              exec (.packetInject site port p (some tag)) s = .next (goes q (u.notePacket (8 * site + (port.val - 4)) m.tag q))) ∧
            (m.next (8 * site + (port.val - 4)) (d.cutMax q0) q0 = false → exec (.packetInject site port p (some tag)) s = .next s))) ∧
      (d.check q0 = .pass → ∀ tag, s.moveOf site port (some tag) = none → exec (.packetInject site port p (some tag)) s = .next s))

/-- 11 R317, R318, R323, R330 to R332, 09 R266: a request that nothing shapes is served at once: a write stores its payload in the stack's data and
nothing else, and is counted for its source; a READ answers its data, unmarked where no line fails, to its return offset. A request of
an empty key slot is recorded and counted; one beyond the data region is refused with ADDR_BOUND (R315); one shaped and not admitted waits in
its tenant's holding queue, or at its link where that is full or an earlier one waits there; a stack out of service answers with NAK_ROUTE. -/
def Obligations.StackRequestsReadAndWrite : Prop :=
  ∀ (k : StackId) (p : Packet) (key : Nat) (s : State), let x := s.stk k; let off := p.addr % 2 ^ 36; let t := p.tenant; let n := bits p.head 55 42
    let works : Prop := x.stopped = false ∧ s.diag.run = none ∧ (s.gaz.stack k).status = 0; let fits : Prop := off + pktBytes p ≤ hbmDataSize
    let link := s.linkOf k p.srcUnit; let wait (w : HeldAt) : Ans := .next (s.modStk k fun x => { x with waiting := x.waiting ++ [⟨p, [], x.keyOf p.fwkey t, link, w⟩] })
    (works → ¬ fits → exec (.hbmRequest k p []) s = .next (s.raise .addrBound (192 + k) 0 0)) ∧
    (s.StackServes k → fits → shapedSrc p.src = false → p.multicast = false → Memory.wf x.mem = true →
      Tbl.get? x.keys (keySlot p.fwkey t) = some key →
      (∀ line, Tbl.get x.zeroKey x.lineKey line = key ∧ x.isPoisoned line = false) →
      (p.mode ≤ 1 → p.len ≠ 0 → p.payload.length = p.len → p.poisoned = false → s.cnf.record = none → p.ackreq = false →
        ((Tbl.get {} s.delta.rcvd (rcvdKey (192 + k.val) p.src)).sinceAck + p.len < 4096) →
        Completes (.hbmRequest k p []) s fun u =>
          (∀ a, Memory.read (u.stk k).mem a = if off ≤ a ∧ a < off + p.len then p.payload.getD (a - off) 0 else Memory.read x.mem a) ∧
          (∀ j, j ≠ k.val → u.stk j = s.stk j) ∧ (u.stk k).keys = x.keys ∧ (u.stk k).ueCnt = x.ueCnt ∧ (u.stk k).fault = x.fault ∧
          (Tbl.get {} u.delta.rcvd (rcvdKey (192 + k.val) p.src)).bytes =
            ((Tbl.get {} s.delta.rcvd (rcvdKey (192 + k.val) p.src)).bytes + p.len) % 2 ^ 32 ∧
          u.delta.routers = s.delta.routers ∧ ChangesOnly [.hbm, .delta] s u) ∧
      (p.mode = 2 → exec (.hbmRequest k p []) s = .next ((s.modStk k id).sendData (s.entryOf p.srcUnit k)
        (directPacket { dest := p.src, src := 192 + k.val, cls := 1, mode := 1, len := n, tenant := t } (bits p.head 24 0) (readTag p)
          ((Memory.readN x.mem off n).map fun b => (b, false)))))) ∧
    (s.StackServes k → fits → shapedSrc p.src = false → p.mode ≤ 1 → p.len ≠ 0 → s.cnf.record = none →
      Tbl.get? x.keys (keySlot p.fwkey t) = none → Completes (.hbmRequest k p []) s fun u =>
        (u.stk k).mem = x.mem ∧ (u.stk k).keyMiss = satAdd 0xFFFFFFFF x.keyMiss 1 ∧ (u.stk k).keym = true ∧
        (∀ j, j ≠ k.val → u.stk j = s.stk j) ∧ u.clusters = s.clusters) ∧
    (works → fits → shapedSrc p.src = true → (∀ h ∈ x.waiting, h.at_ ≠ .input ∨ h.link ≠ link) → (x.shaper t).admits = false →
      exec (.hbmRequest k p []) s = wait (if 65536 < x.heldBytes t + p.size then .input else .tenant)) ∧
    (works → fits → (∃ h ∈ x.waiting, h.at_ = .input ∧ h.link = link) → exec (.hbmRequest k p []) s = wait .input) ∧
    ((s.gaz.stack k).status ≠ 0 → p.multicast = false → p.mode ≤ 1 → exec (.hbmRequest k p []) s =
      .next ((s.sendNak (s.siteOfUnit (192 + k.val)) 2 p).raise .nakRoute (192 + k.val) 0 0))

/-- 05 R128, R138, 06 R162, R171: every vector row is refused outside a VX cluster (ILLEGAL_BUNDLE 4); a register row with a COUNT above
4,096 is ILLEGAL_COUNT, recorded in VXE_FAULT; with an operation suspended it is VX_SUSPENDED; a busy engine holds it, and a recorded
operation that waits goes first (R140). -/
def Obligations.VectorRowsRefused : Prop :=
  ∀ e ∈ vectorRows, ∀ (c : ClusterId) (vd vs : Reg) (m : BitVec 3) (count : BitVec 13) (s : State),
    let w := encVec e.1 vd vs m count
    (clusterKind c ≠ 1 → exec (e.2 c vd vs m count) s = .next (s.enterTrap c .illegalBundle 4)) ∧
    (clusterKind c = 1 → (s.cl c).vx.run.isSome → exec (e.2 c vd vs m count) s = .next s) ∧
    (clusterKind c = 1 → (s.cl c).vx.run = none → (s.cl c).vx.resumeDue = true → (s.cl c).sq.inh = false →
      exec (e.2 c vd vs m count) s = .next (s.modCl c Cluster.resumeVx)) ∧
    (clusterKind c = 1 → s.VxIdle c → e.1 ∈ laneVops → (e.1 = 0x0B ∨ e.1 = 0x0C ∨ e.1 = 0x39 → vs.toNat % 2 = 0) →
      (4096 < count.toNat → exec (e.2 c vd vs m count) s =
        .next ((s.withCl c fun k => { k with vx := k.vx.record 1 w.toNat }).enterTrap c .illegalCount 0)) ∧
      (count.toNat ≤ 4096 → (s.cl c).vx.progress.getLsbD 63 = true → exec (e.2 c vd vs m count) s =
        .next ((s.withCl c fun k => { k with vx := k.vx.record 5 w.toNat }).enterTrap c .vxSuspended 0)))

/-- The panel after reset, before V_HK reaches its window (log entry 1): no service, no command waiting, the canonical memories; every unit as
shipped, fifteen sites of each row in service and none masked (01 R31; the reserves are the model's choice, log entry 20); the registers at
the values of their Reset columns (04 R120, R121, 05 R144, 08 R244, 09 R288, R290, 10 R310, R312, 11 R335 to R337, 12 R371 to R374, 13
R402, 14 R427, 16 R472, 21 R571, R572, 22 R593); g registers at 0 (log entry 1). -/
def Obligations.ResetLeavesTheRegistersAsTheirRulesSay : Prop :=
  let s := State.reset
  s.pending = [] ∧ s.QueueWf ∧ s.MemoriesCanonical ∧ s.boot.level = none ∧ s.out = [] ∧
  (∀ row, row < 12 → ((List.range 16).filter fun col => s.gaz.siteIn (16 * row + col)).length = 15) ∧
  (∀ u : GUnit, s.gaz.status u ≠ 1) ∧ (∀ k : StackId, s.gaz.status (.stack k) = 0) ∧ (∀ n : EngineId, s.gaz.status (.engine n) = 0) ∧
  (∀ c : ClusterId, let k := s.cl c
    k.sq.statWord = 0 ∧ k.sq.causeWord = 0 ∧ (∀ r : Reg, s.g c r = 0) ∧ k.mx.statWord = 0 ∧ k.mx.even = 6 ∧ k.mx.bankWord = 0 ∧ k.vx.stat = 0 ∧ k.vx.even = 12 ∧
    k.sx.statWord = 0 ∧ k.spd.scrubEn = true ∧ k.spd.scrubDiv = 8 ∧ k.spd.statWord = 0 ∧ (∀ a, Memory.read k.spd.mem a = 0) ∧ (s.pwr.dom c).word = 0) ∧
  (∀ x : SiteId, let r := s.delta.router x
    r.statWord = 0 ∧ r.thresh = 128 ∧ r.timeout = 10 ∧ r.window = 32 ∧ r.tlmK = 12 ∧ (∀ p, (r.port p).maxpay = 5 ∧ (r.port p).en = false) ∧
    (s.clkSite x).target = 8 ∧ (s.clkSite x).tcap = none ∧ (s.clkSite x).mcap = none ∧ (s.clkSite x).cur = 0 ∧ (s.clkSite x).thmWord = 0 ∧ s.pwr.siteWord 0 x = 0) ∧
  (∀ b hi, let e := s.levEnd b hi; e.state = 0 ∧ e.svyen = true ∧ e.mthr = 31 ∧ e.repthr = 4 ∧ e.svyper = 5) ∧
  (∀ k, (s.stk k).statWord = 0 ∧ (s.stk k).mthr = 40 ∧ (s.stk k).cap = 64000 ∧ ∀ a, Memory.read (s.stk k).mem a = 0) ∧
  (∀ n p, let d := s.lport n p; d.statWord = 0 ∧ d.rto = 8 ∧ d.uncthr = 16 ∧ d.ackus = 10) ∧ (∀ i, (s.larre.oxbow i).closed = true) ∧
  s.mer.unit.statWord = 64 ∧ (∀ d, (s.mer.die d).statWord = 0) ∧ s.cnf.statWord false = 0 ∧ s.cnf.cur = 1 ∧ s.hosts.epoch = 1 ∧
  s.pwr.pstat = 0 ∧ s.pwr.railWord = 0 ∧ s.pwr.fault = 0 ∧ s.pwr.tokWord = 0 ∧ s.pwr.inWord = 0 ∧ s.thmPstat = 0 ∧ s.diag.word = 0 ∧
  s.lgd.sessions = [] ∧ s.ten.chans = [] ∧ s.log.ring = [] ∧ s.SecretsGone

/-- 04 R96, R103, R105: the last k-step of an MMA adds to each entry of its tile, as one operation, the products of the entry's row of A and
row of B, and to no other entry; a zeroization of its scratchpad holds it (08 R242). -/
def Obligations.MmaAddsEveryProductOfItsTile : Prop :=
  ∀ (c : ClusterId) (ta tb : BitVec 128) (accb km1 : Nat) (opens : Bool) (s : State), let x := (s.cl c).mx
    let elem (d : OpDesc) (r i : Nat) : FVal := elemAt d.fmt
      (leNat (Memory.readN (s.cl c).spd.mem (rowAt d.base d.stripe d.pitch r) (rowBytes d.fmt (km1 + 1))))
      (if isScaled d.fmt then leNat (Memory.readN (s.cl c).spd.mem (d.sbase + r * d.spitch) (nBlocks d.fmt (km1 + 1))) else 0) i
    ((s.cl c).spd.zRun = true → exec (.mmaLastKstep c) s = .next s) ∧
    ((s.cl c).spd.zRun = false → x.arr = some ⟨.mma ta tb accb opens km1, true⟩ → s.SpdClean c → (opDesc tb).rows ≤ 64 →
      Completes (.mmaLastKstep c) s fun u =>
        (∀ r n, r < (opDesc ta).rows → n < (opDesc tb).rows →
          Tbl.get {} (u.cl c).mx.acc (entryIx accb r n) =
            ((Tbl.get {} x.acc (entryIx accb r n)).addTerms (mmaAnchor ta tb)
              ((List.range (km1 + 1)).map fun i => (prodTerm (elem (opDesc ta) r i) (elem (opDesc tb) n i)).1)).1) ∧
        ∀ i, (∀ r n, r < (opDesc ta).rows → n < (opDesc tb).rows → i ≠ entryIx accb r n) →
          Tbl.get {} (u.cl c).mx.acc i = Tbl.get {} x.acc i)

/-- 16 R457, R458, R461, R463 to R465, R468 to R470: links come up and go down, PERST_N and a Function Level Reset destroy the channels created
through them, the loss of the primary sets a deadline at which, or at the first link after which, the secondary takes the role and the
epoch advances; role requests are decided by windows of a tick; a read of host memory that times out is poisoned; an IDE failure makes
its stream insecure; a pod's head forwards its members' doorbells, and a member that lost its head holds its channels. -/
def Obligations.HostPortsAndRoles : Prop :=
  (∀ (port : Fin 2) (tlp : Bool) (s : State), let x := s.hosts.port port
    (x.perst = true ∨ x.katFail = true ∨ s.pwr.vhk = false → exec (.hostLinkUp port tlp) s = .next s) ∧
    (x.perst = false → x.katFail = false → s.pwr.vhk = true → Completes (.hostLinkUp port tlp) s fun u => (u.hosts.port port).linkUp = true ∧
      (s.hosts.promoteAtLink = true → s.hosts.primary ≠ port.val → Promoted port s u) ∧
      (s.hosts.promoteAtLink = false ∨ s.hosts.primary = port.val → u = (s.withHost port fun x => { x with linkUp := true }).modHosts fun h =>
        { h with pend := if tlp ∧ s.hosts.primary = port.val ∧ s.mcount ≤ s.hosts.pend.getD 0 then none else s.hosts.pend })) ∧
    (x.linkUp = false → exec (.hostLinkDown port) s = .next s) ∧
    (x.linkUp = true → Completes (.hostLinkDown port) s fun u => (u.hosts.port port).linkUp = false ∧ s.LosesPrimary u port ∧
      (s.hosts.primary = port.val → s.hosts.pend = none → ∀ e ∈ u.lgd.sessions, ¬ (e.2.expertOf port = true)) ∧
      u.ten.chans = s.ten.chans.map (fun e => (e.1, if e.2.state ≠ 0 ∧ e.2.entries.any (fun e => e.crosses port) then { e.2 with state := 3, overrun := true } else e.2)) ∧
      (u.hosts.port (1 - port.val)) = s.hosts.port (1 - port.val) ∧ ChangesOnly [.hosts, .ten, .lgd, .out] s u) ∧
    exec (.perstNDeassert port) s = .next (s.withHost port fun x => { x with perst := false }) ∧
    (Completes (.perstNAssert port) s fun u => u.hosts.port port = { perst := true, katFail := x.katFail } ∧
      (u.hosts.port (1 - port.val)) = s.hosts.port (1 - port.val) ∧ s.LosesPrimary u port ∧ u.hosts.primary = s.hosts.primary ∧
      (∀ i, (s.ten.chan i).port = port.val → (u.ten.chan i).state = 0) ∧
      (s.ChansListed → ∀ i, (s.ten.chan i).port ≠ port.val → u.ten.chan i = s.ten.chan i) ∧
      (∀ e ∈ u.lgd.sessions, Endpoint.kind e.2.ep ≠ port.val) ∧ (∀ e ∈ u.ctg.spdm, Endpoint.kind e.2.ep ≠ port.val))) ∧
  (∀ (port : Fin 2) (fn : Fin 513) (s : State), Completes (.functionLevelReset port fn) s fun u =>
    (∀ i, (s.ten.chan i).port = port.val → (s.ten.chan i).fn = fn.val → (u.ten.chan i).state = 0) ∧
    (s.ChansListed → ∀ i, (s.ten.chan i).port ≠ port.val ∨ (s.ten.chan i).fn ≠ fn.val → u.ten.chan i = s.ten.chan i) ∧
    u.hosts = s.hosts ∧ u.lgd = s.lgd) ∧
  (∀ (port : Fin 2) (w : Word) (p o : Nat) (g : Nat × Nat) (t : Nat) (s : State), let x := s.hosts.port port
    let e := w.toNat / 2 ^ 32
    (s.hosts.pend = none → w.getLsbD 0 = false ∨ x.goAt.isSome ∨ s.isMember = true →
      exec (.roleRequest port w) s = .next (s.withHost port fun x => { x with reqEpoch := e })) ∧
    (s.hosts.pend = none → w.getLsbD 0 = true → x.goAt = none → s.isMember = false → exec (.roleRequest port w) s =
      .next (s.withHost port fun x => { x with reqEpoch := e, goAt := some (s.mcount, e), result := 1 })) ∧
    ((s.hosts.port 0).goAt = none → (s.hosts.port 1).goAt = none → exec .roleWindowDecision s = .next s) ∧
    ((p = 0 ∧ o = 1) ∨ (p = 1 ∧ o = 0) → (s.hosts.port p).goAt = some g →
      ((s.hosts.port o).goAt = none → tickOf s.mcount ≤ tickOf g.1 → exec .roleWindowDecision s = .next s) ∧
      ((s.hosts.port o).goAt = none → tickOf g.1 < tickOf s.mcount → s.hosts.pend = none →
        (g.2 ≠ s.hosts.epoch → exec .roleWindowDecision s = .next (s.withHost p fun x => { x with goAt := none, result := 4 })) ∧
        (g.2 = s.hosts.epoch → Completes .roleWindowDecision s fun u => Promoted (if s.hosts.primary = p then o else p) s u ∧
          u.hosts.port p = { s.hosts.port p with goAt := none, result := 2 } ∧ u.hosts.port o = s.hosts.port o ∧
          (∀ y ∈ u.lgd.sessions, ¬ (y.2.expertOf s.hosts.primary = true)) ∧ ChangesOnly [.hosts, .lgd, .out] s u)) ∧
      (∀ h, (s.hosts.port o).goAt = some h → tickOf h.1 = tickOf g.1 → tickOf g.1 < tickOf s.mcount → s.hosts.pend = none →
        Completes .roleWindowDecision s fun u => u.hosts.primary = s.hosts.primary ∧ u.hosts.epoch = s.hosts.epoch ∧
          u.hosts.port p = { s.hosts.port p with goAt := none, result := 3 } ∧ u.hosts.port o = { s.hosts.port o with goAt := none, result := 3 } ∧
          ChangesOnly [.hosts] s u)) ∧
    (s.hosts.pend = none ∨ s.hosts.pend = some t ∧ s.mcount ≤ t → exec .promotionDeadline s = .next s) ∧
    (s.hosts.pend = some t → t < s.mcount → let o := 1 - s.hosts.primary
      ((s.hosts.port o).linkUp = true → Completes .promotionDeadline s fun u => Promoted o s u ∧ u.hosts.ports = s.hosts.ports ∧ ChangesOnly [.hosts, .lgd, .out] s u) ∧
      ((s.hosts.port o).linkUp = false → exec .promotionDeadline s = .next (s.modHosts fun h => { h with pend := none, promoteAtLink := true }))) ∧
    (s.hosts.selectAt = none ∨ s.hosts.selectAt = some t ∧ s.now < t + 10000000000 → exec .primarySelectionTimeout s = .next s) ∧
    (s.hosts.selectAt = some t → t + 10000000000 ≤ s.now → let q := s.hosts.primary
      ((s.hosts.port q).linkUp = true ∨ (s.hosts.port (1 - q)).linkUp = false →
        exec .primarySelectionTimeout s = .next (s.modHosts fun h => { h with selectAt := none })) ∧
      ((s.hosts.port q).linkUp = false → (s.hosts.port (1 - q)).linkUp = true → Completes .primarySelectionTimeout s fun u =>
        u.hosts = { s.hosts with selectAt := none, primary := 1 - q } ∧ ChangesOnly [.hosts, .out] s u))) ∧
  (∀ (i : Fin 4096) (q : Nat) (e : SubEntry) (p f a p' f' a' : Nat) (c : ClusterId) (tag : Nat) (s : State),
    ((s.ten.chan i).entries = [] → exec (.hostReadTimeout (.dma i q)) s = .next s) ∧
    ((s.cl c).sq.moves = [] → exec (.hostReadTimeout (.move c tag)) s = .next s) ∧
    ((s.ten.chan i).entries = [e] → (s.ten.chan i).state = 1 → e.seq = q → e.kind = 2 → e.started = true → e.done = none → e.flag = false →
      s.memHoldsAt 0x140 (s.ten.chan i).tenant (s.ten.chan i).cq = false → decodeAddr e.a.toNat = .ok (.host p f a) → decodeAddr e.b.toNat = .ok (.host p' f' a') →
      Completes (.hostReadTimeout (.dma i q)) s fun u => ∃ bs : List Byte, bs.length = e.c.toNat ∧
        u = { (s.entryDone i).emit (.hostWrite p' f' a' bs (List.range e.c.toNat)) with freeCtr := s.freeCtr + e.c.toNat })) ∧
  (∀ (port : Fin 2) (stream : Fin 256) (x : IdeStream) (s : State), Tbl.get? (s.hosts.port port).ide stream = some x →
    exec (.ideIntegrityFailure port stream) s = .next (s.withHost port fun y => { y with ide := Tbl.set y.ide stream { x with secure := false, insecure := true } })) ∧
  ∀ (port : Fin 2) (m : Fin 64) (page : Fin 4096) (handle prod : Word32) (id : Nat) (since : Word) (bound : Bool) (s : State),
    (m = 0 ∨ s.hosts.members[m.val - 1]? = none ∨ s.hosts.members[m.val - 1]? = some 0xFFFF ∨ m.val ∈ s.hosts.lost ∨ (s.hosts.port port).linkUp = false →
      exec (.podDoorbell (.rung port m) page handle prod) s = .next s) ∧
    (m ≠ 0 → s.hosts.members[m.val - 1]? = some id → id ≠ 0xFFFF → m.val ∉ s.hosts.lost → (s.hosts.port port).linkUp = true → s.hosts.pend = none →
      exec (.podDoorbell (.rung port m) page handle prod) s = .next (s.emit (.podBell id page handle.toNat prod.toNat))) ∧
    (s.isMember = false ∨ s.fw.accepted 1 = false → exec (.podDoorbell (.arrived bound) page handle prod) s = .next s) ∧
    (s.isMember = true → s.fw.accepted 1 = true →
      (bound = false ∨ s.ten.current handle.toNat = false ∨ handleIndex handle.toNat ≠ page.val →
        exec (.podDoorbell (.arrived bound) page handle prod) s = .next (s.modTen Tenancy.countStale)) ∧
      (bound = true → s.ten.current handle.toNat = true → handleIndex handle.toNat = page.val → (s.ten.chan page).state = 3 →
        exec (.podDoorbell (.arrived bound) page handle prod) s = .next (s.withChan page fun c => { c with prod := prod.toNat }))) ∧
    (let due := since.toNat + s.obj 0x1101 0 * 1000000;
      (s.mcount < due ∨ m.val ∈ s.hosts.lost → exec (.podPathLoss (some m) since) s = .next s) ∧
      (due ≤ s.mcount → m.val ∉ s.hosts.lost → exec (.podPathLoss (some m) since) s = .next (s.modHosts fun h => { h with lost := m.val :: h.lost }))) ∧
    (s.isMember = false → exec (.podPathLoss none since) s = .next s) ∧
    (s.isMember = true → exec (.podPathLoss none since) s = .next ((s.modHosts fun h => { h with headLost := true }).modTen fun t => { t with
      chans := t.chans.map fun e => (e.1, if e.2.state = 1 then { e.2 with state := 3 } else e.2) }))

/-- 14 R405 to R409, R411 to R414, R420: a heartbeat goes to every Larre port that is up; one of a matching neighbour, in time, ends its silence, a
late one is counted, a mismatched one takes the membership; three quiet ticks, or the fence command, fence the member and halt its
tenant's clusters. A request or an accusation opens a vote; ballots and decisions in time join it; its rounds end at their deadlines
and its verdict is computed from the ballots; a verdict that retires this member fences it, a STOP makes the vote diverge, and at T_sw
the action is applied. -/
def Obligations.ConfluenceHeartbeatsAndVotes : Prop :=
  (∀ s : State, s.cnf.record = none → exec .heartbeatSend s = .next (s.emits
    ((s.larrePorts.filter fun p => (s.larre.port (p / 4) (p % 4)).state == 2).map fun p => Msg.link p 2
      [flg 0 s.cnf.member + flg 1 s.cnf.fenced + flg 2 s.cnf.vote.isSome + flg 3 s.isStandby, s.identity, 0, (s.fw.img 1).ifgen,
        tickOf s.mcount, 0, 0]))) ∧
  (∀ (n : EngineId) (p : Fin 4) (ident catchment ifgen : Half) (tick : BitVec 48) (rcrc : Word32) (r : Catchment) (me j : Nat) (s : State),
    s.Entry r me → r.byIdentity ident.toNat = some j → j ≠ me → s.retiredPeer n p = false →
      let same := catchment.toNat = r.ident ∧ rcrc.toNat = r.crc ∧ ifgen.toNat = r.ifgen ∧ (s.fw.img 1).ifgen = r.ifgen
      let now := s.dieCount (0x100 + n); let x := s.neigh j
      (¬ same → exec (.heartbeat n p ident catchment ifgen tick rcrc) s = .next (s.modCnf fun c => { c with mismatch := true, member := false })) ∧
      (same → Completes (.heartbeat n p ident catchment ifgen tick rcrc) s fun u => let y := u.neigh j
        4 * n.val + p.val ∈ y.matched ∧
        (now ≤ tickEnd tick.toNat → y.heard = some (Nat.max tick.toNat (x.heard.getD 0)) ∧ y.silent = 0 ∧ y.suspect = false ∧ u.cnf.late = s.cnf.late) ∧
        (tickEnd tick.toNat < now → y.heard = x.heard ∧ y.silent = x.silent ∧ u.cnf.late = satAdd 0xFFFFFFFF s.cnf.late 1) ∧
        (∀ k, k ≠ j → u.neigh k = s.neigh k) ∧ (s.cnf.member = true → u.cnf.member = true) ∧ ChangesOnly [.cnf] s u)) ∧
  (∀ (tick : BitVec 48) (s : State), let c := s.cnf
    (c.member = false ∨ s.mcount ≤ tickEnd tick.toNat → exec (.heartbeatTickEnd tick) s = .next s) ∧
    (c.member = true → tickEnd tick.toNat < s.mcount → c.neigh ≠ [] → (∀ e ∈ c.neigh, ∃ t, e.2.heard = some t ∧ tick.toNat ≤ t) →
      exec (.heartbeatTickEnd tick) s = .next (s.modCnf fun c => { c with hbmiss := satAdd 0xFFFFFFFF c.hbmiss 0, quietTicks := 0 })) ∧
    (c.member = true → tickEnd tick.toNat < s.mcount → c.fenced = false → c.quietTicks = 2 → (∀ e ∈ c.neigh, e.2.heard = none) →
      Completes (.heartbeatTickEnd tick) s fun u => u.cnf.fenced = true ∧ u.cnf.quietTicks = 3) ∧
    (c.fenced = true → exec .cnfFence s = .next s) ∧
    (c.fenced = false → Completes .cnfFence s fun u => u.cnf = { c with fenced := true } ∧
      (∀ r, c.record = some r → ∀ x ∈ s.tenantClusters r.tenant, (u.cl x).sq.run = false) ∧
      (∀ x, (∀ r, c.record = some r → x ∉ s.tenantClusters r.tenant) → u.cl x = s.cl x) ∧ ChangesOnly [.cnf, .clusters, .out] s u) ∧
    (c.member = false ∨ c.fenced = true → exec .rewindRequest s = .next s) ∧
    (∀ r me, s.Entry r me → c.member = true → c.fenced = false → c.vote = none → Completes .rewindRequest s fun u => ∃ v b : _,
      u.cnf.vote = some v ∧ v.vseq = c.vseq + 1 ∧ v.a = tickOf s.mcount ∧ v.round = 1 ∧ Tbl.get? v.ballots me = some b ∧
      (b : Ballot).req = BitVec.ofNat 8 (c.reqs ||| 1) ∧ u.cnf.vseq = c.vseq + 1 ∧ ChangesOnly [.cnf, .out] s u) ∧
    exec (.cnfCounterRead true) s = .next (s.modCnf fun c => { c with late := 0 }) ∧
    exec (.cnfCounterRead false) s = .next (s.modCnf fun c => { c with hbmiss := 0 })) ∧
  (∀ (ident catchment : Half) (vseq a : Word32) (b : Ballot) (bs : List (Fin 64 × Ballot)) (i : Nat) (v : Vote) (reason : Byte) (s : State),
    let t := fullTick (tickOf s.mcount) a.toNat
    (s.fromEntry ident catchment = none → exec (.accuse ident catchment vseq a) s = .next s ∧ exec (.ballot ident catchment vseq b) s = .next s ∧
      exec (.decide ident catchment vseq bs) s = .next s ∧ exec (.confluenceStop ident catchment reason) s = .next s) ∧
    (s.From ident catchment i →
      (s.cnf.member = true → s.cnf.fenced = false →
        (s.cnf.vote = none → vseq.toNat ≠ s.cnf.vseq + 1 → exec (.accuse ident catchment vseq a) s = .next s) ∧
        (s.cnf.vote = none → vseq.toNat = s.cnf.vseq + 1 → Completes (.accuse ident catchment vseq a) s fun u => ∃ w : Vote,
          u.cnf.vote = some w ∧ w.vseq = vseq.toNat ∧ w.a = t ∧ w.round = 1 ∧ ChangesOnly [.cnf, .out] s u) ∧
        (s.cnf.vote = some v → vseq.toNat = v.vseq → v.round = 1 → exec (.accuse ident catchment vseq a) s =
          .next (s.modCnf fun c => { c with vote := some { v with a := Nat.min v.a t }, atick := Nat.min v.a t }))) ∧
      (s.cnf.vote = some v →
        (vseq.toNat = v.vseq → s.mcount ≤ tickEnd (v.a + 2) → exec (.ballot ident catchment vseq b) s =
          .next (s.modCnf fun c => { c with vote := some { v with ballots := Tbl.set v.ballots i b } })) ∧
        (vseq.toNat ≠ v.vseq ∨ tickEnd (v.a + 2) < s.mcount → exec (.ballot ident catchment vseq b) s = .next s) ∧
        (vseq.toNat = v.vseq → v.round ≤ 2 → s.mcount ≤ tickEnd (v.a + 5) → Completes (.decide ident catchment vseq bs) s fun u => ∃ w : Vote,
          u.cnf.vote = some w ∧ (∀ k x, Tbl.get? v.ballots k = some x → Tbl.get? w.ballots k = some x) ∧
          (∀ e ∈ bs, (Tbl.get? w.ballots e.1).isSome) ∧ w.round = v.round ∧ ChangesOnly [.cnf] s u) ∧
        exec (.confluenceStop ident catchment reason) s =
          .next (s.modCnf fun c => { c with diverge := true, vote := some { v with diverge := true } })) ∧
      (s.cnf.vote = none → reason ≠ 2 → exec (.confluenceStop ident catchment reason) s = .next s) ∧
      (s.cnf.vote = none → Completes (.confluenceStop ident catchment 2) s fun u => u.cnf = { s.cnf with stopped := true }))) ∧
  ∀ (r : Catchment) (v : Vote) (mask tsw e act : Nat) (n : EngineId) (p : Fin 4) (catchment : Half) (vseq digest : Word32) (ret tw : Word)
    (action : Byte) (s : State), s.cnf.record = some r →
    (catchment.toNat ≠ r.ident → exec (.verdict n p catchment vseq digest ret tw action) s = .next s) ∧
    (∀ me, s.Entry r me → catchment.toNat = r.ident → ret.getLsbD me = true →
      Completes (.verdict n p catchment vseq digest ret tw action) s fun u => u.cnf.fenced = true) ∧
    (s.cnf.vote = none → exec .voteRound1Deadline s = .next s ∧ exec .voteFreeze s = .next s ∧ exec .verdictSwitch s = .next s) ∧
    (s.cnf.vote = some v →
      (v.round = 1 → tickEnd (v.a + 2) < s.mcount → Completes .voteRound1Deadline s fun u =>
        u.cnf = { s.cnf with vote := some { v with round := 2 } } ∧ ChangesOnly [.cnf, .out] s u) ∧
      (v.round ≠ 1 ∨ s.mcount ≤ tickEnd (v.a + 2) → exec .voteRound1Deadline s = .next s) ∧
      (v.round ≠ 2 ∨ s.mcount ≤ tickEnd (v.a + 5) → exec .voteFreeze s = .next s) ∧
      (v.round = 2 → tickEnd (v.a + 5) < s.mcount → v.others = [] → v.diverge = false → Completes .voteFreeze s fun u =>
        let w := computeVerdict r v.ballots; let t := (v.a + 17) * 100000
        u.cnf.vote = some { v with round := 3, verdict := some (w.retired, t, w.epoch, w.action) } ∧
        u.cnf.digest = crc32 (verdictPayload w t) ∧ u.cnf.action = w.action ∧ (w.action = 3 → u.cnf.fenced = true)) ∧
      (v.verdict = none → exec .verdictSwitch s = .next s) ∧
      (v.verdict = some (mask, tsw, e, act) → s.mcount < tsw → exec .verdictSwitch s = .next s) ∧
      (v.verdict = some (mask, tsw, e, act) → tsw ≤ s.mcount → s.cnf.waitAccuse = false → Completes .verdictSwitch s fun u =>
        u.cnf.vote = none ∧ u.cnf.retired = s.cnf.retired ||| BitVec.ofNat 64 mask ∧
        (v.diverge = true ∨ act = 2 → u.cnf.stopped = true ∧ u.cnf.action = 2) ∧
        (v.diverge = false → u.cnf.action = act ∧ (act = 3 → u.cnf.fenced = true) ∧
          (act = 1 → u.cnf.sealedParity = [e % 2] ∧ u.cnf.cur = e + 1 ∧ u.cnf.last = e ∧ u.cnf.close = none ∧
            ∀ c ∈ s.tenantClusters r.tenant, (u.cl c).sq.run = false ∧ (u.cl c).sq.moves = []) ∧
          (act = 0 → u = s.modCnf fun c => { c with
            vote := none, action := 0, retired := c.retired ||| BitVec.ofNat 64 mask, reqs := c.waitReqs, waitReqs := 0, waitAccuse := false }))))

/-- 14 R416 to R419, R421, R422: a close is armed at the start of a tick two ahead, seals its parity when it begins, drains its mirror, sends its
plots' digests, and records its epoch once every member's EPOCH_OK has come; a digest that does not match, a limit that passes or a cluster
that is not quiet fails it, both parities sealed, with a vote asked for. A pull that agrees completes the rewind. -/
def Obligations.EpochClosesRunToTheirEnd : Prop :=
  (∀ (c : Word) (s : State),
    (c.toNat % 100000 = 0 → s.mcount + 200000 ≤ c.toNat → exec (.epochCloseArm c) s = .next (s.modCnf fun x => { x with eclose := c.toNat })) ∧
    (c.toNat % 100000 ≠ 0 ∨ c.toNat < s.mcount + 200000 → exec (.epochCloseArm c) s = .next s)) ∧
  (∀ (r : Catchment) (s : State), let c := s.cnf
    let begun (s : State) : State := s.modCnf fun c => { c with
      close := some { epoch := c.cur, at_ := c.eclose }
      sealedParity := if c.sealedParity.contains (c.cur % 2) then c.sealedParity else c.cur % 2 :: c.sealedParity }
    (c.record = none ∨ c.eclose = 0 ∨ s.mcount < c.eclose ∨ c.close.isSome ∨ c.member = false → exec .epochClose s = .next s) ∧
    (c.record = some r → c.eclose ≠ 0 → c.eclose ≤ s.mcount → c.close = none → c.member = true → c.fenced = false →
      ((∀ x ∈ s.tenantClusters r.tenant, (s.cl x).closeQuiet = true) → exec .epochClose s = .next (begun s)) ∧
      ((∃ x ∈ s.tenantClusters r.tenant, (s.cl x).closeQuiet = false) → Completes .epochClose s fun u =>
        u.cnf.close = none ∧ u.cnf.eclose = 0 ∧ u.cnf.sealedParity = [0, 1] ∧ u.cnf.eabort = true ∧ ChangesOnly [.cnf, .out] s u)) ∧
    (c.close = none → exec .mirrorDrainDone s = .next s ∧ exec .drainLimitExpiry s = .next s ∧ exec .closeWindowExpiry s = .next s) ∧
    (c.pull = false → ∀ ok ps, exec (.pullComplete ok ps) s = .next s) ∧
    (c.record = some r → c.pull = true → Completes (.pullComplete true []) s fun u =>
      u.cnf = { c with pull := false, rwdone := true } ∧ ChangesOnly [.cnf, .out] s u)) ∧
  (∀ (x : Close) (r : Catchment) (me : Nat) (m : MirrorEntry) (slot : BitVec 6) (s : State), s.cnf.close = some x →
    let limit := x.at_ + s.obj 0x5404 0 / 65536 * 100000; let window := x.at_ + s.obj 0x5404 0 % 65536 * 1000000
    let failed (u : State) : Prop := u.cnf.close = none ∧ u.cnf.eclose = 0 ∧ u.cnf.sealedParity = [0, 1] ∧ u.cnf.eabort = true ∧ ChangesOnly [.cnf, .out] s u
    (s.cnf.mirror ≠ 0 ∨ s.cnf.mirrorQ ≠ [] → exec .mirrorDrainDone s = .next s) ∧
    (s.cnf.mirror = 0 → s.cnf.mirrorQ = [] → s.Entry r me → (∃ e ∈ s.ownSlots (x.epoch % 2), (x.epoch, e.slot) ∉ x.matched) →
      exec .mirrorDrainDone s = .next (s.modCnf fun c => { c with close := some { x with drained := true } })) ∧
    (s.cnf.mirror = 0 → s.cnf.mirrorQ = [] → s.Entry r me → s.ownSlots (x.epoch % 2) = [] → x.sentOk = false →
      (∃ i, i < r.entries.length ∧ i ≠ me ∧ i ∉ x.oks ∧ (r.entries[i]?.map (·.standby)) = some false ∧ s.cnf.retired.getLsbD i = false) →
      Completes .mirrorDrainDone s fun u => u.cnf = { s.cnf with close := some { x with drained := true, sentOk := true, oks := me :: x.oks } } ∧
        ChangesOnly [.cnf, .out] s u) ∧
    (x.drained = true ∨ s.mcount < limit → exec .drainLimitExpiry s = .next s) ∧
    (x.drained = false → limit ≤ s.mcount → Completes .drainLimitExpiry s failed) ∧
    (s.mcount < window → exec .closeWindowExpiry s = .next s) ∧ (window ≤ s.mcount → Completes .closeWindowExpiry s failed) ∧
    (s.Entry r me → (s.ownSlots (x.epoch % 2)).find? (fun e => e.slot == slot.toNat) = some m → x.drained = true →
      let d := s.plotDigest r.tenant m.base m.length
      exec (.plotDigestDone slot) s = .next ((s.modCnf fun c => { c with
        close := some { x with digests := (x.epoch, m.slot, d) :: x.digests }, recorded := (x.epoch, m.slot, d) :: c.recorded }).emit
          (.confluence ((r.entries[me]?.map (·.buddy)).getD 0xFFFF) 5 [x.epoch, m.slot, m.parity, d])))) ∧
  ∀ (ident catchment : Half) (epoch : Word32) (slot : BitVec 6) (parity : Byte) (crc : Word) (i : Nat) (x : Close) (r : Catchment) (m : MirrorEntry)
    (k : Nat) (pl : Plot) (me : Nat) (s : State), s.Entry r me → s.From ident catchment i →
    (r.manifest.find? (fun e => e.owner == i && e.slot == slot.toNat && e.parity == parity.toNat) = some m →
      s.ten.plots.find? (fun e => e.2.valid && e.2.tenant == r.tenant && e.2.slot == m.mslot) = some (k, pl) →
      exec (.digest ident catchment epoch slot parity crc) s = .next (s.emit (.confluence ident.toNat 6
        [epoch.toNat, slot.toNat, parity.toNat, crc.toNat, if s.plotDigest r.tenant pl.base m.length = crc.toNat then 1 else 0]))) ∧
    (s.cnf.close = none → exec (.dmatch ident catchment epoch slot true) s = .next s ∧ exec (.epochOk ident catchment epoch) s = .next s) ∧
    (s.cnf.close = some x →
      (epoch.toNat ≠ x.epoch → exec (.dmatch ident catchment epoch slot true) s = .next s ∧ exec (.epochOk ident catchment epoch) s = .next s) ∧
      (epoch.toNat = x.epoch →
        (Completes (.dmatch ident catchment epoch slot false) s fun u => u.cnf.close = none ∧ u.cnf.emism = true ∧ u.cnf.sealedParity = [0, 1] ∧
          ChangesOnly [.cnf, .out] s u) ∧
        (x.drained = false → exec (.dmatch ident catchment epoch slot true) s = .next (s.modCnf fun c => { c with
          close := some { x with matched := (x.epoch, slot.toNat) :: x.matched } })) ∧
        (x.sentOk = false → exec (.epochOk ident catchment epoch) s = .next (s.modCnf fun c => { c with close := some { x with oks := i :: x.oks } })) ∧
        (x.sentOk = true → (∀ j, j < r.entries.length → (r.entries[j]?.map (·.standby)) = some false → s.cnf.retired.getLsbD j = false → j ∈ i :: x.oks) →
          Completes (.epochOk ident catchment epoch) s fun u => u.cnf = { s.cnf with
            last := x.epoch, cur := x.epoch + 1, lstep := s.cnf.nstep, close := none, eclose := 0, sealedParity := [x.epoch % 2] } ∧
            ChangesOnly [.cnf, .delta, .out] s u)))
end

