-- ==== Sys2Proof/Laws/Dispatch.lean ====
section
/-!
SUPPORT. Each command's arm of exec: the meaning it calls.
-/
namespace Sys2Proof.Machine

variable (s : State)

@[simp] theorem exec_gazetteerChangeSet es : exec (.gazetteerChangeSet es) s = execGazetteerChangeSet es s := rfl
@[simp] theorem exec_expertStatusCommand u st : exec (.expertStatusCommand u st) s = execExpertStatusCommand u st s := rfl
@[simp] theorem exec_reserveActivate site : exec (.reserveActivate site) s = execReserveActivate site s := rfl
@[simp] theorem exec_reservePowerUp : exec (.reservePowerUp) s = execReservePowerUp s := rfl
@[simp] theorem exec_reserveSelfTest rs : exec (.reserveSelfTest rs) s = execReserveSelfTest rs s := rfl
@[simp] theorem exec_reserveLinkTraining bs : exec (.reserveLinkTraining bs) s = execReserveLinkTraining bs s := rfl
@[simp] theorem exec_reserveEdition t tsw : exec (.reserveEdition t tsw) s = execReserveEdition t tsw s := rfl
@[simp] theorem exec_activationComplete : exec (.activationComplete) s = execActivationComplete s := rfl
@[simp] theorem exec_chartLoad p chart syms start : exec (.chartLoad p chart syms start) s = execChartLoad p chart syms start s := rfl
@[simp] theorem exec_mma c ta tb accb opens km1 : exec (.mma c ta tb accb opens km1) s = execMma c ta tb accb opens km1 s := rfl
@[simp] theorem exec_mread c td accb : exec (.mread c td accb) s = execMread c td accb s := rfl
@[simp] theorem exec_mspill c td accb cut : exec (.mspill c td accb cut) s = execMspill c td accb cut s := rfl
@[simp] theorem exec_mcomb c td accb cut cutself : exec (.mcomb c td accb cut cutself) s = execMcomb c td accb cut cutself s := rfl
@[simp] theorem exec_mmaFirstKstep c : exec (.mmaFirstKstep c) s = execMmaFirstKstep c s := rfl
@[simp] theorem exec_mmaLastKstep c : exec (.mmaLastKstep c) s = execMmaLastKstep c s := rfl
@[simp] theorem exec_readoutStart c : exec (.readoutStart c) s = execReadoutStart c s := rfl
@[simp] theorem exec_readoutComplete c : exec (.readoutComplete c) s = execReadoutComplete c s := rfl
@[simp] theorem exec_mxeCeilRead c : exec (.mxeCeilRead c) s = execMxeCeilRead c s := rfl
@[simp] theorem exec_vaddF c vd vs m count : exec (.vaddF c vd vs m count) s = execVaddF c vd vs m count s := rfl
@[simp] theorem exec_vsubF c vd vs m count : exec (.vsubF c vd vs m count) s = execVsubF c vd vs m count s := rfl
@[simp] theorem exec_vmulF c vd vs m count : exec (.vmulF c vd vs m count) s = execVmulF c vd vs m count s := rfl
@[simp] theorem exec_vminF c vd vs m count : exec (.vminF c vd vs m count) s = execVminF c vd vs m count s := rfl
@[simp] theorem exec_vmaxF c vd vs m count : exec (.vmaxF c vd vs m count) s = execVmaxF c vd vs m count s := rfl
@[simp] theorem exec_vaddH c vd vs m count : exec (.vaddH c vd vs m count) s = execVaddH c vd vs m count s := rfl
@[simp] theorem exec_vsubH c vd vs m count : exec (.vsubH c vd vs m count) s = execVsubH c vd vs m count s := rfl
@[simp] theorem exec_vmulH c vd vs m count : exec (.vmulH c vd vs m count) s = execVmulH c vd vs m count s := rfl
@[simp] theorem exec_vminH c vd vs m count : exec (.vminH c vd vs m count) s = execVminH c vd vs m count s := rfl
@[simp] theorem exec_vmaxH c vd vs m count : exec (.vmaxH c vd vs m count) s = execVmaxH c vd vs m count s := rfl
@[simp] theorem exec_vfmaF c vd vs m count : exec (.vfmaF c vd vs m count) s = execVfmaF c vd vs m count s := rfl
@[simp] theorem exec_vfmaH c vd vs m count : exec (.vfmaH c vd vs m count) s = execVfmaH c vd vs m count s := rfl
@[simp] theorem exec_vcvtF32ToBf16 c vd vs m count : exec (.vcvtF32ToBf16 c vd vs m count) s = execVcvtF32ToBf16 c vd vs m count s := rfl
@[simp] theorem exec_vcvtBf16ToF32 c vd vs m count : exec (.vcvtBf16ToF32 c vd vs m count) s = execVcvtBf16ToF32 c vd vs m count s := rfl
@[simp] theorem exec_vcvtF32ToF16 c vd vs m count : exec (.vcvtF32ToF16 c vd vs m count) s = execVcvtF32ToF16 c vd vs m count s := rfl
@[simp] theorem exec_vcvtF16ToF32 c vd vs m count : exec (.vcvtF16ToF32 c vd vs m count) s = execVcvtF16ToF32 c vd vs m count s := rfl
@[simp] theorem exec_viadd c vd vs m count : exec (.viadd c vd vs m count) s = execViadd c vd vs m count s := rfl
@[simp] theorem exec_visub c vd vs m count : exec (.visub c vd vs m count) s = execVisub c vd vs m count s := rfl
@[simp] theorem exec_vand c vd vs m count : exec (.vand c vd vs m count) s = execVand c vd vs m count s := rfl
@[simp] theorem exec_vor c vd vs m count : exec (.vor c vd vs m count) s = execVor c vd vs m count s := rfl
@[simp] theorem exec_vxor c vd vs m count : exec (.vxor c vd vs m count) s = execVxor c vd vs m count s := rfl
@[simp] theorem exec_vshl c vd vs m count : exec (.vshl c vd vs m count) s = execVshl c vd vs m count s := rfl
@[simp] theorem exec_vshr c vd vs m count : exec (.vshr c vd vs m count) s = execVshr c vd vs m count s := rfl
@[simp] theorem exec_vsra c vd vs m count : exec (.vsra c vd vs m count) s = execVsra c vd vs m count s := rfl
@[simp] theorem exec_vcmpEqF c vd vs m count : exec (.vcmpEqF c vd vs m count) s = execVcmpEqF c vd vs m count s := rfl
@[simp] theorem exec_vcmpNeF c vd vs m count : exec (.vcmpNeF c vd vs m count) s = execVcmpNeF c vd vs m count s := rfl
@[simp] theorem exec_vcmpLtF c vd vs m count : exec (.vcmpLtF c vd vs m count) s = execVcmpLtF c vd vs m count s := rfl
@[simp] theorem exec_vcmpLeF c vd vs m count : exec (.vcmpLeF c vd vs m count) s = execVcmpLeF c vd vs m count s := rfl
@[simp] theorem exec_vcmpEqH c vd vs m count : exec (.vcmpEqH c vd vs m count) s = execVcmpEqH c vd vs m count s := rfl
@[simp] theorem exec_vcmpNeH c vd vs m count : exec (.vcmpNeH c vd vs m count) s = execVcmpNeH c vd vs m count s := rfl
@[simp] theorem exec_vcmpLtH c vd vs m count : exec (.vcmpLtH c vd vs m count) s = execVcmpLtH c vd vs m count s := rfl
@[simp] theorem exec_vcmpLeH c vd vs m count : exec (.vcmpLeH c vd vs m count) s = execVcmpLeH c vd vs m count s := rfl
@[simp] theorem exec_vcmpEqI c vd vs m count : exec (.vcmpEqI c vd vs m count) s = execVcmpEqI c vd vs m count s := rfl
@[simp] theorem exec_vcmpNeI c vd vs m count : exec (.vcmpNeI c vd vs m count) s = execVcmpNeI c vd vs m count s := rfl
@[simp] theorem exec_vcmpLtI c vd vs m count : exec (.vcmpLtI c vd vs m count) s = execVcmpLtI c vd vs m count s := rfl
@[simp] theorem exec_vcmpLeI c vd vs m count : exec (.vcmpLeI c vd vs m count) s = execVcmpLeI c vd vs m count s := rfl
@[simp] theorem exec_vbcast c vd vs m count : exec (.vbcast c vd vs m count) s = execVbcast c vd vs m count s := rfl
@[simp] theorem exec_vexp2F c vd vs m count : exec (.vexp2F c vd vs m count) s = execVexp2F c vd vs m count s := rfl
@[simp] theorem exec_vlog2F c vd vs m count : exec (.vlog2F c vd vs m count) s = execVlog2F c vd vs m count s := rfl
@[simp] theorem exec_vrcpF c vd vs m count : exec (.vrcpF c vd vs m count) s = execVrcpF c vd vs m count s := rfl
@[simp] theorem exec_vrsqF c vd vs m count : exec (.vrsqF c vd vs m count) s = execVrsqF c vd vs m count s := rfl
@[simp] theorem exec_vtanhF c vd vs m count : exec (.vtanhF c vd vs m count) s = execVtanhF c vd vs m count s := rfl
@[simp] theorem exec_vsigF c vd vs m count : exec (.vsigF c vd vs m count) s = execVsigF c vd vs m count s := rfl
@[simp] theorem exec_vexp2H c vd vs m count : exec (.vexp2H c vd vs m count) s = execVexp2H c vd vs m count s := rfl
@[simp] theorem exec_vlog2H c vd vs m count : exec (.vlog2H c vd vs m count) s = execVlog2H c vd vs m count s := rfl
@[simp] theorem exec_vrcpH c vd vs m count : exec (.vrcpH c vd vs m count) s = execVrcpH c vd vs m count s := rfl
@[simp] theorem exec_vrsqH c vd vs m count : exec (.vrsqH c vd vs m count) s = execVrsqH c vd vs m count s := rfl
@[simp] theorem exec_vtanhH c vd vs m count : exec (.vtanhH c vd vs m count) s = execVtanhH c vd vs m count s := rfl
@[simp] theorem exec_vsigH c vd vs m count : exec (.vsigH c vd vs m count) s = execVsigH c vd vs m count s := rfl
@[simp] theorem exec_vld c vd vs m count : exec (.vld c vd vs m count) s = execVld c vd vs m count s := rfl
@[simp] theorem exec_vst c vd vs m count : exec (.vst c vd vs m count) s = execVst c vd vs m count s := rfl
@[simp] theorem exec_vcompress c vd vs m count : exec (.vcompress c vd vs m count) s = execVcompress c vd vs m count s := rfl
@[simp] theorem exec_vexpand c vd vs m count : exec (.vexpand c vd vs m count) s = execVexpand c vd vs m count s := rfl
@[simp] theorem exec_vrsum c vd vs m count : exec (.vrsum c vd vs m count) s = execVrsum c vd vs m count s := rfl
@[simp] theorem exec_vrsumOpen c vd vs m count : exec (.vrsumOpen c vd vs m count) s = execVrsumOpen c vd vs m count s := rfl
@[simp] theorem exec_vrdot c vd vs m count : exec (.vrdot c vd vs m count) s = execVrdot c vd vs m count s := rfl
@[simp] theorem exec_vrdotOpen c vd vs m count : exec (.vrdotOpen c vd vs m count) s = execVrdotOpen c vd vs m count s := rfl
@[simp] theorem exec_vrout c vd vs m count : exec (.vrout c vd vs m count) s = execVrout c vd vs m count s := rfl
@[simp] theorem exec_vrspill c vd vs m count : exec (.vrspill c vd vs m count) s = execVrspill c vd vs m count s := rfl
@[simp] theorem exec_vrcomb c vd vs m count : exec (.vrcomb c vd vs m count) s = execVrcomb c vd vs m count s := rfl
@[simp] theorem exec_vfsum c vd vs m count : exec (.vfsum c vd vs m count) s = execVfsum c vd vs m count s := rfl
@[simp] theorem exec_vshst c vd vs m count : exec (.vshst c vd vs m count) s = execVshst c vd vs m count s := rfl
@[simp] theorem exec_vshld c vd vs m count : exec (.vshld c vd vs m count) s = execVshld c vd vs m count s := rfl
@[simp] theorem exec_vxBeatCommit c : exec (.vxBeatCommit c) s = execVxBeatCommit c s := rfl
@[simp] theorem exec_vxeCeilRead c : exec (.vxeCeilRead c) s = execVxeCeilRead c s := rfl
@[simp] theorem exec_sxThreadStart site t : exec (.sxThreadStart site t) s = execSxThreadStart site t s := rfl
@[simp] theorem exec_sxThreadStop site t : exec (.sxThreadStop site t) s = execSxThreadStop site t s := rfl
@[simp] theorem exec_sxGroupIssue site : exec (.sxGroupIssue site) s = execSxGroupIssue site s := rfl
@[simp] theorem exec_beq site t rd rs1 imm : exec (.beq site t rd rs1 imm) s = execBeq site t rd rs1 imm s := rfl
@[simp] theorem exec_bne site t rd rs1 imm : exec (.bne site t rd rs1 imm) s = execBne site t rd rs1 imm s := rfl
@[simp] theorem exec_blt site t rd rs1 imm : exec (.blt site t rd rs1 imm) s = execBlt site t rd rs1 imm s := rfl
@[simp] theorem exec_bge site t rd rs1 imm : exec (.bge site t rd rs1 imm) s = execBge site t rd rs1 imm s := rfl
@[simp] theorem exec_jr site t rs1 : exec (.jr site t rs1) s = execJr site t rs1 s := rfl
@[simp] theorem exec_ldx site t rd rs1 size off : exec (.ldx site t rd rs1 size off) s = execLdx site t rd rs1 size off s := rfl
@[simp] theorem exec_stx site t rd rs1 size off : exec (.stx site t rd rs1 size off) s = execStx site t rd rs1 size off s := rfl
@[simp] theorem exec_amoadd site t rd rs1 xs wide : exec (.amoadd site t rd rs1 xs wide) s = execAmoadd site t rd rs1 xs wide s := rfl
@[simp] theorem exec_amomax site t rd rs1 xs wide : exec (.amomax site t rd rs1 xs wide) s = execAmomax site t rd rs1 xs wide s := rfl
@[simp] theorem exec_cas site t rd rs1 xs wide : exec (.cas site t rd rs1 xs wide) s = execCas site t rd rs1 xs wide s := rfl
@[simp] theorem exec_sxfence site t : exec (.sxfence site t) s = execSxfence site t s := rfl
@[simp] theorem exec_gather site t rd rs1 : exec (.gather site t rd rs1) s = execGather site t rd rs1 s := rfl
@[simp] theorem exec_gwait site t rs1 : exec (.gwait site t rs1) s = execGwait site t rs1 s := rfl
@[simp] theorem exec_sxdone site t : exec (.sxdone site t) s = execSxdone site t s := rfl
@[simp] theorem exec_gatherComplete site ticket data : exec (.gatherComplete site ticket data) s = execGatherComplete site ticket data s := rfl
@[simp] theorem exec_storeBufferDrain ag : exec (.storeBufferDrain ag) s = execStoreBufferDrain ag s := rfl
@[simp] theorem exec_bundleIssue c : exec (.bundleIssue c) s = execBundleIssue c s := rfl
@[simp] theorem exec_add ag rd rs1 rs2 : exec (.add ag rd rs1 rs2) s = execAdd ag rd rs1 rs2 s := rfl
@[simp] theorem exec_sub ag rd rs1 rs2 : exec (.sub ag rd rs1 rs2) s = execSub ag rd rs1 rs2 s := rfl
@[simp] theorem exec_and ag rd rs1 rs2 : exec (.and ag rd rs1 rs2) s = execAnd ag rd rs1 rs2 s := rfl
@[simp] theorem exec_or ag rd rs1 rs2 : exec (.or ag rd rs1 rs2) s = execOr ag rd rs1 rs2 s := rfl
@[simp] theorem exec_xor ag rd rs1 rs2 : exec (.xor ag rd rs1 rs2) s = execXor ag rd rs1 rs2 s := rfl
@[simp] theorem exec_shl ag rd rs1 rs2 : exec (.shl ag rd rs1 rs2) s = execShl ag rd rs1 rs2 s := rfl
@[simp] theorem exec_shr ag rd rs1 rs2 : exec (.shr ag rd rs1 rs2) s = execShr ag rd rs1 rs2 s := rfl
@[simp] theorem exec_sra ag rd rs1 rs2 : exec (.sra ag rd rs1 rs2) s = execSra ag rd rs1 rs2 s := rfl
@[simp] theorem exec_mul ag rd rs1 rs2 : exec (.mul ag rd rs1 rs2) s = execMul ag rd rs1 rs2 s := rfl
@[simp] theorem exec_mulhu ag rd rs1 rs2 : exec (.mulhu ag rd rs1 rs2) s = execMulhu ag rd rs1 rs2 s := rfl
@[simp] theorem exec_min ag rd rs1 rs2 : exec (.min ag rd rs1 rs2) s = execMin ag rd rs1 rs2 s := rfl
@[simp] theorem exec_max ag rd rs1 rs2 : exec (.max ag rd rs1 rs2) s = execMax ag rd rs1 rs2 s := rfl
@[simp] theorem exec_slt ag rd rs1 rs2 : exec (.slt ag rd rs1 rs2) s = execSlt ag rd rs1 rs2 s := rfl
@[simp] theorem exec_sltu ag rd rs1 rs2 : exec (.sltu ag rd rs1 rs2) s = execSltu ag rd rs1 rs2 s := rfl
@[simp] theorem exec_addi ag rd rs1 imm : exec (.addi ag rd rs1 imm) s = execAddi ag rd rs1 imm s := rfl
@[simp] theorem exec_andi ag rd rs1 imm : exec (.andi ag rd rs1 imm) s = execAndi ag rd rs1 imm s := rfl
@[simp] theorem exec_ori ag rd rs1 imm : exec (.ori ag rd rs1 imm) s = execOri ag rd rs1 imm s := rfl
@[simp] theorem exec_xori ag rd rs1 imm : exec (.xori ag rd rs1 imm) s = execXori ag rd rs1 imm s := rfl
@[simp] theorem exec_shli ag rd rs1 imm : exec (.shli ag rd rs1 imm) s = execShli ag rd rs1 imm s := rfl
@[simp] theorem exec_shri ag rd rs1 imm : exec (.shri ag rd rs1 imm) s = execShri ag rd rs1 imm s := rfl
@[simp] theorem exec_srai ag rd rs1 imm : exec (.srai ag rd rs1 imm) s = execSrai ag rd rs1 imm s := rfl
@[simp] theorem exec_lih ag rd imm : exec (.lih ag rd imm) s = execLih ag rd imm s := rfl
@[simp] theorem exec_fadd ag rd rs1 rs2 : exec (.fadd ag rd rs1 rs2) s = execFadd ag rd rs1 rs2 s := rfl
@[simp] theorem exec_fsub ag rd rs1 rs2 : exec (.fsub ag rd rs1 rs2) s = execFsub ag rd rs1 rs2 s := rfl
@[simp] theorem exec_fmul ag rd rs1 rs2 : exec (.fmul ag rd rs1 rs2) s = execFmul ag rd rs1 rs2 s := rfl
@[simp] theorem exec_fmin ag rd rs1 rs2 : exec (.fmin ag rd rs1 rs2) s = execFmin ag rd rs1 rs2 s := rfl
@[simp] theorem exec_fmax ag rd rs1 rs2 : exec (.fmax ag rd rs1 rs2) s = execFmax ag rd rs1 rs2 s := rfl
@[simp] theorem exec_fcmplt ag rd rs1 rs2 : exec (.fcmplt ag rd rs1 rs2) s = execFcmplt ag rd rs1 rs2 s := rfl
@[simp] theorem exec_fcmpeq ag rd rs1 rs2 : exec (.fcmpeq ag rd rs1 rs2) s = execFcmpeq ag rd rs1 rs2 s := rfl
@[simp] theorem exec_fcvtif ag rd rs1 : exec (.fcvtif ag rd rs1) s = execFcvtif ag rd rs1 s := rfl
@[simp] theorem exec_fcvtfi ag rd rs1 : exec (.fcvtfi ag rd rs1) s = execFcvtfi ag rd rs1 s := rfl
@[simp] theorem exec_ld ag rd rs1 imm : exec (.ld ag rd rs1 imm) s = execLd ag rd rs1 imm s := rfl
@[simp] theorem exec_st ag rd rs1 imm : exec (.st ag rd rs1 imm) s = execSt ag rd rs1 imm s := rfl
@[simp] theorem exec_csrr c rd csr : exec (.csrr c rd csr) s = execCsrr c rd csr s := rfl
@[simp] theorem exec_csrw c rs1 csr : exec (.csrw c rs1 csr) s = execCsrw c rs1 csr s := rfl
@[simp] theorem exec_csrs c rs1 csr : exec (.csrs c rs1 csr) s = execCsrs c rs1 csr s := rfl
@[simp] theorem exec_csrc c rs1 csr : exec (.csrc c rs1 csr) s = execCsrc c rs1 csr s := rfl
@[simp] theorem exec_tdw c td rs1 rs2 : exec (.tdw c td rs1 rs2) s = execTdw c td rs1 rs2 s := rfl
@[simp] theorem exec_tdrl c rd td : exec (.tdrl c rd td) s = execTdrl c rd td s := rfl
@[simp] theorem exec_tdrh c rd td : exec (.tdrh c rd td) s = execTdrh c rd td s := rfl
@[simp] theorem exec_jmp ag off : exec (.jmp ag off) s = execJmp ag off s := rfl
@[simp] theorem exec_loop ag rd imm : exec (.loop ag rd imm) s = execLoop ag rd imm s := rfl
@[simp] theorem exec_sync c rs1 rs2 : exec (.sync c rs1 rs2) s = execSync c rs1 rs2 s := rfl
@[simp] theorem exec_waitc ag rs1 : exec (.waitc ag rs1) s = execWaitc ag rs1 s := rfl
@[simp] theorem exec_yield c imm : exec (.yield c imm) s = execYield c imm s := rfl
@[simp] theorem exec_tret c : exec (.tret c) s = execTret c s := rfl
@[simp] theorem exec_sqend c : exec (.sqend c) s = execSqend c s := rfl
@[simp] theorem exec_dmaRd c gd lcls : exec (.dmaRd c gd lcls) s = execDmaRd c gd lcls s := rfl
@[simp] theorem exec_dmaWr c gd lcls : exec (.dmaWr c gd lcls) s = execDmaWr c gd lcls s := rfl
@[simp] theorem exec_dsend c gd lcls : exec (.dsend c gd lcls) s = execDsend c gd lcls s := rfl
@[simp] theorem exec_ssend c gd lcls cut : exec (.ssend c gd lcls cut) s = execSsend c gd lcls cut s := rfl
@[simp] theorem exec_moveComplete c tag data poison : exec (.moveComplete c tag data poison) s = execMoveComplete c tag data poison s := rfl
@[simp] theorem exec_moveTimerExpiry c tag : exec (.moveTimerExpiry c tag) s = execMoveTimerExpiry c tag s := rfl
@[simp] theorem exec_syncDeadline c : exec (.syncDeadline c) s = execSyncDeadline c s := rfl
@[simp] theorem exec_trapEntry c : exec (.trapEntry c) s = execTrapEntry c s := rfl
@[simp] theorem exec_sequencerStart c : exec (.sequencerStart c) s = execSequencerStart c s := rfl
@[simp] theorem exec_sequencerStop c : exec (.sequencerStop c) s = execSequencerStop c s := rfl
@[simp] theorem exec_scrubRead c bank faults : exec (.scrubRead c bank faults) s = execScrubRead c bank faults s := rfl
@[simp] theorem exec_columnRepairStart c : exec (.columnRepairStart c) s = execColumnRepairStart c s := rfl
@[simp] theorem exec_columnRepairCopyDone c : exec (.columnRepairCopyDone c) s = execColumnRepairCopyDone c s := rfl
@[simp] theorem exec_zeroizationStart c : exec (.zeroizationStart c) s = execZeroizationStart c s := rfl
@[simp] theorem exec_zeroizationComplete c verified : exec (.zeroizationComplete c verified) s = execZeroizationComplete c verified s := rfl
@[simp] theorem exec_weirAllocation c : exec (.weirAllocation c) s = execWeirAllocation c s := rfl
@[simp] theorem exec_spdCounterRead c uncorrected : exec (.spdCounterRead c uncorrected) s = execSpdCounterRead c uncorrected s := rfl
@[simp] theorem exec_weirStallRead c : exec (.weirStallRead c) s = execWeirStallRead c s := rfl
@[simp] theorem exec_packetInject site port p move : exec (.packetInject site port p move) s = execPacketInject site port p move s := rfl
@[simp] theorem exec_deltaHop site port p : exec (.deltaHop site port p) s = execDeltaHop site port p s := rfl
@[simp] theorem exec_directPacketDelivery unit cluster p : exec (.directPacketDelivery unit cluster p) s = execDirectPacketDelivery unit cluster p s := rfl
@[simp] theorem exec_streamPacketDelivery c p : exec (.streamPacketDelivery c p) s = execStreamPacketDelivery c p s := rfl
@[simp] theorem exec_deltaAck src unit mark rcvd good : exec (.deltaAck src unit mark rcvd good) s = execDeltaAck src unit mark rcvd good s := rfl
@[simp] theorem exec_deltaNak c move code good : exec (.deltaNak c move code good) s = execDeltaNak c move code good s := rfl
@[simp] theorem exec_deltaProbe unit src : exec (.deltaProbe unit src) s = execDeltaProbe unit src s := rfl
@[simp] theorem exec_weirReq c src out reqid length base : exec (.weirReq c src out reqid length base) s = execWeirReq c src out reqid length base s := rfl
@[simp] theorem exec_weirGrant src c reqid entry : exec (.weirGrant src c reqid entry) s = execWeirGrant src c reqid entry s := rfl
@[simp] theorem exec_deltaRead unit p data : exec (.deltaRead unit p data) s = execDeltaRead unit p data s := rfl
@[simp] theorem exec_mack site port group count : exec (.mack site port group count) s = execMack site port group count s := rfl
@[simp] theorem exec_deltaHalt c group tenant ackreq : exec (.deltaHalt c group tenant ackreq) s = execDeltaHalt c group tenant ackreq s := rfl
@[simp] theorem exec_ackTimer unit src : exec (.ackTimer unit src) s = execAckTimer unit src s := rfl
@[simp] theorem exec_probeTimeout src unit : exec (.probeTimeout src unit) s = execProbeTimeout src unit s := rfl
@[simp] theorem exec_eddyRecoveryTimer src unit : exec (.eddyRecoveryTimer src unit) s = execEddyRecoveryTimer src unit s := rfl
@[simp] theorem exec_hopack site port freed : exec (.hopack site port freed) s = execHopack site port freed s := rfl
@[simp] theorem exec_csync site port freed : exec (.csync site port freed) s = execCsync site port freed s := rfl
@[simp] theorem exec_editionPublish stages tsw : exec (.editionPublish stages tsw) s = execEditionPublish stages tsw s := rfl
@[simp] theorem exec_editionSwitch : exec (.editionSwitch) s = execEditionSwitch s := rfl
@[simp] theorem exec_oldcntLatch : exec (.oldcntLatch) s = execOldcntLatch s := rfl
@[simp] theorem exec_shaperRefill : exec (.shaperRefill) s = execShaperRefill s := rfl
@[simp] theorem exec_dltCounterRead site which : exec (.dltCounterRead site which) s = execDltCounterRead site which s := rfl
@[simp] theorem exec_braidTraining b identOk shown : exec (.braidTraining b identOk shown) s = execBraidTraining b identOk shown s := rfl
@[simp] theorem exec_roleAssignment : exec (.roleAssignment) s = execRoleAssignment s := rfl
@[simp] theorem exec_flitReceive b hi flit crc : exec (.flitReceive b hi flit crc) s = execFlitReceive b hi flit crc s := rfl
@[simp] theorem exec_leveeReplay b hi seq : exec (.leveeReplay b hi seq) s = execLeveeReplay b hi seq s := rfl
@[simp] theorem exec_leveeIdent b hi unit link : exec (.leveeIdent b hi unit link) s = execLeveeIdent b hi unit link s := rfl
@[simp] theorem exec_turn site port cls esc slots half : exec (.turn site port cls esc slots half) s = execTurn site port cls esc slots half s := rfl
@[simp] theorem exec_leveeRtReq b hi kind reason depth : exec (.leveeRtReq b hi kind reason depth) s = execLeveeRtReq b hi kind reason depth s := rfl
@[simp] theorem exec_leveeRtRsp b hi accept converted : exec (.leveeRtRsp b hi accept converted) s = execLeveeRtRsp b hi accept converted s := rfl
@[simp] theorem exec_leveeRtDone b hi up : exec (.leveeRtDone b hi up) s = execLeveeRtDone b hi up s := rfl
@[simp] theorem exec_braidRetrainComplete b shown : exec (.braidRetrainComplete b shown) s = execBraidRetrainComplete b shown s := rfl
@[simp] theorem exec_laneLoss b hi lane : exec (.laneLoss b hi lane) s = execLaneLoss b hi lane s := rfl
@[simp] theorem exec_surveyStep b : exec (.surveyStep b) s = execSurveyStep b s := rfl
@[simp] theorem exec_svyShadow b d sl : exec (.svyShadow b d sl) s = execSvyShadow b d sl s := rfl
@[simp] theorem exec_svyMove b d sl agree : exec (.svyMove b d sl agree) s = execSvyMove b d sl agree s := rfl
@[simp] theorem exec_surveyCalibrationDone b errors margin mv : exec (.surveyCalibrationDone b errors margin mv) s = execSurveyCalibrationDone b errors margin mv s := rfl
@[simp] theorem exec_svyReturn b d pass : exec (.svyReturn b d pass) s = execSvyReturn b d pass s := rfl
@[simp] theorem exec_margin b hi lane margin : exec (.margin b hi lane margin) s = execMargin b hi lane margin s := rfl
@[simp] theorem exec_leveeLoopback b hi depth pat : exec (.leveeLoopback b hi depth pat) s = execLeveeLoopback b hi depth pat s := rfl
@[simp] theorem exec_leveeLoopbackEnd b hi errors shown : exec (.leveeLoopbackEnd b hi errors shown) s = execLeveeLoopbackEnd b hi errors shown s := rfl
@[simp] theorem exec_levCounterRead b hi which : exec (.levCounterRead b hi which) s = execLevCounterRead b hi which s := rfl
@[simp] theorem exec_hbmRequest k p faults : exec (.hbmRequest k p faults) s = execHbmRequest k p faults s := rfl
@[simp] theorem exec_refreshCommand k channel margin : exec (.refreshCommand k channel margin) s = execRefreshCommand k channel margin s := rfl
@[simp] theorem exec_stackTemperatureSample k ts : exec (.stackTemperatureSample k ts) s = execStackTemperatureSample k ts s := rfl
@[simp] theorem exec_stackTest k ok rows failed : exec (.stackTest k ok rows failed) s = execStackTest k ok rows failed s := rfl
@[simp] theorem exec_hbsCounterRead k which : exec (.hbsCounterRead k which) s = execHbsCounterRead k which s := rfl
@[simp] theorem exec_larreFraming n p : exec (.larreFraming n p) s = execLarreFraming n p s := rfl
@[simp] theorem exec_larreDirect n p f good : exec (.larreDirect n p f good) s = execLarreDirect n p f good s := rfl
@[simp] theorem exec_larreRead n p f good data : exec (.larreRead n p f good data) s = execLarreRead n p f good data s := rfl
@[simp] theorem exec_larreE2eAck n p f good : exec (.larreE2eAck n p f good) s = execLarreE2eAck n p f good s := rfl
@[simp] theorem exec_larreAck n p retry sync aseq freed good : exec (.larreAck n p retry sync aseq freed good) s = execLarreAck n p retry sync aseq freed good s := rfl
@[simp] theorem exec_larreAckTimer n p : exec (.larreAckTimer n p) s = execLarreAckTimer n p s := rfl
@[simp] theorem exec_replayTimerExpiry n p : exec (.replayTimerExpiry n p) s = execReplayTimerExpiry n p s := rfl
@[simp] theorem exec_larreIdent n p panel engine port eui : exec (.larreIdent n p panel engine port eui) s = execLarreIdent n p panel engine port eui s := rfl
@[simp] theorem exec_larreRtReq n p kind reason depth : exec (.larreRtReq n p kind reason depth) s = execLarreRtReq n p kind reason depth s := rfl
@[simp] theorem exec_larreRtRsp n p accept converted : exec (.larreRtRsp n p accept converted) s = execLarreRtRsp n p accept converted s := rfl
@[simp] theorem exec_larreRtDone n p up : exec (.larreRtDone n p up) s = execLarreRtDone n p up s := rfl
@[simp] theorem exec_larreRetrainLock n p lock : exec (.larreRetrainLock n p lock) s = execLarreRetrainLock n p lock s := rfl
@[simp] theorem exec_fecUncorrectedThreshold n p corrected uncorrected : exec (.fecUncorrectedThreshold n p corrected uncorrected) s = execFecUncorrectedThreshold n p corrected uncorrected s := rfl
@[simp] theorem exec_laneLockLoss n lane : exec (.laneLockLoss n lane) s = execLaneLockLoss n lane s := rfl
@[simp] theorem exec_larreEditionWrite data : exec (.larreEditionWrite data) s = execLarreEditionWrite data s := rfl
@[simp] theorem exec_larreEditionArm tsw : exec (.larreEditionArm tsw) s = execLarreEditionArm tsw s := rfl
@[simp] theorem exec_larreEditionSwitch : exec (.larreEditionSwitch) s = execLarreEditionSwitch s := rfl
@[simp] theorem exec_larreOldcntLatch : exec (.larreOldcntLatch) s = execLarreOldcntLatch s := rfl
@[simp] theorem exec_larreEditionRetire : exec (.larreEditionRetire) s = execLarreEditionRetire s := rfl
@[simp] theorem exec_ethernetFrame n p f : exec (.ethernetFrame n p f) s = execEthernetFrame n p f s := rfl
@[simp] theorem exec_oxbowOpen pair : exec (.oxbowOpen pair) s = execOxbowOpen pair s := rfl
@[simp] theorem exec_oxbowClose pair : exec (.oxbowClose pair) s = execOxbowClose pair s := rfl
@[simp] theorem exec_oxbowMoveComplete pair : exec (.oxbowMoveComplete pair) s = execOxbowMoveComplete pair s := rfl
@[simp] theorem exec_estuaryLoopback n p depth pat : exec (.estuaryLoopback n p depth pat) s = execEstuaryLoopback n p depth pat s := rfl
@[simp] theorem exec_estuaryLoopbackEnd n errors : exec (.estuaryLoopbackEnd n errors) s = execEstuaryLoopbackEnd n errors s := rfl
@[simp] theorem exec_estCounterRead n which : exec (.estCounterRead n which) s = execEstCounterRead n which s := rfl
@[simp] theorem exec_lrlCounterRead n p which : exec (.lrlCounterRead n p which) s = execLrlCounterRead n p which s := rfl
@[simp] theorem exec_ppsOnTimeEdge sub : exec (.ppsOnTimeEdge sub) s = execPpsOnTimeEdge sub s := rfl
@[simp] theorem exec_timeFrame edge pos flags crc timing : exec (.timeFrame edge pos flags crc timing) s = execTimeFrame edge pos flags crc timing s := rfl
@[simp] theorem exec_ptpSync exp : exec (.ptpSync exp) s = execPtpSync exp s := rfl
@[simp] theorem exec_meridInLoss : exec (.meridInLoss) s = execMeridInLoss s := rfl
@[simp] theorem exec_localOscillatorFallback : exec (.localOscillatorFallback) s = execLocalOscillatorFallback s := rfl
@[simp] theorem exec_meridianMarker unit tick good : exec (.meridianMarker unit tick good) s = execMeridianMarker unit tick good s := rfl
@[simp] theorem exec_dieUnlockedTimeout unit : exec (.dieUnlockedTimeout unit) s = execDieUnlockedTimeout unit s := rfl
@[simp] theorem exec_treeDelayMeasure unit dly : exec (.treeDelayMeasure unit dly) s = execTreeDelayMeasure unit dly s := rfl
@[simp] theorem exec_merRelayClose : exec (.merRelayClose) s = execMerRelayClose s := rfl
@[simp] theorem exec_expertTimeStep count : exec (.expertTimeStep count) s = execExpertTimeStep count s := rfl
@[simp] theorem exec_calendarBankLoad data : exec (.calendarBankLoad data) s = execCalendarBankLoad data s := rfl
@[simp] theorem exec_calendarArm port tick : exec (.calendarArm port tick) s = execCalendarArm port tick s := rfl
@[simp] theorem exec_calendarBankSwitch engine port : exec (.calendarBankSwitch engine port) s = execCalendarBankSwitch engine port s := rfl
@[simp] theorem exec_calendarWindowOpen engine port k : exec (.calendarWindowOpen engine port k) s = execCalendarWindowOpen engine port k s := rfl
@[simp] theorem exec_heartbeatSend : exec (.heartbeatSend) s = execHeartbeatSend s := rfl
@[simp] theorem exec_heartbeat n p ident catchment ifgen tick rcrc : exec (.heartbeat n p ident catchment ifgen tick rcrc) s = execHeartbeat n p ident catchment ifgen tick rcrc s := rfl
@[simp] theorem exec_heartbeatTickEnd tick : exec (.heartbeatTickEnd tick) s = execHeartbeatTickEnd tick s := rfl
@[simp] theorem exec_cnfFence : exec (.cnfFence) s = execCnfFence s := rfl
@[simp] theorem exec_rewindRequest : exec (.rewindRequest) s = execRewindRequest s := rfl
@[simp] theorem exec_accuse ident catchment vseq a : exec (.accuse ident catchment vseq a) s = execAccuse ident catchment vseq a s := rfl
@[simp] theorem exec_ballot ident catchment vseq b : exec (.ballot ident catchment vseq b) s = execBallot ident catchment vseq b s := rfl
@[simp] theorem exec_voteRound1Deadline : exec (.voteRound1Deadline) s = execVoteRound1Deadline s := rfl
@[simp] theorem exec_decide ident catchment vseq ballots : exec (.decide ident catchment vseq ballots) s = execDecide ident catchment vseq ballots s := rfl
@[simp] theorem exec_voteFreeze : exec (.voteFreeze) s = execVoteFreeze s := rfl
@[simp] theorem exec_verdict n p catchment vseq digest retired tsw action : exec (.verdict n p catchment vseq digest retired tsw action) s = execVerdict n p catchment vseq digest retired tsw action s := rfl
@[simp] theorem exec_confluenceStop ident catchment reason : exec (.confluenceStop ident catchment reason) s = execConfluenceStop ident catchment reason s := rfl
@[simp] theorem exec_verdictSwitch : exec (.verdictSwitch) s = execVerdictSwitch s := rfl
@[simp] theorem exec_pullComplete ok plots : exec (.pullComplete ok plots) s = execPullComplete ok plots s := rfl
@[simp] theorem exec_epochCloseArm c : exec (.epochCloseArm c) s = execEpochCloseArm c s := rfl
@[simp] theorem exec_epochClose : exec (.epochClose) s = execEpochClose s := rfl
@[simp] theorem exec_mirrorDrainDone : exec (.mirrorDrainDone) s = execMirrorDrainDone s := rfl
@[simp] theorem exec_drainLimitExpiry : exec (.drainLimitExpiry) s = execDrainLimitExpiry s := rfl
@[simp] theorem exec_plotDigestDone slot : exec (.plotDigestDone slot) s = execPlotDigestDone slot s := rfl
@[simp] theorem exec_digest ident catchment epoch slot parity crc : exec (.digest ident catchment epoch slot parity crc) s = execDigest ident catchment epoch slot parity crc s := rfl
@[simp] theorem exec_dmatch ident catchment epoch slot agree : exec (.dmatch ident catchment epoch slot agree) s = execDmatch ident catchment epoch slot agree s := rfl
@[simp] theorem exec_epochOk ident catchment epoch : exec (.epochOk ident catchment epoch) s = execEpochOk ident catchment epoch s := rfl
@[simp] theorem exec_closeWindowExpiry : exec (.closeWindowExpiry) s = execCloseWindowExpiry s := rfl
@[simp] theorem exec_cnfCounterRead which : exec (.cnfCounterRead which) s = execCnfCounterRead which s := rfl
@[simp] theorem exec_partitionWrite port data : exec (.partitionWrite port data) s = execPartitionWrite port data s := rfl
@[simp] theorem exec_tenantDrainDone c : exec (.tenantDrainDone c) s = execTenantDrainDone c s := rfl
@[simp] theorem exec_tenantDrainLimit c : exec (.tenantDrainLimit c) s = execTenantDrainLimit c s := rfl
@[simp] theorem exec_plotChange port fn num entry : exec (.plotChange port fn num entry) s = execPlotChange port fn num entry s := rfl
@[simp] theorem exec_plotVersionDrained : exec (.plotVersionDrained) s = execPlotVersionDrained s := rfl
@[simp] theorem exec_channelCreate port fn req : exec (.channelCreate port fn req) s = execChannelCreate port fn req s := rfl
@[simp] theorem exec_channelDestroy port fn handle : exec (.channelDestroy port fn handle) s = execChannelDestroy port fn handle s := rfl
@[simp] theorem exec_doorbell port fn page handle prod data : exec (.doorbell port fn page handle prod data) s = execDoorbell port fn page handle prod data s := rfl
@[simp] theorem exec_run ix : exec (.run ix) s = execRun ix s := rfl
@[simp] theorem exec_dmaEntry ix : exec (.dmaEntry ix) s = execDmaEntry ix s := rfl
@[simp] theorem exec_fenceEntry ix : exec (.fenceEntry ix) s = execFenceEntry ix s := rfl
@[simp] theorem exec_signalEntry ix : exec (.signalEntry ix) s = execSignalEntry ix s := rfl
@[simp] theorem exec_runComplete p : exec (.runComplete p) s = execRunComplete p s := rfl
@[simp] theorem exec_hostDmaComplete ix seq data poison : exec (.hostDmaComplete ix seq data poison) s = execHostDmaComplete ix seq data poison s := rfl
@[simp] theorem exec_timeSliceExpiry p : exec (.timeSliceExpiry p) s = execTimeSliceExpiry p s := rfl
@[simp] theorem exec_chartYielded p xs : exec (.chartYielded p xs) s = execChartYielded p xs s := rfl
@[simp] theorem exec_yieldResume p r : exec (.yieldResume p r) s = execYieldResume p r s := rfl
@[simp] theorem exec_partitionHalt port p : exec (.partitionHalt port p) s = execPartitionHalt port p s := rfl
@[simp] theorem exec_haltRelease port p data : exec (.haltRelease port p data) s = execHaltRelease port p data s := rfl
@[simp] theorem exec_haltComplete p : exec (.haltComplete p) s = execHaltComplete p s := rfl
@[simp] theorem exec_chnStaleRead : exec (.chnStaleRead) s = execChnStaleRead s := rfl
@[simp] theorem exec_haltDoorbell port fn w : exec (.haltDoorbell port fn w) s = execHaltDoorbell port fn w s := rfl
@[simp] theorem exec_functionLevelReset port fn : exec (.functionLevelReset port fn) s = execFunctionLevelReset port fn s := rfl
@[simp] theorem exec_perstNAssert port : exec (.perstNAssert port) s = execPerstNAssert port s := rfl
@[simp] theorem exec_perstNDeassert port : exec (.perstNDeassert port) s = execPerstNDeassert port s := rfl
@[simp] theorem exec_hostLinkDown port : exec (.hostLinkDown port) s = execHostLinkDown port s := rfl
@[simp] theorem exec_promotionDeadline : exec (.promotionDeadline) s = execPromotionDeadline s := rfl
@[simp] theorem exec_roleRequest port w : exec (.roleRequest port w) s = execRoleRequest port w s := rfl
@[simp] theorem exec_roleWindowDecision : exec (.roleWindowDecision) s = execRoleWindowDecision s := rfl
@[simp] theorem exec_hostReadTimeout r : exec (.hostReadTimeout r) s = execHostReadTimeout r s := rfl
@[simp] theorem exec_ideIntegrityFailure port stream : exec (.ideIntegrityFailure port stream) s = execIdeIntegrityFailure port stream s := rfl
@[simp] theorem exec_podDoorbell b page handle prod : exec (.podDoorbell b page handle prod) s = execPodDoorbell b page handle prod s := rfl
@[simp] theorem exec_podPathLoss m since : exec (.podPathLoss m since) s = execPodPathLoss m since s := rfl
@[simp] theorem exec_lapRead h : exec (.lapRead h) s = execLapRead h s := rfl
@[simp] theorem exec_lapWrite h value fails data : exec (.lapWrite h value fails data) s = execLapWrite h value fails data s := rfl
@[simp] theorem exec_lapDescribe h : exec (.lapDescribe h) s = execLapDescribe h s := rfl
@[simp] theorem exec_segReadStart h : exec (.segReadStart h) s = execSegReadStart h s := rfl
@[simp] theorem exec_segRead h xfer want off : exec (.segRead h xfer want off) s = execSegRead h xfer want off s := rfl
@[simp] theorem exec_segWriteStart h total : exec (.segWriteStart h total) s = execSegWriteStart h total s := rfl
@[simp] theorem exec_segWrite h xfer off data : exec (.segWrite h xfer off data) s = execSegWrite h xfer off data s := rfl
@[simp] theorem exec_segWriteEnd h xfer crc : exec (.segWriteEnd h xfer crc) s = execSegWriteEnd h xfer crc s := rfl
@[simp] theorem exec_segAbort h xfer : exec (.segAbort h xfer) s = execSegAbort h xfer s := rfl
@[simp] theorem exec_lapOpen h level flags spdm timeout : exec (.lapOpen h level flags spdm timeout) s = execLapOpen h level flags spdm timeout s := rfl
@[simp] theorem exec_lapClose h : exec (.lapClose h) s = execLapClose h s := rfl
@[simp] theorem exec_lapPing h : exec (.lapPing h) s = execLapPing h s := rfl
@[simp] theorem exec_sessionExpiry n : exec (.sessionExpiry n) s = execSessionExpiry n s := rfl
@[simp] theorem exec_transferIdleExpiry x : exec (.transferIdleExpiry x) s = execTransferIdleExpiry x s := rfl
@[simp] theorem exec_hostSuppliedRestored : exec (.hostSuppliedRestored) s = execHostSuppliedRestored s := rfl
@[simp] theorem exec_getVersion ep : exec (.getVersion ep) s = execGetVersion ep s := rfl
@[simp] theorem exec_getCapabilities ep : exec (.getCapabilities ep) s = execGetCapabilities ep s := rfl
@[simp] theorem exec_negotiateAlgorithms ep ok : exec (.negotiateAlgorithms ep ok) s = execNegotiateAlgorithms ep ok s := rfl
@[simp] theorem exec_getDigests ep : exec (.getDigests ep) s = execGetDigests ep s := rfl
@[simp] theorem exec_getCertificate ep slot off len : exec (.getCertificate ep slot off len) s = execGetCertificate ep slot off len s := rfl
@[simp] theorem exec_challenge ep slot nonce : exec (.challenge ep slot nonce) s = execChallenge ep slot nonce s := rfl
@[simp] theorem exec_getMeasurements ep index nonce : exec (.getMeasurements ep index nonce) s = execGetMeasurements ep index nonce s := rfl
@[simp] theorem exec_keyExchange ep : exec (.keyExchange ep) s = execKeyExchange ep s := rfl
@[simp] theorem exec_finish ep id ok r : exec (.finish ep id ok r) s = execFinish ep id ok r s := rfl
@[simp] theorem exec_keyUpdate ep id : exec (.keyUpdate ep id) s = execKeyUpdate ep id s := rfl
@[simp] theorem exec_spdmHeartbeat ep id : exec (.spdmHeartbeat ep id) s = execSpdmHeartbeat ep id s := rfl
@[simp] theorem exec_endSession ep id : exec (.endSession ep id) s = execEndSession ep id s := rfl
@[simp] theorem exec_keyProg ep id port stream set dir sub key : exec (.keyProg ep id port stream set dir sub key) s = execKeyProg ep id port stream set dir sub key s := rfl
@[simp] theorem exec_keySetGo ep id port stream set dir sub : exec (.keySetGo ep id port stream set dir sub) s = execKeySetGo ep id port stream set dir sub s := rfl
@[simp] theorem exec_keySetStop ep id port stream set dir sub : exec (.keySetStop ep id port stream set dir sub) s = execKeySetStop ep id port stream set dir sub s := rfl
@[simp] theorem exec_ideQuery ep id port : exec (.ideQuery ep id port) s = execIdeQuery ep id port s := rfl
@[simp] theorem exec_keyPathLoad unit ctr slot key : exec (.keyPathLoad unit ctr slot key) s = execKeyPathLoad unit ctr slot key s := rfl
@[simp] theorem exec_keyPathClearSlot unit ctr slot : exec (.keyPathClearSlot unit ctr slot) s = execKeyPathClearSlot unit ctr slot s := rfl
@[simp] theorem exec_keyPathClearAll unit ctr : exec (.keyPathClearAll unit ctr) s = execKeyPathClearAll unit ctr s := rfl
@[simp] theorem exec_keyPathKat unit ctr pass : exec (.keyPathKat unit ctr pass) s = execKeyPathKat unit ctr pass s := rfl
@[simp] theorem exec_onDemandSelfTest fails : exec (.onDemandSelfTest fails) s = execOnDemandSelfTest fails s := rfl
@[simp] theorem exec_zeroizeCommand : exec (.zeroizeCommand) s = execZeroizeCommand s := rfl
@[simp] theorem exec_endOfLife w : exec (.endOfLife w) s = execEndOfLife w s := rfl
@[simp] theorem exec_anchorWrite slot digest : exec (.anchorWrite slot digest) s = execAnchorWrite slot digest s := rfl
@[simp] theorem exec_anchorRevoke w : exec (.anchorRevoke w) s = execAnchorRevoke w s := rfl
@[simp] theorem exec_approvedFuse w : exec (.approvedFuse w) s = execApprovedFuse w s := rfl
@[simp] theorem exec_testedWithOverride w : exec (.testedWithOverride w) s = execTestedWithOverride w s := rfl
@[simp] theorem exec_imageBroadcastDone kind : exec (.imageBroadcastDone kind) s = execImageBroadcastDone kind s := rfl
@[simp] theorem exec_componentViolation k addr : exec (.componentViolation k addr) s = execComponentViolation k addr s := rfl
@[simp] theorem exec_componentWatchdogExpiry k : exec (.componentWatchdogExpiry k) s = execComponentWatchdogExpiry k s := rfl
@[simp] theorem exec_componentRestartDone k data : exec (.componentRestartDone k data) s = execComponentRestartDone k data s := rfl
@[simp] theorem exec_lkfWatchdogExpiry site : exec (.lkfWatchdogExpiry site) s = execLkfWatchdogExpiry site s := rfl
@[simp] theorem exec_sbfWatchdogExpiry k : exec (.sbfWatchdogExpiry k) s = execSbfWatchdogExpiry k s := rfl
@[simp] theorem exec_lmcWatchdogExpiry b : exec (.lmcWatchdogExpiry b) s = execLmcWatchdogExpiry b s := rfl
@[simp] theorem exec_startPartComplete r : exec (.startPartComplete r) s = execStartPartComplete r s := rfl
@[simp] theorem exec_estuaryPartTimeout : exec (.estuaryPartTimeout) s = execEstuaryPartTimeout s := rfl
@[simp] theorem exec_waveStart : exec (.waveStart) s = execWaveStart s := rfl
@[simp] theorem exec_panelResetAssert : exec (.panelResetAssert) s = execPanelResetAssert s := rfl
@[simp] theorem exec_panelResetRelease a b : exec (.panelResetRelease a b) s = execPanelResetRelease a b s := rfl
@[simp] theorem exec_resetStuck a b : exec (.resetStuck a b) s = execResetStuck a b s := rfl
@[simp] theorem exec_resetUnmask : exec (.resetUnmask) s = execResetUnmask s := rfl
@[simp] theorem exec_pmbusIdentify code : exec (.pmbusIdentify code) s = execPmbusIdentify code s := rfl
@[simp] theorem exec_pmbusStatusPoll w : exec (.pmbusStatusPoll w) s = execPmbusStatusPoll w s := rfl
@[simp] theorem exec_vinSag : exec (.vinSag) s = execVinSag s := rfl
@[simp] theorem exec_vinUndervoltage : exec (.vinUndervoltage) s = execVinUndervoltage s := rfl
@[simp] theorem exec_vinOvervoltage : exec (.vinOvervoltage) s = execVinOvervoltage s := rfl
@[simp] theorem exec_vinRecovery a b : exec (.vinRecovery a b) s = execVinRecovery a b s := rfl
@[simp] theorem exec_pwrEnAssert a b : exec (.pwrEnAssert a b) s = execPwrEnAssert a b s := rfl
@[simp] theorem exec_pwrEnDeassert : exec (.pwrEnDeassert) s = execPwrEnDeassert s := rfl
@[simp] theorem exec_railInWindow r : exec (.railInWindow r) s = execRailInWindow r s := rfl
@[simp] theorem exec_railRampTimeout r volt test : exec (.railRampTimeout r volt test) s = execRailRampTimeout r volt test s := rfl
@[simp] theorem exec_railOff r : exec (.railOff r) s = execRailOff r s := rfl
@[simp] theorem exec_railOffTimeout r volt : exec (.railOffTimeout r volt) s = execRailOffTimeout r volt s := rfl
@[simp] theorem exec_railLeavesWindow r volt : exec (.railLeavesWindow r volt) s = execRailLeavesWindow r volt s := rfl
@[simp] theorem exec_offTimeEnd a b : exec (.offTimeEnd a b) s = execOffTimeEnd a b s := rfl
@[simp] theorem exec_domainFault c : exec (.domainFault c) s = execDomainFault c s := rfl
@[simp] theorem exec_sensorDrop c ix : exec (.sensorDrop c ix) s = execSensorDrop c ix s := rfl
@[simp] theorem exec_wakeTokenRequest c : exec (.wakeTokenRequest c) s = execWakeTokenRequest c s := rfl
@[simp] theorem exec_wakeTokenGrant q : exec (.wakeTokenGrant q) s = execWakeTokenGrant q s := rfl
@[simp] theorem exec_wakeStage c ok : exec (.wakeStage c ok) s = execWakeStage c ok s := rfl
@[simp] theorem exec_wakeTokenReturn c test : exec (.wakeTokenReturn c test) s = execWakeTokenReturn c test s := rfl
@[simp] theorem exec_wakeTokenTimeout c : exec (.wakeTokenTimeout c) s = execWakeTokenTimeout c s := rfl
@[simp] theorem exec_fractureInterval c current drops : exec (.fractureInterval c current drops) s = execFractureInterval c current drops s := rfl
@[simp] theorem exec_pllLockLoss site other : exec (.pllLockLoss site other) s = execPllLockLoss site other s := rfl
@[simp] theorem exec_pllNoneTimeout site : exec (.pllNoneTimeout site) s = execPllNoneTimeout site s := rfl
@[simp] theorem exec_stepRecompute site : exec (.stepRecompute site) s = execStepRecompute site s := rfl
@[simp] theorem exec_stepRelockDone site : exec (.stepRelockDone site) s = execStepRelockDone site s := rfl
@[simp] theorem exec_setpointSettled site : exec (.setpointSettled site) s = execSetpointSettled site s := rfl
@[simp] theorem exec_dieTemperatureSample site ts : exec (.dieTemperatureSample site ts) s = execDieTemperatureSample site ts s := rfl
@[simp] theorem exec_thermTripRelease : exec (.thermTripRelease) s = execThermTripRelease s := rfl
@[simp] theorem exec_marginSample site slacks : exec (.marginSample site slacks) s = execMarginSample site slacks s := rfl
@[simp] theorem exec_engineTemperatureSample n ts : exec (.engineTemperatureSample n ts) s = execEngineTemperatureSample n ts s := rfl
@[simp] theorem exec_powerManagerCheck pin vin : exec (.powerManagerCheck pin vin) s = execPowerManagerCheck pin vin s := rfl
@[simp] theorem exec_clkChgRead site : exec (.clkChgRead site) s = execClkChgRead site s := rfl
@[simp] theorem exec_thmMaxRead site : exec (.thmMaxRead site) s = execThmMaxRead site s := rfl
@[simp] theorem exec_loopbackRequest ep w : exec (.loopbackRequest ep w) s = execLoopbackRequest ep w s := rfl
@[simp] theorem exec_sramSelfTestRequest site : exec (.sramSelfTestRequest site) s = execSramSelfTestRequest site s := rfl
@[simp] theorem exec_stackTestRequest w : exec (.stackTestRequest w) s = execStackTestRequest w s := rfl
@[simp] theorem exec_diagnosticRunEnd errors sram ok rows failed : exec (.diagnosticRunEnd errors sram ok rows failed) s = execDiagnosticRunEnd errors sram ok rows failed s := rfl
@[simp] theorem exec_faultLogClear : exec (.faultLogClear) s = execFaultLogClear s := rfl
@[simp] theorem exec_eventCountForward unit : exec (.eventCountForward unit) s = execEventCountForward unit s := rfl
@[simp] theorem exec_faultEventReceived : exec (.faultEventReceived) s = execFaultEventReceived s := rfl
@[simp] theorem exec_slotPresentDeassert : exec (.slotPresentDeassert) s = execSlotPresentDeassert s := rfl
@[simp] theorem exec_registerWrite unit off w : exec (.registerWrite unit off w) s = execRegisterWrite unit off w s := rfl
@[simp] theorem exec_vHkPowerOn a b : exec (.vHkPowerOn a b) s = execVHkPowerOn a b s := rfl
@[simp] theorem exec_vHkLoss : exec (.vHkLoss) s = execVHkLoss s := rfl
@[simp] theorem exec_hostLinkUp port tlp : exec (.hostLinkUp port tlp) s = execHostLinkUp port tlp s := rfl
@[simp] theorem exec_primarySelectionTimeout : exec (.primarySelectionTimeout) s = execPrimarySelectionTimeout s := rfl
@[simp] theorem exec_estuaryPortTrained n p : exec (.estuaryPortTrained n p) s = execEstuaryPortTrained n p s := rfl
@[simp] theorem exec_surveyorDieTemperatureSample d ts : exec (.surveyorDieTemperatureSample d ts) s = execSurveyorDieTemperatureSample d ts s := rfl
@[simp] theorem exec_surveyorSupplyFault d : exec (.surveyorSupplyFault d) s = execSurveyorSupplyFault d s := rfl
@[simp] theorem exec_meridianRelayMoveComplete : exec (.meridianRelayMoveComplete) s = execMeridianRelayMoveComplete s := rfl
@[simp] theorem exec_faultLogFlashWrite : exec (.faultLogFlashWrite) s = execFaultLogFlashWrite s := rfl
@[simp] theorem exec_sessionExpiryWarning n : exec (.sessionExpiryWarning n) s = execSessionExpiryWarning n s := rfl

end Sys2Proof.Machine
end

