-- ==== Sys2Proof/Laws/Memory.lean ====
section
/-!
SUPPORT. Byte memories: a read after a write, and that every operation keeps the canonical form.
-/
namespace Sys2Proof.Machine

/-- A canonical memory reads blank up to its first address. -/
theorem Memory.read_below : ∀ {m : List Host.Cell} {k : Nat} {v : Byte}, Memory.wf ((k, v) :: m) = true → ∀ a, a ≤ k → Memory.read m a = Memory.blank
  | [], _, _, _, _, _ => rfl
  | (k', v') :: t, k, v, h, a, ha => by
    simp only [Memory.wf, Bool.and_eq_true, decide_eq_true_eq] at h
    have hk : k < k' := h.1.2
    simp only [Memory.read, show ¬ a = k' by omega, if_false]
    exact Memory.read_below (k := k') (v := v') h.2 a (by omega)

theorem Memory.wf_tail {c : Host.Cell} {m : List Host.Cell} (h : Memory.wf (c :: m) = true) : Memory.wf m = true := by
  cases m with
  | nil => rfl
  | cons x t => obtain ⟨k, v⟩ := c; obtain ⟨k', v'⟩ := x; simp only [Memory.wf, Bool.and_eq_true] at h; exact h.2

/-- A byte written is read back, and every other address reads as before. -/
theorem Memory.read_write : ∀ {m : List Host.Cell}, Memory.wf m = true → ∀ (a : Nat) (b : Byte) (x : Nat),
    Memory.read (Memory.write m a b) x = if x = a then b else Memory.read m x
  | [], _, a, b, x => by
    simp only [Memory.write]
    split <;> simp_all [Memory.read]
  | (k, v) :: t, h, a, b, x => by
    simp only [Memory.write]
    split
    · next hlt =>
      split
      · next hb =>
        subst hb
        by_cases hx : x = a
        · subst hx
          simp only [Memory.read, show ¬ x = k by omega, if_false, if_true]
          exact Memory.read_below h x (by omega)
        · simp [hx]
      · simp [Memory.read]
    · split
      · next hk =>
        subst hk
        split
        · next hb =>
          subst hb
          by_cases hx : x = a
          · subst hx; simp only [if_true]; exact Memory.read_below h x (Nat.le_refl _)
          · simp [Memory.read, hx]
        · simp only [Memory.read]; split <;> simp_all
      · next h1 h2 =>
        simp only [Memory.read, Memory.read_write (Memory.wf_tail h) a b x]
        by_cases hx : x = k
        · subst hx; simp [show ¬ x = a from fun e => h2 e.symm]
        · simp [hx]

/-- A cell put in front of a memory whose addresses all lie above it. -/
theorem Memory.wf_cons {k : Nat} {v : Byte} {m : List Host.Cell} (hv : v ≠ Memory.blank) (hm : Memory.wf m = true)
    (hk : ∀ e ∈ m, k < e.1) : Memory.wf ((k, v) :: m) = true := by
  cases m with
  | nil => simp [Memory.wf, hv]
  | cons x t => obtain ⟨k', v'⟩ := x; simp [Memory.wf, hv, hm, hk (k', v') List.mem_cons_self]

/-- The first cell of a canonical memory is not blank, and every later cell lies above it. -/
theorem Memory.wf_head : ∀ {k : Nat} {v : Byte} {m : List Host.Cell}, Memory.wf ((k, v) :: m) = true → v ≠ Memory.blank ∧ ∀ e ∈ m, k < e.1
  | k, v, [], h => by simpa [Memory.wf] using h
  | k, v, (k', v') :: t, h => by
    simp only [Memory.wf, Bool.and_eq_true, decide_eq_true_eq, bne_iff_ne] at h
    refine ⟨h.1.1, fun e he => ?_⟩
    rcases List.mem_cons.1 he with rfl | he
    · exact h.1.2
    · exact Nat.lt_trans h.1.2 ((Memory.wf_head h.2).2 e he)

theorem Memory.mem_write : ∀ {m : List Host.Cell} {a : Nat} {b : Byte} {e : Host.Cell}, e ∈ Memory.write m a b → e = (a, b) ∨ e ∈ m
  | [], a, b, e, h => by simp only [Memory.write] at h; split at h <;> simp_all
  | (k, v) :: t, a, b, e, h => by
    simp only [Memory.write] at h
    split at h
    · split at h
      · exact .inr h
      · simpa using h
    · split at h
      · split at h
        · exact .inr (List.mem_cons_of_mem _ h)
        · rcases List.mem_cons.1 h with h | h
          · exact .inl h
          · exact .inr (List.mem_cons_of_mem _ h)
      · rcases List.mem_cons.1 h with h | h
        · exact .inr (h ▸ List.mem_cons_self)
        · rcases Memory.mem_write h with h | h
          · exact .inl h
          · exact .inr (List.mem_cons_of_mem _ h)

/-- A write keeps the canonical form. -/
theorem Memory.wf_write : ∀ {m : List Host.Cell}, Memory.wf m = true → ∀ (a : Nat) (b : Byte), Memory.wf (Memory.write m a b) = true
  | [], _, a, b => by simp only [Memory.write]; split <;> simp_all [Memory.wf]
  | (k, v) :: t, h, a, b => by
    have hd := Memory.wf_head h
    simp only [Memory.write]
    split
    · next hlt =>
      split
      · exact h
      · next hb =>
        refine Memory.wf_cons hb h fun e he => ?_
        rcases List.mem_cons.1 he with rfl | he
        · exact hlt
        · exact Nat.lt_trans hlt (hd.2 e he)
    · split
      · next hk =>
        split
        · exact Memory.wf_tail h
        · next hb => subst hk; exact Memory.wf_cons hb (Memory.wf_tail h) hd.2
      · next h1 h2 =>
        refine Memory.wf_cons hd.1 (Memory.wf_write (Memory.wf_tail h) a b) fun e he => ?_
        rcases Memory.mem_write he with rfl | he
        · simp only; omega
        · exact hd.2 e he

/-- A property of memories that the empty memory has and every write keeps. -/
def MemClosed (M : List Host.Cell → Prop) : Prop := M [] ∧ ∀ m a b, M m → M (Memory.write m a b)

theorem MemClosed.nil {M : List Host.Cell → Prop} (hM : MemClosed M) : M [] := hM.1

theorem MemClosed.wf : MemClosed fun m => Memory.wf m = true := ⟨rfl, fun _ a b h => Memory.wf_write h a b⟩
theorem MemClosed.any : MemClosed fun _ => True := ⟨trivial, fun _ _ _ _ => trivial⟩

theorem MemClosed.writeN {M : List Host.Cell → Prop} (hM : MemClosed M) : ∀ (bs : List Byte) (m : List Host.Cell) (a : Nat), M m → M (Memory.writeN m a bs)
  | [], _, _, h => h
  | b :: t, m, a, h => MemClosed.writeN hM t _ _ (hM.2 m a b h)

/-- A write of bytes keeps the canonical form. -/
theorem Memory.wf_writeN {m : List Host.Cell} (h : Memory.wf m = true) (a : Nat) (bs : List Byte) : Memory.wf (Memory.writeN m a bs) = true :=
  MemClosed.wf.writeN bs m a h

end Sys2Proof.Machine
end

