-- ==== Sys2Proof/Laws/Tables.lean ====
section
/-!
SUPPORT. What the operations on sparse tables do.
-/
namespace Sys2Proof.Machine

/-- A table set at a key reads the value set there, and every other key as before. -/
theorem Tbl.get_set {α : Type} (d v : α) (t : Tbl α) (n m : Nat) : Tbl.get d (Tbl.set t n v) m = if m = n then v else Tbl.get d t m := by
  induction t with
  | nil => simp [Tbl.set, Tbl.get]
  | cons e t ih =>
    obtain ⟨k, w⟩ := e
    simp only [Tbl.set]
    split
    · simp [Tbl.get]
    · split
      · next h => subst h; simp only [Tbl.get]; split <;> simp_all
      · next h1 h2 => simp only [Tbl.get, ih]; split <;> split <;> simp_all

@[simp] theorem Tbl.get_set_same {α : Type} (d v : α) (t : Tbl α) (n : Nat) : Tbl.get d (Tbl.set t n v) n = v := by simp [Tbl.get_set]

theorem Tbl.get_set_other {α : Type} (d v : α) (t : Tbl α) {n m : Nat} (h : m ≠ n) : Tbl.get d (Tbl.set t n v) m = Tbl.get d t m := by
  simp [Tbl.get_set, h]

@[simp] theorem Tbl.get_mod_same {α : Type} (d : α) (t : Tbl α) (n : Nat) (f : α → α) : Tbl.get d (Tbl.mod d t n f) n = f (Tbl.get d t n) := by
  simp [Tbl.mod]

theorem Tbl.get_mod_other {α : Type} (d : α) (t : Tbl α) {n m : Nat} (f : α → α) (h : m ≠ n) : Tbl.get d (Tbl.mod d t n f) m = Tbl.get d t m := by
  simp [Tbl.mod, Tbl.get_set_other, h]

/-- Of two settings of one key the later stays. -/
theorem Tbl.set_set {α : Type} (t : Tbl α) (n : Nat) (a b : α) : Tbl.set (Tbl.set t n a) n b = Tbl.set t n b := by
  induction t with
  | nil => simp [Tbl.set]
  | cons e t ih =>
    obtain ⟨k, w⟩ := e
    simp only [Tbl.set]
    split
    · simp [Tbl.set]
    · split
      · simp [Tbl.set, *]
      · rename_i h1 h2; simp [Tbl.set, h1, h2, ih]

theorem Tbl.mod_mod {α : Type} (d : α) (t : Tbl α) (n : Nat) (f g : α → α) : Tbl.mod d (Tbl.mod d t n f) n g = Tbl.mod d t n fun x => g (f x) := by
  simp [Tbl.mod, Tbl.set_set]

/-- Every entry of a table set at a key is the entry set or an entry it had. -/
theorem Tbl.mem_set {α : Type} {t : Tbl α} {n : Nat} {v : α} {e : Nat × α} (h : e ∈ Tbl.set t n v) : e = (n, v) ∨ e ∈ t := by
  induction t with
  | nil => simp_all [Tbl.set]
  | cons x t ih =>
    obtain ⟨k, w⟩ := x
    simp only [Tbl.set] at h
    split at h
    · simpa using h
    · split at h
      · rcases List.mem_cons.1 h with h | h
        · exact .inl h
        · exact .inr (List.mem_cons_of_mem _ h)
      · rcases List.mem_cons.1 h with h | h
        · exact .inr (h ▸ List.mem_cons_self)
        · rcases ih h with h | h
          · exact .inl h
          · exact .inr (List.mem_cons_of_mem _ h)

/-- What a table reads is its default or the value of one of its entries. -/
theorem Tbl.get_mem {α : Type} (d : α) (t : Tbl α) (n : Nat) : Tbl.get d t n = d ∨ (n, Tbl.get d t n) ∈ t := by
  induction t with
  | nil => simp [Tbl.get]
  | cons x t ih =>
    obtain ⟨k, w⟩ := x
    simp only [Tbl.get]
    split
    · next h => subst h; exact .inr List.mem_cons_self
    · rcases ih with h | h
      · exact .inl h
      · exact .inr (List.mem_cons_of_mem _ h)

/-- A property of the default and of every entry holds of what a table reads. -/
theorem Tbl.get_of {α : Type} {P : α → Prop} {d : α} {t : Tbl α} (hd : P d) (h : ∀ e ∈ t, P e.2) (n : Nat) : P (Tbl.get d t n) := by
  rcases Tbl.get_mem d t n with e | e
  · rw [e]; exact hd
  · exact h _ e

theorem Tbl.all_set {α : Type} {P : α → Prop} {t : Tbl α} (h : ∀ e ∈ t, P e.2) {n : Nat} {v : α} (hv : P v) : ∀ e ∈ Tbl.set t n v, P e.2 := by
  intro e he
  rcases Tbl.mem_set he with rfl | he
  · exact hv
  · exact h e he

/-- An erased entry reads the default, every other one as before. -/
theorem Tbl.get_erase {α : Type} (d : α) : ∀ (t : Tbl α) (n w : Nat), Tbl.get d (Tbl.erase t n) w = if w = n then d else Tbl.get d t w
  | [], _, _ => by simp [Tbl.erase, Tbl.get]
  | (k, v) :: t, n, w => by
    simp only [Tbl.erase]
    split
    · next h => subst h; rw [Tbl.get_erase d t n w]; simp only [Tbl.get]; split <;> rfl
    · next h =>
      simp only [Tbl.get, Tbl.get_erase d t n w]
      by_cases hw : w = k
      · subst hw; simp [show ¬ w = n from fun e => h e.symm]
      · simp [hw]

theorem Tbl.get_erase_zero {α : Type} {d : α} {t : Tbl α} {n w : Nat} (h : Tbl.get d t w = d) : Tbl.get d (Tbl.erase t n) w = d := by
  rw [Tbl.get_erase]; split <;> simp_all

end Sys2Proof.Machine
end

