-- ==== Sys2Proof/Laws/Kept.lean ====
section
/-!
SUPPORT. What every operation on the panel keeps: the queue of commands, the time base, the free values already used, the messages
already sent, and a property `M` of the memories of scratchpads and stacks that the empty memory has and every write keeps.
-/
namespace Sys2Proof.Machine

/-- The panel has the queue `p` and the time `n`, has used at least `f` free values and sent at least the messages `o`, and every
memory has the property `M`. -/
def Kept (M : List Host.Cell → Prop) (p : List Instr) (n f : Nat) (o : List Msg) (s : State) : Prop :=
  s.pending = p ∧ s.now = n ∧ f ≤ s.freeCtr ∧ o <:+ s.out ∧ (∀ e ∈ s.clusters, M e.2.spd.mem) ∧ ∀ e ∈ s.hbm, M e.2.mem

/-- The same of an answer's next state. -/
def KeptAns (M : List Host.Cell → Prop) (p : List Instr) (n f : Nat) (o : List Msg) : Ans → Prop
  | .next t => Kept M p n f o t
  | _ => False

variable {M : List Host.Cell → Prop} {p : List Instr} {n f : Nat} {o : List Msg} {s : State} 

theorem Kept.mk (M : List Host.Cell → Prop) (s : State) (hc : ∀ e ∈ s.clusters, M e.2.spd.mem) (hk : ∀ e ∈ s.hbm, M e.2.mem) :
    Kept M s.pending s.now s.freeCtr s.out s := ⟨rfl, rfl, Nat.le_refl _, List.suffix_refl _, hc, hk⟩

theorem Kept.next {a : Ans} (h : ∀ t, a = .next t → Kept M p n f o t) (t : State) (e : a = .next t) : KeptAns M p n f o a := by
  subst e; exact h _ rfl

/-- The state of a pair that a function answers. -/
theorem Kept.snd {α : Type} {q : α × State} {a : α} {t : State} (e : q = (a, t)) (h : Kept M p n f o q.2) : Kept M p n f o t := by subst e; exact h
theorem Kept.fst {α : Type} {q : State × α} {a : α} {t : State} (e : q = (t, a)) (h : Kept M p n f o q.1) : Kept M p n f o t := by subst e; exact h

theorem Kept.foldl {β : Type} {g : State → β → State} {l : List β} (h : Kept M p n f o s)
    (hg : ∀ (s : State) (x : β), Kept M p n f o s → Kept M p n f o (g s x)) : Kept M p n f o (l.foldl g s) := by
  induction l generalizing s with
  | nil => exact h
  | cons x t ih => exact ih (hg s x h)

theorem Kept.cl (hM : MemClosed M) (h : Kept M p n f o s) (c : Nat) : M (s.cl c).spd.mem :=
  Tbl.get_of (P := fun k : Cluster => M k.spd.mem) hM.1 h.2.2.2.2.1 c

theorem Kept.stk (hM : MemClosed M) (h : Kept M p n f o s) (k : Nat) : M (s.stk k).mem :=
  Tbl.get_of (P := fun x : Stack => M x.mem) hM.1 h.2.2.2.2.2 k

theorem State.setCl_kept {c : Nat} {k : Cluster} (h : Kept M p n f o s) (hk : M k.spd.mem) : Kept M p n f o (s.setCl c k) :=
  ⟨h.1, h.2.1, h.2.2.1, h.2.2.2.1, Tbl.all_set (P := fun k : Cluster => M k.spd.mem) h.2.2.2.2.1 hk, h.2.2.2.2.2⟩

theorem State.modStk_kept {k : Nat} {g : Stack → Stack} (hM : MemClosed M) (h : Kept M p n f o s) (hk : ∀ x, M x.mem → M (g x).mem) :
    Kept M p n f o (s.modStk k g) :=
  ⟨h.1, h.2.1, h.2.2.1, h.2.2.2.1, h.2.2.2.2.1, Tbl.all_set (P := fun x : Stack => M x.mem) h.2.2.2.2.2 (hk _ (h.stk hM k))⟩

theorem State.emit_kept {m : Msg} (h : Kept M p n f o s) : Kept M p n f o (s.emit m) :=
  ⟨h.1, h.2.1, h.2.2.1, h.2.2.2.1.trans (List.suffix_cons _ _), h.2.2.2.2.1, h.2.2.2.2.2⟩

theorem State.emits_kept {ms : List Msg} (h : Kept M p n f o s) : Kept M p n f o (s.emits ms) :=
  ⟨h.1, h.2.1, h.2.2.1, h.2.2.2.1.trans (List.suffix_append _ _), h.2.2.2.2.1, h.2.2.2.2.2⟩

theorem Kept.useFree {k : Nat} (h : Kept M p n f o s) : Kept M p n f o { s with freeCtr := s.freeCtr + k } :=
  ⟨h.1, h.2.1, Nat.le_trans h.2.2.1 (Nat.le_add_right _ _), h.2.2.2.1, h.2.2.2.2.1, h.2.2.2.2.2⟩

theorem State.fresh_kept (h : Kept M p n f o s) : Kept M p n f o s.fresh.2 := h.useFree

/-! A component changed -/

theorem State.modGaz_kept {g : _ → _} (h : Kept M p n f o s) : Kept M p n f o (s.modGaz g) := h
theorem State.modDelta_kept {g : _ → _} (h : Kept M p n f o s) : Kept M p n f o (s.modDelta g) := h
theorem State.modLev_kept {g : _ → _} (h : Kept M p n f o s) : Kept M p n f o (s.modLev g) := h
theorem State.modLarre_kept {g : _ → _} (h : Kept M p n f o s) : Kept M p n f o (s.modLarre g) := h
theorem State.modMer_kept {g : _ → _} (h : Kept M p n f o s) : Kept M p n f o (s.modMer g) := h
theorem State.modCnf_kept {g : _ → _} (h : Kept M p n f o s) : Kept M p n f o (s.modCnf g) := h
theorem State.modTen_kept {g : _ → _} (h : Kept M p n f o s) : Kept M p n f o (s.modTen g) := h
theorem State.modHosts_kept {g : _ → _} (h : Kept M p n f o s) : Kept M p n f o (s.modHosts g) := h
theorem State.modLgd_kept {g : _ → _} (h : Kept M p n f o s) : Kept M p n f o (s.modLgd g) := h
theorem State.modCtg_kept {g : _ → _} (h : Kept M p n f o s) : Kept M p n f o (s.modCtg g) := h
theorem State.modFw_kept {g : _ → _} (h : Kept M p n f o s) : Kept M p n f o (s.modFw g) := h
theorem State.modBoot_kept {g : _ → _} (h : Kept M p n f o s) : Kept M p n f o (s.modBoot g) := h
theorem State.modPwr_kept {g : _ → _} (h : Kept M p n f o s) : Kept M p n f o (s.modPwr g) := h
theorem State.modClk_kept {g : _ → _} (h : Kept M p n f o s) : Kept M p n f o (s.modClk g) := h
theorem State.modLog_kept {g : _ → _} (h : Kept M p n f o s) : Kept M p n f o (s.modLog g) := h
theorem State.modDiag_kept {g : _ → _} (h : Kept M p n f o s) : Kept M p n f o (s.modDiag g) := h
/-- Any components changed but the memories, the messages and the counters. -/
theorem Kept.all {g0 : _} {g1 : _} {g2 : _} {g3 : _} {g4 : _} {g5 : _} {g6 : _} {g7 : _} {g8 : _} {g9 : _} {g10 : _} {g11 : _} {g12 : _} {g13 : _} {g14 : _} {g15 : _}
    (h : Kept M p n f o s) : Kept M p n f o ⟨s.clusters, s.hbm, g0, g1, g2, g3, g4, g5, g6, g7, g8, g9, g10, g11, g12, g13, g14, g15,
      s.out, s.now, s.freeCtr, s.pending⟩ := h

theorem memFst {α : Type} {q : Cluster × α} {c : Cluster} {a : α} (e : q = (c, a)) (h : M q.1.spd.mem) : M c.spd.mem := by subst e; exact h
theorem memSnd {α : Type} {q : α × Cluster} {c : Cluster} {a : α} (e : q = (a, c)) (h : M q.2.spd.mem) : M c.spd.mem := by subst e; exact h
theorem memFstD {α : Type} {q : Spd × α} {c : Spd} {a : α} (e : q = (c, a)) (h : M q.1.mem) : M c.mem := by subst e; exact h
theorem memSndD {α : Type} {q : α × Spd} {c : Spd} {a : α} (e : q = (a, c)) (h : M q.2.mem) : M c.mem := by subst e; exact h
theorem memFstK {α : Type} {q : Stack × α} {c : Stack} {a : α} (e : q = (c, a)) (h : M q.1.mem) : M c.mem := by subst e; exact h
theorem memSndK {α : Type} {q : α × Stack} {c : Stack} {a : α} (e : q = (a, c)) (h : M q.2.mem) : M c.mem := by subst e; exact h

theorem memIteC {b : Prop} [Decidable b] {x y : Cluster} (hx : b → M x.spd.mem) (hy : ¬b → M y.spd.mem) : M (if b then x else y).spd.mem := by split <;> simp_all
theorem memIteSndC {α : Type} {b : Prop} [Decidable b] {x y : α × Cluster} (hx : b → M x.2.spd.mem) (hy : ¬b → M y.2.spd.mem) : M (if b then x else y).2.spd.mem := by split <;> simp_all
theorem memIteFstC {α : Type} {b : Prop} [Decidable b] {x y : Cluster × α} (hx : b → M x.1.spd.mem) (hy : ¬b → M y.1.spd.mem) : M (if b then x else y).1.spd.mem := by split <;> simp_all
theorem memFoldlC {β : Type} {g : Cluster → β → Cluster} {l : List β} {c : Cluster} (h : M c.spd.mem) (hg : ∀ c x, M c.spd.mem → M (g c x).spd.mem) :
    M (l.foldl g c).spd.mem := by
  induction l generalizing c with
  | nil => exact h
  | cons x t ih => exact ih (hg c x h)
theorem memFoldlFstC {α β : Type} {g : Cluster × α → β → Cluster × α} {l : List β} {c : Cluster × α} (h : M c.1.spd.mem) (hg : ∀ c x, M c.1.spd.mem → M (g c x).1.spd.mem) :
    M (l.foldl g c).1.spd.mem := by
  induction l generalizing c with
  | nil => exact h
  | cons x t ih => exact ih (hg c x h)
theorem memIteD {b : Prop} [Decidable b] {x y : Spd} (hx : b → M x.mem) (hy : ¬b → M y.mem) : M (if b then x else y).mem := by split <;> simp_all
theorem memIteSndD {α : Type} {b : Prop} [Decidable b] {x y : α × Spd} (hx : b → M x.2.mem) (hy : ¬b → M y.2.mem) : M (if b then x else y).2.mem := by split <;> simp_all
theorem memIteFstD {α : Type} {b : Prop} [Decidable b] {x y : Spd × α} (hx : b → M x.1.mem) (hy : ¬b → M y.1.mem) : M (if b then x else y).1.mem := by split <;> simp_all
theorem memFoldlD {β : Type} {g : Spd → β → Spd} {l : List β} {c : Spd} (h : M c.mem) (hg : ∀ c x, M c.mem → M (g c x).mem) :
    M (l.foldl g c).mem := by
  induction l generalizing c with
  | nil => exact h
  | cons x t ih => exact ih (hg c x h)
theorem memFoldlFstD {α β : Type} {g : Spd × α → β → Spd × α} {l : List β} {c : Spd × α} (h : M c.1.mem) (hg : ∀ c x, M c.1.mem → M (g c x).1.mem) :
    M (l.foldl g c).1.mem := by
  induction l generalizing c with
  | nil => exact h
  | cons x t ih => exact ih (hg c x h)
theorem memIteK {b : Prop} [Decidable b] {x y : Stack} (hx : b → M x.mem) (hy : ¬b → M y.mem) : M (if b then x else y).mem := by split <;> simp_all
theorem memIteSndK {α : Type} {b : Prop} [Decidable b] {x y : α × Stack} (hx : b → M x.2.mem) (hy : ¬b → M y.2.mem) : M (if b then x else y).2.mem := by split <;> simp_all
theorem memIteFstK {α : Type} {b : Prop} [Decidable b] {x y : Stack × α} (hx : b → M x.1.mem) (hy : ¬b → M y.1.mem) : M (if b then x else y).1.mem := by split <;> simp_all
theorem memFoldlK {β : Type} {g : Stack → β → Stack} {l : List β} {c : Stack} (h : M c.mem) (hg : ∀ c x, M c.mem → M (g c x).mem) :
    M (l.foldl g c).mem := by
  induction l generalizing c with
  | nil => exact h
  | cons x t ih => exact ih (hg c x h)
theorem memFoldlFstK {α β : Type} {g : Stack × α → β → Stack × α} {l : List β} {c : Stack × α} (h : M c.1.mem) (hg : ∀ c x, M c.1.mem → M (g c x).1.mem) :
    M (l.foldl g c).1.mem := by
  induction l generalizing c with
  | nil => exact h
  | cons x t ih => exact ih (hg c x h)
theorem Kept.ite {b : Prop} [Decidable b] {x y : State} (hx : b → Kept M p n f o x) (hy : ¬b → Kept M p n f o y) : Kept M p n f o (if b then x else y) := by split <;> simp_all
theorem Kept.iteSnd {α : Type} {b : Prop} [Decidable b] {x y : α × State} (hx : b → Kept M p n f o x.2) (hy : ¬b → Kept M p n f o y.2) : Kept M p n f o (if b then x else y).2 := by split <;> simp_all
theorem Kept.iteFst {α : Type} {b : Prop} [Decidable b] {x y : State × α} (hx : b → Kept M p n f o x.1) (hy : ¬b → Kept M p n f o y.1) : Kept M p n f o (if b then x else y).1 := by split <;> simp_all
theorem Kept.foldlFst {α β : Type} {g : State × α → β → State × α} {l : List β} {q : State × α} (h : Kept M p n f o q.1)
    (hg : ∀ q x, Kept M p n f o q.1 → Kept M p n f o (g q x).1) : Kept M p n f o (l.foldl g q).1 := by
  induction l generalizing q with
  | nil => exact h
  | cons x t ih => exact ih (hg q x h)
theorem Kept.foldlSnd {α β : Type} {g : α × State → β → α × State} {l : List β} {q : α × State} (h : Kept M p n f o q.2)
    (hg : ∀ q x, Kept M p n f o q.2 → Kept M p n f o (g q x).2) : Kept M p n f o (l.foldl g q).2 := by
  induction l generalizing q with
  | nil => exact h
  | cons x t ih => exact ih (hg q x h)
theorem Kept.ans {t : State} (h : Kept M p n f o t) : KeptAns M p n f o (.next t) := h

theorem Kept.letS {v : State} {b : State → State} (hv : Kept M p n f o v) (hb : ∀ x, Kept M p n f o x → Kept M p n f o (b x)) :
    Kept M p n f o (let x := v; b x) := hb v hv
theorem Kept.letV {α : Sort _} {v : α} {b : α → State} (hb : ∀ x, Kept M p n f o (b x)) : Kept M p n f o (let x := v; b x) := hb v

end Sys2Proof.Machine
end

