-- ==== Sys2Proof/Laws/KeptCluster.lean ====
section
/-!
SUPPORT. What the operations on a scratchpad, a stack and a cluster keep of their memories.
-/
namespace Sys2Proof.Machine

variable {M : List Host.Cell → Prop} {p : List Instr} {n f : Nat} {o : List Msg}

theorem Spd.recordFault_mem (hM : MemClosed M) (s : Spd) (code port synd off) (hs :
    M s.mem) : M (Spd.recordFault s code port synd off).mem := by
  unfold Spd.recordFault
  repeat' first
    | with_reducible assumption | split

theorem Spd.noteCe_mem (hM : MemClosed M) (s : Spd) (hs : M s.mem) : M (Spd.noteCe s).mem := by
  unfold Spd.noteCe
  repeat' first
    | with_reducible assumption

theorem Spd.noteUe_mem (hM : MemClosed M) (s : Spd) (port synd off) (hs : M s.mem) : M (Spd.noteUe s port synd off).mem := by
  unfold Spd.noteUe; with_reducible apply Spd.recordFault_mem hM; assumption

theorem Spd.readWord_mem (hM : MemClosed M) (s : Spd) (port w) (hs : M s.mem) : M (Spd.readWord s port w).2.2.mem := by
  unfold Spd.readWord
  repeat' first
    | with_reducible assumption | with_reducible apply Spd.noteCe_mem hM | with_reducible apply Spd.noteUe_mem hM | dsimp only | split

theorem Spd.readWords_mem (hM : MemClosed M) : ∀ (ws : List Nat) (s : Spd) (port), M s.mem → M (Spd.readWords s port ws).2.mem
  | [], _, _, hs => hs
  | w :: t, s, port, hs => by
    rw [Spd.readWords]
    dsimp only
    with_reducible refine Spd.readWords_mem hM t _ port ?_
    with_reducible exact Spd.readWord_mem hM s port w hs

theorem Spd.read_mem (hM : MemClosed M) (s : Spd) (port off len : Nat) (hs : M s.mem) : M (s.read port off len).spd.mem :=
  Spd.readWords_mem hM _ s port hs

theorem Spd.writeWord_mem (hM : MemClosed M) (s : Spd) (port w at_ bs) (hs : M s.mem) : M (Spd.writeWord s port w at_ bs).2.mem := by
  unfold Spd.writeWord
  dsimp only
  split
  · exact hM.writeN _ _ _ hs
  · dsimp only
    with_reducible refine hM.writeN _ _ _ (hM.writeN _ _ _ ?_)
    with_reducible exact Spd.readWord_mem hM s port w hs

theorem Spd.mergeWord_mem (hM : MemClosed M) (s : Spd) (w new) (hs : M s.mem) : M (Spd.mergeWord s w new).2.mem := by
  unfold Spd.mergeWord
  dsimp only
  with_reducible refine hM.writeN _ _ _ ?_
  with_reducible exact Spd.readWord_mem hM s 2 w hs

theorem Spd.swap_mem (hM : MemClosed M) (s : Spd) (ad n0 f0) (hs : M s.mem) : M (Spd.swap s ad n0 f0).2.2.mem := by
  unfold Spd.swap
  dsimp only
  with_reducible refine hM.writeN _ _ _ (hM.writeN _ _ _ ?_)
  with_reducible exact Spd.readWord_mem hM s 4 _ hs

theorem Spd.storeDecoded_mem (hM : MemClosed M) (s : Spd) (w) (hs : M s.mem) : M (Spd.storeDecoded s w).mem := hM.writeN _ _ _ hs

theorem Spd.readExtents_mem (hM : MemClosed M) : ∀ (xs : List (Nat × Nat)) (s : Spd) (port), M s.mem → M (Spd.readExtents s port xs).2.mem
  | [], _, _, hs => hs
  | (o, n) :: t, s, port, hs => Spd.readExtents_mem hM t _ port (Spd.read_mem hM s port o n hs)

theorem Spd.writeFrom_mem (hM : MemClosed M) : ∀ (fuel : Nat) (s : Spd) (port off : Nat) (bs : List PByte), M s.mem → M (Spd.writeFrom s port off bs fuel).2.mem
  | 0, _, _, _, _, hs => hs
  | fuel + 1, s, port, off, bs, hs => by
    unfold Spd.writeFrom
    split
    · exact hs
    · dsimp only
      exact Spd.writeFrom_mem hM fuel _ _ _ _ (Spd.writeWord_mem hM _ _ _ _ _ hs)

theorem Spd.writeP_mem (hM : MemClosed M) (s : Spd) (port off : Nat) (bs : List PByte) (hs : M s.mem) : M (Spd.writeP s port off bs).2.mem :=
  Spd.writeFrom_mem hM _ s port off bs hs

theorem Spd.writeWhole_mem (hM : MemClosed M) (s : Spd) (off bs) (hs : M s.mem) : M (Spd.writeWhole s off bs).mem := by
  unfold Spd.writeWhole; with_reducible apply Spd.writeP_mem hM; assumption

theorem Spd.noteStall_mem (hM : MemClosed M) (s : Spd) (hs : M s.mem) : M (Spd.noteStall s).mem := by
  unfold Spd.noteStall
  repeat' first
    | with_reducible assumption | intro _ | dsimp only | split

theorem Spd.grant_mem (hM : MemClosed M) (s : Spd) (w) (hs : M s.mem) : M (Spd.grant s w).mem := by
  unfold Spd.grant
  repeat' first
    | with_reducible assumption | split

theorem Spd.request_mem (hM : MemClosed M) (s : Spd) (w) (hs : M s.mem) : M (Spd.request s w).mem := by
  unfold Spd.request
  repeat' first
    | with_reducible assumption | split

theorem Spd.release_mem (hM : MemClosed M) (s : Spd) (owner x) (hs : M s.mem) : M (Spd.release s owner x).mem := by
  unfold Spd.release
  repeat' first
    | with_reducible assumption

theorem Spd.drain_mem (hM : MemClosed M) (s : Spd) (e) (hs : M s.mem) : M (Spd.drain s e).2.mem := by
  unfold Spd.drain
  repeat' first
    | with_reducible assumption | with_reducible apply Spd.writeP_mem hM | split

theorem Spd.zeroize_mem (hM : MemClosed M) (s : Spd) : M s.zeroize.mem := hM.1

theorem Cluster.pendCause_mem (hM : MemClosed M) (c : Cluster) (k sub) (hc : M c.spd.mem) : M (Cluster.pendCause c k sub).spd.mem := by
  unfold Cluster.pendCause
  repeat' first
    | with_reducible assumption

theorem Cluster.stopAll_mem (hM : MemClosed M) (c : Cluster) (hc : M c.spd.mem) : M (Cluster.stopAll c).spd.mem := by
  unfold Cluster.stopAll
  repeat' first
    | with_reducible assumption

theorem Cluster.rd_mem (hM : MemClosed M) (c : Cluster) (port off len : Nat) (hc : M c.spd.mem) : M (Cluster.rd c port off len).2.spd.mem := by
  unfold Cluster.rd
  dsimp only
  split
  · exact Spd.read_mem hM _ _ _ _ hc
  · exact Spd.read_mem hM _ _ _ _ hc

theorem Cluster.rdAll_mem (hM : MemClosed M) : ∀ (c : Cluster) (port : Nat) (es : List (Nat × Nat)), M c.spd.mem → M (Cluster.rdAll c port es).2.spd.mem
  | _, _, [], hc => hc
  | c, port, (a, k) :: t, hc => Cluster.rdAll_mem hM _ port t (Cluster.rd_mem hM c port a k hc)

theorem Cluster.wr_mem (hM : MemClosed M) (c : Cluster) (port off bs) (hc : M c.spd.mem) : M (Cluster.wr c port off bs).spd.mem := by
  unfold Cluster.wr
  repeat' first
    | with_reducible assumption | with_reducible apply Spd.writeP_mem hM | with_reducible apply Cluster.stopAll_mem hM | dsimp only | split

theorem Cluster.wrWhole_mem (hM : MemClosed M) (c : Cluster) (off bs) (hc : M c.spd.mem) : M (Cluster.wrWhole c off bs).spd.mem := by
  unfold Cluster.wrWhole; with_reducible apply Spd.writeWhole_mem hM; assumption

theorem Cluster.opRow_mem (hM : MemClosed M) (c : Cluster) (d k r) (hc : M c.spd.mem) : M (Cluster.opRow c d k r).2.spd.mem := by
  unfold Cluster.opRow
  repeat' first
    | with_reducible assumption | intro _ | with_reducible apply Cluster.rd_mem hM | dsimp only | split

theorem Cluster.opRows_mem (hM : MemClosed M) : ∀ (c : Cluster) (d : OpDesc) (k : Nat) (rs : List Nat), M c.spd.mem → M (Cluster.opRows c d k rs).2.spd.mem
  | _, _, _, [], hc => hc
  | c, d, k, r :: t, hc => Cluster.opRows_mem hM _ d k t (Cluster.opRow_mem hM c d k r hc)

theorem Cluster.mxeEvents_mem (hM : MemClosed M) (c : Cluster) (f0) (hc : M c.spd.mem) : M (Cluster.mxeEvents c f0).spd.mem := by
  unfold Cluster.mxeEvents
  repeat' first
    | with_reducible assumption | with_reducible apply Cluster.pendCause_mem hM | split

theorem Cluster.finishMma_mem (hM : MemClosed M) (c : Cluster) (hc : M c.spd.mem) : M (Cluster.finishMma c).spd.mem := by
  unfold Cluster.finishMma
  repeat' first
    | with_reducible assumption | with_reducible apply Cluster.opRows_mem hM | with_reducible apply Cluster.mxeEvents_mem hM | split

theorem Cluster.mreadRow_mem (hM : MemClosed M) (d : RoDesc) (accb : Nat) (bias : List (Option FVal)) (st : Cluster × Flags) (r : Nat) (hc : M st.1.spd.mem) :
    M (Cluster.mreadRow d accb bias st r).1.spd.mem := by
  unfold Cluster.mreadRow
  dsimp only
  split
  · exact Cluster.wr_mem hM _ _ _ _ (Cluster.wrWhole_mem hM _ _ _ hc)
  · exact Cluster.wrWhole_mem hM _ _ _ hc

theorem Cluster.runMread_mem (hM : MemClosed M) (c : Cluster) (d accb) (hc : M c.spd.mem) : M (Cluster.runMread c d accb).1.spd.mem := by
  unfold Cluster.runMread
  repeat' first
    | with_reducible assumption | with_reducible apply Cluster.rd_mem hM | with_reducible apply Cluster.mreadRow_mem hM
    | with_reducible apply memFoldlC | with_reducible apply memFoldlFstC | with_reducible apply memFoldlD | with_reducible apply memFoldlFstD | split

theorem Cluster.runMspill_mem (hM : MemClosed M) (c : Cluster) (d accb cut) (hc :
    M c.spd.mem) : M (Cluster.runMspill c d accb cut).1.spd.mem := by
  unfold Cluster.runMspill
  repeat' first
    | with_reducible assumption | with_reducible apply Cluster.wrWhole_mem hM | dsimp only | split

theorem Cluster.runMcomb_mem (hM : MemClosed M) (c : Cluster) (d accb cut cutself) (hc :
    M c.spd.mem) : M (Cluster.runMcomb c d accb cut cutself).1.spd.mem := by
  unfold Cluster.runMcomb; with_reducible apply Cluster.rd_mem hM; assumption

theorem Cluster.finishRo_mem (hM : MemClosed M) (c : Cluster) (hc : M c.spd.mem) : M (Cluster.finishRo c).spd.mem := by
  unfold Cluster.finishRo
  repeat' first
    | with_reducible assumption | with_reducible apply Cluster.runMread_mem hM | with_reducible apply Cluster.runMspill_mem hM
    | with_reducible apply Cluster.runMcomb_mem hM | with_reducible apply Cluster.mxeEvents_mem hM | with_reducible apply Cluster.pendCause_mem hM
    | dsimp only | split

theorem Cluster.ldBeat_mem (hM : MemClosed M) (c : Cluster) (r o0) (hc : M c.spd.mem) : M (Cluster.ldBeat c r o0).1.spd.mem := by
  unfold Cluster.ldBeat
  repeat' first
    | with_reducible assumption | with_reducible apply Cluster.rdAll_mem hM | with_reducible apply Cluster.rd_mem hM | dsimp only | split

theorem Cluster.mergeBeat_mem (hM : MemClosed M) (c : Cluster) (base) (s) (w) (lo) (hi) (out) (hc : M c.spd.mem) :
    M (Cluster.mergeBeat c base s w lo hi out).spd.mem := by
  unfold Cluster.mergeBeat
  repeat' first
    | with_reducible assumption | intro _ | with_reducible apply Spd.mergeWord_mem hM | with_reducible apply Cluster.stopAll_mem hM
    | with_reducible apply memFoldlC | with_reducible apply memFoldlFstC | with_reducible apply memFoldlD | with_reducible apply memFoldlFstD
    | with_reducible apply memFoldlK | dsimp only | split

theorem Cluster.stBeat_mem (hM : MemClosed M) (c : Cluster) (r o0) (hc : M c.spd.mem) : M (Cluster.stBeat c r o0).1.spd.mem := by
  unfold Cluster.stBeat
  repeat' first
    | with_reducible assumption | intro _ | with_reducible apply Cluster.wr_mem hM | with_reducible apply Cluster.mergeBeat_mem hM
    | with_reducible apply memFoldlC | with_reducible apply memFoldlFstC | with_reducible apply memFoldlD | with_reducible apply memFoldlFstD
    | with_reducible apply memFoldlK | dsimp only | split

theorem Cluster.rspill_mem (hM : MemClosed M) (c : Cluster) (r o0) (hc : M c.spd.mem) : M (Cluster.rspill c r o0).1.spd.mem := by
  unfold Cluster.rspill
  repeat' first
    | with_reducible assumption | with_reducible apply Cluster.wrWhole_mem hM | dsimp only | split

theorem Cluster.rcomb_mem (hM : MemClosed M) (c : Cluster) (r o0) (hc : M c.spd.mem) : M (Cluster.rcomb c r o0).1.spd.mem := by
  unfold Cluster.rcomb
  repeat' first
    | with_reducible assumption | with_reducible apply Cluster.rd_mem hM | dsimp only | split

theorem Cluster.shadowBeat_mem (hM : MemClosed M) (c : Cluster) (r load) (hc : M c.spd.mem) : M (Cluster.shadowBeat c r load).spd.mem := by
  unfold Cluster.shadowBeat
  repeat' first
    | with_reducible assumption | with_reducible apply Cluster.rdAll_mem hM | with_reducible apply Cluster.wr_mem hM
    | with_reducible apply Cluster.rd_mem hM | with_reducible apply Cluster.wrWhole_mem hM | with_reducible apply memFoldlC
    | with_reducible apply memFoldlFstC | with_reducible apply memFoldlD | with_reducible apply memFoldlFstD | intro _ | split

theorem Cluster.vxeEvents_mem (hM : MemClosed M) (c : Cluster) (r) (hc : M c.spd.mem) : M (Cluster.vxeEvents c r).spd.mem := by
  unfold Cluster.vxeEvents
  repeat' first
    | with_reducible assumption | with_reducible apply Cluster.pendCause_mem hM | split

theorem Cluster.beatEffect_mem (hM : MemClosed M) (c : Cluster) (r k o0) (hc :
    M c.spd.mem) : M (Cluster.beatEffect c r k o0).1.spd.mem := by
  unfold Cluster.beatEffect
  repeat' first
    | with_reducible assumption | with_reducible apply Cluster.ldBeat_mem hM | with_reducible apply Cluster.stBeat_mem hM
    | with_reducible apply Cluster.shadowBeat_mem hM | with_reducible apply Cluster.rspill_mem hM | with_reducible apply Cluster.rcomb_mem hM
    | dsimp only | split

theorem Cluster.commitBeat_mem (hM : MemClosed M) (c : Cluster) (hc : M c.spd.mem) : M (Cluster.commitBeat c).spd.mem := by
  unfold Cluster.commitBeat
  repeat' first
    | with_reducible assumption | with_reducible apply Cluster.beatEffect_mem hM | with_reducible apply Cluster.vxeEvents_mem hM | dsimp only | split

theorem csrRead_mem (hM : MemClosed M) (kind mer) (c : Cluster) (off) (hc : M c.spd.mem) : M (csrRead kind mer c off).2.spd.mem := by
  unfold csrRead
  repeat' first
    | with_reducible assumption | with_reducible apply memIteSndC | with_reducible apply memIteSndD | dsimp only | intro _

theorem csrWrite_mem (hM : MemClosed M) (kind lk) (c : Cluster) (off v) (hc :
    M c.spd.mem) : M (csrWrite kind lk c off v).spd.mem := by
  unfold csrWrite
  repeat' first
    | with_reducible assumption | with_reducible apply memIteC | dsimp only | intro _

theorem csrSetClear_mem (hM : MemClosed M) (kind mer set) (c : Cluster) (off v) (hc :
    M c.spd.mem) : M (csrSetClear kind mer set c off v).spd.mem := by
  unfold csrSetClear
  repeat' first
    | with_reducible assumption | with_reducible apply csrWrite_mem hM | dsimp only | split

theorem Cluster.enter_mem (hM : MemClosed M) (c : Cluster) (k sub) (hc : M c.spd.mem) : M (Cluster.enter c k sub).spd.mem := by
  unfold Cluster.enter
  repeat' first
    | with_reducible assumption | dsimp only | split

theorem Cluster.enterPending_mem (hM : MemClosed M) (c : Cluster) (hc : M c.spd.mem) : M (Cluster.enterPending c).spd.mem := by
  unfold Cluster.enterPending
  repeat' first
    | with_reducible assumption | with_reducible apply Cluster.enter_mem hM | split

theorem Cluster.overrun_mem (hM : MemClosed M) (c : Cluster) (sub lcls pc) (hc :
    M c.spd.mem) : M (Cluster.overrun c sub lcls pc).spd.mem := by
  unfold Cluster.overrun; with_reducible apply Cluster.pendCause_mem hM; assumption

theorem Cluster.resumeVx_mem (hM : MemClosed M) (c : Cluster) (hc : M c.spd.mem) : M (Cluster.resumeVx c).spd.mem := by
  unfold Cluster.resumeVx
  repeat' first
    | with_reducible assumption | intro _ | with_reducible apply Spd.noteStall_mem hM | with_reducible apply Cluster.enter_mem hM | dsimp only
    | split

theorem scalarExec_mem (hM : MemClosed M) (kind mer now) (p0 : Cluster) (c : Cluster) (w) (hp0 :
    M p0.spd.mem) (hc : M c.spd.mem) : M (scalarExec kind mer now p0 c w).spd.mem := by
  unfold scalarExec
  repeat' first
    | with_reducible assumption | with_reducible apply Cluster.rd_mem hM | with_reducible apply csrRead_mem hM | with_reducible apply csrWrite_mem hM
    | with_reducible apply csrSetClear_mem hM | with_reducible apply Cluster.overrun_mem hM | with_reducible apply Cluster.enterPending_mem hM
    | with_reducible apply Cluster.resumeVx_mem hM | with_reducible apply memIteC | dsimp only | intro _ | split

theorem Cluster.modThread_mem (hM : MemClosed M) (c : Cluster) (t f0) (hc : M c.spd.mem) : M (Cluster.modThread c t f0).spd.mem := by
  unfold Cluster.modThread
  repeat' first
    | with_reducible assumption

theorem Cluster.thrStall_mem (hM : MemClosed M) (c : Cluster) (t) (w) (hc : M c.spd.mem) :
    M (Cluster.thrStall c t w).spd.mem := by
  unfold Cluster.thrStall
  repeat' first
    | with_reducible assumption | intro _ | with_reducible apply Spd.noteStall_mem hM | dsimp only | split

theorem Cluster.sxFault_mem (hM : MemClosed M) (c : Cluster) (t code pc) (hc :
    M c.spd.mem) : M (Cluster.sxFault c t code pc).spd.mem := by
  unfold Cluster.sxFault
  repeat' first
    | with_reducible assumption | with_reducible apply Cluster.modThread_mem hM | with_reducible apply Cluster.pendCause_mem hM

theorem Cluster.drainAll_mem (hM : MemClosed M) (c : Cluster) (t) (hc : M c.spd.mem) : M (Cluster.drainAll c t).spd.mem := by
  unfold Cluster.drainAll
  repeat' first
    | with_reducible assumption | with_reducible apply Spd.drain_mem hM | with_reducible apply Cluster.stopAll_mem hM
    | with_reducible apply Cluster.modThread_mem hM | with_reducible apply memFoldlC | with_reducible apply memFoldlD | dsimp only | intro _ | split

theorem Cluster.thrLoad_mem (hM : MemClosed M) (c : Cluster) (t ad n0) (hc :
    M c.spd.mem) : M (Cluster.thrLoad c t ad n0).2.spd.mem := by
  unfold Cluster.thrLoad
  repeat' first
    | with_reducible assumption | with_reducible apply Cluster.rd_mem hM | split

theorem Cluster.atomic_mem (hM : MemClosed M) (c : Cluster) (t rd ad n0 f0) (hc :
    M c.spd.mem) : M (Cluster.atomic c t rd ad n0 f0).spd.mem := by
  unfold Cluster.atomic
  repeat' first
    | with_reducible assumption | intro _ | with_reducible apply Spd.swap_mem hM | with_reducible apply Cluster.stopAll_mem hM
    | with_reducible apply Cluster.modThread_mem hM | with_reducible apply Cluster.drainAll_mem hM | dsimp only | split

theorem thrExec_mem (hM : MemClosed M) (c : Cluster) (t w) (hc : M c.spd.mem) : M (thrExec c t w).spd.mem := by
  unfold thrExec
  repeat' first
    | with_reducible assumption | with_reducible apply Cluster.modThread_mem hM | with_reducible apply Cluster.thrLoad_mem hM
    | with_reducible apply Cluster.atomic_mem hM | with_reducible apply memIteC | intro _

theorem Stack.record_mem (hM : MemClosed M) (s : Stack) (code tenant off) (hs :
    M s.mem) : M (Stack.record s code tenant off).mem := by
  unfold Stack.record
  repeat' first
    | with_reducible assumption | split

theorem Stack.noteUe_mem (hM : MemClosed M) (s : Stack) (tenant off) (hs : M s.mem) : M (Stack.noteUe s tenant off).mem := by
  unfold Stack.noteUe; with_reducible apply Stack.record_mem hM; assumption

theorem Stack.noteCe_mem (hM : MemClosed M) (s : Stack) (hs : M s.mem) : M (Stack.noteCe s).mem := by
  unfold Stack.noteCe
  repeat' first
    | with_reducible assumption

theorem Stack.noteKeyMiss_mem (hM : MemClosed M) (s : Stack) (tenant off) (hs : M s.mem) : M (Stack.noteKeyMiss s tenant off).mem := by
  unfold Stack.noteKeyMiss; with_reducible apply Stack.record_mem hM; assumption

theorem Stack.readLine_mem (hM : MemClosed M) (s : Stack) (k tenant key line f0) (hs :
    M s.mem) : M (Stack.readLine s k tenant key line f0).2.2.mem := by
  unfold Stack.readLine
  repeat' first
    | with_reducible assumption | with_reducible apply Stack.noteUe_mem hM | with_reducible apply Stack.noteCe_mem hM | dsimp only | split

theorem Stack.readLines_mem (hM : MemClosed M) : ∀ (ls : List Nat) (s : Stack) (k tenant key : Nat) (g : LineFaults), M s.mem → M (Stack.readLines s k tenant key g ls).2.mem
  | [], _, _, _, _, _, hs => hs
  | l :: t, s, k, tenant, key, g, hs => Stack.readLines_mem hM t _ k tenant key g (Stack.readLine_mem hM s k tenant key l g hs)

theorem Stack.readKeyed_mem (hM : MemClosed M) (s : Stack) (k : Nat) (slot : Option Nat) (tenant off len : Nat) (g : LineFaults) (hs : M s.mem) :
    M (Stack.readKeyed s k slot tenant off len g).2.mem := by
  unfold Stack.readKeyed
  split
  · exact Stack.noteKeyMiss_mem hM _ _ _ hs
  · exact Stack.readLines_mem hM _ _ _ _ _ _ hs

theorem Stack.readBytes_mem (hM : MemClosed M) (s : Stack) (k : Nat) (fwkey : Bool) (tenant off len : Nat) (g : LineFaults) (hs : M s.mem) :
    M (Stack.readBytes s k fwkey tenant off len g).2.mem := by
  unfold Stack.readBytes
  exact Stack.readKeyed_mem hM _ _ _ _ _ _ _ hs

theorem Stack.writeLine_mem (hM : MemClosed M) (s : Stack) (k tenant key line at_ : Nat) (bs : List PByte) (g : LineFaults) (hs : M s.mem) :
    M (Stack.writeLine s k tenant key line at_ bs g).mem := by
  unfold Stack.writeLine
  split
  · exact hM.writeN _ _ _ hs
  · exact hM.writeN _ _ _ (Stack.readLine_mem hM s k tenant key line g hs)

theorem Stack.writeFrom_mem (hM : MemClosed M) : ∀ (fuel : Nat) (s : Stack) (k tenant key off : Nat) (g : LineFaults) (bs : List PByte), M s.mem →
    M (Stack.writeFrom s k tenant key off g bs fuel).mem
  | 0, _, _, _, _, _, _, _, hs => hs
  | fuel + 1, s, k, tenant, key, off, g, bs, hs => by
    unfold Stack.writeFrom
    split
    · exact hs
    · exact Stack.writeFrom_mem hM fuel _ _ _ _ _ _ _ (Stack.writeLine_mem hM _ _ _ _ _ _ _ _ hs)

theorem Stack.writeKeyed_mem (hM : MemClosed M) (s : Stack) (k : Nat) (slot : Option Nat) (tenant off : Nat) (bs : List PByte) (g : LineFaults)
    (hs : M s.mem) : M (Stack.writeKeyed s k slot tenant off bs g).mem := by
  unfold Stack.writeKeyed
  split
  · exact Stack.noteKeyMiss_mem hM _ _ _ hs
  · exact Stack.writeFrom_mem hM _ _ _ _ _ _ _ _ hs

theorem Stack.writeBytes_mem (hM : MemClosed M) (s : Stack) (k : Nat) (fwkey : Bool) (tenant off : Nat) (bs : List PByte) (g : LineFaults) (hs : M s.mem) :
    M (Stack.writeBytes s k fwkey tenant off bs g).mem := by
  unfold Stack.writeBytes
  exact Stack.writeKeyed_mem hM _ _ _ _ _ _ _ hs

theorem Stack.chargeAgg_mem (hM : MemClosed M) (s : Stack) (n0) (hs : M s.mem) : M (Stack.chargeAgg s n0).mem := by
  unfold Stack.chargeAgg
  repeat' first
    | with_reducible assumption | split

theorem Stack.chargeTenant_mem (hM : MemClosed M) (s : Stack) (t n0) (hs : M s.mem) : M (Stack.chargeTenant s t n0).mem := by
  unfold Stack.chargeTenant
  repeat' first
    | with_reducible assumption

theorem Stack.refillAll_mem (hM : MemClosed M) (s : Stack) (hs : M s.mem) : M (Stack.refillAll s).mem := by
  unfold Stack.refillAll
  repeat' first
    | with_reducible assumption

theorem Stack.loseChannel_mem (hM : MemClosed M) (s : Stack) (c) (hs : M s.mem) : M (Stack.loseChannel s c).mem := by
  unfold Stack.loseChannel
  repeat' first
    | with_reducible assumption

theorem Stack.refreshCmd_mem (hM : MemClosed M) (s : Stack) (c margin) (hs : M s.mem) : M (Stack.refreshCmd s c margin).1.mem := by
  unfold Stack.refreshCmd
  repeat' first
    | with_reducible assumption | dsimp only | split

theorem Stack.write_mem (hM : MemClosed M) (s : Stack) (off v) (w : Writer) (hs : M s.mem) : M (Stack.write s off v w).mem := by
  unfold Stack.write
  repeat' first
    | with_reducible assumption | split

theorem Spd.countCol_mem (hM : MemClosed M) (s : Spd) (key col row pol new) (hs :
    M s.mem) : M (Spd.countCol s key col row pol new).mem := by
  unfold Spd.countCol
  repeat' first
    | with_reducible assumption | dsimp only | split

theorem Spd.scrubWord1_mem (hM : MemClosed M) (s : Spd) (bank line w found) (hs :
    M s.mem) : M (Spd.scrubWord1 s bank line w found).mem := by
  unfold Spd.scrubWord1
  repeat' first
    | with_reducible assumption | intro _ | with_reducible apply Spd.noteCe_mem hM | with_reducible apply Spd.noteUe_mem hM
    | with_reducible apply Spd.storeDecoded_mem hM | with_reducible apply Stack.noteUe_mem hM | with_reducible apply Stack.noteCe_mem hM
    | with_reducible apply Spd.countCol_mem hM | with_reducible apply memFoldlC | with_reducible apply memFoldlFstC
    | with_reducible apply memFoldlD | with_reducible apply memFoldlFstD | with_reducible apply memFoldlK | dsimp only | split

theorem Spd.declare_mem (hM : MemClosed M) (s : Spd) (bank sub) (hs : M s.mem) : M (Spd.declare s bank sub).1.mem := by
  unfold Spd.declare
  repeat' first
    | with_reducible assumption | with_reducible apply memFoldlD | with_reducible apply memFoldlFstD | intro _ | split

theorem Spd.passEnd_mem (hM : MemClosed M) (s : Spd) (hs : M s.mem) : M (Spd.passEnd s).mem := by
  unfold Spd.passEnd
  repeat' first
    | with_reducible assumption | split

theorem Spd.scrub_mem (hM : MemClosed M) (s : Spd) (bank faults) (hs : M s.mem) : M (Spd.scrub s bank faults).1.mem := by
  unfold Spd.scrub
  repeat' first
    | with_reducible assumption | with_reducible apply Spd.scrubWord1_mem hM | with_reducible apply Spd.declare_mem hM
    | with_reducible apply Spd.passEnd_mem hM | with_reducible apply memFoldlD | dsimp only | intro _ | split

theorem Spd.copyWord_mem (hM : MemClosed M) (s : Spd) (n0) (hs : M s.mem) :
    M (Spd.copyWord s n0).mem := by
  unfold Spd.copyWord
  repeat' first
    | with_reducible assumption | intro _ | with_reducible apply Spd.recordFault_mem hM | with_reducible apply Spd.noteCe_mem hM
    | with_reducible apply Spd.storeDecoded_mem hM | with_reducible apply Stack.noteCe_mem hM | dsimp only | split

theorem Spd.copied_mem (hM : MemClosed M) (s : Spd) (r) (hs : M s.mem) : M (Spd.copied s r).mem := by
  unfold Spd.copied
  repeat' first
    | with_reducible assumption | intro _ | with_reducible apply Spd.copyWord_mem hM | with_reducible apply memFoldlC
    | with_reducible apply memFoldlFstC | with_reducible apply memFoldlD | with_reducible apply memFoldlFstD | with_reducible apply memFoldlK
    | dsimp only | split

theorem Cluster.zeroized_mem (hM : MemClosed M) (k : Cluster) (tenantChange) (hk :
    M k.spd.mem) : M (Cluster.zeroized k tenantChange).spd.mem := by
  unfold Cluster.zeroized
  repeat' first
    | with_reducible assumption | with_reducible apply Spd.zeroize_mem hM | split

theorem Stack.chargeAccess_mem (hM : MemClosed M) (s : Stack) (src) (t) (n0) (hs : M s.mem) :
    M (Stack.chargeAccess s src t n0).mem := by
  unfold Stack.chargeAccess
  repeat' first
    | with_reducible assumption | intro _ | dsimp only | split

theorem Cluster.headerRead_mem (hM : MemClosed M) (k : Cluster) (cause) (sub) (header) (hk : M k.spd.mem) :
    M (Cluster.headerRead k cause sub header).spd.mem := by
  unfold Cluster.headerRead
  repeat' first
    | with_reducible assumption | intro _ | with_reducible apply Cluster.rd_mem hM | dsimp only | split

theorem Cluster.refuseVx_mem (hM : MemClosed M) (k : Cluster) (cause) (w) (hk : M k.spd.mem) :
    M (Cluster.refuseVx k cause w).spd.mem := by
  unfold Cluster.refuseVx
  repeat' first
    | with_reducible assumption | intro _ | dsimp only | split

theorem Cluster.refuseMx_mem (hM : MemClosed M) (k : Cluster) (cause) (sub) (hk : M k.spd.mem) :
    M (Cluster.refuseMx k cause sub).spd.mem := by
  unfold Cluster.refuseMx
  repeat' first
    | with_reducible assumption | intro _ | dsimp only | split

theorem Cluster.syncDue_mem (hM : MemClosed M) (k : Cluster) (now) (hk : M k.spd.mem) :
    M (Cluster.syncDue k now).spd.mem := by
  unfold Cluster.syncDue
  repeat' first
    | with_reducible assumption | intro _ | with_reducible apply Cluster.overrun_mem hM | dsimp only | split

theorem Cluster.landed_mem (hM : MemClosed M) (k : Cluster) (now) (hk : M k.spd.mem) :
    M (Cluster.landed k now).spd.mem := by
  unfold Cluster.landed
  dsimp only
  split
  · with_reducible exact memIteC (fun _ => Cluster.syncDue_mem hM _ _ hk) fun _ => hk
  · exact hk

end Sys2Proof.Machine
end

