-- ==== Sys2Proof/Laws/KeptOps.lean ====
section
/-!
SUPPORT. What the named operations on the panel keep.
-/
namespace Sys2Proof.Machine

variable {M : List Host.Cell → Prop} {p : List Instr} {n f : Nat} {o : List Msg}

theorem State.raise_kept (hM : MemClosed M) (s : State) (code unit sub detail) (hs : Kept M p n f o s) :
    Kept M p n f o (State.raise s code unit sub detail) := by
  unfold State.raise
  repeat' first
    | with_reducible assumption | fail_if_no_progress with_reducible apply Kept.all

theorem State.raiseAs_kept (hM : MemClosed M) (s : State) (source code unit sub detail) (hs : Kept M p n f o s) :
    Kept M p n f o (State.raiseAs s source code unit sub detail) := by
  unfold State.raiseAs
  repeat' first
    | with_reducible assumption | fail_if_no_progress with_reducible apply Kept.all

theorem State.raiseSv_kept (hM : MemClosed M) (s : State) (code unit sub detail) (hs : Kept M p n f o s) :
    Kept M p n f o (State.raiseSv s code unit sub detail) := by
  unfold State.raiseSv; with_reducible apply State.raiseAs_kept hM; assumption

theorem State.toEntries_kept (hM : MemClosed M) (s : State) (kind words) (hs : Kept M p n f o s) : Kept M p n f o (State.toEntries s kind words) := by
  unfold State.toEntries
  repeat' first
    | with_reducible assumption | with_reducible apply State.emits_kept | split

theorem State.castBallot_kept (hM : MemClosed M) (s : State) (hs : Kept M p n f o s) : Kept M p n f o (State.castBallot s) := by
  unfold State.castBallot
  repeat' first
    | with_reducible assumption | with_reducible apply State.toEntries_kept hM | with_reducible apply State.modCnf_kept | split

theorem State.openVote_kept (hM : MemClosed M) (s : State) (a accuse) (hs : Kept M p n f o s) : Kept M p n f o (State.openVote s a accuse) := by
  unfold State.openVote
  repeat' first
    | with_reducible assumption | with_reducible apply State.modCnf_kept | with_reducible apply State.castBallot_kept hM
    | with_reducible apply State.toEntries_kept hM | split

theorem State.askVote_kept (hM : MemClosed M) (s : State) (bits) (hs : Kept M p n f o s) : Kept M p n f o (State.askVote s bits) := by
  unfold State.askVote
  repeat' first
    | with_reducible assumption | with_reducible apply State.openVote_kept hM | with_reducible apply State.modCnf_kept
    | with_reducible apply State.castBallot_kept hM | dsimp only | split

theorem State.modCl_kept (hM : MemClosed M) (s : State) (c : Nat) (g : Cluster → Cluster) (hs :
    Kept M p n f o s) (hg : ∀ k, M k.spd.mem → M (g k).spd.mem) :
    Kept M p n f o (s.modCl c g) := by
  unfold State.modCl
  have h1 : Kept M p n f o (s.setCl c (g (s.cl c))) := State.setCl_kept hs (hg _ (hs.cl hM c))
  dsimp only
  split
  · have h2 := Kept.foldl (l := List.range ((g (s.cl c)).spd.ueSeen - (s.cl c).spd.ueSeen)) h1 fun s _ hs =>
      State.raise_kept hM s .eccUncorrected (c / 8) (c % 8) (g (s.cl c)).spd.fault.toNat hs
    split
    · exact State.askVote_kept hM _ _ (Kept.foldl h1 fun s _ hs => State.raise_kept hM s _ _ _ _ hs)
    · exact Kept.foldl h1 fun s _ hs => State.raise_kept hM s _ _ _ _ hs
  · exact h1

theorem State.modStkNote_kept (hM : MemClosed M) (s : State) (k : Nat) (g : Stack → Stack) (hs : Kept M p n f o s) (hg : ∀ x, M x.mem → M (g x).mem) :
    Kept M p n f o (s.modStkNote k g) := by
  unfold State.modStkNote
  have h1 : Kept M p n f o (s.modStk k fun _ => g (s.stk k)) := State.modStk_kept hM hs fun _ _ => hg _ (hs.stk hM k)
  dsimp only
  split
  · split
    · exact State.raise_kept hM _ _ _ _ _ (State.raise_kept hM _ _ _ _ _ h1)
    · exact State.raise_kept hM _ _ _ _ _ h1
  · split
    · exact State.raise_kept hM _ _ _ _ _ h1
    · exact h1

theorem State.countCause_kept (hM : MemClosed M) (s : State) (c k) (hs : Kept M p n f o s) : Kept M p n f o (State.countCause s c k) := by
  unfold State.countCause
  repeat' first
    | with_reducible assumption | with_reducible apply State.raise_kept hM | split

theorem State.enterTrap_kept (hM : MemClosed M) (s : State) (c k sub) (hs : Kept M p n f o s) : Kept M p n f o (State.enterTrap s c k sub) := by
  unfold State.enterTrap
  repeat' first
    | with_reducible assumption | intro _ | with_reducible apply State.countCause_kept hM | with_reducible apply State.modCl_kept hM
    | with_reducible apply Cluster.enter_mem hM | with_reducible apply State.raise_kept hM | split

theorem State.setObj_kept (hM : MemClosed M) (s : State) (i k v) (hs : Kept M p n f o s) : Kept M p n f o (State.setObj s i k v) := by
  unfold State.setObj
  repeat' first
    | with_reducible assumption | with_reducible apply State.modLgd_kept

theorem State.setDom_kept (hM : MemClosed M) (s : State) (i bs) (hs : Kept M p n f o s) : Kept M p n f o (State.setDom s i bs) := by
  unfold State.setDom
  repeat' first
    | with_reducible assumption | with_reducible apply State.modLgd_kept

theorem State.notifyAll_kept (hM : MemClosed M) (s : State) (event index) (hs : Kept M p n f o s) :
    Kept M p n f o (State.notifyAll s event index) := by
  unfold State.notifyAll
  repeat' first
    | with_reducible assumption | with_reducible apply State.emits_kept

theorem State.sendFlits_kept (hM : MemClosed M) (s : State) (far) (site) (port) (c) (hs : Kept M p n f o s) :
    Kept M p n f o (State.sendFlits s far site port c) := by
  unfold State.sendFlits
  repeat' first
    | with_reducible assumption | intro _ | with_reducible apply State.modLev_kept | with_reducible apply State.emits_kept | dsimp only | split

theorem State.sendChunk_kept (hM : MemClosed M) (s : State) (site) (port) (c) (hs : Kept M p n f o s) :
    Kept M p n f o (State.sendChunk s site port c) := by
  unfold State.sendChunk
  repeat' first
    | with_reducible assumption | intro _ | with_reducible apply State.sendFlits_kept hM | with_reducible apply State.emit_kept | dsimp only
    | split

theorem State.sendHopacks_kept (hM : MemClosed M) (s : State) (site) (port) (before) (hs : Kept M p n f o s) :
    Kept M p n f o (State.sendHopacks s site port before) := by
  unfold State.sendHopacks
  repeat' first
    | with_reducible assumption | intro _ | with_reducible apply State.emits_kept | dsimp only | split

theorem State.commitRouter_kept (hM : MemClosed M) (s : State) (site) (r) (sent) (hs : Kept M p n f o s) :
    Kept M p n f o (State.commitRouter s site r sent) := by
  unfold State.commitRouter
  repeat' first
    | with_reducible assumption | intro _ | with_reducible apply State.sendChunk_kept hM | with_reducible apply State.sendHopacks_kept hM
    | with_reducible apply State.modDelta_kept | with_reducible apply Kept.foldl | with_reducible apply Kept.foldlFst
    | with_reducible apply Kept.foldlSnd | dsimp only | split

theorem State.routed_kept (hM : MemClosed M) (s : State) (site f0) (hs : Kept M p n f o s) : Kept M p n f o (State.routed s site f0) := by
  unfold State.routed
  repeat' first
    | with_reducible assumption | intro _ | with_reducible apply State.commitRouter_kept hM | with_reducible apply State.emits_kept | dsimp only
    | split

theorem State.counted_kept (hM : MemClosed M) (s : State) (site) (inPort) (p0) (hs : Kept M p n f o s) :
    Kept M p n f o (State.counted s site inPort p0) := by
  unfold State.counted
  repeat' first
    | with_reducible assumption | intro _ | with_reducible apply State.accepted_kept hM | with_reducible apply State.modDelta_kept | dsimp only
    | split

theorem State.enter_kept (hM : MemClosed M) (s : State) (site) (inPort) (p0) (hs : Kept M p n f o s) :
    Kept M p n f o (State.enter s site inPort p0).1 := by
  unfold State.enter
  repeat' first
    | with_reducible assumption | intro _ | with_reducible apply State.routed_kept hM | with_reducible apply State.counted_kept hM | dsimp only
    | split

theorem State.dropped_kept (hM : MemClosed M) (s : State) (site) (counter) (hs : Kept M p n f o s) :
    Kept M p n f o (State.dropped s site counter) := by
  unfold State.dropped
  repeat' first
    | with_reducible assumption | intro _ | with_reducible apply State.modDelta_kept | dsimp only | split

theorem State.window_kept (hM : MemClosed M) (s : State) (src unit n0 maxp : Nat) (data : Bool) (hs :
    Kept M p n f o s) : ∀ t, s.window src unit n0 maxp data = some t → Kept M p n f o t := by
  intro t e
  unfold State.window at e
  dsimp only at e
  repeat' split at e
  all_goals first
    | contradiction
    | exact (Option.some.inj e) ▸ hs
    | exact (Option.some.inj e) ▸ (State.modDelta_kept hs)

theorem State.unitFlits_kept (hM : MemClosed M) (s : State) (site) (port) (p0) (hs : Kept M p n f o s) :
    Kept M p n f o (State.unitFlits s site port p0) := by
  unfold State.unitFlits
  repeat' first
    | with_reducible assumption | intro _ | with_reducible apply State.sendFlits_kept hM | dsimp only | split

theorem State.noteEntered_kept (hM : MemClosed M) (s : State) (site) (port) (q) (hs : Kept M p n f o s) :
    Kept M p n f o (State.noteEntered s site port q) := by
  unfold State.noteEntered
  repeat' first
    | with_reducible assumption | intro _ | with_reducible apply State.modDelta_kept | dsimp only | split

theorem State.awaitEntry_kept (hM : MemClosed M) (s : State) (site) (port) (q) (hs : Kept M p n f o s) :
    Kept M p n f o (State.awaitEntry s site port q) := by
  unfold State.awaitEntry
  repeat' first
    | with_reducible assumption | intro _ | with_reducible apply State.modDelta_kept | dsimp only | split

theorem State.mayEnter_kept (hM : MemClosed M) (s : State) (site port q) (hs : Kept M p n f o s) :
    ∀ t, s.mayEnter site port q = some t → Kept M p n f o t := by
  intro t e
  unfold State.mayEnter at e
  split at e
  · contradiction
  · obtain ⟨u, hu, rfl⟩ := Option.map_eq_some_iff.mp e
    exact State.noteEntered_kept hM _ _ _ _ (State.window_kept hM _ _ _ _ _ _ hs _ hu)

theorem State.sendCtl_kept (hM : MemClosed M) (s : State) (site p0) (hs : Kept M p n f o s) : Kept M p n f o (State.sendCtl s site p0) := by
  unfold State.sendCtl
  split
  · with_reducible exact State.enter_kept hM _ _ _ _ hs
  · dsimp only
    split
    · split
      · next e =>
        with_reducible apply State.enter_kept hM
        with_reducible apply State.unitFlits_kept hM
        exact State.mayEnter_kept hM _ _ _ _ hs _ e
      · with_reducible exact State.awaitEntry_kept hM _ _ _ _ hs
    · with_reducible exact State.dropped_kept hM _ _ _ hs
    · with_reducible exact State.dropped_kept hM _ _ _ hs

theorem State.sendNak_kept (hM : MemClosed M) (s : State) (site code p0) (hs : Kept M p n f o s) : Kept M p n f o (State.sendNak s site code p0) := by
  unfold State.sendNak
  repeat' first
    | with_reducible assumption | intro _ | with_reducible apply State.sendCtl_kept hM | dsimp only | split

theorem State.forwardAt_kept (hM : MemClosed M) (s : State) (site inPort p0) (hs : Kept M p n f o s) :
    Kept M p n f o (State.forwardAt s site inPort p0) := by
  unfold State.forwardAt
  repeat' first
    | with_reducible assumption | intro _ | with_reducible apply Cluster.enter_mem hM | with_reducible apply State.raise_kept hM
    | with_reducible apply State.enter_kept hM | with_reducible apply State.sendNak_kept hM | dsimp only | split

theorem State.dropInject_kept (hM : MemClosed M) (s : State) (site counter nak p0) (hs : Kept M p n f o s) :
    Kept M p n f o (State.dropInject s site counter nak p0) := by
  unfold State.dropInject
  repeat' first
    | with_reducible assumption | intro _ | with_reducible apply State.raise_kept hM | with_reducible apply State.dropped_kept hM
    | with_reducible apply State.sendNak_kept hM | dsimp only | split

theorem State.injectAt_kept (hM : MemClosed M) (s : State) (site) (port) (q) (hs : Kept M p n f o s) :
    Kept M p n f o (State.injectAt s site port q) := by
  unfold State.injectAt
  repeat' first
    | with_reducible assumption | intro _ | with_reducible apply State.forwardAt_kept hM | with_reducible apply State.dropInject_kept hM
    | dsimp only | split

theorem State.sendData_kept (hM : MemClosed M) (s : State) (site) (p0) (hs : Kept M p n f o s) :
    Kept M p n f o (State.sendData s site p0) := by
  unfold State.sendData
  split
  · with_reducible exact State.forwardAt_kept hM _ _ _ _ hs
  · dsimp only
    split
    · split
      · next e =>
        with_reducible apply State.forwardAt_kept hM
        with_reducible apply State.unitFlits_kept hM
        exact State.mayEnter_kept hM _ _ _ _ hs _ e
      · with_reducible exact State.awaitEntry_kept hM _ _ _ _ hs
    · with_reducible exact State.injectAt_kept hM _ _ _ _ hs

theorem State.drainOutbox_kept (hM : MemClosed M) (s : State) (hs : Kept M p n f o s) : Kept M p n f o s.drainOutbox := by
  unfold State.drainOutbox
  with_reducible refine Kept.foldl (State.modDelta_kept hs) fun u x hu => ?_
  dsimp only
  split
  · next e =>
    with_reducible apply State.forwardAt_kept hM
    with_reducible apply State.unitFlits_kept hM
    exact State.mayEnter_kept hM _ _ _ _ hu _ e
  · with_reducible exact State.awaitEntry_kept hM _ _ _ _ hu

theorem State.portDown_kept (hM : MemClosed M) (s : State) (site port) (hs : Kept M p n f o s) : Kept M p n f o (State.portDown s site port) := by
  unfold State.portDown
  repeat' first
    | with_reducible assumption | intro _ | with_reducible apply State.raise_kept hM | with_reducible apply State.commitRouter_kept hM
    | with_reducible apply State.sendNak_kept hM | with_reducible apply State.modDelta_kept | with_reducible apply Kept.foldl
    | with_reducible apply Kept.foldlFst | with_reducible apply Kept.foldlSnd | dsimp only | split

theorem Cluster.kept_mem (hM : MemClosed M) (k : Cluster) : M k.kept.spd.mem := hM.1

theorem State.setLevel_kept (hM : MemClosed M) (s : State) (l) (hs : Kept M p n f o s) : Kept M p n f o (State.setLevel s l) := by
  unfold State.setLevel
  repeat' first
    | with_reducible assumption | with_reducible apply State.notifyAll_kept hM | with_reducible apply State.modBoot_kept | split

theorem State.takeover_kept (hM : MemClosed M) (s : State) (hs : Kept M p n f o s) : Kept M p n f o (State.takeover s) := by
  unfold State.takeover
  repeat' first
    | with_reducible assumption | intro _ | with_reducible apply State.notifyAll_kept hM | with_reducible apply State.modFw_kept | dsimp only
    | split

theorem State.setTurns_kept (hM : MemClosed M) (s : State) (site port) (hs : Kept M p n f o s) : Kept M p n f o (State.setTurns s site port) := by
  unfold State.setTurns
  repeat' first
    | with_reducible assumption | with_reducible apply State.modLev_kept

theorem State.setLists_kept (hM : MemClosed M) (s : State) (site) (port) (hs : Kept M p n f o s) :
    Kept M p n f o (State.setLists s site port) := by
  unfold State.setLists
  repeat' first
    | with_reducible assumption | intro _ | with_reducible apply State.setTurns_kept hM | with_reducible apply State.modLev_kept
    | with_reducible apply Kept.foldl | with_reducible apply Kept.foldlFst | with_reducible apply Kept.foldlSnd | dsimp only | split

theorem State.relevel_kept (hM : MemClosed M) (s : State) (hs : Kept M p n f o s) : Kept M p n f o s.relevel := by
  have h0 : Kept M p n f o ((s.setLevel (some 0)).modBoot fun b => { b with stopped := true }) := State.modBoot_kept (State.setLevel_kept hM s _ hs)
  have h1 := State.setLevel_kept hM s (some 1) hs
  have h2 := State.setLevel_kept hM s (some 2) hs
  unfold State.relevel
  with_reducible refine Kept.ite (fun _ => hs) fun _ => ?_
  split
  · with_reducible exact Kept.ite (fun _ => h0) fun _ => Kept.ite (fun _ => hs) fun _ => h1
  · with_reducible exact Kept.ite (fun _ => h0) fun _ => Kept.ite (fun _ => h2) fun _ => hs
  · exact hs

theorem State.braidsFollow_kept (hM : MemClosed M) (s : State) (g0) (hs : Kept M p n f o s) :
    Kept M p n f o (State.braidsFollow s g0) := by
  unfold State.braidsFollow
  repeat' first
    | with_reducible assumption | intro _ | with_reducible apply State.setLists_kept hM | with_reducible apply State.modDelta_kept
    | with_reducible apply State.modLev_kept | with_reducible apply Kept.foldl | with_reducible apply Kept.foldlFst
    | with_reducible apply Kept.foldlSnd | dsimp only | split

theorem State.unitsFollow_kept (hM : MemClosed M) (s : State) (g0) (hs : Kept M p n f o s) : Kept M p n f o (State.unitsFollow s g0) := by
  unfold State.unitsFollow
  repeat' first
    | with_reducible assumption | intro _ | with_reducible apply State.braidsFollow_kept hM | with_reducible apply State.modPwr_kept | with_reducible apply State.setCl_kept
    | with_reducible apply Cluster.kept_mem hM | with_reducible apply State.portDown_kept hM | with_reducible apply State.modLarre_kept
    | with_reducible apply State.modStk_kept hM | with_reducible apply State.askVote_kept hM | with_reducible apply State.modDelta_kept
    | with_reducible apply State.modDiag_kept | with_reducible apply Kept.ite | with_reducible apply Kept.foldl

theorem State.applyGaz_kept (hM : MemClosed M) (s : State) (f0) (hs : Kept M p n f o s) : Kept M p n f o (State.applyGaz s f0) := by
  unfold State.applyGaz
  repeat' first
    | with_reducible assumption | intro _ | with_reducible apply State.takeover_kept hM | with_reducible apply State.unitsFollow_kept hM | with_reducible apply State.modLog_kept
    | with_reducible apply State.raiseAs_kept hM | with_reducible apply State.raiseSv_kept hM | with_reducible apply State.relevel_kept hM
    | with_reducible apply State.notifyAll_kept hM | with_reducible apply Kept.ite | with_reducible apply Kept.foldl
    | fail_if_no_progress with_reducible apply Kept.all

theorem State.applyRest_kept (hM : MemClosed M) (s : State) (f0) (hs : Kept M p n f o s) :
    Kept M p n f o (State.applyRest s f0) := by
  unfold State.applyRest
  repeat' first
    | with_reducible assumption | intro _ | with_reducible apply State.applyGaz_kept hM | with_reducible apply State.modGaz_kept | dsimp only
    | split

theorem State.retireUnit_kept (hM : MemClosed M) (s : State) (src u st reason) (hs : Kept M p n f o s) :
    Kept M p n f o (State.retireUnit s src u st reason) := by
  unfold State.retireUnit
  repeat' first
    | with_reducible assumption | with_reducible apply State.applyGaz_kept hM | split

theorem State.portConfig_kept (hM : MemClosed M) (s : State) (c en p0) (hs : Kept M p n f o s) : Kept M p n f o (State.portConfig s c en p0) := by
  unfold State.portConfig
  repeat' first
    | with_reducible assumption | intro _ | with_reducible apply Stack.write_mem hM | with_reducible apply State.modDelta_kept
    | with_reducible apply State.modTen_kept | with_reducible apply Kept.cl hM | dsimp only | split

theorem State.portSettle_kept (hM : MemClosed M) (s : State) (c) (hs : Kept M p n f o s) :
    Kept M p n f o (State.portSettle s c) := by
  unfold State.portSettle
  repeat' first
    | with_reducible assumption | intro _ | with_reducible apply State.portConfig_kept hM | with_reducible apply State.modTen_kept
    | with_reducible apply Kept.cl hM | dsimp only | split

end Sys2Proof.Machine
end

