-- ==== Sys2Proof/Laws/KeptUnits.lean ====
section
/-!
SUPPORT. What the operations of clusters, packets and stacks keep.
-/
namespace Sys2Proof.Machine

variable {M : List Host.Cell → Prop} {p : List Instr} {n f : Nat} {o : List Msg}

theorem State.modLport_kept (hM : MemClosed M) (s : State) (n0 p0 f0) (hs : Kept M p n f o s) : Kept M p n f o (State.modLport s n0 p0 f0) := by
  unfold State.modLport
  repeat' first
    | with_reducible assumption | with_reducible apply State.modLarre_kept

theorem State.modEng_kept (hM : MemClosed M) (s : State) (n0 f0) (hs : Kept M p n f o s) : Kept M p n f o (State.modEng s n0 f0) := by
  unfold State.modEng
  repeat' first
    | with_reducible assumption | with_reducible apply State.modLarre_kept

theorem State.sentFrames_kept (hM : MemClosed M) (s : State) (n0 p0 fs) (hs : Kept M p n f o s) : Kept M p n f o (State.sentFrames s n0 p0 fs) := by
  unfold State.sentFrames
  repeat' first
    | with_reducible assumption | intro _ | with_reducible apply State.modLport_kept hM | with_reducible apply State.emits_kept | dsimp only
    | split

theorem State.pumpLarre_kept (hM : MemClosed M) (s : State) (n0 p0) (hs : Kept M p n f o s) : Kept M p n f o (State.pumpLarre s n0 p0) := by
  unfold State.pumpLarre
  repeat' first
    | with_reducible assumption | intro _ | with_reducible apply State.modLport_kept hM | with_reducible apply State.sentFrames_kept hM
    | dsimp only | split

theorem State.sentAck_kept (hM : MemClosed M) (s : State) (n0 p0 a) (hs : Kept M p n f o s) : Kept M p n f o (State.sentAck s n0 p0 a) := by
  unfold State.sentAck
  repeat' first
    | with_reducible assumption | with_reducible apply State.emit_kept

theorem State.toFabric_kept (hM : MemClosed M) (s : State) (f0 : Frame) (hs : Kept M p n f o s) : ∀ t, s.toFabric f0 = some t → Kept M p n f o t := by
  intro t e
  unfold State.toFabric at e
  obtain ⟨x, -, rfl⟩ := Option.map_eq_some_iff.1 e
  exact State.pumpLarre_kept hM _ _ _ (State.modLport_kept hM _ _ _ _ hs)

theorem State.larreDue_kept (hM : MemClosed M) (s : State) (hs : Kept M p n f o s) :
    Kept M p n f o (State.larreDue s) := by
  unfold State.larreDue
  repeat' first
    | with_reducible assumption | intro _ | with_reducible apply State.modLarre_kept | dsimp only | split

theorem State.frameOut_kept (hM : MemClosed M) (s : State) (n0 p0 f0) (hs : Kept M p n f o s) : Kept M p n f o (State.frameOut s n0 p0 f0).1 := by
  unfold State.frameOut
  dsimp only
  split
  · next e => exact State.toFabric_kept hM _ _ (State.larreDue_kept hM _ hs) _ e
  · with_reducible exact State.modLport_kept hM _ _ _ _ (State.larreDue_kept hM _ hs)

theorem State.sendFrame_kept (hM : MemClosed M) (s : State) (n0 p0 f0) (hs : Kept M p n f o s) : Kept M p n f o (State.sendFrame s n0 p0 f0) := by
  unfold State.sendFrame; with_reducible apply State.frameOut_kept hM; assumption

theorem State.sendCopy_kept (hM : MemClosed M) (s : State) (k buddy tenant addr bs) (hs : Kept M p n f o s) :
    Kept M p n f o (State.sendCopy s k buddy tenant addr bs) := by
  unfold State.sendCopy
  repeat' first
    | with_reducible assumption | with_reducible apply State.frameOut_kept hM | with_reducible apply State.modLarre_kept
    | with_reducible apply State.modCnf_kept | dsimp only | split

theorem State.copyOut_kept (hM : MemClosed M) (s : State) (k buddy tenant addr bs) (hs : Kept M p n f o s) :
    Kept M p n f o (State.copyOut s k buddy tenant addr bs) := by
  unfold State.copyOut
  repeat' first
    | with_reducible assumption | with_reducible apply State.modCnf_kept | with_reducible apply State.sendCopy_kept hM | split

theorem State.mirrorWrite_kept (hM : MemClosed M) (s : State) (k tenant off n0) (hs : Kept M p n f o s) :
    Kept M p n f o (State.mirrorWrite s k tenant off n0) := by
  unfold State.mirrorWrite
  repeat' first
    | with_reducible assumption | intro _ | with_reducible apply State.copyOut_kept hM | with_reducible apply Kept.foldl | dsimp only | split

theorem State.copiesAcked_kept (hM : MemClosed M) (s : State) (n0) (hs : Kept M p n f o s) : Kept M p n f o (State.copiesAcked s n0) := by
  unfold State.copiesAcked
  repeat' first
    | with_reducible assumption | intro _ | with_reducible apply State.modCnf_kept | with_reducible apply State.sendCopy_kept hM
    | with_reducible apply Kept.foldl | dsimp only | split

theorem State.noteSeal_kept (hM : MemClosed M) (s : State) (reason) (hs : Kept M p n f o s) : Kept M p n f o (State.noteSeal s reason) := by
  unfold State.noteSeal
  repeat' first
    | with_reducible assumption | with_reducible apply State.modCnf_kept | split

theorem State.plotRefused_kept (hM : MemClosed M) (s : State) (c reason source a n0) (hs : Kept M p n f o s) :
    Kept M p n f o (State.plotRefused s c reason source a n0) := by
  unfold State.plotRefused
  repeat' first
    | with_reducible assumption | intro _ | with_reducible apply State.noteSeal_kept hM | with_reducible apply State.modCl_kept hM

theorem State.readAt_kept (hM : MemClosed M) (s : State) (src) (tenant) (fw) (data) (n0) (a4) (hs : Kept M p n f o s) :
    Kept M p n f o (State.readAt s src tenant fw data n0 a4).2 := by
  unfold State.readAt
  repeat' first
    | with_reducible assumption | intro _ | with_reducible apply Spd.read_mem hM | with_reducible apply Stack.readBytes_mem hM
    | with_reducible apply Stack.chargeAccess_mem hM | with_reducible apply State.modCl_kept hM | with_reducible apply State.modStkNote_kept hM
    | with_reducible apply Kept.cl hM | with_reducible apply Kept.stk hM | dsimp only | split

theorem State.readHost_kept (hM : MemClosed M) (s : State) (src) (tenant) (fw) (data) (poison) (n0) (p0) (hs : Kept M p n f o s) :
    Kept M p n f o (State.readHost s src tenant fw data poison n0 p0).2 := by
  unfold State.readHost
  repeat' first
    | with_reducible assumption | intro _ | with_reducible apply State.readAt_kept hM | dsimp only | split

theorem State.writeAt_kept (hM : MemClosed M) (s : State) (src tenant fw bs a4) (hs : Kept M p n f o s) :
    Kept M p n f o (State.writeAt s src tenant fw bs a4) := by
  unfold State.writeAt
  repeat' first
    | with_reducible assumption | intro _ | with_reducible apply Spd.writeP_mem hM | with_reducible apply Stack.writeBytes_mem hM
    | with_reducible apply Stack.chargeAccess_mem hM | with_reducible apply State.modCl_kept hM | with_reducible apply State.modStkNote_kept hM
    | with_reducible apply State.mirrorWrite_kept hM | with_reducible apply State.emit_kept | dsimp only | split

theorem State.issueMove_kept (hM : MemClosed M) (s : State) (c q w) (hs : Kept M p n f o s) : Kept M p n f o (State.issueMove s c q w) := by
  unfold State.issueMove
  repeat' first
    | with_reducible assumption | intro _ | with_reducible apply State.modCl_kept hM | with_reducible apply Cluster.pendCause_mem hM
    | with_reducible apply Kept.cl hM | with_reducible apply State.plotRefused_kept hM | with_reducible apply State.modTen_kept
    | with_reducible apply Cluster.overrun_mem hM | with_reducible apply Spd.request_mem hM | with_reducible apply Spd.read_mem hM
    | with_reducible apply Kept.cl hM | dsimp only | split

theorem moveRow_kept (hM : MemClosed M) (c w) (s : State) (hs : Kept M p n f o s) : Kept M p n f o (moveRow c w s) := by
  unfold moveRow
  repeat' first
    | with_reducible assumption | intro _ | with_reducible apply State.enterTrap_kept hM | with_reducible apply State.modCl_kept hM
    | with_reducible apply Spd.noteStall_mem hM | with_reducible apply State.issueMove_kept hM | dsimp only | split

theorem Spd.grantAll_mem (hM : MemClosed M) : ∀ (ws : List WeirEntry) (s : Spd) (busy : List Extent), M s.mem → M (Spd.grantAll s busy ws).1.mem
  | [], _, _, hs => hs
  | w :: t, s, busy, hs => by
    rw [Spd.grantAll]
    split
    · exact Spd.grantAll_mem hM t _ busy (Spd.grant_mem hM s w hs)
    · exact Spd.grantAll_mem hM t s busy hs

theorem Spd.releaseRead_mem (hM : MemClosed M) (x : Spd) (unit) (off) (n0) (hx : M x.mem) :
    M (Spd.releaseRead x unit off n0).mem := by
  unfold Spd.releaseRead
  repeat' first
    | with_reducible assumption | intro _ | dsimp only | split

theorem State.allocate_kept (hM : MemClosed M) (s : State) (c) (hs : Kept M p n f o s) : Kept M p n f o (State.allocate s c) := by
  unfold State.allocate
  repeat' first
    | with_reducible assumption | intro _ | with_reducible apply Kept.cl hM | with_reducible apply Spd.grantAll_mem hM
    | with_reducible apply State.modCl_kept hM | with_reducible apply State.sendCtl_kept hM | with_reducible apply Kept.foldl
    | with_reducible apply Kept.cl hM | split

theorem State.landAt_kept (hM : MemClosed M) (s : State) (c) (hs : Kept M p n f o s) : Kept M p n f o (State.landAt s c) := by
  unfold State.landAt
  repeat' first
    | with_reducible assumption | intro _ | with_reducible apply Cluster.landed_mem hM | with_reducible apply State.modCl_kept hM | dsimp only
    | split

theorem Cluster.endMove_mem (hM : MemClosed M) (k : Cluster) (tag) (hk : M k.spd.mem) : M (Cluster.endMove k tag).spd.mem := by
  unfold Cluster.endMove; with_reducible apply Spd.release_mem hM; assumption

theorem Cluster.nakMove_mem (hM : MemClosed M) (k : Cluster) (tag code) (hk : M k.spd.mem) : M (Cluster.nakMove k tag code).spd.mem := by
  unfold Cluster.nakMove
  repeat' first
    | with_reducible assumption

theorem State.endMove_kept (hM : MemClosed M) (s : State) (c) (tag) (hs : Kept M p n f o s) :
    Kept M p n f o (State.endMove s c tag) := by
  unfold State.endMove
  repeat' first
    | with_reducible assumption | intro _ | with_reducible apply State.modCl_kept hM | with_reducible apply State.portSettle_kept hM
    | with_reducible apply Cluster.endMove_mem hM | dsimp only | split

theorem State.countNaks_kept (hM : MemClosed M) (s : State) (c) (m) (hs : Kept M p n f o s) :
    Kept M p n f o (State.countNaks s c m) := by
  unfold State.countNaks
  repeat' first
    | with_reducible assumption | intro _ | with_reducible apply State.modDelta_kept | dsimp only | split

theorem State.completeMove_kept (hM : MemClosed M) (s : State) (c tag data poison) (hs : Kept M p n f o s) :
    Kept M p n f o (State.completeMove s c tag data poison) := by
  unfold State.completeMove
  repeat' first
    | with_reducible assumption | intro _ | with_reducible apply State.raise_kept hM | with_reducible apply State.modCl_kept hM
    | with_reducible apply State.readHost_kept hM | with_reducible apply State.writeAt_kept hM | with_reducible apply State.landAt_kept hM
    | with_reducible apply Cluster.endMove_mem hM | with_reducible apply Cluster.nakMove_mem hM | with_reducible apply State.endMove_kept hM
    | with_reducible apply State.countNaks_kept hM | with_reducible apply State.modDelta_kept | with_reducible apply State.modTen_kept
    | with_reducible apply Kept.cl hM | dsimp only | split

theorem State.threadFault_kept (hM : MemClosed M) (s : State) (site t code) (hs : Kept M p n f o s) :
    Kept M p n f o (State.threadFault s site t code) := by
  unfold State.threadFault
  repeat' first
    | with_reducible assumption | intro _ | with_reducible apply State.raise_kept hM | with_reducible apply State.modCl_kept hM
    | with_reducible apply Cluster.sxFault_mem hM

theorem State.gather_kept (hM : MemClosed M) (s : State) (site t rd rs1) (hs : Kept M p n f o s) :
    Kept M p n f o (State.gather s site t rd rs1).1 := by
  unfold State.gather
  repeat' first
    | with_reducible assumption | intro _ | with_reducible apply Kept.cl hM | with_reducible apply State.threadFault_kept hM
    | with_reducible apply State.modCl_kept hM | with_reducible apply Cluster.modThread_mem hM | with_reducible apply State.plotRefused_kept hM
    | with_reducible apply Spd.request_mem hM | with_reducible apply Kept.foldl | with_reducible apply Spd.read_mem hM
    | with_reducible apply Kept.cl hM | dsimp only | split

theorem State.gatherRow_kept (hM : MemClosed M) (s : State) (c g data i) (hs : Kept M p n f o s) : Kept M p n f o (State.gatherRow s c g data i) := by
  unfold State.gatherRow
  repeat' first
    | with_reducible assumption | intro _ | with_reducible apply Kept.cl hM | with_reducible apply State.modCl_kept hM
    | with_reducible apply State.writeAt_kept hM | with_reducible apply State.raise_kept hM | with_reducible apply State.readAt_kept hM
    | with_reducible apply Spd.read_mem hM | with_reducible apply Kept.cl hM | dsimp only | split

theorem State.completeGather_kept (hM : MemClosed M) (s : State) (site ticket data) (hs : Kept M p n f o s) :
    Kept M p n f o (State.completeGather s site ticket data) := by
  unfold State.completeGather
  repeat' first
    | with_reducible assumption | intro _ | with_reducible apply State.gatherRow_kept hM | with_reducible apply State.modCl_kept hM
    | with_reducible apply Spd.release_mem hM | with_reducible apply Kept.foldl | dsimp only | split

theorem State.zeroDone_kept (hM : MemClosed M) (s : State) (hs : Kept M p n f o s) : Kept M p n f o (State.zeroDone s) := by
  unfold State.zeroDone
  repeat' first
    | with_reducible assumption | with_reducible apply State.modCtg_kept | split

theorem Cluster.halt_mem (hM : MemClosed M) (k : Cluster) (hk : M k.spd.mem) : M (Cluster.halt k).spd.mem := by
  unfold Cluster.halt
  repeat' first
    | with_reducible assumption

theorem Cluster.resolveYield_mem (hM : MemClosed M) (k : Cluster) (hk : M k.spd.mem) : M (Cluster.resolveYield k).spd.mem := by
  unfold Cluster.resolveYield
  repeat' first
    | with_reducible assumption | split

theorem State.issueBundle_kept (hM : MemClosed M) (s : State) (c b) (hs : Kept M p n f o s) : Kept M p n f o (State.issueBundle s c b) := by
  unfold State.issueBundle
  repeat' first
    | with_reducible assumption | intro _ | with_reducible apply Kept.cl hM | with_reducible apply State.modCl_kept hM
    | with_reducible apply State.issueMove_kept hM | with_reducible apply scalarExec_mem hM | with_reducible apply Kept.cl hM | split

theorem Cluster.stopHere_mem (hM : MemClosed M) (k : Cluster) (hk : M k.spd.mem) :
    M (Cluster.stopHere k).spd.mem := by
  unfold Cluster.stopHere
  repeat' first
    | with_reducible assumption | intro _ | dsimp only | split

theorem State.atIssue_kept (hM : MemClosed M) (s : State) (c) (b) (hs : Kept M p n f o s) :
    Kept M p n f o (State.atIssue s c b) := by
  unfold State.atIssue
  repeat' first
    | with_reducible assumption | intro _ | with_reducible apply Spd.noteStall_mem hM | with_reducible apply Cluster.enterPending_mem hM
    | with_reducible apply Cluster.headerRead_mem hM | with_reducible apply Cluster.refuseVx_mem hM
    | with_reducible apply Cluster.refuseMx_mem hM | with_reducible apply State.modCl_kept hM | with_reducible apply State.countCause_kept hM
    | with_reducible apply State.enterTrap_kept hM | with_reducible apply State.issueBundle_kept hM
    | with_reducible apply Cluster.stopHere_mem hM | with_reducible apply Kept.cl hM | dsimp only | split

theorem State.fetchBundle_kept (hM : MemClosed M) (s : State) (c) (hs : Kept M p n f o s) :
    Kept M p n f o (State.fetchBundle s c) := by
  unfold State.fetchBundle
  repeat' first
    | with_reducible assumption | intro _ | with_reducible apply Cluster.rd_mem hM | with_reducible apply State.modCl_kept hM
    | with_reducible apply State.enterTrap_kept hM | with_reducible apply State.atIssue_kept hM | with_reducible apply Cluster.stopHere_mem hM
    | with_reducible apply Kept.cl hM | dsimp only | split

theorem State.bundle_kept (hM : MemClosed M) (s : State) (c) (hs : Kept M p n f o s) : Kept M p n f o (State.bundle s c) := by
  unfold State.bundle
  repeat' first
    | with_reducible assumption | intro _ | with_reducible apply Cluster.resumeVx_mem hM | with_reducible apply State.modCl_kept hM
    | with_reducible apply Cluster.resolveYield_mem hM | with_reducible apply Cluster.stopHere_mem hM
    | with_reducible apply State.fetchBundle_kept hM | with_reducible apply Kept.cl hM | dsimp only | split

theorem Cluster.tickWaits_mem (hM : MemClosed M) (k : Cluster) (hk : M k.spd.mem) :
    M (Cluster.tickWaits k).spd.mem := by
  unfold Cluster.tickWaits
  repeat' first
    | with_reducible assumption | intro _ | dsimp only | split

theorem State.threadOp_kept (hM : MemClosed M) (s : State) (site t w) (hs : Kept M p n f o s) : Kept M p n f o (State.threadOp s site t w).1 := by
  unfold State.threadOp
  repeat' first
    | with_reducible assumption | intro _ | with_reducible apply Cluster.rd_mem hM | with_reducible apply Cluster.modThread_mem hM
    | with_reducible apply Cluster.thrStall_mem hM | with_reducible apply thrExec_mem hM | with_reducible apply State.modCl_kept hM
    | with_reducible apply State.threadFault_kept hM | with_reducible apply State.gather_kept hM | with_reducible apply Kept.cl hM | dsimp only
    | split

theorem State.groupOps_kept (hM : MemClosed M) : ∀ (ws : List Word32) (wrote : List Nat) (s : State) (site t : Nat), Kept M p n f o s → Kept M p n f o (State.groupOps s site t ws wrote)
  | [], _, _, _, _, hs => hs
  | w :: rest, wrote, s, site, t, hs => by
    have h1 := State.threadOp_kept hM s site t w hs
    unfold State.groupOps
    dsimp only
    split
    · exact hs
    · split
      · exact State.groupOps_kept hM rest _ _ site t h1
      · exact h1

theorem State.group_kept (hM : MemClosed M) (s : State) (site) (hs : Kept M p n f o s) : Kept M p n f o (State.group s site) := by
  unfold State.group
  repeat' first
    | with_reducible assumption | intro _ | with_reducible apply Cluster.rd_mem hM | with_reducible apply Cluster.modThread_mem hM
    | with_reducible apply State.modCl_kept hM | with_reducible apply State.threadFault_kept hM | with_reducible apply Cluster.tickWaits_mem hM
    | with_reducible apply State.groupOps_kept hM | with_reducible apply Kept.cl hM | dsimp only | split

theorem matrixRow_kept (hM : MemClosed M) (c w) (s : State) (hs : Kept M p n f o s) : Kept M p n f o (matrixRow c w s) := by
  unfold matrixRow
  repeat' first
    | with_reducible assumption | intro _ | with_reducible apply Spd.noteStall_mem hM | with_reducible apply Cluster.headerRead_mem hM
    | with_reducible apply Cluster.refuseMx_mem hM | with_reducible apply State.modCl_kept hM | with_reducible apply State.enterTrap_kept hM
    | with_reducible apply Kept.cl hM | dsimp only | split

theorem vectorWord_kept (hM : MemClosed M) (c w) (s : State) (hs : Kept M p n f o s) : Kept M p n f o (vectorWord c w s) := by
  unfold vectorWord
  repeat' first
    | with_reducible assumption | intro _ | with_reducible apply Spd.noteStall_mem hM | with_reducible apply Cluster.resumeVx_mem hM
    | with_reducible apply Cluster.headerRead_mem hM | with_reducible apply Cluster.refuseVx_mem hM | with_reducible apply State.modCl_kept hM
    | with_reducible apply State.enterTrap_kept hM | with_reducible apply Kept.cl hM | dsimp only | split

theorem scalarWord_kept (hM : MemClosed M) (c w) (s : State) (hs : Kept M p n f o s) : Kept M p n f o (scalarWord c w s) := by
  unfold scalarWord
  repeat' first
    | with_reducible assumption | intro _ | with_reducible apply State.enterTrap_kept hM | with_reducible apply State.modCl_kept hM
    | with_reducible apply Spd.noteStall_mem hM | with_reducible apply scalarExec_mem hM | dsimp only | split

theorem threadWord_kept (hM : MemClosed M) (site t w) (s : State) (hs : Kept M p n f o s) : Kept M p n f o (threadWord site t w s) := by
  unfold threadWord
  repeat' first
    | with_reducible assumption | intro _ | with_reducible apply Cluster.modThread_mem hM | with_reducible apply Cluster.thrStall_mem hM
    | with_reducible apply Cluster.sxFault_mem hM | with_reducible apply thrExec_mem hM | with_reducible apply State.raise_kept hM
    | with_reducible apply State.modCl_kept hM | with_reducible apply Kept.cl hM | dsimp only | split

theorem State.modWinOf_kept (hM : MemClosed M) (s : State) (src unit f0) (hs : Kept M p n f o s) : Kept M p n f o (State.modWinOf s src unit f0) := by
  unfold State.modWinOf
  repeat' first
    | with_reducible assumption | with_reducible apply State.modDelta_kept

theorem State.ackWindow_kept (hM : MemClosed M) (s : State) (src unit mark rcvd) (hs : Kept M p n f o s) :
    Kept M p n f o (State.ackWindow s src unit mark rcvd) := by
  unfold State.ackWindow; with_reducible apply State.modWinOf_kept hM; assumption

theorem State.ackRead_kept (hM : MemClosed M) (s : State) (src unit n0) (hs : Kept M p n f o s) : Kept M p n f o (State.ackRead s src unit n0) := by
  unfold State.ackRead; with_reducible apply State.modWinOf_kept hM; assumption

theorem State.sendAck_kept (hM : MemClosed M) (s : State) (unit src) (hs : Kept M p n f o s) : Kept M p n f o (State.sendAck s unit src) := by
  unfold State.sendAck
  repeat' first
    | with_reducible assumption | with_reducible apply State.modDelta_kept | with_reducible apply State.sendCtl_kept hM

theorem State.accepted_kept (hM : MemClosed M) (s : State) (unit p0) (hs : Kept M p n f o s) : Kept M p n f o (State.accepted s unit p0) := by
  unfold State.accepted
  repeat' first
    | with_reducible assumption | with_reducible apply State.modDelta_kept | with_reducible apply State.sendAck_kept hM | split

theorem State.mackAt_kept (hM : MemClosed M) (s : State) (site port group count) (hs : Kept M p n f o s) :
    Kept M p n f o (State.mackAt s site port group count) := by
  unfold State.mackAt
  repeat' first
    | with_reducible assumption | intro _ | with_reducible apply State.raise_kept hM | with_reducible apply State.routed_kept hM
    | with_reducible apply State.counted_kept hM | with_reducible apply State.drainOutbox_kept hM | with_reducible apply State.modDelta_kept
    | dsimp only | split

theorem State.serveHbm_kept (hM : MemClosed M) (s : State) (k) (h) (hs : Kept M p n f o s) :
    Kept M p n f o (State.serveHbm s k h) := by
  unfold State.serveHbm
  repeat' first
    | with_reducible assumption | intro _ | with_reducible apply Stack.readKeyed_mem hM | with_reducible apply Stack.writeKeyed_mem hM
    | with_reducible apply State.modStkNote_kept hM | with_reducible apply State.sendData_kept hM
    | with_reducible apply State.mirrorWrite_kept hM | with_reducible apply State.accepted_kept hM | with_reducible apply Kept.stk hM
    | dsimp only | split

theorem Stack.hold_mem (hM : MemClosed M) (x : Stack) (h) (w) (hx : M x.mem) :
    M (Stack.hold x h w).mem := by
  unfold Stack.hold
  repeat' first
    | with_reducible assumption | intro _ | dsimp only | split

theorem State.aggHbm_kept (hM : MemClosed M) (s : State) (k) (h) (hs : Kept M p n f o s) :
    Kept M p n f o (State.aggHbm s k h) := by
  unfold State.aggHbm
  repeat' first
    | with_reducible assumption | intro _ | with_reducible apply State.modStk_kept hM | with_reducible apply Stack.chargeAgg_mem hM
    | with_reducible apply State.serveHbm_kept hM | with_reducible apply Stack.hold_mem hM | with_reducible apply Kept.stk hM | dsimp only
    | split

theorem State.admitHbm_kept (hM : MemClosed M) (s : State) (k) (h) (hs : Kept M p n f o s) :
    Kept M p n f o (State.admitHbm s k h) := by
  unfold State.admitHbm
  repeat' first
    | with_reducible assumption | intro _ | with_reducible apply State.modStk_kept hM | with_reducible apply Stack.chargeTenant_mem hM
    | with_reducible apply Stack.hold_mem hM | with_reducible apply State.aggHbm_kept hM | with_reducible apply Kept.stk hM | dsimp only | split

theorem State.hbmRequest_kept (hM : MemClosed M) (s : State) (k p0 f0) (hs : Kept M p n f o s) : Kept M p n f o (State.hbmRequest s k p0 f0) := by
  unfold State.hbmRequest
  repeat' first
    | with_reducible assumption | intro _ | with_reducible apply State.raise_kept hM | with_reducible apply State.sendNak_kept hM
    | with_reducible apply State.admitHbm_kept hM | with_reducible apply Kept.stk hM | dsimp only | split

theorem State.readmit_kept (hM : MemClosed M) (s : State) (k) (hs : Kept M p n f o s) : Kept M p n f o (State.readmit s k) := by
  unfold State.readmit
  repeat' first
    | with_reducible assumption | intro _ | with_reducible apply State.modStk_kept hM | with_reducible apply State.aggHbm_kept hM
    | with_reducible apply State.admitHbm_kept hM | with_reducible apply Kept.stk hM | with_reducible apply Kept.foldl
    | with_reducible apply Kept.foldlFst | with_reducible apply Kept.foldlSnd | dsimp only | split

theorem State.recordGoes_kept (hM : MemClosed M) (s : State) (site k q) (hs : Kept M p n f o s) (t : State)
    (e : s.recordGoes site k q = some t) : Kept M p n f o t := by
  unfold State.recordGoes at e
  split at e
  · exact State.window_kept hM _ _ _ _ _ _ hs _ e
  · contradiction

theorem State.putRecord_kept (hM : MemClosed M) (s : State) (site q t u) (hs : Kept M p n f o s) (hu : ∀ v, u = some v → Kept M p n f o v) :
    Kept M p n f o (State.putRecord s site q t u) := by
  unfold State.putRecord
  split
  · with_reducible apply State.enter_kept hM
    with_reducible apply State.modDelta_kept
    exact hu _ rfl
  · exact hs

theorem State.sendRecord_kept (hM : MemClosed M) (s : State) (site) (hs : Kept M p n f o s) :
    Kept M p n f o (State.sendRecord s site) := by
  unfold State.sendRecord
  dsimp only
  split
  · exact hs
  · split
    · exact State.putRecord_kept hM _ _ _ _ _ hs (State.recordGoes_kept hM _ _ _ _ hs)
    · with_reducible exact State.modDelta_kept hs

theorem State.sendRecords_kept (hM : MemClosed M) (s : State) (site) (hs : Kept M p n f o s) :
    Kept M p n f o (State.sendRecords s site) := by
  unfold State.sendRecords
  repeat' first
    | with_reducible assumption | intro _ | with_reducible apply State.sendRecord_kept hM | with_reducible apply Kept.foldl
    | with_reducible apply Kept.foldlFst | with_reducible apply Kept.foldlSnd | dsimp only | split

end Sys2Proof.Machine
end

