-- ==== Sys2Proof/Laws/KeptPanel.lean ====
section
/-!
SUPPORT. What the operations of links, time, catchments, tenants, channels, host ports and resets keep.
-/
namespace Sys2Proof.Machine

variable {M : List Host.Cell → Prop} {p : List Instr} {n f : Nat} {o : List Msg}

theorem State.maskSite_kept (hM : MemClosed M) (s : State) (x) (hs : Kept M p n f o s) : Kept M p n f o (State.maskSite s x) := by
  unfold State.maskSite
  repeat' first
    | with_reducible assumption | intro _ | with_reducible apply State.applyGaz_kept hM | with_reducible apply State.applyRest_kept hM
    | dsimp only | split

theorem State.install_kept (hM : MemClosed M) (s : State) (t tsw) (hs : Kept M p n f o s) : Kept M p n f o (State.install s t tsw) := by
  unfold State.install
  repeat' first
    | with_reducible assumption | with_reducible apply State.modTen_kept | with_reducible apply State.modDelta_kept

theorem State.recordPaths_kept (hM : MemClosed M) (s : State) (t) (hs : Kept M p n f o s) :
    Kept M p n f o (State.recordPaths s t) := by
  unfold State.recordPaths
  repeat' first
    | with_reducible assumption | intro _ | with_reducible apply State.applyGaz_kept hM | with_reducible apply State.modGaz_kept | dsimp only
    | split

theorem State.publish_kept (hM : MemClosed M) (tsw : Word) : ∀ (ts : List RouteTables) (s : State), Kept M p n f o s → Kept M p n f o (s.publish tsw ts)
  | [], _, hs => hs
  | t :: rest, s, hs => by
    have h2 := State.recordPaths_kept hM _ t (State.install_kept hM s t tsw hs)
    rw [State.publish]
    split
    · split
      · with_reducible exact Kept.ite (fun _ => hs) fun _ => State.publish_kept hM tsw rest _ (State.maskSite_kept hM _ _ hs)
      · exact hs
    · split
      · exact h2
      · exact hs

theorem State.portsFollow_kept (hM : MemClosed M) (s : State) (hs : Kept M p n f o s) : Kept M p n f o (State.portsFollow s) := by
  unfold State.portsFollow
  repeat' first
    | with_reducible assumption | intro _ | with_reducible apply State.modDelta_kept | with_reducible apply Kept.foldl
    | with_reducible apply Kept.foldlFst | with_reducible apply Kept.foldlSnd | dsimp only | split

theorem State.settleParts_kept (hM : MemClosed M) (s : State) (hs : Kept M p n f o s) : Kept M p n f o (State.settleParts s) := by
  unfold State.settleParts
  repeat' first
    | with_reducible assumption | with_reducible apply State.modTen_kept

theorem State.partsSwitched_kept (hM : MemClosed M) (s : State) (hs : Kept M p n f o s) : Kept M p n f o (State.partsSwitched s) := by
  unfold State.partsSwitched
  repeat' first
    | with_reducible assumption | with_reducible apply State.settleParts_kept hM | with_reducible apply State.modTen_kept

theorem State.modBrd_kept (hM : MemClosed M) (s : State) (b f0) (hs : Kept M p n f o s) : Kept M p n f o (State.modBrd s b f0) := by
  unfold State.modBrd
  repeat' first
    | with_reducible assumption | with_reducible apply State.modLev_kept

theorem State.side_kept (hM : MemClosed M) (s : State) (b hi kind value) (hs : Kept M p n f o s) : Kept M p n f o (State.side s b hi kind value) := by
  unfold State.side
  repeat' first
    | with_reducible assumption | with_reducible apply State.emit_kept

theorem State.askBraid_kept (hM : MemClosed M) (s : State) (b hi r) (hs : Kept M p n f o s) : Kept M p n f o (State.askBraid s b hi r) := by
  unfold State.askBraid
  repeat' first
    | with_reducible assumption | with_reducible apply State.side_kept hM | with_reducible apply State.modBrd_kept hM | dsimp only | split

theorem State.watch_kept (hM : MemClosed M) (s : State) (b hi before) (hs : Kept M p n f o s) : Kept M p n f o (State.watch s b hi before) := by
  unfold State.watch
  repeat' first
    | with_reducible assumption | with_reducible apply State.askBraid_kept hM | dsimp only | split

theorem State.watchLow_kept (hM : MemClosed M) (s : State) (b) (hi) (hs : Kept M p n f o s) :
    Kept M p n f o (State.watchLow s b hi) := by
  unfold State.watchLow
  repeat' first
    | with_reducible assumption | intro _ | with_reducible apply State.askBraid_kept hM | dsimp only | split

theorem State.noteBlocked_kept (hM : MemClosed M) (s : State) (b was) (hs : Kept M p n f o s) : Kept M p n f o (State.noteBlocked s b was) := by
  unfold State.noteBlocked
  repeat' first
    | with_reducible assumption | intro _ | with_reducible apply State.raise_kept hM | with_reducible apply State.watchLow_kept hM | dsimp only
    | split

theorem State.loseLane_kept (hM : MemClosed M) (s : State) (src b l bad) (hs : Kept M p n f o s) :
    Kept M p n f o (State.loseLane s src b l bad) := by
  unfold State.loseLane
  repeat' first
    | with_reducible assumption | intro _ | with_reducible apply State.applyGaz_kept hM | with_reducible apply State.modBrd_kept hM
    | with_reducible apply State.noteBlocked_kept hM | dsimp only | split

theorem State.sideBoth_kept (hM : MemClosed M) (s : State) (b) (kind) (value) (hs : Kept M p n f o s) :
    Kept M p n f o (State.sideBoth s b kind value) := by
  unfold State.sideBoth
  repeat' first
    | with_reducible assumption | intro _ | with_reducible apply State.side_kept hM | dsimp only | split

theorem State.laneTest_kept (hM : MemClosed M) (s : State) (src b tests) (hs : Kept M p n f o s) :
    Kept M p n f o (State.laneTest s src b tests).1 := by
  unfold State.laneTest
  repeat' first
    | with_reducible assumption | intro _ | with_reducible apply State.modBrd_kept hM | with_reducible apply State.loseLane_kept hM
    | with_reducible apply State.sideBoth_kept hM | with_reducible apply Kept.foldl | with_reducible apply Kept.foldlFst
    | with_reducible apply Kept.foldlSnd | dsimp only | split

theorem State.braidReady_kept (hM : MemClosed M) (s : State) (b fullRate) (hs : Kept M p n f o s) :
    Kept M p n f o (State.braidReady s b fullRate) := by
  unfold State.braidReady
  repeat' first
    | with_reducible assumption | intro _ | with_reducible apply State.modBrd_kept hM | with_reducible apply State.noteBlocked_kept hM
    | dsimp only | split

theorem State.failBraid_kept (hM : MemClosed M) (s : State) (src) (b) (st) (rs) (hs : Kept M p n f o s) :
    Kept M p n f o (State.failBraid s src b st rs) := by
  unfold State.failBraid
  repeat' first
    | with_reducible assumption | intro _ | with_reducible apply State.applyGaz_kept hM | with_reducible apply State.retireUnit_kept hM
    | dsimp only | split

theorem State.braidDead_kept (hM : MemClosed M) (s : State) (src b) (hs : Kept M p n f o s) : Kept M p n f o (State.braidDead s src b) := by
  unfold State.braidDead
  repeat' first
    | with_reducible assumption | intro _ | with_reducible apply State.modBrd_kept hM | with_reducible apply State.failBraid_kept hM | dsimp only
    | split

theorem State.sendIdents_kept (hM : MemClosed M) (s : State) (b) (hs : Kept M p n f o s) :
    Kept M p n f o (State.sendIdents s b) := by
  unfold State.sendIdents
  repeat' first
    | with_reducible assumption | intro _ | with_reducible apply State.side_kept hM | dsimp only | split

theorem State.trainBraid_kept (hM : MemClosed M) (s : State) (src b identOk fullRate tests) (hs : Kept M p n f o s) :
    Kept M p n f o (State.trainBraid s src b identOk fullRate tests) := by
  unfold State.trainBraid
  repeat' first
    | with_reducible assumption | intro _ | with_reducible apply State.modBrd_kept hM | with_reducible apply State.laneTest_kept hM
    | with_reducible apply State.braidReady_kept hM | with_reducible apply State.failBraid_kept hM | with_reducible apply State.braidDead_kept hM
    | with_reducible apply State.sendIdents_kept hM | dsimp only | split

theorem State.sendCsync_kept (hM : MemClosed M) (s : State) (b) (site) (port) (hs : Kept M p n f o s) :
    Kept M p n f o (State.sendCsync s b site port) := by
  unfold State.sendCsync
  repeat' first
    | with_reducible assumption | intro _ | with_reducible apply State.emit_kept | with_reducible apply Kept.foldl
    | with_reducible apply Kept.foldlFst | with_reducible apply Kept.foldlSnd | dsimp only | split

theorem State.csyncs_kept (hM : MemClosed M) (s : State) (b) (hs : Kept M p n f o s) :
    Kept M p n f o (State.csyncs s b) := by
  unfold State.csyncs
  repeat' first
    | with_reducible assumption | intro _ | with_reducible apply State.sendCsync_kept hM | with_reducible apply Kept.foldl
    | with_reducible apply Kept.foldlFst | with_reducible apply Kept.foldlSnd | dsimp only | split

theorem State.sendTurns_kept (hM : MemClosed M) (s : State) (b) (far) (site) (port) (hs : Kept M p n f o s) :
    Kept M p n f o (State.sendTurns s b far site port) := by
  unfold State.sendTurns
  repeat' first
    | with_reducible assumption | intro _ | with_reducible apply State.emit_kept | with_reducible apply Kept.foldl
    | with_reducible apply Kept.foldlFst | with_reducible apply Kept.foldlSnd | dsimp only | split

theorem State.turnChange_kept (hM : MemClosed M) (s : State) (b inlist) (hs : Kept M p n f o s) : Kept M p n f o (State.turnChange s b inlist) := by
  unfold State.turnChange
  repeat' first
    | with_reducible assumption | intro _ | with_reducible apply State.setTurns_kept hM | with_reducible apply State.modBrd_kept hM
    | with_reducible apply State.csyncs_kept hM | with_reducible apply State.sendTurns_kept hM | with_reducible apply State.modDelta_kept
    | with_reducible apply Kept.foldl | with_reducible apply Kept.foldlFst | with_reducible apply Kept.foldlSnd | dsimp only | split

theorem State.noteLanes_kept (hM : MemClosed M) (s : State) (b) (hs : Kept M p n f o s) :
    Kept M p n f o (State.noteLanes s b) := by
  unfold State.noteLanes
  repeat' first
    | with_reducible assumption | intro _ | with_reducible apply State.applyGaz_kept hM | dsimp only | split

theorem State.finishRetrain_kept (hM : MemClosed M) (s : State) (b fullRate tests) (hs : Kept M p n f o s) :
    Kept M p n f o (State.finishRetrain s b fullRate tests) := by
  unfold State.finishRetrain
  repeat' first
    | with_reducible assumption | intro _ | with_reducible apply State.side_kept hM | with_reducible apply State.laneTest_kept hM
    | with_reducible apply State.braidReady_kept hM | with_reducible apply State.braidDead_kept hM
    | with_reducible apply State.turnChange_kept hM | with_reducible apply State.noteLanes_kept hM | dsimp only | split

theorem State.levLoopback_kept (hM : MemClosed M) (s : State) (b hi depth pat) (hs : Kept M p n f o s) :
    Kept M p n f o (State.levLoopback s b hi depth pat) := by
  unfold State.levLoopback
  repeat' first
    | with_reducible assumption | with_reducible apply State.askBraid_kept hM | with_reducible apply State.modBrd_kept hM | dsimp only | split

theorem State.larreAccept_kept (hM : MemClosed M) (s : State) (n0 p0 f0 good) (hs : Kept M p n f o s) :
    Kept M p n f o (State.larreAccept s n0 p0 f0 good).1 := by
  unfold State.larreAccept
  repeat' first
    | with_reducible assumption | with_reducible apply State.modLport_kept hM | with_reducible apply State.sentAck_kept hM | split

theorem State.larreTransit_kept (hM : MemClosed M) (s : State) (n0 p0 f0) (hs : Kept M p n f o s) :
    Kept M p n f o (State.larreTransit s n0 p0 f0) := by
  unfold State.larreTransit
  repeat' first
    | with_reducible assumption | with_reducible apply State.modLport_kept hM
    | with_reducible refine State.toFabric_kept hM _ _ ?_ _ ‹State.toFabric _ _ = some _› | split

theorem State.sendE2e_kept (hM : MemClosed M) (s : State) (n0 p0 pair) (hs : Kept M p n f o s) : Kept M p n f o (State.sendE2e s n0 p0 pair) := by
  unfold State.sendE2e
  repeat' first
    | with_reducible assumption | with_reducible apply State.modLarre_kept | with_reducible apply State.frameOut_kept hM

theorem State.framePlotDrop_kept (hM : MemClosed M) (s : State) (n0 p0 f0 tag reason) (hs : Kept M p n f o s) :
    Kept M p n f o (State.framePlotDrop s n0 p0 f0 tag reason) := by
  unfold State.framePlotDrop
  repeat' first
    | with_reducible assumption | with_reducible apply State.raise_kept hM | with_reducible apply State.emit_kept
    | with_reducible apply State.noteSeal_kept hM | with_reducible apply State.modLport_kept hM

theorem State.larreResponse_kept (hM : MemClosed M) (s : State) (n0 p0 f0) (hs : Kept M p n f o s) :
    Kept M p n f o (State.larreResponse s n0 p0 f0) := by
  unfold State.larreResponse
  repeat' first
    | with_reducible assumption | with_reducible apply State.modLport_kept hM | with_reducible apply State.modLarre_kept
    | with_reducible apply State.ackRead_kept hM | with_reducible apply State.writeAt_kept hM | dsimp only | split

theorem State.writeFrame_kept (hM : MemClosed M) (s : State) (n0) (p0) (f0) (w) (hs : Kept M p n f o s) :
    Kept M p n f o (State.writeFrame s n0 p0 f0 w) := by
  unfold State.writeFrame
  repeat' first
    | with_reducible assumption | intro _ | with_reducible apply State.writeAt_kept hM | with_reducible apply State.sendE2e_kept hM
    | with_reducible apply State.modLarre_kept | dsimp only | split

theorem State.askFrame_kept (hM : MemClosed M) (s : State) (n0) (p0) (f0) (c) (o0) (reqid) (hs : Kept M p n f o s) :
    Kept M p n f o (State.askFrame s n0 p0 f0 c o0 reqid) := by
  unfold State.askFrame
  repeat' first
    | with_reducible assumption | intro _ | with_reducible apply State.sendCtl_kept hM | with_reducible apply State.modLarre_kept | dsimp only
    | split

theorem State.leaves_kept (hM : MemClosed M) (s : State) (n0) (p0) (f0) (hs : Kept M p n f o s) :
    Kept M p n f o (State.leaves s n0 p0 f0) := by
  unfold State.leaves
  repeat' first
    | with_reducible assumption | intro _ | with_reducible apply State.modLport_kept hM | dsimp only | split

theorem State.placeFrame_kept (hM : MemClosed M) (s : State) (n0) (p0) (f0) (hs : Kept M p n f o s) :
    Kept M p n f o (State.placeFrame s n0 p0 f0) := by
  unfold State.placeFrame
  repeat' first
    | with_reducible assumption | intro _ | with_reducible apply State.framePlotDrop_kept hM | with_reducible apply State.writeFrame_kept hM
    | with_reducible apply State.askFrame_kept hM | with_reducible apply State.leaves_kept hM | with_reducible apply State.modLarre_kept
    | dsimp only | split

theorem State.placeBuffered_kept (hM : MemClosed M) : ∀ (fuel : Nat) (s : State) (n0 : Nat), Kept M p n f o s →
    Kept M p n f o (State.placeBuffered s n0 fuel)
  | 0, _, _, hs => hs
  | fuel + 1, s, n0, hs => by
    unfold State.placeBuffered
    split
    · with_reducible refine Kept.ite (fun _ => ?_) fun _ => hs
      exact State.placeBuffered_kept hM fuel _ n0 (State.placeFrame_kept hM _ _ _ _ (State.modLarre_kept hs))
    · exact hs

theorem State.directFrame_kept (hM : MemClosed M) (s : State) (n0 p0 f0 good) (hs : Kept M p n f o s) :
    Kept M p n f o (State.directFrame s n0 p0 f0 good) := by
  unfold State.directFrame
  repeat' first
    | with_reducible assumption | intro _ | with_reducible apply State.larreAccept_kept hM | with_reducible apply State.larreTransit_kept hM
    | with_reducible apply State.larreResponse_kept hM | with_reducible apply State.leaves_kept hM
    | with_reducible apply State.placeFrame_kept hM | with_reducible apply State.modLarre_kept | dsimp only | split

theorem readAnswer_kept (hM : MemClosed M) (n0 p0 : Nat) (f0 : Frame) (r : List PByte × State) (hr : Kept M p n f o r.2) :
    Kept M p n f o (readAnswer n0 p0 f0 r) := by
  rw [readAnswer]
  with_reducible exact State.sendFrame_kept hM _ _ _ _ hr

theorem State.readFrame_kept (hM : MemClosed M) (s : State) (n0 p0 f0 good data) (hs : Kept M p n f o s) :
    Kept M p n f o (State.readFrame s n0 p0 f0 good data) := by
  unfold State.readFrame
  repeat' first
    | with_reducible assumption | intro _ | with_reducible apply State.readAt_kept hM | with_reducible apply State.larreAccept_kept hM
    | with_reducible apply State.larreTransit_kept hM | with_reducible apply State.framePlotDrop_kept hM
    | with_reducible apply State.leaves_kept hM | with_reducible apply readAnswer_kept hM | dsimp only | split

theorem State.ackEgress_kept (hM : MemClosed M) (s : State) (m src) (hs : Kept M p n f o s) : Kept M p n f o (State.ackEgress s m src) := by
  unfold State.ackEgress
  repeat' first
    | with_reducible assumption | with_reducible apply State.sendCtl_kept hM | with_reducible apply State.modLarre_kept | dsimp only | split

theorem State.e2eFrame_kept (hM : MemClosed M) (s : State) (n0 p0 f0 good) (hs : Kept M p n f o s) :
    Kept M p n f o (State.e2eFrame s n0 p0 f0 good) := by
  unfold State.e2eFrame
  repeat' first
    | with_reducible assumption | intro _ | with_reducible apply State.copiesAcked_kept hM | with_reducible apply State.larreAccept_kept hM
    | with_reducible apply State.larreTransit_kept hM | with_reducible apply State.leaves_kept hM | with_reducible apply State.ackEgress_kept hM
    | with_reducible apply State.modLarre_kept | with_reducible apply Kept.foldl | with_reducible apply Kept.foldlFst
    | with_reducible apply Kept.foldlSnd | dsimp only | split

theorem State.askLarre_kept (hM : MemClosed M) (s : State) (n0 p0 r) (hs : Kept M p n f o s) : Kept M p n f o (State.askLarre s n0 p0 r) := by
  unfold State.askLarre
  repeat' first
    | with_reducible assumption | with_reducible apply State.emit_kept | with_reducible apply State.modLport_kept hM | dsimp only | split

theorem State.larreDown_kept (hM : MemClosed M) (s : State) (n0 p0) (hs : Kept M p n f o s) : Kept M p n f o (State.larreDown s n0 p0) := by
  unfold State.larreDown
  repeat' first
    | with_reducible assumption | with_reducible apply State.raise_kept hM | with_reducible apply State.modEng_kept hM
    | with_reducible apply State.modLport_kept hM

theorem State.larreTable_kept (hM : MemClosed M) (s : State) (bs) (hs : Kept M p n f o s) : Kept M p n f o (State.larreTable s bs).2 := by
  unfold State.larreTable
  repeat' first
    | with_reducible assumption | with_reducible apply State.modLarre_kept | dsimp only | split

theorem State.larreArm_kept (hM : MemClosed M) (s : State) (tsw) (hs : Kept M p n f o s) : Kept M p n f o (State.larreArm s tsw).2 := by
  unfold State.larreArm
  repeat' first
    | with_reducible assumption | with_reducible apply State.modLarre_kept | split

theorem State.larreRetire_kept (hM : MemClosed M) (s : State) (hs : Kept M p n f o s) : Kept M p n f o (State.larreRetire s).2 := by
  unfold State.larreRetire
  repeat' first
    | with_reducible assumption | with_reducible apply State.modLarre_kept | split

theorem State.ethRecord_kept (hM : MemClosed M) (s : State) (i payload) (hs : Kept M p n f o s) : Kept M p n f o (State.ethRecord s i payload) := by
  unfold State.ethRecord
  repeat' first
    | with_reducible assumption | with_reducible apply State.modTen_kept | with_reducible apply State.writeAt_kept hM | dsimp only | split

theorem State.oxbowOpen_kept (hM : MemClosed M) (s : State) (i) (hs : Kept M p n f o s) : Kept M p n f o (State.oxbowOpen s i) := by
  unfold State.oxbowOpen
  repeat' first
    | with_reducible assumption | with_reducible apply State.modLarre_kept | dsimp only | split

theorem State.estLoopback_kept (hM : MemClosed M) (s : State) (n0 p0 depth pat) (hs : Kept M p n f o s) :
    Kept M p n f o (State.estLoopback s n0 p0 depth pat) := by
  unfold State.estLoopback
  repeat' first
    | with_reducible assumption | with_reducible apply State.modEng_kept hM | with_reducible apply State.askLarre_kept hM
    | with_reducible apply State.modLport_kept hM | dsimp only | split

theorem State.modUnit_kept (hM : MemClosed M) (s : State) (f0) (hs : Kept M p n f o s) : Kept M p n f o (State.modUnit s f0) := by
  unfold State.modUnit
  repeat' first
    | with_reducible assumption | with_reducible apply State.modMer_kept

theorem State.modDie_kept (hM : MemClosed M) (s : State) (u f0) (hs : Kept M p n f o s) : Kept M p n f o (State.modDie s u f0) := by
  unfold State.modDie
  repeat' first
    | with_reducible assumption | with_reducible apply State.modMer_kept

theorem State.reference_kept (hM : MemClosed M) (s : State) (cap exp) (hs : Kept M p n f o s) : Kept M p n f o (State.reference s cap exp) := by
  unfold State.reference
  repeat' first
    | with_reducible assumption | with_reducible apply State.modUnit_kept hM | with_reducible apply State.raiseSv_kept hM | split

theorem State.applyStep_kept (hM : MemClosed M) (s : State) (hs : Kept M p n f o s) : Kept M p n f o (State.applyStep s) := by
  unfold State.applyStep
  repeat' first
    | with_reducible assumption | intro _ | with_reducible apply State.modUnit_kept hM | with_reducible apply State.modDie_kept hM
    | with_reducible apply Kept.foldl | split

theorem State.timeStep_kept (hM : MemClosed M) (s : State) (count) (hs : Kept M p n f o s) : Kept M p n f o (State.timeStep s count).2 := by
  unfold State.timeStep
  repeat' first
    | with_reducible assumption | with_reducible apply State.modUnit_kept hM | split

theorem State.calendarLoad_kept (hM : MemClosed M) (s : State) (bs) (hs : Kept M p n f o s) : Kept M p n f o (State.calendarLoad s bs).2 := by
  unfold State.calendarLoad
  repeat' first
    | with_reducible assumption | with_reducible apply State.modMer_kept | dsimp only | split

theorem State.calendarArm_kept (hM : MemClosed M) (s : State) (ps tick) (hs : Kept M p n f o s) : Kept M p n f o (State.calendarArm s ps tick) := by
  unfold State.calendarArm
  repeat' first
    | with_reducible assumption | with_reducible apply State.modMer_kept

theorem State.ownSecond_kept (hM : MemClosed M) (s : State) (before) (hs : Kept M p n f o s) : Kept M p n f o (State.ownSecond s before) := by
  unfold State.ownSecond
  repeat' first
    | with_reducible assumption | intro _ | with_reducible apply State.emit_kept | dsimp only | split

theorem Spd.releaseLast_mem (hM : MemClosed M) (x : Spd) (p0 off) (hx : M x.mem) : M (Spd.releaseLast x p0 off).mem := by
  unfold Spd.releaseLast
  repeat' first
    | with_reducible assumption | split

theorem State.directToCluster_kept (hM : MemClosed M) (s : State) (c p0) (hs : Kept M p n f o s) : Kept M p n f o (State.directToCluster s c p0) := by
  unfold State.directToCluster
  repeat' first
    | with_reducible assumption | intro _ | with_reducible apply Spd.writeP_mem hM | with_reducible apply Cluster.landed_mem hM
    | with_reducible apply State.modCl_kept hM | with_reducible apply State.ackRead_kept hM | with_reducible apply State.accepted_kept hM
    | with_reducible apply State.mackAt_kept hM | with_reducible apply Spd.releaseLast_mem hM | with_reducible apply Kept.cl hM | dsimp only
    | split

theorem State.pumpPort_kept (hM : MemClosed M) (s : State) (site port) (hs : Kept M p n f o s) : Kept M p n f o (State.pumpPort s site port) := by
  unfold State.pumpPort
  repeat' first
    | with_reducible assumption | intro _ | with_reducible apply State.commitRouter_kept hM | with_reducible apply State.drainOutbox_kept hM
    | with_reducible apply State.sendRecords_kept hM | dsimp only | split

theorem State.loseChannel_kept (hM : MemClosed M) (s : State) (k c reason service) (hs : Kept M p n f o s) :
    Kept M p n f o (State.loseChannel s k c reason service) := by
  unfold State.loseChannel
  repeat' first
    | with_reducible assumption | intro _ | with_reducible apply State.modStk_kept hM | with_reducible apply Stack.loseChannel_mem hM
    | with_reducible apply State.askVote_kept hM | with_reducible apply State.raise_kept hM | with_reducible apply Stack.record_mem hM
    | with_reducible apply State.retireUnit_kept hM | with_reducible apply State.applyGaz_kept hM | dsimp only | split

theorem State.testStack_kept (hM : MemClosed M) (s : State) (k ok full rows failed) (hs : Kept M p n f o s) :
    Kept M p n f o (State.testStack s k ok full rows failed) := by
  unfold State.testStack
  repeat' first
    | with_reducible assumption | intro _ | with_reducible apply State.modStk_kept hM | with_reducible apply State.retireUnit_kept hM
    | with_reducible apply State.loseChannel_kept hM | with_reducible apply Kept.foldl | with_reducible exact MemClosed.nil hM | split

theorem State.haltTenant_kept (hM : MemClosed M) (s : State) (hs : Kept M p n f o s) : Kept M p n f o (State.haltTenant s) := by
  unfold State.haltTenant
  repeat' first
    | with_reducible assumption | intro _ | with_reducible apply State.modCl_kept hM | with_reducible apply Cluster.halt_mem hM
    | with_reducible apply Kept.foldl | split

theorem State.fence_kept (hM : MemClosed M) (s : State) (hs : Kept M p n f o s) : Kept M p n f o (State.fence s) := by
  unfold State.fence
  repeat' first
    | with_reducible assumption | with_reducible apply State.notifyAll_kept hM | with_reducible apply State.modCnf_kept
    | with_reducible apply State.haltTenant_kept hM | split

theorem State.stopCatchment_kept (hM : MemClosed M) (s : State) (hs : Kept M p n f o s) : Kept M p n f o (State.stopCatchment s) := by
  unfold State.stopCatchment
  repeat' first
    | with_reducible assumption | with_reducible apply State.raiseSv_kept hM | with_reducible apply State.modCnf_kept
    | with_reducible apply State.haltTenant_kept hM

theorem State.failClose_kept (hM : MemClosed M) (s : State) (emism) (hs : Kept M p n f o s) : Kept M p n f o (State.failClose s emism) := by
  unfold State.failClose
  repeat' first
    | with_reducible assumption | with_reducible apply State.askVote_kept hM | with_reducible apply State.modCnf_kept

theorem State.contingency_kept (hM : MemClosed M) (s : State) (pairs tsw) (hs : Kept M p n f o s) :
    Kept M p n f o (State.contingency s pairs tsw) := by
  unfold State.contingency
  repeat' first
    | with_reducible assumption | with_reducible apply State.modLarre_kept | with_reducible apply State.modCnf_kept | dsimp only | split

theorem State.rewound_kept (hM : MemClosed M) (s : State) (hs : Kept M p n f o s) : Kept M p n f o (State.rewound s) := by
  unfold State.rewound
  repeat' first
    | with_reducible assumption | with_reducible apply State.notifyAll_kept hM | with_reducible apply State.modCnf_kept

theorem State.takeOver_kept (hM : MemClosed M) (s : State) (r i) (hs : Kept M p n f o s) : Kept M p n f o (State.takeOver s r i) := by
  unfold State.takeOver
  repeat' first
    | with_reducible assumption | intro _ | with_reducible apply State.setObj_kept hM | with_reducible apply State.modCnf_kept
    | with_reducible apply State.modTen_kept | with_reducible apply State.modLport_kept hM | with_reducible apply Kept.foldl

theorem State.resetRetired_kept (hM : MemClosed M) (s : State) (r mask) (hs : Kept M p n f o s) : Kept M p n f o (State.resetRetired s r mask) := by
  unfold State.resetRetired
  repeat' first
    | with_reducible assumption | intro _ | with_reducible apply State.modLarre_kept | with_reducible apply State.modWinOf_kept hM
    | with_reducible apply Kept.foldl

theorem State.rewind_kept (hM : MemClosed M) (s : State) (r ballots mask e) (hs : Kept M p n f o s) :
    Kept M p n f o (State.rewind s r ballots mask e) := by
  unfold State.rewind
  repeat' first
    | with_reducible assumption | intro _ | with_reducible apply State.modCl_kept hM | with_reducible apply State.portSettle_kept hM
    | with_reducible apply State.haltTenant_kept hM | with_reducible apply State.rewound_kept hM | with_reducible apply State.takeOver_kept hM
    | with_reducible apply State.resetRetired_kept hM | with_reducible apply State.modCnf_kept | with_reducible apply Kept.foldl
    | with_reducible apply Kept.foldlFst | with_reducible apply Kept.foldlSnd | with_reducible apply memFoldlC
    | with_reducible apply memFoldlFstC | with_reducible apply memFoldlD | with_reducible apply memFoldlFstD | with_reducible apply memFoldlK
    | dsimp only | split

theorem State.armClose_kept (hM : MemClosed M) (s : State) (c) (hs : Kept M p n f o s) : Kept M p n f o (State.armClose s c) := by
  unfold State.armClose
  repeat' first
    | with_reducible assumption | with_reducible apply State.modCnf_kept | split

theorem State.recordEpoch_kept (hM : MemClosed M) (s : State) (hs : Kept M p n f o s) : Kept M p n f o (State.recordEpoch s) := by
  unfold State.recordEpoch
  repeat' first
    | with_reducible assumption | intro _ | with_reducible apply State.modCnf_kept | with_reducible apply State.sendCtl_kept hM
    | with_reducible apply Kept.foldl | dsimp only | split

theorem State.checkMatched_kept (hM : MemClosed M) (s : State) (hs : Kept M p n f o s) : Kept M p n f o (State.checkMatched s) := by
  unfold State.checkMatched
  repeat' first
    | with_reducible assumption | with_reducible apply State.recordEpoch_kept hM | with_reducible apply State.toEntries_kept hM
    | with_reducible apply State.modCnf_kept | split

theorem State.tenantKeys_kept (hM : MemClosed M) (s : State) (hs : Kept M p n f o s) : Kept M p n f o (State.tenantKeys s) := by
  unfold State.tenantKeys
  repeat' first
    | with_reducible assumption | intro _ | with_reducible apply State.modCtg_kept | with_reducible apply Kept.foldl | dsimp only | split

theorem State.shapeTenant_kept (hM : MemClosed M) (s : State) (t) (hs : Kept M p n f o s) : Kept M p n f o (State.shapeTenant s t) := by
  unfold State.shapeTenant
  repeat' first
    | with_reducible assumption | intro _ | with_reducible apply State.modStk_kept hM | with_reducible apply Stack.write_mem hM
    | with_reducible apply State.modDelta_kept | with_reducible apply Kept.foldl

theorem State.moveCluster_kept (hM : MemClosed M) (s : State) (old new c) (hs : Kept M p n f o s) :
    Kept M p n f o (State.moveCluster s old new c) := by
  unfold State.moveCluster
  repeat' first
    | with_reducible assumption | intro _ | with_reducible apply State.portConfig_kept hM | with_reducible apply State.modCl_kept hM
    | with_reducible apply Cluster.halt_mem hM | with_reducible apply State.modTen_kept | dsimp only | split

theorem State.partWrite_kept (hM : MemClosed M) (s : State) (bs) (hs : Kept M p n f o s) : Kept M p n f o (State.partWrite s bs).2 := by
  unfold State.partWrite
  repeat' first
    | with_reducible assumption | intro _ | with_reducible apply State.modTen_kept | with_reducible apply State.moveCluster_kept hM
    | with_reducible apply State.tenantKeys_kept hM | with_reducible apply State.modDelta_kept | with_reducible apply Kept.foldl | dsimp only | split

theorem State.drained_kept (hM : MemClosed M) (s : State) (c e) (hs : Kept M p n f o s) : Kept M p n f o (State.drained s c e) := by
  unfold State.drained
  repeat' first
    | with_reducible assumption | intro _ | with_reducible apply State.modTen_kept | with_reducible apply State.modCl_kept hM

theorem State.plotChange_kept (hM : MemClosed M) (s : State) (port fn num bs) (hs : Kept M p n f o s) :
    Kept M p n f o (State.plotChange s port fn num bs).2 := by
  unfold State.plotChange
  repeat' first
    | with_reducible assumption | with_reducible apply State.modTen_kept | dsimp only | split

theorem State.noteHostSeal_kept (hM : MemClosed M) (s : State) (tenant a n0) (hs : Kept M p n f o s) :
    Kept M p n f o (State.noteHostSeal s tenant a n0) := by
  unfold State.noteHostSeal
  repeat' first
    | with_reducible assumption | with_reducible apply State.noteSeal_kept hM | split

theorem State.queueWrite_kept (hM : MemClosed M) (s : State) (tenant a bs) (hs : Kept M p n f o s) :
    Kept M p n f o (State.queueWrite s tenant a bs) := by
  unfold State.queueWrite
  repeat' first
    | with_reducible assumption | with_reducible apply State.writeAt_kept hM | split

theorem State.hostSeen_kept (hM : MemClosed M) (s : State) (port) (hs : Kept M p n f o s) : Kept M p n f o (State.hostSeen s port) := by
  unfold State.hostSeen
  repeat' first
    | with_reducible assumption | with_reducible apply State.modHosts_kept | split

theorem State.writeCompletion_kept (hM : MemClosed M) (s : State) (i e st) (hs : Kept M p n f o s) :
    Kept M p n f o (State.writeCompletion s i e st) := by
  unfold State.writeCompletion
  repeat' first
    | with_reducible assumption | with_reducible apply State.queueWrite_kept hM | with_reducible apply State.modTen_kept
    | with_reducible apply State.emit_kept | dsimp only | split

theorem State.flush_kept (hM : MemClosed M) (i : Nat) : ∀ (fuel : Nat) (s : State), Kept M p n f o s → Kept M p n f o (s.flush i fuel)
  | 0, _, hs => hs
  | fuel + 1, s, hs => by
    rw [State.flush]
    split
    · split
      · with_reducible exact State.flush_kept hM i fuel _ (State.modTen_kept (State.writeCompletion_kept hM _ _ _ _ hs))
      · exact hs
    · exact hs

theorem State.finish_kept (hM : MemClosed M) (s : State) (i seq st) (hs : Kept M p n f o s) : Kept M p n f o (State.finish s i seq st) := by
  unfold State.finish
  repeat' first
    | with_reducible assumption | with_reducible apply State.modTen_kept | with_reducible apply State.flush_kept hM

theorem Cluster.startAt_mem (hM : MemClosed M) (k : Cluster) (pc) (e) (hk : M k.spd.mem) :
    M (Cluster.startAt k pc e).spd.mem := by
  unfold Cluster.startAt
  repeat' first
    | with_reducible assumption | intro _ | dsimp only | split

theorem State.startRun_kept (hM : MemClosed M) (s : State) (p0 r count) (hs : Kept M p n f o s) : Kept M p n f o (State.startRun s p0 r count) := by
  unfold State.startRun
  repeat' first
    | with_reducible assumption | intro _ | with_reducible apply State.modCl_kept hM | with_reducible apply Cluster.startAt_mem hM
    | with_reducible apply State.modTen_kept | with_reducible apply Kept.foldl | with_reducible apply Kept.foldlFst
    | with_reducible apply Kept.foldlSnd | with_reducible apply memFoldlC | with_reducible apply memFoldlFstC | with_reducible apply memFoldlD
    | with_reducible apply memFoldlFstD | with_reducible apply memFoldlK | dsimp only | split

theorem Cluster.saved_mem (hM : MemClosed M) (k : Cluster) (c) (xs) (hk : M k.spd.mem) :
    M (Cluster.saved k c xs).2.spd.mem := by
  unfold Cluster.saved
  repeat' first
    | with_reducible assumption | intro _ | with_reducible apply Spd.readExtents_mem hM | dsimp only | split

theorem State.nextRun_kept (hM : MemClosed M) (s : State) (p0) (hs : Kept M p n f o s) : Kept M p n f o (State.nextRun s p0) := by
  unfold State.nextRun
  repeat' first
    | with_reducible assumption | with_reducible apply State.startRun_kept hM | with_reducible apply State.modTen_kept | split

theorem State.requestPreempt_kept (hM : MemClosed M) (s : State) (p0) (hs : Kept M p n f o s) : Kept M p n f o (State.requestPreempt s p0) := by
  unfold State.requestPreempt
  repeat' first
    | with_reducible assumption | intro _ | with_reducible apply State.fresh_kept | with_reducible apply State.modTen_kept
    | with_reducible apply State.modCl_kept hM | with_reducible apply Kept.foldl | split

theorem State.haltRun_kept (hM : MemClosed M) (s : State) (p0) (hs : Kept M p n f o s) : Kept M p n f o (State.haltRun s p0) := by
  unfold State.haltRun
  repeat' first
    | with_reducible assumption | with_reducible apply State.finish_kept hM | with_reducible apply State.modTen_kept | split

theorem State.dmaFree_kept (hM : MemClosed M) (s : State) (i seq port n0 : Nat) (q : PAddr) (hs : Kept M p n f o s) :
    Kept M p n f o (s.dmaFree i seq port n0 q) := by
  unfold State.dmaFree
  split
  · exact State.modCl_kept hM _ _ _ hs fun k hk => Spd.releaseRead_mem hM _ _ _ _ (Spd.release_mem hM _ _ _ hk)
  · exact hs

theorem State.dmaDone_kept (hM : MemClosed M) (s : State) (i seq : Nat) (data : List Byte) (poison : Bool) (hs : Kept M p n f o s) :
    Kept M p n f o (s.dmaDone i seq data poison) := by
  unfold State.dmaDone
  split
  · exact hs
  · dsimp only
    with_reducible refine Kept.ite (fun _ => hs) fun _ => ?_
    split
    · with_reducible exact Kept.ite (fun _ => hs) fun _ => State.finish_kept hM _ _ _ _ (State.dmaFree_kept hM _ _ _ _ _ _
        (State.dmaFree_kept hM _ _ _ _ _ _ (State.writeAt_kept hM _ _ _ _ _ _ (State.readHost_kept hM _ _ _ _ _ _ _ _ hs))))
    · exact hs

theorem Cluster.restore_mem (hM : MemClosed M) (k : Cluster) (h0 r x) (hk : M k.spd.mem) : M (Cluster.restore k h0 r x).spd.mem := by
  unfold Cluster.restore
  repeat' first
    | with_reducible assumption | with_reducible apply Spd.writeP_mem hM | with_reducible apply memFoldlC | with_reducible apply memFoldlD | intro _

theorem State.fetchOne_kept (hM : MemClosed M) (s : State) (i k data) (hs : Kept M p n f o s) : Kept M p n f o (State.fetchOne s i k data) := by
  unfold State.fetchOne
  repeat' first
    | with_reducible assumption | with_reducible apply State.modTen_kept | with_reducible apply State.emit_kept
    | with_reducible apply State.fresh_kept | with_reducible apply State.readAt_kept hM | dsimp only | split

theorem State.fetchAll_kept (hM : MemClosed M) (i : Nat) (data : List Byte) : ∀ (fuel k : Nat) (s : State), Kept M p n f o s → Kept M p n f o (s.fetchAll i data k fuel)
  | 0, _, _, hs => hs
  | fuel + 1, k, s, hs => State.fetchAll_kept hM i data fuel (k + 1) _ (State.fetchOne_kept hM s i k data hs)

theorem State.fetch_kept (hM : MemClosed M) (s : State) (i data) (hs : Kept M p n f o s) : Kept M p n f o (State.fetch s i data) := by
  unfold State.fetch
  repeat' first
    | with_reducible assumption | with_reducible apply State.raiseSv_kept hM | with_reducible apply State.modTen_kept
    | with_reducible apply State.fetchAll_kept hM | with_reducible apply State.flush_kept hM | with_reducible apply State.queueWrite_kept hM
    | dsimp only | split

theorem State.ring_kept (hM : MemClosed M) (s : State) (bound page handle prod data) (hs : Kept M p n f o s) :
    Kept M p n f o (State.ring s bound page handle prod data) := by
  unfold State.ring
  repeat' first
    | with_reducible assumption | with_reducible apply State.modTen_kept | with_reducible apply State.fetch_kept hM | split

theorem State.createChannel_kept (hM : MemClosed M) (s : State) (port fn bs) (hs : Kept M p n f o s) :
    Kept M p n f o (State.createChannel s port fn bs).2 := by
  unfold State.createChannel
  repeat' first
    | with_reducible assumption | with_reducible apply State.emit_kept | with_reducible apply State.modTen_kept | with_reducible apply Kept.useFree
    | dsimp only | split

theorem State.destroyChannel_kept (hM : MemClosed M) (s : State) (i) (hs : Kept M p n f o s) : Kept M p n f o (State.destroyChannel s i) := by
  unfold State.destroyChannel
  repeat' first
    | with_reducible assumption | intro _ | with_reducible apply State.haltRun_kept hM | with_reducible apply State.modCl_kept hM
    | with_reducible apply Cluster.halt_mem hM | with_reducible apply State.finish_kept hM | with_reducible apply Spd.release_mem hM
    | with_reducible apply State.nextRun_kept hM | with_reducible apply State.modTen_kept | with_reducible apply Kept.foldl | dsimp only | split

theorem State.destroyBy_kept (hM : MemClosed M) (s : State) (port fn handle) (hs : Kept M p n f o s) :
    Kept M p n f o (State.destroyBy s port fn handle).2 := by
  unfold State.destroyBy
  repeat' first
    | with_reducible assumption | with_reducible apply State.modTen_kept | with_reducible apply State.destroyChannel_kept hM | split

theorem State.injectHalt_kept (hM : MemClosed M) (s : State) (p0) (hs : Kept M p n f o s) : Kept M p n f o (State.injectHalt s p0) := by
  unfold State.injectHalt
  repeat' first
    | with_reducible assumption | intro _ | with_reducible apply State.sendCtl_kept hM | with_reducible apply State.haltRun_kept hM
    | with_reducible apply State.modDelta_kept | with_reducible apply State.modTen_kept | dsimp only | split

theorem State.haltAnswer_kept (hM : MemClosed M) (s : State) (p0 r short count) (hs : Kept M p n f o s) :
    Kept M p n f o (State.haltAnswer s p0 r short count) := by
  unfold State.haltAnswer
  repeat' first
    | with_reducible assumption | with_reducible apply State.emit_kept | with_reducible apply State.raiseSv_kept hM | split

theorem State.askHalt_kept (hM : MemClosed M) (s : State) (p0 port tag) (hs : Kept M p n f o s) : Kept M p n f o (State.askHalt s p0 port tag) := by
  unfold State.askHalt
  repeat' first
    | with_reducible assumption | with_reducible apply State.haltAnswer_kept hM | with_reducible apply State.modTen_kept
    | with_reducible apply State.injectHalt_kept hM | dsimp only | split

theorem State.releaseHeld_kept (hM : MemClosed M) (s : State) (p0 data) (hs : Kept M p n f o s) : Kept M p n f o (State.releaseHeld s p0 data) := by
  unfold State.releaseHeld
  repeat' first
    | with_reducible assumption | intro _ | with_reducible apply State.fetch_kept hM | with_reducible apply State.modTen_kept
    | with_reducible apply Kept.foldl

theorem State.chartVote_kept (hM : MemClosed M) (s : State) (tenant bits) (hs : Kept M p n f o s) :
    Kept M p n f o (State.chartVote s tenant bits) := by
  unfold State.chartVote
  repeat' first
    | with_reducible assumption | with_reducible apply State.askVote_kept hM | split

theorem State.closeSessions_kept (hM : MemClosed M) (s : State) (p0) (hs : Kept M p n f o s) : Kept M p n f o (State.closeSessions s p0) := by
  unfold State.closeSessions
  repeat' first
    | with_reducible assumption | with_reducible apply State.emits_kept | with_reducible apply State.modLgd_kept

theorem State.passRole_kept (hM : MemClosed M) (s : State) (p0) (hs : Kept M p n f o s) : Kept M p n f o (State.passRole s p0) := by
  unfold State.passRole
  repeat' first
    | with_reducible assumption | with_reducible apply State.notifyAll_kept hM | with_reducible apply State.closeSessions_kept hM
    | with_reducible apply State.modHosts_kept

theorem State.promotionDue_kept (hM : MemClosed M) (s : State) (at_) (hs : Kept M p n f o s) : Kept M p n f o (State.promotionDue s at_) := by
  unfold State.promotionDue
  repeat' first
    | with_reducible assumption | with_reducible apply State.passRole_kept hM | with_reducible apply State.modHosts_kept | dsimp only | split

theorem State.primaryLost_kept (hM : MemClosed M) (s : State) (port) (hs : Kept M p n f o s) : Kept M p n f o (State.primaryLost s port) := by
  unfold State.primaryLost
  repeat' first
    | with_reducible assumption | with_reducible apply State.closeSessions_kept hM | with_reducible apply State.modHosts_kept | split

theorem State.destroyThrough_kept (hM : MemClosed M) (s : State) (port fns) (hs : Kept M p n f o s) :
    Kept M p n f o (State.destroyThrough s port fns) := by
  unfold State.destroyThrough
  repeat' first
    | with_reducible assumption | with_reducible apply State.destroyChannel_kept hM | with_reducible apply Kept.foldl

theorem State.useFree_kept (hM : MemClosed M) (s : State) (k : Nat) (hs : Kept M p n f o s) : Kept M p n f o (s.useFree k) := hs.useFree

theorem State.haltPartitions_kept (hM : MemClosed M) (s : State) (hs : Kept M p n f o s) : Kept M p n f o (State.haltPartitions s) := by
  unfold State.haltPartitions
  repeat' first
    | with_reducible assumption | intro _ | with_reducible apply State.modTen_kept | with_reducible apply State.haltRun_kept hM
    | with_reducible apply State.modCl_kept hM | with_reducible apply Cluster.halt_mem hM | with_reducible apply Kept.foldl

theorem State.wipeKeys_kept (hM : MemClosed M) (s : State) (hs : Kept M p n f o s) : Kept M p n f o s.wipeKeys := by
  refine ⟨hs.1, hs.2.1, hs.2.2.1, hs.2.2.2.1, hs.2.2.2.2.1, fun e he => ?_⟩
  obtain ⟨x, hx, rfl⟩ := List.mem_map.1 he
  exact hs.2.2.2.2.2 x hx

theorem State.zeroize_kept (hM : MemClosed M) (s : State) (cause) (hs : Kept M p n f o s) : Kept M p n f o (State.zeroize s cause) := by
  unfold State.zeroize
  repeat' first
    | with_reducible assumption | intro _ | with_reducible apply State.closeSessions_kept hM | with_reducible apply State.raiseAs_kept hM
    | with_reducible apply State.modCtg_kept | with_reducible apply State.wipeKeys_kept hM | with_reducible apply State.haltPartitions_kept hM
    | with_reducible apply State.modCl_kept hM | with_reducible apply State.zeroDone_kept hM | with_reducible apply State.modBoot_kept
    | with_reducible apply State.setLevel_kept hM | with_reducible apply Kept.foldl | split

theorem State.selftestFail_kept (hM : MemClosed M) (s : State) (i test unit) (hs : Kept M p n f o s) :
    Kept M p n f o (State.selftestFail s i test unit) := by
  unfold State.selftestFail
  repeat' first
    | with_reducible assumption | with_reducible apply State.raiseAs_kept hM | with_reducible apply State.modCtg_kept
    | with_reducible apply State.modFw_kept | with_reducible apply State.takeover_kept hM | with_reducible apply State.zeroize_kept hM | split

theorem Stack.kept_mem (hM : MemClosed M) (x : Stack) (hx : M x.mem) : M (Stack.kept x).mem := by
  unfold Stack.kept
  repeat' first
    | with_reducible assumption

theorem State.resetPanel_kept (hM : MemClosed M) (s : State) (cold : Bool) (hs : Kept M p n f o s) : Kept M p n f o (s.resetPanel cold) := by
  refine ⟨hs.1, hs.2.1, hs.2.2.1, hs.2.2.2.1, fun e he => ?_, fun e he => ?_⟩
  · obtain ⟨x, -, rfl⟩ := List.mem_map.1 he
    exact Cluster.kept_mem hM x.2
  · obtain ⟨x, hx, rfl⟩ := List.mem_map.1 he
    exact hs.2.2.2.2.2 x hx

theorem State.letGo_kept (hM : MemClosed M) (s : State) (hs : Kept M p n f o s) :
    Kept M p n f o (State.letGo s) := by
  unfold State.letGo
  repeat' first
    | with_reducible assumption | intro _ | fail_if_no_progress with_reducible apply Kept.all | dsimp only | split

theorem State.panelDown_kept (hM : MemClosed M) (s : State) (cause) (hs : Kept M p n f o s) : Kept M p n f o (State.panelDown s cause) := by
  unfold State.panelDown
  repeat' first
    | with_reducible assumption | intro _ | with_reducible apply Spd.zeroize_mem hM | with_reducible apply State.setLevel_kept hM
    | with_reducible apply State.zeroize_kept hM | with_reducible apply State.resetPanel_kept hM | with_reducible apply State.letGo_kept hM
    | with_reducible apply State.modPwr_kept | dsimp only | split

theorem State.stopStart_kept (hM : MemClosed M) (s : State) (part) (hs : Kept M p n f o s) : Kept M p n f o (State.stopStart s part) := by
  unfold State.stopStart
  repeat' first
    | with_reducible assumption | with_reducible apply State.raiseAs_kept hM | with_reducible apply State.modBoot_kept
    | with_reducible apply State.setLevel_kept hM

theorem State.beginStart_kept (hM : MemClosed M) (s : State) (cold a b) (hs : Kept M p n f o s) : Kept M p n f o (State.beginStart s cold a b) := by
  unfold State.beginStart
  repeat' first
    | with_reducible assumption | with_reducible apply State.setLevel_kept hM | with_reducible apply State.raiseAs_kept hM
    | with_reducible apply State.modBoot_kept | with_reducible apply State.stopStart_kept hM | fail_if_no_progress with_reducible apply Kept.all
    | dsimp only | split

theorem State.tryStart_kept (hM : MemClosed M) (s : State) (a b) (hs : Kept M p n f o s) : Kept M p n f o (State.tryStart s a b) := by
  unfold State.tryStart
  repeat' first
    | with_reducible assumption | intro _ | with_reducible apply State.beginStart_kept hM | with_reducible apply State.resetPanel_kept hM
    | with_reducible apply State.setLevel_kept hM | with_reducible apply State.zeroize_kept hM | with_reducible apply Kept.ite

theorem State.raiseRails_kept (hM : MemClosed M) (s : State) (hs : Kept M p n f o s) : Kept M p n f o (State.raiseRails s) := by
  unfold State.raiseRails
  repeat' first
    | with_reducible assumption | intro _ | with_reducible apply State.modPwr_kept

theorem State.frameGranted_kept (hM : MemClosed M) (s : State) (src) (c) (reqid) (hs : Kept M p n f o s) :
    Kept M p n f o (State.frameGranted s src c reqid) := by
  unfold State.frameGranted
  split
  · exact hs
  · dsimp only
    with_reducible apply State.placeBuffered_kept hM
    with_reducible apply State.leaves_kept hM
    with_reducible refine State.modCl_kept hM _ _ _ ?_ fun k hk => hk
    split
    · with_reducible exact State.framePlotDrop_kept hM _ _ _ _ _ _ (State.modLarre_kept hs)
    · with_reducible exact State.writeFrame_kept hM _ _ _ _ _ (State.modLarre_kept hs)

theorem State.notePacket_kept (hM : MemClosed M) (s : State) (c) (t) (p0) (hs : Kept M p n f o s) :
    Kept M p n f o (State.notePacket s c t p0) := by
  unfold State.notePacket
  repeat' first
    | with_reducible assumption | intro _ | with_reducible apply State.modCl_kept hM | dsimp only | split

theorem State.noteInjected_kept (hM : MemClosed M) (s : State) (site) (port) (q) (hs : Kept M p n f o s) :
    Kept M p n f o (State.noteInjected s site port q) := by
  unfold State.noteInjected
  repeat' first
    | with_reducible assumption | intro _ | with_reducible apply State.noteEntered_kept hM | with_reducible apply State.modDelta_kept
    | dsimp only | split

theorem State.switchDue_kept (hM : MemClosed M) (s : State) (hs : Kept M p n f o s) :
    Kept M p n f o (State.switchDue s) := by
  unfold State.switchDue
  repeat' first
    | with_reducible assumption | intro _ | with_reducible apply State.portsFollow_kept hM | with_reducible apply State.partsSwitched_kept hM
    | with_reducible apply State.modDelta_kept | dsimp only | split

theorem State.inject_kept (hM : MemClosed M) (s : State) (site) (port) (p0) (move) (hs : Kept M p n f o s) :
    Kept M p n f o (State.inject s site port p0 move) := by
  unfold State.inject
  dsimp only
  with_reducible refine Kept.ite (fun _ => hs) fun _ => Kept.ite (fun _ => State.injectAt_kept hM _ _ _ _ hs) fun _ => Kept.ite (fun _ => hs) fun _ => ?_
  split
  · with_reducible exact State.raise_kept hM _ _ _ _ _ (State.sendNak_kept hM _ _ _ _ (State.modDelta_kept hs))
  · rename_i q _
    with_reducible refine Kept.ite (fun _ => hs) fun _ => ?_
    split
    · exact hs
    · rename_i s1 e
      have h2 := State.noteInjected_kept hM s1 site port q (State.window_kept hM _ _ _ _ _ _ hs _ e)
      with_reducible apply State.forwardAt_kept hM
      with_reducible apply State.unitFlits_kept hM
      split
      · exact State.notePacket_kept hM _ _ _ _ h2
      · exact h2

theorem State.directToLockkeeper_kept (hM : MemClosed M) (s : State) (site) (p0) (hs : Kept M p n f o s) :
    Kept M p n f o (State.directToLockkeeper s site p0) := by
  unfold State.directToLockkeeper
  repeat' first
    | with_reducible assumption | intro _ | with_reducible apply State.mackAt_kept hM | with_reducible apply State.modDelta_kept
    | with_reducible apply Kept.foldl | with_reducible apply Kept.foldlFst | with_reducible apply Kept.foldlSnd | dsimp only | split

theorem State.stepAtTick_kept (hM : MemClosed M) (s : State) (before) (hs : Kept M p n f o s) :
    Kept M p n f o (State.stepAtTick s before) := by
  unfold State.stepAtTick
  repeat' first
    | with_reducible assumption | intro _ | with_reducible apply State.applyStep_kept hM | dsimp only | split

/-- A cycle in which no command waits keeps all but the time base. -/
theorem State.idleTick_kept (hM : MemClosed M) (s : State) (hs : Kept M p n f o s) : Kept M p (n + 1) f o s.idleTick := by
  have h1 : Kept M p (n + 1) f o (({ s with now := s.now + 1 } : State).stepAtTick s.mcount) :=
    State.stepAtTick_kept hM _ _ ⟨hs.1, congrArg (· + 1) hs.2.1, hs.2.2⟩
  unfold State.idleTick
  with_reducible exact Kept.ite (fun _ => h1) fun _ => State.ownSecond_kept hM _ _ h1

end Sys2Proof.Machine
end

