-- ==== Sys2Proof/Laws/KeptServices.lean ====
section
/-!
SUPPORT. What the operations of power, clocks, the Cartouche, firmware, diagnostics and the Legend keep.
-/
namespace Sys2Proof.Machine

variable {M : List Host.Cell → Prop} {p : List Instr} {n f : Nat} {o : List Msg}

theorem State.powerFault_kept (hM : MemClosed M) (s : State) (code n0 rail dom volt) (hs : Kept M p n f o s) :
    Kept M p n f o (State.powerFault s code n0 rail dom volt) := by
  unfold State.powerFault
  repeat' first
    | with_reducible assumption | with_reducible apply State.modPwr_kept | with_reducible apply State.raiseAs_kept hM

theorem State.inputFault_kept (hM : MemClosed M) (s : State) (logged) (hs : Kept M p n f o s) : Kept M p n f o (State.inputFault s logged) := by
  unfold State.inputFault
  repeat' first
    | with_reducible assumption | with_reducible apply State.raiseSv_kept hM | with_reducible apply State.modPwr_kept
    | with_reducible apply State.panelDown_kept hM | split

theorem State.haltRuns_kept (hM : MemClosed M) (s : State) (hs : Kept M p n f o s) : Kept M p n f o (State.haltRuns s) := by
  unfold State.haltRuns
  repeat' first
    | with_reducible assumption | intro _ | with_reducible apply State.haltRun_kept hM | with_reducible apply State.finish_kept hM
    | with_reducible apply State.modTen_kept | with_reducible apply Kept.foldl | dsimp only | split

theorem State.shedCore_kept (hM : MemClosed M) (s : State) (hs : Kept M p n f o s) : Kept M p n f o (State.shedCore s) := by
  unfold State.shedCore
  repeat' first
    | with_reducible assumption | intro _ | with_reducible apply State.modPwr_kept | with_reducible apply State.raiseSv_kept hM
    | with_reducible apply State.haltRuns_kept hM | with_reducible apply State.setCl_kept | with_reducible apply Cluster.kept_mem hM
    | with_reducible apply State.modTen_kept | with_reducible apply State.setLevel_kept hM | with_reducible apply State.notifyAll_kept hM
    | with_reducible apply Kept.foldl | dsimp only | split

theorem State.coreUp_kept (hM : MemClosed M) (s : State) (hs : Kept M p n f o s) : Kept M p n f o (State.coreUp s) := by
  unfold State.coreUp
  repeat' first
    | with_reducible assumption | with_reducible apply State.modPwr_kept

theorem State.powerUpFails_kept (hM : MemClosed M) (s : State) (test r volt) (hs : Kept M p n f o s) :
    Kept M p n f o (State.powerUpFails s test r volt) := by
  unfold State.powerUpFails
  repeat' first
    | with_reducible assumption | with_reducible apply State.powerFault_kept hM | with_reducible apply State.modBoot_kept
    | with_reducible apply State.setLevel_kept hM | with_reducible apply State.modPwr_kept | split

theorem State.railDownFault_kept (hM : MemClosed M) (s : State) (r volt left) (hs : Kept M p n f o s) :
    Kept M p n f o (State.railDownFault s r volt left) := by
  unfold State.railDownFault
  repeat' first
    | with_reducible assumption | with_reducible apply State.powerFault_kept hM | with_reducible apply State.modPwr_kept | split

theorem State.vhkLost_kept (hM : MemClosed M) (s : State) (hs : Kept M p n f o s) : Kept M p n f o (State.vhkLost s) := by
  unfold State.vhkLost
  repeat' first
    | with_reducible assumption | with_reducible apply State.resetPanel_kept hM | with_reducible apply State.setLevel_kept hM
    | with_reducible apply State.zeroize_kept hM | fail_if_no_progress with_reducible apply Kept.all | split

theorem State.domainFault_kept (hM : MemClosed M) (s : State) (c) (hs : Kept M p n f o s) : Kept M p n f o (State.domainFault s c) := by
  unfold State.domainFault
  repeat' first
    | with_reducible assumption | with_reducible apply State.raise_kept hM | with_reducible apply State.modPwr_kept
    | with_reducible apply State.retireUnit_kept hM | with_reducible apply State.setCl_kept | with_reducible apply Cluster.kept_mem hM

theorem State.sramTested_kept (hM : MemClosed M) (s : State) (src c r) (hs : Kept M p n f o s) : Kept M p n f o (State.sramTested s src c r) := by
  unfold State.sramTested
  repeat' first
    | with_reducible assumption | intro _ | with_reducible apply Kept.cl hM | with_reducible apply State.setCl_kept
    | with_reducible apply State.applyGaz_kept hM | with_reducible apply Kept.cl hM | with_reducible apply memFoldlC
    | with_reducible apply memFoldlFstC | with_reducible apply memFoldlD | with_reducible apply memFoldlFstD | with_reducible apply memFoldlK
    | with_reducible apply memFoldlFstK | dsimp only | split

theorem State.fracture_kept (hM : MemClosed M) (s : State) (c w) (hs : Kept M p n f o s) : Kept M p n f o (State.fracture s c w) := by
  unfold State.fracture
  repeat' first
    | with_reducible assumption | with_reducible apply State.raise_kept hM | with_reducible apply State.modPwr_kept
    | with_reducible apply State.applyGaz_kept hM | dsimp only | split

theorem State.awaitToken_kept (hM : MemClosed M) (s : State) (c) (hs : Kept M p n f o s) : Kept M p n f o (State.awaitToken s c) := by
  unfold State.awaitToken
  repeat' first
    | with_reducible assumption | with_reducible apply State.modPwr_kept | split

theorem State.expertStatus_kept (hM : MemClosed M) (s : State) (u st) (hs : Kept M p n f o s) : Kept M p n f o (State.expertStatus s u st).2 := by
  unfold State.expertStatus
  repeat' first
    | with_reducible assumption | with_reducible apply State.applyGaz_kept hM | with_reducible apply State.awaitToken_kept hM | dsimp only | split

theorem State.reserveActivate_kept (hM : MemClosed M) (s : State) (n0) (hs : Kept M p n f o s) : Kept M p n f o (State.reserveActivate s n0).2 := by
  unfold State.reserveActivate
  repeat' first
    | with_reducible assumption | with_reducible apply State.modGaz_kept | split

theorem State.activationFails_kept (hM : MemClosed M) (s : State) (a) (hs : Kept M p n f o s) : Kept M p n f o (State.activationFails s a) := by
  unfold State.activationFails
  repeat' first
    | with_reducible assumption | intro _ | with_reducible apply State.modPwr_kept | with_reducible apply State.setCl_kept
    | with_reducible apply Cluster.kept_mem hM | with_reducible apply State.retireUnit_kept hM | with_reducible apply State.modGaz_kept
    | with_reducible apply State.askVote_kept hM | with_reducible apply Kept.foldl | dsimp only | split

theorem State.actStep_kept (hM : MemClosed M) (s : State) (a n0) (hs : Kept M p n f o s) : Kept M p n f o (State.actStep s a n0) := by
  unfold State.actStep
  repeat' first
    | with_reducible assumption | with_reducible apply State.modGaz_kept

theorem State.retarget_kept (hM : MemClosed M) (s : State) (hs : Kept M p n f o s) : Kept M p n f o (State.retarget s) := by
  unfold State.retarget
  repeat' first
    | with_reducible assumption | with_reducible apply State.modClk_kept

theorem State.setPoints_kept (hM : MemClosed M) (s : State) (x step) (hs : Kept M p n f o s) : Kept M p n f o (State.setPoints s x step) := by
  unfold State.setPoints
  repeat' first
    | with_reducible assumption | with_reducible apply State.modPwr_kept

theorem State.overrideTrims_kept (hM : MemClosed M) (s : State) (x) (hs : Kept M p n f o s) : Kept M p n f o (State.overrideTrims s x) := by
  unfold State.overrideTrims
  repeat' first
    | with_reducible assumption | with_reducible apply State.modPwr_kept

theorem State.recompute_kept (hM : MemClosed M) (s : State) (x) (hs : Kept M p n f o s) : Kept M p n f o (State.recompute s x) := by
  unfold State.recompute
  repeat' first
    | with_reducible assumption | with_reducible apply State.overrideTrims_kept hM | with_reducible apply State.modClk_kept
    | with_reducible apply State.setPoints_kept hM | dsimp only | split

theorem State.coolCheck_kept (hM : MemClosed M) (s : State) (hs : Kept M p n f o s) : Kept M p n f o (State.coolCheck s) := by
  unfold State.coolCheck
  repeat' first
    | with_reducible assumption | with_reducible apply State.modClk_kept | dsimp only | split

theorem State.tripCheck_kept (hM : MemClosed M) (s : State) (u t) (hs : Kept M p n f o s) : Kept M p n f o (State.tripCheck s u t) := by
  unfold State.tripCheck
  repeat' first
    | with_reducible assumption | with_reducible apply State.coolCheck_kept hM | with_reducible apply State.raise_kept hM
    | with_reducible apply State.modBoot_kept | fail_if_no_progress with_reducible apply Kept.all | split

theorem State.thermalOut_kept (hM : MemClosed M) (s : State) (u st) (hs : Kept M p n f o s) : Kept M p n f o (State.thermalOut s u st) := by
  unfold State.thermalOut
  repeat' first
    | with_reducible assumption | with_reducible apply State.retireUnit_kept hM | with_reducible apply State.modClk_kept | split

theorem State.raiseTrim_kept (hM : MemClosed M) (s : State) (x n0) (hs : Kept M p n f o s) : Kept M p n f o (State.raiseTrim s x n0) := by
  unfold State.raiseTrim
  repeat' first
    | with_reducible assumption | with_reducible apply State.modClk_kept | with_reducible apply State.modPwr_kept | dsimp only | split

theorem State.serveSpdm_kept (hM : MemClosed M) (s : State) (ep : Endpoint) (g : State → State) (hs : Kept M p n f o s)
    (hg : ∀ s, Kept M p n f o s → Kept M p n f o (g s)) : Kept M p n f o (s.serveSpdm ep g) := by
  unfold State.serveSpdm
  repeat' first
    | with_reducible assumption
    | with_reducible apply hg
    | with_reducible apply State.emit_kept
    | with_reducible apply Kept.ite
    | intro _

theorem State.inSession_kept (hM : MemClosed M) (s : State) (ep : Endpoint) (id : Word32) (g : SpdmSess → State → State) (hs : Kept M p n f o s)
    (hg : ∀ x s, Kept M p n f o s → Kept M p n f o (g x s)) : Kept M p n f o (s.inSession ep id g) := by
  unfold State.inSession
  with_reducible refine State.serveSpdm_kept hM _ _ _ hs fun s hs => ?_
  split
  · exact hg _ _ hs
  · exact State.emit_kept hs

theorem State.ideRequest_kept (hM : MemClosed M) (s : State) (ep : Endpoint) (id : Word32) (port : Nat) (g : State → State) (hs : Kept M p n f o s)
    (hg : ∀ s, Kept M p n f o s → Kept M p n f o (g s)) : Kept M p n f o (s.ideRequest ep id port g) := by
  unfold State.ideRequest
  with_reducible refine State.inSession_kept hM _ _ _ _ hs fun x s hs => ?_
  with_reducible exact Kept.ite (fun _ => hg _ hs) fun _ => State.emit_kept hs

theorem State.modIde_kept (hM : MemClosed M) (s : State) (port stream f0) (hs : Kept M p n f o s) :
    Kept M p n f o (State.modIde s port stream f0) := by
  unfold State.modIde
  repeat' first
    | with_reducible assumption | with_reducible apply State.modHosts_kept

theorem State.clearUnit_kept (hM : MemClosed M) (s : State) (u) (hs : Kept M p n f o s) : Kept M p n f o (State.clearUnit s u) := by
  unfold State.clearUnit
  repeat' first
    | with_reducible assumption | intro _ | with_reducible apply State.modStk_kept hM | with_reducible apply State.modHosts_kept | split

theorem State.unitOut_kept (hM : MemClosed M) (s : State) (u reason) (hs : Kept M p n f o s) : Kept M p n f o (State.unitOut s u reason) := by
  unfold State.unitOut
  repeat' first
    | with_reducible assumption | with_reducible apply State.retireUnit_kept hM | with_reducible apply State.primaryLost_kept hM
    | with_reducible apply State.modTen_kept | with_reducible apply State.modHosts_kept | split

theorem State.keyPathFail_kept (hM : MemClosed M) (s : State) (u) (hs : Kept M p n f o s) : Kept M p n f o (State.keyPathFail s u) := by
  unfold State.keyPathFail
  repeat' first
    | with_reducible assumption | with_reducible apply State.modCtg_kept | with_reducible apply State.clearUnit_kept hM
    | with_reducible apply State.unitOut_kept hM | with_reducible apply State.raiseAs_kept hM

theorem State.keyPath_kept (hM : MemClosed M) (s : State) (m : KpMsg) (g : State → State) (hs : Kept M p n f o s)
    (hg : ∀ s, Kept M p n f o s → Kept M p n f o (g s)) : Kept M p n f o (s.keyPath m g) := by
  unfold State.keyPath
  repeat' first
    | with_reducible assumption
    | intro _
    | with_reducible apply hg
    | with_reducible apply State.keyPathFail_kept hM
    | with_reducible apply State.modCtg_kept
    | with_reducible apply Kept.ite
    | fail_if_no_progress with_reducible apply Kept.all

theorem State.dropKey_kept (hM : MemClosed M) (s : State) (t) (hs : Kept M p n f o s) : Kept M p n f o (State.dropKey s t) := by
  unfold State.dropKey
  repeat' first
    | with_reducible assumption | with_reducible apply State.modCtg_kept | dsimp only | split

theorem State.selfTest_kept (hM : MemClosed M) (s : State) (fails) (hs : Kept M p n f o s) : Kept M p n f o (State.selfTest s fails) := by
  unfold State.selfTest
  repeat' first
    | with_reducible assumption | with_reducible apply State.selftestFail_kept hM | with_reducible apply State.modCtg_kept | split

theorem State.endLife_kept (hM : MemClosed M) (s : State) (w) (hs : Kept M p n f o s) : Kept M p n f o (State.endLife s w).2 := by
  unfold State.endLife
  repeat' first
    | with_reducible assumption | with_reducible apply State.zeroize_kept hM | with_reducible apply State.modCtg_kept | split

theorem State.anchorWrite_kept (hM : MemClosed M) (s : State) (slot bs) (hs : Kept M p n f o s) : Kept M p n f o (State.anchorWrite s slot bs).2 := by
  unfold State.anchorWrite
  repeat' first
    | with_reducible assumption | with_reducible apply State.modCtg_kept | split

theorem State.anchorRevoke_kept (hM : MemClosed M) (s : State) (w) (hs : Kept M p n f o s) : Kept M p n f o (State.anchorRevoke s w).2 := by
  unfold State.anchorRevoke
  repeat' first
    | with_reducible assumption | with_reducible apply State.modCtg_kept | split

theorem State.retest_kept (hM : MemClosed M) (s : State) (r) (hs : Kept M p n f o s) : Kept M p n f o (State.retest s r) := by
  unfold State.retest
  repeat' first
    | with_reducible assumption | with_reducible apply State.applyGaz_kept hM | dsimp only | split

theorem State.startMeridian_kept (hM : MemClosed M) (s : State) (hs : Kept M p n f o s) : Kept M p n f o (State.startMeridian s) := by
  unfold State.startMeridian
  repeat' first
    | with_reducible assumption | with_reducible apply State.modMer_kept

theorem State.startServing_kept (hM : MemClosed M) (s : State) (hs : Kept M p n f o s) : Kept M p n f o (State.startServing s) := by
  unfold State.startServing
  repeat' first
    | with_reducible assumption | with_reducible apply State.modGaz_kept | with_reducible apply State.modClk_kept
    | with_reducible apply State.setLevel_kept hM | with_reducible apply State.retarget_kept hM

theorem State.startEngines_kept (hM : MemClosed M) (s : State) (hs : Kept M p n f o s) : Kept M p n f o (State.startEngines s) := by
  unfold State.startEngines
  repeat' first
    | with_reducible assumption | intro _ | with_reducible apply State.modGaz_kept | with_reducible apply State.modEng_kept hM
    | with_reducible apply State.modLarre_kept | with_reducible apply Kept.foldl

theorem State.calibrateSite_kept (hM : MemClosed M) (s : State) (cals x) (hs : Kept M p n f o s) : Kept M p n f o (State.calibrateSite s cals x) := by
  unfold State.calibrateSite
  repeat' first
    | with_reducible assumption | intro _ | with_reducible apply State.modPwr_kept | with_reducible apply State.modClk_kept
    | with_reducible apply State.overrideTrims_kept hM | with_reducible apply State.retireUnit_kept hM | with_reducible apply Kept.foldl | dsimp only
    | split

theorem State.measurePaths_kept (hM : MemClosed M) (s : State) (ps) (hs : Kept M p n f o s) : Kept M p n f o (State.measurePaths s ps) := by
  unfold State.measurePaths
  repeat' first
    | with_reducible assumption | with_reducible apply State.modPwr_kept

theorem State.domainsTested_kept (hM : MemClosed M) (s : State) (fails) (hs : Kept M p n f o s) : Kept M p n f o (State.domainsTested s fails) := by
  unfold State.domainsTested
  repeat' first
    | with_reducible assumption | intro _ | with_reducible apply State.modPwr_kept | with_reducible apply State.retireUnit_kept hM
    | with_reducible apply State.powerFault_kept hM | with_reducible apply Kept.foldl | split

theorem State.checkImage_kept (hM : MemClosed M) (s : State) (k bs) (hs : Kept M p n f o s) : Kept M p n f o (State.checkImage s k bs) := by
  unfold State.checkImage
  repeat' first
    | with_reducible assumption | with_reducible apply State.modFw_kept | with_reducible apply State.modCtg_kept
    | with_reducible apply State.raiseSv_kept hM | with_reducible apply State.notifyAll_kept hM | split

theorem State.checkHeld_kept (hM : MemClosed M) (s : State) (hs : Kept M p n f o s) : Kept M p n f o (State.checkHeld s) := by
  unfold State.checkHeld
  repeat' first
    | with_reducible assumption | intro _ | with_reducible apply State.checkImage_kept hM | with_reducible apply Kept.foldl | split

theorem State.startSvf_kept (hM : MemClosed M) (s : State) (bs) (hs : Kept M p n f o s) : Kept M p n f o (State.startSvf s bs) := by
  unfold State.startSvf
  repeat' first
    | with_reducible assumption | with_reducible apply State.modFw_kept | with_reducible apply State.checkHeld_kept hM
    | with_reducible apply State.notifyAll_kept hM | with_reducible apply State.modHosts_kept

theorem State.commitImage_kept (hM : MemClosed M) (s : State) (k bs) (hs : Kept M p n f o s) : Kept M p n f o (State.commitImage s k bs) := by
  unfold State.commitImage
  repeat' first
    | with_reducible assumption | with_reducible apply State.checkImage_kept hM | with_reducible apply State.startSvf_kept hM
    | with_reducible apply State.modFw_kept | dsimp only | split

theorem State.overrideWrite_kept (hM : MemClosed M) (s : State) (w) (hs : Kept M p n f o s) : Kept M p n f o (State.overrideWrite s w).2 := by
  unfold State.overrideWrite
  repeat' first
    | with_reducible assumption | intro _ | with_reducible apply State.modFw_kept | with_reducible apply State.checkImage_kept hM
    | with_reducible apply Kept.foldl | split

theorem State.handOver_kept (hM : MemClosed M) (s : State) (k) (hs : Kept M p n f o s) : Kept M p n f o (State.handOver s k) := by
  unfold State.handOver
  repeat' first
    | with_reducible assumption | with_reducible apply State.takeover_kept hM | with_reducible apply State.modFw_kept | split

theorem State.compFails_kept (hM : MemClosed M) (s : State) (k addr) (hs : Kept M p n f o s) : Kept M p n f o (State.compFails s k addr) := by
  unfold State.compFails
  repeat' first
    | with_reducible assumption | with_reducible apply State.raiseSv_kept hM | with_reducible apply State.handOver_kept hM
    | with_reducible apply State.modFw_kept | dsimp only | split

theorem State.dogBites_kept (hM : MemClosed M) (s : State) (kind n0) (hs : Kept M p n f o s) : Kept M p n f o (State.dogBites s kind n0).1 := by
  unfold State.dogBites
  repeat' first
    | with_reducible assumption | with_reducible apply State.modFw_kept

theorem State.startRunOf_kept (hM : MemClosed M) (s : State) (r) (hs : Kept M p n f o s) : Kept M p n f o (State.startRunOf s r) := by
  unfold State.startRunOf
  repeat' first
    | with_reducible assumption | with_reducible apply State.modDiag_kept

theorem State.loopback_kept (hM : MemClosed M) (s : State) (ep w) (hs : Kept M p n f o s) : Kept M p n f o (State.loopback s ep w).2 := by
  unfold State.loopback
  repeat' first
    | with_reducible assumption | with_reducible apply State.startRunOf_kept hM | with_reducible apply State.setObj_kept hM
    | with_reducible apply State.levLoopback_kept hM | with_reducible apply State.estLoopback_kept hM | with_reducible apply State.primaryLost_kept hM
    | with_reducible apply State.modTen_kept | with_reducible apply State.modHosts_kept | dsimp only | split

theorem State.sramTest_kept (hM : MemClosed M) (s : State) (x) (hs : Kept M p n f o s) : Kept M p n f o (State.sramTest s x).2 := by
  unfold State.sramTest
  repeat' first
    | with_reducible assumption | with_reducible apply State.startRunOf_kept hM | with_reducible apply State.setObj_kept hM | split

theorem State.stackTest_kept (hM : MemClosed M) (s : State) (w) (hs : Kept M p n f o s) : Kept M p n f o (State.stackTest s w).2 := by
  unfold State.stackTest
  repeat' first
    | with_reducible assumption | intro _ | with_reducible apply State.modStk_kept hM | with_reducible apply State.startRunOf_kept hM
    | with_reducible apply State.setObj_kept hM | dsimp only | split

theorem State.clearLog_kept (hM : MemClosed M) (s : State) (hs : Kept M p n f o s) : Kept M p n f o (State.clearLog s) := by
  unfold State.clearLog
  repeat' first
    | with_reducible assumption | with_reducible apply State.raiseAs_kept hM | with_reducible apply State.modLog_kept

theorem State.setObjs_kept (hM : MemClosed M) (s : State) (i vs) (hs : Kept M p n f o s) : Kept M p n f o (State.setObjs s i vs) := by
  unfold State.setObjs
  repeat' first
    | with_reducible assumption | intro _ | with_reducible apply State.setObj_kept hM | with_reducible apply Kept.foldl

theorem State.restoreObjects_kept (hM : MemClosed M) (s : State) (hs : Kept M p n f o s) : Kept M p n f o (State.restoreObjects s) := by
  unfold State.restoreObjects
  repeat' first
    | with_reducible assumption | with_reducible apply State.modHosts_kept | with_reducible apply State.modBoot_kept | split

theorem State.takeRecord_kept (hM : MemClosed M) (s : State) (bs) (hs : Kept M p n f o s) : Kept M p n f o (State.takeRecord s bs).2 := by
  unfold State.takeRecord
  repeat' first
    | with_reducible assumption | with_reducible apply State.modCnf_kept | with_reducible apply State.setDom_kept hM | split

theorem State.openPairs_kept (hM : MemClosed M) (s : State) (hs : Kept M p n f o s) : Kept M p n f o (State.openPairs s) := by
  unfold State.openPairs
  repeat' first
    | with_reducible assumption | intro _ | with_reducible apply State.oxbowOpen_kept hM | with_reducible apply State.modLarre_kept
    | with_reducible apply Kept.foldl

theorem State.writeElements_kept (hM : MemClosed M) (s : State) (ep i vs fails data) (hs : Kept M p n f o s) :
    Kept M p n f o (State.writeElements s ep i vs fails data).2 := by
  unfold State.writeElements
  repeat' first
    | with_reducible assumption | intro _ | with_reducible apply State.setObjs_kept hM | with_reducible apply State.restoreObjects_kept hM
    | with_reducible apply State.overrideWrite_kept hM | with_reducible apply State.retarget_kept hM
    | with_reducible apply State.reserveActivate_kept hM | with_reducible apply State.destroyBy_kept hM
    | with_reducible apply State.shapeTenant_kept hM | with_reducible apply State.askHalt_kept hM | with_reducible apply State.nextRun_kept hM
    | with_reducible apply State.releaseHeld_kept hM | with_reducible apply State.openPairs_kept hM | with_reducible apply State.larreArm_kept hM
    | with_reducible apply State.setObj_kept hM | with_reducible apply State.larreRetire_kept hM | with_reducible apply State.calendarArm_kept hM
    | with_reducible apply State.timeStep_kept hM | with_reducible apply State.armClose_kept hM | with_reducible apply State.modCnf_kept
    | with_reducible apply State.askVote_kept hM | with_reducible apply State.modPwr_kept | with_reducible apply State.modCtg_kept
    | with_reducible apply State.selfTest_kept hM | with_reducible apply State.zeroize_kept hM | with_reducible apply State.endLife_kept hM
    | with_reducible apply State.anchorRevoke_kept hM | with_reducible apply State.clearLog_kept hM | with_reducible apply State.loopback_kept hM
    | with_reducible apply State.sramTest_kept hM | with_reducible apply State.stackTest_kept hM | with_reducible apply Kept.foldl | dsimp only
    | split

theorem State.writeAnchors_kept (hM : MemClosed M) (s : State) (sub bs) (hs : Kept M p n f o s) : Kept M p n f o (State.writeAnchors s sub bs).2 := by
  unfold State.writeAnchors
  repeat' first
    | with_reducible assumption | intro _ | with_reducible apply State.anchorWrite_kept hM | with_reducible apply Kept.foldl | split

theorem State.writeDomain_kept (hM : MemClosed M) (s : State) (ep i sub bs) (hs : Kept M p n f o s) :
    Kept M p n f o (State.writeDomain s ep i sub bs).2 := by
  unfold State.writeDomain
  repeat' first
    | with_reducible assumption | with_reducible apply State.commitImage_kept hM | with_reducible apply State.createChannel_kept hM
    | with_reducible apply State.partWrite_kept hM | with_reducible apply State.plotChange_kept hM | with_reducible apply State.larreTable_kept hM
    | with_reducible apply State.setDom_kept hM | with_reducible apply State.calendarLoad_kept hM | with_reducible apply State.takeRecord_kept hM
    | with_reducible apply State.modCnf_kept | with_reducible apply State.writeAnchors_kept hM | dsimp only | split

theorem State.objWrite_kept (hM : MemClosed M) (s : State) (ep d sub bs fails data) (hs : Kept M p n f o s) :
    Kept M p n f o (State.objWrite s ep d sub bs fails data).2 := by
  unfold State.objWrite
  repeat' first
    | with_reducible assumption | with_reducible apply State.writeDomain_kept hM | with_reducible apply State.writeElements_kept hM | dsimp only
    | split

theorem State.purge_kept (hM : MemClosed M) (s : State) (hs : Kept M p n f o s) : Kept M p n f o (State.purge s) := by
  unfold State.purge
  repeat' first
    | with_reducible assumption | with_reducible apply State.modLgd_kept

theorem State.answer_kept (hM : MemClosed M) (s : State) (op h0 r) (hs : Kept M p n f o s) : Kept M p n f o (State.answer s op h0 r) := by
  unfold State.answer
  repeat' first
    | with_reducible assumption | with_reducible apply State.emit_kept

theorem State.refuseLap_kept (hM : MemClosed M) (s : State) (op h0 st) (hs : Kept M p n f o s) : Kept M p n f o (State.refuseLap s op h0 st) := by
  unfold State.refuseLap; with_reducible apply State.answer_kept hM; assumption

theorem State.keepReply_kept (hM : MemClosed M) (s : State) (op h0 r) (hs : Kept M p n f o s) : Kept M p n f o (State.keepReply s op h0 r) := by
  unfold State.keepReply
  repeat' first
    | with_reducible assumption | with_reducible apply State.modLgd_kept | dsimp only | split

theorem State.inLap_kept (hM : MemClosed M) (s : State) (op : Nat) (h : LapHdr) (g : Sess → State → Reply × State) (hs : Kept M p n f o s)
    (hg : ∀ x s, Kept M p n f o s → Kept M p n f o (g x s).2) : Kept M p n f o (s.inLap op h g) := by
  unfold State.inLap
  repeat' first
    | with_reducible assumption
    | intro _
    | with_reducible apply hg
    | with_reducible apply State.purge_kept hM
    | with_reducible apply State.answer_kept hM
    | with_reducible apply State.refuseLap_kept hM
    | with_reducible apply State.keepReply_kept hM
    | with_reducible apply State.modLgd_kept
    | with_reducible apply State.emit_kept
    | with_reducible apply Kept.ite
    | with_reducible apply Kept.iteSnd
    | dsimp only
    | split

theorem State.sessionless_kept (hM : MemClosed M) (s : State) (op : Nat) (h : LapHdr) (g : State → Reply × State) (hs : Kept M p n f o s)
    (hg : ∀ s, Kept M p n f o s → Kept M p n f o (g s).2) : Kept M p n f o (s.sessionless op h g) := by
  unfold State.sessionless
  repeat' first
    | with_reducible assumption
    | intro _
    | with_reducible apply hg
    | with_reducible apply State.purge_kept hM
    | with_reducible apply State.answer_kept hM
    | with_reducible apply State.refuseLap_kept hM
    | with_reducible apply State.keepReply_kept hM
    | with_reducible apply State.emit_kept
    | with_reducible apply Kept.ite

theorem State.anyLap_kept (hM : MemClosed M) (s : State) (op : Nat) (h : LapHdr) (g : Option Sess → State → Reply × State) (hs : Kept M p n f o s)
    (hg : ∀ x s, Kept M p n f o s → Kept M p n f o (g x s).2) : Kept M p n f o (s.anyLap op h g) := by
  unfold State.anyLap
  with_reducible exact Kept.ite (fun _ => State.sessionless_kept hM _ _ _ _ hs fun s hs => hg _ _ hs) fun _ =>
    State.inLap_kept hM _ _ _ _ hs fun x s hs => hg _ _ hs

theorem State.lapWrite_kept (hM : MemClosed M) (s : State) (h0 x bs fails data) (hs : Kept M p n f o s) :
    Kept M p n f o (State.lapWrite s h0 x bs fails data).2 := by
  unfold State.lapWrite
  repeat' first
    | with_reducible assumption | with_reducible apply State.objWrite_kept hM | split

theorem State.openXfer_kept (hM : MemClosed M) (s : State) (x f0) (hs : Kept M p n f o s) : Kept M p n f o (State.openXfer s x f0).2 := by
  unfold State.openXfer
  repeat' first
    | with_reducible assumption | with_reducible apply State.modLgd_kept | split

theorem State.putXfer_kept (hM : MemClosed M) (s : State) (n0 y) (hs : Kept M p n f o s) : Kept M p n f o (State.putXfer s n0 y) := by
  unfold State.putXfer
  repeat' first
    | with_reducible assumption | with_reducible apply State.modLgd_kept

theorem State.lapOpen_kept (hM : MemClosed M) (s : State) (h0 level flags spdm timeout) (hs : Kept M p n f o s) :
    Kept M p n f o (State.lapOpen s h0 level flags spdm timeout).2 := by
  unfold State.lapOpen
  repeat' first
    | with_reducible assumption | with_reducible apply State.closeSessions_kept hM | with_reducible apply State.modLgd_kept | dsimp only | split

theorem State.writeRoutes_kept (hM : MemClosed M) (s : State) (site e multi off v) (hs : Kept M p n f o s) :
    Kept M p n f o (State.writeRoutes s site e multi off v) := by
  unfold State.writeRoutes
  repeat' first
    | with_reducible assumption | with_reducible apply State.modDelta_kept | dsimp only | split

theorem State.writeLarreTable_kept (hM : MemClosed M) (s : State) (e off v) (hs : Kept M p n f o s) :
    Kept M p n f o (State.writeLarreTable s e off v) := by
  unfold State.writeLarreTable
  repeat' first
    | with_reducible assumption | with_reducible apply State.modLarre_kept | split

theorem State.writeLev_kept (hM : MemClosed M) (s : State) (unit) (j) (off) (v) (ctl) (hs : Kept M p n f o s) :
    Kept M p n f o (State.writeLev s unit j off v ctl) := by
  unfold State.writeLev
  repeat' first
    | with_reducible assumption | intro _ | with_reducible apply Stack.write_mem hM | with_reducible apply State.modBrd_kept hM
    | with_reducible apply State.watchLow_kept hM | with_reducible apply State.levLoopback_kept hM | dsimp only | split

theorem State.writeLarreSwitch_kept (hM : MemClosed M) (s : State) (v) (hs : Kept M p n f o s) :
    Kept M p n f o (State.writeLarreSwitch s v) := by
  unfold State.writeLarreSwitch
  repeat' first
    | with_reducible assumption | intro _ | with_reducible apply State.modLarre_kept | dsimp only | split

theorem State.writeSite_kept (hM : MemClosed M) (s : State) (x) (off) (v) (ctl) (hs : Kept M p n f o s) :
    Kept M p n f o (State.writeSite s x off v ctl) := by
  unfold State.writeSite
  repeat' first
    | with_reducible assumption | intro _ | with_reducible apply csrWrite_mem hM | with_reducible apply Stack.write_mem hM
    | with_reducible apply State.modCl_kept hM | with_reducible apply State.modDie_kept hM | with_reducible apply State.writeRoutes_kept hM
    | with_reducible apply State.writeLarreTable_kept hM | with_reducible apply State.writeLev_kept hM
    | with_reducible apply State.writeLarreSwitch_kept hM | with_reducible apply State.modDelta_kept | with_reducible apply State.modMer_kept
    | with_reducible apply State.modPwr_kept | with_reducible apply State.modClk_kept | with_reducible apply Kept.ite | dsimp only

theorem State.stkWrite_kept (hM : MemClosed M) (s : State) (k q v : Nat) (ctl : Writer) (hs : Kept M p n f o s) :
    Kept M p n f o (s.modStk k fun x => x.write q v ctl) :=
  State.modStk_kept hM hs fun x hx => Stack.write_mem hM x q v ctl hx

theorem State.writeStack_kept (hM : MemClosed M) (s : State) (k off v : Nat) (ctl : Writer) (hs : Kept M p n f o s) :
    Kept M p n f o (State.writeStack s k off v ctl) := by
  unfold State.writeStack
  split
  · exact State.stkWrite_kept hM s k (off - 0x800000) v ctl hs
  · split
    · with_reducible exact State.writeLev_kept hM _ _ _ _ _ _ hs
    · split
      · with_reducible exact State.modMer_kept hs
      · exact hs

theorem State.writeCnf_kept (hM : MemClosed M) (s : State) (off v) (hs : Kept M p n f o s) : Kept M p n f o (State.writeCnf s off v) := by
  unfold State.writeCnf
  repeat' first
    | with_reducible assumption | with_reducible apply State.askVote_kept hM | with_reducible apply State.fence_kept hM
    | with_reducible apply State.armClose_kept hM | with_reducible apply State.modCnf_kept | split

theorem State.writeSurveyor_kept (hM : MemClosed M) (s : State) (i) (off) (v) (ctl) (hs : Kept M p n f o s) :
    Kept M p n f o (State.writeSurveyor s i off v ctl) := by
  unfold State.writeSurveyor
  repeat' first
    | with_reducible assumption | intro _ | with_reducible apply Stack.write_mem hM | with_reducible apply State.modUnit_kept hM
    | with_reducible apply State.writeCnf_kept hM | with_reducible apply State.modCtg_kept | with_reducible apply State.modPwr_kept
    | with_reducible apply State.modClk_kept | dsimp only | split

theorem State.writeHost_kept (hM : MemClosed M) (s : State) (p0 off v) (hs : Kept M p n f o s) : Kept M p n f o (State.writeHost s p0 off v) := by
  unfold State.writeHost
  repeat' first
    | with_reducible assumption | intro _ | with_reducible apply Stack.write_mem hM | with_reducible apply State.modDie_kept hM
    | with_reducible apply State.askHalt_kept hM | with_reducible apply State.modMer_kept | with_reducible apply State.modHosts_kept | dsimp only
    | split

theorem State.writeEngine_kept (hM : MemClosed M) (s : State) (n0) (off) (v) (ctl) (hs : Kept M p n f o s) :
    Kept M p n f o (State.writeEngine s n0 off v ctl) := by
  unfold State.writeEngine
  repeat' first
    | with_reducible assumption | intro _ | with_reducible apply Stack.write_mem hM | with_reducible apply State.oxbowOpen_kept hM
    | with_reducible apply State.estLoopback_kept hM | with_reducible apply State.calendarArm_kept hM
    | with_reducible apply State.writeLarreSwitch_kept hM | with_reducible apply State.modLarre_kept | with_reducible apply State.modMer_kept
    | dsimp only | split

theorem State.writeRegister_kept (hM : MemClosed M) (s : State) (unit) (off) (v) (ctl) (hs : Kept M p n f o s) :
    Kept M p n f o (State.writeRegister s unit off v ctl) := by
  unfold State.writeRegister
  repeat' first
    | with_reducible assumption | intro _ | with_reducible apply State.writeLarreTable_kept hM | with_reducible apply State.writeSite_kept hM
    | with_reducible apply State.writeStack_kept hM | with_reducible apply State.writeSurveyor_kept hM
    | with_reducible apply State.writeHost_kept hM | with_reducible apply State.writeEngine_kept hM | dsimp only | split

theorem State.gazEvent_kept (hM : MemClosed M) (s : State) (e) (hs : Kept M p n f o s) :
    Kept M p n f o (State.gazEvent s e) := by
  unfold State.gazEvent
  repeat' first
    | with_reducible assumption | intro _ | with_reducible apply State.applyGaz_kept hM | with_reducible apply State.retireUnit_kept hM
    | with_reducible apply State.loseLane_kept hM | with_reducible apply State.setCl_kept | with_reducible apply State.emit_kept
    | with_reducible apply Kept.cl hM | dsimp only | split

theorem State.told_kept (hM : MemClosed M) (s : State) (unit : Nat) (r : FCode × State) (hs : Kept M p n f o s) (hr : Kept M p n f o r.2) :
    Kept M p n f o (State.told s unit r) := by
  unfold State.told
  split
  · exact hr
  · exact State.emit_kept hs

theorem State.activationEnds_kept (hM : MemClosed M) (s : State) (a) (hs : Kept M p n f o s) :
    Kept M p n f o (State.activationEnds s a) := by
  unfold State.activationEnds
  repeat' first
    | with_reducible assumption | intro _ | with_reducible apply Cluster.kept_mem hM | with_reducible apply Stack.kept_mem hM
    | with_reducible apply State.modGaz_kept | with_reducible apply State.modPwr_kept | with_reducible apply State.setCl_kept
    | with_reducible apply Kept.cl hM | with_reducible apply Kept.foldl | with_reducible apply Kept.foldlFst | with_reducible apply Kept.foldlSnd
    | dsimp only | split

end Sys2Proof.Machine
end

