-- ==== Sys2Proof/Laws/KeptCommands.lean ====
section
/-!
SUPPORT. What every command keeps.
-/
namespace Sys2Proof.Machine

variable {M : List Host.Cell → Prop} {p : List Instr} {n f : Nat} {o : List Msg}

theorem execMma_kept (hM : MemClosed M) (c ta tb accb opens km1) (s : State) (hs : Kept M p n f o s) :
    KeptAns M p n f o (execMma c ta tb accb opens km1 s) := by
  unfold execMma; with_reducible apply Kept.ans; with_reducible apply matrixRow_kept hM; assumption

theorem execMread_kept (hM : MemClosed M) (c td accb) (s : State) (hs : Kept M p n f o s) : KeptAns M p n f o (execMread c td accb s) := by
  unfold execMread; with_reducible apply Kept.ans; with_reducible apply matrixRow_kept hM; assumption

theorem execMspill_kept (hM : MemClosed M) (c td accb cut) (s : State) (hs : Kept M p n f o s) : KeptAns M p n f o (execMspill c td accb cut s) := by
  unfold execMspill; with_reducible apply Kept.ans; with_reducible apply matrixRow_kept hM; assumption

theorem execMcomb_kept (hM : MemClosed M) (c td accb cut cutself) (s : State) (hs : Kept M p n f o s) :
    KeptAns M p n f o (execMcomb c td accb cut cutself s) := by
  unfold execMcomb; with_reducible apply Kept.ans; with_reducible apply matrixRow_kept hM; assumption

theorem execMmaFirstKstep_kept (hM : MemClosed M) (c) (s : State) (hs : Kept M p n f o s) : KeptAns M p n f o (execMmaFirstKstep c s) := by
  unfold execMmaFirstKstep
  repeat' first
    | with_reducible assumption | intro _ | with_reducible apply State.modCl_kept hM | with_reducible apply Kept.ans | split

theorem execMmaLastKstep_kept (hM : MemClosed M) (c) (s : State) (hs : Kept M p n f o s) : KeptAns M p n f o (execMmaLastKstep c s) := by
  unfold execMmaLastKstep
  repeat' first
    | with_reducible assumption | intro _ | with_reducible apply Cluster.finishMma_mem hM | with_reducible apply State.modCl_kept hM
    | with_reducible apply Kept.cl hM | with_reducible apply Kept.ans | dsimp only | split

theorem execReadoutStart_kept (hM : MemClosed M) (c) (s : State) (hs : Kept M p n f o s) : KeptAns M p n f o (execReadoutStart c s) := by
  unfold execReadoutStart
  repeat' first
    | with_reducible assumption | intro _ | with_reducible apply State.modCl_kept hM | with_reducible apply Kept.ans | split

theorem execReadoutComplete_kept (hM : MemClosed M) (c) (s : State) (hs : Kept M p n f o s) : KeptAns M p n f o (execReadoutComplete c s) := by
  unfold execReadoutComplete
  repeat' first
    | with_reducible assumption | intro _ | with_reducible apply Cluster.finishRo_mem hM | with_reducible apply State.modCl_kept hM
    | with_reducible apply Kept.cl hM | with_reducible apply Kept.ans | dsimp only | split

theorem execMxeCeilRead_kept (hM : MemClosed M) (c) (s : State) (hs : Kept M p n f o s) : KeptAns M p n f o (execMxeCeilRead c s) := by
  unfold execMxeCeilRead
  repeat' first
    | with_reducible assumption | intro _ | with_reducible apply State.modCl_kept hM | with_reducible apply Kept.ans

theorem vecRow_kept (hM : MemClosed M) (vop c vd vs m count) (s : State) (hs : Kept M p n f o s) :
    KeptAns M p n f o (vecRow vop c vd vs m count s) := by
  unfold vecRow; with_reducible apply Kept.ans; with_reducible apply vectorWord_kept hM; assumption

theorem execVaddF_kept (hM : MemClosed M) (c vd vs m count) (s : State) (hs : Kept M p n f o s) :
    KeptAns M p n f o (execVaddF c vd vs m count s) := by
  unfold execVaddF; with_reducible apply vecRow_kept hM; assumption

theorem execVsubF_kept (hM : MemClosed M) (c vd vs m count) (s : State) (hs : Kept M p n f o s) :
    KeptAns M p n f o (execVsubF c vd vs m count s) := by
  unfold execVsubF; with_reducible apply vecRow_kept hM; assumption

theorem execVmulF_kept (hM : MemClosed M) (c vd vs m count) (s : State) (hs : Kept M p n f o s) :
    KeptAns M p n f o (execVmulF c vd vs m count s) := by
  unfold execVmulF; with_reducible apply vecRow_kept hM; assumption

theorem execVminF_kept (hM : MemClosed M) (c vd vs m count) (s : State) (hs : Kept M p n f o s) :
    KeptAns M p n f o (execVminF c vd vs m count s) := by
  unfold execVminF; with_reducible apply vecRow_kept hM; assumption

theorem execVmaxF_kept (hM : MemClosed M) (c vd vs m count) (s : State) (hs : Kept M p n f o s) :
    KeptAns M p n f o (execVmaxF c vd vs m count s) := by
  unfold execVmaxF; with_reducible apply vecRow_kept hM; assumption

theorem execVaddH_kept (hM : MemClosed M) (c vd vs m count) (s : State) (hs : Kept M p n f o s) :
    KeptAns M p n f o (execVaddH c vd vs m count s) := by
  unfold execVaddH; with_reducible apply vecRow_kept hM; assumption

theorem execVsubH_kept (hM : MemClosed M) (c vd vs m count) (s : State) (hs : Kept M p n f o s) :
    KeptAns M p n f o (execVsubH c vd vs m count s) := by
  unfold execVsubH; with_reducible apply vecRow_kept hM; assumption

theorem execVmulH_kept (hM : MemClosed M) (c vd vs m count) (s : State) (hs : Kept M p n f o s) :
    KeptAns M p n f o (execVmulH c vd vs m count s) := by
  unfold execVmulH; with_reducible apply vecRow_kept hM; assumption

theorem execVminH_kept (hM : MemClosed M) (c vd vs m count) (s : State) (hs : Kept M p n f o s) :
    KeptAns M p n f o (execVminH c vd vs m count s) := by
  unfold execVminH; with_reducible apply vecRow_kept hM; assumption

theorem execVmaxH_kept (hM : MemClosed M) (c vd vs m count) (s : State) (hs : Kept M p n f o s) :
    KeptAns M p n f o (execVmaxH c vd vs m count s) := by
  unfold execVmaxH; with_reducible apply vecRow_kept hM; assumption

theorem execVfmaF_kept (hM : MemClosed M) (c vd vs m count) (s : State) (hs : Kept M p n f o s) :
    KeptAns M p n f o (execVfmaF c vd vs m count s) := by
  unfold execVfmaF; with_reducible apply vecRow_kept hM; assumption

theorem execVfmaH_kept (hM : MemClosed M) (c vd vs m count) (s : State) (hs : Kept M p n f o s) :
    KeptAns M p n f o (execVfmaH c vd vs m count s) := by
  unfold execVfmaH; with_reducible apply vecRow_kept hM; assumption

theorem execVcvtF32ToBf16_kept (hM : MemClosed M) (c vd vs m count) (s : State) (hs : Kept M p n f o s) :
    KeptAns M p n f o (execVcvtF32ToBf16 c vd vs m count s) := by
  unfold execVcvtF32ToBf16; with_reducible apply vecRow_kept hM; assumption

theorem execVcvtBf16ToF32_kept (hM : MemClosed M) (c vd vs m count) (s : State) (hs : Kept M p n f o s) :
    KeptAns M p n f o (execVcvtBf16ToF32 c vd vs m count s) := by
  unfold execVcvtBf16ToF32; with_reducible apply vecRow_kept hM; assumption

theorem execVcvtF32ToF16_kept (hM : MemClosed M) (c vd vs m count) (s : State) (hs : Kept M p n f o s) :
    KeptAns M p n f o (execVcvtF32ToF16 c vd vs m count s) := by
  unfold execVcvtF32ToF16; with_reducible apply vecRow_kept hM; assumption

theorem execVcvtF16ToF32_kept (hM : MemClosed M) (c vd vs m count) (s : State) (hs : Kept M p n f o s) :
    KeptAns M p n f o (execVcvtF16ToF32 c vd vs m count s) := by
  unfold execVcvtF16ToF32; with_reducible apply vecRow_kept hM; assumption

theorem execViadd_kept (hM : MemClosed M) (c vd vs m count) (s : State) (hs : Kept M p n f o s) :
    KeptAns M p n f o (execViadd c vd vs m count s) := by
  unfold execViadd; with_reducible apply vecRow_kept hM; assumption

theorem execVisub_kept (hM : MemClosed M) (c vd vs m count) (s : State) (hs : Kept M p n f o s) :
    KeptAns M p n f o (execVisub c vd vs m count s) := by
  unfold execVisub; with_reducible apply vecRow_kept hM; assumption

theorem execVand_kept (hM : MemClosed M) (c vd vs m count) (s : State) (hs : Kept M p n f o s) : KeptAns M p n f o (execVand c vd vs m count s) := by
  unfold execVand; with_reducible apply vecRow_kept hM; assumption

theorem execVor_kept (hM : MemClosed M) (c vd vs m count) (s : State) (hs : Kept M p n f o s) : KeptAns M p n f o (execVor c vd vs m count s) := by
  unfold execVor; with_reducible apply vecRow_kept hM; assumption

theorem execVxor_kept (hM : MemClosed M) (c vd vs m count) (s : State) (hs : Kept M p n f o s) : KeptAns M p n f o (execVxor c vd vs m count s) := by
  unfold execVxor; with_reducible apply vecRow_kept hM; assumption

theorem execVshl_kept (hM : MemClosed M) (c vd vs m count) (s : State) (hs : Kept M p n f o s) : KeptAns M p n f o (execVshl c vd vs m count s) := by
  unfold execVshl; with_reducible apply vecRow_kept hM; assumption

theorem execVshr_kept (hM : MemClosed M) (c vd vs m count) (s : State) (hs : Kept M p n f o s) : KeptAns M p n f o (execVshr c vd vs m count s) := by
  unfold execVshr; with_reducible apply vecRow_kept hM; assumption

theorem execVsra_kept (hM : MemClosed M) (c vd vs m count) (s : State) (hs : Kept M p n f o s) : KeptAns M p n f o (execVsra c vd vs m count s) := by
  unfold execVsra; with_reducible apply vecRow_kept hM; assumption

theorem execVcmpEqF_kept (hM : MemClosed M) (c vd vs m count) (s : State) (hs : Kept M p n f o s) :
    KeptAns M p n f o (execVcmpEqF c vd vs m count s) := by
  unfold execVcmpEqF; with_reducible apply vecRow_kept hM; assumption

theorem execVcmpNeF_kept (hM : MemClosed M) (c vd vs m count) (s : State) (hs : Kept M p n f o s) :
    KeptAns M p n f o (execVcmpNeF c vd vs m count s) := by
  unfold execVcmpNeF; with_reducible apply vecRow_kept hM; assumption

theorem execVcmpLtF_kept (hM : MemClosed M) (c vd vs m count) (s : State) (hs : Kept M p n f o s) :
    KeptAns M p n f o (execVcmpLtF c vd vs m count s) := by
  unfold execVcmpLtF; with_reducible apply vecRow_kept hM; assumption

theorem execVcmpLeF_kept (hM : MemClosed M) (c vd vs m count) (s : State) (hs : Kept M p n f o s) :
    KeptAns M p n f o (execVcmpLeF c vd vs m count s) := by
  unfold execVcmpLeF; with_reducible apply vecRow_kept hM; assumption

theorem execVcmpEqH_kept (hM : MemClosed M) (c vd vs m count) (s : State) (hs : Kept M p n f o s) :
    KeptAns M p n f o (execVcmpEqH c vd vs m count s) := by
  unfold execVcmpEqH; with_reducible apply vecRow_kept hM; assumption

theorem execVcmpNeH_kept (hM : MemClosed M) (c vd vs m count) (s : State) (hs : Kept M p n f o s) :
    KeptAns M p n f o (execVcmpNeH c vd vs m count s) := by
  unfold execVcmpNeH; with_reducible apply vecRow_kept hM; assumption

theorem execVcmpLtH_kept (hM : MemClosed M) (c vd vs m count) (s : State) (hs : Kept M p n f o s) :
    KeptAns M p n f o (execVcmpLtH c vd vs m count s) := by
  unfold execVcmpLtH; with_reducible apply vecRow_kept hM; assumption

theorem execVcmpLeH_kept (hM : MemClosed M) (c vd vs m count) (s : State) (hs : Kept M p n f o s) :
    KeptAns M p n f o (execVcmpLeH c vd vs m count s) := by
  unfold execVcmpLeH; with_reducible apply vecRow_kept hM; assumption

theorem execVcmpEqI_kept (hM : MemClosed M) (c vd vs m count) (s : State) (hs : Kept M p n f o s) :
    KeptAns M p n f o (execVcmpEqI c vd vs m count s) := by
  unfold execVcmpEqI; with_reducible apply vecRow_kept hM; assumption

theorem execVcmpNeI_kept (hM : MemClosed M) (c vd vs m count) (s : State) (hs : Kept M p n f o s) :
    KeptAns M p n f o (execVcmpNeI c vd vs m count s) := by
  unfold execVcmpNeI; with_reducible apply vecRow_kept hM; assumption

theorem execVcmpLtI_kept (hM : MemClosed M) (c vd vs m count) (s : State) (hs : Kept M p n f o s) :
    KeptAns M p n f o (execVcmpLtI c vd vs m count s) := by
  unfold execVcmpLtI; with_reducible apply vecRow_kept hM; assumption

theorem execVcmpLeI_kept (hM : MemClosed M) (c vd vs m count) (s : State) (hs : Kept M p n f o s) :
    KeptAns M p n f o (execVcmpLeI c vd vs m count s) := by
  unfold execVcmpLeI; with_reducible apply vecRow_kept hM; assumption

theorem execVbcast_kept (hM : MemClosed M) (c vd vs m count) (s : State) (hs : Kept M p n f o s) :
    KeptAns M p n f o (execVbcast c vd vs m count s) := by
  unfold execVbcast; with_reducible apply vecRow_kept hM; assumption

theorem execVexp2F_kept (hM : MemClosed M) (c vd vs m count) (s : State) (hs : Kept M p n f o s) :
    KeptAns M p n f o (execVexp2F c vd vs m count s) := by
  unfold execVexp2F; with_reducible apply vecRow_kept hM; assumption

theorem execVlog2F_kept (hM : MemClosed M) (c vd vs m count) (s : State) (hs : Kept M p n f o s) :
    KeptAns M p n f o (execVlog2F c vd vs m count s) := by
  unfold execVlog2F; with_reducible apply vecRow_kept hM; assumption

theorem execVrcpF_kept (hM : MemClosed M) (c vd vs m count) (s : State) (hs : Kept M p n f o s) :
    KeptAns M p n f o (execVrcpF c vd vs m count s) := by
  unfold execVrcpF; with_reducible apply vecRow_kept hM; assumption

theorem execVrsqF_kept (hM : MemClosed M) (c vd vs m count) (s : State) (hs : Kept M p n f o s) :
    KeptAns M p n f o (execVrsqF c vd vs m count s) := by
  unfold execVrsqF; with_reducible apply vecRow_kept hM; assumption

theorem execVtanhF_kept (hM : MemClosed M) (c vd vs m count) (s : State) (hs : Kept M p n f o s) :
    KeptAns M p n f o (execVtanhF c vd vs m count s) := by
  unfold execVtanhF; with_reducible apply vecRow_kept hM; assumption

theorem execVsigF_kept (hM : MemClosed M) (c vd vs m count) (s : State) (hs : Kept M p n f o s) :
    KeptAns M p n f o (execVsigF c vd vs m count s) := by
  unfold execVsigF; with_reducible apply vecRow_kept hM; assumption

theorem execVexp2H_kept (hM : MemClosed M) (c vd vs m count) (s : State) (hs : Kept M p n f o s) :
    KeptAns M p n f o (execVexp2H c vd vs m count s) := by
  unfold execVexp2H; with_reducible apply vecRow_kept hM; assumption

theorem execVlog2H_kept (hM : MemClosed M) (c vd vs m count) (s : State) (hs : Kept M p n f o s) :
    KeptAns M p n f o (execVlog2H c vd vs m count s) := by
  unfold execVlog2H; with_reducible apply vecRow_kept hM; assumption

theorem execVrcpH_kept (hM : MemClosed M) (c vd vs m count) (s : State) (hs : Kept M p n f o s) :
    KeptAns M p n f o (execVrcpH c vd vs m count s) := by
  unfold execVrcpH; with_reducible apply vecRow_kept hM; assumption

theorem execVrsqH_kept (hM : MemClosed M) (c vd vs m count) (s : State) (hs : Kept M p n f o s) :
    KeptAns M p n f o (execVrsqH c vd vs m count s) := by
  unfold execVrsqH; with_reducible apply vecRow_kept hM; assumption

theorem execVtanhH_kept (hM : MemClosed M) (c vd vs m count) (s : State) (hs : Kept M p n f o s) :
    KeptAns M p n f o (execVtanhH c vd vs m count s) := by
  unfold execVtanhH; with_reducible apply vecRow_kept hM; assumption

theorem execVsigH_kept (hM : MemClosed M) (c vd vs m count) (s : State) (hs : Kept M p n f o s) :
    KeptAns M p n f o (execVsigH c vd vs m count s) := by
  unfold execVsigH; with_reducible apply vecRow_kept hM; assumption

theorem execVld_kept (hM : MemClosed M) (c vd vs m count) (s : State) (hs : Kept M p n f o s) : KeptAns M p n f o (execVld c vd vs m count s) := by
  unfold execVld; with_reducible apply vecRow_kept hM; assumption

theorem execVst_kept (hM : MemClosed M) (c vd vs m count) (s : State) (hs : Kept M p n f o s) : KeptAns M p n f o (execVst c vd vs m count s) := by
  unfold execVst; with_reducible apply vecRow_kept hM; assumption

theorem execVcompress_kept (hM : MemClosed M) (c vd vs m count) (s : State) (hs : Kept M p n f o s) :
    KeptAns M p n f o (execVcompress c vd vs m count s) := by
  unfold execVcompress; with_reducible apply vecRow_kept hM; assumption

theorem execVexpand_kept (hM : MemClosed M) (c vd vs m count) (s : State) (hs : Kept M p n f o s) :
    KeptAns M p n f o (execVexpand c vd vs m count s) := by
  unfold execVexpand; with_reducible apply vecRow_kept hM; assumption

theorem execVrsum_kept (hM : MemClosed M) (c vd vs m count) (s : State) (hs : Kept M p n f o s) :
    KeptAns M p n f o (execVrsum c vd vs m count s) := by
  unfold execVrsum; with_reducible apply vecRow_kept hM; assumption

theorem execVrsumOpen_kept (hM : MemClosed M) (c vd vs m count) (s : State) (hs : Kept M p n f o s) :
    KeptAns M p n f o (execVrsumOpen c vd vs m count s) := by
  unfold execVrsumOpen; with_reducible apply vecRow_kept hM; assumption

theorem execVrdot_kept (hM : MemClosed M) (c vd vs m count) (s : State) (hs : Kept M p n f o s) :
    KeptAns M p n f o (execVrdot c vd vs m count s) := by
  unfold execVrdot; with_reducible apply vecRow_kept hM; assumption

theorem execVrdotOpen_kept (hM : MemClosed M) (c vd vs m count) (s : State) (hs : Kept M p n f o s) :
    KeptAns M p n f o (execVrdotOpen c vd vs m count s) := by
  unfold execVrdotOpen; with_reducible apply vecRow_kept hM; assumption

theorem execVrout_kept (hM : MemClosed M) (c vd vs m count) (s : State) (hs : Kept M p n f o s) :
    KeptAns M p n f o (execVrout c vd vs m count s) := by
  unfold execVrout; with_reducible apply vecRow_kept hM; assumption

theorem execVrspill_kept (hM : MemClosed M) (c vd vs m count) (s : State) (hs : Kept M p n f o s) :
    KeptAns M p n f o (execVrspill c vd vs m count s) := by
  unfold execVrspill; with_reducible apply vecRow_kept hM; assumption

theorem execVrcomb_kept (hM : MemClosed M) (c vd vs m count) (s : State) (hs : Kept M p n f o s) :
    KeptAns M p n f o (execVrcomb c vd vs m count s) := by
  unfold execVrcomb; with_reducible apply vecRow_kept hM; assumption

theorem execVfsum_kept (hM : MemClosed M) (c vd vs m count) (s : State) (hs : Kept M p n f o s) :
    KeptAns M p n f o (execVfsum c vd vs m count s) := by
  unfold execVfsum; with_reducible apply vecRow_kept hM; assumption

theorem execVshst_kept (hM : MemClosed M) (c vd vs m count) (s : State) (hs : Kept M p n f o s) :
    KeptAns M p n f o (execVshst c vd vs m count s) := by
  unfold execVshst; with_reducible apply vecRow_kept hM; assumption

theorem execVshld_kept (hM : MemClosed M) (c vd vs m count) (s : State) (hs : Kept M p n f o s) :
    KeptAns M p n f o (execVshld c vd vs m count s) := by
  unfold execVshld; with_reducible apply vecRow_kept hM; assumption

theorem execVxBeatCommit_kept (hM : MemClosed M) (c) (s : State) (hs : Kept M p n f o s) : KeptAns M p n f o (execVxBeatCommit c s) := by
  unfold execVxBeatCommit
  repeat' first
    | with_reducible assumption | intro _ | with_reducible apply Cluster.commitBeat_mem hM | with_reducible apply State.modCl_kept hM
    | with_reducible apply Kept.cl hM | with_reducible apply Kept.ans | dsimp only | split

theorem execVxeCeilRead_kept (hM : MemClosed M) (c) (s : State) (hs : Kept M p n f o s) : KeptAns M p n f o (execVxeCeilRead c s) := by
  unfold execVxeCeilRead
  repeat' first
    | with_reducible assumption | intro _ | with_reducible apply State.modCl_kept hM | with_reducible apply Kept.ans

theorem scalarRow_kept (hM : MemClosed M) (ag w) (s : State) (hs : Kept M p n f o s) : KeptAns M p n f o (scalarRow ag w s) := by
  unfold scalarRow
  repeat' first
    | with_reducible assumption | with_reducible apply scalarWord_kept hM | with_reducible apply threadWord_kept hM | with_reducible apply Kept.ans
    | split

theorem execAdd_kept (hM : MemClosed M) (ag rd rs1 rs2) (s : State) (hs : Kept M p n f o s) : KeptAns M p n f o (execAdd ag rd rs1 rs2 s) := by
  unfold execAdd; with_reducible apply scalarRow_kept hM; assumption

theorem execSub_kept (hM : MemClosed M) (ag rd rs1 rs2) (s : State) (hs : Kept M p n f o s) : KeptAns M p n f o (execSub ag rd rs1 rs2 s) := by
  unfold execSub; with_reducible apply scalarRow_kept hM; assumption

theorem execAnd_kept (hM : MemClosed M) (ag rd rs1 rs2) (s : State) (hs : Kept M p n f o s) : KeptAns M p n f o (execAnd ag rd rs1 rs2 s) := by
  unfold execAnd; with_reducible apply scalarRow_kept hM; assumption

theorem execOr_kept (hM : MemClosed M) (ag rd rs1 rs2) (s : State) (hs : Kept M p n f o s) : KeptAns M p n f o (execOr ag rd rs1 rs2 s) := by
  unfold execOr; with_reducible apply scalarRow_kept hM; assumption

theorem execXor_kept (hM : MemClosed M) (ag rd rs1 rs2) (s : State) (hs : Kept M p n f o s) : KeptAns M p n f o (execXor ag rd rs1 rs2 s) := by
  unfold execXor; with_reducible apply scalarRow_kept hM; assumption

theorem execShl_kept (hM : MemClosed M) (ag rd rs1 rs2) (s : State) (hs : Kept M p n f o s) : KeptAns M p n f o (execShl ag rd rs1 rs2 s) := by
  unfold execShl; with_reducible apply scalarRow_kept hM; assumption

theorem execShr_kept (hM : MemClosed M) (ag rd rs1 rs2) (s : State) (hs : Kept M p n f o s) : KeptAns M p n f o (execShr ag rd rs1 rs2 s) := by
  unfold execShr; with_reducible apply scalarRow_kept hM; assumption

theorem execSra_kept (hM : MemClosed M) (ag rd rs1 rs2) (s : State) (hs : Kept M p n f o s) : KeptAns M p n f o (execSra ag rd rs1 rs2 s) := by
  unfold execSra; with_reducible apply scalarRow_kept hM; assumption

theorem execMul_kept (hM : MemClosed M) (ag rd rs1 rs2) (s : State) (hs : Kept M p n f o s) : KeptAns M p n f o (execMul ag rd rs1 rs2 s) := by
  unfold execMul; with_reducible apply scalarRow_kept hM; assumption

theorem execMulhu_kept (hM : MemClosed M) (ag rd rs1 rs2) (s : State) (hs : Kept M p n f o s) : KeptAns M p n f o (execMulhu ag rd rs1 rs2 s) := by
  unfold execMulhu; with_reducible apply scalarRow_kept hM; assumption

theorem execMin_kept (hM : MemClosed M) (ag rd rs1 rs2) (s : State) (hs : Kept M p n f o s) : KeptAns M p n f o (execMin ag rd rs1 rs2 s) := by
  unfold execMin; with_reducible apply scalarRow_kept hM; assumption

theorem execMax_kept (hM : MemClosed M) (ag rd rs1 rs2) (s : State) (hs : Kept M p n f o s) : KeptAns M p n f o (execMax ag rd rs1 rs2 s) := by
  unfold execMax; with_reducible apply scalarRow_kept hM; assumption

theorem execSlt_kept (hM : MemClosed M) (ag rd rs1 rs2) (s : State) (hs : Kept M p n f o s) : KeptAns M p n f o (execSlt ag rd rs1 rs2 s) := by
  unfold execSlt; with_reducible apply scalarRow_kept hM; assumption

theorem execSltu_kept (hM : MemClosed M) (ag rd rs1 rs2) (s : State) (hs : Kept M p n f o s) : KeptAns M p n f o (execSltu ag rd rs1 rs2 s) := by
  unfold execSltu; with_reducible apply scalarRow_kept hM; assumption

theorem execAddi_kept (hM : MemClosed M) (ag rd rs1 imm) (s : State) (hs : Kept M p n f o s) : KeptAns M p n f o (execAddi ag rd rs1 imm s) := by
  unfold execAddi; with_reducible apply scalarRow_kept hM; assumption

theorem execAndi_kept (hM : MemClosed M) (ag rd rs1 imm) (s : State) (hs : Kept M p n f o s) : KeptAns M p n f o (execAndi ag rd rs1 imm s) := by
  unfold execAndi; with_reducible apply scalarRow_kept hM; assumption

theorem execOri_kept (hM : MemClosed M) (ag rd rs1 imm) (s : State) (hs : Kept M p n f o s) : KeptAns M p n f o (execOri ag rd rs1 imm s) := by
  unfold execOri; with_reducible apply scalarRow_kept hM; assumption

theorem execXori_kept (hM : MemClosed M) (ag rd rs1 imm) (s : State) (hs : Kept M p n f o s) : KeptAns M p n f o (execXori ag rd rs1 imm s) := by
  unfold execXori; with_reducible apply scalarRow_kept hM; assumption

theorem execShli_kept (hM : MemClosed M) (ag rd rs1 imm) (s : State) (hs : Kept M p n f o s) : KeptAns M p n f o (execShli ag rd rs1 imm s) := by
  unfold execShli; with_reducible apply scalarRow_kept hM; assumption

theorem execShri_kept (hM : MemClosed M) (ag rd rs1 imm) (s : State) (hs : Kept M p n f o s) : KeptAns M p n f o (execShri ag rd rs1 imm s) := by
  unfold execShri; with_reducible apply scalarRow_kept hM; assumption

theorem execSrai_kept (hM : MemClosed M) (ag rd rs1 imm) (s : State) (hs : Kept M p n f o s) : KeptAns M p n f o (execSrai ag rd rs1 imm s) := by
  unfold execSrai; with_reducible apply scalarRow_kept hM; assumption

theorem execLih_kept (hM : MemClosed M) (ag rd imm) (s : State) (hs : Kept M p n f o s) : KeptAns M p n f o (execLih ag rd imm s) := by
  unfold execLih; with_reducible apply scalarRow_kept hM; assumption

theorem execFadd_kept (hM : MemClosed M) (ag rd rs1 rs2) (s : State) (hs : Kept M p n f o s) : KeptAns M p n f o (execFadd ag rd rs1 rs2 s) := by
  unfold execFadd; with_reducible apply scalarRow_kept hM; assumption

theorem execFsub_kept (hM : MemClosed M) (ag rd rs1 rs2) (s : State) (hs : Kept M p n f o s) : KeptAns M p n f o (execFsub ag rd rs1 rs2 s) := by
  unfold execFsub; with_reducible apply scalarRow_kept hM; assumption

theorem execFmul_kept (hM : MemClosed M) (ag rd rs1 rs2) (s : State) (hs : Kept M p n f o s) : KeptAns M p n f o (execFmul ag rd rs1 rs2 s) := by
  unfold execFmul; with_reducible apply scalarRow_kept hM; assumption

theorem execFmin_kept (hM : MemClosed M) (ag rd rs1 rs2) (s : State) (hs : Kept M p n f o s) : KeptAns M p n f o (execFmin ag rd rs1 rs2 s) := by
  unfold execFmin; with_reducible apply scalarRow_kept hM; assumption

theorem execFmax_kept (hM : MemClosed M) (ag rd rs1 rs2) (s : State) (hs : Kept M p n f o s) : KeptAns M p n f o (execFmax ag rd rs1 rs2 s) := by
  unfold execFmax; with_reducible apply scalarRow_kept hM; assumption

theorem execFcmplt_kept (hM : MemClosed M) (ag rd rs1 rs2) (s : State) (hs : Kept M p n f o s) : KeptAns M p n f o (execFcmplt ag rd rs1 rs2 s) := by
  unfold execFcmplt; with_reducible apply scalarRow_kept hM; assumption

theorem execFcmpeq_kept (hM : MemClosed M) (ag rd rs1 rs2) (s : State) (hs : Kept M p n f o s) : KeptAns M p n f o (execFcmpeq ag rd rs1 rs2 s) := by
  unfold execFcmpeq; with_reducible apply scalarRow_kept hM; assumption

theorem execFcvtif_kept (hM : MemClosed M) (ag rd rs1) (s : State) (hs : Kept M p n f o s) : KeptAns M p n f o (execFcvtif ag rd rs1 s) := by
  unfold execFcvtif; with_reducible apply scalarRow_kept hM; assumption

theorem execFcvtfi_kept (hM : MemClosed M) (ag rd rs1) (s : State) (hs : Kept M p n f o s) : KeptAns M p n f o (execFcvtfi ag rd rs1 s) := by
  unfold execFcvtfi; with_reducible apply scalarRow_kept hM; assumption

theorem execLd_kept (hM : MemClosed M) (ag rd rs1 imm) (s : State) (hs : Kept M p n f o s) : KeptAns M p n f o (execLd ag rd rs1 imm s) := by
  unfold execLd; with_reducible apply scalarRow_kept hM; assumption

theorem execSt_kept (hM : MemClosed M) (ag rd rs1 imm) (s : State) (hs : Kept M p n f o s) : KeptAns M p n f o (execSt ag rd rs1 imm s) := by
  unfold execSt; with_reducible apply scalarRow_kept hM; assumption

theorem execCsrr_kept (hM : MemClosed M) (c rd csr) (s : State) (hs : Kept M p n f o s) : KeptAns M p n f o (execCsrr c rd csr s) := by
  unfold execCsrr; with_reducible apply Kept.ans; with_reducible apply scalarWord_kept hM; assumption

theorem execCsrw_kept (hM : MemClosed M) (c rs1 csr) (s : State) (hs : Kept M p n f o s) : KeptAns M p n f o (execCsrw c rs1 csr s) := by
  unfold execCsrw; with_reducible apply Kept.ans; with_reducible apply scalarWord_kept hM; assumption

theorem execCsrs_kept (hM : MemClosed M) (c rs1 csr) (s : State) (hs : Kept M p n f o s) : KeptAns M p n f o (execCsrs c rs1 csr s) := by
  unfold execCsrs; with_reducible apply Kept.ans; with_reducible apply scalarWord_kept hM; assumption

theorem execCsrc_kept (hM : MemClosed M) (c rs1 csr) (s : State) (hs : Kept M p n f o s) : KeptAns M p n f o (execCsrc c rs1 csr s) := by
  unfold execCsrc; with_reducible apply Kept.ans; with_reducible apply scalarWord_kept hM; assumption

theorem execTdw_kept (hM : MemClosed M) (c td rs1 rs2) (s : State) (hs : Kept M p n f o s) : KeptAns M p n f o (execTdw c td rs1 rs2 s) := by
  unfold execTdw; with_reducible apply Kept.ans; with_reducible apply scalarWord_kept hM; assumption

theorem execTdrl_kept (hM : MemClosed M) (c rd td) (s : State) (hs : Kept M p n f o s) : KeptAns M p n f o (execTdrl c rd td s) := by
  unfold execTdrl; with_reducible apply Kept.ans; with_reducible apply scalarWord_kept hM; assumption

theorem execTdrh_kept (hM : MemClosed M) (c rd td) (s : State) (hs : Kept M p n f o s) : KeptAns M p n f o (execTdrh c rd td s) := by
  unfold execTdrh; with_reducible apply Kept.ans; with_reducible apply scalarWord_kept hM; assumption

theorem execJmp_kept (hM : MemClosed M) (ag off) (s : State) (hs : Kept M p n f o s) : KeptAns M p n f o (execJmp ag off s) := by
  unfold execJmp; with_reducible apply scalarRow_kept hM; assumption

theorem execLoop_kept (hM : MemClosed M) (ag rd imm) (s : State) (hs : Kept M p n f o s) : KeptAns M p n f o (execLoop ag rd imm s) := by
  unfold execLoop; with_reducible apply scalarRow_kept hM; assumption

theorem execSync_kept (hM : MemClosed M) (c rs1 rs2) (s : State) (hs : Kept M p n f o s) : KeptAns M p n f o (execSync c rs1 rs2 s) := by
  unfold execSync; with_reducible apply Kept.ans; with_reducible apply scalarWord_kept hM; assumption

theorem execWaitc_kept (hM : MemClosed M) (ag rs1) (s : State) (hs : Kept M p n f o s) : KeptAns M p n f o (execWaitc ag rs1 s) := by
  unfold execWaitc; with_reducible apply scalarRow_kept hM; assumption

theorem execTret_kept (hM : MemClosed M) (c) (s : State) (hs : Kept M p n f o s) : KeptAns M p n f o (execTret c s) := by
  unfold execTret; with_reducible apply Kept.ans; with_reducible apply scalarWord_kept hM; assumption

theorem execSqend_kept (hM : MemClosed M) (c) (s : State) (hs : Kept M p n f o s) : KeptAns M p n f o (execSqend c s) := by
  unfold execSqend; with_reducible apply Kept.ans; with_reducible apply scalarWord_kept hM; assumption

theorem execBeq_kept (hM : MemClosed M) (site t rd rs1 imm) (s : State) (hs : Kept M p n f o s) :
    KeptAns M p n f o (execBeq site t rd rs1 imm s) := by
  unfold execBeq; with_reducible apply Kept.ans; with_reducible apply threadWord_kept hM; assumption

theorem execBne_kept (hM : MemClosed M) (site t rd rs1 imm) (s : State) (hs : Kept M p n f o s) :
    KeptAns M p n f o (execBne site t rd rs1 imm s) := by
  unfold execBne; with_reducible apply Kept.ans; with_reducible apply threadWord_kept hM; assumption

theorem execBlt_kept (hM : MemClosed M) (site t rd rs1 imm) (s : State) (hs : Kept M p n f o s) :
    KeptAns M p n f o (execBlt site t rd rs1 imm s) := by
  unfold execBlt; with_reducible apply Kept.ans; with_reducible apply threadWord_kept hM; assumption

theorem execBge_kept (hM : MemClosed M) (site t rd rs1 imm) (s : State) (hs : Kept M p n f o s) :
    KeptAns M p n f o (execBge site t rd rs1 imm s) := by
  unfold execBge; with_reducible apply Kept.ans; with_reducible apply threadWord_kept hM; assumption

theorem execJr_kept (hM : MemClosed M) (site t rs1) (s : State) (hs : Kept M p n f o s) : KeptAns M p n f o (execJr site t rs1 s) := by
  unfold execJr; with_reducible apply Kept.ans; with_reducible apply threadWord_kept hM; assumption

theorem execLdx_kept (hM : MemClosed M) (site t rd rs1 size off) (s : State) (hs : Kept M p n f o s) :
    KeptAns M p n f o (execLdx site t rd rs1 size off s) := by
  unfold execLdx; with_reducible apply Kept.ans; with_reducible apply threadWord_kept hM; assumption

theorem execStx_kept (hM : MemClosed M) (site t rd rs1 size off) (s : State) (hs : Kept M p n f o s) :
    KeptAns M p n f o (execStx site t rd rs1 size off s) := by
  unfold execStx; with_reducible apply Kept.ans; with_reducible apply threadWord_kept hM; assumption

theorem execAmoadd_kept (hM : MemClosed M) (site t rd rs1 xs wide) (s : State) (hs : Kept M p n f o s) :
    KeptAns M p n f o (execAmoadd site t rd rs1 xs wide s) := by
  unfold execAmoadd; with_reducible apply Kept.ans; with_reducible apply threadWord_kept hM; assumption

theorem execAmomax_kept (hM : MemClosed M) (site t rd rs1 xs wide) (s : State) (hs : Kept M p n f o s) :
    KeptAns M p n f o (execAmomax site t rd rs1 xs wide s) := by
  unfold execAmomax; with_reducible apply Kept.ans; with_reducible apply threadWord_kept hM; assumption

theorem execCas_kept (hM : MemClosed M) (site t rd rs1 xs wide) (s : State) (hs : Kept M p n f o s) :
    KeptAns M p n f o (execCas site t rd rs1 xs wide s) := by
  unfold execCas; with_reducible apply Kept.ans; with_reducible apply threadWord_kept hM; assumption

theorem execSxfence_kept (hM : MemClosed M) (site t) (s : State) (hs : Kept M p n f o s) : KeptAns M p n f o (execSxfence site t s) := by
  unfold execSxfence; with_reducible apply Kept.ans; with_reducible apply threadWord_kept hM; assumption

theorem execGwait_kept (hM : MemClosed M) (site t rs1) (s : State) (hs : Kept M p n f o s) : KeptAns M p n f o (execGwait site t rs1 s) := by
  unfold execGwait; with_reducible apply Kept.ans; with_reducible apply threadWord_kept hM; assumption

theorem execSxdone_kept (hM : MemClosed M) (site t) (s : State) (hs : Kept M p n f o s) : KeptAns M p n f o (execSxdone site t s) := by
  unfold execSxdone; with_reducible apply Kept.ans; with_reducible apply threadWord_kept hM; assumption

theorem execSxThreadStart_kept (hM : MemClosed M) (site t) (s : State) (hs : Kept M p n f o s) : KeptAns M p n f o (execSxThreadStart site t s) := by
  unfold execSxThreadStart
  repeat' first
    | with_reducible assumption | intro _ | with_reducible apply State.modCl_kept hM | with_reducible apply Cluster.modThread_mem hM
    | with_reducible apply Kept.ans

theorem execSxThreadStop_kept (hM : MemClosed M) (site t) (s : State) (hs : Kept M p n f o s) : KeptAns M p n f o (execSxThreadStop site t s) := by
  unfold execSxThreadStop
  repeat' first
    | with_reducible assumption | intro _ | with_reducible apply State.modCl_kept hM | with_reducible apply Cluster.modThread_mem hM
    | with_reducible apply Kept.ans

theorem execStoreBufferDrain_kept (hM : MemClosed M) (ag) (s : State) (hs : Kept M p n f o s) : KeptAns M p n f o (execStoreBufferDrain ag s) := by
  unfold execStoreBufferDrain
  repeat' first
    | with_reducible assumption | intro _ | with_reducible apply State.modCl_kept hM | with_reducible apply Spd.drain_mem hM
    | with_reducible apply Cluster.stopAll_mem hM | with_reducible apply Cluster.modThread_mem hM | with_reducible apply Kept.ans | dsimp only | split

theorem execSequencerStart_kept (hM : MemClosed M) (c) (s : State) (hs : Kept M p n f o s) : KeptAns M p n f o (execSequencerStart c s) := by
  unfold execSequencerStart
  repeat' first
    | with_reducible assumption | intro _ | with_reducible apply State.modCl_kept hM | with_reducible apply Kept.ans

theorem execSequencerStop_kept (hM : MemClosed M) (c) (s : State) (hs : Kept M p n f o s) : KeptAns M p n f o (execSequencerStop c s) := by
  unfold execSequencerStop
  repeat' first
    | with_reducible assumption | intro _ | with_reducible apply State.modCl_kept hM | with_reducible apply State.bundle_kept hM
    | with_reducible apply Kept.cl hM | with_reducible apply Kept.ans | dsimp only | split

theorem execSyncDeadline_kept (hM : MemClosed M) (c) (s : State) (hs : Kept M p n f o s) : KeptAns M p n f o (execSyncDeadline c s) := by
  unfold execSyncDeadline
  repeat' first
    | with_reducible assumption | intro _ | with_reducible apply Cluster.syncDue_mem hM | with_reducible apply State.modCl_kept hM
    | with_reducible apply Kept.ans | dsimp only | split

theorem execTrapEntry_kept (hM : MemClosed M) (c) (s : State) (hs : Kept M p n f o s) : KeptAns M p n f o (execTrapEntry c s) := by
  unfold execTrapEntry
  repeat' first
    | with_reducible assumption | intro _ | with_reducible apply State.bundle_kept hM | with_reducible apply Kept.cl hM
    | with_reducible apply Kept.ans | dsimp only | split

theorem execDmaRd_kept (hM : MemClosed M) (c gd lcls) (s : State) (hs : Kept M p n f o s) : KeptAns M p n f o (execDmaRd c gd lcls s) := by
  unfold execDmaRd; with_reducible apply Kept.ans; with_reducible apply moveRow_kept hM; assumption

theorem execDmaWr_kept (hM : MemClosed M) (c gd lcls) (s : State) (hs : Kept M p n f o s) : KeptAns M p n f o (execDmaWr c gd lcls s) := by
  unfold execDmaWr; with_reducible apply Kept.ans; with_reducible apply moveRow_kept hM; assumption

theorem execDsend_kept (hM : MemClosed M) (c gd lcls) (s : State) (hs : Kept M p n f o s) : KeptAns M p n f o (execDsend c gd lcls s) := by
  unfold execDsend; with_reducible apply Kept.ans; with_reducible apply moveRow_kept hM; assumption

theorem execSsend_kept (hM : MemClosed M) (c gd lcls cut) (s : State) (hs : Kept M p n f o s) : KeptAns M p n f o (execSsend c gd lcls cut s) := by
  unfold execSsend; with_reducible apply Kept.ans; with_reducible apply moveRow_kept hM; assumption

theorem execMoveComplete_kept (hM : MemClosed M) (c tag data poison) (s : State) (hs : Kept M p n f o s) :
    KeptAns M p n f o (execMoveComplete c tag data poison s) := by
  unfold execMoveComplete; with_reducible apply Kept.ans; with_reducible apply State.completeMove_kept hM; assumption

theorem execMoveTimerExpiry_kept (hM : MemClosed M) (c tag) (s : State) (hs : Kept M p n f o s) :
    KeptAns M p n f o (execMoveTimerExpiry c tag s) := by
  unfold execMoveTimerExpiry
  repeat' first
    | with_reducible assumption | intro _ | with_reducible apply State.modCl_kept hM | with_reducible apply Cluster.overrun_mem hM
    | with_reducible apply Kept.ans | split

theorem execBundleIssue_kept (hM : MemClosed M) (c) (s : State) (hs : Kept M p n f o s) : KeptAns M p n f o (execBundleIssue c s) := by
  unfold execBundleIssue; with_reducible apply Kept.ans; with_reducible apply State.bundle_kept hM; assumption

theorem execYield_kept (hM : MemClosed M) (c imm) (s : State) (hs : Kept M p n f o s) : KeptAns M p n f o (execYield c imm s) := by
  unfold execYield
  repeat' first
    | with_reducible assumption | intro _ | with_reducible apply State.modCl_kept hM | with_reducible apply Cluster.resolveYield_mem hM
    | with_reducible apply Kept.ans

theorem execSxGroupIssue_kept (hM : MemClosed M) (site) (s : State) (hs : Kept M p n f o s) : KeptAns M p n f o (execSxGroupIssue site s) := by
  unfold execSxGroupIssue; with_reducible apply Kept.ans; with_reducible apply State.group_kept hM; assumption

theorem execGather_kept (hM : MemClosed M) (site t rd rs1) (s : State) (hs : Kept M p n f o s) : KeptAns M p n f o (execGather site t rd rs1 s) := by
  unfold execGather
  repeat' first
    | with_reducible assumption | intro _ | with_reducible apply Cluster.modThread_mem hM | with_reducible apply State.modCl_kept hM
    | with_reducible apply State.gather_kept hM | with_reducible apply Kept.cl hM | with_reducible apply Kept.ans | dsimp only | split

theorem execGatherComplete_kept (hM : MemClosed M) (site ticket data) (s : State) (hs : Kept M p n f o s) :
    KeptAns M p n f o (execGatherComplete site ticket data s) := by
  unfold execGatherComplete; with_reducible apply Kept.ans; with_reducible apply State.completeGather_kept hM; assumption

theorem execWeirAllocation_kept (hM : MemClosed M) (c) (s : State) (hs : Kept M p n f o s) : KeptAns M p n f o (execWeirAllocation c s) := by
  unfold execWeirAllocation; with_reducible apply Kept.ans; with_reducible apply State.allocate_kept hM; assumption

theorem execScrubRead_kept (hM : MemClosed M) (c bank faults) (s : State) (hs : Kept M p n f o s) :
    KeptAns M p n f o (execScrubRead c bank faults s) := by
  unfold execScrubRead
  repeat' first
    | with_reducible assumption | intro _ | with_reducible apply Spd.scrub_mem hM | with_reducible apply State.modCl_kept hM
    | with_reducible apply State.retireUnit_kept hM | with_reducible apply Kept.ans | dsimp only | split

theorem execColumnRepairStart_kept (hM : MemClosed M) (c) (s : State) (hs : Kept M p n f o s) : KeptAns M p n f o (execColumnRepairStart c s) := by
  unfold execColumnRepairStart
  repeat' first
    | with_reducible assumption | intro _ | with_reducible apply State.modCl_kept hM | with_reducible apply Kept.ans | split

theorem execColumnRepairCopyDone_kept (hM : MemClosed M) (c) (s : State) (hs : Kept M p n f o s) :
    KeptAns M p n f o (execColumnRepairCopyDone c s) := by
  unfold execColumnRepairCopyDone
  repeat' first
    | with_reducible assumption | intro _ | with_reducible apply Spd.copied_mem hM | with_reducible apply State.raise_kept hM
    | with_reducible apply State.askVote_kept hM | with_reducible apply State.modCl_kept hM | with_reducible apply State.applyGaz_kept hM
    | with_reducible apply Kept.cl hM | with_reducible apply Kept.ans | with_reducible apply Kept.foldl | with_reducible apply Kept.foldlFst
    | with_reducible apply Kept.foldlSnd | with_reducible apply memFoldlC | with_reducible apply memFoldlFstC | with_reducible apply memFoldlD
    | with_reducible apply memFoldlFstD | with_reducible apply memFoldlK | dsimp only | split

theorem execZeroizationStart_kept (hM : MemClosed M) (c) (s : State) (hs : Kept M p n f o s) : KeptAns M p n f o (execZeroizationStart c s) := by
  unfold execZeroizationStart
  repeat' first
    | with_reducible assumption | intro _ | with_reducible apply State.modCl_kept hM | with_reducible apply Kept.ans | split

theorem execZeroizationComplete_kept (hM : MemClosed M) (c verified) (s : State) (hs : Kept M p n f o s) :
    KeptAns M p n f o (execZeroizationComplete c verified s) := by
  unfold execZeroizationComplete
  repeat' first
    | with_reducible assumption | intro _ | with_reducible apply State.modCl_kept hM | with_reducible apply Cluster.zeroized_mem hM
    | with_reducible apply State.zeroDone_kept hM | with_reducible apply State.portConfig_kept hM | with_reducible apply State.modTen_kept | with_reducible apply State.modDelta_kept
    | with_reducible apply State.retireUnit_kept hM | with_reducible apply Kept.ans | dsimp only | split

theorem execSpdCounterRead_kept (hM : MemClosed M) (c uncorrected) (s : State) (hs : Kept M p n f o s) :
    KeptAns M p n f o (execSpdCounterRead c uncorrected s) := by
  unfold execSpdCounterRead
  repeat' first
    | with_reducible assumption | intro _ | with_reducible apply State.modCl_kept hM | with_reducible apply Kept.ans | split

theorem execWeirStallRead_kept (hM : MemClosed M) (c) (s : State) (hs : Kept M p n f o s) : KeptAns M p n f o (execWeirStallRead c s) := by
  unfold execWeirStallRead
  repeat' first
    | with_reducible assumption | intro _ | with_reducible apply State.modCl_kept hM | with_reducible apply Kept.ans

theorem execBraidTraining_kept (hM : MemClosed M) (b identOk shown) (s : State) (hs : Kept M p n f o s) :
    KeptAns M p n f o (execBraidTraining b identOk shown s) := by
  unfold execBraidTraining
  repeat' first
    | with_reducible assumption | intro _ | with_reducible apply State.trainBraid_kept hM | with_reducible apply Kept.ans | dsimp only | split

theorem execRoleAssignment_kept (hM : MemClosed M) (s : State) (hs : Kept M p n f o s) : KeptAns M p n f o (execRoleAssignment s) := by
  unfold execRoleAssignment
  repeat' first
    | with_reducible assumption | intro _ | with_reducible apply State.setLists_kept hM | with_reducible apply State.applyGaz_kept hM
    | with_reducible apply State.portsFollow_kept hM | with_reducible apply State.modBrd_kept hM | with_reducible apply State.watchLow_kept hM
    | with_reducible apply State.modLev_kept | with_reducible apply Kept.ans | with_reducible apply Kept.foldl
    | with_reducible apply Kept.foldlFst | with_reducible apply Kept.foldlSnd | dsimp only | split

theorem execFlitReceive_kept (hM : MemClosed M) (b hi flit crc) (s : State) (hs : Kept M p n f o s) :
    KeptAns M p n f o (execFlitReceive b hi flit crc s) := by
  unfold execFlitReceive
  repeat' first
    | with_reducible assumption | intro _ | with_reducible apply State.modBrd_kept hM | with_reducible apply State.side_kept hM
    | with_reducible apply State.watch_kept hM | with_reducible apply State.csyncs_kept hM | with_reducible apply Kept.ans | dsimp only | split

theorem execLeveeReplay_kept (hM : MemClosed M) (b hi seq) (s : State) (hs : Kept M p n f o s) : KeptAns M p n f o (execLeveeReplay b hi seq s) := by
  unfold execLeveeReplay
  repeat' first
    | with_reducible assumption | intro _ | with_reducible apply State.emits_kept | with_reducible apply Kept.ans | dsimp only | split

theorem execLeveeIdent_kept (hM : MemClosed M) (b hi unit link) (s : State) (hs : Kept M p n f o s) :
    KeptAns M p n f o (execLeveeIdent b hi unit link s) := by
  unfold execLeveeIdent
  repeat' first
    | with_reducible assumption | intro _ | with_reducible apply State.retireUnit_kept hM | with_reducible apply State.modBrd_kept hM
    | with_reducible apply Kept.ans | dsimp only | split

theorem execTurn_kept (hM : MemClosed M) (site port cls esc slots half) (s : State) (hs : Kept M p n f o s) :
    KeptAns M p n f o (execTurn site port cls esc slots half s) := by
  unfold execTurn
  repeat' first
    | with_reducible assumption | with_reducible apply State.modLev_kept | with_reducible apply Kept.ans

theorem execLeveeRtReq_kept (hM : MemClosed M) (b hi kind reason depth) (s : State) (hs : Kept M p n f o s) :
    KeptAns M p n f o (execLeveeRtReq b hi kind reason depth s) := by
  unfold execLeveeRtReq
  repeat' first
    | with_reducible assumption | with_reducible apply State.modBrd_kept hM | with_reducible apply State.side_kept hM | with_reducible apply Kept.ans
    | dsimp only | split

theorem execLeveeRtRsp_kept (hM : MemClosed M) (b hi accept converted) (s : State) (hs : Kept M p n f o s) :
    KeptAns M p n f o (execLeveeRtRsp b hi accept converted s) := by
  unfold execLeveeRtRsp
  repeat' first
    | with_reducible assumption | with_reducible apply State.modBrd_kept hM | with_reducible apply State.turnChange_kept hM
    | with_reducible apply Kept.ans | dsimp only | split

theorem execLeveeRtDone_kept (hM : MemClosed M) (b hi up) (s : State) (hs : Kept M p n f o s) : KeptAns M p n f o (execLeveeRtDone b hi up s) := by
  unfold execLeveeRtDone
  repeat' first
    | with_reducible assumption | intro _ | with_reducible apply State.modBrd_kept hM | with_reducible apply State.side_kept hM
    | with_reducible apply State.askBraid_kept hM | with_reducible apply State.watch_kept hM | with_reducible apply Kept.ans | dsimp only | split

theorem execBraidRetrainComplete_kept (hM : MemClosed M) (b shown) (s : State) (hs : Kept M p n f o s) :
    KeptAns M p n f o (execBraidRetrainComplete b shown s) := by
  unfold execBraidRetrainComplete
  repeat' first
    | with_reducible assumption | intro _ | with_reducible apply State.finishRetrain_kept hM | with_reducible apply Kept.ans | dsimp only | split

theorem execLaneLoss_kept (hM : MemClosed M) (b hi lane) (s : State) (hs : Kept M p n f o s) : KeptAns M p n f o (execLaneLoss b hi lane s) := by
  unfold execLaneLoss
  repeat' first
    | with_reducible assumption | with_reducible apply State.askBraid_kept hM | with_reducible apply Kept.ans | split

theorem execSurveyStep_kept (hM : MemClosed M) (b) (s : State) (hs : Kept M p n f o s) : KeptAns M p n f o (execSurveyStep b s) := by
  unfold execSurveyStep
  repeat' first
    | with_reducible assumption | with_reducible apply State.side_kept hM | with_reducible apply State.modBrd_kept hM | with_reducible apply Kept.ans
    | dsimp only | split

theorem execSvyShadow_kept (hM : MemClosed M) (b d sl) (s : State) (hs : Kept M p n f o s) : KeptAns M p n f o (execSvyShadow b d sl s) := by
  unfold execSvyShadow
  repeat' first
    | with_reducible assumption | with_reducible apply State.modBrd_kept hM | with_reducible apply Kept.ans | dsimp only | split

theorem execSvyMove_kept (hM : MemClosed M) (b d sl agree) (s : State) (hs : Kept M p n f o s) : KeptAns M p n f o (execSvyMove b d sl agree s) := by
  unfold execSvyMove
  repeat' first
    | with_reducible assumption | intro _ | with_reducible apply State.modBrd_kept hM | with_reducible apply State.side_kept hM
    | with_reducible apply Kept.ans | dsimp only | split

theorem execSurveyCalibrationDone_kept (hM : MemClosed M) (b errors margin mv) (s : State) (hs : Kept M p n f o s) :
    KeptAns M p n f o (execSurveyCalibrationDone b errors margin mv s) := by
  unfold execSurveyCalibrationDone
  repeat' first
    | with_reducible assumption | intro _ | with_reducible apply State.modBrd_kept hM | with_reducible apply State.side_kept hM
    | with_reducible apply State.askBraid_kept hM | with_reducible apply State.loseLane_kept hM | with_reducible apply State.sideBoth_kept hM
    | with_reducible apply Kept.ans | dsimp only | split

theorem execSvyReturn_kept (hM : MemClosed M) (b d pass) (s : State) (hs : Kept M p n f o s) : KeptAns M p n f o (execSvyReturn b d pass s) := by
  unfold execSvyReturn
  repeat' first
    | with_reducible assumption | with_reducible apply State.modBrd_kept hM | with_reducible apply Kept.ans | dsimp only | split

theorem execMargin_kept (hM : MemClosed M) (b hi lane margin) (s : State) (hs : Kept M p n f o s) :
    KeptAns M p n f o (execMargin b hi lane margin s) := by
  unfold execMargin
  repeat' first
    | with_reducible assumption | with_reducible apply State.modBrd_kept hM | with_reducible apply State.watch_kept hM | with_reducible apply Kept.ans

theorem execLeveeLoopback_kept (hM : MemClosed M) (b hi depth pat) (s : State) (hs : Kept M p n f o s) :
    KeptAns M p n f o (execLeveeLoopback b hi depth pat s) := by
  unfold execLeveeLoopback; with_reducible apply Kept.ans; with_reducible apply State.levLoopback_kept hM; assumption

theorem execLeveeLoopbackEnd_kept (hM : MemClosed M) (b hi errors shown) (s : State) (hs : Kept M p n f o s) :
    KeptAns M p n f o (execLeveeLoopbackEnd b hi errors shown s) := by
  unfold execLeveeLoopbackEnd
  repeat' first
    | with_reducible assumption | intro _ | with_reducible apply State.modBrd_kept hM | with_reducible apply State.finishRetrain_kept hM
    | with_reducible apply Kept.ans | dsimp only | split

theorem execLevCounterRead_kept (hM : MemClosed M) (b hi which) (s : State) (hs : Kept M p n f o s) :
    KeptAns M p n f o (execLevCounterRead b hi which s) := by
  unfold execLevCounterRead; with_reducible apply Kept.ans; with_reducible apply State.modBrd_kept hM; assumption

theorem execLarreFraming_kept (hM : MemClosed M) (n0 p0) (s : State) (hs : Kept M p n f o s) : KeptAns M p n f o (execLarreFraming n0 p0 s) := by
  unfold execLarreFraming
  repeat' first
    | with_reducible assumption | with_reducible apply State.frameOut_kept hM | with_reducible apply State.raise_kept hM
    | with_reducible apply State.sendNak_kept hM | with_reducible apply State.modLarre_kept | with_reducible apply Kept.ans | dsimp only | split

theorem execLarreDirect_kept (hM : MemClosed M) (n0 p0 f0 good) (s : State) (hs : Kept M p n f o s) :
    KeptAns M p n f o (execLarreDirect n0 p0 f0 good s) := by
  unfold execLarreDirect; with_reducible apply Kept.ans; with_reducible apply State.directFrame_kept hM; assumption

theorem execLarreRead_kept (hM : MemClosed M) (n0 p0 f0 good data) (s : State) (hs : Kept M p n f o s) :
    KeptAns M p n f o (execLarreRead n0 p0 f0 good data s) := by
  unfold execLarreRead; with_reducible apply Kept.ans; with_reducible apply State.readFrame_kept hM; assumption

theorem execLarreE2eAck_kept (hM : MemClosed M) (n0 p0 f0 good) (s : State) (hs : Kept M p n f o s) :
    KeptAns M p n f o (execLarreE2eAck n0 p0 f0 good s) := by
  unfold execLarreE2eAck; with_reducible apply Kept.ans; with_reducible apply State.e2eFrame_kept hM; assumption

theorem State.replayDue_kept (hM : MemClosed M) (s : State) (n0) (p0) (hs : Kept M p n f o s) :
    Kept M p n f o (State.replayDue s n0 p0) := by
  unfold State.replayDue
  repeat' first
    | with_reducible assumption | intro _ | with_reducible apply State.modLport_kept hM | with_reducible apply State.sentFrames_kept hM
    | dsimp only | split

theorem execLarreAck_kept (hM : MemClosed M) (n0 p0 retry sync aseq freed good) (s : State) (hs : Kept M p n f o s) :
    KeptAns M p n f o (execLarreAck n0 p0 retry sync aseq freed good s) := by
  unfold execLarreAck
  repeat' first
    | with_reducible assumption | intro _ | with_reducible apply State.raiseSv_kept hM | with_reducible apply State.modLport_kept hM
    | with_reducible apply State.sentFrames_kept hM | with_reducible apply State.pumpLarre_kept hM | with_reducible apply State.replayDue_kept hM
    | with_reducible apply Kept.ans | dsimp only | split

theorem execLarreAckTimer_kept (hM : MemClosed M) (n0 p0) (s : State) (hs : Kept M p n f o s) : KeptAns M p n f o (execLarreAckTimer n0 p0 s) := by
  unfold execLarreAckTimer
  repeat' first
    | with_reducible assumption | intro _ | with_reducible apply State.sentAck_kept hM | with_reducible apply State.modLport_kept hM
    | with_reducible apply State.sendE2e_kept hM | with_reducible apply Kept.ans | with_reducible apply Kept.foldl
    | with_reducible apply Kept.foldlFst | with_reducible apply Kept.foldlSnd | split

theorem execReplayTimerExpiry_kept (hM : MemClosed M) (n0 p0) (s : State) (hs : Kept M p n f o s) :
    KeptAns M p n f o (execReplayTimerExpiry n0 p0 s) := by
  unfold execReplayTimerExpiry
  repeat' first
    | with_reducible assumption | intro _ | with_reducible apply State.replayDue_kept hM | with_reducible apply Kept.ans | dsimp only | split

theorem State.sentDone_kept (hM : MemClosed M) (s : State) (n0) (p0) (up) (hs : Kept M p n f o s) :
    Kept M p n f o (State.sentDone s n0 p0 up) := by
  unfold State.sentDone
  repeat' first
    | with_reducible assumption | intro _ | with_reducible apply State.emit_kept | dsimp only | split

theorem execLarreIdent_kept (hM : MemClosed M) (n0 p0 panel engine port eui) (s : State) (hs : Kept M p n f o s) :
    KeptAns M p n f o (execLarreIdent n0 p0 panel engine port eui s) := by
  unfold execLarreIdent
  repeat' first
    | with_reducible assumption | intro _ | with_reducible apply State.modLport_kept hM | with_reducible apply State.sentAck_kept hM
    | with_reducible apply State.sentDone_kept hM | with_reducible apply Kept.ans | dsimp only | split

theorem execLarreRtReq_kept (hM : MemClosed M) (n0 p0 kind reason depth) (s : State) (hs : Kept M p n f o s) :
    KeptAns M p n f o (execLarreRtReq n0 p0 kind reason depth s) := by
  unfold execLarreRtReq
  repeat' first
    | with_reducible assumption | with_reducible apply State.modLport_kept hM | with_reducible apply State.emit_kept | with_reducible apply Kept.ans
    | dsimp only | split

theorem execLarreRtRsp_kept (hM : MemClosed M) (n0 p0 accept converted) (s : State) (hs : Kept M p n f o s) :
    KeptAns M p n f o (execLarreRtRsp n0 p0 accept converted s) := by
  unfold execLarreRtRsp
  repeat' first
    | with_reducible assumption | intro _ | with_reducible apply State.modLport_kept hM | with_reducible apply State.modEng_kept hM
    | with_reducible apply State.sentAck_kept hM | with_reducible apply Kept.ans | dsimp only | split

theorem execLarreRtDone_kept (hM : MemClosed M) (n0 p0 up) (s : State) (hs : Kept M p n f o s) : KeptAns M p n f o (execLarreRtDone n0 p0 up s) := by
  unfold execLarreRtDone
  repeat' first
    | with_reducible assumption | intro _ | with_reducible apply State.modLport_kept hM | with_reducible apply State.modEng_kept hM
    | with_reducible apply State.pumpLarre_kept hM | with_reducible apply State.askLarre_kept hM | with_reducible apply State.larreDown_kept hM
    | with_reducible apply State.sentDone_kept hM | with_reducible apply State.emit_kept | with_reducible apply Kept.ans | dsimp only | split

theorem State.sentIdent_kept (hM : MemClosed M) (s : State) (n0) (p0) (hs : Kept M p n f o s) :
    Kept M p n f o (State.sentIdent s n0 p0) := by
  unfold State.sentIdent
  repeat' first
    | with_reducible assumption | intro _ | with_reducible apply State.emit_kept | dsimp only | split

theorem execLarreRetrainLock_kept (hM : MemClosed M) (n0 p0 lock) (s : State) (hs : Kept M p n f o s) :
    KeptAns M p n f o (execLarreRetrainLock n0 p0 lock s) := by
  unfold execLarreRetrainLock
  repeat' first
    | with_reducible assumption | intro _ | with_reducible apply State.modLport_kept hM | with_reducible apply State.modEng_kept hM
    | with_reducible apply State.larreDown_kept hM | with_reducible apply State.sentDone_kept hM | with_reducible apply State.sentIdent_kept hM
    | with_reducible apply Kept.ans | dsimp only | split

theorem execFecUncorrectedThreshold_kept (hM : MemClosed M) (n0 p0 corrected uncorrected) (s : State) (hs : Kept M p n f o s) :
    KeptAns M p n f o (execFecUncorrectedThreshold n0 p0 corrected uncorrected s) := by
  unfold execFecUncorrectedThreshold
  repeat' first
    | with_reducible assumption | with_reducible apply State.modEng_kept hM | with_reducible apply State.askLarre_kept hM
    | with_reducible apply Kept.ans | dsimp only | split

theorem execLaneLockLoss_kept (hM : MemClosed M) (n0 lane) (s : State) (hs : Kept M p n f o s) : KeptAns M p n f o (execLaneLockLoss n0 lane s) := by
  unfold execLaneLockLoss
  repeat' first
    | with_reducible assumption | with_reducible apply State.modEng_kept hM | with_reducible apply State.askLarre_kept hM
    | with_reducible apply Kept.ans | dsimp only | split

theorem execLarreEditionWrite_kept (hM : MemClosed M) (data) (s : State) (hs : Kept M p n f o s) :
    KeptAns M p n f o (execLarreEditionWrite data s) := by
  unfold execLarreEditionWrite; with_reducible apply Kept.ans; with_reducible apply State.larreTable_kept hM; assumption

theorem execLarreEditionArm_kept (hM : MemClosed M) (tsw) (s : State) (hs : Kept M p n f o s) : KeptAns M p n f o (execLarreEditionArm tsw s) := by
  unfold execLarreEditionArm; with_reducible apply Kept.ans; with_reducible apply State.larreArm_kept hM; assumption

theorem execLarreEditionSwitch_kept (hM : MemClosed M) (s : State) (hs : Kept M p n f o s) : KeptAns M p n f o (execLarreEditionSwitch s) := by
  unfold execLarreEditionSwitch
  repeat' first
    | with_reducible assumption | intro _ | with_reducible apply State.larreDue_kept hM | with_reducible apply Kept.ans | dsimp only | split

theorem execLarreOldcntLatch_kept (hM : MemClosed M) (s : State) (hs : Kept M p n f o s) : KeptAns M p n f o (execLarreOldcntLatch s) := by
  unfold execLarreOldcntLatch
  repeat' first
    | with_reducible assumption | with_reducible apply State.modLarre_kept | with_reducible apply Kept.ans

theorem execLarreEditionRetire_kept (hM : MemClosed M) (s : State) (hs : Kept M p n f o s) : KeptAns M p n f o (execLarreEditionRetire s) := by
  unfold execLarreEditionRetire; with_reducible apply Kept.ans; with_reducible apply State.larreRetire_kept hM; assumption

theorem execEthernetFrame_kept (hM : MemClosed M) (n0 p0 f0) (s : State) (hs : Kept M p n f o s) :
    KeptAns M p n f o (execEthernetFrame n0 p0 f0 s) := by
  unfold execEthernetFrame
  repeat' first
    | with_reducible assumption | intro _ | with_reducible apply State.modLport_kept hM | with_reducible apply State.modEng_kept hM
    | with_reducible apply State.directFrame_kept hM | with_reducible apply State.readFrame_kept hM | with_reducible apply State.e2eFrame_kept hM
    | with_reducible apply State.ethRecord_kept hM | with_reducible apply State.modTen_kept | with_reducible apply State.emit_kept
    | with_reducible apply Kept.ans | with_reducible apply Kept.foldl | with_reducible apply Kept.foldlFst | with_reducible apply Kept.foldlSnd
    | dsimp only | split

theorem execOxbowOpen_kept (hM : MemClosed M) (pair) (s : State) (hs : Kept M p n f o s) : KeptAns M p n f o (execOxbowOpen pair s) := by
  unfold execOxbowOpen
  repeat' first
    | with_reducible assumption | intro _ | with_reducible apply State.oxbowOpen_kept hM | with_reducible apply State.modLarre_kept
    | with_reducible apply Kept.ans | with_reducible apply Kept.foldl | with_reducible apply Kept.foldlFst | with_reducible apply Kept.foldlSnd
    | split

theorem execOxbowClose_kept (hM : MemClosed M) (pair) (s : State) (hs : Kept M p n f o s) : KeptAns M p n f o (execOxbowClose pair s) := by
  unfold execOxbowClose
  repeat' first
    | with_reducible assumption | with_reducible apply State.modLarre_kept | with_reducible apply Kept.ans

theorem execOxbowMoveComplete_kept (hM : MemClosed M) (pair) (s : State) (hs : Kept M p n f o s) :
    KeptAns M p n f o (execOxbowMoveComplete pair s) := by
  unfold execOxbowMoveComplete
  repeat' first
    | with_reducible assumption | intro _ | with_reducible apply State.modLarre_kept | with_reducible apply State.modEng_kept hM
    | with_reducible apply Kept.ans | with_reducible apply Kept.foldl | with_reducible apply Kept.foldlFst | with_reducible apply Kept.foldlSnd
    | split

theorem execEstuaryLoopback_kept (hM : MemClosed M) (n0 p0 depth pat) (s : State) (hs : Kept M p n f o s) :
    KeptAns M p n f o (execEstuaryLoopback n0 p0 depth pat s) := by
  unfold execEstuaryLoopback; with_reducible apply Kept.ans; with_reducible apply State.estLoopback_kept hM; assumption

theorem execEstuaryLoopbackEnd_kept (hM : MemClosed M) (n0 errors) (s : State) (hs : Kept M p n f o s) :
    KeptAns M p n f o (execEstuaryLoopbackEnd n0 errors s) := by
  unfold execEstuaryLoopbackEnd
  repeat' first
    | with_reducible assumption | with_reducible apply State.modEng_kept hM | with_reducible apply State.modLport_kept hM
    | with_reducible apply Kept.ans | dsimp only | split

theorem execEstCounterRead_kept (hM : MemClosed M) (n0 which) (s : State) (hs : Kept M p n f o s) :
    KeptAns M p n f o (execEstCounterRead n0 which s) := by
  unfold execEstCounterRead; with_reducible apply Kept.ans; with_reducible apply State.modEng_kept hM; assumption

theorem execLrlCounterRead_kept (hM : MemClosed M) (n0 p0 which) (s : State) (hs : Kept M p n f o s) :
    KeptAns M p n f o (execLrlCounterRead n0 p0 which s) := by
  unfold execLrlCounterRead; with_reducible apply Kept.ans; with_reducible apply State.modLport_kept hM; assumption

theorem execPpsOnTimeEdge_kept (hM : MemClosed M) (sub) (s : State) (hs : Kept M p n f o s) : KeptAns M p n f o (execPpsOnTimeEdge sub s) := by
  unfold execPpsOnTimeEdge
  repeat' first
    | with_reducible assumption | with_reducible apply State.modUnit_kept hM | with_reducible apply Kept.ans | split

theorem execTimeFrame_kept (hM : MemClosed M) (edge pos flags crc timing) (s : State) (hs : Kept M p n f o s) :
    KeptAns M p n f o (execTimeFrame edge pos flags crc timing s) := by
  unfold execTimeFrame
  repeat' first
    | with_reducible assumption | with_reducible apply State.modUnit_kept hM | with_reducible apply State.reference_kept hM
    | with_reducible apply Kept.ans | dsimp only | split

theorem execPtpSync_kept (hM : MemClosed M) (exp) (s : State) (hs : Kept M p n f o s) : KeptAns M p n f o (execPtpSync exp s) := by
  unfold execPtpSync
  repeat' first
    | with_reducible assumption | with_reducible apply State.reference_kept hM | with_reducible apply State.modUnit_kept hM
    | with_reducible apply Kept.ans | split

theorem execMeridInLoss_kept (hM : MemClosed M) (s : State) (hs : Kept M p n f o s) : KeptAns M p n f o (execMeridInLoss s) := by
  unfold execMeridInLoss
  repeat' first
    | with_reducible assumption | with_reducible apply State.modUnit_kept hM | with_reducible apply Kept.ans | split

theorem execLocalOscillatorFallback_kept (hM : MemClosed M) (s : State) (hs : Kept M p n f o s) :
    KeptAns M p n f o (execLocalOscillatorFallback s) := by
  unfold execLocalOscillatorFallback
  repeat' first
    | with_reducible assumption | with_reducible apply State.modUnit_kept hM | with_reducible apply Kept.ans | dsimp only | split

theorem execMeridianMarker_kept (hM : MemClosed M) (unit tick good) (s : State) (hs : Kept M p n f o s) :
    KeptAns M p n f o (execMeridianMarker unit tick good s) := by
  unfold execMeridianMarker
  repeat' first
    | with_reducible assumption | with_reducible apply State.applyStep_kept hM | with_reducible apply State.modDie_kept hM
    | with_reducible apply Kept.ans | split

theorem execDieUnlockedTimeout_kept (hM : MemClosed M) (unit) (s : State) (hs : Kept M p n f o s) :
    KeptAns M p n f o (execDieUnlockedTimeout unit s) := by
  unfold execDieUnlockedTimeout
  repeat' first
    | with_reducible assumption | with_reducible apply State.retireUnit_kept hM | with_reducible apply Kept.ans | dsimp only | split

theorem execTreeDelayMeasure_kept (hM : MemClosed M) (unit dly) (s : State) (hs : Kept M p n f o s) :
    KeptAns M p n f o (execTreeDelayMeasure unit dly s) := by
  unfold execTreeDelayMeasure
  repeat' first
    | with_reducible assumption | intro _ | with_reducible apply State.modDie_kept hM | with_reducible apply Kept.ans | dsimp only | split

theorem execMerRelayClose_kept (hM : MemClosed M) (s : State) (hs : Kept M p n f o s) : KeptAns M p n f o (execMerRelayClose s) := by
  unfold execMerRelayClose; with_reducible apply Kept.ans; with_reducible apply State.modUnit_kept hM; assumption

theorem execMeridianRelayMoveComplete_kept (hM : MemClosed M) (s : State) (hs : Kept M p n f o s) :
    KeptAns M p n f o (execMeridianRelayMoveComplete s) := by
  unfold execMeridianRelayMoveComplete; with_reducible apply Kept.ans; with_reducible apply State.modUnit_kept hM; assumption

theorem execExpertTimeStep_kept (hM : MemClosed M) (count) (s : State) (hs : Kept M p n f o s) : KeptAns M p n f o (execExpertTimeStep count s) := by
  unfold execExpertTimeStep; with_reducible apply Kept.ans; with_reducible apply State.timeStep_kept hM; assumption

theorem execCalendarBankLoad_kept (hM : MemClosed M) (data) (s : State) (hs : Kept M p n f o s) :
    KeptAns M p n f o (execCalendarBankLoad data s) := by
  unfold execCalendarBankLoad; with_reducible apply Kept.ans; with_reducible apply State.calendarLoad_kept hM; assumption

theorem execCalendarArm_kept (hM : MemClosed M) (port tick) (s : State) (hs : Kept M p n f o s) :
    KeptAns M p n f o (execCalendarArm port tick s) := by
  unfold execCalendarArm
  repeat' first
    | with_reducible assumption | with_reducible apply State.calendarArm_kept hM | with_reducible apply Kept.ans | split

theorem execCalendarBankSwitch_kept (hM : MemClosed M) (engine port) (s : State) (hs : Kept M p n f o s) :
    KeptAns M p n f o (execCalendarBankSwitch engine port s) := by
  unfold execCalendarBankSwitch
  repeat' first
    | with_reducible assumption | with_reducible apply State.modMer_kept | with_reducible apply Kept.ans

theorem execCalendarWindowOpen_kept (hM : MemClosed M) (engine port k) (s : State) (hs : Kept M p n f o s) :
    KeptAns M p n f o (execCalendarWindowOpen engine port k s) := by
  unfold execCalendarWindowOpen
  repeat' first
    | with_reducible assumption | with_reducible apply State.pumpLarre_kept hM | with_reducible apply State.modMer_kept
    | with_reducible apply Kept.ans | dsimp only | split

theorem execPacketInject_kept (hM : MemClosed M) (site port p0 move) (s : State) (hs : Kept M p n f o s) :
    KeptAns M p n f o (execPacketInject site port p0 move s) := by
  unfold execPacketInject
  repeat' first
    | with_reducible assumption | intro _ | with_reducible apply State.sendRecords_kept hM | with_reducible apply State.switchDue_kept hM
    | with_reducible apply State.inject_kept hM | with_reducible apply Kept.ans | dsimp only | split

theorem execDeltaHop_kept (hM : MemClosed M) (site port p0) (s : State) (hs : Kept M p n f o s) :
    KeptAns M p n f o (execDeltaHop site port p0 s) := by
  unfold execDeltaHop
  repeat' first
    | with_reducible assumption | intro _ | with_reducible apply State.forwardAt_kept hM | with_reducible apply State.sendRecords_kept hM
    | with_reducible apply Kept.ans | dsimp only | split

theorem execDirectPacketDelivery_kept (hM : MemClosed M) (unit cluster p0) (s : State) (hs : Kept M p n f o s) :
    KeptAns M p n f o (execDirectPacketDelivery unit cluster p0 s) := by
  unfold execDirectPacketDelivery
  repeat' first
    | with_reducible assumption | intro _ | with_reducible apply State.accepted_kept hM | with_reducible apply State.hbmRequest_kept hM
    | with_reducible apply State.directToCluster_kept hM | with_reducible apply State.directToLockkeeper_kept hM
    | with_reducible apply State.emit_kept | with_reducible apply Kept.ans | dsimp only | split

theorem execStreamPacketDelivery_kept (hM : MemClosed M) (c p0) (s : State) (hs : Kept M p n f o s) :
    KeptAns M p n f o (execStreamPacketDelivery c p0 s) := by
  unfold execStreamPacketDelivery
  repeat' first
    | with_reducible assumption | intro _ | with_reducible apply Spd.writeP_mem hM | with_reducible apply Cluster.landed_mem hM
    | with_reducible apply State.raise_kept hM | with_reducible apply State.modCl_kept hM | with_reducible apply State.sendNak_kept hM
    | with_reducible apply State.writeAt_kept hM | with_reducible apply State.accepted_kept hM | with_reducible apply State.modTen_kept
    | with_reducible apply Kept.cl hM | with_reducible apply Kept.ans | dsimp only | split

theorem execDeltaAck_kept (hM : MemClosed M) (src unit mark rcvd good) (s : State) (hs : Kept M p n f o s) :
    KeptAns M p n f o (execDeltaAck src unit mark rcvd good s) := by
  unfold execDeltaAck
  repeat' first
    | with_reducible assumption | intro _ | with_reducible apply State.drainOutbox_kept hM | with_reducible apply State.ackWindow_kept hM
    | with_reducible apply Kept.ans | dsimp only | split

theorem execDeltaNak_kept (hM : MemClosed M) (c move code good) (s : State) (hs : Kept M p n f o s) :
    KeptAns M p n f o (execDeltaNak c move code good s) := by
  unfold execDeltaNak
  repeat' first
    | with_reducible assumption | intro _ | with_reducible apply State.askVote_kept hM | with_reducible apply State.modCl_kept hM
    | with_reducible apply Cluster.nakMove_mem hM | with_reducible apply State.modDelta_kept | with_reducible apply Kept.ans | dsimp only | split

theorem execDeltaProbe_kept (hM : MemClosed M) (unit src) (s : State) (hs : Kept M p n f o s) : KeptAns M p n f o (execDeltaProbe unit src s) := by
  unfold execDeltaProbe
  repeat' first
    | with_reducible assumption | with_reducible apply State.sendCtl_kept hM | with_reducible apply State.sendAck_kept hM
    | with_reducible apply Kept.ans | dsimp only | split

theorem execWeirReq_kept (hM : MemClosed M) (c src out reqid length base) (s : State) (hs : Kept M p n f o s) :
    KeptAns M p n f o (execWeirReq c src out reqid length base s) := by
  unfold execWeirReq
  repeat' first
    | with_reducible assumption | intro _ | with_reducible apply State.modCl_kept hM | with_reducible apply Spd.request_mem hM
    | with_reducible apply Kept.ans | split

theorem execWeirGrant_kept (hM : MemClosed M) (src c reqid entry) (s : State) (hs : Kept M p n f o s) :
    KeptAns M p n f o (execWeirGrant src c reqid entry s) := by
  unfold execWeirGrant
  repeat' first
    | with_reducible assumption | intro _ | with_reducible apply State.frameGranted_kept hM | with_reducible apply State.modDelta_kept
    | with_reducible apply Kept.ans | dsimp only | split

theorem execDeltaRead_kept (hM : MemClosed M) (unit p0 data) (s : State) (hs : Kept M p n f o s) :
    KeptAns M p n f o (execDeltaRead unit p0 data s) := by
  unfold execDeltaRead
  repeat' first
    | with_reducible assumption | intro _ | with_reducible apply State.sendData_kept hM | with_reducible apply State.hbmRequest_kept hM
    | with_reducible apply Kept.ans | dsimp only | split

theorem execMack_kept (hM : MemClosed M) (site port group count) (s : State) (hs : Kept M p n f o s) :
    KeptAns M p n f o (execMack site port group count s) := by
  unfold execMack
  repeat' first
    | with_reducible assumption | intro _ | with_reducible apply State.counted_kept hM | with_reducible apply State.mackAt_kept hM
    | with_reducible apply Kept.ans | dsimp only | split

theorem execDeltaHalt_kept (hM : MemClosed M) (c group tenant ackreq) (s : State) (hs : Kept M p n f o s) :
    KeptAns M p n f o (execDeltaHalt c group tenant ackreq s) := by
  unfold execDeltaHalt
  repeat' first
    | with_reducible assumption | with_reducible apply State.modCl_kept hM | with_reducible apply Cluster.halt_mem hM
    | with_reducible apply State.mackAt_kept hM | with_reducible apply Kept.ans | split

theorem execAckTimer_kept (hM : MemClosed M) (unit src) (s : State) (hs : Kept M p n f o s) : KeptAns M p n f o (execAckTimer unit src s) := by
  unfold execAckTimer
  repeat' first
    | with_reducible assumption | with_reducible apply State.sendAck_kept hM | with_reducible apply Kept.ans | split

theorem execProbeTimeout_kept (hM : MemClosed M) (src unit) (s : State) (hs : Kept M p n f o s) :
    KeptAns M p n f o (execProbeTimeout src unit s) := by
  unfold execProbeTimeout
  repeat' first
    | with_reducible assumption | with_reducible apply State.askVote_kept hM | with_reducible apply State.raise_kept hM
    | with_reducible apply State.modDelta_kept | with_reducible apply State.modWinOf_kept hM | with_reducible apply State.sendCtl_kept hM
    | with_reducible apply Kept.ans | dsimp only | split

theorem execEddyRecoveryTimer_kept (hM : MemClosed M) (src unit) (s : State) (hs : Kept M p n f o s) :
    KeptAns M p n f o (execEddyRecoveryTimer src unit s) := by
  unfold execEddyRecoveryTimer; with_reducible apply Kept.ans; with_reducible apply State.modWinOf_kept hM; assumption

theorem execHopack_kept (hM : MemClosed M) (site port freed) (s : State) (hs : Kept M p n f o s) :
    KeptAns M p n f o (execHopack site port freed s) := by
  unfold execHopack
  repeat' first
    | with_reducible assumption | with_reducible apply State.pumpPort_kept hM | with_reducible apply State.modDelta_kept
    | with_reducible apply Kept.ans | split

theorem execCsync_kept (hM : MemClosed M) (site port freed) (s : State) (hs : Kept M p n f o s) :
    KeptAns M p n f o (execCsync site port freed s) := by
  unfold execCsync
  repeat' first
    | with_reducible assumption | intro _ | with_reducible apply State.raise_kept hM | with_reducible apply State.pumpPort_kept hM
    | with_reducible apply State.modDelta_kept | with_reducible apply Kept.ans | dsimp only | split

theorem execEditionPublish_kept (hM : MemClosed M) (stages tsw) (s : State) (hs : Kept M p n f o s) :
    KeptAns M p n f o (execEditionPublish stages tsw s) := by
  unfold execEditionPublish
  repeat' first
    | with_reducible assumption | with_reducible apply State.publish_kept hM | with_reducible apply Kept.ans | split

theorem execEditionSwitch_kept (hM : MemClosed M) (s : State) (hs : Kept M p n f o s) : KeptAns M p n f o (execEditionSwitch s) := by
  unfold execEditionSwitch
  repeat' first
    | with_reducible assumption | intro _ | with_reducible apply State.drainOutbox_kept hM | with_reducible apply State.switchDue_kept hM
    | with_reducible apply Kept.ans | dsimp only | split

theorem execOldcntLatch_kept (hM : MemClosed M) (s : State) (hs : Kept M p n f o s) : KeptAns M p n f o (execOldcntLatch s) := by
  unfold execOldcntLatch
  repeat' first
    | with_reducible assumption | with_reducible apply State.modDelta_kept | with_reducible apply Kept.ans | dsimp only | split

theorem execDltCounterRead_kept (hM : MemClosed M) (site which) (s : State) (hs : Kept M p n f o s) :
    KeptAns M p n f o (execDltCounterRead site which s) := by
  unfold execDltCounterRead
  repeat' first
    | with_reducible assumption | with_reducible apply State.modDelta_kept | with_reducible apply Kept.ans

theorem execShaperRefill_kept (hM : MemClosed M) (s : State) (hs : Kept M p n f o s) : KeptAns M p n f o (execShaperRefill s) := by
  unfold execShaperRefill
  repeat' first
    | with_reducible assumption | intro _ | with_reducible apply State.modStk_kept hM | with_reducible apply Stack.refillAll_mem hM
    | with_reducible apply State.drainOutbox_kept hM | with_reducible apply State.readmit_kept hM
    | with_reducible apply State.placeBuffered_kept hM | with_reducible apply State.modDelta_kept | with_reducible apply Kept.ans
    | with_reducible apply Kept.foldl | with_reducible apply Kept.foldlFst | with_reducible apply Kept.foldlSnd | dsimp only | split

theorem execHbmRequest_kept (hM : MemClosed M) (k p0 faults) (s : State) (hs : Kept M p n f o s) :
    KeptAns M p n f o (execHbmRequest k p0 faults s) := by
  unfold execHbmRequest; with_reducible apply Kept.ans; with_reducible apply State.hbmRequest_kept hM; assumption

theorem execRefreshCommand_kept (hM : MemClosed M) (k channel margin) (s : State) (hs : Kept M p n f o s) :
    KeptAns M p n f o (execRefreshCommand k channel margin s) := by
  unfold execRefreshCommand
  repeat' first
    | with_reducible assumption | intro _ | with_reducible apply Kept.stk hM | with_reducible apply Stack.refreshCmd_mem hM
    | with_reducible apply State.modStk_kept hM | with_reducible apply State.loseChannel_kept hM | with_reducible apply Kept.ans
    | with_reducible exact MemClosed.nil hM | with_reducible apply hM.writeN | with_reducible apply Spd.read_mem hM | with_reducible apply Kept.cl hM
    | with_reducible apply Kept.stk hM | dsimp only | split

theorem execStackTest_kept (hM : MemClosed M) (k ok rows failed) (s : State) (hs : Kept M p n f o s) :
    KeptAns M p n f o (execStackTest k ok rows failed s) := by
  unfold execStackTest
  repeat' first
    | with_reducible assumption | intro _ | with_reducible apply State.testStack_kept hM | with_reducible apply Kept.stk hM
    | with_reducible apply Kept.ans | dsimp only | split

theorem execHbsCounterRead_kept (hM : MemClosed M) (k which) (s : State) (hs : Kept M p n f o s) :
    KeptAns M p n f o (execHbsCounterRead k which s) := by
  unfold execHbsCounterRead
  repeat' first
    | with_reducible assumption | intro _ | with_reducible apply State.modStk_kept hM | with_reducible apply Kept.ans | split

theorem execHeartbeatSend_kept (hM : MemClosed M) (s : State) (hs : Kept M p n f o s) : KeptAns M p n f o (execHeartbeatSend s) := by
  unfold execHeartbeatSend
  repeat' first
    | with_reducible assumption | with_reducible apply State.emits_kept | with_reducible apply Kept.ans

theorem execHeartbeat_kept (hM : MemClosed M) (n0 p0 ident catchment ifgen tick rcrc) (s : State) (hs : Kept M p n f o s) :
    KeptAns M p n f o (execHeartbeat n0 p0 ident catchment ifgen tick rcrc s) := by
  unfold execHeartbeat
  repeat' first
    | with_reducible assumption | with_reducible apply State.modCnf_kept | with_reducible apply Kept.ans | split

theorem execHeartbeatTickEnd_kept (hM : MemClosed M) (tick) (s : State) (hs : Kept M p n f o s) :
    KeptAns M p n f o (execHeartbeatTickEnd tick s) := by
  unfold execHeartbeatTickEnd
  repeat' first
    | with_reducible assumption | with_reducible apply State.modCnf_kept | with_reducible apply State.fence_kept hM
    | with_reducible apply State.askVote_kept hM | with_reducible apply Kept.ans | dsimp only | split

theorem execCnfFence_kept (hM : MemClosed M) (s : State) (hs : Kept M p n f o s) : KeptAns M p n f o (execCnfFence s) := by
  unfold execCnfFence; with_reducible apply Kept.ans; with_reducible apply State.fence_kept hM; assumption

theorem execRewindRequest_kept (hM : MemClosed M) (s : State) (hs : Kept M p n f o s) : KeptAns M p n f o (execRewindRequest s) := by
  unfold execRewindRequest; with_reducible apply Kept.ans; with_reducible apply State.askVote_kept hM; assumption

theorem execAccuse_kept (hM : MemClosed M) (ident catchment vseq a) (s : State) (hs : Kept M p n f o s) :
    KeptAns M p n f o (execAccuse ident catchment vseq a s) := by
  unfold execAccuse
  repeat' first
    | with_reducible assumption | with_reducible apply State.openVote_kept hM | with_reducible apply State.modCnf_kept | with_reducible apply Kept.ans
    | dsimp only | split

theorem execBallot_kept (hM : MemClosed M) (ident catchment vseq b) (s : State) (hs : Kept M p n f o s) :
    KeptAns M p n f o (execBallot ident catchment vseq b s) := by
  unfold execBallot
  repeat' first
    | with_reducible assumption | with_reducible apply State.modCnf_kept | with_reducible apply Kept.ans | split

theorem execVoteRound1Deadline_kept (hM : MemClosed M) (s : State) (hs : Kept M p n f o s) : KeptAns M p n f o (execVoteRound1Deadline s) := by
  unfold execVoteRound1Deadline
  repeat' first
    | with_reducible assumption | with_reducible apply State.toEntries_kept hM | with_reducible apply State.modCnf_kept
    | with_reducible apply Kept.ans | split

theorem execDecide_kept (hM : MemClosed M) (ident catchment vseq ballots) (s : State) (hs : Kept M p n f o s) :
    KeptAns M p n f o (execDecide ident catchment vseq ballots s) := by
  unfold execDecide
  repeat' first
    | with_reducible assumption | with_reducible apply State.modCnf_kept | with_reducible apply Kept.ans | split

theorem execVoteFreeze_kept (hM : MemClosed M) (s : State) (hs : Kept M p n f o s) : KeptAns M p n f o (execVoteFreeze s) := by
  unfold execVoteFreeze
  repeat' first
    | with_reducible assumption | with_reducible apply State.modCnf_kept | with_reducible apply State.toEntries_kept hM
    | with_reducible apply State.fence_kept hM | with_reducible apply State.contingency_kept hM | with_reducible apply State.raiseSv_kept hM
    | with_reducible apply Kept.ans | dsimp only | split

theorem execVerdict_kept (hM : MemClosed M) (n0 p0 catchment vseq digest retired tsw action) (s : State) (hs : Kept M p n f o s) :
    KeptAns M p n f o (execVerdict n0 p0 catchment vseq digest retired tsw action s) := by
  unfold execVerdict
  repeat' first
    | with_reducible assumption | intro _ | with_reducible apply State.contingency_kept hM | with_reducible apply State.emits_kept
    | with_reducible apply State.modCnf_kept | with_reducible apply State.toEntries_kept hM | with_reducible apply State.fence_kept hM
    | with_reducible apply Kept.ans | with_reducible apply Kept.ite | dsimp only | split

theorem execConfluenceStop_kept (hM : MemClosed M) (ident catchment reason) (s : State) (hs : Kept M p n f o s) :
    KeptAns M p n f o (execConfluenceStop ident catchment reason s) := by
  unfold execConfluenceStop
  repeat' first
    | with_reducible assumption | with_reducible apply State.modCnf_kept | with_reducible apply State.stopCatchment_kept hM
    | with_reducible apply Kept.ans | split

theorem execVerdictSwitch_kept (hM : MemClosed M) (s : State) (hs : Kept M p n f o s) : KeptAns M p n f o (execVerdictSwitch s) := by
  unfold execVerdictSwitch
  repeat' first
    | with_reducible assumption | with_reducible apply State.modCnf_kept | with_reducible apply State.rewind_kept hM
    | with_reducible apply State.stopCatchment_kept hM | with_reducible apply State.fence_kept hM | with_reducible apply State.openVote_kept hM
    | with_reducible apply Kept.ans | dsimp only | split

theorem execPullComplete_kept (hM : MemClosed M) (ok plots) (s : State) (hs : Kept M p n f o s) :
    KeptAns M p n f o (execPullComplete ok plots s) := by
  unfold execPullComplete
  repeat' first
    | with_reducible assumption | intro _ | with_reducible apply State.modCnf_kept | with_reducible apply State.modStkNote_kept hM
    | with_reducible apply Stack.writeBytes_mem hM | with_reducible apply State.rewound_kept hM | with_reducible apply State.stopCatchment_kept hM
    | with_reducible apply State.toEntries_kept hM | with_reducible apply Kept.ans | with_reducible apply Kept.foldl
    | with_reducible apply Kept.foldlFst | with_reducible apply Kept.foldlSnd | split

theorem execEpochCloseArm_kept (hM : MemClosed M) (c) (s : State) (hs : Kept M p n f o s) : KeptAns M p n f o (execEpochCloseArm c s) := by
  unfold execEpochCloseArm; with_reducible apply Kept.ans; with_reducible apply State.armClose_kept hM; assumption

theorem execEpochClose_kept (hM : MemClosed M) (s : State) (hs : Kept M p n f o s) : KeptAns M p n f o (execEpochClose s) := by
  unfold execEpochClose
  repeat' first
    | with_reducible assumption | with_reducible apply State.modCnf_kept | with_reducible apply State.failClose_kept hM
    | with_reducible apply Kept.ans | dsimp only | split

theorem execMirrorDrainDone_kept (hM : MemClosed M) (s : State) (hs : Kept M p n f o s) : KeptAns M p n f o (execMirrorDrainDone s) := by
  unfold execMirrorDrainDone
  repeat' first
    | with_reducible assumption | with_reducible apply State.checkMatched_kept hM | with_reducible apply State.modCnf_kept
    | with_reducible apply Kept.ans | split

theorem execDrainLimitExpiry_kept (hM : MemClosed M) (s : State) (hs : Kept M p n f o s) : KeptAns M p n f o (execDrainLimitExpiry s) := by
  unfold execDrainLimitExpiry
  repeat' first
    | with_reducible assumption | with_reducible apply State.failClose_kept hM | with_reducible apply Kept.ans | split

theorem execPlotDigestDone_kept (hM : MemClosed M) (slot) (s : State) (hs : Kept M p n f o s) : KeptAns M p n f o (execPlotDigestDone slot s) := by
  unfold execPlotDigestDone
  repeat' first
    | with_reducible assumption | with_reducible apply State.emit_kept | with_reducible apply State.modCnf_kept | with_reducible apply Kept.ans
    | split

theorem execDigest_kept (hM : MemClosed M) (ident catchment epoch slot parity crc) (s : State) (hs : Kept M p n f o s) :
    KeptAns M p n f o (execDigest ident catchment epoch slot parity crc s) := by
  unfold execDigest
  repeat' first
    | with_reducible assumption | with_reducible apply State.emit_kept | with_reducible apply Kept.ans | split

theorem execDmatch_kept (hM : MemClosed M) (ident catchment epoch slot agree) (s : State) (hs : Kept M p n f o s) :
    KeptAns M p n f o (execDmatch ident catchment epoch slot agree s) := by
  unfold execDmatch
  repeat' first
    | with_reducible assumption | with_reducible apply State.failClose_kept hM | with_reducible apply State.checkMatched_kept hM
    | with_reducible apply State.modCnf_kept | with_reducible apply Kept.ans | split

theorem execEpochOk_kept (hM : MemClosed M) (ident catchment epoch) (s : State) (hs : Kept M p n f o s) :
    KeptAns M p n f o (execEpochOk ident catchment epoch s) := by
  unfold execEpochOk
  repeat' first
    | with_reducible assumption | with_reducible apply State.recordEpoch_kept hM | with_reducible apply State.modCnf_kept
    | with_reducible apply Kept.ans | split

theorem execCloseWindowExpiry_kept (hM : MemClosed M) (s : State) (hs : Kept M p n f o s) : KeptAns M p n f o (execCloseWindowExpiry s) := by
  unfold execCloseWindowExpiry
  repeat' first
    | with_reducible assumption | with_reducible apply State.failClose_kept hM | with_reducible apply Kept.ans | split

theorem execCnfCounterRead_kept (hM : MemClosed M) (which) (s : State) (hs : Kept M p n f o s) : KeptAns M p n f o (execCnfCounterRead which s) := by
  unfold execCnfCounterRead
  repeat' first
    | with_reducible assumption | with_reducible apply State.modCnf_kept | with_reducible apply Kept.ans

theorem execPartitionWrite_kept (hM : MemClosed M) (port data) (s : State) (hs : Kept M p n f o s) :
    KeptAns M p n f o (execPartitionWrite port data s) := by
  unfold execPartitionWrite
  repeat' first
    | with_reducible assumption | with_reducible apply State.partWrite_kept hM | with_reducible apply Kept.ans | split

theorem execTenantDrainDone_kept (hM : MemClosed M) (c) (s : State) (hs : Kept M p n f o s) : KeptAns M p n f o (execTenantDrainDone c s) := by
  unfold execTenantDrainDone
  repeat' first
    | with_reducible assumption | with_reducible apply State.drained_kept hM | with_reducible apply Kept.ans | dsimp only | split

theorem execTenantDrainLimit_kept (hM : MemClosed M) (c) (s : State) (hs : Kept M p n f o s) : KeptAns M p n f o (execTenantDrainLimit c s) := by
  unfold execTenantDrainLimit
  repeat' first
    | with_reducible assumption | with_reducible apply State.drained_kept hM | with_reducible apply Kept.ans | split

theorem execPlotChange_kept (hM : MemClosed M) (port fn num entry) (s : State) (hs : Kept M p n f o s) :
    KeptAns M p n f o (execPlotChange port fn num entry s) := by
  unfold execPlotChange; with_reducible apply Kept.ans; with_reducible apply State.plotChange_kept hM; assumption

theorem execPlotVersionDrained_kept (hM : MemClosed M) (s : State) (hs : Kept M p n f o s) : KeptAns M p n f o (execPlotVersionDrained s) := by
  unfold execPlotVersionDrained
  repeat' first
    | with_reducible assumption | with_reducible apply State.modTen_kept | with_reducible apply Kept.ans | dsimp only | split

theorem execRun_kept (hM : MemClosed M) (i) (s : State) (hs : Kept M p n f o s) : KeptAns M p n f o (execRun i s) := by
  unfold execRun
  repeat' first
    | with_reducible assumption | with_reducible apply State.modTen_kept | with_reducible apply State.finish_kept hM
    | with_reducible apply State.nextRun_kept hM | with_reducible apply State.requestPreempt_kept hM | with_reducible apply Kept.ans | dsimp only
    | split

theorem execDmaEntry_kept (hM : MemClosed M) (i) (s : State) (hs : Kept M p n f o s) : KeptAns M p n f o (execDmaEntry i s) := by
  unfold execDmaEntry
  repeat' first
    | with_reducible assumption | intro _ | with_reducible apply State.finish_kept hM | with_reducible apply State.modCl_kept hM
    | with_reducible apply Spd.request_mem hM | with_reducible apply State.modTen_kept | with_reducible apply State.noteHostSeal_kept hM
    | with_reducible apply Kept.ans | dsimp only | split

theorem execHostDmaComplete_kept (hM : MemClosed M) (i seq data poison) (s : State) (hs : Kept M p n f o s) :
    KeptAns M p n f o (execHostDmaComplete i seq data poison s) := by
  unfold execHostDmaComplete; with_reducible apply Kept.ans; with_reducible apply State.dmaDone_kept hM; assumption

theorem execFenceEntry_kept (hM : MemClosed M) (i) (s : State) (hs : Kept M p n f o s) : KeptAns M p n f o (execFenceEntry i s) := by
  unfold execFenceEntry
  repeat' first
    | with_reducible assumption | with_reducible apply State.finish_kept hM | with_reducible apply Kept.ans | split

theorem execSignalEntry_kept (hM : MemClosed M) (i) (s : State) (hs : Kept M p n f o s) : KeptAns M p n f o (execSignalEntry i s) := by
  unfold execSignalEntry
  repeat' first
    | with_reducible assumption | with_reducible apply State.finish_kept hM | with_reducible apply State.writeAt_kept hM
    | with_reducible apply State.noteHostSeal_kept hM | with_reducible apply Kept.ans | dsimp only | split

theorem execRunComplete_kept (hM : MemClosed M) (p0) (s : State) (hs : Kept M p n f o s) : KeptAns M p n f o (execRunComplete p0 s) := by
  unfold execRunComplete
  repeat' first
    | with_reducible assumption | with_reducible apply State.nextRun_kept hM | with_reducible apply State.finish_kept hM
    | with_reducible apply State.modTen_kept | with_reducible apply Kept.ans | dsimp only | split

theorem execTimeSliceExpiry_kept (hM : MemClosed M) (p0) (s : State) (hs : Kept M p n f o s) : KeptAns M p n f o (execTimeSliceExpiry p0 s) := by
  unfold execTimeSliceExpiry
  repeat' first
    | with_reducible assumption | with_reducible apply State.requestPreempt_kept hM | with_reducible apply Kept.ans | dsimp only | split

theorem execChartYielded_kept (hM : MemClosed M) (p0 xs) (s : State) (hs : Kept M p n f o s) : KeptAns M p n f o (execChartYielded p0 xs s) := by
  unfold execChartYielded
  repeat' first
    | with_reducible assumption | intro _ | with_reducible apply State.modCl_kept hM | with_reducible apply State.writeAt_kept hM
    | with_reducible apply Cluster.saved_mem hM | with_reducible apply State.nextRun_kept hM | with_reducible apply State.modTen_kept
    | with_reducible apply Kept.useFree | with_reducible apply Kept.cl hM | with_reducible apply Kept.ans | with_reducible apply Kept.foldl
    | with_reducible apply Kept.foldlFst | with_reducible apply Kept.foldlSnd | with_reducible apply memFoldlC
    | with_reducible apply memFoldlFstC | with_reducible apply memFoldlD | with_reducible apply memFoldlFstD | with_reducible apply memFoldlK
    | fail_if_no_progress with_reducible apply Kept.all | dsimp only | split

theorem execYieldResume_kept (hM : MemClosed M) (p0 r) (s : State) (hs : Kept M p n f o s) : KeptAns M p n f o (execYieldResume p0 r s) := by
  unfold execYieldResume
  repeat' first
    | with_reducible assumption | intro _ | with_reducible apply State.modCl_kept hM | with_reducible apply Cluster.restore_mem hM
    | with_reducible apply State.modTen_kept | with_reducible apply Kept.ans | with_reducible apply Kept.foldl | with_reducible apply Kept.foldlFst
    | with_reducible apply Kept.foldlSnd | split

theorem execDoorbell_kept (hM : MemClosed M) (port fn page handle prod data) (s : State) (hs : Kept M p n f o s) :
    KeptAns M p n f o (execDoorbell port fn page handle prod data s) := by
  unfold execDoorbell
  repeat' first
    | with_reducible assumption | with_reducible apply State.ring_kept hM | with_reducible apply State.hostSeen_kept hM
    | with_reducible apply Kept.ans | split

theorem execChnStaleRead_kept (hM : MemClosed M) (s : State) (hs : Kept M p n f o s) : KeptAns M p n f o (execChnStaleRead s) := by
  unfold execChnStaleRead
  repeat' first
    | with_reducible assumption | with_reducible apply State.modTen_kept | with_reducible apply Kept.ans

theorem execChannelCreate_kept (hM : MemClosed M) (port fn req) (s : State) (hs : Kept M p n f o s) :
    KeptAns M p n f o (execChannelCreate port fn req s) := by
  unfold execChannelCreate
  repeat' first
    | with_reducible assumption | with_reducible apply State.createChannel_kept hM | with_reducible apply Kept.ans | split

theorem execChannelDestroy_kept (hM : MemClosed M) (port fn handle) (s : State) (hs : Kept M p n f o s) :
    KeptAns M p n f o (execChannelDestroy port fn handle s) := by
  unfold execChannelDestroy
  repeat' first
    | with_reducible assumption | with_reducible apply State.destroyBy_kept hM | with_reducible apply Kept.ans | split

theorem execPartitionHalt_kept (hM : MemClosed M) (port p0) (s : State) (hs : Kept M p n f o s) :
    KeptAns M p n f o (execPartitionHalt port p0 s) := by
  unfold execPartitionHalt
  repeat' first
    | with_reducible assumption | with_reducible apply State.askHalt_kept hM | with_reducible apply Kept.ans | split

theorem execHaltDoorbell_kept (hM : MemClosed M) (port fn w) (s : State) (hs : Kept M p n f o s) :
    KeptAns M p n f o (execHaltDoorbell port fn w s) := by
  unfold execHaltDoorbell
  repeat' first
    | with_reducible assumption | with_reducible apply State.askHalt_kept hM | with_reducible apply State.hostSeen_kept hM
    | with_reducible apply Kept.ans | split

theorem execHaltComplete_kept (hM : MemClosed M) (p0) (s : State) (hs : Kept M p n f o s) : KeptAns M p n f o (execHaltComplete p0 s) := by
  unfold execHaltComplete
  repeat' first
    | with_reducible assumption | with_reducible apply State.modTen_kept | with_reducible apply State.haltAnswer_kept hM
    | with_reducible apply State.injectHalt_kept hM | with_reducible apply Kept.ans | dsimp only | split

theorem execHaltRelease_kept (hM : MemClosed M) (port p0 data) (s : State) (hs : Kept M p n f o s) :
    KeptAns M p n f o (execHaltRelease port p0 data s) := by
  unfold execHaltRelease
  repeat' first
    | with_reducible assumption | with_reducible apply State.nextRun_kept hM | with_reducible apply State.releaseHeld_kept hM
    | with_reducible apply Kept.ans | split

theorem execChartLoad_kept (hM : MemClosed M) (p0 chart syms start) (s : State) (hs : Kept M p n f o s) :
    KeptAns M p n f o (execChartLoad p0 chart syms start s) := by
  unfold execChartLoad
  repeat' first
    | with_reducible assumption | intro _ | with_reducible apply State.raiseSv_kept hM | with_reducible apply State.modCl_kept hM
    | with_reducible apply State.writeAt_kept hM | with_reducible apply Cluster.startAt_mem hM | with_reducible apply State.chartVote_kept hM
    | with_reducible apply State.modTen_kept | with_reducible apply State.emit_kept | with_reducible apply Kept.ans
    | with_reducible apply Kept.foldl | with_reducible apply Kept.foldlFst | with_reducible apply Kept.foldlSnd | with_reducible apply memFoldlC
    | with_reducible apply memFoldlFstC | with_reducible apply memFoldlD | with_reducible apply memFoldlFstD | with_reducible apply memFoldlK
    | dsimp only | split

theorem execRoleRequest_kept (hM : MemClosed M) (port w) (s : State) (hs : Kept M p n f o s) : KeptAns M p n f o (execRoleRequest port w s) := by
  unfold execRoleRequest
  repeat' first
    | with_reducible assumption | with_reducible apply State.hostSeen_kept hM | with_reducible apply State.modHosts_kept
    | with_reducible apply Kept.ans

theorem execRoleWindowDecision_kept (hM : MemClosed M) (s : State) (hs : Kept M p n f o s) : KeptAns M p n f o (execRoleWindowDecision s) := by
  unfold execRoleWindowDecision
  repeat' first
    | with_reducible assumption | intro _ | with_reducible apply State.promotionDue_kept hM | with_reducible apply State.modHosts_kept
    | with_reducible apply State.passRole_kept hM | with_reducible apply Kept.ans | with_reducible apply Kept.foldl
    | with_reducible apply Kept.foldlFst | with_reducible apply Kept.foldlSnd | dsimp only | split

theorem execPromotionDeadline_kept (hM : MemClosed M) (s : State) (hs : Kept M p n f o s) : KeptAns M p n f o (execPromotionDeadline s) := by
  unfold execPromotionDeadline; with_reducible apply Kept.ans; with_reducible apply State.promotionDue_kept hM; assumption

theorem execPrimarySelectionTimeout_kept (hM : MemClosed M) (s : State) (hs : Kept M p n f o s) :
    KeptAns M p n f o (execPrimarySelectionTimeout s) := by
  unfold execPrimarySelectionTimeout
  repeat' first
    | with_reducible assumption | with_reducible apply State.modHosts_kept | with_reducible apply State.notifyAll_kept hM
    | with_reducible apply Kept.ans | dsimp only | split

theorem execHostLinkUp_kept (hM : MemClosed M) (port tlp) (s : State) (hs : Kept M p n f o s) : KeptAns M p n f o (execHostLinkUp port tlp s) := by
  unfold execHostLinkUp
  repeat' first
    | with_reducible assumption | with_reducible apply State.modHosts_kept | with_reducible apply State.hostSeen_kept hM
    | with_reducible apply State.passRole_kept hM | with_reducible apply Kept.ans | dsimp only | split

theorem execHostLinkDown_kept (hM : MemClosed M) (port) (s : State) (hs : Kept M p n f o s) : KeptAns M p n f o (execHostLinkDown port s) := by
  unfold execHostLinkDown
  repeat' first
    | with_reducible assumption | with_reducible apply State.primaryLost_kept hM | with_reducible apply State.modTen_kept
    | with_reducible apply State.modHosts_kept | with_reducible apply Kept.ans | split

theorem execFunctionLevelReset_kept (hM : MemClosed M) (port fn) (s : State) (hs : Kept M p n f o s) :
    KeptAns M p n f o (execFunctionLevelReset port fn s) := by
  unfold execFunctionLevelReset; with_reducible apply Kept.ans; with_reducible apply State.destroyThrough_kept hM; assumption

theorem execPerstNAssert_kept (hM : MemClosed M) (port) (s : State) (hs : Kept M p n f o s) : KeptAns M p n f o (execPerstNAssert port s) := by
  unfold execPerstNAssert
  repeat' first
    | with_reducible assumption | with_reducible apply State.modHosts_kept | with_reducible apply State.destroyThrough_kept hM
    | with_reducible apply State.primaryLost_kept hM | with_reducible apply State.modCtg_kept | with_reducible apply State.modLgd_kept
    | with_reducible apply Kept.ans

theorem execPerstNDeassert_kept (hM : MemClosed M) (port) (s : State) (hs : Kept M p n f o s) : KeptAns M p n f o (execPerstNDeassert port s) := by
  unfold execPerstNDeassert
  repeat' first
    | with_reducible assumption | with_reducible apply State.modHosts_kept | with_reducible apply Kept.ans

theorem execHostReadTimeout_kept (hM : MemClosed M) (r) (s : State) (hs : Kept M p n f o s) : KeptAns M p n f o (execHostReadTimeout r s) := by
  unfold execHostReadTimeout
  repeat' first
    | with_reducible assumption | with_reducible apply State.dmaDone_kept hM | with_reducible apply State.useFree_kept hM
    | with_reducible apply State.completeMove_kept hM | with_reducible apply Kept.ans | split

theorem execIdeIntegrityFailure_kept (hM : MemClosed M) (port stream) (s : State) (hs : Kept M p n f o s) :
    KeptAns M p n f o (execIdeIntegrityFailure port stream s) := by
  unfold execIdeIntegrityFailure
  repeat' first
    | with_reducible assumption | with_reducible apply State.modHosts_kept | with_reducible apply Kept.ans

theorem execPodDoorbell_kept (hM : MemClosed M) (b page handle prod) (s : State) (hs : Kept M p n f o s) :
    KeptAns M p n f o (execPodDoorbell b page handle prod s) := by
  unfold execPodDoorbell
  repeat' first
    | with_reducible assumption | with_reducible apply State.emit_kept | with_reducible apply State.hostSeen_kept hM
    | with_reducible apply State.ring_kept hM | with_reducible apply Kept.ans | dsimp only | split

theorem execPodPathLoss_kept (hM : MemClosed M) (m since) (s : State) (hs : Kept M p n f o s) : KeptAns M p n f o (execPodPathLoss m since s) := by
  unfold execPodPathLoss
  repeat' first
    | with_reducible assumption | with_reducible apply State.modHosts_kept | with_reducible apply State.modTen_kept | with_reducible apply Kept.ans
    | split

theorem execPmbusIdentify_kept (hM : MemClosed M) (code) (s : State) (hs : Kept M p n f o s) : KeptAns M p n f o (execPmbusIdentify code s) := by
  unfold execPmbusIdentify
  repeat' first
    | with_reducible assumption | with_reducible apply State.modPwr_kept | with_reducible apply State.inputFault_kept hM
    | with_reducible apply State.raiseRails_kept hM | with_reducible apply State.raiseSv_kept hM | with_reducible apply Kept.ans | dsimp only | split

theorem execPmbusStatusPoll_kept (hM : MemClosed M) (w) (s : State) (hs : Kept M p n f o s) : KeptAns M p n f o (execPmbusStatusPoll w s) := by
  unfold execPmbusStatusPoll
  repeat' first
    | with_reducible assumption | with_reducible apply State.inputFault_kept hM | with_reducible apply State.raiseSv_kept hM
    | with_reducible apply Kept.ans | split

theorem execVinSag_kept (hM : MemClosed M) (s : State) (hs : Kept M p n f o s) : KeptAns M p n f o (execVinSag s) := by
  unfold execVinSag
  repeat' first
    | with_reducible assumption | with_reducible apply State.modPwr_kept | with_reducible apply State.shedCore_kept hM | with_reducible apply Kept.ans
    | split

theorem execVinUndervoltage_kept (hM : MemClosed M) (s : State) (hs : Kept M p n f o s) : KeptAns M p n f o (execVinUndervoltage s) := by
  unfold execVinUndervoltage
  repeat' first
    | with_reducible assumption | with_reducible apply State.inputFault_kept hM | with_reducible apply State.modPwr_kept
    | with_reducible apply Kept.ans | split

theorem execVinOvervoltage_kept (hM : MemClosed M) (s : State) (hs : Kept M p n f o s) : KeptAns M p n f o (execVinOvervoltage s) := by
  unfold execVinOvervoltage
  repeat' first
    | with_reducible assumption | with_reducible apply State.inputFault_kept hM | with_reducible apply State.modPwr_kept
    | with_reducible apply Kept.ans | split

theorem execVinRecovery_kept (hM : MemClosed M) (a b) (s : State) (hs : Kept M p n f o s) : KeptAns M p n f o (execVinRecovery a b s) := by
  unfold execVinRecovery
  repeat' first
    | with_reducible assumption | with_reducible apply State.modPwr_kept | with_reducible apply State.modBoot_kept
    | with_reducible apply State.tryStart_kept hM | with_reducible apply State.raiseRails_kept hM | with_reducible apply Kept.ans | split

theorem execPwrEnAssert_kept (hM : MemClosed M) (a b) (s : State) (hs : Kept M p n f o s) : KeptAns M p n f o (execPwrEnAssert a b s) := by
  unfold execPwrEnAssert
  repeat' first
    | with_reducible assumption | with_reducible apply State.tryStart_kept hM | with_reducible apply State.raiseRails_kept hM
    | with_reducible apply State.modPwr_kept | with_reducible apply Kept.ans | split

theorem execPwrEnDeassert_kept (hM : MemClosed M) (s : State) (hs : Kept M p n f o s) : KeptAns M p n f o (execPwrEnDeassert s) := by
  unfold execPwrEnDeassert
  repeat' first
    | with_reducible assumption | with_reducible apply State.modPwr_kept | with_reducible apply State.panelDown_kept hM
    | with_reducible apply Kept.ans | split

theorem State.stacksReady_kept (hM : MemClosed M) (s : State) (hs : Kept M p n f o s) :
    Kept M p n f o (State.stacksReady s) := by
  unfold State.stacksReady
  repeat' first
    | with_reducible assumption | intro _ | with_reducible apply State.modStk_kept hM | with_reducible apply Kept.stk hM
    | with_reducible apply Kept.foldl | with_reducible apply Kept.foldlFst | with_reducible apply Kept.foldlSnd | dsimp only | split

theorem execRailInWindow_kept (hM : MemClosed M) (r) (s : State) (hs : Kept M p n f o s) : KeptAns M p n f o (execRailInWindow r s) := by
  unfold execRailInWindow
  repeat' first
    | with_reducible assumption | intro _ | with_reducible apply State.raiseRails_kept hM | with_reducible apply State.coreUp_kept hM
    | with_reducible apply State.stacksReady_kept hM | with_reducible apply State.modPwr_kept | with_reducible apply Kept.ans | dsimp only
    | split

theorem execRailRampTimeout_kept (hM : MemClosed M) (r volt test) (s : State) (hs : Kept M p n f o s) :
    KeptAns M p n f o (execRailRampTimeout r volt test s) := by
  unfold execRailRampTimeout
  repeat' first
    | with_reducible assumption | with_reducible apply State.powerUpFails_kept hM | with_reducible apply Kept.ans | split

theorem execRailOff_kept (hM : MemClosed M) (r) (s : State) (hs : Kept M p n f o s) : KeptAns M p n f o (execRailOff r s) := by
  unfold execRailOff
  repeat' first
    | with_reducible assumption | with_reducible apply State.modPwr_kept | with_reducible apply Kept.ans | split

theorem execRailOffTimeout_kept (hM : MemClosed M) (r volt) (s : State) (hs : Kept M p n f o s) :
    KeptAns M p n f o (execRailOffTimeout r volt s) := by
  unfold execRailOffTimeout
  repeat' first
    | with_reducible assumption | with_reducible apply State.railDownFault_kept hM | with_reducible apply Kept.ans | split

theorem execRailLeavesWindow_kept (hM : MemClosed M) (r volt) (s : State) (hs : Kept M p n f o s) :
    KeptAns M p n f o (execRailLeavesWindow r volt s) := by
  unfold execRailLeavesWindow
  repeat' first
    | with_reducible assumption | with_reducible apply State.vhkLost_kept hM | with_reducible apply State.powerUpFails_kept hM
    | with_reducible apply State.railDownFault_kept hM | with_reducible apply State.modPwr_kept | with_reducible apply State.panelDown_kept hM
    | with_reducible apply State.powerFault_kept hM | with_reducible apply Kept.ans | split

theorem execOffTimeEnd_kept (hM : MemClosed M) (a b) (s : State) (hs : Kept M p n f o s) : KeptAns M p n f o (execOffTimeEnd a b s) := by
  unfold execOffTimeEnd; with_reducible apply Kept.ans; with_reducible apply State.tryStart_kept hM; assumption

theorem execVHkPowerOn_kept (hM : MemClosed M) (a b) (s : State) (hs : Kept M p n f o s) : KeptAns M p n f o (execVHkPowerOn a b s) := by
  unfold execVHkPowerOn
  repeat' first
    | with_reducible assumption | with_reducible apply State.tryStart_kept hM | with_reducible apply Kept.ans
    | fail_if_no_progress with_reducible apply Kept.all | split

theorem execVHkLoss_kept (hM : MemClosed M) (s : State) (hs : Kept M p n f o s) : KeptAns M p n f o (execVHkLoss s) := by
  unfold execVHkLoss; with_reducible apply Kept.ans; with_reducible apply State.vhkLost_kept hM; assumption

theorem execDomainFault_kept (hM : MemClosed M) (c) (s : State) (hs : Kept M p n f o s) : KeptAns M p n f o (execDomainFault c s) := by
  unfold execDomainFault
  repeat' first
    | with_reducible assumption | with_reducible apply State.domainFault_kept hM | with_reducible apply Kept.ans | split

theorem execSensorDrop_kept (hM : MemClosed M) (c i) (s : State) (hs : Kept M p n f o s) : KeptAns M p n f o (execSensorDrop c i s) := by
  unfold execSensorDrop
  repeat' first
    | with_reducible assumption | with_reducible apply State.modPwr_kept | with_reducible apply State.raise_kept hM | with_reducible apply Kept.ans
    | dsimp only | split

theorem execWakeTokenRequest_kept (hM : MemClosed M) (c) (s : State) (hs : Kept M p n f o s) : KeptAns M p n f o (execWakeTokenRequest c s) := by
  unfold execWakeTokenRequest
  repeat' first
    | with_reducible assumption | with_reducible apply State.modPwr_kept | with_reducible apply Kept.ans | dsimp only | split

theorem execWakeTokenGrant_kept (hM : MemClosed M) (q) (s : State) (hs : Kept M p n f o s) : KeptAns M p n f o (execWakeTokenGrant q s) := by
  unfold execWakeTokenGrant
  repeat' first
    | with_reducible assumption | with_reducible apply State.modPwr_kept | with_reducible apply Kept.ans | split

theorem execWakeStage_kept (hM : MemClosed M) (c ok) (s : State) (hs : Kept M p n f o s) : KeptAns M p n f o (execWakeStage c ok s) := by
  unfold execWakeStage
  repeat' first
    | with_reducible assumption | with_reducible apply State.modPwr_kept | with_reducible apply State.domainFault_kept hM
    | with_reducible apply Kept.ans | dsimp only | split

theorem execWakeTokenReturn_kept (hM : MemClosed M) (c test) (s : State) (hs : Kept M p n f o s) :
    KeptAns M p n f o (execWakeTokenReturn c test s) := by
  unfold execWakeTokenReturn
  repeat' first
    | with_reducible assumption | with_reducible apply State.modPwr_kept | with_reducible apply State.relevel_kept hM
    | with_reducible apply State.sramTested_kept hM | with_reducible apply Kept.ans | dsimp only | split

theorem execWakeTokenTimeout_kept (hM : MemClosed M) (c) (s : State) (hs : Kept M p n f o s) : KeptAns M p n f o (execWakeTokenTimeout c s) := by
  unfold execWakeTokenTimeout
  repeat' first
    | with_reducible assumption | with_reducible apply State.domainFault_kept hM | with_reducible apply Kept.ans | split

theorem execFractureInterval_kept (hM : MemClosed M) (c current drops) (s : State) (hs : Kept M p n f o s) :
    KeptAns M p n f o (execFractureInterval c current drops s) := by
  unfold execFractureInterval
  repeat' first
    | with_reducible assumption | with_reducible apply State.modPwr_kept | with_reducible apply State.fracture_kept hM | with_reducible apply Kept.ans
    | dsimp only | split

theorem execGazetteerChangeSet_kept (hM : MemClosed M) (es) (s : State) (hs : Kept M p n f o s) :
    KeptAns M p n f o (execGazetteerChangeSet es s) := by
  unfold execGazetteerChangeSet
  repeat' first
    | with_reducible assumption | intro _ | with_reducible apply State.gazEvent_kept hM | with_reducible apply Kept.ans
    | with_reducible apply Kept.foldl | with_reducible apply Kept.foldlFst | with_reducible apply Kept.foldlSnd | dsimp only | split

theorem execExpertStatusCommand_kept (hM : MemClosed M) (u st) (s : State) (hs : Kept M p n f o s) :
    KeptAns M p n f o (execExpertStatusCommand u st s) := by
  unfold execExpertStatusCommand
  repeat' first
    | with_reducible assumption | intro _ | with_reducible apply State.expertStatus_kept hM | with_reducible apply State.told_kept hM
    | with_reducible apply Kept.ans | dsimp only | split

theorem execReserveActivate_kept (hM : MemClosed M) (site) (s : State) (hs : Kept M p n f o s) : KeptAns M p n f o (execReserveActivate site s) := by
  unfold execReserveActivate
  repeat' first
    | with_reducible assumption | intro _ | with_reducible apply State.reserveActivate_kept hM | with_reducible apply State.told_kept hM
    | with_reducible apply Kept.ans | dsimp only | split

theorem execReservePowerUp_kept (hM : MemClosed M) (s : State) (hs : Kept M p n f o s) : KeptAns M p n f o (execReservePowerUp s) := by
  unfold execReservePowerUp
  repeat' first
    | with_reducible assumption | intro _ | with_reducible apply Cluster.kept_mem hM | with_reducible apply Stack.kept_mem hM
    | with_reducible apply State.awaitToken_kept hM | with_reducible apply State.modGaz_kept | with_reducible apply State.setCl_kept
    | with_reducible apply Kept.cl hM | with_reducible apply Kept.ans | with_reducible apply Kept.foldl | with_reducible apply Kept.foldlFst
    | with_reducible apply Kept.foldlSnd | dsimp only | split

theorem execReserveSelfTest_kept (hM : MemClosed M) (rs) (s : State) (hs : Kept M p n f o s) : KeptAns M p n f o (execReserveSelfTest rs s) := by
  unfold execReserveSelfTest
  repeat' first
    | with_reducible assumption | intro _ | with_reducible apply State.sramTested_kept hM | with_reducible apply State.activationFails_kept hM
    | with_reducible apply State.actStep_kept hM | with_reducible apply State.modDiag_kept | with_reducible apply Kept.ans
    | with_reducible apply Kept.foldl | with_reducible apply Kept.foldlFst | with_reducible apply Kept.foldlSnd | dsimp only | split

theorem execReserveLinkTraining_kept (hM : MemClosed M) (bs) (s : State) (hs : Kept M p n f o s) :
    KeptAns M p n f o (execReserveLinkTraining bs s) := by
  unfold execReserveLinkTraining
  repeat' first
    | with_reducible assumption | intro _ | with_reducible apply State.trainBraid_kept hM | with_reducible apply State.actStep_kept hM
    | with_reducible apply Kept.ans | with_reducible apply Kept.foldl | with_reducible apply Kept.foldlFst | with_reducible apply Kept.foldlSnd
    | split

theorem execReserveEdition_kept (hM : MemClosed M) (t tsw) (s : State) (hs : Kept M p n f o s) : KeptAns M p n f o (execReserveEdition t tsw s) := by
  unfold execReserveEdition
  repeat' first
    | with_reducible assumption | with_reducible apply State.activationFails_kept hM | with_reducible apply State.actStep_kept hM
    | with_reducible apply State.install_kept hM | with_reducible apply Kept.ans | dsimp only | split

theorem execActivationComplete_kept (hM : MemClosed M) (s : State) (hs : Kept M p n f o s) : KeptAns M p n f o (execActivationComplete s) := by
  unfold execActivationComplete
  repeat' first
    | with_reducible assumption | intro _ | with_reducible apply State.setLists_kept hM | with_reducible apply State.applyGaz_kept hM
    | with_reducible apply State.portsFollow_kept hM | with_reducible apply State.modBrd_kept hM | with_reducible apply State.watchLow_kept hM
    | with_reducible apply State.activationFails_kept hM | with_reducible apply State.activationEnds_kept hM
    | with_reducible apply State.modGaz_kept | with_reducible apply Kept.ans | with_reducible apply Kept.foldl
    | with_reducible apply Kept.foldlFst | with_reducible apply Kept.foldlSnd | dsimp only | split

theorem execStepRecompute_kept (hM : MemClosed M) (site) (s : State) (hs : Kept M p n f o s) : KeptAns M p n f o (execStepRecompute site s) := by
  unfold execStepRecompute; with_reducible apply Kept.ans; with_reducible apply State.recompute_kept hM; assumption

theorem execStepRelockDone_kept (hM : MemClosed M) (site) (s : State) (hs : Kept M p n f o s) : KeptAns M p n f o (execStepRelockDone site s) := by
  unfold execStepRelockDone
  repeat' first
    | with_reducible assumption | with_reducible apply State.modClk_kept | with_reducible apply State.setPoints_kept hM
    | with_reducible apply Kept.ans | dsimp only | split

theorem execSetpointSettled_kept (hM : MemClosed M) (site) (s : State) (hs : Kept M p n f o s) : KeptAns M p n f o (execSetpointSettled site s) := by
  unfold execSetpointSettled
  repeat' first
    | with_reducible assumption | with_reducible apply State.modClk_kept | with_reducible apply State.modPwr_kept
    | with_reducible apply State.recompute_kept hM | with_reducible apply Kept.ans | split

theorem execPllLockLoss_kept (hM : MemClosed M) (site other) (s : State) (hs : Kept M p n f o s) :
    KeptAns M p n f o (execPllLockLoss site other s) := by
  unfold execPllLockLoss
  repeat' first
    | with_reducible assumption | with_reducible apply State.raise_kept hM | with_reducible apply State.modClk_kept | with_reducible apply Kept.ans
    | dsimp only | split

theorem execPllNoneTimeout_kept (hM : MemClosed M) (site) (s : State) (hs : Kept M p n f o s) : KeptAns M p n f o (execPllNoneTimeout site s) := by
  unfold execPllNoneTimeout
  repeat' first
    | with_reducible assumption | intro _ | with_reducible apply State.modCl_kept hM | with_reducible apply Cluster.halt_mem hM
    | with_reducible apply State.modClk_kept | with_reducible apply State.retireUnit_kept hM | with_reducible apply Kept.ans
    | with_reducible apply Kept.foldl | with_reducible apply Kept.foldlFst | with_reducible apply Kept.foldlSnd | split

theorem execDieTemperatureSample_kept (hM : MemClosed M) (site ts) (s : State) (hs : Kept M p n f o s) :
    KeptAns M p n f o (execDieTemperatureSample site ts s) := by
  unfold execDieTemperatureSample
  repeat' first
    | with_reducible assumption | with_reducible apply State.modClk_kept | with_reducible apply State.thermalOut_kept hM
    | with_reducible apply State.tripCheck_kept hM | with_reducible apply State.raise_kept hM | with_reducible apply State.recompute_kept hM
    | with_reducible apply Kept.ans | dsimp only | split

theorem execStackTemperatureSample_kept (hM : MemClosed M) (k ts) (s : State) (hs : Kept M p n f o s) :
    KeptAns M p n f o (execStackTemperatureSample k ts s) := by
  unfold execStackTemperatureSample
  repeat' first
    | with_reducible assumption | intro _ | with_reducible apply State.tripCheck_kept hM | with_reducible apply State.modStk_kept hM
    | with_reducible apply State.thermalOut_kept hM | with_reducible apply State.raise_kept hM | with_reducible apply Kept.ans
    | fail_if_no_progress with_reducible apply Kept.all | split

theorem execEngineTemperatureSample_kept (hM : MemClosed M) (n0 ts) (s : State) (hs : Kept M p n f o s) :
    KeptAns M p n f o (execEngineTemperatureSample n0 ts s) := by
  unfold execEngineTemperatureSample
  repeat' first
    | with_reducible assumption | with_reducible apply State.tripCheck_kept hM | with_reducible apply State.thermalOut_kept hM
    | with_reducible apply State.raise_kept hM | with_reducible apply Kept.ans | fail_if_no_progress with_reducible apply Kept.all | split

theorem execSurveyorDieTemperatureSample_kept (hM : MemClosed M) (d ts) (s : State) (hs : Kept M p n f o s) :
    KeptAns M p n f o (execSurveyorDieTemperatureSample d ts s) := by
  unfold execSurveyorDieTemperatureSample
  repeat' first
    | with_reducible assumption | with_reducible apply State.tripCheck_kept hM | with_reducible apply State.zeroize_kept hM
    | with_reducible apply Kept.ans | fail_if_no_progress with_reducible apply Kept.all | dsimp only | split

theorem execThermTripRelease_kept (hM : MemClosed M) (s : State) (hs : Kept M p n f o s) : KeptAns M p n f o (execThermTripRelease s) := by
  unfold execThermTripRelease
  repeat' first
    | with_reducible assumption | with_reducible apply State.modBoot_kept | with_reducible apply State.modClk_kept | with_reducible apply Kept.ans
    | split

theorem execMarginSample_kept (hM : MemClosed M) (site slacks) (s : State) (hs : Kept M p n f o s) :
    KeptAns M p n f o (execMarginSample site slacks s) := by
  unfold execMarginSample
  repeat' first
    | with_reducible assumption | intro _ | with_reducible apply State.modClk_kept | with_reducible apply State.raiseTrim_kept hM
    | with_reducible apply State.raise_kept hM | with_reducible apply State.domainFault_kept hM | with_reducible apply State.recompute_kept hM
    | with_reducible apply Kept.ans | with_reducible apply Kept.foldl | with_reducible apply Kept.foldlFst | with_reducible apply Kept.foldlSnd
    | dsimp only | split

theorem execPowerManagerCheck_kept (hM : MemClosed M) (pin vin) (s : State) (hs : Kept M p n f o s) :
    KeptAns M p n f o (execPowerManagerCheck pin vin s) := by
  unfold execPowerManagerCheck
  repeat' first
    | with_reducible assumption | with_reducible apply State.modClk_kept | with_reducible apply State.modPwr_kept
    | with_reducible apply State.raiseSv_kept hM | with_reducible apply State.retarget_kept hM | with_reducible apply Kept.ans | dsimp only | split

theorem execClkChgRead_kept (hM : MemClosed M) (site) (s : State) (hs : Kept M p n f o s) : KeptAns M p n f o (execClkChgRead site s) := by
  unfold execClkChgRead
  repeat' first
    | with_reducible assumption | with_reducible apply State.modClk_kept | with_reducible apply Kept.ans

theorem execThmMaxRead_kept (hM : MemClosed M) (site) (s : State) (hs : Kept M p n f o s) : KeptAns M p n f o (execThmMaxRead site s) := by
  unfold execThmMaxRead
  repeat' first
    | with_reducible assumption | with_reducible apply State.modClk_kept | with_reducible apply Kept.ans

theorem execGetVersion_kept (hM : MemClosed M) (ep) (s : State) (hs : Kept M p n f o s) : KeptAns M p n f o (execGetVersion ep s) := by
  unfold execGetVersion
  repeat' first
    | with_reducible assumption | intro _ | with_reducible apply State.serveSpdm_kept hM | with_reducible apply State.emit_kept
    | with_reducible apply Kept.ans

theorem execGetCapabilities_kept (hM : MemClosed M) (ep) (s : State) (hs : Kept M p n f o s) : KeptAns M p n f o (execGetCapabilities ep s) := by
  unfold execGetCapabilities
  repeat' first
    | with_reducible assumption | intro _ | with_reducible apply State.serveSpdm_kept hM | with_reducible apply State.emit_kept
    | with_reducible apply Kept.ans

theorem execNegotiateAlgorithms_kept (hM : MemClosed M) (ep ok) (s : State) (hs : Kept M p n f o s) :
    KeptAns M p n f o (execNegotiateAlgorithms ep ok s) := by
  unfold execNegotiateAlgorithms
  repeat' first
    | with_reducible assumption | intro _ | with_reducible apply State.serveSpdm_kept hM | with_reducible apply State.emit_kept
    | with_reducible apply Kept.ans

theorem execGetDigests_kept (hM : MemClosed M) (ep) (s : State) (hs : Kept M p n f o s) : KeptAns M p n f o (execGetDigests ep s) := by
  unfold execGetDigests
  repeat' first
    | with_reducible assumption | intro _ | with_reducible apply State.serveSpdm_kept hM | with_reducible apply State.fresh_kept
    | with_reducible apply State.emit_kept | with_reducible apply Kept.ans

theorem execGetCertificate_kept (hM : MemClosed M) (ep slot a2 a3) (s : State) (hs : Kept M p n f o s) :
    KeptAns M p n f o (execGetCertificate ep slot a2 a3 s) := by
  unfold execGetCertificate
  repeat' first
    | with_reducible assumption | intro _ | with_reducible apply State.serveSpdm_kept hM | with_reducible apply State.emit_kept
    | with_reducible apply State.fresh_kept | with_reducible apply Kept.ans | split

theorem execChallenge_kept (hM : MemClosed M) (ep slot a2) (s : State) (hs : Kept M p n f o s) : KeptAns M p n f o (execChallenge ep slot a2 s) := by
  unfold execChallenge
  repeat' first
    | with_reducible assumption | intro _ | with_reducible apply State.serveSpdm_kept hM | with_reducible apply State.emit_kept
    | with_reducible apply State.fresh_kept | with_reducible apply Kept.ans | split

theorem execGetMeasurements_kept (hM : MemClosed M) (ep index a2) (s : State) (hs : Kept M p n f o s) :
    KeptAns M p n f o (execGetMeasurements ep index a2 s) := by
  unfold execGetMeasurements
  repeat' first
    | with_reducible assumption | intro _ | with_reducible apply State.serveSpdm_kept hM | with_reducible apply State.emit_kept
    | with_reducible apply Kept.ans | dsimp only | split

theorem execKeyExchange_kept (hM : MemClosed M) (ep) (s : State) (hs : Kept M p n f o s) : KeptAns M p n f o (execKeyExchange ep s) := by
  unfold execKeyExchange
  repeat' first
    | with_reducible assumption | intro _ | with_reducible apply State.serveSpdm_kept hM | with_reducible apply State.emit_kept
    | with_reducible apply State.fresh_kept | with_reducible apply State.modCtg_kept | with_reducible apply Kept.ans | split

theorem execFinish_kept (hM : MemClosed M) (ep id ok r) (s : State) (hs : Kept M p n f o s) : KeptAns M p n f o (execFinish ep id ok r s) := by
  unfold execFinish
  repeat' first
    | with_reducible assumption | intro _ | with_reducible apply State.serveSpdm_kept hM | with_reducible apply State.emit_kept
    | with_reducible apply State.modCtg_kept | with_reducible apply Kept.ans | split

theorem execKeyUpdate_kept (hM : MemClosed M) (ep id) (s : State) (hs : Kept M p n f o s) : KeptAns M p n f o (execKeyUpdate ep id s) := by
  unfold execKeyUpdate
  repeat' first
    | with_reducible assumption | intro _ | with_reducible apply State.inSession_kept hM | with_reducible apply State.emit_kept
    | with_reducible apply Kept.ans

theorem execSpdmHeartbeat_kept (hM : MemClosed M) (ep id) (s : State) (hs : Kept M p n f o s) : KeptAns M p n f o (execSpdmHeartbeat ep id s) := by
  unfold execSpdmHeartbeat
  repeat' first
    | with_reducible assumption | intro _ | with_reducible apply State.inSession_kept hM | with_reducible apply State.emit_kept
    | with_reducible apply Kept.ans

theorem execEndSession_kept (hM : MemClosed M) (ep id) (s : State) (hs : Kept M p n f o s) : KeptAns M p n f o (execEndSession ep id s) := by
  unfold execEndSession
  repeat' first
    | with_reducible assumption | intro _ | with_reducible apply State.inSession_kept hM | with_reducible apply State.emit_kept
    | with_reducible apply State.closeSessions_kept hM | with_reducible apply State.modCtg_kept | with_reducible apply Kept.ans

theorem execKeyProg_kept (hM : MemClosed M) (ep id port stream set dir sub key) (s : State) (hs : Kept M p n f o s) :
    KeptAns M p n f o (execKeyProg ep id port stream set dir sub key s) := by
  unfold execKeyProg
  repeat' first
    | with_reducible assumption | intro _ | with_reducible apply State.ideRequest_kept hM | with_reducible apply State.emit_kept
    | with_reducible apply State.modIde_kept hM | with_reducible apply State.modCtg_kept | with_reducible apply Kept.ans | dsimp only | split

theorem execKeySetGo_kept (hM : MemClosed M) (ep id port stream set dir sub) (s : State) (hs : Kept M p n f o s) :
    KeptAns M p n f o (execKeySetGo ep id port stream set dir sub s) := by
  unfold execKeySetGo
  repeat' first
    | with_reducible assumption | intro _ | with_reducible apply State.ideRequest_kept hM | with_reducible apply State.emit_kept
    | with_reducible apply State.modIde_kept hM | with_reducible apply Kept.ans | dsimp only | split

theorem execKeySetStop_kept (hM : MemClosed M) (ep id port stream set dir sub) (s : State) (hs : Kept M p n f o s) :
    KeptAns M p n f o (execKeySetStop ep id port stream set dir sub s) := by
  unfold execKeySetStop
  repeat' first
    | with_reducible assumption | intro _ | with_reducible apply State.ideRequest_kept hM | with_reducible apply State.emit_kept
    | with_reducible apply State.modCtg_kept | with_reducible apply State.modIde_kept hM | with_reducible apply Kept.ans

theorem execIdeQuery_kept (hM : MemClosed M) (ep id port) (s : State) (hs : Kept M p n f o s) : KeptAns M p n f o (execIdeQuery ep id port s) := by
  unfold execIdeQuery
  repeat' first
    | with_reducible assumption | intro _ | with_reducible apply State.ideRequest_kept hM | with_reducible apply State.emit_kept
    | with_reducible apply Kept.ans

theorem execKeyPathLoad_kept (hM : MemClosed M) (unit ctr slot key) (s : State) (hs : Kept M p n f o s) :
    KeptAns M p n f o (execKeyPathLoad unit ctr slot key s) := by
  unfold execKeyPathLoad
  repeat' first
    | with_reducible assumption | intro _ | with_reducible apply State.keyPath_kept hM | with_reducible apply State.settleParts_kept hM
    | with_reducible apply State.modStk_kept hM | with_reducible apply State.modIde_kept hM | with_reducible apply Kept.ans | split

theorem execKeyPathClearSlot_kept (hM : MemClosed M) (unit ctr slot) (s : State) (hs : Kept M p n f o s) :
    KeptAns M p n f o (execKeyPathClearSlot unit ctr slot s) := by
  unfold execKeyPathClearSlot
  repeat' first
    | with_reducible assumption | intro _ | with_reducible apply State.keyPath_kept hM | with_reducible apply State.dropKey_kept hM
    | with_reducible apply State.modStk_kept hM | with_reducible apply State.modIde_kept hM | with_reducible apply Kept.ans | split

theorem execKeyPathClearAll_kept (hM : MemClosed M) (unit ctr) (s : State) (hs : Kept M p n f o s) :
    KeptAns M p n f o (execKeyPathClearAll unit ctr s) := by
  unfold execKeyPathClearAll
  repeat' first
    | with_reducible assumption | intro _ | with_reducible apply State.keyPath_kept hM | with_reducible apply State.clearUnit_kept hM
    | with_reducible apply Kept.ans

theorem execKeyPathKat_kept (hM : MemClosed M) (unit ctr pass) (s : State) (hs : Kept M p n f o s) :
    KeptAns M p n f o (execKeyPathKat unit ctr pass s) := by
  unfold execKeyPathKat
  repeat' first
    | with_reducible assumption | intro _ | with_reducible apply State.keyPath_kept hM | with_reducible apply State.modCtg_kept
    | with_reducible apply State.unitOut_kept hM | with_reducible apply State.raiseAs_kept hM | with_reducible apply Kept.ans | split

theorem execOnDemandSelfTest_kept (hM : MemClosed M) (fails) (s : State) (hs : Kept M p n f o s) :
    KeptAns M p n f o (execOnDemandSelfTest fails s) := by
  unfold execOnDemandSelfTest; with_reducible apply Kept.ans; with_reducible apply State.selfTest_kept hM; assumption

theorem execZeroizeCommand_kept (hM : MemClosed M) (s : State) (hs : Kept M p n f o s) : KeptAns M p n f o (execZeroizeCommand s) := by
  unfold execZeroizeCommand; with_reducible apply Kept.ans; with_reducible apply State.zeroize_kept hM; assumption

theorem execEndOfLife_kept (hM : MemClosed M) (w) (s : State) (hs : Kept M p n f o s) : KeptAns M p n f o (execEndOfLife w s) := by
  unfold execEndOfLife; with_reducible apply Kept.ans; with_reducible apply State.endLife_kept hM; assumption

theorem execAnchorWrite_kept (hM : MemClosed M) (slot digest) (s : State) (hs : Kept M p n f o s) :
    KeptAns M p n f o (execAnchorWrite slot digest s) := by
  unfold execAnchorWrite; with_reducible apply Kept.ans; with_reducible apply State.anchorWrite_kept hM; assumption

theorem execAnchorRevoke_kept (hM : MemClosed M) (w) (s : State) (hs : Kept M p n f o s) : KeptAns M p n f o (execAnchorRevoke w s) := by
  unfold execAnchorRevoke; with_reducible apply Kept.ans; with_reducible apply State.anchorRevoke_kept hM; assumption

theorem execApprovedFuse_kept (hM : MemClosed M) (w) (s : State) (hs : Kept M p n f o s) : KeptAns M p n f o (execApprovedFuse w s) := by
  unfold execApprovedFuse
  repeat' first
    | with_reducible assumption | with_reducible apply State.modCtg_kept | with_reducible apply Kept.ans | split

theorem execStartPartComplete_kept (hM : MemClosed M) (r) (s : State) (hs : Kept M p n f o s) : KeptAns M p n f o (execStartPartComplete r s) := by
  unfold execStartPartComplete
  repeat' first
    | with_reducible assumption | intro _ | with_reducible apply State.retest_kept hM | with_reducible apply State.raiseRails_kept hM
    | with_reducible apply State.modBoot_kept | with_reducible apply State.startMeridian_kept hM | with_reducible apply State.stopStart_kept hM
    | with_reducible apply State.modCtg_kept | with_reducible apply State.startServing_kept hM | with_reducible apply State.startEngines_kept hM
    | with_reducible apply State.domainsTested_kept hM | with_reducible apply State.relevel_kept hM | with_reducible apply State.measurePaths_kept hM
    | with_reducible apply State.calibrateSite_kept hM | with_reducible apply Kept.ans | with_reducible apply Kept.foldl
    | with_reducible apply Kept.foldlFst | with_reducible apply Kept.foldlSnd | dsimp only | split

theorem execEstuaryPartTimeout_kept (hM : MemClosed M) (s : State) (hs : Kept M p n f o s) : KeptAns M p n f o (execEstuaryPartTimeout s) := by
  unfold execEstuaryPartTimeout
  repeat' first
    | with_reducible assumption | with_reducible apply State.modBoot_kept | with_reducible apply Kept.ans | split

theorem execEstuaryPortTrained_kept (hM : MemClosed M) (n0 p0) (s : State) (hs : Kept M p n f o s) :
    KeptAns M p n f o (execEstuaryPortTrained n0 p0 s) := by
  unfold execEstuaryPortTrained
  repeat' first
    | with_reducible assumption | intro _ | with_reducible apply State.modEng_kept hM | with_reducible apply State.pumpLarre_kept hM
    | with_reducible apply State.sentIdent_kept hM | with_reducible apply State.modDelta_kept | with_reducible apply Kept.ans | dsimp only
    | split

theorem execWaveStart_kept (hM : MemClosed M) (s : State) (hs : Kept M p n f o s) : KeptAns M p n f o (execWaveStart s) := by
  unfold execWaveStart
  repeat' first
    | with_reducible assumption | intro _ | with_reducible apply State.setCl_kept | with_reducible apply Cluster.kept_mem hM
    | with_reducible apply State.modBoot_kept | with_reducible apply Kept.ans | with_reducible apply Kept.foldl | with_reducible apply Kept.foldlFst
    | with_reducible apply Kept.foldlSnd | dsimp only | split

theorem execPanelResetAssert_kept (hM : MemClosed M) (s : State) (hs : Kept M p n f o s) : KeptAns M p n f o (execPanelResetAssert s) := by
  unfold execPanelResetAssert
  repeat' first
    | with_reducible assumption | with_reducible apply State.modBoot_kept | with_reducible apply State.panelDown_kept hM
    | with_reducible apply State.raiseAs_kept hM | with_reducible apply Kept.ans | split

theorem execPanelResetRelease_kept (hM : MemClosed M) (a b) (s : State) (hs : Kept M p n f o s) :
    KeptAns M p n f o (execPanelResetRelease a b s) := by
  unfold execPanelResetRelease
  repeat' first
    | with_reducible assumption | with_reducible apply State.modBoot_kept | with_reducible apply State.tryStart_kept hM
    | with_reducible apply State.modLog_kept | with_reducible apply Kept.ans | split

theorem execResetStuck_kept (hM : MemClosed M) (a b) (s : State) (hs : Kept M p n f o s) : KeptAns M p n f o (execResetStuck a b s) := by
  unfold execResetStuck
  repeat' first
    | with_reducible assumption | with_reducible apply State.raiseAs_kept hM | with_reducible apply State.modBoot_kept
    | with_reducible apply State.tryStart_kept hM | with_reducible apply Kept.ans | dsimp only | split

theorem execResetUnmask_kept (hM : MemClosed M) (s : State) (hs : Kept M p n f o s) : KeptAns M p n f o (execResetUnmask s) := by
  unfold execResetUnmask
  repeat' first
    | with_reducible assumption | with_reducible apply State.modBoot_kept | with_reducible apply Kept.ans | split

theorem execSlotPresentDeassert_kept (hM : MemClosed M) (s : State) (hs : Kept M p n f o s) : KeptAns M p n f o (execSlotPresentDeassert s) := by
  unfold execSlotPresentDeassert
  repeat' first
    | with_reducible assumption | intro _ | with_reducible apply Spd.zeroize_mem hM | with_reducible apply State.zeroize_kept hM
    | with_reducible apply State.letGo_kept hM | with_reducible apply State.panelDown_kept hM | with_reducible apply State.modBoot_kept
    | with_reducible apply Kept.ans | dsimp only | split

theorem execTestedWithOverride_kept (hM : MemClosed M) (w) (s : State) (hs : Kept M p n f o s) : KeptAns M p n f o (execTestedWithOverride w s) := by
  unfold execTestedWithOverride; with_reducible apply Kept.ans; with_reducible apply State.overrideWrite_kept hM; assumption

theorem execImageBroadcastDone_kept (hM : MemClosed M) (kind) (s : State) (hs : Kept M p n f o s) :
    KeptAns M p n f o (execImageBroadcastDone kind s) := by
  unfold execImageBroadcastDone
  repeat' first
    | with_reducible assumption | with_reducible apply State.modFw_kept | with_reducible apply Kept.ans | split

theorem execComponentViolation_kept (hM : MemClosed M) (k addr) (s : State) (hs : Kept M p n f o s) :
    KeptAns M p n f o (execComponentViolation k addr s) := by
  unfold execComponentViolation; with_reducible apply Kept.ans; with_reducible apply State.compFails_kept hM; assumption

theorem execComponentWatchdogExpiry_kept (hM : MemClosed M) (k) (s : State) (hs : Kept M p n f o s) :
    KeptAns M p n f o (execComponentWatchdogExpiry k s) := by
  unfold execComponentWatchdogExpiry; with_reducible apply Kept.ans; with_reducible apply State.compFails_kept hM; assumption

theorem execComponentRestartDone_kept (hM : MemClosed M) (k data) (s : State) (hs : Kept M p n f o s) :
    KeptAns M p n f o (execComponentRestartDone k data s) := by
  unfold execComponentRestartDone
  repeat' first
    | with_reducible assumption | intro _ | with_reducible apply State.notifyAll_kept hM | with_reducible apply State.modFw_kept
    | with_reducible apply State.fetch_kept hM | with_reducible apply Kept.ans | with_reducible apply Kept.foldl | with_reducible apply Kept.foldlFst
    | with_reducible apply Kept.foldlSnd | split

theorem execLkfWatchdogExpiry_kept (hM : MemClosed M) (site) (s : State) (hs : Kept M p n f o s) :
    KeptAns M p n f o (execLkfWatchdogExpiry site s) := by
  unfold execLkfWatchdogExpiry
  repeat' first
    | with_reducible assumption | with_reducible apply State.dogBites_kept hM | with_reducible apply State.retireUnit_kept hM
    | with_reducible apply Kept.ans | dsimp only | split

theorem execSbfWatchdogExpiry_kept (hM : MemClosed M) (k) (s : State) (hs : Kept M p n f o s) : KeptAns M p n f o (execSbfWatchdogExpiry k s) := by
  unfold execSbfWatchdogExpiry
  repeat' first
    | with_reducible assumption | with_reducible apply State.dogBites_kept hM | with_reducible apply State.retireUnit_kept hM
    | with_reducible apply Kept.ans | dsimp only | split

theorem execLmcWatchdogExpiry_kept (hM : MemClosed M) (b) (s : State) (hs : Kept M p n f o s) : KeptAns M p n f o (execLmcWatchdogExpiry b s) := by
  unfold execLmcWatchdogExpiry
  repeat' first
    | with_reducible assumption | with_reducible apply State.dogBites_kept hM | with_reducible apply State.retireUnit_kept hM
    | with_reducible apply State.askBraid_kept hM | with_reducible apply Kept.ans | dsimp only | split

theorem execLoopbackRequest_kept (hM : MemClosed M) (ep w) (s : State) (hs : Kept M p n f o s) : KeptAns M p n f o (execLoopbackRequest ep w s) := by
  unfold execLoopbackRequest; with_reducible apply Kept.ans; with_reducible apply State.loopback_kept hM; assumption

theorem execSramSelfTestRequest_kept (hM : MemClosed M) (site) (s : State) (hs : Kept M p n f o s) :
    KeptAns M p n f o (execSramSelfTestRequest site s) := by
  unfold execSramSelfTestRequest; with_reducible apply Kept.ans; with_reducible apply State.sramTest_kept hM; assumption

theorem execStackTestRequest_kept (hM : MemClosed M) (w) (s : State) (hs : Kept M p n f o s) : KeptAns M p n f o (execStackTestRequest w s) := by
  unfold execStackTestRequest; with_reducible apply Kept.ans; with_reducible apply State.stackTest_kept hM; assumption

theorem execDiagnosticRunEnd_kept (hM : MemClosed M) (errors sram ok rows failed) (s : State) (hs : Kept M p n f o s) :
    KeptAns M p n f o (execDiagnosticRunEnd errors sram ok rows failed s) := by
  unfold execDiagnosticRunEnd
  repeat' first
    | with_reducible assumption | intro _ | with_reducible apply State.modDiag_kept | with_reducible apply State.sramTested_kept hM
    | with_reducible apply State.modCl_kept hM | with_reducible apply State.testStack_kept hM | with_reducible apply Kept.ans
    | with_reducible apply Kept.foldl | with_reducible apply Kept.foldlFst | with_reducible apply Kept.foldlSnd | split

theorem execEventCountForward_kept (hM : MemClosed M) (unit) (s : State) (hs : Kept M p n f o s) :
    KeptAns M p n f o (execEventCountForward unit s) := by
  unfold execEventCountForward
  repeat' first
    | with_reducible assumption | with_reducible apply State.modLog_kept | with_reducible apply Kept.ans

theorem execFaultEventReceived_kept (hM : MemClosed M) (s : State) (hs : Kept M p n f o s) : KeptAns M p n f o (execFaultEventReceived s) := by
  unfold execFaultEventReceived
  repeat' first
    | with_reducible assumption | with_reducible apply State.modGaz_kept | with_reducible apply State.modLog_kept | with_reducible apply Kept.ans
    | split

theorem execFaultLogFlashWrite_kept (hM : MemClosed M) (s : State) (hs : Kept M p n f o s) : KeptAns M p n f o (execFaultLogFlashWrite s) := by
  unfold execFaultLogFlashWrite
  repeat' first
    | with_reducible assumption | with_reducible apply State.modLog_kept | with_reducible apply Kept.ans

theorem execFaultLogClear_kept (hM : MemClosed M) (s : State) (hs : Kept M p n f o s) : KeptAns M p n f o (execFaultLogClear s) := by
  unfold execFaultLogClear; with_reducible apply Kept.ans; with_reducible apply State.clearLog_kept hM; assumption

theorem execSurveyorSupplyFault_kept (hM : MemClosed M) (a0) (s : State) (hs : Kept M p n f o s) :
    KeptAns M p n f o (execSurveyorSupplyFault a0 s) := by
  unfold execSurveyorSupplyFault
  repeat' first
    | with_reducible assumption | with_reducible apply State.zeroize_kept hM | with_reducible apply Kept.ans | split

theorem execLapRead_kept (hM : MemClosed M) (h0) (s : State) (hs : Kept M p n f o s) : KeptAns M p n f o (execLapRead h0 s) := by
  unfold execLapRead
  repeat' first
    | with_reducible assumption | intro _ | with_reducible apply State.anyLap_kept hM | with_reducible apply Kept.ans

theorem execLapWrite_kept (hM : MemClosed M) (h0 value fails data) (s : State) (hs : Kept M p n f o s) :
    KeptAns M p n f o (execLapWrite h0 value fails data s) := by
  unfold execLapWrite
  repeat' first
    | with_reducible assumption | intro _ | with_reducible apply State.anyLap_kept hM | with_reducible apply State.lapWrite_kept hM
    | with_reducible apply Kept.ans

theorem execLapDescribe_kept (hM : MemClosed M) (h0) (s : State) (hs : Kept M p n f o s) : KeptAns M p n f o (execLapDescribe h0 s) := by
  unfold execLapDescribe
  repeat' first
    | with_reducible assumption | intro _ | with_reducible apply State.anyLap_kept hM | with_reducible apply Kept.ans | split

theorem execSegReadStart_kept (hM : MemClosed M) (h0) (s : State) (hs : Kept M p n f o s) : KeptAns M p n f o (execSegReadStart h0 s) := by
  unfold execSegReadStart
  repeat' first
    | with_reducible assumption | intro _ | with_reducible apply State.inLap_kept hM | with_reducible apply State.openXfer_kept hM
    | with_reducible apply Kept.ans | split

theorem execSegRead_kept (hM : MemClosed M) (h0 xfer want off) (s : State) (hs : Kept M p n f o s) :
    KeptAns M p n f o (execSegRead h0 xfer want off s) := by
  unfold execSegRead
  repeat' first
    | with_reducible assumption | intro _ | with_reducible apply State.inLap_kept hM | with_reducible apply State.putXfer_kept hM
    | with_reducible apply Kept.ans | split

theorem execSegWriteStart_kept (hM : MemClosed M) (h0 total) (s : State) (hs : Kept M p n f o s) :
    KeptAns M p n f o (execSegWriteStart h0 total s) := by
  unfold execSegWriteStart
  repeat' first
    | with_reducible assumption | intro _ | with_reducible apply State.inLap_kept hM | with_reducible apply State.openXfer_kept hM
    | with_reducible apply Kept.ans | split

theorem execSegWrite_kept (hM : MemClosed M) (h0 xfer off data) (s : State) (hs : Kept M p n f o s) :
    KeptAns M p n f o (execSegWrite h0 xfer off data s) := by
  unfold execSegWrite
  repeat' first
    | with_reducible assumption | intro _ | with_reducible apply State.inLap_kept hM | with_reducible apply State.putXfer_kept hM
    | with_reducible apply Kept.ans | split

theorem execSegWriteEnd_kept (hM : MemClosed M) (h0 xfer crc) (s : State) (hs : Kept M p n f o s) :
    KeptAns M p n f o (execSegWriteEnd h0 xfer crc s) := by
  unfold execSegWriteEnd
  repeat' first
    | with_reducible assumption | intro _ | with_reducible apply State.inLap_kept hM | with_reducible apply State.putXfer_kept hM
    | with_reducible apply State.modLgd_kept | with_reducible apply State.objWrite_kept hM | with_reducible apply Kept.ans | split

theorem execSegAbort_kept (hM : MemClosed M) (h0 xfer) (s : State) (hs : Kept M p n f o s) : KeptAns M p n f o (execSegAbort h0 xfer s) := by
  unfold execSegAbort
  repeat' first
    | with_reducible assumption | intro _ | with_reducible apply State.inLap_kept hM | with_reducible apply State.modLgd_kept
    | with_reducible apply Kept.ans | split

theorem execLapOpen_kept (hM : MemClosed M) (h0 level flags spdm timeout) (s : State) (hs : Kept M p n f o s) :
    KeptAns M p n f o (execLapOpen h0 level flags spdm timeout s) := by
  unfold execLapOpen
  repeat' first
    | with_reducible assumption | intro _ | with_reducible apply State.sessionless_kept hM | with_reducible apply State.lapOpen_kept hM
    | with_reducible apply Kept.ans

theorem execLapClose_kept (hM : MemClosed M) (h0) (s : State) (hs : Kept M p n f o s) : KeptAns M p n f o (execLapClose h0 s) := by
  unfold execLapClose
  repeat' first
    | with_reducible assumption | intro _ | with_reducible apply State.inLap_kept hM | with_reducible apply State.modLgd_kept
    | with_reducible apply Kept.ans

theorem execLapPing_kept (hM : MemClosed M) (h0) (s : State) (hs : Kept M p n f o s) : KeptAns M p n f o (execLapPing h0 s) := by
  unfold execLapPing
  repeat' first
    | with_reducible assumption | intro _ | with_reducible apply State.inLap_kept hM | with_reducible apply Kept.ans

theorem execSessionExpiry_kept (hM : MemClosed M) (n0) (s : State) (hs : Kept M p n f o s) : KeptAns M p n f o (execSessionExpiry n0 s) := by
  unfold execSessionExpiry
  repeat' first
    | with_reducible assumption | with_reducible apply State.modLgd_kept | with_reducible apply Kept.ans | split

theorem execSessionExpiryWarning_kept (hM : MemClosed M) (n0) (s : State) (hs : Kept M p n f o s) :
    KeptAns M p n f o (execSessionExpiryWarning n0 s) := by
  unfold execSessionExpiryWarning
  repeat' first
    | with_reducible assumption | with_reducible apply State.emit_kept | with_reducible apply State.modLgd_kept | with_reducible apply Kept.ans
    | split

theorem execTransferIdleExpiry_kept (hM : MemClosed M) (x) (s : State) (hs : Kept M p n f o s) : KeptAns M p n f o (execTransferIdleExpiry x s) := by
  unfold execTransferIdleExpiry
  repeat' first
    | with_reducible assumption | with_reducible apply State.modLgd_kept | with_reducible apply Kept.ans | split

theorem execHostSuppliedRestored_kept (hM : MemClosed M) (s : State) (hs : Kept M p n f o s) : KeptAns M p n f o (execHostSuppliedRestored s) := by
  unfold execHostSuppliedRestored; with_reducible apply Kept.ans; with_reducible apply State.restoreObjects_kept hM; assumption

theorem execRegisterWrite_kept (hM : MemClosed M) (unit off w) (s : State) (hs : Kept M p n f o s) :
    KeptAns M p n f o (execRegisterWrite unit off w s) := by
  unfold execRegisterWrite
  repeat' first
    | with_reducible assumption | intro _ | with_reducible apply State.writeRegister_kept hM | with_reducible apply Kept.ans | dsimp only | split

end Sys2Proof.Machine
end

