-- ==== Sys2Proof/Laws/PerInstr.lean ====
section
/-!
SUPPORT. A statement about every command as syntax, constructor by constructor: the packets and frames that a well-formed command
carries are whole (09 R252; 12 R343).
-/
namespace Sys2Proof.Laws.WellFormed

/-- The packet and the frame a command carries. -/
def packets : Instr → List Packet
  | .packetInject _ _ p _ => [p]
  | .deltaHop _ _ p => [p]
  | .directPacketDelivery _ _ p => [p]
  | .streamPacketDelivery _ p => [p]
  | .deltaRead _ p _ => [p]
  | .hbmRequest _ p _ => [p]
  | .larreFraming _ p => [p]
  | _ => []
def frames : Instr → List Frame
  | .larreDirect _ _ f _ => [f]
  | .larreRead _ _ f _ _ => [f]
  | .larreE2eAck _ _ f _ => [f]
  | _ => []

/-- A well-formed command carries whole packets and frames: the payload has the bytes its header counts, and so has the poison map. -/
def Statement (i : Instr) : Prop :=
  i.wellFormed = true → (∀ p ∈ packets i, p.wf = true) ∧ (∀ f ∈ frames i, f.wf = true)

theorem none_carried {i : Instr} (hp : packets i = []) (hf : frames i = []) : Statement i := fun _ => by
  simp [hp, hf]
theorem packet_carried {i : Instr} (p : Packet) (hp : packets i = [p]) (hf : frames i = []) (hw : i.wellFormed = p.wf) :
    Statement i := fun h => by
  rw [hw] at h; simp [hp, hf, h]
theorem frame_carried {i : Instr} (f : Frame) (hp : packets i = []) (hf : frames i = [f]) (hw : i.wellFormed = f.wf) :
    Statement i := fun h => by
  rw [hw] at h; simp [hp, hf, h]

theorem gazetteerChangeSet : ∀ a0, Statement (.gazetteerChangeSet a0) := fun _ => none_carried rfl rfl
theorem expertStatusCommand : ∀ a0 a1, Statement (.expertStatusCommand a0 a1) := fun _ _ => none_carried rfl rfl
theorem reserveActivate : ∀ a0, Statement (.reserveActivate a0) := fun _ => none_carried rfl rfl
theorem reservePowerUp : Statement .reservePowerUp := none_carried rfl rfl
theorem reserveSelfTest : ∀ a0, Statement (.reserveSelfTest a0) := fun _ => none_carried rfl rfl
theorem reserveLinkTraining : ∀ a0, Statement (.reserveLinkTraining a0) := fun _ => none_carried rfl rfl
theorem reserveEdition : ∀ a0 a1, Statement (.reserveEdition a0 a1) := fun _ _ => none_carried rfl rfl
theorem activationComplete : Statement .activationComplete := none_carried rfl rfl
theorem chartLoad : ∀ a0 a1 a2 a3, Statement (.chartLoad a0 a1 a2 a3) := fun _ _ _ _ => none_carried rfl rfl
theorem mma : ∀ a0 a1 a2 a3 a4 a5, Statement (.mma a0 a1 a2 a3 a4 a5) := fun _ _ _ _ _ _ => none_carried rfl rfl
theorem mread : ∀ a0 a1 a2, Statement (.mread a0 a1 a2) := fun _ _ _ => none_carried rfl rfl
theorem mspill : ∀ a0 a1 a2 a3, Statement (.mspill a0 a1 a2 a3) := fun _ _ _ _ => none_carried rfl rfl
theorem mcomb : ∀ a0 a1 a2 a3 a4, Statement (.mcomb a0 a1 a2 a3 a4) := fun _ _ _ _ _ => none_carried rfl rfl
theorem mmaFirstKstep : ∀ a0, Statement (.mmaFirstKstep a0) := fun _ => none_carried rfl rfl
theorem mmaLastKstep : ∀ a0, Statement (.mmaLastKstep a0) := fun _ => none_carried rfl rfl
theorem readoutStart : ∀ a0, Statement (.readoutStart a0) := fun _ => none_carried rfl rfl
theorem readoutComplete : ∀ a0, Statement (.readoutComplete a0) := fun _ => none_carried rfl rfl
theorem mxeCeilRead : ∀ a0, Statement (.mxeCeilRead a0) := fun _ => none_carried rfl rfl
theorem vaddF : ∀ a0 a1 a2 a3 a4, Statement (.vaddF a0 a1 a2 a3 a4) := fun _ _ _ _ _ => none_carried rfl rfl
theorem vsubF : ∀ a0 a1 a2 a3 a4, Statement (.vsubF a0 a1 a2 a3 a4) := fun _ _ _ _ _ => none_carried rfl rfl
theorem vmulF : ∀ a0 a1 a2 a3 a4, Statement (.vmulF a0 a1 a2 a3 a4) := fun _ _ _ _ _ => none_carried rfl rfl
theorem vminF : ∀ a0 a1 a2 a3 a4, Statement (.vminF a0 a1 a2 a3 a4) := fun _ _ _ _ _ => none_carried rfl rfl
theorem vmaxF : ∀ a0 a1 a2 a3 a4, Statement (.vmaxF a0 a1 a2 a3 a4) := fun _ _ _ _ _ => none_carried rfl rfl
theorem vaddH : ∀ a0 a1 a2 a3 a4, Statement (.vaddH a0 a1 a2 a3 a4) := fun _ _ _ _ _ => none_carried rfl rfl
theorem vsubH : ∀ a0 a1 a2 a3 a4, Statement (.vsubH a0 a1 a2 a3 a4) := fun _ _ _ _ _ => none_carried rfl rfl
theorem vmulH : ∀ a0 a1 a2 a3 a4, Statement (.vmulH a0 a1 a2 a3 a4) := fun _ _ _ _ _ => none_carried rfl rfl
theorem vminH : ∀ a0 a1 a2 a3 a4, Statement (.vminH a0 a1 a2 a3 a4) := fun _ _ _ _ _ => none_carried rfl rfl
theorem vmaxH : ∀ a0 a1 a2 a3 a4, Statement (.vmaxH a0 a1 a2 a3 a4) := fun _ _ _ _ _ => none_carried rfl rfl
theorem vfmaF : ∀ a0 a1 a2 a3 a4, Statement (.vfmaF a0 a1 a2 a3 a4) := fun _ _ _ _ _ => none_carried rfl rfl
theorem vfmaH : ∀ a0 a1 a2 a3 a4, Statement (.vfmaH a0 a1 a2 a3 a4) := fun _ _ _ _ _ => none_carried rfl rfl
theorem vcvtF32ToBf16 : ∀ a0 a1 a2 a3 a4, Statement (.vcvtF32ToBf16 a0 a1 a2 a3 a4) := fun _ _ _ _ _ => none_carried rfl rfl
theorem vcvtBf16ToF32 : ∀ a0 a1 a2 a3 a4, Statement (.vcvtBf16ToF32 a0 a1 a2 a3 a4) := fun _ _ _ _ _ => none_carried rfl rfl
theorem vcvtF32ToF16 : ∀ a0 a1 a2 a3 a4, Statement (.vcvtF32ToF16 a0 a1 a2 a3 a4) := fun _ _ _ _ _ => none_carried rfl rfl
theorem vcvtF16ToF32 : ∀ a0 a1 a2 a3 a4, Statement (.vcvtF16ToF32 a0 a1 a2 a3 a4) := fun _ _ _ _ _ => none_carried rfl rfl
theorem viadd : ∀ a0 a1 a2 a3 a4, Statement (.viadd a0 a1 a2 a3 a4) := fun _ _ _ _ _ => none_carried rfl rfl
theorem visub : ∀ a0 a1 a2 a3 a4, Statement (.visub a0 a1 a2 a3 a4) := fun _ _ _ _ _ => none_carried rfl rfl
theorem vand : ∀ a0 a1 a2 a3 a4, Statement (.vand a0 a1 a2 a3 a4) := fun _ _ _ _ _ => none_carried rfl rfl
theorem vor : ∀ a0 a1 a2 a3 a4, Statement (.vor a0 a1 a2 a3 a4) := fun _ _ _ _ _ => none_carried rfl rfl
theorem vxor : ∀ a0 a1 a2 a3 a4, Statement (.vxor a0 a1 a2 a3 a4) := fun _ _ _ _ _ => none_carried rfl rfl
theorem vshl : ∀ a0 a1 a2 a3 a4, Statement (.vshl a0 a1 a2 a3 a4) := fun _ _ _ _ _ => none_carried rfl rfl
theorem vshr : ∀ a0 a1 a2 a3 a4, Statement (.vshr a0 a1 a2 a3 a4) := fun _ _ _ _ _ => none_carried rfl rfl
theorem vsra : ∀ a0 a1 a2 a3 a4, Statement (.vsra a0 a1 a2 a3 a4) := fun _ _ _ _ _ => none_carried rfl rfl
theorem vcmpEqF : ∀ a0 a1 a2 a3 a4, Statement (.vcmpEqF a0 a1 a2 a3 a4) := fun _ _ _ _ _ => none_carried rfl rfl
theorem vcmpNeF : ∀ a0 a1 a2 a3 a4, Statement (.vcmpNeF a0 a1 a2 a3 a4) := fun _ _ _ _ _ => none_carried rfl rfl
theorem vcmpLtF : ∀ a0 a1 a2 a3 a4, Statement (.vcmpLtF a0 a1 a2 a3 a4) := fun _ _ _ _ _ => none_carried rfl rfl
theorem vcmpLeF : ∀ a0 a1 a2 a3 a4, Statement (.vcmpLeF a0 a1 a2 a3 a4) := fun _ _ _ _ _ => none_carried rfl rfl
theorem vcmpEqH : ∀ a0 a1 a2 a3 a4, Statement (.vcmpEqH a0 a1 a2 a3 a4) := fun _ _ _ _ _ => none_carried rfl rfl
theorem vcmpNeH : ∀ a0 a1 a2 a3 a4, Statement (.vcmpNeH a0 a1 a2 a3 a4) := fun _ _ _ _ _ => none_carried rfl rfl
theorem vcmpLtH : ∀ a0 a1 a2 a3 a4, Statement (.vcmpLtH a0 a1 a2 a3 a4) := fun _ _ _ _ _ => none_carried rfl rfl
theorem vcmpLeH : ∀ a0 a1 a2 a3 a4, Statement (.vcmpLeH a0 a1 a2 a3 a4) := fun _ _ _ _ _ => none_carried rfl rfl
theorem vcmpEqI : ∀ a0 a1 a2 a3 a4, Statement (.vcmpEqI a0 a1 a2 a3 a4) := fun _ _ _ _ _ => none_carried rfl rfl
theorem vcmpNeI : ∀ a0 a1 a2 a3 a4, Statement (.vcmpNeI a0 a1 a2 a3 a4) := fun _ _ _ _ _ => none_carried rfl rfl
theorem vcmpLtI : ∀ a0 a1 a2 a3 a4, Statement (.vcmpLtI a0 a1 a2 a3 a4) := fun _ _ _ _ _ => none_carried rfl rfl
theorem vcmpLeI : ∀ a0 a1 a2 a3 a4, Statement (.vcmpLeI a0 a1 a2 a3 a4) := fun _ _ _ _ _ => none_carried rfl rfl
theorem vbcast : ∀ a0 a1 a2 a3 a4, Statement (.vbcast a0 a1 a2 a3 a4) := fun _ _ _ _ _ => none_carried rfl rfl
theorem vexp2F : ∀ a0 a1 a2 a3 a4, Statement (.vexp2F a0 a1 a2 a3 a4) := fun _ _ _ _ _ => none_carried rfl rfl
theorem vlog2F : ∀ a0 a1 a2 a3 a4, Statement (.vlog2F a0 a1 a2 a3 a4) := fun _ _ _ _ _ => none_carried rfl rfl
theorem vrcpF : ∀ a0 a1 a2 a3 a4, Statement (.vrcpF a0 a1 a2 a3 a4) := fun _ _ _ _ _ => none_carried rfl rfl
theorem vrsqF : ∀ a0 a1 a2 a3 a4, Statement (.vrsqF a0 a1 a2 a3 a4) := fun _ _ _ _ _ => none_carried rfl rfl
theorem vtanhF : ∀ a0 a1 a2 a3 a4, Statement (.vtanhF a0 a1 a2 a3 a4) := fun _ _ _ _ _ => none_carried rfl rfl
theorem vsigF : ∀ a0 a1 a2 a3 a4, Statement (.vsigF a0 a1 a2 a3 a4) := fun _ _ _ _ _ => none_carried rfl rfl
theorem vexp2H : ∀ a0 a1 a2 a3 a4, Statement (.vexp2H a0 a1 a2 a3 a4) := fun _ _ _ _ _ => none_carried rfl rfl
theorem vlog2H : ∀ a0 a1 a2 a3 a4, Statement (.vlog2H a0 a1 a2 a3 a4) := fun _ _ _ _ _ => none_carried rfl rfl
theorem vrcpH : ∀ a0 a1 a2 a3 a4, Statement (.vrcpH a0 a1 a2 a3 a4) := fun _ _ _ _ _ => none_carried rfl rfl
theorem vrsqH : ∀ a0 a1 a2 a3 a4, Statement (.vrsqH a0 a1 a2 a3 a4) := fun _ _ _ _ _ => none_carried rfl rfl
theorem vtanhH : ∀ a0 a1 a2 a3 a4, Statement (.vtanhH a0 a1 a2 a3 a4) := fun _ _ _ _ _ => none_carried rfl rfl
theorem vsigH : ∀ a0 a1 a2 a3 a4, Statement (.vsigH a0 a1 a2 a3 a4) := fun _ _ _ _ _ => none_carried rfl rfl
theorem vld : ∀ a0 a1 a2 a3 a4, Statement (.vld a0 a1 a2 a3 a4) := fun _ _ _ _ _ => none_carried rfl rfl
theorem vst : ∀ a0 a1 a2 a3 a4, Statement (.vst a0 a1 a2 a3 a4) := fun _ _ _ _ _ => none_carried rfl rfl
theorem vcompress : ∀ a0 a1 a2 a3 a4, Statement (.vcompress a0 a1 a2 a3 a4) := fun _ _ _ _ _ => none_carried rfl rfl
theorem vexpand : ∀ a0 a1 a2 a3 a4, Statement (.vexpand a0 a1 a2 a3 a4) := fun _ _ _ _ _ => none_carried rfl rfl
theorem vrsum : ∀ a0 a1 a2 a3 a4, Statement (.vrsum a0 a1 a2 a3 a4) := fun _ _ _ _ _ => none_carried rfl rfl
theorem vrsumOpen : ∀ a0 a1 a2 a3 a4, Statement (.vrsumOpen a0 a1 a2 a3 a4) := fun _ _ _ _ _ => none_carried rfl rfl
theorem vrdot : ∀ a0 a1 a2 a3 a4, Statement (.vrdot a0 a1 a2 a3 a4) := fun _ _ _ _ _ => none_carried rfl rfl
theorem vrdotOpen : ∀ a0 a1 a2 a3 a4, Statement (.vrdotOpen a0 a1 a2 a3 a4) := fun _ _ _ _ _ => none_carried rfl rfl
theorem vrout : ∀ a0 a1 a2 a3 a4, Statement (.vrout a0 a1 a2 a3 a4) := fun _ _ _ _ _ => none_carried rfl rfl
theorem vrspill : ∀ a0 a1 a2 a3 a4, Statement (.vrspill a0 a1 a2 a3 a4) := fun _ _ _ _ _ => none_carried rfl rfl
theorem vrcomb : ∀ a0 a1 a2 a3 a4, Statement (.vrcomb a0 a1 a2 a3 a4) := fun _ _ _ _ _ => none_carried rfl rfl
theorem vfsum : ∀ a0 a1 a2 a3 a4, Statement (.vfsum a0 a1 a2 a3 a4) := fun _ _ _ _ _ => none_carried rfl rfl
theorem vshst : ∀ a0 a1 a2 a3 a4, Statement (.vshst a0 a1 a2 a3 a4) := fun _ _ _ _ _ => none_carried rfl rfl
theorem vshld : ∀ a0 a1 a2 a3 a4, Statement (.vshld a0 a1 a2 a3 a4) := fun _ _ _ _ _ => none_carried rfl rfl
theorem vxBeatCommit : ∀ a0, Statement (.vxBeatCommit a0) := fun _ => none_carried rfl rfl
theorem vxeCeilRead : ∀ a0, Statement (.vxeCeilRead a0) := fun _ => none_carried rfl rfl
theorem sxThreadStart : ∀ a0 a1, Statement (.sxThreadStart a0 a1) := fun _ _ => none_carried rfl rfl
theorem sxThreadStop : ∀ a0 a1, Statement (.sxThreadStop a0 a1) := fun _ _ => none_carried rfl rfl
theorem sxGroupIssue : ∀ a0, Statement (.sxGroupIssue a0) := fun _ => none_carried rfl rfl
theorem beq : ∀ a0 a1 a2 a3 a4, Statement (.beq a0 a1 a2 a3 a4) := fun _ _ _ _ _ => none_carried rfl rfl
theorem bne : ∀ a0 a1 a2 a3 a4, Statement (.bne a0 a1 a2 a3 a4) := fun _ _ _ _ _ => none_carried rfl rfl
theorem blt : ∀ a0 a1 a2 a3 a4, Statement (.blt a0 a1 a2 a3 a4) := fun _ _ _ _ _ => none_carried rfl rfl
theorem bge : ∀ a0 a1 a2 a3 a4, Statement (.bge a0 a1 a2 a3 a4) := fun _ _ _ _ _ => none_carried rfl rfl
theorem jr : ∀ a0 a1 a2, Statement (.jr a0 a1 a2) := fun _ _ _ => none_carried rfl rfl
theorem ldx : ∀ a0 a1 a2 a3 a4 a5, Statement (.ldx a0 a1 a2 a3 a4 a5) := fun _ _ _ _ _ _ => none_carried rfl rfl
theorem stx : ∀ a0 a1 a2 a3 a4 a5, Statement (.stx a0 a1 a2 a3 a4 a5) := fun _ _ _ _ _ _ => none_carried rfl rfl
theorem amoadd : ∀ a0 a1 a2 a3 a4 a5, Statement (.amoadd a0 a1 a2 a3 a4 a5) := fun _ _ _ _ _ _ => none_carried rfl rfl
theorem amomax : ∀ a0 a1 a2 a3 a4 a5, Statement (.amomax a0 a1 a2 a3 a4 a5) := fun _ _ _ _ _ _ => none_carried rfl rfl
theorem cas : ∀ a0 a1 a2 a3 a4 a5, Statement (.cas a0 a1 a2 a3 a4 a5) := fun _ _ _ _ _ _ => none_carried rfl rfl
theorem sxfence : ∀ a0 a1, Statement (.sxfence a0 a1) := fun _ _ => none_carried rfl rfl
theorem gather : ∀ a0 a1 a2 a3, Statement (.gather a0 a1 a2 a3) := fun _ _ _ _ => none_carried rfl rfl
theorem gwait : ∀ a0 a1 a2, Statement (.gwait a0 a1 a2) := fun _ _ _ => none_carried rfl rfl
theorem sxdone : ∀ a0 a1, Statement (.sxdone a0 a1) := fun _ _ => none_carried rfl rfl
theorem gatherComplete : ∀ a0 a1 a2, Statement (.gatherComplete a0 a1 a2) := fun _ _ _ => none_carried rfl rfl
theorem storeBufferDrain : ∀ a0, Statement (.storeBufferDrain a0) := fun _ => none_carried rfl rfl
theorem bundleIssue : ∀ a0, Statement (.bundleIssue a0) := fun _ => none_carried rfl rfl
theorem add : ∀ a0 a1 a2 a3, Statement (.add a0 a1 a2 a3) := fun _ _ _ _ => none_carried rfl rfl
theorem sub : ∀ a0 a1 a2 a3, Statement (.sub a0 a1 a2 a3) := fun _ _ _ _ => none_carried rfl rfl
theorem and : ∀ a0 a1 a2 a3, Statement (.and a0 a1 a2 a3) := fun _ _ _ _ => none_carried rfl rfl
theorem or : ∀ a0 a1 a2 a3, Statement (.or a0 a1 a2 a3) := fun _ _ _ _ => none_carried rfl rfl
theorem xor : ∀ a0 a1 a2 a3, Statement (.xor a0 a1 a2 a3) := fun _ _ _ _ => none_carried rfl rfl
theorem shl : ∀ a0 a1 a2 a3, Statement (.shl a0 a1 a2 a3) := fun _ _ _ _ => none_carried rfl rfl
theorem shr : ∀ a0 a1 a2 a3, Statement (.shr a0 a1 a2 a3) := fun _ _ _ _ => none_carried rfl rfl
theorem sra : ∀ a0 a1 a2 a3, Statement (.sra a0 a1 a2 a3) := fun _ _ _ _ => none_carried rfl rfl
theorem mul : ∀ a0 a1 a2 a3, Statement (.mul a0 a1 a2 a3) := fun _ _ _ _ => none_carried rfl rfl
theorem mulhu : ∀ a0 a1 a2 a3, Statement (.mulhu a0 a1 a2 a3) := fun _ _ _ _ => none_carried rfl rfl
theorem min : ∀ a0 a1 a2 a3, Statement (.min a0 a1 a2 a3) := fun _ _ _ _ => none_carried rfl rfl
theorem max : ∀ a0 a1 a2 a3, Statement (.max a0 a1 a2 a3) := fun _ _ _ _ => none_carried rfl rfl
theorem slt : ∀ a0 a1 a2 a3, Statement (.slt a0 a1 a2 a3) := fun _ _ _ _ => none_carried rfl rfl
theorem sltu : ∀ a0 a1 a2 a3, Statement (.sltu a0 a1 a2 a3) := fun _ _ _ _ => none_carried rfl rfl
theorem addi : ∀ a0 a1 a2 a3, Statement (.addi a0 a1 a2 a3) := fun _ _ _ _ => none_carried rfl rfl
theorem andi : ∀ a0 a1 a2 a3, Statement (.andi a0 a1 a2 a3) := fun _ _ _ _ => none_carried rfl rfl
theorem ori : ∀ a0 a1 a2 a3, Statement (.ori a0 a1 a2 a3) := fun _ _ _ _ => none_carried rfl rfl
theorem xori : ∀ a0 a1 a2 a3, Statement (.xori a0 a1 a2 a3) := fun _ _ _ _ => none_carried rfl rfl
theorem shli : ∀ a0 a1 a2 a3, Statement (.shli a0 a1 a2 a3) := fun _ _ _ _ => none_carried rfl rfl
theorem shri : ∀ a0 a1 a2 a3, Statement (.shri a0 a1 a2 a3) := fun _ _ _ _ => none_carried rfl rfl
theorem srai : ∀ a0 a1 a2 a3, Statement (.srai a0 a1 a2 a3) := fun _ _ _ _ => none_carried rfl rfl
theorem lih : ∀ a0 a1 a2, Statement (.lih a0 a1 a2) := fun _ _ _ => none_carried rfl rfl
theorem fadd : ∀ a0 a1 a2 a3, Statement (.fadd a0 a1 a2 a3) := fun _ _ _ _ => none_carried rfl rfl
theorem fsub : ∀ a0 a1 a2 a3, Statement (.fsub a0 a1 a2 a3) := fun _ _ _ _ => none_carried rfl rfl
theorem fmul : ∀ a0 a1 a2 a3, Statement (.fmul a0 a1 a2 a3) := fun _ _ _ _ => none_carried rfl rfl
theorem fmin : ∀ a0 a1 a2 a3, Statement (.fmin a0 a1 a2 a3) := fun _ _ _ _ => none_carried rfl rfl
theorem fmax : ∀ a0 a1 a2 a3, Statement (.fmax a0 a1 a2 a3) := fun _ _ _ _ => none_carried rfl rfl
theorem fcmplt : ∀ a0 a1 a2 a3, Statement (.fcmplt a0 a1 a2 a3) := fun _ _ _ _ => none_carried rfl rfl
theorem fcmpeq : ∀ a0 a1 a2 a3, Statement (.fcmpeq a0 a1 a2 a3) := fun _ _ _ _ => none_carried rfl rfl
theorem fcvtif : ∀ a0 a1 a2, Statement (.fcvtif a0 a1 a2) := fun _ _ _ => none_carried rfl rfl
theorem fcvtfi : ∀ a0 a1 a2, Statement (.fcvtfi a0 a1 a2) := fun _ _ _ => none_carried rfl rfl
theorem ld : ∀ a0 a1 a2 a3, Statement (.ld a0 a1 a2 a3) := fun _ _ _ _ => none_carried rfl rfl
theorem st : ∀ a0 a1 a2 a3, Statement (.st a0 a1 a2 a3) := fun _ _ _ _ => none_carried rfl rfl
theorem csrr : ∀ a0 a1 a2, Statement (.csrr a0 a1 a2) := fun _ _ _ => none_carried rfl rfl
theorem csrw : ∀ a0 a1 a2, Statement (.csrw a0 a1 a2) := fun _ _ _ => none_carried rfl rfl
theorem csrs : ∀ a0 a1 a2, Statement (.csrs a0 a1 a2) := fun _ _ _ => none_carried rfl rfl
theorem csrc : ∀ a0 a1 a2, Statement (.csrc a0 a1 a2) := fun _ _ _ => none_carried rfl rfl
theorem tdw : ∀ a0 a1 a2 a3, Statement (.tdw a0 a1 a2 a3) := fun _ _ _ _ => none_carried rfl rfl
theorem tdrl : ∀ a0 a1 a2, Statement (.tdrl a0 a1 a2) := fun _ _ _ => none_carried rfl rfl
theorem tdrh : ∀ a0 a1 a2, Statement (.tdrh a0 a1 a2) := fun _ _ _ => none_carried rfl rfl
theorem jmp : ∀ a0 a1, Statement (.jmp a0 a1) := fun _ _ => none_carried rfl rfl
theorem loop : ∀ a0 a1 a2, Statement (.loop a0 a1 a2) := fun _ _ _ => none_carried rfl rfl
theorem sync : ∀ a0 a1 a2, Statement (.sync a0 a1 a2) := fun _ _ _ => none_carried rfl rfl
theorem waitc : ∀ a0 a1, Statement (.waitc a0 a1) := fun _ _ => none_carried rfl rfl
theorem yield : ∀ a0 a1, Statement (.yield a0 a1) := fun _ _ => none_carried rfl rfl
theorem tret : ∀ a0, Statement (.tret a0) := fun _ => none_carried rfl rfl
theorem sqend : ∀ a0, Statement (.sqend a0) := fun _ => none_carried rfl rfl
theorem dmaRd : ∀ a0 a1 a2, Statement (.dmaRd a0 a1 a2) := fun _ _ _ => none_carried rfl rfl
theorem dmaWr : ∀ a0 a1 a2, Statement (.dmaWr a0 a1 a2) := fun _ _ _ => none_carried rfl rfl
theorem dsend : ∀ a0 a1 a2, Statement (.dsend a0 a1 a2) := fun _ _ _ => none_carried rfl rfl
theorem ssend : ∀ a0 a1 a2 a3, Statement (.ssend a0 a1 a2 a3) := fun _ _ _ _ => none_carried rfl rfl
theorem moveComplete : ∀ a0 a1 a2 a3, Statement (.moveComplete a0 a1 a2 a3) := fun _ _ _ _ => none_carried rfl rfl
theorem moveTimerExpiry : ∀ a0 a1, Statement (.moveTimerExpiry a0 a1) := fun _ _ => none_carried rfl rfl
theorem syncDeadline : ∀ a0, Statement (.syncDeadline a0) := fun _ => none_carried rfl rfl
theorem trapEntry : ∀ a0, Statement (.trapEntry a0) := fun _ => none_carried rfl rfl
theorem sequencerStart : ∀ a0, Statement (.sequencerStart a0) := fun _ => none_carried rfl rfl
theorem sequencerStop : ∀ a0, Statement (.sequencerStop a0) := fun _ => none_carried rfl rfl
theorem scrubRead : ∀ a0 a1 a2, Statement (.scrubRead a0 a1 a2) := fun _ _ _ => none_carried rfl rfl
theorem columnRepairStart : ∀ a0, Statement (.columnRepairStart a0) := fun _ => none_carried rfl rfl
theorem columnRepairCopyDone : ∀ a0, Statement (.columnRepairCopyDone a0) := fun _ => none_carried rfl rfl
theorem zeroizationStart : ∀ a0, Statement (.zeroizationStart a0) := fun _ => none_carried rfl rfl
theorem zeroizationComplete : ∀ a0 a1, Statement (.zeroizationComplete a0 a1) := fun _ _ => none_carried rfl rfl
theorem weirAllocation : ∀ a0, Statement (.weirAllocation a0) := fun _ => none_carried rfl rfl
theorem spdCounterRead : ∀ a0 a1, Statement (.spdCounterRead a0 a1) := fun _ _ => none_carried rfl rfl
theorem weirStallRead : ∀ a0, Statement (.weirStallRead a0) := fun _ => none_carried rfl rfl
theorem packetInject : ∀ a0 a1 a2 a3, Statement (.packetInject a0 a1 a2 a3) := fun _ _ a2 _ => packet_carried a2 rfl rfl rfl
theorem deltaHop : ∀ a0 a1 a2, Statement (.deltaHop a0 a1 a2) := fun _ _ a2 => packet_carried a2 rfl rfl rfl
theorem directPacketDelivery : ∀ a0 a1 a2, Statement (.directPacketDelivery a0 a1 a2) := fun _ _ a2 => packet_carried a2 rfl rfl rfl
theorem streamPacketDelivery : ∀ a0 a1, Statement (.streamPacketDelivery a0 a1) := fun _ a1 => packet_carried a1 rfl rfl rfl
theorem deltaAck : ∀ a0 a1 a2 a3 a4, Statement (.deltaAck a0 a1 a2 a3 a4) := fun _ _ _ _ _ => none_carried rfl rfl
theorem deltaNak : ∀ a0 a1 a2 a3, Statement (.deltaNak a0 a1 a2 a3) := fun _ _ _ _ => none_carried rfl rfl
theorem deltaProbe : ∀ a0 a1, Statement (.deltaProbe a0 a1) := fun _ _ => none_carried rfl rfl
theorem weirReq : ∀ a0 a1 a2 a3 a4 a5, Statement (.weirReq a0 a1 a2 a3 a4 a5) := fun _ _ _ _ _ _ => none_carried rfl rfl
theorem weirGrant : ∀ a0 a1 a2 a3, Statement (.weirGrant a0 a1 a2 a3) := fun _ _ _ _ => none_carried rfl rfl
theorem deltaRead : ∀ a0 a1 a2, Statement (.deltaRead a0 a1 a2) := fun _ a1 _ => packet_carried a1 rfl rfl rfl
theorem mack : ∀ a0 a1 a2 a3, Statement (.mack a0 a1 a2 a3) := fun _ _ _ _ => none_carried rfl rfl
theorem deltaHalt : ∀ a0 a1 a2 a3, Statement (.deltaHalt a0 a1 a2 a3) := fun _ _ _ _ => none_carried rfl rfl
theorem ackTimer : ∀ a0 a1, Statement (.ackTimer a0 a1) := fun _ _ => none_carried rfl rfl
theorem probeTimeout : ∀ a0 a1, Statement (.probeTimeout a0 a1) := fun _ _ => none_carried rfl rfl
theorem eddyRecoveryTimer : ∀ a0 a1, Statement (.eddyRecoveryTimer a0 a1) := fun _ _ => none_carried rfl rfl
theorem hopack : ∀ a0 a1 a2, Statement (.hopack a0 a1 a2) := fun _ _ _ => none_carried rfl rfl
theorem csync : ∀ a0 a1 a2, Statement (.csync a0 a1 a2) := fun _ _ _ => none_carried rfl rfl
theorem editionPublish : ∀ a0 a1, Statement (.editionPublish a0 a1) := fun _ _ => none_carried rfl rfl
theorem editionSwitch : Statement .editionSwitch := none_carried rfl rfl
theorem oldcntLatch : Statement .oldcntLatch := none_carried rfl rfl
theorem shaperRefill : Statement .shaperRefill := none_carried rfl rfl
theorem dltCounterRead : ∀ a0 a1, Statement (.dltCounterRead a0 a1) := fun _ _ => none_carried rfl rfl
theorem braidTraining : ∀ a0 a1 a2, Statement (.braidTraining a0 a1 a2) := fun _ _ _ => none_carried rfl rfl
theorem roleAssignment : Statement .roleAssignment := none_carried rfl rfl
theorem flitReceive : ∀ a0 a1 a2 a3, Statement (.flitReceive a0 a1 a2 a3) := fun _ _ _ _ => none_carried rfl rfl
theorem leveeReplay : ∀ a0 a1 a2, Statement (.leveeReplay a0 a1 a2) := fun _ _ _ => none_carried rfl rfl
theorem leveeIdent : ∀ a0 a1 a2 a3, Statement (.leveeIdent a0 a1 a2 a3) := fun _ _ _ _ => none_carried rfl rfl
theorem turn : ∀ a0 a1 a2 a3 a4 a5, Statement (.turn a0 a1 a2 a3 a4 a5) := fun _ _ _ _ _ _ => none_carried rfl rfl
theorem leveeRtReq : ∀ a0 a1 a2 a3 a4, Statement (.leveeRtReq a0 a1 a2 a3 a4) := fun _ _ _ _ _ => none_carried rfl rfl
theorem leveeRtRsp : ∀ a0 a1 a2 a3, Statement (.leveeRtRsp a0 a1 a2 a3) := fun _ _ _ _ => none_carried rfl rfl
theorem leveeRtDone : ∀ a0 a1 a2, Statement (.leveeRtDone a0 a1 a2) := fun _ _ _ => none_carried rfl rfl
theorem braidRetrainComplete : ∀ a0 a1, Statement (.braidRetrainComplete a0 a1) := fun _ _ => none_carried rfl rfl
theorem laneLoss : ∀ a0 a1 a2, Statement (.laneLoss a0 a1 a2) := fun _ _ _ => none_carried rfl rfl
theorem surveyStep : ∀ a0, Statement (.surveyStep a0) := fun _ => none_carried rfl rfl
theorem svyShadow : ∀ a0 a1 a2, Statement (.svyShadow a0 a1 a2) := fun _ _ _ => none_carried rfl rfl
theorem svyMove : ∀ a0 a1 a2 a3, Statement (.svyMove a0 a1 a2 a3) := fun _ _ _ _ => none_carried rfl rfl
theorem surveyCalibrationDone : ∀ a0 a1 a2 a3, Statement (.surveyCalibrationDone a0 a1 a2 a3) := fun _ _ _ _ => none_carried rfl rfl
theorem svyReturn : ∀ a0 a1 a2, Statement (.svyReturn a0 a1 a2) := fun _ _ _ => none_carried rfl rfl
theorem margin : ∀ a0 a1 a2 a3, Statement (.margin a0 a1 a2 a3) := fun _ _ _ _ => none_carried rfl rfl
theorem leveeLoopback : ∀ a0 a1 a2 a3, Statement (.leveeLoopback a0 a1 a2 a3) := fun _ _ _ _ => none_carried rfl rfl
theorem leveeLoopbackEnd : ∀ a0 a1 a2 a3, Statement (.leveeLoopbackEnd a0 a1 a2 a3) := fun _ _ _ _ => none_carried rfl rfl
theorem levCounterRead : ∀ a0 a1 a2, Statement (.levCounterRead a0 a1 a2) := fun _ _ _ => none_carried rfl rfl
theorem hbmRequest : ∀ a0 a1 a2, Statement (.hbmRequest a0 a1 a2) := fun _ a1 _ => packet_carried a1 rfl rfl rfl
theorem refreshCommand : ∀ a0 a1 a2, Statement (.refreshCommand a0 a1 a2) := fun _ _ _ => none_carried rfl rfl
theorem stackTemperatureSample : ∀ a0 a1, Statement (.stackTemperatureSample a0 a1) := fun _ _ => none_carried rfl rfl
theorem stackTest : ∀ a0 a1 a2 a3, Statement (.stackTest a0 a1 a2 a3) := fun _ _ _ _ => none_carried rfl rfl
theorem hbsCounterRead : ∀ a0 a1, Statement (.hbsCounterRead a0 a1) := fun _ _ => none_carried rfl rfl
theorem larreFraming : ∀ a0 a1, Statement (.larreFraming a0 a1) := fun _ a1 => packet_carried a1 rfl rfl rfl
theorem larreDirect : ∀ a0 a1 a2 a3, Statement (.larreDirect a0 a1 a2 a3) := fun _ _ a2 _ => frame_carried a2 rfl rfl rfl
theorem larreRead : ∀ a0 a1 a2 a3 a4, Statement (.larreRead a0 a1 a2 a3 a4) := fun _ _ a2 _ _ => frame_carried a2 rfl rfl rfl
theorem larreE2eAck : ∀ a0 a1 a2 a3, Statement (.larreE2eAck a0 a1 a2 a3) := fun _ _ a2 _ => frame_carried a2 rfl rfl rfl
theorem larreAck : ∀ a0 a1 a2 a3 a4 a5 a6, Statement (.larreAck a0 a1 a2 a3 a4 a5 a6) := fun _ _ _ _ _ _ _ => none_carried rfl rfl
theorem larreAckTimer : ∀ a0 a1, Statement (.larreAckTimer a0 a1) := fun _ _ => none_carried rfl rfl
theorem replayTimerExpiry : ∀ a0 a1, Statement (.replayTimerExpiry a0 a1) := fun _ _ => none_carried rfl rfl
theorem larreIdent : ∀ a0 a1 a2 a3 a4 a5, Statement (.larreIdent a0 a1 a2 a3 a4 a5) := fun _ _ _ _ _ _ => none_carried rfl rfl
theorem larreRtReq : ∀ a0 a1 a2 a3 a4, Statement (.larreRtReq a0 a1 a2 a3 a4) := fun _ _ _ _ _ => none_carried rfl rfl
theorem larreRtRsp : ∀ a0 a1 a2 a3, Statement (.larreRtRsp a0 a1 a2 a3) := fun _ _ _ _ => none_carried rfl rfl
theorem larreRtDone : ∀ a0 a1 a2, Statement (.larreRtDone a0 a1 a2) := fun _ _ _ => none_carried rfl rfl
theorem larreRetrainLock : ∀ a0 a1 a2, Statement (.larreRetrainLock a0 a1 a2) := fun _ _ _ => none_carried rfl rfl
theorem fecUncorrectedThreshold : ∀ a0 a1 a2 a3, Statement (.fecUncorrectedThreshold a0 a1 a2 a3) := fun _ _ _ _ => none_carried rfl rfl
theorem laneLockLoss : ∀ a0 a1, Statement (.laneLockLoss a0 a1) := fun _ _ => none_carried rfl rfl
theorem larreEditionWrite : ∀ a0, Statement (.larreEditionWrite a0) := fun _ => none_carried rfl rfl
theorem larreEditionArm : ∀ a0, Statement (.larreEditionArm a0) := fun _ => none_carried rfl rfl
theorem larreEditionSwitch : Statement .larreEditionSwitch := none_carried rfl rfl
theorem larreOldcntLatch : Statement .larreOldcntLatch := none_carried rfl rfl
theorem larreEditionRetire : Statement .larreEditionRetire := none_carried rfl rfl
theorem ethernetFrame : ∀ a0 a1 a2, Statement (.ethernetFrame a0 a1 a2) := fun _ _ _ => none_carried rfl rfl
theorem oxbowOpen : ∀ a0, Statement (.oxbowOpen a0) := fun _ => none_carried rfl rfl
theorem oxbowClose : ∀ a0, Statement (.oxbowClose a0) := fun _ => none_carried rfl rfl
theorem oxbowMoveComplete : ∀ a0, Statement (.oxbowMoveComplete a0) := fun _ => none_carried rfl rfl
theorem estuaryLoopback : ∀ a0 a1 a2 a3, Statement (.estuaryLoopback a0 a1 a2 a3) := fun _ _ _ _ => none_carried rfl rfl
theorem estuaryLoopbackEnd : ∀ a0 a1, Statement (.estuaryLoopbackEnd a0 a1) := fun _ _ => none_carried rfl rfl
theorem estCounterRead : ∀ a0 a1, Statement (.estCounterRead a0 a1) := fun _ _ => none_carried rfl rfl
theorem lrlCounterRead : ∀ a0 a1 a2, Statement (.lrlCounterRead a0 a1 a2) := fun _ _ _ => none_carried rfl rfl
theorem ppsOnTimeEdge : ∀ a0, Statement (.ppsOnTimeEdge a0) := fun _ => none_carried rfl rfl
theorem timeFrame : ∀ a0 a1 a2 a3 a4, Statement (.timeFrame a0 a1 a2 a3 a4) := fun _ _ _ _ _ => none_carried rfl rfl
theorem ptpSync : ∀ a0, Statement (.ptpSync a0) := fun _ => none_carried rfl rfl
theorem meridInLoss : Statement .meridInLoss := none_carried rfl rfl
theorem localOscillatorFallback : Statement .localOscillatorFallback := none_carried rfl rfl
theorem meridianMarker : ∀ a0 a1 a2, Statement (.meridianMarker a0 a1 a2) := fun _ _ _ => none_carried rfl rfl
theorem dieUnlockedTimeout : ∀ a0, Statement (.dieUnlockedTimeout a0) := fun _ => none_carried rfl rfl
theorem treeDelayMeasure : ∀ a0 a1, Statement (.treeDelayMeasure a0 a1) := fun _ _ => none_carried rfl rfl
theorem merRelayClose : Statement .merRelayClose := none_carried rfl rfl
theorem expertTimeStep : ∀ a0, Statement (.expertTimeStep a0) := fun _ => none_carried rfl rfl
theorem calendarBankLoad : ∀ a0, Statement (.calendarBankLoad a0) := fun _ => none_carried rfl rfl
theorem calendarArm : ∀ a0 a1, Statement (.calendarArm a0 a1) := fun _ _ => none_carried rfl rfl
theorem calendarBankSwitch : ∀ a0 a1, Statement (.calendarBankSwitch a0 a1) := fun _ _ => none_carried rfl rfl
theorem calendarWindowOpen : ∀ a0 a1 a2, Statement (.calendarWindowOpen a0 a1 a2) := fun _ _ _ => none_carried rfl rfl
theorem heartbeatSend : Statement .heartbeatSend := none_carried rfl rfl
theorem heartbeat : ∀ a0 a1 a2 a3 a4 a5 a6, Statement (.heartbeat a0 a1 a2 a3 a4 a5 a6) := fun _ _ _ _ _ _ _ => none_carried rfl rfl
theorem heartbeatTickEnd : ∀ a0, Statement (.heartbeatTickEnd a0) := fun _ => none_carried rfl rfl
theorem cnfFence : Statement .cnfFence := none_carried rfl rfl
theorem rewindRequest : Statement .rewindRequest := none_carried rfl rfl
theorem accuse : ∀ a0 a1 a2 a3, Statement (.accuse a0 a1 a2 a3) := fun _ _ _ _ => none_carried rfl rfl
theorem ballot : ∀ a0 a1 a2 a3, Statement (.ballot a0 a1 a2 a3) := fun _ _ _ _ => none_carried rfl rfl
theorem voteRound1Deadline : Statement .voteRound1Deadline := none_carried rfl rfl
theorem decide : ∀ a0 a1 a2 a3, Statement (.decide a0 a1 a2 a3) := fun _ _ _ _ => none_carried rfl rfl
theorem voteFreeze : Statement .voteFreeze := none_carried rfl rfl
theorem verdict : ∀ a0 a1 a2 a3 a4 a5 a6 a7, Statement (.verdict a0 a1 a2 a3 a4 a5 a6 a7) := fun _ _ _ _ _ _ _ _ => none_carried rfl rfl
theorem confluenceStop : ∀ a0 a1 a2, Statement (.confluenceStop a0 a1 a2) := fun _ _ _ => none_carried rfl rfl
theorem verdictSwitch : Statement .verdictSwitch := none_carried rfl rfl
theorem pullComplete : ∀ a0 a1, Statement (.pullComplete a0 a1) := fun _ _ => none_carried rfl rfl
theorem epochCloseArm : ∀ a0, Statement (.epochCloseArm a0) := fun _ => none_carried rfl rfl
theorem epochClose : Statement .epochClose := none_carried rfl rfl
theorem mirrorDrainDone : Statement .mirrorDrainDone := none_carried rfl rfl
theorem drainLimitExpiry : Statement .drainLimitExpiry := none_carried rfl rfl
theorem plotDigestDone : ∀ a0, Statement (.plotDigestDone a0) := fun _ => none_carried rfl rfl
theorem digest : ∀ a0 a1 a2 a3 a4 a5, Statement (.digest a0 a1 a2 a3 a4 a5) := fun _ _ _ _ _ _ => none_carried rfl rfl
theorem dmatch : ∀ a0 a1 a2 a3 a4, Statement (.dmatch a0 a1 a2 a3 a4) := fun _ _ _ _ _ => none_carried rfl rfl
theorem epochOk : ∀ a0 a1 a2, Statement (.epochOk a0 a1 a2) := fun _ _ _ => none_carried rfl rfl
theorem closeWindowExpiry : Statement .closeWindowExpiry := none_carried rfl rfl
theorem cnfCounterRead : ∀ a0, Statement (.cnfCounterRead a0) := fun _ => none_carried rfl rfl
theorem partitionWrite : ∀ a0 a1, Statement (.partitionWrite a0 a1) := fun _ _ => none_carried rfl rfl
theorem tenantDrainDone : ∀ a0, Statement (.tenantDrainDone a0) := fun _ => none_carried rfl rfl
theorem tenantDrainLimit : ∀ a0, Statement (.tenantDrainLimit a0) := fun _ => none_carried rfl rfl
theorem plotChange : ∀ a0 a1 a2 a3, Statement (.plotChange a0 a1 a2 a3) := fun _ _ _ _ => none_carried rfl rfl
theorem plotVersionDrained : Statement .plotVersionDrained := none_carried rfl rfl
theorem channelCreate : ∀ a0 a1 a2, Statement (.channelCreate a0 a1 a2) := fun _ _ _ => none_carried rfl rfl
theorem channelDestroy : ∀ a0 a1 a2, Statement (.channelDestroy a0 a1 a2) := fun _ _ _ => none_carried rfl rfl
theorem doorbell : ∀ a0 a1 a2 a3 a4 a5, Statement (.doorbell a0 a1 a2 a3 a4 a5) := fun _ _ _ _ _ _ => none_carried rfl rfl
theorem run : ∀ a0, Statement (.run a0) := fun _ => none_carried rfl rfl
theorem dmaEntry : ∀ a0, Statement (.dmaEntry a0) := fun _ => none_carried rfl rfl
theorem fenceEntry : ∀ a0, Statement (.fenceEntry a0) := fun _ => none_carried rfl rfl
theorem signalEntry : ∀ a0, Statement (.signalEntry a0) := fun _ => none_carried rfl rfl
theorem runComplete : ∀ a0, Statement (.runComplete a0) := fun _ => none_carried rfl rfl
theorem hostDmaComplete : ∀ a0 a1 a2 a3, Statement (.hostDmaComplete a0 a1 a2 a3) := fun _ _ _ _ => none_carried rfl rfl
theorem timeSliceExpiry : ∀ a0, Statement (.timeSliceExpiry a0) := fun _ => none_carried rfl rfl
theorem chartYielded : ∀ a0 a1, Statement (.chartYielded a0 a1) := fun _ _ => none_carried rfl rfl
theorem yieldResume : ∀ a0 a1, Statement (.yieldResume a0 a1) := fun _ _ => none_carried rfl rfl
theorem partitionHalt : ∀ a0 a1, Statement (.partitionHalt a0 a1) := fun _ _ => none_carried rfl rfl
theorem haltRelease : ∀ a0 a1 a2, Statement (.haltRelease a0 a1 a2) := fun _ _ _ => none_carried rfl rfl
theorem haltComplete : ∀ a0, Statement (.haltComplete a0) := fun _ => none_carried rfl rfl
theorem chnStaleRead : Statement .chnStaleRead := none_carried rfl rfl
theorem haltDoorbell : ∀ a0 a1 a2, Statement (.haltDoorbell a0 a1 a2) := fun _ _ _ => none_carried rfl rfl
theorem functionLevelReset : ∀ a0 a1, Statement (.functionLevelReset a0 a1) := fun _ _ => none_carried rfl rfl
theorem perstNAssert : ∀ a0, Statement (.perstNAssert a0) := fun _ => none_carried rfl rfl
theorem perstNDeassert : ∀ a0, Statement (.perstNDeassert a0) := fun _ => none_carried rfl rfl
theorem hostLinkDown : ∀ a0, Statement (.hostLinkDown a0) := fun _ => none_carried rfl rfl
theorem promotionDeadline : Statement .promotionDeadline := none_carried rfl rfl
theorem roleRequest : ∀ a0 a1, Statement (.roleRequest a0 a1) := fun _ _ => none_carried rfl rfl
theorem roleWindowDecision : Statement .roleWindowDecision := none_carried rfl rfl
theorem hostReadTimeout : ∀ a0, Statement (.hostReadTimeout a0) := fun _ => none_carried rfl rfl
theorem ideIntegrityFailure : ∀ a0 a1, Statement (.ideIntegrityFailure a0 a1) := fun _ _ => none_carried rfl rfl
theorem podDoorbell : ∀ a0 a1 a2 a3, Statement (.podDoorbell a0 a1 a2 a3) := fun _ _ _ _ => none_carried rfl rfl
theorem podPathLoss : ∀ a0 a1, Statement (.podPathLoss a0 a1) := fun _ _ => none_carried rfl rfl
theorem lapRead : ∀ a0, Statement (.lapRead a0) := fun _ => none_carried rfl rfl
theorem lapWrite : ∀ a0 a1 a2 a3, Statement (.lapWrite a0 a1 a2 a3) := fun _ _ _ _ => none_carried rfl rfl
theorem lapDescribe : ∀ a0, Statement (.lapDescribe a0) := fun _ => none_carried rfl rfl
theorem segReadStart : ∀ a0, Statement (.segReadStart a0) := fun _ => none_carried rfl rfl
theorem segRead : ∀ a0 a1 a2 a3, Statement (.segRead a0 a1 a2 a3) := fun _ _ _ _ => none_carried rfl rfl
theorem segWriteStart : ∀ a0 a1, Statement (.segWriteStart a0 a1) := fun _ _ => none_carried rfl rfl
theorem segWrite : ∀ a0 a1 a2 a3, Statement (.segWrite a0 a1 a2 a3) := fun _ _ _ _ => none_carried rfl rfl
theorem segWriteEnd : ∀ a0 a1 a2, Statement (.segWriteEnd a0 a1 a2) := fun _ _ _ => none_carried rfl rfl
theorem segAbort : ∀ a0 a1, Statement (.segAbort a0 a1) := fun _ _ => none_carried rfl rfl
theorem lapOpen : ∀ a0 a1 a2 a3 a4, Statement (.lapOpen a0 a1 a2 a3 a4) := fun _ _ _ _ _ => none_carried rfl rfl
theorem lapClose : ∀ a0, Statement (.lapClose a0) := fun _ => none_carried rfl rfl
theorem lapPing : ∀ a0, Statement (.lapPing a0) := fun _ => none_carried rfl rfl
theorem sessionExpiry : ∀ a0, Statement (.sessionExpiry a0) := fun _ => none_carried rfl rfl
theorem transferIdleExpiry : ∀ a0, Statement (.transferIdleExpiry a0) := fun _ => none_carried rfl rfl
theorem hostSuppliedRestored : Statement .hostSuppliedRestored := none_carried rfl rfl
theorem getVersion : ∀ a0, Statement (.getVersion a0) := fun _ => none_carried rfl rfl
theorem getCapabilities : ∀ a0, Statement (.getCapabilities a0) := fun _ => none_carried rfl rfl
theorem negotiateAlgorithms : ∀ a0 a1, Statement (.negotiateAlgorithms a0 a1) := fun _ _ => none_carried rfl rfl
theorem getDigests : ∀ a0, Statement (.getDigests a0) := fun _ => none_carried rfl rfl
theorem getCertificate : ∀ a0 a1 a2 a3, Statement (.getCertificate a0 a1 a2 a3) := fun _ _ _ _ => none_carried rfl rfl
theorem challenge : ∀ a0 a1 a2, Statement (.challenge a0 a1 a2) := fun _ _ _ => none_carried rfl rfl
theorem getMeasurements : ∀ a0 a1 a2, Statement (.getMeasurements a0 a1 a2) := fun _ _ _ => none_carried rfl rfl
theorem keyExchange : ∀ a0, Statement (.keyExchange a0) := fun _ => none_carried rfl rfl
theorem finish : ∀ a0 a1 a2 a3, Statement (.finish a0 a1 a2 a3) := fun _ _ _ _ => none_carried rfl rfl
theorem keyUpdate : ∀ a0 a1, Statement (.keyUpdate a0 a1) := fun _ _ => none_carried rfl rfl
theorem spdmHeartbeat : ∀ a0 a1, Statement (.spdmHeartbeat a0 a1) := fun _ _ => none_carried rfl rfl
theorem endSession : ∀ a0 a1, Statement (.endSession a0 a1) := fun _ _ => none_carried rfl rfl
theorem keyProg : ∀ a0 a1 a2 a3 a4 a5 a6 a7, Statement (.keyProg a0 a1 a2 a3 a4 a5 a6 a7) := fun _ _ _ _ _ _ _ _ => none_carried rfl rfl
theorem keySetGo : ∀ a0 a1 a2 a3 a4 a5 a6, Statement (.keySetGo a0 a1 a2 a3 a4 a5 a6) := fun _ _ _ _ _ _ _ => none_carried rfl rfl
theorem keySetStop : ∀ a0 a1 a2 a3 a4 a5 a6, Statement (.keySetStop a0 a1 a2 a3 a4 a5 a6) := fun _ _ _ _ _ _ _ => none_carried rfl rfl
theorem ideQuery : ∀ a0 a1 a2, Statement (.ideQuery a0 a1 a2) := fun _ _ _ => none_carried rfl rfl
theorem keyPathLoad : ∀ a0 a1 a2 a3, Statement (.keyPathLoad a0 a1 a2 a3) := fun _ _ _ _ => none_carried rfl rfl
theorem keyPathClearSlot : ∀ a0 a1 a2, Statement (.keyPathClearSlot a0 a1 a2) := fun _ _ _ => none_carried rfl rfl
theorem keyPathClearAll : ∀ a0 a1, Statement (.keyPathClearAll a0 a1) := fun _ _ => none_carried rfl rfl
theorem keyPathKat : ∀ a0 a1 a2, Statement (.keyPathKat a0 a1 a2) := fun _ _ _ => none_carried rfl rfl
theorem onDemandSelfTest : ∀ a0, Statement (.onDemandSelfTest a0) := fun _ => none_carried rfl rfl
theorem zeroizeCommand : Statement .zeroizeCommand := none_carried rfl rfl
theorem endOfLife : ∀ a0, Statement (.endOfLife a0) := fun _ => none_carried rfl rfl
theorem anchorWrite : ∀ a0 a1, Statement (.anchorWrite a0 a1) := fun _ _ => none_carried rfl rfl
theorem anchorRevoke : ∀ a0, Statement (.anchorRevoke a0) := fun _ => none_carried rfl rfl
theorem approvedFuse : ∀ a0, Statement (.approvedFuse a0) := fun _ => none_carried rfl rfl
theorem testedWithOverride : ∀ a0, Statement (.testedWithOverride a0) := fun _ => none_carried rfl rfl
theorem imageBroadcastDone : ∀ a0, Statement (.imageBroadcastDone a0) := fun _ => none_carried rfl rfl
theorem componentViolation : ∀ a0 a1, Statement (.componentViolation a0 a1) := fun _ _ => none_carried rfl rfl
theorem componentWatchdogExpiry : ∀ a0, Statement (.componentWatchdogExpiry a0) := fun _ => none_carried rfl rfl
theorem componentRestartDone : ∀ a0 a1, Statement (.componentRestartDone a0 a1) := fun _ _ => none_carried rfl rfl
theorem lkfWatchdogExpiry : ∀ a0, Statement (.lkfWatchdogExpiry a0) := fun _ => none_carried rfl rfl
theorem sbfWatchdogExpiry : ∀ a0, Statement (.sbfWatchdogExpiry a0) := fun _ => none_carried rfl rfl
theorem lmcWatchdogExpiry : ∀ a0, Statement (.lmcWatchdogExpiry a0) := fun _ => none_carried rfl rfl
theorem startPartComplete : ∀ a0, Statement (.startPartComplete a0) := fun _ => none_carried rfl rfl
theorem estuaryPartTimeout : Statement .estuaryPartTimeout := none_carried rfl rfl
theorem waveStart : Statement .waveStart := none_carried rfl rfl
theorem panelResetAssert : Statement .panelResetAssert := none_carried rfl rfl
theorem panelResetRelease : ∀ a0 a1, Statement (.panelResetRelease a0 a1) := fun _ _ => none_carried rfl rfl
theorem resetStuck : ∀ a0 a1, Statement (.resetStuck a0 a1) := fun _ _ => none_carried rfl rfl
theorem resetUnmask : Statement .resetUnmask := none_carried rfl rfl
theorem pmbusIdentify : ∀ a0, Statement (.pmbusIdentify a0) := fun _ => none_carried rfl rfl
theorem pmbusStatusPoll : ∀ a0, Statement (.pmbusStatusPoll a0) := fun _ => none_carried rfl rfl
theorem vinSag : Statement .vinSag := none_carried rfl rfl
theorem vinUndervoltage : Statement .vinUndervoltage := none_carried rfl rfl
theorem vinOvervoltage : Statement .vinOvervoltage := none_carried rfl rfl
theorem vinRecovery : ∀ a0 a1, Statement (.vinRecovery a0 a1) := fun _ _ => none_carried rfl rfl
theorem pwrEnAssert : ∀ a0 a1, Statement (.pwrEnAssert a0 a1) := fun _ _ => none_carried rfl rfl
theorem pwrEnDeassert : Statement .pwrEnDeassert := none_carried rfl rfl
theorem railInWindow : ∀ a0, Statement (.railInWindow a0) := fun _ => none_carried rfl rfl
theorem railRampTimeout : ∀ a0 a1 a2, Statement (.railRampTimeout a0 a1 a2) := fun _ _ _ => none_carried rfl rfl
theorem railOff : ∀ a0, Statement (.railOff a0) := fun _ => none_carried rfl rfl
theorem railOffTimeout : ∀ a0 a1, Statement (.railOffTimeout a0 a1) := fun _ _ => none_carried rfl rfl
theorem railLeavesWindow : ∀ a0 a1, Statement (.railLeavesWindow a0 a1) := fun _ _ => none_carried rfl rfl
theorem offTimeEnd : ∀ a0 a1, Statement (.offTimeEnd a0 a1) := fun _ _ => none_carried rfl rfl
theorem domainFault : ∀ a0, Statement (.domainFault a0) := fun _ => none_carried rfl rfl
theorem sensorDrop : ∀ a0 a1, Statement (.sensorDrop a0 a1) := fun _ _ => none_carried rfl rfl
theorem wakeTokenRequest : ∀ a0, Statement (.wakeTokenRequest a0) := fun _ => none_carried rfl rfl
theorem wakeTokenGrant : ∀ a0, Statement (.wakeTokenGrant a0) := fun _ => none_carried rfl rfl
theorem wakeStage : ∀ a0 a1, Statement (.wakeStage a0 a1) := fun _ _ => none_carried rfl rfl
theorem wakeTokenReturn : ∀ a0 a1, Statement (.wakeTokenReturn a0 a1) := fun _ _ => none_carried rfl rfl
theorem wakeTokenTimeout : ∀ a0, Statement (.wakeTokenTimeout a0) := fun _ => none_carried rfl rfl
theorem fractureInterval : ∀ a0 a1 a2, Statement (.fractureInterval a0 a1 a2) := fun _ _ _ => none_carried rfl rfl
theorem pllLockLoss : ∀ a0 a1, Statement (.pllLockLoss a0 a1) := fun _ _ => none_carried rfl rfl
theorem pllNoneTimeout : ∀ a0, Statement (.pllNoneTimeout a0) := fun _ => none_carried rfl rfl
theorem stepRecompute : ∀ a0, Statement (.stepRecompute a0) := fun _ => none_carried rfl rfl
theorem stepRelockDone : ∀ a0, Statement (.stepRelockDone a0) := fun _ => none_carried rfl rfl
theorem setpointSettled : ∀ a0, Statement (.setpointSettled a0) := fun _ => none_carried rfl rfl
theorem dieTemperatureSample : ∀ a0 a1, Statement (.dieTemperatureSample a0 a1) := fun _ _ => none_carried rfl rfl
theorem thermTripRelease : Statement .thermTripRelease := none_carried rfl rfl
theorem marginSample : ∀ a0 a1, Statement (.marginSample a0 a1) := fun _ _ => none_carried rfl rfl
theorem engineTemperatureSample : ∀ a0 a1, Statement (.engineTemperatureSample a0 a1) := fun _ _ => none_carried rfl rfl
theorem powerManagerCheck : ∀ a0 a1, Statement (.powerManagerCheck a0 a1) := fun _ _ => none_carried rfl rfl
theorem clkChgRead : ∀ a0, Statement (.clkChgRead a0) := fun _ => none_carried rfl rfl
theorem thmMaxRead : ∀ a0, Statement (.thmMaxRead a0) := fun _ => none_carried rfl rfl
theorem loopbackRequest : ∀ a0 a1, Statement (.loopbackRequest a0 a1) := fun _ _ => none_carried rfl rfl
theorem sramSelfTestRequest : ∀ a0, Statement (.sramSelfTestRequest a0) := fun _ => none_carried rfl rfl
theorem stackTestRequest : ∀ a0, Statement (.stackTestRequest a0) := fun _ => none_carried rfl rfl
theorem diagnosticRunEnd : ∀ a0 a1 a2 a3 a4, Statement (.diagnosticRunEnd a0 a1 a2 a3 a4) := fun _ _ _ _ _ => none_carried rfl rfl
theorem faultLogClear : Statement .faultLogClear := none_carried rfl rfl
theorem eventCountForward : ∀ a0, Statement (.eventCountForward a0) := fun _ => none_carried rfl rfl
theorem faultEventReceived : Statement .faultEventReceived := none_carried rfl rfl
theorem slotPresentDeassert : Statement .slotPresentDeassert := none_carried rfl rfl
theorem registerWrite : ∀ a0 a1 a2, Statement (.registerWrite a0 a1 a2) := fun _ _ _ => none_carried rfl rfl
theorem vHkPowerOn : ∀ a0 a1, Statement (.vHkPowerOn a0 a1) := fun _ _ => none_carried rfl rfl
theorem vHkLoss : Statement .vHkLoss := none_carried rfl rfl
theorem hostLinkUp : ∀ a0 a1, Statement (.hostLinkUp a0 a1) := fun _ _ => none_carried rfl rfl
theorem primarySelectionTimeout : Statement .primarySelectionTimeout := none_carried rfl rfl
theorem estuaryPortTrained : ∀ a0 a1, Statement (.estuaryPortTrained a0 a1) := fun _ _ => none_carried rfl rfl
theorem surveyorDieTemperatureSample : ∀ a0 a1, Statement (.surveyorDieTemperatureSample a0 a1) := fun _ _ => none_carried rfl rfl
theorem surveyorSupplyFault : ∀ a0, Statement (.surveyorSupplyFault a0) := fun _ => none_carried rfl rfl
theorem meridianRelayMoveComplete : Statement .meridianRelayMoveComplete := none_carried rfl rfl
theorem faultLogFlashWrite : Statement .faultLogFlashWrite := none_carried rfl rfl
theorem sessionExpiryWarning : ∀ a0, Statement (.sessionExpiryWarning a0) := fun _ => none_carried rfl rfl

end Sys2Proof.Laws.WellFormed
end

