-- ==== Sys2Proof/Laws/Scratchpad.lean ====
section
/-!
SUPPORT. Scratchpad reads and writes of words without errors: the bytes are the memory's, and nothing is recorded.
-/
namespace Sys2Proof.Machine

theorem leBytes_leNat : ∀ {n : Nat} {l : List Byte}, l.length = n → leBytes n (leNat l) = l
  | 0, [], _ => rfl
  | n + 1, b :: t, h => by
    have hb := b.isLt
    simp only [leNat, leBytes]
    rw [show (b.toNat + 256 * leNat t) / 256 = leNat t by omega, leBytes_leNat (by simpa using h)]
    congr 1
    apply BitVec.eq_of_toNat_eq
    rw [BitVec.toNat_ofNat]; omega

theorem span_succ (a n : Nat) : span a (n + 1) = a :: span (a + 1) n := by
  simp only [span, List.range_succ_eq_map, List.map_cons, List.map_map, Nat.add_zero, List.cons.injEq, true_and]
  apply List.map_congr_left; intro x _; simp; omega

theorem span_length (a n : Nat) : (span a n).length = n := by simp [span]

theorem Memory.readN_length (m : List Host.Cell) (a n : Nat) : (Memory.readN m a n).length = n := by simp [Memory.readN, span_length]

theorem Memory.readN_succ (m : List Host.Cell) (a n : Nat) : Memory.readN m a (n + 1) = Memory.read m a :: Memory.readN m (a + 1) n := by
  simp [Memory.readN, span_succ]

theorem Memory.readN_add (m : List Host.Cell) (a n k : Nat) : Memory.readN m a (n + k) = Memory.readN m a n ++ Memory.readN m (a + n) k := by
  induction n generalizing a with
  | zero => simp [Memory.readN, span]
  | succ n ih => rw [show n + 1 + k = (n + k) + 1 by omega, Memory.readN_succ, Memory.readN_succ, ih, show a + (n + 1) = a + 1 + n by omega]; rfl

theorem Memory.readN_slice (m : List Host.Cell) (a i n k : Nat) (h : i + n ≤ k) : ((Memory.readN m a k).drop i).take n = Memory.readN m (a + i) n := by
  have : k = i + (n + (k - i - n)) := by omega
  rw [this, Memory.readN_add, Memory.readN_add, List.drop_append_of_le_length (by simp [Memory.readN_length]),
    List.drop_of_length_le (by simp [Memory.readN_length]), List.nil_append, List.take_append_of_le_length (by simp [Memory.readN_length]),
    List.take_of_length_le (by simp [Memory.readN_length])]

theorem syndrome_zero : syndrome 0 = 0 := by
  have h : ∀ l : List Nat, (∀ x ∈ l, x = 0) → l.foldl Nat.xor 0 = 0 := by
    intro l
    induction l with
    | nil => intro _; rfl
    | cons x t ih =>
      intro h
      rw [List.foldl_cons, h x (by simp), show Nat.xor 0 0 = 0 from rfl]
      exact ih fun y hy => h y (by simp [hy])
  apply h
  intro x hx
  rw [List.mem_mapIdx] at hx
  obtain ⟨i, hi, rfl⟩ := hx
  simp

theorem eccDecode_zero : eccDecode 0 = .clean := by simp only [eccDecode, syndrome_zero]; rfl

/-- R224: a word without errors is read as it is stored, and nothing is recorded. -/
theorem Spd.readWord_clean {s : Spd} {port w : Nat} (h : Tbl.get 0 s.bad w = 0) : s.readWord port w = (s.rawWord w, false, s) := by
  simp only [Spd.readWord, h, eccDecode_zero, eccData]
  simp [Nat.xor_zero, show ∀ x, Nat.xor x 0 = x from Nat.xor_zero]

theorem Spd.readWords_clean {s : Spd} {port : Nat} : ∀ {ws : List Nat}, (∀ w ∈ ws, Tbl.get 0 s.bad w = 0) →
    s.readWords port ws = (ws.map fun w => (s.rawWord w, false), s)
  | [], _ => rfl
  | w :: t, h => by
    simp only [Spd.readWords, Spd.readWord_clean (h w (by simp))]
    rw [Spd.readWords_clean fun x hx => h x (by simp [hx])]
    rfl

theorem rawBytes (s : Spd) (w : Nat) : leBytes 8 (s.rawWord w) = Memory.readN s.mem (8 * w) 8 := leBytes_leNat (Memory.readN_length ..)

theorem words_bytes (s : Spd) : ∀ (n a : Nat), (((span a n).map fun w => leBytes 8 (s.rawWord w)).flatten) = Memory.readN s.mem (8 * a) (8 * n)
  | 0, _ => rfl
  | n + 1, a => by
    rw [span_succ, List.map_cons, List.flatten_cons, words_bytes s n, rawBytes, show 8 * (n + 1) = 8 + 8 * n by omega, Memory.readN_add,
      show 8 * (a + 1) = 8 * a + 8 by omega]

/-- R224: bytes of words without errors are read as they are stored, without poison, and nothing is recorded. -/
theorem Spd.read_clean {s : Spd} {port off len : Nat} (h : ∀ w ∈ wordsOf off len, Tbl.get 0 s.bad w = 0) :
    s.read port off len = ⟨(Memory.readN s.mem off len).map fun b => (b, false), false, s⟩ := by
  simp only [Spd.read, Spd.readWords_clean h, List.map_map, SpdRead.mk.injEq, and_true]
  refine ⟨?_, by simp [Function.comp_def]⟩
  have e : ∀ l : List Nat, (l.map ((fun x : Nat × Bool => (leBytes 8 x.1).map fun b => (b, x.2)) ∘ fun w => (s.rawWord w, false))).flatten
      = ((l.map fun w => leBytes 8 (s.rawWord w)).flatten).map fun b => (b, false) := by
    intro l; induction l with
    | nil => rfl
    | cons x t ih => simp only [List.map_cons, List.flatten_cons, List.map_append, ih]; rfl
  refine (congrArg (fun l => (l.drop (off % 8)).take len) (e (wordsOf off len))).trans ?_
  rw [← List.map_drop, ← List.map_take]
  congr 1
  by_cases hl : len = 0
  · subst hl; simp [Memory.readN, span]
  · simp only [wordsOf, hl, if_false]
    rw [words_bytes, Memory.readN_slice _ _ _ _ _ (by omega)]
    congr 1; omega

/-! Writes -/

/-- Bytes written are read back, and every other address reads as before. -/
theorem Memory.read_writeN : ∀ {bs : List Byte} {m : List Host.Cell} {a : Nat}, Memory.wf m = true → ∀ x,
    Memory.read (Memory.writeN m a bs) x = if a ≤ x ∧ x < a + bs.length then bs.getD (x - a) 0 else Memory.read m x
  | [], m, a, _, x => by simp [Memory.writeN]
  | b :: t, m, a, h, x => by
    rw [Memory.writeN, Memory.read_writeN (Memory.wf_write h _ _) x, Memory.read_write h]
    by_cases h1 : x = a
    · subst h1; simp
    · by_cases h2 : a + 1 ≤ x ∧ x < a + 1 + t.length
      · rw [if_pos h2, if_pos (by simp; omega)]
        rw [show x - a = (x - (a + 1)) + 1 by omega]; rfl
      · rw [if_neg h2, if_neg h1, if_neg (by simp; omega)]

/-- Writing what is there changes no byte. -/
theorem Memory.read_writeN_same {m : List Host.Cell} (h : Memory.wf m = true) (a n x : Nat) :
    Memory.read (Memory.writeN m a (Memory.readN m a n)) x = Memory.read m x := by
  rw [Memory.read_writeN h, Memory.readN_length]
  split
  · next hx =>
    rw [List.getD_eq_getElem?_getD, Memory.readN, span]
    simp only [List.map_map, List.getElem?_map]
    rw [List.getElem?_range (by omega)]
    simp; congr 1; omega
  · rfl

/-- What a write of `bs` at `off` does to a scratchpad without errors there: the bytes change, their words stay without errors. -/
def Spd.Written (s t : Spd) (off : Nat) (bs : List PByte) : Prop :=
  t = { s with mem := t.mem, bad := t.bad } ∧ Memory.wf t.mem = true ∧
  (∀ x, Memory.read t.mem x = if off ≤ x ∧ x < off + bs.length then (bs.getD (x - off) (0, false)).1 else Memory.read s.mem x) ∧
  ∀ w, Tbl.get 0 s.bad w = 0 → Tbl.get 0 t.bad w = 0

theorem Spd.writeWord_clean {s : Spd} {port w at_ : Nat} {bs : List PByte} (hw : Memory.wf s.mem = true) (h : Tbl.get 0 s.bad w = 0)
    (hp : ∀ b ∈ bs, b.2 = false) : (s.writeWord port w at_ bs).1 = false ∧ s.Written (s.writeWord port w at_ bs).2 (8 * w + at_) bs := by
  have hb : bs.any (·.2) = false := by simpa using hp
  have hm : ∀ k, (bs.map (·.1)).getD k 0 = (bs.getD k (0, false)).1 := by intro k; simp [List.getD_eq_getElem?_getD]; cases bs[k]? <;> rfl
  simp only [Spd.writeWord, hb]
  split
  · next h8 =>
    refine ⟨rfl, rfl, Memory.wf_writeN hw _ _, fun x => ?_, fun v hv => ?_⟩
    · simp only [Memory.read_writeN hw, List.length_map, hm, h8.1, Nat.add_zero]
    · simp only [Bool.false_eq_true, if_false]; exact Tbl.get_erase_zero hv
  · rw [Spd.readWord_clean h, rawBytes]
    refine ⟨rfl, rfl, Memory.wf_writeN (Memory.wf_writeN hw _ _) _ _, fun x => ?_, fun v hv => ?_⟩
    · simp only [Memory.read_writeN (Memory.wf_writeN hw _ _), Memory.read_writeN_same hw, List.length_map, hm]
    · simp only [Bool.or_self, Bool.false_eq_true, if_false]; exact Tbl.get_erase_zero hv

theorem Spd.Written.trans {s t u : Spd} {off : Nat} {a b : List PByte} (h1 : s.Written t off a) (h2 : t.Written u (off + a.length) b) :
    s.Written u off (a ++ b) := by
  refine ⟨?_, h2.2.1, fun x => ?_, fun w hw => h2.2.2.2 w (h1.2.2.2 w hw)⟩
  · rw [h2.1, h1.1]
  · rw [h2.2.2.1, h1.2.2.1, List.length_append]
    by_cases ha : off + a.length ≤ x ∧ x < off + a.length + b.length
    · rw [if_pos ha, if_pos (by omega), List.getD_append_right _ _ _ _ (by omega)]
      congr 2; omega
    · rw [if_neg ha]
      by_cases hb : off ≤ x ∧ x < off + a.length
      · rw [if_pos hb, if_pos (by omega), List.getD_append _ _ _ _ (by omega)]
      · rw [if_neg hb, if_neg (by omega)]

theorem Spd.writeFrom_clean : ∀ {fuel : Nat} {s : Spd} {port off : Nat} {bs : List PByte}, Memory.wf s.mem = true →
    (∀ w, Tbl.get 0 s.bad w = 0) → (∀ b ∈ bs, b.2 = false) → bs.length < fuel →
    (s.writeFrom port off bs fuel).1 = false ∧ s.Written (s.writeFrom port off bs fuel).2 off bs
  | 0, _, _, _, _, _, _, _, h => by omega
  | fuel + 1, s, port, off, bs, hw, hc, hp, hf => by
    simp only [Spd.writeFrom]
    split
    · next h => 
      have : bs = [] := by simpa using h
      subst this
      exact ⟨rfl, rfl, hw, fun x => by simp, fun w h => h⟩
    · next h =>
      have hne : bs ≠ [] := by simpa using h
      have hl : 0 < bs.length := List.length_pos_iff.2 hne
      obtain ⟨a1, a2⟩ := Spd.writeWord_clean (port := port) (w := off / 8) (at_ := off % 8) (bs := bs.take (8 - off % 8)) hw (hc _)
        (fun b hb => hp b (List.mem_of_mem_take hb))
      rw [show 8 * (off / 8) + off % 8 = off by omega] at a2
      have b := Spd.writeFrom_clean (fuel := fuel) (port := port) (off := off + (8 - off % 8)) (bs := bs.drop (8 - off % 8)) a2.2.1 (fun w => a2.2.2.2 w (hc w))
        (fun b hb => hp b (List.mem_of_mem_drop hb)) (by rw [List.length_drop]; omega)
      refine ⟨by simp only [a1, b.1, Bool.or_self], ?_⟩
      by_cases hd : bs.length ≤ 8 - off % 8
      · have e0 : bs.drop (8 - off % 8) = [] := List.drop_of_length_le hd
        have e1 : bs.take (8 - off % 8) = bs := List.take_of_length_le hd
        rw [e0, e1] at b ⊢
        rw [e1] at a2
        have e2 : ∀ (t : Spd) o, (t.writeFrom port o [] fuel).2 = t := by intro t o; cases fuel <;> rfl
        simp only [e2]; exact a2
      · have e : off + (bs.take (8 - off % 8)).length = off + (8 - off % 8) := by rw [List.length_take]; omega
        have := Spd.Written.trans a2 (e ▸ b.2)
        rw [List.take_append_drop, e] at this
        exact this

/-- R225: bytes written at `off` in a scratchpad without errors are there, and nothing else changes. -/
theorem Spd.writeP_clean {s : Spd} {port off : Nat} {bs : List PByte} (hw : Memory.wf s.mem = true) (hc : ∀ w, Tbl.get 0 s.bad w = 0)
    (hp : ∀ b ∈ bs, b.2 = false) : (s.writeP port off bs).1 = false ∧ s.Written (s.writeP port off bs).2 off bs :=
  Spd.writeFrom_clean hw hc hp (Nat.lt_succ_self _)

end Sys2Proof.Machine
end

