-- ==== Sys2Proof/Laws/State.lean ====
section
/-!
SUPPORT. What each update of the panel's state does to each field, so that no later proof unfolds a record update.
-/
namespace Sys2Proof.Machine

variable {s : State}

/-! modGaz -/

@[simp] theorem State.modGaz_clusters {f : _ → _} : (s.modGaz f).clusters = s.clusters := rfl
@[simp] theorem State.modGaz_hbm {f : _ → _} : (s.modGaz f).hbm = s.hbm := rfl
@[simp] theorem State.modGaz_gaz {f : _ → _} : (s.modGaz f).gaz = f s.gaz := rfl
@[simp] theorem State.modGaz_delta {f : _ → _} : (s.modGaz f).delta = s.delta := rfl
@[simp] theorem State.modGaz_lev {f : _ → _} : (s.modGaz f).lev = s.lev := rfl
@[simp] theorem State.modGaz_larre {f : _ → _} : (s.modGaz f).larre = s.larre := rfl
@[simp] theorem State.modGaz_mer {f : _ → _} : (s.modGaz f).mer = s.mer := rfl
@[simp] theorem State.modGaz_cnf {f : _ → _} : (s.modGaz f).cnf = s.cnf := rfl
@[simp] theorem State.modGaz_ten {f : _ → _} : (s.modGaz f).ten = s.ten := rfl
@[simp] theorem State.modGaz_hosts {f : _ → _} : (s.modGaz f).hosts = s.hosts := rfl
@[simp] theorem State.modGaz_lgd {f : _ → _} : (s.modGaz f).lgd = s.lgd := rfl
@[simp] theorem State.modGaz_ctg {f : _ → _} : (s.modGaz f).ctg = s.ctg := rfl
@[simp] theorem State.modGaz_fw {f : _ → _} : (s.modGaz f).fw = s.fw := rfl
@[simp] theorem State.modGaz_boot {f : _ → _} : (s.modGaz f).boot = s.boot := rfl
@[simp] theorem State.modGaz_pwr {f : _ → _} : (s.modGaz f).pwr = s.pwr := rfl
@[simp] theorem State.modGaz_clk {f : _ → _} : (s.modGaz f).clk = s.clk := rfl
@[simp] theorem State.modGaz_log {f : _ → _} : (s.modGaz f).log = s.log := rfl
@[simp] theorem State.modGaz_diag {f : _ → _} : (s.modGaz f).diag = s.diag := rfl
@[simp] theorem State.modGaz_out {f : _ → _} : (s.modGaz f).out = s.out := rfl
@[simp] theorem State.modGaz_now {f : _ → _} : (s.modGaz f).now = s.now := rfl
@[simp] theorem State.modGaz_freeCtr {f : _ → _} : (s.modGaz f).freeCtr = s.freeCtr := rfl
@[simp] theorem State.modGaz_pending {f : _ → _} : (s.modGaz f).pending = s.pending := rfl
@[simp] theorem State.modGaz_cl {f : _ → _} {i : Nat} : (s.modGaz f).cl i = s.cl i := rfl
@[simp] theorem State.modGaz_stk {f : _ → _} {i : Nat} : (s.modGaz f).stk i = s.stk i := rfl
@[simp] theorem State.modGaz_obj {f : _ → _} {i j : Nat} : (s.modGaz f).obj i j = s.obj i j := rfl

/-! modDelta -/

@[simp] theorem State.modDelta_clusters {f : _ → _} : (s.modDelta f).clusters = s.clusters := rfl
@[simp] theorem State.modDelta_hbm {f : _ → _} : (s.modDelta f).hbm = s.hbm := rfl
@[simp] theorem State.modDelta_gaz {f : _ → _} : (s.modDelta f).gaz = s.gaz := rfl
@[simp] theorem State.modDelta_delta {f : _ → _} : (s.modDelta f).delta = f s.delta := rfl
@[simp] theorem State.modDelta_lev {f : _ → _} : (s.modDelta f).lev = s.lev := rfl
@[simp] theorem State.modDelta_larre {f : _ → _} : (s.modDelta f).larre = s.larre := rfl
@[simp] theorem State.modDelta_mer {f : _ → _} : (s.modDelta f).mer = s.mer := rfl
@[simp] theorem State.modDelta_cnf {f : _ → _} : (s.modDelta f).cnf = s.cnf := rfl
@[simp] theorem State.modDelta_ten {f : _ → _} : (s.modDelta f).ten = s.ten := rfl
@[simp] theorem State.modDelta_hosts {f : _ → _} : (s.modDelta f).hosts = s.hosts := rfl
@[simp] theorem State.modDelta_lgd {f : _ → _} : (s.modDelta f).lgd = s.lgd := rfl
@[simp] theorem State.modDelta_ctg {f : _ → _} : (s.modDelta f).ctg = s.ctg := rfl
@[simp] theorem State.modDelta_fw {f : _ → _} : (s.modDelta f).fw = s.fw := rfl
@[simp] theorem State.modDelta_boot {f : _ → _} : (s.modDelta f).boot = s.boot := rfl
@[simp] theorem State.modDelta_pwr {f : _ → _} : (s.modDelta f).pwr = s.pwr := rfl
@[simp] theorem State.modDelta_clk {f : _ → _} : (s.modDelta f).clk = s.clk := rfl
@[simp] theorem State.modDelta_log {f : _ → _} : (s.modDelta f).log = s.log := rfl
@[simp] theorem State.modDelta_diag {f : _ → _} : (s.modDelta f).diag = s.diag := rfl
@[simp] theorem State.modDelta_out {f : _ → _} : (s.modDelta f).out = s.out := rfl
@[simp] theorem State.modDelta_now {f : _ → _} : (s.modDelta f).now = s.now := rfl
@[simp] theorem State.modDelta_freeCtr {f : _ → _} : (s.modDelta f).freeCtr = s.freeCtr := rfl
@[simp] theorem State.modDelta_pending {f : _ → _} : (s.modDelta f).pending = s.pending := rfl
@[simp] theorem State.modDelta_cl {f : _ → _} {i : Nat} : (s.modDelta f).cl i = s.cl i := rfl
@[simp] theorem State.modDelta_stk {f : _ → _} {i : Nat} : (s.modDelta f).stk i = s.stk i := rfl
@[simp] theorem State.modDelta_obj {f : _ → _} {i j : Nat} : (s.modDelta f).obj i j = s.obj i j := rfl

/-! modLev -/

@[simp] theorem State.modLev_clusters {f : _ → _} : (s.modLev f).clusters = s.clusters := rfl
@[simp] theorem State.modLev_hbm {f : _ → _} : (s.modLev f).hbm = s.hbm := rfl
@[simp] theorem State.modLev_gaz {f : _ → _} : (s.modLev f).gaz = s.gaz := rfl
@[simp] theorem State.modLev_delta {f : _ → _} : (s.modLev f).delta = s.delta := rfl
@[simp] theorem State.modLev_lev {f : _ → _} : (s.modLev f).lev = f s.lev := rfl
@[simp] theorem State.modLev_larre {f : _ → _} : (s.modLev f).larre = s.larre := rfl
@[simp] theorem State.modLev_mer {f : _ → _} : (s.modLev f).mer = s.mer := rfl
@[simp] theorem State.modLev_cnf {f : _ → _} : (s.modLev f).cnf = s.cnf := rfl
@[simp] theorem State.modLev_ten {f : _ → _} : (s.modLev f).ten = s.ten := rfl
@[simp] theorem State.modLev_hosts {f : _ → _} : (s.modLev f).hosts = s.hosts := rfl
@[simp] theorem State.modLev_lgd {f : _ → _} : (s.modLev f).lgd = s.lgd := rfl
@[simp] theorem State.modLev_ctg {f : _ → _} : (s.modLev f).ctg = s.ctg := rfl
@[simp] theorem State.modLev_fw {f : _ → _} : (s.modLev f).fw = s.fw := rfl
@[simp] theorem State.modLev_boot {f : _ → _} : (s.modLev f).boot = s.boot := rfl
@[simp] theorem State.modLev_pwr {f : _ → _} : (s.modLev f).pwr = s.pwr := rfl
@[simp] theorem State.modLev_clk {f : _ → _} : (s.modLev f).clk = s.clk := rfl
@[simp] theorem State.modLev_log {f : _ → _} : (s.modLev f).log = s.log := rfl
@[simp] theorem State.modLev_diag {f : _ → _} : (s.modLev f).diag = s.diag := rfl
@[simp] theorem State.modLev_out {f : _ → _} : (s.modLev f).out = s.out := rfl
@[simp] theorem State.modLev_now {f : _ → _} : (s.modLev f).now = s.now := rfl
@[simp] theorem State.modLev_freeCtr {f : _ → _} : (s.modLev f).freeCtr = s.freeCtr := rfl
@[simp] theorem State.modLev_pending {f : _ → _} : (s.modLev f).pending = s.pending := rfl
@[simp] theorem State.modLev_cl {f : _ → _} {i : Nat} : (s.modLev f).cl i = s.cl i := rfl
@[simp] theorem State.modLev_stk {f : _ → _} {i : Nat} : (s.modLev f).stk i = s.stk i := rfl
@[simp] theorem State.modLev_obj {f : _ → _} {i j : Nat} : (s.modLev f).obj i j = s.obj i j := rfl

/-! modLarre -/

@[simp] theorem State.modLarre_clusters {f : _ → _} : (s.modLarre f).clusters = s.clusters := rfl
@[simp] theorem State.modLarre_hbm {f : _ → _} : (s.modLarre f).hbm = s.hbm := rfl
@[simp] theorem State.modLarre_gaz {f : _ → _} : (s.modLarre f).gaz = s.gaz := rfl
@[simp] theorem State.modLarre_delta {f : _ → _} : (s.modLarre f).delta = s.delta := rfl
@[simp] theorem State.modLarre_lev {f : _ → _} : (s.modLarre f).lev = s.lev := rfl
@[simp] theorem State.modLarre_larre {f : _ → _} : (s.modLarre f).larre = f s.larre := rfl
@[simp] theorem State.modLarre_mer {f : _ → _} : (s.modLarre f).mer = s.mer := rfl
@[simp] theorem State.modLarre_cnf {f : _ → _} : (s.modLarre f).cnf = s.cnf := rfl
@[simp] theorem State.modLarre_ten {f : _ → _} : (s.modLarre f).ten = s.ten := rfl
@[simp] theorem State.modLarre_hosts {f : _ → _} : (s.modLarre f).hosts = s.hosts := rfl
@[simp] theorem State.modLarre_lgd {f : _ → _} : (s.modLarre f).lgd = s.lgd := rfl
@[simp] theorem State.modLarre_ctg {f : _ → _} : (s.modLarre f).ctg = s.ctg := rfl
@[simp] theorem State.modLarre_fw {f : _ → _} : (s.modLarre f).fw = s.fw := rfl
@[simp] theorem State.modLarre_boot {f : _ → _} : (s.modLarre f).boot = s.boot := rfl
@[simp] theorem State.modLarre_pwr {f : _ → _} : (s.modLarre f).pwr = s.pwr := rfl
@[simp] theorem State.modLarre_clk {f : _ → _} : (s.modLarre f).clk = s.clk := rfl
@[simp] theorem State.modLarre_log {f : _ → _} : (s.modLarre f).log = s.log := rfl
@[simp] theorem State.modLarre_diag {f : _ → _} : (s.modLarre f).diag = s.diag := rfl
@[simp] theorem State.modLarre_out {f : _ → _} : (s.modLarre f).out = s.out := rfl
@[simp] theorem State.modLarre_now {f : _ → _} : (s.modLarre f).now = s.now := rfl
@[simp] theorem State.modLarre_freeCtr {f : _ → _} : (s.modLarre f).freeCtr = s.freeCtr := rfl
@[simp] theorem State.modLarre_pending {f : _ → _} : (s.modLarre f).pending = s.pending := rfl
@[simp] theorem State.modLarre_cl {f : _ → _} {i : Nat} : (s.modLarre f).cl i = s.cl i := rfl
@[simp] theorem State.modLarre_stk {f : _ → _} {i : Nat} : (s.modLarre f).stk i = s.stk i := rfl
@[simp] theorem State.modLarre_obj {f : _ → _} {i j : Nat} : (s.modLarre f).obj i j = s.obj i j := rfl

/-! modMer -/

@[simp] theorem State.modMer_clusters {f : _ → _} : (s.modMer f).clusters = s.clusters := rfl
@[simp] theorem State.modMer_hbm {f : _ → _} : (s.modMer f).hbm = s.hbm := rfl
@[simp] theorem State.modMer_gaz {f : _ → _} : (s.modMer f).gaz = s.gaz := rfl
@[simp] theorem State.modMer_delta {f : _ → _} : (s.modMer f).delta = s.delta := rfl
@[simp] theorem State.modMer_lev {f : _ → _} : (s.modMer f).lev = s.lev := rfl
@[simp] theorem State.modMer_larre {f : _ → _} : (s.modMer f).larre = s.larre := rfl
@[simp] theorem State.modMer_mer {f : _ → _} : (s.modMer f).mer = f s.mer := rfl
@[simp] theorem State.modMer_cnf {f : _ → _} : (s.modMer f).cnf = s.cnf := rfl
@[simp] theorem State.modMer_ten {f : _ → _} : (s.modMer f).ten = s.ten := rfl
@[simp] theorem State.modMer_hosts {f : _ → _} : (s.modMer f).hosts = s.hosts := rfl
@[simp] theorem State.modMer_lgd {f : _ → _} : (s.modMer f).lgd = s.lgd := rfl
@[simp] theorem State.modMer_ctg {f : _ → _} : (s.modMer f).ctg = s.ctg := rfl
@[simp] theorem State.modMer_fw {f : _ → _} : (s.modMer f).fw = s.fw := rfl
@[simp] theorem State.modMer_boot {f : _ → _} : (s.modMer f).boot = s.boot := rfl
@[simp] theorem State.modMer_pwr {f : _ → _} : (s.modMer f).pwr = s.pwr := rfl
@[simp] theorem State.modMer_clk {f : _ → _} : (s.modMer f).clk = s.clk := rfl
@[simp] theorem State.modMer_log {f : _ → _} : (s.modMer f).log = s.log := rfl
@[simp] theorem State.modMer_diag {f : _ → _} : (s.modMer f).diag = s.diag := rfl
@[simp] theorem State.modMer_out {f : _ → _} : (s.modMer f).out = s.out := rfl
@[simp] theorem State.modMer_now {f : _ → _} : (s.modMer f).now = s.now := rfl
@[simp] theorem State.modMer_freeCtr {f : _ → _} : (s.modMer f).freeCtr = s.freeCtr := rfl
@[simp] theorem State.modMer_pending {f : _ → _} : (s.modMer f).pending = s.pending := rfl
@[simp] theorem State.modMer_cl {f : _ → _} {i : Nat} : (s.modMer f).cl i = s.cl i := rfl
@[simp] theorem State.modMer_stk {f : _ → _} {i : Nat} : (s.modMer f).stk i = s.stk i := rfl
@[simp] theorem State.modMer_obj {f : _ → _} {i j : Nat} : (s.modMer f).obj i j = s.obj i j := rfl

/-! modCnf -/

@[simp] theorem State.modCnf_clusters {f : _ → _} : (s.modCnf f).clusters = s.clusters := rfl
@[simp] theorem State.modCnf_hbm {f : _ → _} : (s.modCnf f).hbm = s.hbm := rfl
@[simp] theorem State.modCnf_gaz {f : _ → _} : (s.modCnf f).gaz = s.gaz := rfl
@[simp] theorem State.modCnf_delta {f : _ → _} : (s.modCnf f).delta = s.delta := rfl
@[simp] theorem State.modCnf_lev {f : _ → _} : (s.modCnf f).lev = s.lev := rfl
@[simp] theorem State.modCnf_larre {f : _ → _} : (s.modCnf f).larre = s.larre := rfl
@[simp] theorem State.modCnf_mer {f : _ → _} : (s.modCnf f).mer = s.mer := rfl
@[simp] theorem State.modCnf_cnf {f : _ → _} : (s.modCnf f).cnf = f s.cnf := rfl
@[simp] theorem State.modCnf_ten {f : _ → _} : (s.modCnf f).ten = s.ten := rfl
@[simp] theorem State.modCnf_hosts {f : _ → _} : (s.modCnf f).hosts = s.hosts := rfl
@[simp] theorem State.modCnf_lgd {f : _ → _} : (s.modCnf f).lgd = s.lgd := rfl
@[simp] theorem State.modCnf_ctg {f : _ → _} : (s.modCnf f).ctg = s.ctg := rfl
@[simp] theorem State.modCnf_fw {f : _ → _} : (s.modCnf f).fw = s.fw := rfl
@[simp] theorem State.modCnf_boot {f : _ → _} : (s.modCnf f).boot = s.boot := rfl
@[simp] theorem State.modCnf_pwr {f : _ → _} : (s.modCnf f).pwr = s.pwr := rfl
@[simp] theorem State.modCnf_clk {f : _ → _} : (s.modCnf f).clk = s.clk := rfl
@[simp] theorem State.modCnf_log {f : _ → _} : (s.modCnf f).log = s.log := rfl
@[simp] theorem State.modCnf_diag {f : _ → _} : (s.modCnf f).diag = s.diag := rfl
@[simp] theorem State.modCnf_out {f : _ → _} : (s.modCnf f).out = s.out := rfl
@[simp] theorem State.modCnf_now {f : _ → _} : (s.modCnf f).now = s.now := rfl
@[simp] theorem State.modCnf_freeCtr {f : _ → _} : (s.modCnf f).freeCtr = s.freeCtr := rfl
@[simp] theorem State.modCnf_pending {f : _ → _} : (s.modCnf f).pending = s.pending := rfl
@[simp] theorem State.modCnf_cl {f : _ → _} {i : Nat} : (s.modCnf f).cl i = s.cl i := rfl
@[simp] theorem State.modCnf_stk {f : _ → _} {i : Nat} : (s.modCnf f).stk i = s.stk i := rfl
@[simp] theorem State.modCnf_obj {f : _ → _} {i j : Nat} : (s.modCnf f).obj i j = s.obj i j := rfl

/-! modTen -/

@[simp] theorem State.modTen_clusters {f : _ → _} : (s.modTen f).clusters = s.clusters := rfl
@[simp] theorem State.modTen_hbm {f : _ → _} : (s.modTen f).hbm = s.hbm := rfl
@[simp] theorem State.modTen_gaz {f : _ → _} : (s.modTen f).gaz = s.gaz := rfl
@[simp] theorem State.modTen_delta {f : _ → _} : (s.modTen f).delta = s.delta := rfl
@[simp] theorem State.modTen_lev {f : _ → _} : (s.modTen f).lev = s.lev := rfl
@[simp] theorem State.modTen_larre {f : _ → _} : (s.modTen f).larre = s.larre := rfl
@[simp] theorem State.modTen_mer {f : _ → _} : (s.modTen f).mer = s.mer := rfl
@[simp] theorem State.modTen_cnf {f : _ → _} : (s.modTen f).cnf = s.cnf := rfl
@[simp] theorem State.modTen_ten {f : _ → _} : (s.modTen f).ten = f s.ten := rfl
@[simp] theorem State.modTen_hosts {f : _ → _} : (s.modTen f).hosts = s.hosts := rfl
@[simp] theorem State.modTen_lgd {f : _ → _} : (s.modTen f).lgd = s.lgd := rfl
@[simp] theorem State.modTen_ctg {f : _ → _} : (s.modTen f).ctg = s.ctg := rfl
@[simp] theorem State.modTen_fw {f : _ → _} : (s.modTen f).fw = s.fw := rfl
@[simp] theorem State.modTen_boot {f : _ → _} : (s.modTen f).boot = s.boot := rfl
@[simp] theorem State.modTen_pwr {f : _ → _} : (s.modTen f).pwr = s.pwr := rfl
@[simp] theorem State.modTen_clk {f : _ → _} : (s.modTen f).clk = s.clk := rfl
@[simp] theorem State.modTen_log {f : _ → _} : (s.modTen f).log = s.log := rfl
@[simp] theorem State.modTen_diag {f : _ → _} : (s.modTen f).diag = s.diag := rfl
@[simp] theorem State.modTen_out {f : _ → _} : (s.modTen f).out = s.out := rfl
@[simp] theorem State.modTen_now {f : _ → _} : (s.modTen f).now = s.now := rfl
@[simp] theorem State.modTen_freeCtr {f : _ → _} : (s.modTen f).freeCtr = s.freeCtr := rfl
@[simp] theorem State.modTen_pending {f : _ → _} : (s.modTen f).pending = s.pending := rfl
@[simp] theorem State.modTen_cl {f : _ → _} {i : Nat} : (s.modTen f).cl i = s.cl i := rfl
@[simp] theorem State.modTen_stk {f : _ → _} {i : Nat} : (s.modTen f).stk i = s.stk i := rfl
@[simp] theorem State.modTen_obj {f : _ → _} {i j : Nat} : (s.modTen f).obj i j = s.obj i j := rfl

/-! modHosts -/

@[simp] theorem State.modHosts_clusters {f : _ → _} : (s.modHosts f).clusters = s.clusters := rfl
@[simp] theorem State.modHosts_hbm {f : _ → _} : (s.modHosts f).hbm = s.hbm := rfl
@[simp] theorem State.modHosts_gaz {f : _ → _} : (s.modHosts f).gaz = s.gaz := rfl
@[simp] theorem State.modHosts_delta {f : _ → _} : (s.modHosts f).delta = s.delta := rfl
@[simp] theorem State.modHosts_lev {f : _ → _} : (s.modHosts f).lev = s.lev := rfl
@[simp] theorem State.modHosts_larre {f : _ → _} : (s.modHosts f).larre = s.larre := rfl
@[simp] theorem State.modHosts_mer {f : _ → _} : (s.modHosts f).mer = s.mer := rfl
@[simp] theorem State.modHosts_cnf {f : _ → _} : (s.modHosts f).cnf = s.cnf := rfl
@[simp] theorem State.modHosts_ten {f : _ → _} : (s.modHosts f).ten = s.ten := rfl
@[simp] theorem State.modHosts_hosts {f : _ → _} : (s.modHosts f).hosts = f s.hosts := rfl
@[simp] theorem State.modHosts_lgd {f : _ → _} : (s.modHosts f).lgd = s.lgd := rfl
@[simp] theorem State.modHosts_ctg {f : _ → _} : (s.modHosts f).ctg = s.ctg := rfl
@[simp] theorem State.modHosts_fw {f : _ → _} : (s.modHosts f).fw = s.fw := rfl
@[simp] theorem State.modHosts_boot {f : _ → _} : (s.modHosts f).boot = s.boot := rfl
@[simp] theorem State.modHosts_pwr {f : _ → _} : (s.modHosts f).pwr = s.pwr := rfl
@[simp] theorem State.modHosts_clk {f : _ → _} : (s.modHosts f).clk = s.clk := rfl
@[simp] theorem State.modHosts_log {f : _ → _} : (s.modHosts f).log = s.log := rfl
@[simp] theorem State.modHosts_diag {f : _ → _} : (s.modHosts f).diag = s.diag := rfl
@[simp] theorem State.modHosts_out {f : _ → _} : (s.modHosts f).out = s.out := rfl
@[simp] theorem State.modHosts_now {f : _ → _} : (s.modHosts f).now = s.now := rfl
@[simp] theorem State.modHosts_freeCtr {f : _ → _} : (s.modHosts f).freeCtr = s.freeCtr := rfl
@[simp] theorem State.modHosts_pending {f : _ → _} : (s.modHosts f).pending = s.pending := rfl
@[simp] theorem State.modHosts_cl {f : _ → _} {i : Nat} : (s.modHosts f).cl i = s.cl i := rfl
@[simp] theorem State.modHosts_stk {f : _ → _} {i : Nat} : (s.modHosts f).stk i = s.stk i := rfl
@[simp] theorem State.modHosts_obj {f : _ → _} {i j : Nat} : (s.modHosts f).obj i j = s.obj i j := rfl

/-! modLgd -/

@[simp] theorem State.modLgd_clusters {f : _ → _} : (s.modLgd f).clusters = s.clusters := rfl
@[simp] theorem State.modLgd_hbm {f : _ → _} : (s.modLgd f).hbm = s.hbm := rfl
@[simp] theorem State.modLgd_gaz {f : _ → _} : (s.modLgd f).gaz = s.gaz := rfl
@[simp] theorem State.modLgd_delta {f : _ → _} : (s.modLgd f).delta = s.delta := rfl
@[simp] theorem State.modLgd_lev {f : _ → _} : (s.modLgd f).lev = s.lev := rfl
@[simp] theorem State.modLgd_larre {f : _ → _} : (s.modLgd f).larre = s.larre := rfl
@[simp] theorem State.modLgd_mer {f : _ → _} : (s.modLgd f).mer = s.mer := rfl
@[simp] theorem State.modLgd_cnf {f : _ → _} : (s.modLgd f).cnf = s.cnf := rfl
@[simp] theorem State.modLgd_ten {f : _ → _} : (s.modLgd f).ten = s.ten := rfl
@[simp] theorem State.modLgd_hosts {f : _ → _} : (s.modLgd f).hosts = s.hosts := rfl
@[simp] theorem State.modLgd_lgd {f : _ → _} : (s.modLgd f).lgd = f s.lgd := rfl
@[simp] theorem State.modLgd_ctg {f : _ → _} : (s.modLgd f).ctg = s.ctg := rfl
@[simp] theorem State.modLgd_fw {f : _ → _} : (s.modLgd f).fw = s.fw := rfl
@[simp] theorem State.modLgd_boot {f : _ → _} : (s.modLgd f).boot = s.boot := rfl
@[simp] theorem State.modLgd_pwr {f : _ → _} : (s.modLgd f).pwr = s.pwr := rfl
@[simp] theorem State.modLgd_clk {f : _ → _} : (s.modLgd f).clk = s.clk := rfl
@[simp] theorem State.modLgd_log {f : _ → _} : (s.modLgd f).log = s.log := rfl
@[simp] theorem State.modLgd_diag {f : _ → _} : (s.modLgd f).diag = s.diag := rfl
@[simp] theorem State.modLgd_out {f : _ → _} : (s.modLgd f).out = s.out := rfl
@[simp] theorem State.modLgd_now {f : _ → _} : (s.modLgd f).now = s.now := rfl
@[simp] theorem State.modLgd_freeCtr {f : _ → _} : (s.modLgd f).freeCtr = s.freeCtr := rfl
@[simp] theorem State.modLgd_pending {f : _ → _} : (s.modLgd f).pending = s.pending := rfl
@[simp] theorem State.modLgd_cl {f : _ → _} {i : Nat} : (s.modLgd f).cl i = s.cl i := rfl
@[simp] theorem State.modLgd_stk {f : _ → _} {i : Nat} : (s.modLgd f).stk i = s.stk i := rfl

/-! modCtg -/

@[simp] theorem State.modCtg_clusters {f : _ → _} : (s.modCtg f).clusters = s.clusters := rfl
@[simp] theorem State.modCtg_hbm {f : _ → _} : (s.modCtg f).hbm = s.hbm := rfl
@[simp] theorem State.modCtg_gaz {f : _ → _} : (s.modCtg f).gaz = s.gaz := rfl
@[simp] theorem State.modCtg_delta {f : _ → _} : (s.modCtg f).delta = s.delta := rfl
@[simp] theorem State.modCtg_lev {f : _ → _} : (s.modCtg f).lev = s.lev := rfl
@[simp] theorem State.modCtg_larre {f : _ → _} : (s.modCtg f).larre = s.larre := rfl
@[simp] theorem State.modCtg_mer {f : _ → _} : (s.modCtg f).mer = s.mer := rfl
@[simp] theorem State.modCtg_cnf {f : _ → _} : (s.modCtg f).cnf = s.cnf := rfl
@[simp] theorem State.modCtg_ten {f : _ → _} : (s.modCtg f).ten = s.ten := rfl
@[simp] theorem State.modCtg_hosts {f : _ → _} : (s.modCtg f).hosts = s.hosts := rfl
@[simp] theorem State.modCtg_lgd {f : _ → _} : (s.modCtg f).lgd = s.lgd := rfl
@[simp] theorem State.modCtg_ctg {f : _ → _} : (s.modCtg f).ctg = f s.ctg := rfl
@[simp] theorem State.modCtg_fw {f : _ → _} : (s.modCtg f).fw = s.fw := rfl
@[simp] theorem State.modCtg_boot {f : _ → _} : (s.modCtg f).boot = s.boot := rfl
@[simp] theorem State.modCtg_pwr {f : _ → _} : (s.modCtg f).pwr = s.pwr := rfl
@[simp] theorem State.modCtg_clk {f : _ → _} : (s.modCtg f).clk = s.clk := rfl
@[simp] theorem State.modCtg_log {f : _ → _} : (s.modCtg f).log = s.log := rfl
@[simp] theorem State.modCtg_diag {f : _ → _} : (s.modCtg f).diag = s.diag := rfl
@[simp] theorem State.modCtg_out {f : _ → _} : (s.modCtg f).out = s.out := rfl
@[simp] theorem State.modCtg_now {f : _ → _} : (s.modCtg f).now = s.now := rfl
@[simp] theorem State.modCtg_freeCtr {f : _ → _} : (s.modCtg f).freeCtr = s.freeCtr := rfl
@[simp] theorem State.modCtg_pending {f : _ → _} : (s.modCtg f).pending = s.pending := rfl
@[simp] theorem State.modCtg_cl {f : _ → _} {i : Nat} : (s.modCtg f).cl i = s.cl i := rfl
@[simp] theorem State.modCtg_stk {f : _ → _} {i : Nat} : (s.modCtg f).stk i = s.stk i := rfl

/-! modFw -/

@[simp] theorem State.modFw_clusters {f : _ → _} : (s.modFw f).clusters = s.clusters := rfl
@[simp] theorem State.modFw_hbm {f : _ → _} : (s.modFw f).hbm = s.hbm := rfl
@[simp] theorem State.modFw_gaz {f : _ → _} : (s.modFw f).gaz = s.gaz := rfl
@[simp] theorem State.modFw_delta {f : _ → _} : (s.modFw f).delta = s.delta := rfl
@[simp] theorem State.modFw_lev {f : _ → _} : (s.modFw f).lev = s.lev := rfl
@[simp] theorem State.modFw_larre {f : _ → _} : (s.modFw f).larre = s.larre := rfl
@[simp] theorem State.modFw_mer {f : _ → _} : (s.modFw f).mer = s.mer := rfl
@[simp] theorem State.modFw_cnf {f : _ → _} : (s.modFw f).cnf = s.cnf := rfl
@[simp] theorem State.modFw_ten {f : _ → _} : (s.modFw f).ten = s.ten := rfl
@[simp] theorem State.modFw_hosts {f : _ → _} : (s.modFw f).hosts = s.hosts := rfl
@[simp] theorem State.modFw_lgd {f : _ → _} : (s.modFw f).lgd = s.lgd := rfl
@[simp] theorem State.modFw_ctg {f : _ → _} : (s.modFw f).ctg = s.ctg := rfl
@[simp] theorem State.modFw_fw {f : _ → _} : (s.modFw f).fw = f s.fw := rfl
@[simp] theorem State.modFw_boot {f : _ → _} : (s.modFw f).boot = s.boot := rfl
@[simp] theorem State.modFw_pwr {f : _ → _} : (s.modFw f).pwr = s.pwr := rfl
@[simp] theorem State.modFw_clk {f : _ → _} : (s.modFw f).clk = s.clk := rfl
@[simp] theorem State.modFw_log {f : _ → _} : (s.modFw f).log = s.log := rfl
@[simp] theorem State.modFw_diag {f : _ → _} : (s.modFw f).diag = s.diag := rfl
@[simp] theorem State.modFw_out {f : _ → _} : (s.modFw f).out = s.out := rfl
@[simp] theorem State.modFw_now {f : _ → _} : (s.modFw f).now = s.now := rfl
@[simp] theorem State.modFw_freeCtr {f : _ → _} : (s.modFw f).freeCtr = s.freeCtr := rfl
@[simp] theorem State.modFw_pending {f : _ → _} : (s.modFw f).pending = s.pending := rfl
@[simp] theorem State.modFw_cl {f : _ → _} {i : Nat} : (s.modFw f).cl i = s.cl i := rfl
@[simp] theorem State.modFw_stk {f : _ → _} {i : Nat} : (s.modFw f).stk i = s.stk i := rfl
@[simp] theorem State.modFw_obj {f : _ → _} {i j : Nat} : (s.modFw f).obj i j = s.obj i j := rfl

/-! modBoot -/

@[simp] theorem State.modBoot_clusters {f : _ → _} : (s.modBoot f).clusters = s.clusters := rfl
@[simp] theorem State.modBoot_hbm {f : _ → _} : (s.modBoot f).hbm = s.hbm := rfl
@[simp] theorem State.modBoot_gaz {f : _ → _} : (s.modBoot f).gaz = s.gaz := rfl
@[simp] theorem State.modBoot_delta {f : _ → _} : (s.modBoot f).delta = s.delta := rfl
@[simp] theorem State.modBoot_lev {f : _ → _} : (s.modBoot f).lev = s.lev := rfl
@[simp] theorem State.modBoot_larre {f : _ → _} : (s.modBoot f).larre = s.larre := rfl
@[simp] theorem State.modBoot_mer {f : _ → _} : (s.modBoot f).mer = s.mer := rfl
@[simp] theorem State.modBoot_cnf {f : _ → _} : (s.modBoot f).cnf = s.cnf := rfl
@[simp] theorem State.modBoot_ten {f : _ → _} : (s.modBoot f).ten = s.ten := rfl
@[simp] theorem State.modBoot_hosts {f : _ → _} : (s.modBoot f).hosts = s.hosts := rfl
@[simp] theorem State.modBoot_lgd {f : _ → _} : (s.modBoot f).lgd = s.lgd := rfl
@[simp] theorem State.modBoot_ctg {f : _ → _} : (s.modBoot f).ctg = s.ctg := rfl
@[simp] theorem State.modBoot_fw {f : _ → _} : (s.modBoot f).fw = s.fw := rfl
@[simp] theorem State.modBoot_boot {f : _ → _} : (s.modBoot f).boot = f s.boot := rfl
@[simp] theorem State.modBoot_pwr {f : _ → _} : (s.modBoot f).pwr = s.pwr := rfl
@[simp] theorem State.modBoot_clk {f : _ → _} : (s.modBoot f).clk = s.clk := rfl
@[simp] theorem State.modBoot_log {f : _ → _} : (s.modBoot f).log = s.log := rfl
@[simp] theorem State.modBoot_diag {f : _ → _} : (s.modBoot f).diag = s.diag := rfl
@[simp] theorem State.modBoot_out {f : _ → _} : (s.modBoot f).out = s.out := rfl
@[simp] theorem State.modBoot_now {f : _ → _} : (s.modBoot f).now = s.now := rfl
@[simp] theorem State.modBoot_freeCtr {f : _ → _} : (s.modBoot f).freeCtr = s.freeCtr := rfl
@[simp] theorem State.modBoot_pending {f : _ → _} : (s.modBoot f).pending = s.pending := rfl
@[simp] theorem State.modBoot_cl {f : _ → _} {i : Nat} : (s.modBoot f).cl i = s.cl i := rfl
@[simp] theorem State.modBoot_stk {f : _ → _} {i : Nat} : (s.modBoot f).stk i = s.stk i := rfl
@[simp] theorem State.modBoot_obj {f : _ → _} {i j : Nat} : (s.modBoot f).obj i j = s.obj i j := rfl

/-! modPwr -/

@[simp] theorem State.modPwr_clusters {f : _ → _} : (s.modPwr f).clusters = s.clusters := rfl
@[simp] theorem State.modPwr_hbm {f : _ → _} : (s.modPwr f).hbm = s.hbm := rfl
@[simp] theorem State.modPwr_gaz {f : _ → _} : (s.modPwr f).gaz = s.gaz := rfl
@[simp] theorem State.modPwr_delta {f : _ → _} : (s.modPwr f).delta = s.delta := rfl
@[simp] theorem State.modPwr_lev {f : _ → _} : (s.modPwr f).lev = s.lev := rfl
@[simp] theorem State.modPwr_larre {f : _ → _} : (s.modPwr f).larre = s.larre := rfl
@[simp] theorem State.modPwr_mer {f : _ → _} : (s.modPwr f).mer = s.mer := rfl
@[simp] theorem State.modPwr_cnf {f : _ → _} : (s.modPwr f).cnf = s.cnf := rfl
@[simp] theorem State.modPwr_ten {f : _ → _} : (s.modPwr f).ten = s.ten := rfl
@[simp] theorem State.modPwr_hosts {f : _ → _} : (s.modPwr f).hosts = s.hosts := rfl
@[simp] theorem State.modPwr_lgd {f : _ → _} : (s.modPwr f).lgd = s.lgd := rfl
@[simp] theorem State.modPwr_ctg {f : _ → _} : (s.modPwr f).ctg = s.ctg := rfl
@[simp] theorem State.modPwr_fw {f : _ → _} : (s.modPwr f).fw = s.fw := rfl
@[simp] theorem State.modPwr_boot {f : _ → _} : (s.modPwr f).boot = s.boot := rfl
@[simp] theorem State.modPwr_pwr {f : _ → _} : (s.modPwr f).pwr = f s.pwr := rfl
@[simp] theorem State.modPwr_clk {f : _ → _} : (s.modPwr f).clk = s.clk := rfl
@[simp] theorem State.modPwr_log {f : _ → _} : (s.modPwr f).log = s.log := rfl
@[simp] theorem State.modPwr_diag {f : _ → _} : (s.modPwr f).diag = s.diag := rfl
@[simp] theorem State.modPwr_out {f : _ → _} : (s.modPwr f).out = s.out := rfl
@[simp] theorem State.modPwr_now {f : _ → _} : (s.modPwr f).now = s.now := rfl
@[simp] theorem State.modPwr_freeCtr {f : _ → _} : (s.modPwr f).freeCtr = s.freeCtr := rfl
@[simp] theorem State.modPwr_pending {f : _ → _} : (s.modPwr f).pending = s.pending := rfl
@[simp] theorem State.modPwr_cl {f : _ → _} {i : Nat} : (s.modPwr f).cl i = s.cl i := rfl
@[simp] theorem State.modPwr_stk {f : _ → _} {i : Nat} : (s.modPwr f).stk i = s.stk i := rfl

/-! modClk -/

@[simp] theorem State.modClk_clusters {f : _ → _} : (s.modClk f).clusters = s.clusters := rfl
@[simp] theorem State.modClk_hbm {f : _ → _} : (s.modClk f).hbm = s.hbm := rfl
@[simp] theorem State.modClk_gaz {f : _ → _} : (s.modClk f).gaz = s.gaz := rfl
@[simp] theorem State.modClk_delta {f : _ → _} : (s.modClk f).delta = s.delta := rfl
@[simp] theorem State.modClk_lev {f : _ → _} : (s.modClk f).lev = s.lev := rfl
@[simp] theorem State.modClk_larre {f : _ → _} : (s.modClk f).larre = s.larre := rfl
@[simp] theorem State.modClk_mer {f : _ → _} : (s.modClk f).mer = s.mer := rfl
@[simp] theorem State.modClk_cnf {f : _ → _} : (s.modClk f).cnf = s.cnf := rfl
@[simp] theorem State.modClk_ten {f : _ → _} : (s.modClk f).ten = s.ten := rfl
@[simp] theorem State.modClk_hosts {f : _ → _} : (s.modClk f).hosts = s.hosts := rfl
@[simp] theorem State.modClk_lgd {f : _ → _} : (s.modClk f).lgd = s.lgd := rfl
@[simp] theorem State.modClk_ctg {f : _ → _} : (s.modClk f).ctg = s.ctg := rfl
@[simp] theorem State.modClk_fw {f : _ → _} : (s.modClk f).fw = s.fw := rfl
@[simp] theorem State.modClk_boot {f : _ → _} : (s.modClk f).boot = s.boot := rfl
@[simp] theorem State.modClk_pwr {f : _ → _} : (s.modClk f).pwr = s.pwr := rfl
@[simp] theorem State.modClk_clk {f : _ → _} : (s.modClk f).clk = f s.clk := rfl
@[simp] theorem State.modClk_log {f : _ → _} : (s.modClk f).log = s.log := rfl
@[simp] theorem State.modClk_diag {f : _ → _} : (s.modClk f).diag = s.diag := rfl
@[simp] theorem State.modClk_out {f : _ → _} : (s.modClk f).out = s.out := rfl
@[simp] theorem State.modClk_now {f : _ → _} : (s.modClk f).now = s.now := rfl
@[simp] theorem State.modClk_freeCtr {f : _ → _} : (s.modClk f).freeCtr = s.freeCtr := rfl
@[simp] theorem State.modClk_pending {f : _ → _} : (s.modClk f).pending = s.pending := rfl
@[simp] theorem State.modClk_cl {f : _ → _} {i : Nat} : (s.modClk f).cl i = s.cl i := rfl
@[simp] theorem State.modClk_stk {f : _ → _} {i : Nat} : (s.modClk f).stk i = s.stk i := rfl
@[simp] theorem State.modClk_obj {f : _ → _} {i j : Nat} : (s.modClk f).obj i j = s.obj i j := rfl

/-! modLog -/

@[simp] theorem State.modLog_clusters {f : _ → _} : (s.modLog f).clusters = s.clusters := rfl
@[simp] theorem State.modLog_hbm {f : _ → _} : (s.modLog f).hbm = s.hbm := rfl
@[simp] theorem State.modLog_gaz {f : _ → _} : (s.modLog f).gaz = s.gaz := rfl
@[simp] theorem State.modLog_delta {f : _ → _} : (s.modLog f).delta = s.delta := rfl
@[simp] theorem State.modLog_lev {f : _ → _} : (s.modLog f).lev = s.lev := rfl
@[simp] theorem State.modLog_larre {f : _ → _} : (s.modLog f).larre = s.larre := rfl
@[simp] theorem State.modLog_mer {f : _ → _} : (s.modLog f).mer = s.mer := rfl
@[simp] theorem State.modLog_cnf {f : _ → _} : (s.modLog f).cnf = s.cnf := rfl
@[simp] theorem State.modLog_ten {f : _ → _} : (s.modLog f).ten = s.ten := rfl
@[simp] theorem State.modLog_hosts {f : _ → _} : (s.modLog f).hosts = s.hosts := rfl
@[simp] theorem State.modLog_lgd {f : _ → _} : (s.modLog f).lgd = s.lgd := rfl
@[simp] theorem State.modLog_ctg {f : _ → _} : (s.modLog f).ctg = s.ctg := rfl
@[simp] theorem State.modLog_fw {f : _ → _} : (s.modLog f).fw = s.fw := rfl
@[simp] theorem State.modLog_boot {f : _ → _} : (s.modLog f).boot = s.boot := rfl
@[simp] theorem State.modLog_pwr {f : _ → _} : (s.modLog f).pwr = s.pwr := rfl
@[simp] theorem State.modLog_clk {f : _ → _} : (s.modLog f).clk = s.clk := rfl
@[simp] theorem State.modLog_log {f : _ → _} : (s.modLog f).log = f s.log := rfl
@[simp] theorem State.modLog_diag {f : _ → _} : (s.modLog f).diag = s.diag := rfl
@[simp] theorem State.modLog_out {f : _ → _} : (s.modLog f).out = s.out := rfl
@[simp] theorem State.modLog_now {f : _ → _} : (s.modLog f).now = s.now := rfl
@[simp] theorem State.modLog_freeCtr {f : _ → _} : (s.modLog f).freeCtr = s.freeCtr := rfl
@[simp] theorem State.modLog_pending {f : _ → _} : (s.modLog f).pending = s.pending := rfl
@[simp] theorem State.modLog_cl {f : _ → _} {i : Nat} : (s.modLog f).cl i = s.cl i := rfl
@[simp] theorem State.modLog_stk {f : _ → _} {i : Nat} : (s.modLog f).stk i = s.stk i := rfl
@[simp] theorem State.modLog_obj {f : _ → _} {i j : Nat} : (s.modLog f).obj i j = s.obj i j := rfl

/-! modDiag -/

@[simp] theorem State.modDiag_clusters {f : _ → _} : (s.modDiag f).clusters = s.clusters := rfl
@[simp] theorem State.modDiag_hbm {f : _ → _} : (s.modDiag f).hbm = s.hbm := rfl
@[simp] theorem State.modDiag_gaz {f : _ → _} : (s.modDiag f).gaz = s.gaz := rfl
@[simp] theorem State.modDiag_delta {f : _ → _} : (s.modDiag f).delta = s.delta := rfl
@[simp] theorem State.modDiag_lev {f : _ → _} : (s.modDiag f).lev = s.lev := rfl
@[simp] theorem State.modDiag_larre {f : _ → _} : (s.modDiag f).larre = s.larre := rfl
@[simp] theorem State.modDiag_mer {f : _ → _} : (s.modDiag f).mer = s.mer := rfl
@[simp] theorem State.modDiag_cnf {f : _ → _} : (s.modDiag f).cnf = s.cnf := rfl
@[simp] theorem State.modDiag_ten {f : _ → _} : (s.modDiag f).ten = s.ten := rfl
@[simp] theorem State.modDiag_hosts {f : _ → _} : (s.modDiag f).hosts = s.hosts := rfl
@[simp] theorem State.modDiag_lgd {f : _ → _} : (s.modDiag f).lgd = s.lgd := rfl
@[simp] theorem State.modDiag_ctg {f : _ → _} : (s.modDiag f).ctg = s.ctg := rfl
@[simp] theorem State.modDiag_fw {f : _ → _} : (s.modDiag f).fw = s.fw := rfl
@[simp] theorem State.modDiag_boot {f : _ → _} : (s.modDiag f).boot = s.boot := rfl
@[simp] theorem State.modDiag_pwr {f : _ → _} : (s.modDiag f).pwr = s.pwr := rfl
@[simp] theorem State.modDiag_clk {f : _ → _} : (s.modDiag f).clk = s.clk := rfl
@[simp] theorem State.modDiag_log {f : _ → _} : (s.modDiag f).log = s.log := rfl
@[simp] theorem State.modDiag_diag {f : _ → _} : (s.modDiag f).diag = f s.diag := rfl
@[simp] theorem State.modDiag_out {f : _ → _} : (s.modDiag f).out = s.out := rfl
@[simp] theorem State.modDiag_now {f : _ → _} : (s.modDiag f).now = s.now := rfl
@[simp] theorem State.modDiag_freeCtr {f : _ → _} : (s.modDiag f).freeCtr = s.freeCtr := rfl
@[simp] theorem State.modDiag_pending {f : _ → _} : (s.modDiag f).pending = s.pending := rfl
@[simp] theorem State.modDiag_cl {f : _ → _} {i : Nat} : (s.modDiag f).cl i = s.cl i := rfl
@[simp] theorem State.modDiag_stk {f : _ → _} {i : Nat} : (s.modDiag f).stk i = s.stk i := rfl
@[simp] theorem State.modDiag_obj {f : _ → _} {i j : Nat} : (s.modDiag f).obj i j = s.obj i j := rfl

/-! setCl -/

@[simp] theorem State.setCl_clusters {c : Nat} {k : Cluster} : (s.setCl c k).clusters = Tbl.set s.clusters c k := rfl
@[simp] theorem State.setCl_hbm {c : Nat} {k : Cluster} : (s.setCl c k).hbm = s.hbm := rfl
@[simp] theorem State.setCl_gaz {c : Nat} {k : Cluster} : (s.setCl c k).gaz = s.gaz := rfl
@[simp] theorem State.setCl_delta {c : Nat} {k : Cluster} : (s.setCl c k).delta = s.delta := rfl
@[simp] theorem State.setCl_lev {c : Nat} {k : Cluster} : (s.setCl c k).lev = s.lev := rfl
@[simp] theorem State.setCl_larre {c : Nat} {k : Cluster} : (s.setCl c k).larre = s.larre := rfl
@[simp] theorem State.setCl_mer {c : Nat} {k : Cluster} : (s.setCl c k).mer = s.mer := rfl
@[simp] theorem State.setCl_cnf {c : Nat} {k : Cluster} : (s.setCl c k).cnf = s.cnf := rfl
@[simp] theorem State.setCl_ten {c : Nat} {k : Cluster} : (s.setCl c k).ten = s.ten := rfl
@[simp] theorem State.setCl_hosts {c : Nat} {k : Cluster} : (s.setCl c k).hosts = s.hosts := rfl
@[simp] theorem State.setCl_lgd {c : Nat} {k : Cluster} : (s.setCl c k).lgd = s.lgd := rfl
@[simp] theorem State.setCl_ctg {c : Nat} {k : Cluster} : (s.setCl c k).ctg = s.ctg := rfl
@[simp] theorem State.setCl_fw {c : Nat} {k : Cluster} : (s.setCl c k).fw = s.fw := rfl
@[simp] theorem State.setCl_boot {c : Nat} {k : Cluster} : (s.setCl c k).boot = s.boot := rfl
@[simp] theorem State.setCl_pwr {c : Nat} {k : Cluster} : (s.setCl c k).pwr = s.pwr := rfl
@[simp] theorem State.setCl_clk {c : Nat} {k : Cluster} : (s.setCl c k).clk = s.clk := rfl
@[simp] theorem State.setCl_log {c : Nat} {k : Cluster} : (s.setCl c k).log = s.log := rfl
@[simp] theorem State.setCl_diag {c : Nat} {k : Cluster} : (s.setCl c k).diag = s.diag := rfl
@[simp] theorem State.setCl_out {c : Nat} {k : Cluster} : (s.setCl c k).out = s.out := rfl
@[simp] theorem State.setCl_now {c : Nat} {k : Cluster} : (s.setCl c k).now = s.now := rfl
@[simp] theorem State.setCl_freeCtr {c : Nat} {k : Cluster} : (s.setCl c k).freeCtr = s.freeCtr := rfl
@[simp] theorem State.setCl_pending {c : Nat} {k : Cluster} : (s.setCl c k).pending = s.pending := rfl
@[simp] theorem State.setCl_stk {c : Nat} {k : Cluster} {i : Nat} : (s.setCl c k).stk i = s.stk i := rfl
@[simp] theorem State.setCl_obj {c : Nat} {k : Cluster} {i j : Nat} : (s.setCl c k).obj i j = s.obj i j := rfl

/-! modStk -/

@[simp] theorem State.modStk_clusters {k : Nat} {f : Stack → Stack} : (s.modStk k f).clusters = s.clusters := rfl
@[simp] theorem State.modStk_hbm {k : Nat} {f : Stack → Stack} : (s.modStk k f).hbm = Tbl.mod {} s.hbm k f := rfl
@[simp] theorem State.modStk_gaz {k : Nat} {f : Stack → Stack} : (s.modStk k f).gaz = s.gaz := rfl
@[simp] theorem State.modStk_delta {k : Nat} {f : Stack → Stack} : (s.modStk k f).delta = s.delta := rfl
@[simp] theorem State.modStk_lev {k : Nat} {f : Stack → Stack} : (s.modStk k f).lev = s.lev := rfl
@[simp] theorem State.modStk_larre {k : Nat} {f : Stack → Stack} : (s.modStk k f).larre = s.larre := rfl
@[simp] theorem State.modStk_mer {k : Nat} {f : Stack → Stack} : (s.modStk k f).mer = s.mer := rfl
@[simp] theorem State.modStk_cnf {k : Nat} {f : Stack → Stack} : (s.modStk k f).cnf = s.cnf := rfl
@[simp] theorem State.modStk_ten {k : Nat} {f : Stack → Stack} : (s.modStk k f).ten = s.ten := rfl
@[simp] theorem State.modStk_hosts {k : Nat} {f : Stack → Stack} : (s.modStk k f).hosts = s.hosts := rfl
@[simp] theorem State.modStk_lgd {k : Nat} {f : Stack → Stack} : (s.modStk k f).lgd = s.lgd := rfl
@[simp] theorem State.modStk_ctg {k : Nat} {f : Stack → Stack} : (s.modStk k f).ctg = s.ctg := rfl
@[simp] theorem State.modStk_fw {k : Nat} {f : Stack → Stack} : (s.modStk k f).fw = s.fw := rfl
@[simp] theorem State.modStk_boot {k : Nat} {f : Stack → Stack} : (s.modStk k f).boot = s.boot := rfl
@[simp] theorem State.modStk_pwr {k : Nat} {f : Stack → Stack} : (s.modStk k f).pwr = s.pwr := rfl
@[simp] theorem State.modStk_clk {k : Nat} {f : Stack → Stack} : (s.modStk k f).clk = s.clk := rfl
@[simp] theorem State.modStk_log {k : Nat} {f : Stack → Stack} : (s.modStk k f).log = s.log := rfl
@[simp] theorem State.modStk_diag {k : Nat} {f : Stack → Stack} : (s.modStk k f).diag = s.diag := rfl
@[simp] theorem State.modStk_out {k : Nat} {f : Stack → Stack} : (s.modStk k f).out = s.out := rfl
@[simp] theorem State.modStk_now {k : Nat} {f : Stack → Stack} : (s.modStk k f).now = s.now := rfl
@[simp] theorem State.modStk_freeCtr {k : Nat} {f : Stack → Stack} : (s.modStk k f).freeCtr = s.freeCtr := rfl
@[simp] theorem State.modStk_pending {k : Nat} {f : Stack → Stack} : (s.modStk k f).pending = s.pending := rfl
@[simp] theorem State.modStk_cl {k : Nat} {f : Stack → Stack} {i : Nat} : (s.modStk k f).cl i = s.cl i := rfl
@[simp] theorem State.modStk_obj {k : Nat} {f : Stack → Stack} {i j : Nat} : (s.modStk k f).obj i j = s.obj i j := rfl

/-! emit -/

@[simp] theorem State.emit_clusters {m : Msg} : (s.emit m).clusters = s.clusters := rfl
@[simp] theorem State.emit_hbm {m : Msg} : (s.emit m).hbm = s.hbm := rfl
@[simp] theorem State.emit_gaz {m : Msg} : (s.emit m).gaz = s.gaz := rfl
@[simp] theorem State.emit_delta {m : Msg} : (s.emit m).delta = s.delta := rfl
@[simp] theorem State.emit_lev {m : Msg} : (s.emit m).lev = s.lev := rfl
@[simp] theorem State.emit_larre {m : Msg} : (s.emit m).larre = s.larre := rfl
@[simp] theorem State.emit_mer {m : Msg} : (s.emit m).mer = s.mer := rfl
@[simp] theorem State.emit_cnf {m : Msg} : (s.emit m).cnf = s.cnf := rfl
@[simp] theorem State.emit_ten {m : Msg} : (s.emit m).ten = s.ten := rfl
@[simp] theorem State.emit_hosts {m : Msg} : (s.emit m).hosts = s.hosts := rfl
@[simp] theorem State.emit_lgd {m : Msg} : (s.emit m).lgd = s.lgd := rfl
@[simp] theorem State.emit_ctg {m : Msg} : (s.emit m).ctg = s.ctg := rfl
@[simp] theorem State.emit_fw {m : Msg} : (s.emit m).fw = s.fw := rfl
@[simp] theorem State.emit_boot {m : Msg} : (s.emit m).boot = s.boot := rfl
@[simp] theorem State.emit_pwr {m : Msg} : (s.emit m).pwr = s.pwr := rfl
@[simp] theorem State.emit_clk {m : Msg} : (s.emit m).clk = s.clk := rfl
@[simp] theorem State.emit_log {m : Msg} : (s.emit m).log = s.log := rfl
@[simp] theorem State.emit_diag {m : Msg} : (s.emit m).diag = s.diag := rfl
@[simp] theorem State.emit_out {m : Msg} : (s.emit m).out = m :: s.out := rfl
@[simp] theorem State.emit_now {m : Msg} : (s.emit m).now = s.now := rfl
@[simp] theorem State.emit_freeCtr {m : Msg} : (s.emit m).freeCtr = s.freeCtr := rfl
@[simp] theorem State.emit_pending {m : Msg} : (s.emit m).pending = s.pending := rfl
@[simp] theorem State.emit_cl {m : Msg} {i : Nat} : (s.emit m).cl i = s.cl i := rfl
@[simp] theorem State.emit_stk {m : Msg} {i : Nat} : (s.emit m).stk i = s.stk i := rfl
@[simp] theorem State.emit_obj {m : Msg} {i j : Nat} : (s.emit m).obj i j = s.obj i j := rfl

/-! emits -/

@[simp] theorem State.emits_clusters {ms : List Msg} : (s.emits ms).clusters = s.clusters := rfl
@[simp] theorem State.emits_hbm {ms : List Msg} : (s.emits ms).hbm = s.hbm := rfl
@[simp] theorem State.emits_gaz {ms : List Msg} : (s.emits ms).gaz = s.gaz := rfl
@[simp] theorem State.emits_delta {ms : List Msg} : (s.emits ms).delta = s.delta := rfl
@[simp] theorem State.emits_lev {ms : List Msg} : (s.emits ms).lev = s.lev := rfl
@[simp] theorem State.emits_larre {ms : List Msg} : (s.emits ms).larre = s.larre := rfl
@[simp] theorem State.emits_mer {ms : List Msg} : (s.emits ms).mer = s.mer := rfl
@[simp] theorem State.emits_cnf {ms : List Msg} : (s.emits ms).cnf = s.cnf := rfl
@[simp] theorem State.emits_ten {ms : List Msg} : (s.emits ms).ten = s.ten := rfl
@[simp] theorem State.emits_hosts {ms : List Msg} : (s.emits ms).hosts = s.hosts := rfl
@[simp] theorem State.emits_lgd {ms : List Msg} : (s.emits ms).lgd = s.lgd := rfl
@[simp] theorem State.emits_ctg {ms : List Msg} : (s.emits ms).ctg = s.ctg := rfl
@[simp] theorem State.emits_fw {ms : List Msg} : (s.emits ms).fw = s.fw := rfl
@[simp] theorem State.emits_boot {ms : List Msg} : (s.emits ms).boot = s.boot := rfl
@[simp] theorem State.emits_pwr {ms : List Msg} : (s.emits ms).pwr = s.pwr := rfl
@[simp] theorem State.emits_clk {ms : List Msg} : (s.emits ms).clk = s.clk := rfl
@[simp] theorem State.emits_log {ms : List Msg} : (s.emits ms).log = s.log := rfl
@[simp] theorem State.emits_diag {ms : List Msg} : (s.emits ms).diag = s.diag := rfl
@[simp] theorem State.emits_out {ms : List Msg} : (s.emits ms).out = ms.reverse ++ s.out := rfl
@[simp] theorem State.emits_now {ms : List Msg} : (s.emits ms).now = s.now := rfl
@[simp] theorem State.emits_freeCtr {ms : List Msg} : (s.emits ms).freeCtr = s.freeCtr := rfl
@[simp] theorem State.emits_pending {ms : List Msg} : (s.emits ms).pending = s.pending := rfl
@[simp] theorem State.emits_cl {ms : List Msg} {i : Nat} : (s.emits ms).cl i = s.cl i := rfl
@[simp] theorem State.emits_stk {ms : List Msg} {i : Nat} : (s.emits ms).stk i = s.stk i := rfl
@[simp] theorem State.emits_obj {ms : List Msg} {i j : Nat} : (s.emits ms).obj i j = s.obj i j := rfl

/-! withFront -/

@[simp] theorem State.withFront_clusters {c : Instr} : (s.withFront c).clusters = s.clusters := rfl
@[simp] theorem State.withFront_hbm {c : Instr} : (s.withFront c).hbm = s.hbm := rfl
@[simp] theorem State.withFront_gaz {c : Instr} : (s.withFront c).gaz = s.gaz := rfl
@[simp] theorem State.withFront_delta {c : Instr} : (s.withFront c).delta = s.delta := rfl
@[simp] theorem State.withFront_lev {c : Instr} : (s.withFront c).lev = s.lev := rfl
@[simp] theorem State.withFront_larre {c : Instr} : (s.withFront c).larre = s.larre := rfl
@[simp] theorem State.withFront_mer {c : Instr} : (s.withFront c).mer = s.mer := rfl
@[simp] theorem State.withFront_cnf {c : Instr} : (s.withFront c).cnf = s.cnf := rfl
@[simp] theorem State.withFront_ten {c : Instr} : (s.withFront c).ten = s.ten := rfl
@[simp] theorem State.withFront_hosts {c : Instr} : (s.withFront c).hosts = s.hosts := rfl
@[simp] theorem State.withFront_lgd {c : Instr} : (s.withFront c).lgd = s.lgd := rfl
@[simp] theorem State.withFront_ctg {c : Instr} : (s.withFront c).ctg = s.ctg := rfl
@[simp] theorem State.withFront_fw {c : Instr} : (s.withFront c).fw = s.fw := rfl
@[simp] theorem State.withFront_boot {c : Instr} : (s.withFront c).boot = s.boot := rfl
@[simp] theorem State.withFront_pwr {c : Instr} : (s.withFront c).pwr = s.pwr := rfl
@[simp] theorem State.withFront_clk {c : Instr} : (s.withFront c).clk = s.clk := rfl
@[simp] theorem State.withFront_log {c : Instr} : (s.withFront c).log = s.log := rfl
@[simp] theorem State.withFront_diag {c : Instr} : (s.withFront c).diag = s.diag := rfl
@[simp] theorem State.withFront_out {c : Instr} : (s.withFront c).out = s.out := rfl
@[simp] theorem State.withFront_now {c : Instr} : (s.withFront c).now = s.now := rfl
@[simp] theorem State.withFront_freeCtr {c : Instr} : (s.withFront c).freeCtr = s.freeCtr := rfl
@[simp] theorem State.withFront_pending {c : Instr} : (s.withFront c).pending = c :: s.pending := rfl
@[simp] theorem State.withFront_cl {c : Instr} {i : Nat} : (s.withFront c).cl i = s.cl i := rfl
@[simp] theorem State.withFront_stk {c : Instr} {i : Nat} : (s.withFront c).stk i = s.stk i := rfl
@[simp] theorem State.withFront_obj {c : Instr} {i j : Nat} : (s.withFront c).obj i j = s.obj i j := rfl

/-! One cluster, one stack -/

/-- A cluster changed is the new value, every other one stays. -/
theorem State.setCl_cl {c i : Nat} {k : Cluster} : (s.setCl c k).cl i = if i = c then k else s.cl i := Tbl.get_set ..
@[simp] theorem State.setCl_cl_same {c : Nat} {k : Cluster} : (s.setCl c k).cl c = k := by simp [State.setCl_cl]
@[simp] theorem State.setCl_cl_ne {c i : Nat} {k : Cluster} (h : i ≠ c) : (s.setCl c k).cl i = s.cl i := by simp [State.setCl_cl, h]
theorem State.modStk_stk {k i : Nat} {f : Stack → Stack} : (s.modStk k f).stk i = if i = k then f (s.stk k) else s.stk i := Tbl.get_set ..
@[simp] theorem State.modStk_stk_same {k : Nat} {f : Stack → Stack} : (s.modStk k f).stk k = f (s.stk k) := by simp [State.modStk_stk]
@[simp] theorem State.modStk_stk_ne {k i : Nat} {f : Stack → Stack} (h : i ≠ k) : (s.modStk k f).stk i = s.stk i := by simp [State.modStk_stk, h]

end Sys2Proof.Machine
end

