-- ==== Sys2Proof/Laws/Words.lean ====
section
/-!
SUPPORT. The words that the rows of the compute engines issue read back as the fields they were made of.
-/
namespace Sys2Proof.Machine

/-- A scalar word of form R reads back as its fields; its low bits are 0. -/
theorem decScalar_encR {sop : Nat} {rd rs1 rs2 : Reg} (h : sop < 64) : decScalar (encR sop rd rs1 rs2) =
    ⟨sop, rd.toNat, rs1.toNat, rs2.toNat, 0, rs2.toNat * 2 ^ 11, rd.toNat * 2 ^ 21 + rs1.toNat * 2 ^ 16 + rs2.toNat * 2 ^ 11⟩ := by
  have := rd.isLt; have := rs1.isLt; have := rs2.isLt
  simp only [decScalar, encR, bits, fld, BitVec.toNat_ofNat, Nat.shiftLeft_eq, Nat.shiftRight_eq_div_pow, SWord.mk.injEq]
  refine ⟨?_, ?_, ?_, ?_, ?_, ?_, ?_⟩ <;> omega

/-- A scalar word of form I reads back as its fields. -/
theorem decScalar_encI {sop : Nat} {rd rs1 : Reg} {imm : Half} (h : sop < 64) : decScalar (encI sop rd rs1 imm) =
    ⟨sop, rd.toNat, rs1.toNat, imm.toNat / 2 ^ 11, imm.toNat % 2 ^ 11, imm.toNat, rd.toNat * 2 ^ 21 + rs1.toNat * 2 ^ 16 + imm.toNat⟩ := by
  have := rd.isLt; have := rs1.isLt; have := imm.isLt
  simp only [decScalar, encI, bits, fld, BitVec.toNat_ofNat, Nat.shiftLeft_eq, Nat.shiftRight_eq_div_pow, SWord.mk.injEq]
  refine ⟨?_, ?_, ?_, ?_, ?_, ?_, ?_⟩ <;> omega

/-- The offset of a scalar word of form J reads back. -/
theorem decScalar_encJ {sop : Nat} {off : BitVec 26} (h : sop < 64) :
    (decScalar (encJ sop off)).sop = sop ∧ (decScalar (encJ sop off)).off = off.toNat := by
  have := off.isLt
  simp only [decScalar, encJ, bits, fld, BitVec.toNat_ofNat, Nat.shiftLeft_eq, Nat.shiftRight_eq_div_pow]
  constructor <;> omega

/-- A vector word reads back as its fields. -/
theorem decVec_encVec {vop : Nat} {vd vs : Reg} {m : BitVec 3} {count : BitVec 13} (h : vop < 64) :
    decVec (encVec vop vd vs m count) = ⟨vop, vd.toNat, vs.toNat, m.toNat, count.toNat⟩ := by
  have := vd.isLt; have := vs.isLt; have := m.isLt; have := count.isLt
  simp only [decVec, encVec, bits, fld, BitVec.toNat_ofNat, Nat.shiftLeft_eq, Nat.shiftRight_eq_div_pow, VOpW.mk.injEq]
  refine ⟨?_, ?_, ?_, ?_, ?_⟩ <;> omega

/-- A move word reads back as its fields. -/
theorem decMove_encMove {mvop : Nat} {gd : Reg} {lcls : BitVec 5} {cut : BitVec 3} (h : mvop < 16) :
    decMove (encMove mvop gd lcls.toNat cut.toNat) = ⟨mvop, gd.toNat, lcls.toNat, cut.toNat, 0⟩ := by
  have := gd.isLt; have := lcls.isLt; have := cut.isLt
  simp only [decMove, encMove, bits, fld, BitVec.toNat_ofNat, Nat.shiftLeft_eq, Nat.shiftRight_eq_div_pow, MvWord.mk.injEq]
  refine ⟨?_, ?_, ?_, ?_, ?_⟩ <;> omega

end Sys2Proof.Machine
end

