-- ==== Sys2Proof/Laws/Scalar.lean ====
section
/-!
SUPPORT. What the words of the scalar slot do: the rows of two registers, of a register and an immediate, and how a word that meets no
refusal, hold or stall issues.
-/
namespace Sys2Proof.Machine

/-- A cluster changed without an uncorrected word met: the new cluster, and nothing else. -/
theorem modCl_eq {s : State} {c : Nat} {f : Cluster → Cluster} (h : (f (s.cl c)).spd.ueSeen ≤ (s.cl c).spd.ueSeen) :
    s.modCl c f = s.setCl c (f (s.cl c)) := by
  simp [State.modCl, Nat.not_lt.mpr h]

theorem weirStalls_nil (x : Spd) : x.weirStalls [] = false := by simp [Spd.weirStalls]
/-- A register row issued by a sequencer writes its result to rd. -/
theorem seq_reg {s : State} {c : ClusterId} {w : Word32} (hg : (s.cl c).gHeld (scalarReads w) = false) (hi : ∀ k, k ≤ 3 → scalarIllegal k w = none) (h1 : 1 ≤ (decScalar w).sop) (h2 : (decScalar w).sop ≤ 0x1F) :
    scalarWord c w s = s.withSq c (fun q => q.setG (decScalar w).rd (regResult (decScalar w) (q.gpr (decScalar w).rs1) (q.gpr (decScalar w).rs2) (q.gpr (decScalar w).rd))) := by
  have hk : clusterKind c ≤ 3 := by unfold clusterKind; split <;> (try split) <;> omega
  generalize ho : decScalar w = o at *
  have e : ∀ q, scalarRefuse q w = none ∧ scalarExtents q w = [] := by
    intro q
    simp only [scalarRefuse, scalarExtents, ho]
    refine ⟨?_, ?_⟩
    · rw [if_neg (by omega), if_neg (by omega), if_neg (by omega), if_neg (by omega)]
    · rw [if_neg (by omega), if_neg (by omega)]
  have eh : scalarHeld (s.cl c) w = false := by
    simp only [scalarHeld, hg, ho]
    rw [if_neg (by omega), if_neg (by omega)]; rfl
  have h3 : ∀ n : Cluster, scalarExec (clusterKind c) (s.merCopy (↑c / 8)) (s.dieCount (↑c / 8)) n n w = { n with sq := Sqr.setG n.sq o.rd (regResult o (n.sq.gpr o.rs1) (n.sq.gpr o.rs2) (n.sq.gpr o.rd)) } := by
    intro n
    simp only [scalarExec, ho]
    rw [if_neg (by omega), if_pos h2]
  simp [scalarWord, hi _ hk, eh, (e _).1, (e _).2, weirStalls_nil, h3, modCl_eq, State.withSq]

@[simp] theorem Cluster.modThread_modThread (k : Cluster) (t : Nat) (f g : Thread → Thread) :
    (k.modThread t f).modThread t g = k.modThread t fun h => g (f h) := by
  simp [Cluster.modThread, Sx.modThread, Tbl.mod_mod]
@[simp] theorem Cluster.thread_modThread (k : Cluster) (t : Nat) (f : Thread → Thread) : (k.modThread t f).thread t = f (k.thread t) := by
  simp [Cluster.modThread, Sx.modThread, Cluster.thread, Sx.thread]

/-- A register row issued by a thread that nothing holds writes its result to rd. -/
theorem thr_reg {s : State} {site : SiteId} {t : ThreadId} {w : Word32} (hh : s.ThrGoes site t) (hi : scalarIllegal 3 w = none) (h1 : 1 ≤ (decScalar w).sop) (h2 : (decScalar w).sop ≤ 0x1F) :
    threadWord site t w s = s.setCl (sxOf site) ((s.cl (sxOf site)).modThread t fun h => ({ h with hold := .none } : Thread).setX (decScalar w).rd
      (regResult (decScalar w) (((s.cl (sxOf site)).thread t).reg (decScalar w).rs1) (((s.cl (sxOf site)).thread t).reg (decScalar w).rs2) (((s.cl (sxOf site)).thread t).reg (decScalar w).rd))) := by
  generalize ho : decScalar w = o at *
  have ht : ∀ h, thrTarget h o = none := by
    intro h; simp only [thrTarget]; (repeat' rw [if_neg (by omega)])
  have ha : ∀ h, thrAccess h o = none := by
    intro h; simp only [thrAccess]; (repeat' rw [if_neg (by omega)])
  have hg : thrGate (s.cl (sxOf site)) t w = .go := by
    simp [thrGate, hi, ho, ht, ha]
  have he : ∀ k : Cluster, thrExec k t w = k.modThread t fun h => h.setX o.rd (regResult o ((k.thread t).reg o.rs1) ((k.thread t).reg o.rs2) ((k.thread t).reg o.rd)) := by
    intro k; simp only [thrExec, ho]; rw [if_neg (by omega), if_pos h2]; rfl
  simp only [State.ThrGoes] at hh
  simp only [threadWord, hh, hg, ho, ht, he]
  rw [modCl_eq]
  · simp [Thread.reg]
  · simp [Cluster.modThread]

/-- The register rows are legal for every issuer. -/
theorem legalR {sop : Nat} {rd rs1 rs2 : Reg} (h : (1 ≤ sop ∧ sop ≤ 0x0E) ∨ (0x17 ≤ sop ∧ sop ≤ 0x1D)) (k) (_ : k ≤ 3) : scalarIllegal k (encR sop rd rs1 rs2) = none := by
  have h64 : sop < 64 := by omega
  simp only [scalarIllegal, scalarMbz, decScalar_encR h64]
  rw [if_neg (by omega), if_neg, if_neg]
  · simp [sopAllowed]; repeat' split
    all_goals simp; omega
  · rw [if_neg (by omega)]
    simp [isFormR]
    omega
theorem legalI {sop : Nat} {rd rs1 : Reg} {imm : Half} (h : (0x0F ≤ sop ∧ sop ≤ 0x12) ∨ (0x13 ≤ sop ∧ sop ≤ 0x15 ∧ imm.toNat < 64) ∨ (sop = 0x16 ∧ rs1 = 0)) (k) (_ : k ≤ 3) : scalarIllegal k (encI sop rd rs1 imm) = none := by
  have h64 : sop < 64 := by omega
  simp only [scalarIllegal, scalarMbz, decScalar_encI h64]
  rw [if_neg (by omega), if_neg, if_neg]
  · simp [sopAllowed]; repeat' split
    all_goals simp; omega
  · rw [if_neg (by omega)]
    rcases h with h | h | ⟨h, rfl⟩ <;> simp [isFormR] <;> omega

/-- A thread's register as the operations read and write it. -/
theorem x_reg (s : State) (site : SiteId) (t : ThreadId) (r : Reg) : ((s.cl (sxOf site)).thread t).reg r.toNat = s.x site t r := by
  simp only [Thread.reg, State.x, Cluster.thread]
  by_cases h : r = 0
  · subst h; simp
  · have : r.toNat ≠ 0 := fun e => h (by apply BitVec.eq_of_toNat_eq; simpa using e)
    rw [if_neg this, if_neg h]
theorem withX_eq (s : State) (site : SiteId) (t : ThreadId) (r : Reg) (v : Word) :
    s.setCl (sxOf site) ((s.cl (sxOf site)).modThread t fun h => ({ h with hold := .none } : Thread).setX r.toNat v) = s.withX site t r v := by
  simp only [State.withX, Thread.setX]
  by_cases h : r = 0
  · subst h; simp
  · have : r.toNat ≠ 0 := fun e => h (by apply BitVec.eq_of_toNat_eq; simpa using e)
    congr 2; funext q; rw [if_neg this, if_neg h]

/-- A scalar slot that reads the registers `rs` alone is not held by a running VCOMPRESS that writes none of them. -/
theorem GFree_reads {s : State} {c : ClusterId} {rs : List Reg} {w : Word32} (h : s.GFree c rs) (hw : scalarReads w = rs.map BitVec.toNat) :
    (s.cl c).gHeld (scalarReads w) = false := by
  rw [hw, Cluster.gHeld]
  cases e : (s.cl c).gPending with
  | none => rfl
  | some g =>
    simp only [Option.any_some, List.contains_eq_mem, decide_eq_false_iff_not, List.mem_map, not_exists, not_and]
    intro r hr h2
    exact h r hr (by rw [e, h2])

theorem reads_encI {sop : Nat} {rd rs1 : Reg} {imm : Half} (h : (0x0F ≤ sop ∧ sop ≤ 0x15) ∨ sop = 0x16) :
    scalarReads (encI sop rd rs1 imm) = (if sop = 0x16 then [rd] else [rs1]).map BitVec.toNat := by
  rw [scalarReads, decScalar_encI (by omega)]
  dsimp only
  by_cases e : sop = 0x16
  · rw [if_pos e, if_neg (by omega), if_neg (by omega), if_neg (by omega), if_pos (by omega)]; rfl
  · rw [if_neg e, if_neg (by omega), if_pos (by omega)]; rfl

/-- A register row by either kind of issuer. -/
theorem rowR (e1 : Agent → Reg → Reg → Reg → Instr) (f : Word → Word → Word) (sop : Nat) (hsop : (1 ≤ sop ∧ sop ≤ 0x0E) ∨ (0x17 ≤ sop ∧ sop ≤ 0x1D))
    (he : ∀ ag rd rs1 rs2 s, exec (e1 ag rd rs1 rs2) s = scalarRow ag (encR sop rd rs1 rs2) s)
    (hf : ∀ (rd rs1 rs2 : Reg) a b o, regResult ⟨sop, rd.toNat, rs1.toNat, rs2.toNat, 0, rs2.toNat * 2 ^ 11, rd.toNat * 2 ^ 21 + rs1.toNat * 2 ^ 16 + rs2.toNat * 2 ^ 11⟩ a b o = f a b) :
    ∀ (rd rs1 rs2 : Reg) (s : State),
    (∀ c, s.GFree c [rs1, rs2] → exec (e1 (.seq c) rd rs1 rs2) s = .next (s.withG c rd (f (s.g c rs1) (s.g c rs2)))) ∧
    (∀ site t, s.ThrGoes site t → exec (e1 (.thr site t) rd rs1 rs2) s = .next (s.withX site t rd (f (s.x site t rs1) (s.x site t rs2)))) := by
  intro rd rs1 rs2 s
  have h64 : sop < 64 := by omega
  constructor
  · intro c hf0
    rw [he]; simp only [scalarRow]
    rw [seq_reg (GFree_reads hf0 (by rw [scalarReads, decScalar_encR h64]; dsimp only; rw [if_pos (by omega)]; rfl)) (legalR hsop) (by rw [decScalar_encR h64]; simp only; omega) (by rw [decScalar_encR h64]; simp only; omega), decScalar_encR h64]
    simp only [hf]; rfl
  · intro site t hh
    rw [he]; simp only [scalarRow]
    rw [thr_reg hh (legalR hsop 3 (by omega)) (by rw [decScalar_encR h64]; simp only; omega) (by rw [decScalar_encR h64]; simp only; omega), decScalar_encR h64]
    simp only [hf, x_reg, withX_eq]

/-- An immediate row by either kind of issuer. -/
theorem rowI (e1 : Agent → Reg → Reg → Half → Instr) (f : Word → Word → Half → Word) (sop : Nat) 
    (he : ∀ ag rd rs1 imm s, exec (e1 ag rd rs1 imm) s = scalarRow ag (encI sop rd rs1 imm) s)
    (hf : ∀ (rd rs1 : Reg) (imm : Half) a b o, regResult ⟨sop, rd.toNat, rs1.toNat, imm.toNat / 2 ^ 11, imm.toNat % 2 ^ 11, imm.toNat, rd.toNat * 2 ^ 21 + rs1.toNat * 2 ^ 16 + imm.toNat⟩ a b o = f a o imm) :
    ∀ (rd rs1 : Reg) (imm : Half) (s : State), ((0x0F ≤ sop ∧ sop ≤ 0x12) ∨ (0x13 ≤ sop ∧ sop ≤ 0x15 ∧ imm.toNat < 64) ∨ (sop = 0x16 ∧ rs1 = 0)) →
    (∀ c, s.GFree c (if sop = 0x16 then [rd] else [rs1]) → exec (e1 (.seq c) rd rs1 imm) s = .next (s.withG c rd (f (s.g c rs1) (s.g c rd) imm))) ∧
    (∀ site t, s.ThrGoes site t → exec (e1 (.thr site t) rd rs1 imm) s = .next (s.withX site t rd (f (s.x site t rs1) (s.x site t rd) imm))) := by
  intro rd rs1 imm s hsop
  have h64 : sop < 64 := by omega
  constructor
  · intro c hf0
    rw [he]; simp only [scalarRow]
    rw [seq_reg (GFree_reads hf0 (reads_encI (by omega))) (legalI hsop) (by rw [decScalar_encI h64]; simp only; omega) (by rw [decScalar_encI h64]; simp only; omega), decScalar_encI h64]
    simp only [hf]; rfl
  · intro site t hh
    rw [he]; simp only [scalarRow]
    rw [thr_reg hh (legalI hsop 3 (by omega)) (by rw [decScalar_encI h64]; simp only; omega) (by rw [decScalar_encI h64]; simp only; omega), decScalar_encI h64]
    simp only [hf, x_reg, withX_eq]

theorem sext16 (i : Half) : BitVec.ofInt 64 (sext 16 i.toNat) = i.signExtend 64 := by
  have h : sext 16 i.toNat = i.toInt := by
    have := i.isLt
    simp only [sext, BitVec.toInt_eq_toNat_cond]
    rw [Nat.mod_eq_of_lt this]
    split <;> split <;> first | rfl | omega
  rw [h]; rfl


/-- A scalar word that meets no refusal, hold or stall has its effect. -/
theorem scalarWord_go {s : State} {c : ClusterId} {w : Word32} (h1 : scalarIllegal (clusterKind c) w = none)
    (h2 : scalarHeld (s.cl c) w = false) (h3 : scalarRefuse (s.cl c).sq w = none)
    (h4 : (s.cl c).spd.weirStalls (scalarExtents (s.cl c).sq w) = false) :
    scalarWord c w s = s.modCl c fun k => scalarExec (clusterKind c) (s.merCopy (c / 8)) (s.dieCount (c / 8)) k k w := by
  simp [scalarWord, h1, h2, h3, h4]
/-- A scalar word refused at issue is entered as a trap. -/
theorem scalarWord_refused {s : State} {c : ClusterId} {w : Word32} {k : Cause} {sub : Nat} (h1 : scalarIllegal (clusterKind c) w = none)
    (h2 : scalarHeld (s.cl c) w = false) (h3 : scalarRefuse (s.cl c).sq w = some (k, sub))
    (h4 : (s.cl c).spd.weirStalls (scalarExtents (s.cl c).sq w) = false) :
    scalarWord c w s = s.enterTrap c k sub := by
  simp [scalarWord, h1, h2, h3, h4]
theorem clusterKind_le (c : Nat) : clusterKind c ≤ 2 := by unfold clusterKind; split <;> (try split) <;> omega
/-- The kinds of cluster, as the checks of opcodes see them. -/
theorem sopAllowed_seq {c sop : Nat} (h : sop ≤ 0x25 ∨ (0x29 ≤ sop ∧ sop ≤ 0x2F)) : sopAllowed (clusterKind c) sop = true := by
  have := clusterKind_le c
  simp only [sopAllowed]; split
  · simp; omega
  · simpa using h

theorem ofNat_small {n k : Nat} (h : k < 2 ^ n) : (BitVec.ofNat n k).toNat = k := by rw [BitVec.toNat_ofNat, Nat.mod_eq_of_lt h]

theorem sext_toInt {n : Nat} (hn : 0 < n) (b : BitVec n) : sext n b.toNat = b.toInt := by
  have := b.isLt
  simp only [sext, BitVec.toInt_eq_toNat_cond]
  rw [Nat.mod_eq_of_lt this]
  have h2 : 2 ^ n = 2 * 2 ^ (n - 1) := by rw [← Nat.pow_succ']; congr 1; omega
  split <;> split <;> first | rfl | omega
theorem ofInt_sext {n : Nat} (hn : 0 < n) (b : BitVec n) : BitVec.ofInt 64 (sext n b.toNat) = b.signExtend 64 := by rw [sext_toInt hn]; rfl

end Sys2Proof.Machine
end

