-- ==== Sys2Proof/Tests/Slice0.lean ====
section
/-!
SUPPORT. Tests: for each obligation a state and operands that meet the hypotheses of its clauses, an ill-formed command for each check of
WellFormed, and single steps whose expected values follow from the rule named. The table gives no row any bits, so there is no word to
decode.
-/
open Sys2Proof Sys2Proof.Machine

namespace Sys2Proof.Tests

/-! Small states: the panel after reset with one part changed. -/

def R : State := State.reset
def onSq (f : Sqr → Sqr) : State := R.withSq 0 f
def onSpd (f : Spd → Spd) : State := R.withCl 0 fun k => { k with spd := f k.spd }
def onThr (f : Thread → Thread) : State := R.withThread 0 0 f
def onVx (f : Vx → Vx) : State := R.withCl 5 fun k => { k with vx := f k.vx }
def onMx (f : Mx → Mx) : State := R.withMx 0 f
/-- The exact answer of a command, for a test of one field. -/
def after (i : Instr) (s : State) : State := match exec i s with | .next t => t | _ => s

/-- A running VCOMPRESS to v1, whose g register is g1; and a thread that an SXFENCE holds. -/
def compressRun : VxRun := { word := encVec 0x34 1 2 1 4, lsd := 0, rdesc := 0, gval := 0 }
def fenced : State := onThr fun h => { h with run := true, hold := .fence, sb := [⟨8, 0xFF, 5⟩] }

/-! Witnesses of the statements: for each clause a state and operands that meet its hypotheses together. -/

theorem test_witness_integer_operations :
    (0x3F : Half).toNat < 64 ∧ 64 ≤ (0x40 : Half).toNat ∧ R.g 0 1 = 0 ∧
    (onSq fun q => q.setG 1 1).g 0 1 ≠ 0 ∧ InSpd (jumpTo ((onSq fun q => q.setG 1 1).cl 0).sq.pc (0x7FFF : Half).toInt) ∧
    R.GFree 0 [1, 2] ∧ ¬ (onVx fun x => { x with run := some compressRun }).GFree 5 [1, 2] ∧ R.ThrGoes 0 0 ∧ ¬ fenced.ThrGoes 0 0 := by
  simp only [InSpd, State.GFree, State.ThrGoes]; decide

/-- 05 R131, 06 R165: a scalar row waits for the register that a running VCOMPRESS has still to write, and no other. -/
theorem test_compress_interlock :
    (let s := onVx fun x => { x with run := some compressRun }
     after (.add (.seq 5) 3 1 2) s = s ∧ (after (.addi (.seq 5) 3 2 7) s).g 5 3 = 7) ∧
    (let s := fenced; after (.addi (.thr 0 0) 3 0 7) s = s) := by
  decide +kernel

theorem test_witness_sequencer_loads_and_stores :
    (R.seqAddr 0 0 8 % 8 = 0 ∧ R.Loads 0 (R.cl 0).sq.sb (R.seqAddr 0 0 8) 8) ∧
    (let s := onSq fun q => { q with sb := [⟨8, 0xFF, 5⟩] }
     s.seqAddr 0 0 8 % 8 = 0 ∧ s.seqAddr 0 0 8 + 8 ≤ spdSize ∧ sbLookup (s.cl 0).sq.sb (s.seqAddr 0 0 8) 8 = .forward 5 ∧
       (s.cl 0).spd.weirStalls [⟨s.seqAddr 0 0 8, 8, false⟩] = false) ∧
    (let s := onSq fun q => q.setG 1 0x17FFFF8
     s.seqAddr 0 1 0 % 8 = 0 ∧ s.seqAddr 0 1 0 + 8 ≤ spdSize ∧ (s.cl 0).sq.sb.length < 8 ∧
       (s.cl 0).spd.weirStalls [⟨s.seqAddr 0 1 0, 8, true⟩] = false) ∧
    (let s := onSq fun q => q.setG 1 0x17FFFF9
     (s.cl 0).sq.sb = [] ∧ spdSize < s.seqAddr 0 1 0 + 8 ∧ ∀ out : Bool, (s.cl 0).spd.weirStalls [⟨s.seqAddr 0 1 0, 8, out⟩] = false) ∧
    ((R.cl 0).sq.sb = [] ∧ R.seqAddr 0 0 4 + 8 ≤ spdSize ∧ R.seqAddr 0 0 4 % 8 ≠ 0 ∧ R.GFree 0 [0, 1] ∧
      ∀ out : Bool, (R.cl 0).spd.weirStalls [⟨R.seqAddr 0 0 4, 8, out⟩] = false) := by
  simp only [State.Loads, State.GFree]; decide

theorem test_witness_thread_loads_and_stores :
    R.Loads (sxOf 0) (R.thread 0 0).sb (R.thrAddr 0 0 0 3) 8 ∧ R.Loads (sxOf 0) (R.thread 0 0).sb (R.thrAddr14 0 0 0 1) (2 ^ (2 : BitVec 2).toNat) ∧
    (R.thrAddr 0 0 0 3 + 8 ≤ spdSize ∧ (R.cl (sxOf 0)).spd.weirStalls [⟨R.thrAddr 0 0 0 3, 8, true⟩] = false ∧
      (R.thread 0 0).sb.length + (wordsOf (R.thrAddr 0 0 0 3) 8).length ≤ 8) ∧
    (let s := onThr fun h => { h with x := [(1, 0x17FFFFF)] }
     s.thrAddr14 0 0 1 0 + 2 ^ (0 : BitVec 2).toNat ≤ spdSize ∧ (s.cl (sxOf 0)).spd.weirStalls [⟨s.thrAddr14 0 0 1 0, 1, true⟩] = false ∧
       (s.thread 0 0).sb.length + (wordsOf (s.thrAddr14 0 0 1 0) 1).length ≤ 8 ∧
       spdSize < s.thrAddr14 0 0 1 0 + 2 ^ (1 : BitVec 2).toNat ∧ s.ThrGoes 0 0) := by
  simp only [State.Loads, State.ThrGoes]; decide

theorem reset_spd_clean (c : Nat) : R.SpdClean c := ⟨rfl, fun _ => rfl⟩

theorem test_witness_store_buffer_drain :
    let e : SbEntry := ⟨8, 0x3C, 5⟩
    (2 + 3 < 8 ∧ ∀ j, j < 8 → e.be.getLsbD j = decide (2 ≤ j ∧ j ≤ 2 + 3)) ∧
    (onSq fun q => { q with sb := [e] }).SpdClean 0 ∧ ((onSq fun q => { q with sb := [e] }).cl 0).sq.sb = e :: [] ∧
    (onThr fun h => { h with sb := [e] }).SpdClean (sxOf 0) ∧ ((onThr fun h => { h with sb := [e] }).thread 0 0).sb = e :: [] ∧
    ((onSpd fun p => { p with zRun := true }).cl 0).spd.zRun = true ∧ ((onSq fun q => { q with sb := [e] }).cl 0).spd.zRun = false :=
  ⟨by decide, ⟨by decide, fun _ => rfl⟩, by decide, ⟨by decide, fun _ => rfl⟩, by decide⟩

theorem test_witness_thread_atomics :
    ((R.x 0 0 0).toNat % 8 = 0 ∧ (R.x 0 0 0).toNat + 8 ≤ spdSize ∧ R.SpdClean (sxOf 0) ∧
      (R.cl (sxOf 0)).spd.weirStalls [⟨(R.x 0 0 0).toNat, 8, true⟩] = false ∧ (R.thread 0 0).sb = []) ∧
    (let s := onThr fun h => { h with x := [(1, 0x17FFFFC)] }
     (s.x 0 0 1).toNat + 4 ≤ spdSize ∧ (s.x 0 0 1).toNat % 4 = 0 ∧ (s.cl (sxOf 0)).holdOver 0 = true) ∧
    (let s := onThr fun h => { h with x := [(1, 4)] }
     (s.x 0 0 1).toNat + 8 ≤ spdSize ∧ (s.x 0 0 1).toNat % 8 ≠ 0) :=
  ⟨⟨by decide, by decide, reset_spd_clean _, by decide, by decide⟩, by decide, by decide⟩

theorem test_witness_transfers :
    (InSpd (jumpTo (R.cl 0).sq.pc (0x17FFFF : BitVec 26).toInt) ∧ ¬ InSpd (jumpTo (R.cl 0).sq.pc (0x180000 : BitVec 26).toInt) ∧
      ¬ InSpd (jumpTo (R.cl 0).sq.pc (0x3FFFFFF : BitVec 26).toInt)) ∧
    (let s := onSq fun q => q.setG 1 1
     R.g 0 1 = 0 ∧ s.g 0 1 ≠ 0 ∧ InSpd (jumpTo (s.cl 0).sq.pc (0 : Half).toInt) ∧ ¬ InSpd (jumpTo (s.cl 0).sq.pc (0xFFFF : Half).toInt)) ∧
    (let s := onThr fun h => { h with x := [(1, 1), (2, 0x17FFFF0), (3, 0x1800000)] }
     R.x 0 0 1 = 0 ∧ s.x 0 0 1 ≠ 0 ∧ s.ThrGoes 0 0 ∧ s.GFree 0 [1] ∧ InSpd (jumpTo (s.thread 0 0).pc (0 : Half).toInt) ∧
       ¬ InSpd (jumpTo (s.thread 0 0).pc (0xFFFF : Half).toInt) ∧
       (s.x 0 0 2).toNat % 2 ^ 25 / 16 * 16 < spdSize ∧ spdSize ≤ (s.x 0 0 3).toNat % 2 ^ 25 / 16 * 16) ∧
    (∀ e ∈ branchRows, e.2 5 5 = true ∨ e.2 5 6 = true) ∧ (∀ e ∈ branchRows, e.2 5 5 = false ∨ e.2 5 6 = false) := by
  simp only [InSpd, State.ThrGoes, State.GFree]; decide

/-- 07 R201: a taken branch of a thread goes to PC + 16 × IMM from a program counter inside its group. -/
theorem test_thread_branch : ((after (.beq 0 0 0 0 2) (onThr fun h => { h with pc := 4 })).thread 0 0).pc = 36 := by decide +kernel

/-- A scratchpad with bytes at an offset, and no word with errors. -/
def holding (c : Nat) (off : Nat) (bs : List Byte) : State :=
  R.withCl c fun k => { k with spd := { k.spd with mem := Memory.writeN [] off bs } }

theorem test_witness_sequencer_stop :
    (R.cl 0).sq.run = false ∧ ((onSq fun q => { q with hold := .sync 0 1 0 }).cl 0).sq.hold = .sync 0 1 0 ∧
    (let s := onSq fun q => { q with run := true, startWait := true, startAt := 5 }; let q := (s.cl 0).sq
     q.run = true ∧ q.hold = .none ∧ q.startWait = true ∧ s.dieCount (0 / 8) < Nat.max q.ebase.toNat q.startAt) ∧
    (let s := onSq fun q => { q with run := true, pc := 0x1800000 }; let q := (s.cl 0).sq
     q.run = true ∧ q.hold = .none ∧ q.startWait = false ∧ (s.cl 0).spd.zRun = false ∧ spdSize < q.pc + 16) ∧
    (let s := onSq fun q => { q with run := true }; let q := (s.cl 0).sq; let b := s.bundleAt 0 q.pc
     q.run = true ∧ q.hold = .none ∧ q.startWait = false ∧ (s.cl 0).spd.zRun = false ∧ q.pc + 16 ≤ spdSize ∧ s.SpdClean 0 ∧
       bundleHeld 0 (s.cl 0) b = false ∧ (s.cl 0).spd.weirStalls (s.bundleExtents 0 (s.cl 0) b) = false) ∧
    (let s := ((holding 5 0 (leBytes 16 (fld 96 (encR 0x01 1 2 3).toNat + 7))).withSq 5 fun q => { q with run := true }).withCl 5
       fun k => { k with vx := { k.vx with run := some { compressRun with word := encVec 0x34 2 4 1 4 } } }
     (s.cl 5).spd.zRun = false ∧ (s.cl 5).sq.pc + 16 ≤ spdSize ∧ s.SpdClean 5 ∧ bundleHeld 5 (s.cl 5) (s.bundleAt 5 (s.cl 5).sq.pc) = true) := by
  refine ⟨by decide, by decide, by decide, by decide, ⟨by decide, by decide, by decide, by decide, by decide, ⟨by decide, fun _ => rfl⟩, by decide⟩,
    ⟨by decide, by decide, ⟨by decide, fun _ => rfl⟩, by decide⟩⟩

theorem test_witness_control_rows_sequencer :
    (let s := { onSq (fun q => q.setG 1 0) with now := 5, mer := { dies := [(0, { t := { cnt := 5, locked := true, ever := true } })] } }
     (s.g 0 1).toNat < s.dieCount (0 / 8) ∧ (s.g 0 1).toNat ≠ 2 ^ 64 - 1 ∧ s.GFree 0 [1, 2]) ∧
    R.dieCount (0 / 8) ≤ (R.g 0 1).toNat ∧ ((onSq fun q => q.setG 1 0xFFFFFFFFFFFFFFFF).g 0 1).toNat = 2 ^ 64 - 1 ∧
    ((R.cl 0).sq.run = false ∧ (R.cl 0).sq.hold = .none ∧ ((onSq fun q => { q with hold := .sync 0 1 0 }).cl 0).sq.hold = .sync 0 1 0) ∧
    ((R.cl 0).sq.epc < spdSize ∧ (R.cl 0).sq.nextPend = none ∧ (R.cl 0).vx.progress.getLsbD 63 = false) ∧
    (clusterKind 0 = 0 ∧ (15 : Reg).toNat < 16) ∧ (clusterKind 5 ≠ 0 ∧ (0 : Reg).toNat < 16) ∧ (R.thread 0 0).run = false ∧
    R.ThrGoes 0 0 ∧ ¬ fenced.ThrGoes 0 0 := by
  simp only [State.GFree, State.ThrGoes]; decide

/-- 05 R157: STOP of a thread that SXFENCE holds waits for the fence. -/
theorem test_thread_stop_waits :
    (let h := (after (.sxThreadStop 0 0) fenced).thread 0 0; h.run = true ∧ h.stopPend = true ∧ h.hold = .fence) ∧
    ((after (.waitc (.thr 0 0) 1) (onThr fun h => { h with x := [(1, 3)] })).thread 0 0).hold = .waitc 3 := by
  decide +kernel

theorem test_witness_vector_rows :
    (let w := encVec 0x01 1 2 0 1
     clusterKind 5 = 1 ∧ R.VxIdle 5 ∧ vecIllegal w (R.cl 5).vx.lsd (R.cl 5).vx.rdesc (R.g 5 2) = none ∧
     vecRefuse (R.cl 5).vx (R.cl 5).spd w (R.g 5 2) false = none ∧
     (R.cl 5).spd.weirStalls (vecExtents w (R.cl 5).vx.lsd (R.cl 5).vx.rdesc (R.g 5 2)) = false) ∧
    (let s := onVx fun x => { x with lsd := 8 }; let w := encVec 0x32 1 2 0 0
     clusterKind 5 = 1 ∧ s.VxIdle 5 ∧ vecIllegal w (s.cl 5).vx.lsd (s.cl 5).vx.rdesc (s.g 5 2) = none ∧
     vecRefuse (s.cl 5).vx (s.cl 5).spd w (s.g 5 2) false = none) ∧
    (1 ≤ (4096 : BitVec 13).toNat ∧ (4096 : BitVec 13).toNat ≤ 4096 ∧ 4096 < (4097 : BitVec 13).toNat ∧ (R.cl 5).vx.progress.getLsbD 63 = false) ∧
    (0x39 ∈ laneVops ∧ (2 : Reg).toNat % 2 = 0) ∧ clusterKind 0 ≠ 1 ∧ clusterKind 7 ≠ 1 ∧
    ((onVx fun x => { x with run := some ⟨0, 0, 0, 0, 0, 0, 0, 0, false, false, false, false⟩ }).cl 5).vx.run.isSome ∧
    ((onVx fun x => { x with progress := 0x8000000000000000 }).cl 5).vx.progress.getLsbD 63 = true ∧
    (let s := onVx fun x => { x with resumeDue := true }
     (s.cl 5).vx.run = none ∧ (s.cl 5).vx.resumeDue = true ∧ (s.cl 5).sq.inh = false) := by
  simp only [State.VxIdle]; decide

theorem test_witness_vector_beat :
    let s := onVx fun x => { x with run := some { word := encVec 0x11 1 2 0 129, lsd := 0, rdesc := 0, gval := 0, beat := 1, hibeat := 1, shmode := 1 } }
    ∃ r, (s.cl 5).vx.run = some r ∧ r.word = encVec 0x11 1 2 0 129 ∧ r.hibeat ≤ r.beat ∧ r.beat * 128 < (129 : BitVec 13).toNat ∧ r.stopReq = false ∧
      r.phase = 0 ∧ r.shmode = 1 ∧ r.sinv = false ∧ r.sovf = false ∧ r.deferred = false ∧ (129 : BitVec 13).toNat ≤ 4096 ∧ (s.cl 5).spd.zRun = false ∧
      ((s.withCl 5 fun k => { k with spd := { k.spd with zRun := true } }).cl 5).spd.zRun = true :=
  ⟨_, rfl, by decide⟩

/-- A descriptor of a move within the scratchpad of cluster 0, from 0x40 to 0x80. -/
def descBytes : List Byte := leBytes 8 (spdAddr 0 0x40) ++ leBytes 8 (spdAddr 0 0x80) ++ leBytes 4 8

theorem test_witness_matrix_rows :
    R.MxFree 0 (.mma 0 0 0 true 0) ∧
    (let s := onMx fun x => { x with banks := [(0, ⟨0, true, none⟩)] }
     s.MxFree 0 (.mread 0 0) ∧ s.MxFree 0 (.mspill 0 0 (4 * 32)) ∧ s.MxFree 0 (.mcomb 0 0 0 false)) ∧
    ((4 : BitVec 3).toNat ≤ 4 ∧ 4 < (5 : BitVec 3).toNat ∧ clusterKind 4 = 0 ∧ clusterKind 5 ≠ 0) := by
  simp only [State.MxFree]; decide

theorem test_witness_matrix_units :
    (let s := onMx fun x => { x with arr := some ⟨.mma 0 0 0 true 0, false⟩ }
     (s.cl 0).mx.arr = some ⟨.mma 0 0 0 true 0, false⟩ ∧ (s.cl 0).sq.engHold = false) ∧
    (let s := onMx fun x => { x with arr := some ⟨.mma 0 0 0 true 0, true⟩ }
     (s.cl 0).mx.arr = some ⟨.mma 0 0 0 true 0, true⟩ ∧ s.SpdClean 0 ∧ (opDesc 0).rows ≤ 64 ∧ (s.cl 0).spd.zRun = false) ∧
    ((onSpd fun p => { p with zRun := true }).cl 0).spd.zRun = true ∧
    (let s := onMx fun x => { x with ro := some ⟨.mread 0 1, false⟩, arr := some ⟨.mma 0 0 0 true 0, true⟩ }
     (s.cl 0).mx.ro = some ⟨.mread 0 1, false⟩ ∧
       (∀ o ∈ (s.cl 0).mx.arr.toList ++ (s.cl 0).mx.arrQ.toList, ∀ b ∈ o.op.banks, b ∉ (MxOp.mread 0 1).banks) ∧ (s.cl 0).sq.engHold = false) ∧
    (let s := onMx fun x => { x with ro := some ⟨.mread 0 0, true⟩ }
     (s.cl 0).mx.ro = some ⟨.mread 0 0, true⟩ ∧ s.SpdClean 0 ∧ (s.cl 0).spd.zRun = false) :=
  ⟨by decide, ⟨by decide, ⟨by decide, fun _ => rfl⟩, by decide⟩, by decide, by decide, by decide, ⟨by decide, fun _ => rfl⟩, by decide⟩

theorem test_witness_trap_entry :
    (let s := onSq fun q => { q with run := true, pend := [(.doorbell, 0), (.addrAlign, 0)] }; let b : Bundle := ⟨0, 0, 0, 0, 0⟩
     s.Fetches 0 b ∧ (s.cl 0).sq.inh = false ∧ bundleHeld 0 (s.cl 0) b = false ∧ (s.cl 0).spd.weirStalls (s.bundleExtents 0 (s.cl 0) b) = false ∧ bundleIllegal 0 (s.cl 0) b = none ∧
       bundleRefuse 0 (s.cl 0) b = none ∧ (s.cl 0).sq.nextPend = some (.addrAlign, 0)) ∧
    (let b : Bundle := ⟨0xFC000000, 0, 0, 0, 0⟩
     let s := (holding 0 0 (leBytes 16 (fld 96 0xFC000000))).withSq 0 fun q => { q with run := true, pend := [(.doorbell, 0)], ienDb := true }
     s.Fetches 0 b ∧ (s.cl 0).sq.nextPend.isSome = true ∧ bundleHeld 0 (s.cl 0) b = false ∧ (s.cl 0).spd.weirStalls (s.bundleExtents 0 (s.cl 0) b) = false ∧ (bundleIllegal 0 (s.cl 0) b).isSome) ∧
    (let b : Bundle := ⟨encR 0x01 1 2 3, 0, 0, 0, 7⟩
     let s := ((holding 5 0 (leBytes 16 (fld 96 (encR 0x01 1 2 3).toNat + 7))).withSq 5 fun q => { q with run := true, pend := [(.doorbell, 0)], ienDb := true }).withCl 5
       fun k => { k with vx := { k.vx with run := some { compressRun with word := encVec 0x34 2 4 1 4 } } }
     s.Fetches 5 b ∧ (s.cl 5).sq.nextPend.isSome = true ∧ bundleHeld 5 (s.cl 5) b = true) ∧
    ((onSq fun q => { q with run := true, inh := true }).cl 0).sq.inh = true := by
  refine ⟨⟨⟨?_, by decide, by decide, by decide, by decide, by decide, ⟨by decide, fun _ => rfl⟩, by decide⟩, by decide⟩,
    ⟨⟨?_, by decide, by decide, by decide, by decide, by decide, ⟨by decide, fun _ => rfl⟩, by decide⟩, by decide⟩,
    ⟨⟨?_, by decide, by decide, by decide, by decide, by decide, ⟨by decide, fun _ => rfl⟩, by decide⟩, by decide⟩, by decide⟩ <;>
    (simp only [State.AtIssue]; decide)

theorem test_witness_bundle_and_yield :
    (let s := onSq fun q => { q with run := true }; let b : Bundle := ⟨0, 0, 0, 0, 0⟩
     s.Issues 0 b ∧ b.matrix = 0 ∧ b.vector = 0 ∧ b.move = 0 ∧ b.scalar = 0) ∧
    (let w := encR 0x01 1 2 3; let b : Bundle := ⟨w, 0, 0, 0, 7⟩
     let s := (holding 0 0 (leBytes 16 (fld 96 w.toNat + 7))).withSq 0 fun q => { q with run := true, inh := true }
     s.Issues 0 b ∧ b.matrix = 0 ∧ b.vector = 0 ∧ b.move = 0 ∧ b.scalar = encR 0x01 1 2 3 ∧ ∀ r ∈ [(2 : Reg), 3], (s.cl 0).gPending ≠ some r.toNat) ∧
    (let k := R.cl 0
     (k.mx.arr = none ∧ k.mx.arrQ = none ∧ k.mx.ro = none ∧ k.mx.roQ = none ∧ k.vx.run = none ∧ k.sq.moves = []) ∧
       ¬ (k.chn.ytp ≠ 0 ∧ k.chn.ytp.toNat ≤ k.chn.ydl.toNat)) ∧
    (let k := (R.withCl 0 fun k => { k with chn := { k.chn with ytp := 5, ydl := 5 } }).cl 0
     k.chn.ytp ≠ 0 ∧ k.chn.ytp.toNat ≤ k.chn.ydl.toNat) ∧
    ((onMx fun x => { x with ro := some ⟨.mread 0 0, true⟩ }).cl 0).mx.ro ≠ none := by
  refine ⟨⟨?_, by decide⟩, ⟨?_, by decide⟩, by decide, by decide, by decide⟩
  · exact ⟨⟨by simp only [State.AtIssue]; decide, by decide, by decide, by decide, by decide, by decide, ⟨by decide, fun _ => rfl⟩, by decide⟩, by decide⟩
  · exact ⟨⟨by simp only [State.AtIssue]; decide, by decide, by decide, by decide, by decide, by decide, ⟨by decide, fun _ => rfl⟩, by decide⟩, by decide⟩

theorem test_witness_sync_deadline :
    let five : Meridian := { dies := [(0, { t := { cnt := 5, locked := true, ever := true } })] }
    (let s := { onSq (fun q => { q with hold := .sync 0 1 0, land := 1 }) with now := 5, mer := five }
     (s.cl 0).sq.hold = .sync 0 1 0 ∧ (0 : Word).toNat < s.dieCount (0 / 8) ∧ (0 : Word).toNat ≠ 2 ^ 64 - 1 ∧ (1 : Word32).toNat ≤ (s.cl 0).sq.land.toNat) ∧
    (let s := { onSq (fun q => { q with hold := .sync 0 1 0 }) with now := 5, mer := five }
     (0 : Word).toNat < s.dieCount (0 / 8) ∧ (s.cl 0).sq.land.toNat < (1 : Word32).toNat) ∧
    (R.dieCount (0 / 8) ≤ (0 : Word).toNat) := by
  decide

theorem test_witness_moves :
    (let s := { holding 0 0 descBytes with delta := { routers := [(0, { ports := [(4, { mode := true })] })] } }
     let off := (s.g 0 1).toNat % 2 ^ 25; let w := encMove 3 1 31 0
     lclsOk 3 31 ∧ off % 32 = 0 ∧ off + 32 ≤ spdSize ∧ s.SpdClean 0 ∧ (s.cl 0).sq.moves.length < 16 ∧ (s.cl 0).spd.weir = [] ∧ (s.cl 0).spd.zRun = false ∧
       (∀ r ∈ [(1 : Reg)], (s.cl 0).gPending ≠ some r.toNat) ∧
       s.checkMove 0 (decMove w) (decDesc (Memory.readN (s.cl 0).spd.mem off 32)) = .go) ∧
    (let m : Move := ⟨0, 3, 31, 0, BitVec.ofNat 64 (spdAddr 0 0x40), BitVec.ofNat 64 (spdAddr 1 0x80), 8, 0, 0, true, 0, none, false, none, false, 0, none, false⟩
     let s := { onSq (fun q => { q with moves := [m] }) with delta := { routers := [(0, { ports := [(4, { mode := true })] })] } }
     m ∈ (s.cl 0).sq.moves ∧ (∀ x ∈ (s.cl 0).sq.moves, x.tag = m.tag → x = m) ∧ m.nak = none ∧ m.sent = false ∧ m.sentBytes = 0 ∧
       (s.cl 0).spd.waits 1 m.tag = false ∧ s.streams 0 m.mvop = false ∧ decodeAddr m.src.toNat = .ok (.spd 0 0x40) ∧
       decodeAddr m.dst.toNat = .ok (.spd 1 0x80) ∧ s.SpdClean 0 ∧ s.SpdClean 1 ∧ s.noPath 0 (.spd 1 0x80) = false ∧ s.noPath 0 (.spd 8 0x80) = true ∧
       (s.cl 1).spd.zRun = false ∧ 0 ∉ s.ten.cfgDue) ∧
    (let m : Move := ⟨0, 1, 0, 0, 0, BitVec.ofNat 64 (spdAddr 0 0x40), 8, 0, 0, false, 0, some 9, false, none, false, 0, none, false⟩
     let s := onSq fun q => { q with moves := [m] }
     (s.cl 0).sq.moves.find? (fun (x : Move) => x.tag == m.tag && x.timer.isSome && !x.expired) = some m) ∧
    (lclsOk 1 5 ∧ lclsOk 2 6 ∧ lclsOk 4 23) := by
  refine ⟨?_, ?_, by decide, by simp only [lclsOk]; decide⟩
  · exact ⟨by simp only [lclsOk]; decide, by decide, by decide, ⟨by decide, fun _ => rfl⟩, by decide, by decide, by decide⟩
  · exact ⟨by decide, by decide, by decide, by decide, by decide, by decide, by decide, rfl, rfl, ⟨by decide, fun _ => rfl⟩,
      ⟨by decide, fun _ => rfl⟩, by decide, by decide, by decide, by decide⟩

theorem test_witness_group_issue :
    let tick (s : State) : State := s.withCl (sxOf 0) Cluster.tickWaits
    (R.cl (sxOf 0)).nextThread = none ∧ ((tick (R.withCl 7 fun k => { k with spd := { k.spd with zRun := true } })).cl (sxOf 0)).spd.zRun = true ∧
    ((onThr fun h => { h with run := true, hold := .waitc 3 }).thread 0 0).hold = .waitc 3 ∧ ((onThr fun h => { h with run := true, hold := .waitc 3 }).thread 0 0).waits = true ∧
    (∀ n, (R.thread 0 0).hold ≠ .waitc n) ∧
    (let s0 := onThr fun h => { h with run := true }; let s := tick s0
     (s0.cl (sxOf 0)).nextThread = some 0 ∧ s.SpdClean (sxOf 0) ∧ (s.thread 0 0).pc % 16 = 0 ∧ (s.thread 0 0).pc + 16 ≤ spdSize ∧
       (s.cl (sxOf 0)).spd.zRun = false ∧ (s.thread 0 0).stopPend = false ∧ ∀ i, i < 4 → leNat (Memory.readN (s.cl (sxOf 0)).spd.mem ((s.thread 0 0).pc + 4 * i) 4) = 0) ∧
    (let s0 := (holding 7 0 (leBytes 4 (encR 0x01 1 2 3).toNat)).withThread 0 0 fun h => { h with run := true }; let s := tick s0
     (s0.cl (sxOf 0)).nextThread = some 0 ∧ s.SpdClean (sxOf 0) ∧
       leNat (Memory.readN (s.cl (sxOf 0)).spd.mem (s.thread 0 0).pc 4) = (encR 0x01 1 2 3).toNat ∧
       ∀ i, 1 ≤ i → i < 4 → leNat (Memory.readN (s.cl (sxOf 0)).spd.mem ((s.thread 0 0).pc + 4 * i) 4) = 0) ∧
    (let s0 := onThr fun h => { h with run := true, pc := 0x1800000 }; let s := tick s0
     (s0.cl (sxOf 0)).nextThread = some 0 ∧ (s.cl (sxOf 0)).spd.zRun = false ∧ spdSize < (s.thread 0 0).pc / 16 * 16 + 16) ∧
    (let s0 := onThr fun h => { h with run := true, stopPend := true }; let s := tick s0
     (s0.cl (sxOf 0)).nextThread = some 0 ∧ (s.cl (sxOf 0)).spd.zRun = false ∧ s.SpdClean (sxOf 0) ∧ (s.thread 0 0).pc / 16 * 16 + 16 ≤ spdSize ∧
       (s.thread 0 0).stopPend = true) := by
  refine ⟨by decide, by decide, by decide, by decide, (fun _ h => by cases h), ⟨by decide, ⟨by decide, fun _ => rfl⟩, by decide, by decide, by decide, by decide, by decide⟩,
    ⟨by decide, ⟨by decide, fun _ => rfl⟩, by decide, ?_⟩, by decide, ⟨by decide, by decide, ⟨by decide, fun _ => rfl⟩, by decide⟩⟩
  intro i h1 h2; interval_cases i <;> decide

/-- A gather of one row of 8 bytes from 0x1000 to 0x2000 of cluster 7's scratchpad, its index at 0x100. -/
def gatherBytes (count : Nat) : List Byte :=
  leBytes 8 (spdAddr 7 0x1000) ++ leBytes 8 (spdAddr 7 0x2000) ++ leBytes 4 1 ++ leBytes 4 8 ++ leBytes 4 0x100 ++ leBytes 2 count

theorem test_witness_gathers :
    (let s := onThr fun h => { h with x := [(1, 0x17FFFE1)] }; spdSize < (s.x 0 0 1).toNat + 32 ∧ (s.cl (sxOf 0)).spd.zRun = false) ∧
    ((R.withCl 7 fun k => { k with spd := { k.spd with zRun := true } }).cl (sxOf 0)).spd.zRun = true ∧
    ((R.x 0 0 1).toNat + 32 ≤ spdSize ∧ R.ThrGoes 0 0 ∧ ¬ fenced.ThrGoes 0 0 ∧ ((R.cl 7).sx.gathers.filter fun g => g.thread == 0).length < 8 ∧ R.SpdClean (sxOf 0) ∧
      (decGather (Memory.readN (R.cl 7).spd.mem 0 32)).count = 0) ∧
    (let d := decGather (Memory.readN ((holding 7 0 (gatherBytes 1)).cl 7).spd.mem 0 32)
     d.count ≠ 0 ∧ (holding 7 0 (gatherBytes 1)).gatherFail 7 d = none) ∧
    (let s := holding 7 28 [1]; let d := decGather (Memory.readN (s.cl 7).spd.mem 0 32)
     d.count ≠ 0 ∧ s.gatherFail 7 d = some none) ∧
    (let g : Gather := ⟨0, 0, BitVec.ofNat 64 (spdAddr 7 0x1000), BitVec.ofNat 64 (spdAddr 7 0x2000), 1, 8, 0x100, false, 1, 0, false⟩
     let s := R.withCl 7 fun k => { k with sx := { k.sx with gathers := [g] } }
     (s.cl 7).sx.gathers.find? (fun x => x.ticket == g.ticket) = some g ∧ leNat (Memory.readN (s.cl 7).spd.mem g.idx 4) < g.rows ∧
       s.SpdClean 7 ∧ decodeAddr g.dest.toNat = .ok (.spd 7 0x2000) ∧ decodeAddr (g.table.toNat + 0 * g.rowBytes) = .ok (.spd 7 0x1000) ∧
       (s.cl 7).spd.zRun = false ∧ s.memHoldsAt (clSrc 7) (s.clTenant 7) g.table.toNat = false ∧ ∀ e, (s.cl e).spd.weirWait = []) := by
  refine ⟨by decide, by decide, ⟨by decide, by simp only [State.ThrGoes]; decide, by simp only [State.ThrGoes]; decide, by decide, reset_spd_clean _, by decide⟩,
    by decide, by decide, by decide, by decide, ⟨by decide, fun _ => rfl⟩, rfl, rfl, by decide, by decide, ?_⟩
  intro e
  by_cases h : e = 7
  · subst h; rfl
  · simp [State.withCl, State.cl, State.setCl, R, State.reset, Tbl.set, Tbl.get, h]

theorem test_witness_weir_and_counters :
    let w : WeirEntry := ⟨0, 8, false, 1, 0⟩
    (let s := onSpd fun p => { p with weirWait := [w] }
     (s.cl 0).spd.weirWait = [w] ∧ w.xfer < remoteXfer ∧ (s.cl 0).spd.canGrant (s.busy 0) w = true ∧ Tbl.lowestFree (s.cl 0).spd.weir 0 16 = some 0) ∧
    (let s := onSpd fun p => { p with weirWait := [w], weir := (List.range 16).map fun n => (n, w) }
     (s.cl 0).spd.weirWait = [w] ∧ (s.cl 0).spd.canGrant (s.busy 0) w = false) := by
  decide

theorem test_witness_scrub :
    ((onSpd fun p => { p with scrubEn := false }).cl 0).spd.scrubEn = false ∧
    (let p := (R.cl 0).spd
     p.scrubEn = true ∧ Tbl.get 0 p.lines 0 < 4096 ∧ Tbl.wf p.bad = true ∧ p.tally = [] ∧
       p.bad = [] ∧ Memory.wf p.mem = true ∧
       ((List.range 96).all fun b => decide (4096 ≤ Tbl.get 0 (Tbl.set p.lines 0 (Tbl.get 0 p.lines 0 + 1)) b)) = false) ∧
    (let p := ((onSpd fun p => { p with lines := (0, 4095) :: (List.range 95).map fun b => (b + 1, 4096) }).cl 0).spd
     p.scrubEn = true ∧ Tbl.get 0 p.lines 0 < 4096 ∧ 4096 ≤ Tbl.get 0 p.lines 1 ∧
       ((List.range 96).all fun b => decide (4096 ≤ Tbl.get 0 (Tbl.set p.lines 0 (Tbl.get 0 p.lines 0 + 1)) b)) = true) := by
  decide +kernel

theorem test_witness_column_repair_and_zeroization :
    let r : Repair := ⟨0, 0, 3, 0⟩
    (let s := onSpd fun p => { p with waitCols := [r] }
     (s.cl 0).spd.waitCols = r :: [] ∧ (s.cl 0).spd.repair = none ∧ (s.cl 0).spd.zRun = false ∧ (s.cl 0).quiescent 0 = true) ∧
    ((R.cl 0).spd.waitCols = [] ∧ ((onSq fun q => { q with run := true }).cl 0).quiescent 0 = false) ∧
    (let s := onSpd fun p => { p with repair := some r }
     (s.cl 0).spd.repair = some r ∧ (s.cl 0).spd.repairWords r = []) ∧
    (let p := ((onSpd fun p => { p with repair := some r, bad := [(0, 3)] }).cl 0).spd
     p.repair = some r ∧ p.repairWords r = [0] ∧ ∃ y, eccDecode (Tbl.get 0 p.bad 0) = .uncorrected y) ∧
    ((onSpd fun p => { p with zNeeded := true }).cl 0).zReady = true ∧ (R.cl 0).zReady = false ∧ (R.cl 0).spd.zRun = false ∧
    (let s := onSpd fun p => { p with zNeeded := true, zRun := true }
     (s.cl 0).spd.zRun = true ∧ Tbl.get? s.ten.entering 0 = none) ∧
    (let s := { onSpd (fun p => { p with zNeeded := true, zRun := true }) with ten := { entering := [(0, ⟨1, 1, 0⟩)] } }
     (s.cl 0).spd.zRun = true ∧ Tbl.get? s.ten.entering 0 = some ⟨1, 1, 0⟩) := by
  refine ⟨by decide, by decide, by decide, ⟨by decide, by decide, _, rfl⟩, by decide⟩

/-- 05 R127, R144: after a change of tenant VXE_EVEN reads 0; at a reset 1 in both enables. -/
theorem test_tenant_change_clears_enables :
    (let s := { onSpd (fun p => { p with zNeeded := true, zRun := true }) with ten := { entering := [(0, ⟨1, 1, 0⟩)] } }
     ((after (.zeroizationComplete 0 true) s).cl 0).vx.even = 0 ∧ ((after (.zeroizationComplete 0 true) s).cl 0).mx.even = 0) ∧
    (R.cl 0).vx.even ≠ 0 ∧ (R.cl 0).mx.even = 6 := by decide +kernel

/-- A Direct packet's route word, header and payload. -/
def pkt (f : RouteF) (addr : Nat) (bs : List Byte) : Packet := ⟨f.word, BitVec.ofNat 128 (fld 64 addr), bs, []⟩
def ctl (f : RouteF) (body : Nat) : Packet := ⟨f.word, BitVec.ofNat 128 body, [], []⟩
def onRouter (x : Nat) (f : Router → Router) : State := R.withRouter x f
/-- A Gazetteer with one site in service and no stack or engine. -/
def oneSite (x : Nat) : Gaz where
  sites := (List.range 192).filterMap fun y => if y = x then none else some (y, { status := 4 })
  stackRecs := (List.range 48).map fun k => (k, { status := 4 })
  engines := (List.range 36).map fun k => (k, { status := 4 })

theorem test_witness_delta_hop :
    let p := pkt ⟨5, 3, 0, 1, 8, false, false, false, false, 0, false⟩ 0 (List.replicate 8 1)
    let p7 := pkt ⟨7, 3, 0, 1, 8, false, false, false, false, 0, false⟩ 0 (List.replicate 8 1)
    let pm := pkt ⟨9, 3, 2, 1, 8, false, false, false, false, 0, false⟩ 0 (List.replicate 8 1)
    (meshPort 4 = false ∧ meshPort 0 = true ∧ R.NoTelemetry 5 ∧ p.multicast = false ∧ p.destUnit = 5) ∧
    (p7.multicast = false ∧ p7.destUnit ≠ 5 ∧ ((R.delta.tabs p7.ed).uniAt 5 7).getLsbD 15 = false ∧ p7.mode ≤ 1) ∧
    (let s := { R with delta := { routers := [(5, { ports := [(1, { up := true })] })], tabs0 := ⟨[(5 * 512 + 7, 0xC001)], []⟩ } }
     let e := (s.delta.tabs p7.ed).uniAt 5 p7.destUnit; let x := (s.delta.router 5).port 1
     let q : Packet := { p7 with route := putBit p7.route 37 true }
     e.getLsbD 15 = true ∧ e.getLsbD 14 = true ∧ p7.esc = false ∧ bits e 4 0 = 1 ∧ linkPort 1 = true ∧ transitOk 1 p7 = true ∧ x.up = true ∧ x.queue = [] ∧
       q.flits ≤ x.held q.subKey ∧ 0 < q.flits ∧ x.classQueue q.cls ≤ (s.delta.router 5).thresh) ∧
    (let s := { R with delta := { tabs0 := ⟨[], [(5 * 4096 + 9, 0xF8100010)]⟩ } }
     pm.multicast = true ∧ ∀ i, i < 20 → ((s.delta.tabs pm.ed).multiAt 5 pm.dest).getLsbD i = true → linkPort i = false) ∧
    transitOk 16 (pkt ⟨7, 3, 2, 1, 8, false, false, false, false, 0, false⟩ 0 []) = false := by
  simp only [State.NoTelemetry]; decide

theorem test_witness_delta_injection :
    let f (cls mode len : Nat) : Packet := pkt ⟨5, 5, cls, mode, len, false, true, false, false, 0, false⟩ 0 []
    let d : DPort := { en := true, mode := true, maxpay := 0 }; let r : Router := { ports := [(4, d)] }
    let s := onRouter 5 fun _ => r
    let q (cls mode len : Nat) : Packet := s.takeAtPort 5 4 (f cls mode len)
    let w : WinEntry := { unit := 5 }
    (s.NoSwitchDue ∧ s.NoTelemetry 5 ∧ r.hasRoom 4 (q 0 1 256) = true ∧ s.ungranted (q 0 1 256) = false ∧ windowed (q 0 2 8) = false ∧
      (s.takeAtPort 5 4 (ctl ⟨5, 5, 0, 2, 8, false, false, false, false, 0, false⟩ (fld 56 1))).mode = 2) ∧
    (let x : Router := { ports := [(4, { d with queue := [⟨f 0 1 256, 4, false, 224, 0⟩] })] }
     x.hasRoom 4 (q 0 1 256) = false ∧ (x.port 4).check (q 0 1 256) = .pass) ∧
    (s.ungranted (s.takeAtPort 5 12 (pkt ⟨5, 0x142, 0, 1, 8, false, true, true, false, 0, false⟩ 0 [])) = true) ∧
    (let m : Move := ⟨0, 3, 31, 0, 0, BitVec.ofNat 64 (spdAddr 40 0x80), 512, 0, 0, false, 0, none, false, none, false, 0, none, false⟩
     let s := s.withCl 40 fun k => { k with sq := { k.sq with moves := [m] } }
     s.moveOf 5 4 (some 0) = some m ∧ m.next 40 (d.cutMax (q 0 1 256)) (q 0 1 256) = true ∧ m.next 40 256 (q 0 1 8) = false ∧ s.moveOf 5 4 (some 3) = none) ∧
    (d.check (q 0 1 257) = .badLen ∧ d.check (q 0 0 8) = .badMode ∧
      ({} : DPort).check (q 0 0 8) = .disabled) ∧
    (d.check (q 0 1 256) = .pass ∧ (q 0 1 256).multicast = false ∧ d.shaper.admits = true ∧ r.tlmEn = false ∧
      (q 0 1 256).destUnit = 5 ∧ pktCounted (q 0 2 8) = 0 ∧ pktCounted (q 0 1 256) ≠ 0) ∧
    (let s := s.withWindow 5 w
     s.HasWindow 5 5 w ∧ (w.recovered (s.dieCount 5)).mayInject (s.dieCount 5) 256 ((s.winRouter 5).window * 1024) 256 = true) ∧
    (let s := s.withWindow 5 { w with unreachable := true }
     d.check (q 0 1 256) = .pass ∧ (s.window 5 5 256 256 true).isNone ∧ (s.window 5 5 0 256 true).isNone) ∧
    (let s := s.modDelta fun d => { d with mcPend := [5] }
     d.check (q 2 1 8) = .pass ∧ s.mcHeld (q 2 1 8) = true) ∧
    (s.delta.outbox = [] ∧ s.peerRouted (q 0 1 256) = some (q 0 1 256) ∧
      (let x := s.takeAtPort 5 4 (pkt ⟨5, 5, 0, 1, 256, false, true, false, false, 0, false⟩ (2 ^ 62) [])
       d.check x = .pass ∧ x.multicast = false ∧ s.peerRouted x = none)) := by
  simp only [State.HasWindow, State.NoSwitchDue, State.NoTelemetry]; decide

theorem test_witness_packet_delivery :
    let p (off len : Nat) (ack : Bool) : Packet := pkt ⟨0, 9, 0, 1, len, false, ack, true, false, 0, false⟩ off (List.replicate len 7)
    let a (q : Packet) : Bool := ((Tbl.get {} R.delta.rcvd (rcvdKey 0 q.src)).accept (R.dieCount 0) q.len q.ackreq q.e).2
    (let q := p 0x17FFFF8 8 false
     q.multicast = false ∧ q.cls ≠ 1 ∧ q.payload.length = q.len ∧ q.poisoned = false ∧ q.last = false ∧ (R.cl 0).spd.zRun = false ∧
       (R.cl 0).spd.waitsRemote q (q.addr % 2 ^ 25) = false ∧ ((onSpd fun p => { p with weirWait := [⟨0, 8, false, 0, remoteXfer + 9 * 32⟩] }).cl 0).spd.waitsRemote (p 0 8 false) 0 = true ∧
       q.addr % 2 ^ 25 + q.len ≤ spdSize ∧ a q = false ∧ a (p 0 8 true) = true ∧ spdSize < (p 0x17FFFF9 8 false).addr % 2 ^ 25 + (p 0x17FFFF9 8 false).len) ∧
    (∃ x, decodeAddr (p (3 * 2 ^ 60) 8 false).addr = .ok x ∧ x = .host 0 0 0) ∧
    (let q := pkt ⟨0, 9, 2, 1, 8, false, false, false, false, 0, false⟩ 0 (List.replicate 8 7)
     q.multicast = true ∧ q.ackreq = false ∧ q.payload.length ≤ 4096 ∧ (p 0 8 false).multicast = false) ∧
    (let s := { R with ten := { chans := [(3, { state := 1, gen := 1, win := spdAddr 1 0x40, winLen := 16 })] } }
     let q (off : Nat) : Packet := ⟨(p 0 8 false).route, BitVec.ofNat 128 (fld 32 (mkHandle 1 0 3) + off), List.replicate 8 7, []⟩
     s.ten.current (q 8).handle = true ∧ (q 8).offset + (q 8).len ≤ (s.ten.chan (handleIndex (q 8).handle)).winLen ∧
       (s.ten.chan (handleIndex (q 8).handle)).winLen < (q 9).offset + (q 9).len ∧ R.ten.current (q 8).handle = false ∧
       decodeAddr ((s.ten.chan (handleIndex (q 8).handle)).win + (q 8).offset) = .ok (.spd 1 0x48) ∧ (s.cl 1).spd.zRun = false ∧ s.SpdClean 1) := by
  refine ⟨by decide, ⟨_, rfl, by decide⟩, by decide, by decide, by decide, by decide, by decide, rfl, by decide, by decide, fun _ => rfl⟩

theorem test_witness_delta_control :
    let w : WinEntry := { unit := 7, snt := 100 }
    let s := R.withWindow 5 w
    let ahead (w : WinEntry) (r : Nat) : Nat := (r + w.readAck + 2 ^ 32 - w.ackd) % 2 ^ 32
    (s.HasWindow 5 7 w ∧ w.outstanding < ahead w 101 ∧ w.snt < 2 ^ 32 ∧ w.ackd < 2 ^ 32 ∧ 0 < ahead w 1 ∧ ahead w 99 < w.outstanding ∧ w.oldUntil = none ∧ w.recovery = none ∧
      w.lastHalf = none ∧ ahead w 0 = 0 ∧ s.delta.outbox = []) ∧
    (let w0 : WinEntry := { unit := 7, snt := 100, lastHalf := some 0 }; let s := R.withWindow 5 w0
     s.HasWindow 5 7 w0 ∧ w0.lastHalf = some 0 ∧ s.dieCount 5 < 0 + 2000 ∧ 0 < ahead w0 99 ∧ ahead w0 99 < w0.outstanding) ∧
    (let w0 : WinEntry := { unit := 7, recovery := some 0 }
     let s := { (R.withWindow 5 w0) with mer := { dies := [(5, { t := { cnt := 1 } })] } }
     s.HasWindow 5 7 w0 ∧ ahead w0 0 = 0 ∧ w0.outstanding = 0 ∧ w0.lastHalf = none ∧ w0.recovery = some 0 ∧ 0 < s.dieCount 5 ∧
       (R.withWindow 5 w0).dieCount 5 ≤ 0) ∧
    (let w0 : WinEntry := { unit := 7, snt := 1, probeAt := some 0, probes := 7 }
     let s := { (R.withWindow 5 w0) with mer := { dies := [(5, { t := { cnt := 1 } })] } }
     s.HasWindow 5 7 w0 ∧ w0.probeAt = some 0 ∧ 0 < s.dieCount 5 ∧ w0.outstanding ≠ 0 ∧ w0.unreachable = false ∧ w0.probes < 8) ∧
    (let s := { R with delta := { rcvd := [(rcvdKey 5 9, { oldest := some 0 })] }, mer := { dies := [(5, { t := { cnt := 1000 } })] } }
     (Tbl.get ({} : Rcvd) s.delta.rcvd (rcvdKey 5 9)).oldest = some 0 ∧ 0 + 1000 ≤ s.dieCount 5) ∧
    (let s := { R with delta := { rcvd := [(rcvdKey 5 9, { oldest := some 0 })] } }
     (Tbl.get ({} : Rcvd) s.delta.rcvd (rcvdKey 5 9)).oldest = some 0 ∧ s.dieCount 5 < 0 + 1000 ∧ (Tbl.get ({} : Rcvd) R.delta.rcvd (rcvdKey 5 9)).oldest = none) ∧
    (spdSize < (0x1000000 : BitVec 25).toNat + (0x800001 : BitVec 25).toNat ∧ (0x1000000 : BitVec 25).toNat + (0x800000 : BitVec 25).toNat ≤ spdSize ∧ (5 : BitVec 12).toNat % 512 < 192 ∧ 192 ≤ (192 : BitVec 12).toNat % 512 ∧
      (R.larre.waitFrame 0x100 3).isNone) := by
  simp only [State.HasWindow]; decide

theorem test_witness_reads_macks_halts :
    (let p := ctl ⟨0x142, 9, 0, 2, 16, false, false, false, false, 0, false⟩ (fld 56 6 + fld 42 1)
     p.mode = 2 ∧ p.op = 6 ∧ [(1 : Byte)].length = bits p.head 55 42 ∧ (ctl ⟨0, 9, 0, 2, 8, false, false, false, false, 0, false⟩ (fld 56 3)).op ≠ 6) ∧
    (let s (e : Word32) (d : Delta) : State := { R with delta := { d with tabs0 := ⟨[], [(5 * 4096 + 9, e)]⟩ } }
     let t (s : State) : Word32 := (s.delta.tabs (Tbl.get (s.delta.router 5).cur s.delta.mcEd 9)).multiAt 5 9
     (t (s 0xF8200003 {})).getLsbD 0 = true ∧ (t (s 0xF8200003 {})).getLsbD 2 = false ∧
       ({} : MackAcc).ports.length + 1 < bits (t (s 0xF8200003 {})) 24 20 ∧
       bits (t (s 0xF8100001 {})) 24 20 ≤ ({} : MackAcc).ports.length + 1 ∧ bits (t (s 0xF8100001 {})) 31 27 = 31 ∧ bits (t (s 0x08100001 {})) 31 27 ≠ 31 ∧
       2 ∈ (Tbl.get ({} : MackAcc) (s 0xF8200005 { mack := [(5 * 4096 + 9, ⟨[2], 0⟩)] }).delta.mack (5 * 4096 + 9)).ports) ∧
    (R.clTenant 0 = (0 : BitVec 9).toNat ∧ R.clTenant 0 ≠ (1 : BitVec 9).toNat) := by
  decide

theorem test_witness_hop_books_and_editions :
    (let k := ((onRouter 5 fun r => r.modPort 0 fun k => { k with frozen := true }).delta.router 5).port 0
     k.frozen = true ∧ k.up = false) ∧ (((R.delta.router 5).port 0).frozen = false ∧ ((R.delta.router 5).port 0).up = false ∧ (R.delta.router 5).tlmBuf = [] ∧ R.delta.outbox = []) ∧
    (let s := { R with gaz := oneSite 0 }
     s.slotFree = true ∧ (200000 : Word).toNat % 100000 = 0 ∧ s.mcount + 200000 ≤ (200000 : Word).toNat ∧ s.editionOk ⟨[], [(0, 0xF8902FF0)]⟩ = true ∧ s.gaz.paths.uni = [] ∧ ({ s with gaz := { s.gaz with owed := true } } : State).gaz.owed = true ∧
       (100001 : Word).toNat % 100000 ≠ 0 ∧ (100000 : Word).toNat < s.mcount + 200000) ∧
    (let s := { R with gaz := oneSite 0, delta := { routers := [(0, { armed := true })] } }
     s.slotFree = false ∧ (s.delta.router 0).due s.mcount = true ∧ s.delta.outbox = []) ∧
    (let s := { R with gaz := oneSite 0, delta := { routers := [(0, { armed := true, tsw := 1, v0 := true, v1 := true })] } }
     s.NoSwitchDue ∧ (∃ x ∈ s.gaz.sitesIn, (s.delta.router x).oldPend = true) ∧
       ∀ x ∈ s.gaz.sitesIn, (s.delta.router x).oldPend = true → (s.delta.router x).oldPackets = 0) := by
  simp only [State.NoSwitchDue]; decide +kernel

theorem test_witness_stack_requests :
    let p (mode len : Nat) (src : Nat) : Packet := pkt ⟨192, src, 0, mode, len, false, false, false, false, 3, false⟩ 0 (List.replicate len 1)
    (let s := R.modStk 0 fun x => { x with keys := [(keySlot false 3, 0)] }
     s.StackServes 0 ∧ shapedSrc (p 1 8 (512 * 3 + 5)).src = false ∧ (p 1 8 (512 * 3 + 5)).multicast = false ∧ Memory.wf (s.stk 0).mem = true ∧
       Tbl.get? (s.stk 0).keys (keySlot (p 1 8 5).fwkey (p 1 8 5).tenant) = some 0 ∧
       (∀ line, Tbl.get (s.stk 0).zeroKey (s.stk 0).lineKey line = 0 ∧ (s.stk 0).isPoisoned line = false) ∧
       (p 1 8 5).mode ≤ 1 ∧ (p 1 8 5).len ≠ 0 ∧ (p 1 8 5).payload.length = (p 1 8 5).len ∧ (p 1 8 5).poisoned = false ∧ s.cnf.record = none ∧
       (p 1 8 5).ackreq = false ∧ (Tbl.get {} s.delta.rcvd (rcvdKey 192 5)).sinceAck + (p 1 8 5).len < 4096 ∧ (p 2 0 5).mode = 2) ∧
    (R.StackServes 0 ∧ Tbl.get? (R.stk 0).keys (keySlot (p 1 8 5).fwkey (p 1 8 5).tenant) = none) ∧
    (let s := R.modStk 0 fun x => { x with shapers := [(3, { en := true, bal := -1 })] }
     s.StackServes 0 ∧ shapedSrc (p 1 8 (512 * 7 + 5)).src = true ∧ (s.stk 0).waiting = [] ∧ ((s.stk 0).shaper 3).admits = false ∧
       (s.stk 0).heldBytes 3 + (p 1 8 5).size ≤ 65536) ∧
    (let h : HeldReq := ⟨p 1 8 (512 * 7 + 5), [], none, R.linkOf 0 5, .input⟩; let s := R.modStk 0 fun x => { x with waiting := [h] }
     (s.stk 0).stopped = false ∧ s.diag.run = none ∧ (s.gaz.stack 0).status = 0 ∧ h ∈ (s.stk 0).waiting ∧ h.at_ = .input ∧ h.link = s.linkOf 0 (p 1 8 5).srcUnit) ∧
    ((p 1 8 5).addr % 2 ^ 36 + pktBytes (p 1 8 5) ≤ hbmDataSize ∧
      (let x := pkt ⟨192, 5, 0, 1, 8, false, false, false, false, 3, false⟩ hbmDataSize (List.replicate 8 1); ¬ x.addr % 2 ^ 36 + pktBytes x ≤ hbmDataSize)) ∧
    (({ R with gaz := oneSite 0 }).gaz.stack 0).status ≠ 0 := by
  refine ⟨⟨?_, by decide, by decide, by decide, by decide, fun _ => ⟨rfl, rfl⟩, by decide⟩, ⟨?_, by decide⟩, ⟨?_, by decide⟩, by decide, by decide, by decide⟩ <;>
    exact ⟨by decide, by decide, by decide, by decide, by decide⟩

theorem test_witness_stack_refills_refreshes_tests :
    (∀ k, (R.stk k).waiting = []) ∧ (R.delta.outbox = [] ∧ R.larre.buffered = [] ∧ (R.stk 0).state ≠ 1 ∧ ((R.modStk 0 fun x => { x with state := 1 }).stk 0).state = 1) ∧
    (let x := (R.modStk 0 fun x => { x with refresh := [(0, 7)], retired := [1] }).stk 0
     1 ∈ x.retired ∧ 0 ∉ x.retired ∧ (Tbl.get 0 x.refresh 2 + 1) % 8 ≠ 0 ∧ (Tbl.get 0 x.refresh 0 + 1) % 8 = 0 ∧
       x.mthr < (41 : Byte).toNat ∧ (39 : Byte).toNat < x.mthr ∧ Tbl.get 0 x.fails 0 < 64) ∧
    ((R.gaz.stack 0).status = 0 ∧ ((oneSite 0).stack 0).status ≠ 0) :=
  ⟨fun _ => rfl, by decide, by decide, by decide⟩

def onEnd (hi : Bool) (f : LevEnd → LevEnd) : State := R.withEnd 0 hi f

theorem test_witness_braid_ends :
    (R.levEnd 0 false).state = 0 ∧
    (let s := onEnd false fun e => { e with state := 2 }; let e := s.levEnd 0 false
     s.LevLive 0 false ∧ e.mlow = false ∧ flitCrc e.rxSeq 0 = (0 : Half).toNat ∧ flitCrc e.rxSeq 0 ≠ (1 : Half).toNat ∧ e.discarding = false ∧
       (if e.winStart + 1000000 ≤ s.mcount then 1 else e.winCount + 1) ≤ e.repthr ∧ e.rephi = false ∧ e.own = none ∧ e.state = 2) ∧
    (let e := (onEnd false fun e => { e with state := 2, discarding := true }).levEnd 0 false
     e.discarding = true ∧ flitCrc e.rxSeq 0 ≠ (1 : Half).toNat) ∧
    (let s := onEnd false fun e => { e with state := 3, discarding := true }; let e := s.levEnd 0 false
     s.LevLive 0 false ∧ e.discarding = true ∧ e.inlist = false ∧ 3 ≤ e.state ∧ flitCrc e.rxSeq 0 = (0 : Half).toNat) ∧
    (let s := onEnd false fun e => { e with state := 2, repthr := 0 }; let e := s.levEnd 0 false
     s.LevLive 0 false ∧ e.repthr < (if e.winStart + 1000000 ≤ s.mcount then 1 else e.winCount + 1) ∧ e.own = none ∧ e.state = 2) ∧
    (let s := onEnd false fun e => { e with state := 2 }; let e := s.levEnd 0 false; let x := s.brd 0
     let low (m : Byte) : Bool := (Tbl.set e.margins 5 (m.toNat, 0)).any fun r => x.healthy r.1 && decide (r.2.1 < e.mthr)
     let t := s.modBrd 0 fun x => { x with svyblk := true }
     low 52 = false ∧ low 30 = true ∧ x.svyblk = false ∧ e.own = none ∧ e.state = 2 ∧ (t.brd 0).svyblk = true ∧ (t.brd 0).retired = x.retired ∧
       t.levEnd 0 false = e) := by
  simp only [State.LevLive]; decide +kernel

/-- 10 R294: a sender answers a REPLAY with the flits that its buffer still holds from the one named. -/
theorem test_replay_sends_again :
    (after (.leveeReplay 0 false 7) (onEnd false fun e => { e with state := 2, buf := [(6, 3), (7, 4), (8, 5)], txSeq := 9 })).out =
      [.flit (endUnit 0 false) 0 5 (flitCrc 8 5), .flit (endUnit 0 false) 0 4 (flitCrc 7 4)] := by decide +kernel

theorem test_witness_braid_procedures :
    (R.levEnd 0 false).own = none ∧ (R.levEnd 0 false).state ≠ 3 ∧ (R.levEnd 0 false).state = 0 ∧
    (let s := onEnd false fun e => { e with state := 2 }
     s.LevLive 0 false ∧ (s.levEnd 0 false).own = none ∧ (s.levEnd 0 false).state < 3 ∧ ((s.brd 0).lane 0).isSome ∧ (s.levEnd 0 false).lbGo = false ∧
       (s.brd 0).healthy 0 = true ∧ ((s.modBrd 0 fun x => { x with retired := [0] }).brd 0).healthy 0 = false ∧
       1 ≤ (4 : BitVec 3).toNat ∧ (4 : BitVec 3).toNat ≤ 4 ∧ 4 < (5 : BitVec 3).toNat) ∧
    (let s := onEnd false fun e => { e with state := 3 }
     s.LevLive 0 false ∧ (s.levEnd 0 false).own = none ∧ 3 ≤ (s.levEnd 0 false).state ∧ (s.levEnd 0 false).state ≤ 5 ∧
       (s.levEnd 0 false).waiting = none ∧ (s.levEnd 0 false).mlow = false ∧ (s.levEnd 0 false).converted ≠ 3) ∧
    (let e := (onEnd true fun e => { e with state := 3, converted := 3, lbGo := true, lbDepth := 2 }).levEnd 0 true
     3 ≤ e.state ∧ e.state ≤ 5 ∧ e.waiting = none ∧ e.own = none ∧ e.converted = 3 ∧ e.lbGo = true) ∧
    ((onEnd true fun e => { e with state := 3, waiting := some ⟨1, 4, 0⟩ }).levEnd 0 true).waiting = some ⟨1, 4, 0⟩ ∧
    (∀ hi, let s := onEnd hi fun e => { e with state := 3, own := some ⟨1, 4, 0⟩ }
     s.LevLive 0 hi ∧ (s.levEnd 0 hi).own = some ⟨1, 4, 0⟩ ∧ 1 ≤ (3 : BitVec 4).toNat ∧ (3 : BitVec 4).toNat ≤ 3) ∧
    ((0 : BitVec 4).toNat = 0 ∧ 3 < (4 : BitVec 4).toNat) := by
  simp only [State.LevLive]; decide

theorem test_witness_braid_training_and_survey :
    let part2 : State := { R with boot := { part := 2 }, pwr := { inwin := 16 }, fw := { delivered := [3] } }
    let tests : List LaneTest := [(0, 0, 51, 30, true)]
    let rec_ (s : State) : LevBraid := { s.brd 0 with carry := (s.gaz.braid 0).lanes, half := false }
    (part2.boot.part = 2 ∧ (part2.gaz.braid 0).status = 0 ∧ (rec_ part2).a.state = 0 ∧ part2.levReady = true ∧ LanesPass tests ∧ 64 ≤ (rec_ part2).healthyCount ∧
      (rec_ part2).idle ≠ [] ∧ R.boot.part ≠ 2 ∧ R.levReady = false) ∧
    ((BitVec.ofNat 16 (endUnit 0 true)).toNat = endUnit 0 (!false) ∧ (0 : Half).toNat = R.lmcGen % 65536) ∧
    (let s := onEnd false fun e => { e with state := 3 }; let x := rec_ s
     x.a.state = 3 ∧ s.withdrawn 0 = true ∧ (s.levEnd 0 false).lbGo = false ∧ 64 ≤ x.healthyCount ∧ x.idle ≠ [] ∧ (onEnd false fun e => { e with inlist := true }).withdrawn 0 = false) ∧
    (let s := onEnd true fun e => { e with state := 5, lbGo := true }
     let s := { s with gaz := s.gaz.recordLanes 0 { rec_ s with slane := (rec_ s).idle.head?, svyblk := false } }; let x := rec_ s
     (s.levEnd 0 true).lbGo = true ∧ (s.levEnd 0 true).state = 5 ∧ s.withdrawn 0 = true ∧ 64 ≤ x.healthyCount ∧ x.idle ≠ [] ∧
       s.gaz.recordLanes 0 { x with slane := x.idle.head?, svyblk := false } = s.gaz) ∧
    (let s : State := { (R.modBrd 0 fun x => { x with slane := some 64, a := { x.a with state := 2 } }).setObj 0x5101 0 1 with
       mer := { unit := { t := { cnt := 32000000 } } } }
     (s.brd 0).a.svyAt + 2 ^ (s.brd 0).a.svyper * 1000000 ≤ s.mcount ∧ R.mcount < (R.brd 0).a.svyAt + 2 ^ (R.brd 0).a.svyper * 1000000 ∧ (s.brd 0).a.svyen = true ∧ s.obj 0x5101 0 = 1 ∧ (s.brd 0).a.state = 2 ∧ (s.brd 0).a.phase = 0 ∧ (s.brd 0).slane = some 64 ∧
       (s.brd 0).nextData (s.brd 0).a.dlane = some (0, false)) ∧
    (let s := R.modBrd 0 fun x => { x with slane := some 64, a := { x.a with phase := 1, dlane := 3 } }
     (s.brd 0).a.phase = 1 ∧ (s.brd 0).a.dlane = 3 ∧ (s.brd 0).slane = some 64) ∧
    (let s := R.modBrd 0 fun x => { x with cal := some 3, a := { x.a with phase := 3 } }
     (s.brd 0).cal = some 3 ∧ 51 ≤ (51 : Byte).toNat ∧ 30 ≤ (30 : Half).toNat ∧ (s.brd 0).a.phase = 3) := by
  simp only [LanesPass]; decide +kernel


theorem get_constant {α : Type} (d v : α) (k : Nat) : ∀ n a, a ≤ k → k < a + n → Tbl.get d ((List.range' a n).map fun b => (b, v)) k = v
  | 0, a, h, h' => by omega
  | n + 1, a, h, h' => by
    rw [List.range'_succ, List.map_cons]
    by_cases hk : k = a
    · simp [Tbl.get, hk]
    · simp only [Tbl.get, hk, if_false]
      exact get_constant d v k n (a + 1) (by omega) (by omega)

theorem test_witness_role_assignment :
    let s : State := { R with boot := { part := 2 }, lev := { braids := (List.range' 0 3320).map fun b => (b, { a := { state := 1 } }) } }
    s.boot.part = 2 ∧ (∀ b, b < 3320 → (s.gaz.braid b).status = 0 → (s.brd b).a.state ≠ 0) ∧ (s.brd 0).a.state = 1 := by
  refine ⟨rfl, fun b hb _ => ?_, rfl⟩
  have h := get_constant ({} : LevBraid) { a := { state := 1 } } b 3320 0 (by omega) (by omega)
  have e : ∀ l : Levee, ({ R with boot := { part := 2 }, lev := l } : State).brd b = Tbl.get {} l.braids b := fun _ => rfl
  rw [e, h]; decide

def onClk (f : ClkSite → ClkSite) : State := R.withClk 0 f
/-- A panel whose Meridian unit and dies count `n`. -/
def atCount (n : Nat) (s : State) : State :=
  { s with mer := { s.mer with unit := { s.mer.unit with t := { cnt := BitVec.ofNat 64 n } } } }

theorem test_witness_step_changes :
    ((oneSite 5).siteIn 0 = false ∧ R.gaz.siteIn 0 = true) ∧
    (let s := onClk fun k => { k with plla := true }
     (s.clkSite 0).chg = none ∧ (s.clkSite 0).plla = true ∧ s.NoOverrides 0 ∧ (s.clkSite 0).cur < s.wants 0) ∧
    (let s := onClk fun k => { k with plla := true, cur := 15 }
     (s.clkSite 0).chg = none ∧ (s.clkSite 0).plla = true ∧ s.NoOverrides 0 ∧ s.wants 0 < (s.clkSite 0).cur) ∧
    ((R.clkSite 0).plla = false ∧ (R.clkSite 0).pllb = false) ∧
    (let s := onClk fun k => { k with chg := some (8, false), cur := 8 }; (s.clkSite 0).chg = some (8, false) ∧ (s.clkSite 0).cur ≤ 8) ∧
    (let s := onClk fun k => { k with chg := some (7, false), cur := 8 }; (s.clkSite 0).chg = some (7, false) ∧ 7 < (s.clkSite 0).cur) ∧
    (let s := onClk fun k => { k with chg := some (8, true), cur := 8 }; (s.clkSite 0).chg = some (8, true) ∧ s.wants 0 = (s.clkSite 0).cur) ∧
    (∀ a, let s := onClk fun k => { k with act := a, plla := true, pllb := true }
     (if (s.clkSite 0).act then (s.clkSite 0).pllb else (s.clkSite 0).plla) = true) ∧
    (let s := { onClk (fun k => { k with noPllSince := some 0 }) with now := 99999 }; (s.clkSite 0).noPllSince = some 0 ∧ s.now < 0 + 100000) ∧
    (let s := { onClk (fun k => { k with noPllSince := some 0 }) with now := 100000, gaz := oneSite 5 }
     (s.clkSite 0).noPllSince = some 0 ∧ 0 + 100000 ≤ s.now ∧
       transitionOk (.site 0) (s.gaz.status (.site 0)) (s.gaz.reason (.site 0)) 1 8 false = false) := by
  simp only [State.NoOverrides]; decide +kernel

theorem test_witness_temperatures :
    (let ts := List.replicate 20 (degC 105)
     ts.length = 20 ∧ (∀ x ∈ ts, GoodTemp x) ∧ ts[0]? = some (degC 105) ∧ (∀ j, j < 20 → ∀ x ∈ ts[j]?, x ≤ degC 105) ∧
       (R.gaz.site 0).status = 0 ∧ (R.clkSite 0).dropped = 0 ∧ R.clk.trip = false ∧ degC 105 < degC 130 ∧ (R.clkSite 0).band = 0 ∧
       ((onClk fun k => { k with chg := some (8, false) }).clkSite 0).chg.isSome) ∧
    (let ts := degC 124 :: degC 125 :: List.replicate 18 (degC 125)
     ts.length = 20 ∧ (∀ x ∈ ts, GoodTemp x) ∧ ts[1]? = some (degC 125) ∧ (∀ j, j < 20 → ∀ x ∈ ts[j]?, x ≤ degC 125) ∧
       (∀ j, j < 1 → ∀ x ∈ ts[j]?, x < degC 125) ∧ (R.clkSite 0).band ≠ 3) ∧
    1 < ((oneSite 5).site 0).status ∧
    (GoodTemp (degC (-10)) ∧ R.clk.sensDropped = [] ∧ R.clk.sensBad = [] ∧ degC (-10) < degC 85 ∧ (R.gaz.stack 0).status ≤ 1 ∧ (R.gaz.engine 0).status ≤ 1) ∧
    (let s := { R with clk := { coolSince := some 0, trip := true }, now := 1000000000 }
     s.clk.coolSince = some 0 ∧ s.clk.trip = true ∧ 0 + 1000000000 ≤ s.now ∧ R.clk.coolSince = none) ∧
    (let s := { R with clk := { coolSince := some 0, trip := true }, now := 999999999 }
     s.clk.coolSince = some 0 ∧ s.now < 0 + 1000000000) := by
  simp only [GoodTemp]; decide +kernel

theorem test_witness_margins_and_power :
    (List.replicate 32 (8 : Byte)).length = 32 ∧ R.gaz.siteIn 0 = true ∧ (oneSite 5).siteIn 0 = false ∧
    ((R.modPwr fun p => p.modDom 7 fun d => { d with state := 3 }).pwr.dom (8 * 0 + 7)).state = 3 ∧
    (let s (c : Clocks) : State := { R with fw := { comps := [(2, { state := 1 })] }, clk := c }
     (R.fw.comp 2).state ≠ 1 ∧ ((s {}).fw.comp 2).state = 1 ∧ R.obj 0x5501 0 < (15001 : Word32).toNat ∧ (15000 : Word32).toNat ≤ R.obj 0x5501 0 ∧
       95 * R.obj 0x5501 0 ≤ 100 * (14250 : Word32).toNat ∧ 100 * (14249 : Word32).toNat < 95 * R.obj 0x5501 0 ∧
       (s { above := 8 }).clk.above < 9 ∧ 9 ≤ (s { above := 9 }).clk.above ∧ (s { above := 9 }).allAtFloor = false ∧
       (s { below := 98 }).clk.below < 99 ∧ 99 ≤ (s { below := 99 }).clk.below) := by
  decide

/-- A Larre data frame to identity `dst`, of mode `m` and length `n`. -/
def frame (dst m n : Nat) (body : Nat) : Frame :=
  ⟨linkWord 0 0 false m n false true 3, BitVec.ofNat 16 dst, 1, 0, 5, BitVec.ofNat 128 body, List.replicate (if m = 1 then 0 else n) 7, []⟩
def plotted : State :=
  { R with ten := { plots := [(0, { base := spdAddr 0 0x40, length := 64, tenant := 3, slot := 0, perm := 0xBF })] } }

theorem test_witness_larre_frames :
    (let f := frame 0 0 8 0
     plotted.LarreTakes 0 0 f ((plotted.lport 0 0).receive (plotted.dieCount 0x100) f).1 ∧ f.dpanel.toNat = plotted.identity ∧ f.mode = 0 ∧ f.cls ≠ 1 ∧
       plotted.framePlace f.tenant f.addr f.len true = .ok (.spd 0 0x40) ∧ plotted.SpdClean 0 ∧ 0 < f.len ∧ f.payload.length = f.len ∧ f.poisoned = false) ∧
    (let f := { frame 0 0 8 0 with link := linkWord 0 0 false 0 8 false false 3 }
     plotted.LarreTakes 0 0 f ((plotted.lport 0 0).receive (plotted.dieCount 0x100) f).1 ∧
       ((Tbl.get ({} : Rcvd) plotted.larre.rcvd (1 * 4096 + 5)).accept (plotted.dieCount 0x100) f.len f.last false).2 = false) ∧
    (R.framePlace 3 0 8 true = .error 1 ∧ plotted.framePlace 3 57 8 true = .error 2) ∧
    (let f := { frame 0 0 8 0 with link := linkWord 0 1 false 0 8 false true 3 }; let s := onSpd fun p => { p with zRun := true }
     s.responseHeld f = true ∧ R.responseHeld f = false ∧ R.responseHeld (frame 0 0 8 0) = false) ∧
    (plotted.larre.freeReq 0 = some 0 ∧ plotted.larre.buffered = [] ∧ (plotted.larre.buffered.any fun x => x.1 == (0 : EngineId).val) = false ∧
      (({ buffered := [(0, 0, frame 0 0 8 0)] } : Larre).buffered.any fun x => x.1 == (0 : EngineId).val) = true ∧ plotted.memHolds 0x100 3 (.spd 0 0x40) = false ∧
      ((onSpd fun p => { p with zRun := true }).memHolds 0x100 3 (.spd 0 0x40) = true) ∧
      ({ R with larre := { waiting := (List.range 32).map fun i => (0, 0, i, frame 0 0 8 0) } }).larre.freeReq 0 = none ∧
      ({ R with ten := { plots := [(0, { base := 64, length := 64, tenant := 3, slot := 0, perm := 0xBF })] } }).framePlace 3 0 8 true = .ok (.hbm 0 64)) ∧
    (let f := { frame 0 0 8 0 with link := linkWord 0 0 false 0 8 false false 3 }; let s := { plotted with larre := { waiting := [(0, 0, 2, f)] } }
     s.larre.waiting = [(0, 0, (2 : BitVec 5).toNat, f)] ∧ s.larre.buffered = [] ∧ s.framePlace f.tenant f.addr f.len true = .ok (.spd (0 : ClusterId).val 0x40) ∧
       ((Tbl.get ({} : Rcvd) s.larre.rcvd (1 * 4096 + 5)).accept (s.dieCount 0x100) f.len f.last false).2 = false) ∧
    (let f := frame 0 1 0 (fld 96 8)
     f.mode = 1 ∧ plotted.framePlace f.tenant f.addr f.readLen false = .ok (.spd 0 0x40) ∧ plotted.memHolds 0x100 f.tenant (.spd 0 0x40) = false ∧
       ({ plotted with clusters := (onSpd fun p => { p with zRun := true }).clusters } : State).memHolds 0x100 f.tenant (.spd 0 0x40) = true ∧
       ({ plotted with clusters := (onSpd fun p => { p with zRun := true }).clusters } : State).framePlace f.tenant f.addr f.readLen false = .ok (.spd 0 0x40) ∧ plotted.LarreTakes 0 0 f ((plotted.lport 0 0).receive (plotted.dieCount 0x100) f).1) ∧
    (let f := frame 0 3 0 (2 ^ 31 - 1); let g := frame 0 3 0 (2 ^ 31)
     f.mode = 3 ∧ (bits f.body 31 0 + 2 ^ 32 - Tbl.get 0 R.larre.e2eAcked (e2eKey 0 1)) % 2 ^ 32 < 2 ^ 31 ∧ R.larre.egress = [] ∧
       2 ^ 31 ≤ (bits g.body 31 0 + 2 ^ 32 - Tbl.get 0 R.larre.e2eAcked (e2eKey 0 1)) % 2 ^ 32 ∧
       R.LarreTakes 0 0 f ((R.lport 0 0).receive (R.dieCount 0x100) f).1 ∧ R.LarreTakes 0 0 g ((R.lport 0 0).receive (R.dieCount 0x100) g).1) ∧
    (let p := pkt ⟨0x100, 5, 0, 1, 8, false, false, false, false, 0, false⟩ (2 ^ 44 * 0x40000 + 2 ^ 44) (List.replicate 8 1)
     let q := ctl ⟨0x100, 5, 0, 2, 16, false, false, false, false, 0, false⟩ (fld 56 6 + fld (64 + 44) 1)
     let s := { R with larre := { tab0 := [(1, 4)], engines := [(1, { role := 1 })] } }
     R.larre.armed = false ∧ R.larreDue = R ∧ s.larreDue = s ∧ R.mcount < ({ tsw := 1 } : Larre).tsw.toNat ∧ p.mode = 1 ∧ p.cls = 0 ∧ R.larre.route R.larre.cur ((p.addr >>> 44) % 65536) = none ∧
       s.larre.route s.larre.cur ((p.addr >>> 44) % 65536) = some (1, 0) ∧ q.mode = 2 ∧ q.op = 6 ∧
       s.larre.route s.larre.cur ((q.addr >>> 44) % 65536) = some (1, 0)) := by
  refine ⟨⟨⟨by decide, by decide, rfl⟩, by decide, by decide, by decide, rfl, ⟨by decide, fun _ => rfl⟩, by decide⟩,
    ⟨⟨by decide, by decide, rfl⟩, by decide⟩, ⟨rfl, rfl⟩, by decide, ⟨rfl, rfl, rfl, rfl, rfl, rfl, rfl, rfl⟩, ⟨rfl, rfl, rfl, by decide⟩,
    ⟨by decide, rfl, rfl, rfl, rfl, by decide, by decide, rfl⟩,
    ⟨by decide, by decide, by decide, by decide, ⟨by decide, by decide, rfl⟩, by decide, by decide, rfl⟩, by decide⟩

def onPort (f : LPort → LPort) : State := R.modLport 0 0 f

theorem test_witness_larre_acknowledgements :
    let h (n : Nat) : Held := ⟨{ frame 0 0 8 0 with link := linkWord n 0 false 0 8 false true 3 }, 0⟩
    (let d := (onPort fun d => { d with replay := [h 0, h 1] }).lport 0 0
     d.replay = h 0 :: [h 1] ∧ d.queue = [] ∧ d.frozen = false ∧ ((1 : BitVec 12).toNat + 4096 - (h 0).f.seq) % 4096 + 1 ≤ d.replay.length ∧
       d.replay.length ≤ 2047 ∧ d.expiry = none ∧
       (List.range 4).all ({ d with freed := ([0, 0, 0, 0] : List (BitVec 24)).mapIdx fun i v => (i, v.toNat) } : LPort).balances = true) ∧
    (let s := { onPort (fun d => { d with oldestAcc := some 0 }) with mer := { dies := [(0x100, { t := { cnt := 1000 } })] } }
     s.larre.rcvd = [] ∧ (s.lport 0 0).oldestAcc = some 0 ∧ 0 + 100 * (s.lport 0 0).ackus ≤ s.dieCount 0x100) ∧
    (let s := { onPort (fun d => { d with oldestAcc := some 0, expiry := some 998 }) with mer := { dies := [(0x100, { t := { cnt := 999 } })] } }
     s.dieCount 0x100 < 0 + 100 * (s.lport 0 0).ackus ∧ (s.lport 0 0).expiry = some 998 ∧ 998 < s.dieCount 0x100 ∧ (s.lport 0 0).frozen = false) ∧
    (let s := onPort fun d => { d with expiry := some 1 }; (s.lport 0 0).expiry = some 1 ∧ s.dieCount 0x100 ≤ 1) ∧
    (R.lport 0 0).expiry = none ∧ (R.lport 0 0).oldestAcc = none := by
  decide

theorem test_witness_larre_links :
    (let s := onPort fun d => { d with state := 2, peerEui := some 5, peerPanel := 7 }; let d := s.lport 0 0
     d.state ≠ 0 ∧ (7 : Half).toNat ≠ s.identity ∧ (6 : Word) ≠ s.gaz.eui ∧ d.own = none ∧ d.state = 2 ∧ (15 : Word32).toNat < d.uncthr ∧
       d.uncthr ≤ (16 : Word32).toNat ∧ (s.larre.engine 0).role ≠ 1 ∧ ¬ (d.peerEui = some 6 ∧ d.peerPanel = (7 : Half).toNat) ∧ (d.peerEui = some 5 ∧ d.peerPanel = (7 : Half).toNat)) ∧
    ((R.lport 0 0).state = 0 ∧ (R.lport 0 0).state < 2 ∧ (R.lport 0 0).state ≠ 3 ∧ (R.larre.engine 0).role = 0) ∧
    (let s := onPort fun d => { d with state := 2, own := some ⟨1, 1, 0⟩, peerEui := some 5 }; let d := s.lport 0 0
     2 ≤ d.state ∧ d.own = some ⟨1, 1, 0⟩ ∧ s.gaz.eui.toNat < (d.peerEui.getD 0).toNat ∧ 1 ≤ (3 : Byte).toNat ∧ (3 : Byte).toNat ≤ 3) ∧
    (let s := onPort fun d => { d with state := 2, own := some ⟨1, 1, 0⟩ }; let d := s.lport 0 0
     2 ≤ d.state ∧ d.own = some ⟨1, 1, 0⟩ ∧ (d.peerEui.getD 0).toNat ≤ s.gaz.eui.toNat) ∧
    (let s := onPort fun d => { d with state := 3, fails := 1 }; let d := s.lport 0 0
     d.state = 3 ∧ d.own = none ∧ d.waiting = none ∧ d.need = none ∧ d.queue = [] ∧ LanesLock (s.larre.engine 0).split 0 0xFFFF ∧
       resumeLanes (s.larre.engine 0).split 0 (s.larre.engine 0).role 0xFFFE = none ∧ d.fails < 2) ∧
    2 ≤ ((onPort fun d => { d with state := 3, fails := 2 }).lport 0 0).fails ∧
    (let s := onPort fun d => { d with state := 3, need := some ⟨3, 0, 2⟩ }; let d := s.lport 0 0
     d.state = 3 ∧ d.waiting = none ∧ d.own = none ∧ d.need = some ⟨3, 0, 2⟩ ∧ ({ kind := 3, reason := 0, depth := 2 } : RtReq).kind = 3) ∧
    (let s := (onPort fun d => { d with state := 2 }).modEng 0 fun e => { e with role := 1 }; let e := s.larre.engine 0
     1 ≤ (4 : BitVec 3).toNat ∧ (4 : BitVec 3).toNat ≤ 4 ∧ e.role = 1 ∧ e.lbGo = false ∧ 0 < splitPorts e.split ∧ (s.lport 0 0).state = 2 ∧
       (s.lport 0 0).own = none ∧ e.state ≠ 4 ∧ (s.lport 0 0).uncthr ≤ (16 : Word32).toNat) ∧
    (let s := (onPort fun d => { d with state := 4 }).modEng 0 fun e => { e with lbGo := true, runDepth := 3, runPort := 0 }; let e := s.larre.engine 0
     e.lbGo = true ∧ (e.port e.runPort).state = 4 ∧ e.runDepth = 3) ∧
    ((R.larre.engine 0).lbGo = false ∧ ((R.larre.engine 0).port (R.larre.engine 0).runPort).state ≠ 4) := by
  simp only [LanesLock]; decide

theorem leBytes_length : ∀ n x, (leBytes n x).length = n
  | 0, _ => rfl
  | n + 1, x => by simp [leBytes, leBytes_length n]

theorem leNat_leBytes : ∀ n x, leNat (leBytes n x) = x % 256 ^ n
  | 0, x => by simp [leBytes, leNat, Nat.mod_one]
  | n + 1, x => by
    rw [leBytes, leNat, leNat_leBytes n, BitVec.toNat_ofNat, show 256 ^ (n + 1) = 256 * 256 ^ n from Nat.pow_succ' ..]
    exact (Nat.mod_mul (x := x) (a := 256) (b := 256 ^ n)).symm

theorem crc32_lt (bs : List Byte) : crc32 bs < 2 ^ 32 := by
  have bit (b : Byte) : ∀ (l : List Nat) (r : Nat), r < 2 ^ 32 → l.foldl (fun r i =>
      let fb := (r % 2 == 1) != b.getLsbD i
      if fb then Nat.xor (r >>> 1) 0xEDB88320 else r >>> 1) r < 2 ^ 32 := by
    intro l
    induction l with
    | nil => exact fun _ h => h
    | cons i l ih =>
      intro r h
      have h1 : r >>> 1 < 2 ^ 32 := by rw [Nat.shiftRight_eq_div_pow]; omega
      refine ih _ ?_
      dsimp only
      split
      · exact Nat.xor_lt_two_pow h1 (by decide)
      · exact h1
  have all : ∀ (l : List Byte) (r : Nat), r < 2 ^ 32 → l.foldl (fun r b => (List.range 8).foldl (fun r i =>
      let fb := (r % 2 == 1) != b.getLsbD i
      if fb then Nat.xor (r >>> 1) 0xEDB88320 else r >>> 1) r) r < 2 ^ 32 := by
    intro l
    induction l with
    | nil => exact fun _ h => h
    | cons b l ih => exact fun r h => ih _ (bit b _ r h)
  exact Nat.xor_lt_two_pow (by decide) (all bs _ (by decide))

/-- Bytes followed by their CRC, whatever they are, pass the check of 12 R359 and 13 R399. -/
theorem with_crc (bs : List Byte) :
    (bs ++ leBytes 4 (crc32 bs)).length = bs.length + 4 ∧
    leNat ((bs ++ leBytes 4 (crc32 bs)).drop bs.length) = crc32 ((bs ++ leBytes 4 (crc32 bs)).take bs.length) := by
  refine ⟨by rw [List.length_append, leBytes_length], ?_⟩
  rw [List.drop_left, List.take_left, leNat_leBytes]
  exact Nat.mod_eq_of_lt (by simpa using crc32_lt bs)

theorem test_witness_larre_editions :
    (∃ data : List Byte, data.length = 65540 ∧ R.larre.oldPend = false ∧ R.cnf.vote = none ∧ leNat (data.drop 65536) = crc32 (data.take 65536)) ∧
    (R.mcount + 100000 ≤ (1 : Word).toNat * 100000 ∧ (0 : Word).toNat * 100000 < R.mcount + 100000) ∧
    (let l := ({ armed := true } : Larre); l.armed = true ∧ l.tsw.toNat ≤ R.mcount ∧ l.oldPend = false ∧ l.nextTab = none ∧ l.oldSum = 0) ∧
    (({ v0 := true, v1 := true } : Larre).oldPend = true ∧ ({ oldSum := 1 } : Larre).oldSum ≠ 0 ∧ R.mcount < ({ tsw := 1 } : Larre).tsw.toNat) ∧
    ((R.larre.engine 0).role ≠ 2 ∧ ((R.modEng 0 fun e => { e with role := 2 }).larre.engine 0).role = 2 ∧ R.ten.current (5 : Word32).toNat = false) ∧
    (let s : State := { R with
       mer := { unit := { t := { locked := true } } }
       larre := { oxbows := [(0, { pair := true, released := true })], engines := [(0, { passedD3 := [0] }), (1, { passedD3 := [0] })] } }
     let o := s.larre.oxbow 0
     o.pair = true ∧ o.closed = true ∧ o.moving = none ∧ o.released = true ∧ s.mer.unit.t.locked = true ∧ (s.larre.engine (18 * 0)).passedD3 ≠ [] ∧
       (s.larre.engine (18 * 0 + 1)).passedD3 ≠ []) ∧
    ((R.larre.oxbow 0).pair = false ∧ (R.larre.oxbow 0).moving = none ∧
      (({ oxbows := [(0, { moving := some false })] } : Larre).oxbow 0).moving = some false) := by
  refine ⟨⟨List.replicate 65536 0 ++ leBytes 4 (crc32 (List.replicate 65536 0)), ?_, rfl, rfl, ?_⟩, by decide, by decide, by decide, by decide, by decide,
    by decide⟩
  · simpa only [List.length_replicate] using (with_crc (List.replicate 65536 0)).1
  · simpa only [List.length_replicate] using (with_crc (List.replicate 65536 0)).2

def onUnit (f : MerUnit → MerUnit) : State := R.modUnit f

/-- The panel with its Meridian unit running (20 R539), the unit and the moment further changed. -/
def merAt (n : Nat) (f : MerUnit → MerUnit) : State := { onUnit f with boot := { part := 2 }, now := n }
def exchange (dom : Byte) : PtpExchange := { domain := dom, sec1 := 1, ns1 := 5, sent := 0, sec4 := 1, ns4 := 9 }

theorem test_witness_meridian_unit :
    (R.mer.unit.src = 0 ∧ (onUnit fun u => { u with src := 1 }).mer.unit.src ≠ 0 ∧ R.merOn = false ∧ (merAt 0 id).merOn = true ∧
      ({ merAt 0 id with boot := { part := 2, stopped := true } } : State).merOn = false) ∧
    (let s := merAt 0 id; s.mer.unit.src = 0 ∧ s.merOn = true ∧ s.mer.unit.missed = 0 ∧ s.mer.unit.hold = false ∧ s.mer.unit.capture = none ∧ s.mer.unit.seenRef = false) ∧
    (crc8 80 ((0 : Word).toNat * 65536 + (0xFF : Byte).toNat * 256 + (0 : Byte).toNat) = (215 : Byte).toNat ∧ (0 : Word).toNat % 1000000000 = 0) ∧
    (crc8 80 ((0 : Word).toNat * 65536 + (0 : Byte).toNat * 256 + (0 : Byte).toNat) = (0 : Byte).toNat ∧ (0 : Byte).toNat ≠ 0xFF ∧ (merAt 0 id).obj 0x5301 0 ≤ (0 : Byte).toNat) ∧
    (crc8 80 0 ≠ (1 : Byte).toNat ∧ (0 : Byte).toNat < ((merAt 0 id).setObj 0x5301 0 1).obj 0x5301 0) ∧
    (let s := merAt 0 fun u => { u with capture := some 0 }
     s.mer.unit.src = 0 ∧ s.merOn = true ∧ s.mer.unit.capture = some 0 ∧ s.mer.unit.capture.isSome = true ∧ s.mer.unit.missed = 0 ∧ s.mer.unit.seenRef = false) ∧
    (let s := { (merAt 0 fun u => { u with src := 1 }) with larre := { engines := [(0, { role := 2 })] } }
     s.mer.unit.src = 1 ∧ s.ptpPort = true ∧ s.merOn = true ∧ s.mer.unit.missed = 0 ∧ s.mer.unit.seenRef = false ∧ R.ptpPort = false ∧
       (exchange 0).domain.toNat = s.obj 0x5304 0 / 256 % 256 ∧ (exchange 1).domain.toNat ≠ s.obj 0x5304 0 / 256 % 256) ∧
    (let s := merAt 2000000000 id
     s.merOn = true ∧ s.mer.unit.src ≠ 2 ∧ s.mer.unit.seenRef = false ∧ s.mer.unit.startAt + 2000000000 ≤ s.now) ∧
    (let s := merAt 1999999999 id; s.now < s.mer.unit.startAt + 2000000000) ∧
    ((onUnit fun u => { u with target := some true }).mer.unit.target = some true ∧ R.mer.unit.target = none) := by
  decide +kernel

theorem test_witness_meridian_dies_and_calendar :
    (R.merOn = false ∧ crc8 48 (0 : BitVec 48).toNat = (0 : Byte).toNat ∧ crc8 48 (0 : BitVec 48).toNat ≠ (1 : Byte).toNat ∧
      crc8 48 (1 : BitVec 48).toNat = (7 : Byte).toNat) ∧
    (let s := { merAt 0 id with mer := { dies := [(0, { t := { ever := true } })] } }
     s.merOn = true ∧ (0 : BitVec 48).toNat = tickOf s.mcount % 2 ^ 48 ∧ (s.mer.die 0).t.ever = true ∧ (1 : BitVec 48).toNat ≠ tickOf s.mcount % 2 ^ 48) ∧
    (let s := merAt 99999 fun u => { u with stepPend := some 7, t := { u.t with ever := true, locked := true } }
     s.pending = [] ∧ s.mer.unit.stepPend = some 7 ∧ tickOf s.mcount < tickOf ({ s with now := s.now + 1 } : State).mcount) ∧
    (let s := merAt 99998 fun u => { u with stepPend := some 7, t := { u.t with ever := true, locked := true } }
     s.pending = [] ∧ s.mer.unit.stepPend = some 7 ∧ ¬ tickOf s.mcount < tickOf ({ s with now := s.now + 1 } : State).mcount) ∧
    (let s := merAt 100000000 id
     s.merOn = true ∧ (s.mer.die 0).t.locked = false ∧ (s.mer.die 0).unlockedSince + 100000000 ≤ s.now) ∧
    (R.chartStarted = false ∧ ({ R with ten := { running := [(0, ⟨0, 0, 0, 0, false, none, none⟩)] } } : State).chartStarted = true ∧
      (onSq fun q => { q with run := true }).chartStarted = true) ∧
    (∃ (s : State) (data : List Byte), data.length = 512 * s.larrePorts.length + 4 ∧
      leNat (data.drop (512 * s.larrePorts.length)) = crc32 (data.take (512 * s.larrePorts.length)) ∧ s.larrePorts = [0] ∧ (s.mer.cal 0).cur < 2) ∧
    (([] : List Byte).length ≠ 512 * R.larrePorts.length + 4 ∧ (R.mer.cal 0).armed = false) ∧
    (let s := { R with mer := { cals := [(0, { armed := true, tick := 0 })] } }; (s.mer.cal 0).armed = true ∧ (s.mer.cal 0).tick ≤ tickOf (s.dieCount 0x100)) ∧
    (let s := { R with mer := { cals := [(0, { armed := true, tick := 1 })] } }; tickOf (s.dieCount 0x100) < (s.mer.cal 0).tick) ∧
    (let s := { R with mer := { cals := [(0, { entries := [(0, 0x8000000000000001)] })] } }; let c1 := (s.mer.cal 0).switch (tickOf (s.dieCount 0x100))
     let w := c1.entry c1.cur 0
     s.mer.unit.src ≠ 2 ∧ calApplies w (tickOf (s.dieCount 0x100)) = true ∧ (calWindow w (tickOf (s.dieCount 0x100))).1 ≤ s.dieCount 0x100 ∧
       s.dieCount 0x100 < (calWindow w (tickOf (s.dieCount 0x100))).2 ∧ (s.lport 0 0).queue = [] ∧ calApplies (c1.entry c1.cur 1) (tickOf (s.dieCount 0x100)) = false) := by
  refine ⟨by decide +kernel, by decide +kernel, by decide +kernel, by decide +kernel, by decide +kernel, by decide +kernel,
    ⟨{ R with larre := { engines := [(0, { role := 1 })] } }, List.replicate 512 0 ++ leBytes 4 (crc32 (List.replicate 512 0)), ?_, ?_, ?_, ?_⟩,
    by decide, by decide, by decide, by decide⟩
  · have h : ({ R with larre := { engines := [(0, { role := 1 })] } } : State).larrePorts = [0] := by decide
    have w := (with_crc (List.replicate 512 0)).1
    rw [List.length_replicate] at w; rw [h]; exact w
  · have h : ({ R with larre := { engines := [(0, { role := 1 })] } } : State).larrePorts = [0] := by decide
    have w := (with_crc (List.replicate 512 0)).2
    rw [List.length_replicate] at w; rw [h]; exact w
  · decide
  · decide

/-- A catchment of two members, this panel the first, whose plot of slot 1 is mirrored; and the panel in it. -/
def two : Catchment := ⟨3, 0, 0, 0, 0, [⟨0, 0, false, 0, 1⟩, ⟨5, 1, false, 0, 0⟩], []⟩
def inTwo (f : Confluence → Confluence) : State := { R with cnf := f { record := some two, member := true } }
def aVote (round : Nat) : Vote := { vseq := 1, a := 0, round := round }

theorem test_witness_heartbeats :
    (R.cnf.record = none ∧ R.cnf.member = false ∧ R.cnf.fenced = false) ∧
    (let s := inTwo id
     s.Entry two 0 ∧ two.byIdentity (1 : Half).toNat = some 1 ∧ s.retiredPeer 0 0 = false ∧ (3 : Half).toNat = two.ident ∧ (0 : Word32).toNat = two.crc ∧
       (0 : Half).toNat = two.ifgen ∧ (s.fw.img 1).ifgen = two.ifgen ∧ (4 : Half).toNat ≠ two.ident ∧ s.dieCount 0x100 ≤ tickEnd (0 : BitVec 48).toNat ∧
       s.mcount ≤ tickEnd (0 : BitVec 48).toNat) ∧
    (let s := { inTwo id with mer := { dies := [(0x100, { t := { cnt := 100000 } })] } }; tickEnd (0 : BitVec 48).toNat < s.dieCount 0x100) ∧
    (let s := atCount 100000 (inTwo fun c => { c with neigh := [(1, { heard := some 0 })] })
     s.cnf.member = true ∧ tickEnd (0 : BitVec 48).toNat < s.mcount ∧ s.cnf.neigh ≠ [] ∧ ∀ e ∈ s.cnf.neigh, e.2.heard = some 0) ∧
    (let s := atCount 100000 (inTwo fun c => { c with quietTicks := 2, neigh := [(1, {})] })
     s.cnf.member = true ∧ tickEnd (0 : BitVec 48).toNat < s.mcount ∧ s.cnf.fenced = false ∧ s.cnf.quietTicks = 2 ∧ ∀ e ∈ s.cnf.neigh, e.2.heard = none) ∧
    (let s := inTwo id; s.Entry two 0 ∧ s.cnf.member = true ∧ s.cnf.fenced = false ∧ s.cnf.vote = none) ∧
    (inTwo fun c => { c with fenced := true }).cnf.fenced = true := by
  simp only [State.Entry]; decide

theorem test_witness_votes :
    R.fromEntry 1 3 = none ∧
    (let s := inTwo id
     s.From 1 3 1 ∧ s.cnf.member = true ∧ s.cnf.fenced = false ∧ s.cnf.vote = none ∧ (2 : Word32).toNat ≠ s.cnf.vseq + 1 ∧ (1 : Word32).toNat = s.cnf.vseq + 1 ∧ (1 : Byte) ≠ 2) ∧
    (let s := inTwo fun c => { c with vote := some (aVote 1) }
     s.From 1 3 1 ∧ s.cnf.vote = some (aVote 1) ∧ (1 : Word32).toNat = (aVote 1).vseq ∧ (aVote 1).round = 1 ∧ s.mcount ≤ tickEnd ((aVote 1).a + 2) ∧
       s.mcount ≤ tickEnd ((aVote 1).a + 5)) ∧
    tickEnd ((aVote 1).a + 2) < (atCount 300000 R).mcount ∧
    (let s := inTwo id; s.Entry two 0 ∧ (3 : Half).toNat = two.ident ∧ (1 : Word).getLsbD 0 = true ∧ (4 : Half).toNat ≠ two.ident) ∧
    (let s := atCount 300000 (inTwo fun c => { c with vote := some (aVote 1) })
     s.cnf.record = some two ∧ s.cnf.vote = some (aVote 1) ∧ tickEnd ((aVote 1).a + 2) < s.mcount ∧ (aVote 1).verdict = none ∧ (aVote 1).round ≠ 2) ∧
    (let s := atCount 600000 (inTwo fun c => { c with vote := some (aVote 2) })
     s.cnf.vote = some (aVote 2) ∧ (aVote 2).round = 2 ∧ tickEnd ((aVote 2).a + 5) < s.mcount ∧ (aVote 2).others = [] ∧ (aVote 2).diverge = false) ∧
    (∀ act, act < 4 → let v : Vote := { aVote 3 with verdict := some (2, 1700000, 4, act) }
     let s := atCount 1700000 (inTwo fun c => { c with vote := some v }); let s0 := inTwo fun c => { c with vote := some v }
     s.cnf.record = some two ∧ s.cnf.vote = some v ∧ v.verdict = some (2, 1700000, 4, act) ∧ 1700000 ≤ s.mcount ∧ s.cnf.waitAccuse = false ∧
       v.diverge = false ∧ s0.mcount < 1700000) := by
  simp only [State.Entry, State.From]
  refine ⟨by decide, by decide, by decide, by decide, by decide, by decide, by decide, by decide⟩

/-- A catchment of two members whose plots of slot 1 mirror each other, with a close of epoch 1 under way. -/
def twoPlots : Catchment := { two with manifest := [⟨0, 1, 1, 2, 0, 8⟩, ⟨1, 1, 1, 2, 0, 8⟩] }
def closing (x : Close) : State := { R with cnf := { record := some twoPlots, member := true, close := some x } }

theorem test_witness_epochs :
    ((200000 : Word).toNat % 100000 = 0 ∧ R.mcount + 200000 ≤ (200000 : Word).toNat ∧ (199999 : Word).toNat < R.mcount + 200000 ∧ R.cnf.close = none ∧ R.cnf.pull = false) ∧
    (let s := atCount 200000 (inTwo fun c => { c with eclose := 200000 })
     s.cnf.record = some two ∧ s.cnf.eclose ≠ 0 ∧ s.cnf.eclose ≤ s.mcount ∧ s.cnf.close = none ∧ s.cnf.member = true ∧ s.cnf.fenced = false ∧
       ∀ x ∈ s.tenantClusters two.tenant, (s.cl x).closeQuiet = true) ∧
    (let s := { atCount 200000 (inTwo fun c => { c with eclose := 200000 }) with
       ten := { parts := [(0, { state := 2, set := [0] })] }, clusters := [(0, { sq := { run := true } })] }
     ∃ x ∈ s.tenantClusters two.tenant, (s.cl x).closeQuiet = false) ∧
    ((inTwo fun c => { c with pull := true }).cnf.pull = true) ∧
    (let s := closing { epoch := 1, at_ := 0 }
     s.cnf.mirror = 0 ∧ s.cnf.mirrorQ = [] ∧ s.Entry twoPlots 0 ∧ (∃ e ∈ s.ownSlots (1 % 2), (1, e.slot) ∉ ([] : List (Nat × Nat))) ∧
       s.mcount < 0 + s.obj 0x5404 0 / 65536 * 100000 ∧ s.mcount < 0 + s.obj 0x5404 0 % 65536 * 1000000) ∧
    (let s := closing { epoch := 2, at_ := 0 }
     s.Entry twoPlots 0 ∧ s.ownSlots (2 % 2) = [] ∧
       ∃ i, i < twoPlots.entries.length ∧ i ≠ 0 ∧ i ∉ ([] : List Nat) ∧ (twoPlots.entries[i]?.map (·.standby)) = some false ∧ s.cnf.retired.getLsbD i = false) ∧
    (let s := atCount 20000000 (closing { epoch := 1, at_ := 0 })
     0 + s.obj 0x5404 0 / 65536 * 100000 ≤ s.mcount ∧ 0 + s.obj 0x5404 0 % 65536 * 1000000 ≤ s.mcount) ∧
    (let s := closing { epoch := 1, at_ := 0, drained := true }
     (s.ownSlots (1 % 2)).find? (fun e => e.slot == (1 : BitVec 6).toNat) = some ⟨0, 1, 1, 2, 0, 8⟩) ∧
    (let s := { closing { epoch := 1, at_ := 0 } with ten := { plots := [(0, ⟨0, 8, 0, 2, 0x80⟩)] } }
     s.Entry twoPlots 0 ∧ s.From 1 3 1 ∧ twoPlots.manifest.find? (fun e => e.owner == 1 && e.slot == 1 && e.parity == 1) = some ⟨1, 1, 1, 2, 0, 8⟩ ∧
       s.ten.plots.find? (fun e => e.2.valid && e.2.tenant == twoPlots.tenant && e.2.slot == 2) = some (0, ⟨0, 8, 0, 2, 0x80⟩) ∧ (1 : Word32).toNat = 1) ∧
    (let x : Close := { epoch := 1, at_ := 0, sentOk := true, oks := [0] }; let s := closing x
     s.cnf.close = some x ∧ x.sentOk = true ∧ ∀ j, j < twoPlots.entries.length → (twoPlots.entries[j]?.map (·.standby)) = some false →
       s.cnf.retired.getLsbD j = false → j ∈ 1 :: x.oks) := by
  simp only [State.Entry, State.From]
  refine ⟨by decide, by decide, by decide, by decide, by decide, ⟨by decide, by decide, 1, by decide⟩, by decide, by decide, by decide, by decide⟩

/-- A panel with the tables of tenants `t`. -/
def onTen (t : Tenancy) : State := { R with ten := t }

theorem part_entry : ∀ (es : List (List Byte)) (n : Nat), (∀ e ∈ es, e.length = 400) → n < es.length →
    ((es.flatten.drop (400 * n)).take 400) = es.getD n []
  | [], n, _, h => absurd h (Nat.not_lt_zero n)
  | e :: es, 0, h, _ => by
    have he := h e (by simp)
    rw [List.flatten_cons, Nat.mul_zero, List.drop_zero, ← he, List.take_left]; rfl
  | e :: es, n + 1, h, hn => by
    have he := h e (by simp)
    rw [List.flatten_cons, show 400 * (n + 1) = e.length + 400 * n by omega, ← List.drop_drop, List.drop_left]
    exact part_entry es n (fun x hx => h x (by simp [hx])) (Nat.lt_of_succ_lt_succ hn)

theorem part_length : ∀ (es : List (List Byte)), (∀ e ∈ es, e.length = 400) → es.flatten.length = 400 * es.length
  | [], _ => rfl
  | e :: es, h => by
    have := part_length es fun x hx => h x (by simp [hx])
    have he := h e (by simp)
    simp only [List.flatten_cons, List.length_append, List.length_cons, this, he]; omega

/-- The 400 bytes of a partition of tenant `t` (15 R429): its first 16 bytes, its cluster set's first byte, and stack 0's allotment. -/
def partBytes (t : Nat) (set0 : Byte) (base len : Nat) : List Byte :=
  leBytes 2 t ++ [1, 0] ++ List.replicate 12 0 ++ [set0] ++ List.replicate 191 0 ++ leBytes 2 base ++ leBytes 2 len ++ List.replicate 188 0

theorem new_parts (es : List (List Byte)) (h : ∀ e ∈ es, e.length = 400) (hl : es.length = 256) :
    newParts es.flatten = ((List.range 256).map fun n => (n, { partOfBytes (es.getD n []) with haltGroup := n + 1 })).filter fun e => e.2.state != 0 := by
  unfold newParts
  congr 1
  refine List.map_congr_left fun n hn => ?_
  rw [part_entry es n h (by rw [hl]; exact List.mem_range.mp hn)]

/-- Cluster 0, in a partition. -/
def p3 : Partition := { tenant := 3, state := 1, set := [0], haltGroup := 1 }

/-- The partition that `partBytes` spells with a cluster set of cluster 0 alone. -/
def oneCluster (base len n : Nat) : Partition :=
  { tenant := 3, state := 1, set := [0], haltGroup := n, allot := (List.range 48).map fun k => (k, if k = 0 then (base, len) else (0, 0)) }

theorem test_part_bytes : partOfBytes (partBytes 3 1 0 0) = oneCluster 0 0 0 ∧ partOfBytes (partBytes 3 1 0xFFFF 0xFFFF) = oneCluster 0xFFFF 0xFFFF 0 := by
  decide +kernel

theorem padded_table (e z : List Byte) (p : Partition) (he : e.length = 400) (hp : partOfBytes e = p) (hs : (p.state != 0) = true) (hz : z.length = 400)
    (hzs : (partOfBytes z).state = 0) : ∃ data : List Byte, data.length = 102400 ∧ newParts data = [(0, { p with haltGroup := 1 })] := by
  have hall : ∀ x ∈ e :: List.replicate 255 z, x.length = 400 := List.forall_mem_cons.mpr ⟨he, fun x h => by rw [List.eq_of_mem_replicate h, hz]⟩
  have hlen : (e :: List.replicate 255 z).length = 256 := by rw [List.length_cons, List.length_replicate]
  refine ⟨(e :: List.replicate 255 z).flatten, by rw [part_length _ hall, hlen], ?_⟩
  have h0 : (e :: List.replicate 255 z).getD 0 [] = e := rfl
  rw [new_parts _ hall hlen, List.range_eq_range', List.range'_succ, List.map_cons, h0, hp,
    List.filter_cons_of_pos (p := fun e : Nat × Partition => e.2.state != 0) (by exact hs), List.filter_eq_nil_iff.mpr]
  intro x hx
  obtain ⟨n, hn, rfl⟩ := List.mem_map.mp hx
  obtain ⟨m, rfl⟩ : ∃ m, n = m + 1 := ⟨n - 1, by have := (List.mem_range'_1.mp hn).1; omega⟩
  have hm : m < 255 := by have := (List.mem_range'_1.mp hn).2; omega
  have hg : (e :: List.replicate 255 z).getD (m + 1) [] = z := by
    show (List.replicate 255 z).getD m [] = z
    rw [List.getD_eq_getElem?_getD, List.getElem?_replicate, if_pos hm]; rfl
  have hf : ((partOfBytes z).state != 0) = false := by rw [hzs]; rfl
  rw [hg]
  show ¬ ((partOfBytes z).state != 0) = true
  rw [hf]; exact Bool.false_ne_true

theorem one_part (e : List Byte) (p : Partition) (he : e.length = 400) (hp : partOfBytes e = p) (hs : (p.state != 0) = true) :
    ∃ data : List Byte, data.length = 102400 ∧ newParts data = [(0, { p with haltGroup := 1 })] :=
  padded_table e (List.replicate 400 0) p he hp hs List.length_replicate (by decide +kernel)

theorem test_witness_partition_table :
    (∃ data : List Byte, data.length = 102400 ∧ R.hosts.primary = (0 : Fin 2).val ∧ newParts data = [(0, oneCluster 0 0 1)] ∧ R.partBad (newParts data) = false) ∧
    (R.hosts.primary ≠ (1 : Fin 2).val ∧ ([] : List Byte).length ≠ 102400) ∧
    (∃ data : List Byte, data.length = 102400 ∧ ∃ e ∈ newParts data, ∃ a ∈ e.2.allot, 0 < a.2.2 ∧ hbmDataSize < (a.2.1 + a.2.2) * 2 ^ 20) := by
  refine ⟨?_, by decide, ?_⟩
  · obtain ⟨d, hd, hn⟩ := one_part _ _ (by decide +kernel) test_part_bytes.1 (by decide)
    exact ⟨d, hd, rfl, hn, by rw [hn]; decide +kernel⟩
  · obtain ⟨d, hd, hn⟩ := one_part _ _ (by decide +kernel) test_part_bytes.2 (by decide)
    refine ⟨d, hd, ?_⟩
    rw [hn]
    exact ⟨_, List.mem_cons_self, (0, 0xFFFF, 0xFFFF), List.mem_map.mpr ⟨0, by decide, rfl⟩, by decide, by decide⟩

/-- The 32 bytes of a plot (15 R433). -/
def plotBytes (base len tenant slot : Nat) (perm : Byte) : List Byte :=
  leBytes 8 base ++ leBytes 8 len ++ leBytes 2 tenant ++ leBytes 1 slot ++ [perm] ++ List.replicate 12 0
def aPlot : Plot := ⟨spdAddr 0 0x40, 64, 3, 0, 0xBF⟩

theorem test_witness_tenant_changes_and_plots :
    (Tbl.get? R.ten.entering 0 = none) ∧
    (let e : TChange := ⟨0, 2, 0⟩; let s := onTen { entering := [(0, e)] }
     Tbl.get? s.ten.entering 0 = some e ∧ e.step = 2 ∧ (s.cl 0).sq.moves = [] ∧ (s.cl 0).sx.gathers = [] ∧ (s.cl 0).spd.weir = [] ∧
       s.mcount < e.since + 10000000 ∧ e.since + 10000000 ≤ (atCount 10000000 s).mcount) ∧
    (let bs := plotBytes (spdAddr 0 0x40) 64 3 0 0xBF; let s := onTen { parts := [(0, p3)] }
     bs.length = 32 ∧ (0 : Half).toNat < 8192 ∧ (plotOfBytes bs).length ≠ 0 ∧ Tbl.get? s.ten.plots 0 = none ∧
       s.bound 0 (0 : Fin 513) 3 = true ∧ s.plotOk 0 (plotOfBytes bs) = true ∧ s.ten.draining = none ∧
       s.bound 0 (1 : Fin 513) 3 = false ∧ (plotOfBytes bs).tenant = 3) ∧
    (let s := onTen { parts := [(0, p3)], draining := some ⟨1, none, true⟩ }
     s.plotOk 0 aPlot = true ∧ s.ten.draining.isSome = true ∧ s.oldTransfers = 0 ∧ s.ten.waitingPlots = []) ∧
    (8192 ≤ (8192 : Half).toNat ∧ (8192 : Half).toNat ≠ 0xFFFF ∧ 64 ≤ (plotOfBytes (plotBytes 0 64 3 64 0)).slot ∧
      2 ^ 44 < (plotOfBytes (plotBytes 0 (2 ^ 44 + 1) 3 0 0)).length) ∧
    (let s := onTen { plots := [(0, aPlot)] }; let bs := plotBytes 0 64 3 0 0x80
     ∃ e ∈ s.ten.plots, e.1 ≠ (1 : Half).toNat ∧ e.2.valid = true ∧ e.2.tenant = (plotOfBytes bs).tenant ∧ e.2.slot = (plotOfBytes bs).slot) ∧
    (let s := onTen { plots := [(0, aPlot)] }; let bs := plotBytes 0 0 0 0 0
     bs.length = 32 ∧ (plotOfBytes bs).length = 0 ∧ Tbl.get? s.ten.plots 0 = some aPlot ∧ s.bound 0 (0 : Fin 513) aPlot.tenant = true ∧
       s.plotInUse aPlot = false ∧ s.ten.draining = none) ∧
    (onTen { plots := [(0, aPlot)], chans := [(5, { state := 1, tenant := 3, saveSlot := 0 })] }).plotInUse aPlot = true ∧
    (let s := onTen { verCur := true, draining := some ⟨0, none, true⟩
                      chans := [(0, { state := 1, entries := [{ seq := 0, idx := 0, kind := 2, flag := false, tag := 0, a := 0, b := 0, c := 1, started := true }] })] }
     s.oldTransfers ≠ 0) := by
  refine ⟨by decide, by decide, by decide, by decide, by decide, ⟨_, List.mem_cons_self, by decide⟩, by decide, by decide, by decide⟩

/-- A chart (06 R190, R191) with one CODE section of 16 bytes for cluster `c` at 0x40, of the generation and floor 0x500 + `floor`; its CRC
field holds `crc`. -/
def chartBody (gen floor c : Byte) (crc : List Byte) : List Byte :=
  [0x43, 0x48, 0x52, 0x54, 1, 0, 0, 0, 0, 0, 0, 0, 0, 0, 0, 0, gen, 0, 0, 0, 1, 0, floor, 5, 0, 0, 0, 0] ++ crc ++
  ([64, 0, 0, 0, 1, 0, 0, 0, 64, 0, 0, 0, 0, 0, 0, 0, 64, 0, 0, 0, 0, 0, 0, 0, 64, 0, 0, 0, 0, 0, 0, 0, 1, 0, c, 0, 88, 0, 0, 0, 16, 0, 0, 0, 0, 0, 0, 0,
    0x40, 0, 0, 0, 0, 0, 0, 0] ++ List.replicate 16 0)
def chartBytes (gen floor c : Byte) : List Byte := chartBody gen floor c (leBytes 4 (crc32 (chartBody gen floor c [0, 0, 0, 0])))

theorem chart_ok (gen floor c : Byte) : chartOk (chartBytes gen floor c) = true := by
  have e (a b x d : Byte) : splice (chartBody gen floor c [a, b, x, d]) 0x1C 4 0 = chartBody gen floor c [0, 0, 0, 0] := rfl
  have k (a b x d : Byte) : le (chartBody gen floor c [a, b, x, d]) 0x1C 4 = leNat [a, b, x, d] := rfl
  have l (a b x d : Byte) : inFile (chartBody gen floor c [a, b, x, d]) 0 64 = true ∧ le (chartBody gen floor c [a, b, x, d]) 0 4 = 0x54524843 ∧
      le (chartBody gen floor c [a, b, x, d]) 4 2 = 1 ∧ le (chartBody gen floor c [a, b, x, d]) 0x20 4 = 64 ∧
      le (chartBody gen floor c [a, b, x, d]) 0x24 2 = 1 ∧ le (chartBody gen floor c [a, b, x, d]) 0x28 4 = 64 ∧
      le (chartBody gen floor c [a, b, x, d]) 0x2C 4 = 0 ∧ le (chartBody gen floor c [a, b, x, d]) 0x30 4 = 64 ∧
      le (chartBody gen floor c [a, b, x, d]) 0x34 4 = 0 ∧ le (chartBody gen floor c [a, b, x, d]) 0x38 4 = 64 ∧
      le (chartBody gen floor c [a, b, x, d]) 0x3C 4 = 0 ∧ (chartBody gen floor c [a, b, x, d]).length = 104 :=
    ⟨rfl, show leNat [0x43, 0x48, 0x52, 0x54] = _ by decide, rfl, rfl, rfl, rfl, rfl, rfl, rfl, rfl, rfl, rfl⟩
  have m (a b x d : Byte) : chartRels (chartBody gen floor c [a, b, x, d]) = [] := rfl
  have n (a b x d : Byte) : chartSects (chartBody gen floor c [a, b, x, d]) = [⟨1, c.toNat, 88, 16, 0x40⟩] := by
    show [Sect.mk _ (c.toNat + 256 * 0) _ _ _] = _; rfl
  have hc : c.toNat < 1536 := Nat.lt_of_lt_of_le c.isLt (by decide)
  have hx := Nat.mod_eq_of_lt (crc32_lt (chartBody gen floor c [0, 0, 0, 0]))
  unfold chartOk chartBytes
  generalize hg : crc32 (chartBody gen floor c [0, 0, 0, 0]) = y at hx ⊢
  have hy : leNat (leBytes 4 y) = y := by rw [leNat_leBytes, show (256 : Nat) ^ 4 = 2 ^ 32 by norm_num]; exact hx
  simp only [leBytes] at hy ⊢
  simp only [e, k, l, m, n, hy, hg, inFile, sectOk, cutsOk, List.all_cons, List.all_nil, hc]
  simp

/-- A chart of one section of kind 3 (plot data) that its only symbol places (06 R190, R193 step 6). -/
def symBody (crc : List Byte) : List Byte :=
  [0x43, 0x48, 0x52, 0x54, 1, 0, 0, 0, 0, 0, 0, 0, 0, 0, 0, 0, 0, 0, 0, 0, 1, 0, 20, 5, 0, 0, 0, 0] ++ crc ++
  ([64, 0, 0, 0, 1, 0, 0, 0, 88, 0, 0, 0, 1, 0, 0, 0, 64, 0, 0, 0, 0, 0, 0, 0, 64, 0, 0, 0, 0, 0, 0, 0, 3, 0, 0, 0, 104, 0, 0, 0, 8, 0, 0, 0, 0, 0, 0, 0,
    0, 0, 0, 0, 0, 0, 0, 0] ++ [0, 0, 0, 0, 1] ++ List.replicate 11 0 ++ List.replicate 8 0)
def symBytes : List Byte := symBody (leBytes 4 (crc32 (symBody [0, 0, 0, 0])))

theorem sym_ok : chartOk symBytes = true := by
  have e (a b x d : Byte) : splice (symBody [a, b, x, d]) 0x1C 4 0 = symBody [0, 0, 0, 0] := rfl
  have k (a b x d : Byte) : le (symBody [a, b, x, d]) 0x1C 4 = leNat [a, b, x, d] := rfl
  have l (a b x d : Byte) : le (symBody [a, b, x, d]) 0 4 = 0x54524843 ∧ le (symBody [a, b, x, d]) 4 2 = 1 ∧ le (symBody [a, b, x, d]) 0x20 4 = 64 ∧
      le (symBody [a, b, x, d]) 0x24 2 = 1 ∧ le (symBody [a, b, x, d]) 0x28 4 = 88 ∧ le (symBody [a, b, x, d]) 0x2C 4 = 1 ∧
      le (symBody [a, b, x, d]) 0x30 4 = 64 ∧ le (symBody [a, b, x, d]) 0x34 4 = 0 ∧ le (symBody [a, b, x, d]) 0x38 4 = 64 ∧
      le (symBody [a, b, x, d]) 0x3C 4 = 0 ∧ (symBody [a, b, x, d]).length = 112 :=
    ⟨show leNat [0x43, 0x48, 0x52, 0x54] = _ by decide, rfl, rfl, rfl, rfl, rfl, rfl, rfl, rfl, rfl, rfl⟩
  have m (a b x d : Byte) : chartRels (symBody [a, b, x, d]) = [] := rfl
  have n (a b x d : Byte) : chartSects (symBody [a, b, x, d]) = [⟨3, 0, 104, 8, 0⟩] := rfl
  have hx := Nat.mod_eq_of_lt (crc32_lt (symBody [0, 0, 0, 0]))
  unfold chartOk symBytes
  generalize hg : crc32 (symBody [0, 0, 0, 0]) = y at hx ⊢
  have hy : leNat (leBytes 4 y) = y := by rw [leNat_leBytes, show (256 : Nat) ^ 4 = 2 ^ 32 by norm_num]; exact hx
  simp only [leBytes] at hy ⊢
  simp only [e, k, l, m, n, hy, hg, inFile, sectOk, cutsOk, List.all_cons, List.all_nil]
  simp

theorem test_witness_chart_symbols : chartOk symBytes = true ∧ R.symsOk 3 [] symBytes = false ∧ R.symsOk 3 [] (chartBytes 0 20 0) = true ∧
    ({ R with boot := { level := some 0 } } : State).atZero = true ∧ R.atZero = false :=
  ⟨sym_ok, rfl, rfl, rfl, rfl⟩

theorem test_witness_chart_loads :
    (chartOk [] = false ∧ le (chartBytes 0 20 0) 8 8 = R.gaz.eui.toNat ∧ le (chartBytes 0 20 0) 0x14 1 = R.gaz.grade ∧ le (chartBytes 0 20 0) 0x16 2 ≤ R.obj 0x2201 0 ∧
      le (chartBytes 0 20 0) 0x10 4 = R.gaz.gen ∧ R.obj 0x2201 0 < le (chartBytes 0 21 0) 0x16 2 ∧
      ({ R with gaz := { R.gaz with grade := 2 } } : State).gaz.grade ≠ le (chartBytes 0 20 0) 0x14 1 ∧ (R.ten.part 0).state = 0) ∧
    (le (chartBytes 1 20 127) 0x10 4 ≠ (oneSite 48).gen ∧ chartSites (chartBytes 1 20 127) = [15] ∧ (oneSite 48).heir 15 193 = none) ∧
    (let s := onTen { parts := [(0, p3)] }
     (s.ten.part 0).state ≠ 0 ∧ chartSects (chartBytes 0 20 0) = [⟨1, 0, 88, 16, 0x40⟩] ∧ chartRels (chartBytes 0 20 0) = [] ∧ 0 ∈ (s.ten.part 0).set ∧
       1 ∉ (s.ten.part 0).set ∧ 0x40 + 16 ≤ spdSize ∧ s.sectWaits 0 (spdAddr 0 0x40, ((chartBytes 0 20 0).drop 88).take 16) = false) ∧
    (let s := { onTen { parts := [(0, p3)] } with clusters := [(0, { sq := { sb := [⟨0x40, 0xFF, 0⟩] } })] }
     s.sectWaits 0 (spdAddr 0 0x40, ((chartBytes 0 20 0).drop 88).take 16) = true) := by
  refine ⟨⟨rfl, rfl, rfl, ?_, rfl, ?_, ?_, rfl⟩, ⟨?_, rfl, by decide +kernel⟩, ⟨by decide, rfl, rfl, by decide, by decide, by decide, rfl⟩, rfl⟩
  · show 1300 ≤ 1300; decide
  · show 1300 < 1301; decide
  · show (2 : Nat) ≠ 1; decide
  · show (1 : Nat) ≠ _; decide

/-- A host address of port `p`, function `f` (01 R27). -/
def hostAddr (p f a : Nat) : Nat := fld 60 3 + fld 59 p + fld 49 f + a
/-- A plot of tenant 3 over all of host memory of port 0, function 0. -/
def hostPlot : Plot := ⟨hostAddr 0 0 0, 2 ^ 44, 3, 1, 0x8F⟩
def handle0 : Nat := mkHandle 1 3 0
/-- An open channel of tenant 3 on partition 0, its queues in host memory. -/
def chan3 (es : List SubEntry) : Chan :=
  { state := 1, tenant := 3, sq := hostAddr 0 0 0x1000, cq := hostAddr 0 0 0x2000, entries := es }
def entry (kind : Nat) (a b : Nat) (c : Word32) : SubEntry :=
  { seq := 0, idx := 0, kind := kind, flag := false, tag := 9, a := BitVec.ofNat 64 a, b := BitVec.ofNat 64 b, c := c }
/-- A panel whose scheduler runs, port 0 up, with a channel of index 0, and the tenancy further changed. -/
def onChan (c : Chan) (f : Tenancy → Tenancy) : State :=
  { R with fw := { imgs := [(1, { state := 1 })], comps := [(4, { state := 1 })] }
           hosts := { ports := [(0, { linkUp := true })] }
           boot := { part := 6, level := some 2 }
           ten := f { parts := [(0, p3)], plots := [(0, hostPlot), (1, aPlot)], chans := [(0, c)] } }
/-- The 64 bytes of a create request (15 R440) of tenant `t` on partition `p`, its queues at `sq` and `cq`. -/
def createBytes (t p sq cq : Nat) : List Byte :=
  leBytes 2 t ++ leBytes 2 p ++ [0, 4, 4, 0xFF] ++ leBytes 2 1 ++ leBytes 2 0 ++ leBytes 4 7 ++ leBytes 8 sq ++ leBytes 8 cq ++ List.replicate 32 0
def q3 : CreateReq := createOfBytes (createBytes 3 0 (hostAddr 0 0 0x1000) (hostAddr 0 0 0x2000))

theorem all_held (i : Nat) (h : i < 4096) : Tbl.get ({} : Chan) ((List.range' 0 4096).map fun b => (b, { state := 1 })) i = { state := 1 } :=
  get_constant _ _ i 4096 0 (by omega) (by omega)

theorem test_witness_channel_create :
    R.schedUp = false ∧
    (let s := onChan {} id
     s.schedUp = true ∧ (createBytes 3 0 (hostAddr 0 0 0x1000) (hostAddr 0 0 0x2000)).length = 64 ∧ s.boot.level = some 2 ∧
       q3.ok (createBytes 3 0 (hostAddr 0 0 0x1000) (hostAddr 0 0 0x2000)) = true ∧ s.bound 0 (0 : Fin 513) q3.tenant = true ∧
       s.bound 0 (1 : Fin 513) q3.tenant = false ∧ q3.part ≠ 0xFFFF ∧ (∃ e ∈ s.ten.parts, e.1 = q3.part ∧ e.2.state ≠ 0 ∧ e.2.tenant = q3.tenant) ∧
       s.createBounds q3 = true ∧ (s.ten.chan 0).state = 0) ∧
    (∀ e ∈ (onTen {}).ten.parts, e.1 = q3.part → e.2.state = 0 ∨ e.2.tenant ≠ q3.tenant) ∧
    (onTen { parts := [(0, p3)] }).createBounds q3 = false ∧
    (let s := onTen { chans := (List.range' 0 4096).map fun b => (b, { state := 1 }) }; ∀ j, j < 4096 → (s.ten.chan j).state ≠ 0) := by
  refine ⟨by decide, by decide +kernel, by decide, by decide +kernel, fun j hj => ?_⟩
  have h : (onTen { chans := (List.range' 0 4096).map fun b => (b, { state := 1 }) }).ten.chan j = { state := 1 } := all_held j hj
  rw [h]; decide

theorem test_witness_channel_index (i : Nat) (hi : 0 < i) : ((onTen {}).ten.chan 0).state = 0 ∧
    (((onTen {}).ten.chan 0).lastDestroy < ((onTen {}).ten.chan i).lastDestroy ∨ (((onTen {}).ten.chan 0).lastDestroy = ((onTen {}).ten.chan i).lastDestroy ∧ 0 < i)) :=
  ⟨rfl, .inr ⟨rfl, hi⟩⟩

theorem test_witness_channel_destroy_and_doorbell :
    (let s := onChan (chan3 []) id; let h : Word32 := BitVec.ofNat 32 handle0
     s.schedUp = true ∧ s.ten.current h.toNat = true ∧ s.bound 0 (0 : Fin 513) (handleTenant h.toNat) = true ∧
       s.bound 0 (1 : Fin 513) (handleTenant h.toNat) = false ∧ s.ten.current 0 = false) ∧
    R.fw.accepted 1 = false ∧
    (let s := onChan (chan3 []) id; let h : Word32 := BitVec.ofNat 32 handle0; let c := s.ten.chan 0
     s.Rings 0 0 ∧ (handleIndex h.toNat = (0 : Fin 4096).val ∧ s.ten.current h.toNat = true ∧ s.bound 0 (0 : Fin 513) (handleTenant h.toNat) = true) ∧
       handleIndex h.toNat ≠ (1 : Fin 4096).val ∧ c.state = 1 ∧ s.schedUp = true ∧ s.memHoldsAt 0x140 c.tenant c.sq = false ∧ ((0 : Word32).toNat + 2 ^ 32 - c.fetched) % 2 ^ 32 = 0 ∧
       2 ^ c.sqLog < ((17 : Word32).toNat + 2 ^ 32 - c.fetched) % 2 ^ 32 ∧ ((16 : Word32).toNat + 2 ^ 32 - c.fetched) % 2 ^ 32 ≤ 2 ^ c.sqLog ∧
       ((1 : Word32).toNat + 2 ^ 32 - c.fetched) % 2 ^ 32 = 1 ∧ c.entries = [] ∧ s.pathUp (.host 0 0 0x1000) = true ∧
       decodeAddr (c.sq + 64 * (c.fetched % 2 ^ c.sqLog)) = .ok (.host 0 0 0x1000) ∧ decodeAddr (c.sq - 8) = .ok (.host 0 0 0xFF8)) ∧
    (let e := subOfBytes 0 0 ([(1 : Byte)] ++ List.replicate 63 0); let e4 := subOfBytes 0 0 ([(4 : Byte)] ++ List.replicate 63 0)
     1 ≤ e.kind ∧ e.kind ≤ 4 ∧ e4.kind ≤ 4) := by
  simp only [State.Rings]; decide +kernel

theorem test_witness_no_entries : R.NoEntry 0 1 ∧ R.NoEntry 0 2 ∧ R.NoEntry 0 3 ∧ R.NoEntry 0 4 ∧
    ((onSpd fun p => { p with zRun := true }).memHoldsAt 0x140 0 (spdAddr 0 64) = true) := by
  simp only [State.NoEntry]; decide +kernel

theorem test_witness_fence_and_signal_entries :
    (let e1 := { entry 1 0 0 0 with started := true }; let e := { entry 3 0 0 0 with seq := 1 }; let s := onChan (chan3 [e1, e]) id
     s.nextEntry 0 3 = some e ∧ s.earlierDone 0 e = false) ∧
    (let e := entry 3 0 0 0; let s := onChan (chan3 [e]) id; s.OneEntry 0 e 3 ∧ e.flag = false) ∧
    (let e := { entry 3 0 0 0 with flag := true }; let s := onChan (chan3 [e]) id; let c := s.ten.chan 0
     s.OneEntry 0 e 3 ∧ e.flag = true ∧ decodeAddr (c.cq + 16 * (c.completed % 2 ^ c.cqLog)) = .ok (.host 0 0 0x2000) ∧
       decodeAddr (c.cq - 8) = .ok (.host 0 0 0x1FF8) ∧ s.pathUp (.host 0 0 0x2000) = true ∧ (s.hosts.port c.port).linkUp = true) ∧
    (let e := entry 4 (hostAddr 0 0 64) 5 0; let s := onChan (chan3 [e]) id
     s.OneEntry 0 e 4 ∧ e.flag = false ∧ s.hostExtent 3 true e.a.toNat 8 = .ok (.host 0 0 64)) := by
  simp only [State.OneEntry]; decide +kernel

theorem test_witness_dma_entries :
    (let e := entry 4 (fld 60 5) 5 0; let s := onChan (chan3 [e]) id
     s.OneEntry 0 e 4 ∧ e.flag = false ∧ s.hostExtent 3 true e.a.toNat 8 = .error .addrSpace ∧ s.cnf.record = none) ∧
    (let e := entry 2 (hostAddr 0 0 64) (hostAddr 0 0 128) 0; let s := onChan (chan3 [e]) id; s.OneEntry 0 e 2 ∧ e.c = 0) ∧
    (let e := entry 2 (hostAddr 0 0 64) (hostAddr 0 0 128) 16; let s := onChan (chan3 [e]) id
     s.OneEntry 0 e 2 ∧ e.c ≠ 0 ∧ s.hostExtent 3 false e.a.toNat e.c.toNat = .ok (.host 0 0 64) ∧ s.hostExtent 3 true e.b.toNat e.c.toNat = .ok (.host 0 0 128) ∧
       s.hostExtent 3 false (fld 60 5) e.c.toNat = .error .addrSpace) := by
  simp only [State.OneEntry]; decide +kernel

theorem test_witness_dma_complete :
    (let e : SubEntry := { entry 2 (hostAddr 0 0 64) (spdAddr 1 0x80) 8 with started := true }; let s := onChan (chan3 [e]) id; let c := s.ten.chan 0
     c.entries = [e] ∧ e.seq = 0 ∧ e.kind = 2 ∧ e.started = true ∧ e.done = none ∧ e.flag = false ∧ c.state = 1 ∧ s.memHoldsAt 0x140 c.tenant c.cq = false ∧
       decodeAddr e.a.toNat = .ok (.host 0 0 64) ∧ decodeAddr e.b.toNat = .ok (.spd 1 0x80) ∧ (s.cl 1).spd.waits 0 (dmaXfer 0 0) = false ∧ (s.cl 1).spd.zRun = false ∧
       [1, 2, 3, 4, 5, 6, 7, (8 : Byte)].length = e.c.toNat ∧ 0x80 + e.c.toNat ≤ spdSize ∧ Memory.wf (s.cl 1).spd.mem = true ∧ (s.cl 1).spd.bad = []) ∧
    ((R.withCl 1 fun k => { k with spd := { k.spd with weirWait := [⟨0x80, 8, false, 0, dmaXfer 0 0⟩] } }).cl 1).spd.waits 0 (dmaXfer 0 0) = true ∧
    ((R.withCl 1 fun k => { k with spd := { k.spd with zRun := true } }).cl 1).spd.zRun = true := by
  decide +kernel

theorem test_witness_runs :
    (let e := entry 1 0 1 0; let s := onChan (chan3 [e]) id
     s.OneEntry 0 e 1 ∧ e.flag = false ∧ ∀ ch, Tbl.get? s.ten.charts (e.b.toNat % 2 ^ 32) = some ch → ch.part ≠ (s.ten.chan 0).part) ∧
    (let e := entry 1 0 1 0; let ch : Chart := ⟨0, [(0, 0x40)]⟩; let r : Running := { chan := 5, seq := 0, load := 2, since := 0 }
     let s := onChan (chan3 [e]) fun t => { t with charts := [(1, ch)], running := [(0, r)] }
     s.OneEntry 0 e 1 ∧ Tbl.get? s.ten.charts (e.b.toNat % 2 ^ 32) = some ch ∧ ch.part = (s.ten.chan 0).part ∧
       Tbl.get? s.ten.running (s.ten.chan 0).part = some r ∧ (s.ten.chan 0).prio ≤ (s.ten.chan r.chan).prio ∧ r.chan ≠ 0) ∧
    (let e := entry 1 0 1 0; let s := onChan (chan3 [e]) fun t => { t with charts := [(1, ⟨0, [(0, 0x40)]⟩)] }
     s.OneEntry 0 e 1 ∧ Tbl.get? s.ten.charts (e.b.toNat % 2 ^ 32) = some ⟨(s.ten.chan 0).part, [(0, 0x40)]⟩ ∧ Tbl.get? s.ten.running (s.ten.chan 0).part = none ∧
       Tbl.get [] s.ten.waitingRuns (s.ten.chan 0).part = [] ∧ (s.cl 0).sq.run = false) ∧
    Tbl.get? R.ten.running 0 = none ∧
    (let e := { entry 1 0 1 0 with started := true }; let r : Running := { chan := 0, seq := 0, load := 1, since := 0 }
     let s (k : Cluster) : State := { onChan { chan3 [e] with saveSlot := 2 } (fun t => { t with
       charts := [(1, ⟨0, [(0, 0x40)]⟩)], running := [(0, r)] }) with clusters := [(0, k)] }
     Tbl.get? (s {}).ten.running 0 = some r ∧ (Tbl.get ⟨0, []⟩ (s {}).ten.charts r.load).clusters.map (·.1) = [0] ∧
       ((s { sq := { run := true } }).cl 0).sq.run = true ∧ ((s {}).cl 0).sq.run = false ∧ ((s {}).cl 0).chn.ystat.testBit 31 = false ∧
       ((s {}).ten.chan 0).entries = [e] ∧ e.seq = r.seq ∧ e.done = none ∧ e.flag = false ∧ Tbl.get [] (s {}).ten.waitingRuns 0 = [] ∧ (s {}).memHoldsAt 0x140 ((s {}).ten.chan 0).tenant ((s {}).ten.chan 0).cq = false ∧
       (s {}).mcount < r.since + ((s {}).ten.chan 0).slice * 100000 ∧ ((s { chn := { ystat := 2 ^ 31 } }).cl 0).yielded = true ∧
       (onTen { charts := (s {}).ten.charts }).ten.plots = []) ∧
    (let r : Running := { chan := 0, seq := 0, load := 1, since := 0 }; let w : Running := { chan := 1, seq := 0, load := 1, since := 0 }
     let s := atCount 100000 (onChan { chan3 [] with saveSlot := 2 } fun t => { t with running := [(0, r)], waitingRuns := [(0, [w])] })
     Tbl.get? s.ten.running 0 = some r ∧ r.since + (s.ten.chan r.chan).slice * 100000 ≤ s.mcount ∧
       (∃ w ∈ Tbl.get [] s.ten.waitingRuns 0, (s.ten.chan w.chan).prio = (s.ten.chan r.chan).prio ∧ w.chan ≠ r.chan) ∧ (s.ten.chan r.chan).saveSlot ≠ 0xFF ∧
       r.preempt = false) ∧
    (let x : SavedCluster := ⟨0, [], [], 0, 0x40, 0, 0, []⟩; let w : Running := { chan := 0, seq := 0, load := 1, since := 0, saved := some [x] }
     let s := onChan (chan3 []) fun t => { t with waitingRuns := [(0, [w])] }
     Tbl.get? s.ten.running 0 = none ∧ Tbl.get [] s.ten.waitingRuns 0 = [w] ∧ (s.ten.chan w.chan).state = 1 ∧ w.saved = some [x] ∧
       s.mcount + 200000 ≤ (200000 : Word).toNat ∧ (199999 : Word).toNat < s.mcount + 200000 ∧ x.bytes = []) := by
  simp only [State.OneEntry]
  refine ⟨⟨by decide +kernel, by decide +kernel, fun ch h => ?_⟩, by decide +kernel, by decide +kernel, by decide, by decide +kernel,
    ⟨by decide +kernel, by decide +kernel, ⟨_, List.mem_cons_self, by decide, by decide⟩, by decide, by decide⟩, by decide +kernel⟩
  exact absurd (show (none : Option Chart) = some ch from h) (by simp)

theorem test_witness_dma_and_halts :
    (let e := { entry 2 (hostAddr 0 0 64) (spdAddr 0 0x40) 16 with started := true }; let s := onChan (chan3 [e]) id
     (R.ten.chan 0).entries.all (fun e => e.seq != 0) = true ∧ (s.ten.chan 0).entries = [e] ∧ e.kind = 2 ∧ e.started = true ∧ e.done = none ∧ e.flag = false ∧
       (s.ten.chan 0).state = 1 ∧ decodeAddr e.a.toNat = .ok (.host 0 0 64) ∧ decodeAddr e.b.toNat = .ok (.spd 0 0x40) ∧
       (s.cl 0).spd.waits 0 (dmaXfer 0 0) = false ∧ (s.cl 0).spd.zRun = false ∧ (List.replicate 16 (7 : Byte)).length = e.c.toNat ∧ 0x40 + e.c.toNat ≤ spdSize ∧ s.SpdClean 0) ∧
    ((onSpd fun p => { p with weirWait := [⟨0x40, 16, false, 0, dmaXfer 0 0⟩] }).cl 0).spd.waits 0 (dmaXfer 0 0) = true ∧
    (R.hosts.primary ≠ (1 : Fin 2).val ∧ 256 ≤ (256 : Half).toNat ∧ (R.hosts.port 0).linkUp = false) ∧
    (let s := onChan (chan3 []) id
     s.hosts.primary = (0 : Fin 2).val ∧ (0 : Half).toNat = (0 : Fin 256).val ∧ ((0 : Word).setWidth 8).toNat = (0 : Fin 256).val ∧ s.hosts.pend = none ∧
       (s.hosts.port 0).linkUp = true ∧ (s.ten.part 0).state ≠ 0 ∧ (R.ten.part 0).state = 0 ∧ Tbl.get [] s.ten.halts 0 = [] ∧
       (∀ e ∈ s.ten.chans, e.2.prod = e.2.fetched) ∧ Tbl.get [] s.ten.waitingRuns 0 = []) ∧
    (let s := onChan (chan3 []) fun t => { t with halts := [(0, [⟨none, 0, 1⟩])] }; Tbl.get [] s.ten.halts 0 ≠ [] ∧ (s.ten.part 0).state ≠ 0 ∧
       ((onChan { chan3 [] with state := 3 } id).ten.chan 0).state = 3 ∧ ((onChan { chan3 [] with state := 3 } id).ten.chan 0).part = 0) ∧
    ({ R with delta := { mcPend := [0] } } : State).delta.mcPend = [(R.ten.part 0).haltGroup] ∧
    ({ R with delta := { outbox := [(0, 0, ctl ⟨0, 5, 2, 2, 16, false, true, false, false, 0, false⟩ 0)] } } : State).mcWaits (R.ten.part 0).haltGroup = true ∧
    (let r : HaltReq := ⟨none, 0, 0⟩; let s := onTen { halts := [(0, [r])] }
     Tbl.get [] s.ten.halts 0 = [r] ∧ (s.ten.part 0).haltGroup ∉ s.delta.mcPend ∧ s.mcWaits (s.ten.part 0).haltGroup = false ∧ r.expect ≤ Tbl.get 0 s.delta.mackSum (s.ten.part 0).haltGroup ∧ r.port = none) ∧
    (let r : HaltReq := ⟨some 0, 7, 1⟩; let s := { onTen { halts := [(0, [r])] } with hosts := { ports := [(0, { haltCq := 0x100 })] } }
     Tbl.get [] s.ten.halts 0 = [r] ∧ r.port = some (0 : Fin 2).val ∧ (s.hosts.port 0).haltCq ≠ 0) := by
  refine ⟨⟨by decide, by decide, by decide, by decide, by decide, by decide, by decide, by decide +kernel, by decide +kernel, by decide, by decide, by decide, by decide,
    by decide, fun _ => rfl⟩, by decide, by decide, by decide +kernel, by decide, by decide, by decide, by decide, by decide⟩

/-- A panel with host ports and roles `h`. -/
def onHosts (h : Hosts) : State := { R with hosts := h, pwr := { vhk := true } }
def up : HostPort := { linkUp := true }

theorem test_witness_host_links_and_roles :
    (let s := onHosts {}; (s.hosts.port 0).perst = false ∧ (s.hosts.port 0).katFail = false ∧ s.pwr.vhk = true ∧ R.pwr.vhk = false ∧
       s.hosts.promoteAtLink = false ∧ (s.hosts.port 0).linkUp = false ∧ s.ChansListed) ∧
    (let s := onHosts { promoteAtLink := true }; s.hosts.promoteAtLink = true ∧ s.hosts.primary ≠ (1 : Fin 2).val) ∧
    (let s := onHosts { ports := [(0, up)] }; (s.hosts.port 0).linkUp = true ∧ s.hosts.primary = (0 : Fin 2).val ∧ s.hosts.pend = none ∧
       (onHosts { ports := [(1, up)] }).hosts.primary ≠ (1 : Fin 2).val) ∧
    (let s := onHosts {}; s.hosts.pend = none ∧ (2 : Word).getLsbD 0 = false ∧ (1 : Word).getLsbD 0 = true ∧ (s.hosts.port 0).goAt = none ∧ s.isMember = false ∧
       (s.hosts.port 1).goAt = none) ∧
    (let s := onHosts { ports := [(0, { goAt := some (0, 1) })] }
     (s.hosts.port 0).goAt = some (0, 1) ∧ (s.hosts.port 1).goAt = none ∧ tickOf s.mcount ≤ tickOf 0 ∧
       tickOf 0 < tickOf (atCount 100000 s).mcount ∧ s.hosts.pend = none ∧ (1 : Nat) = s.hosts.epoch ∧ (2 : Nat) ≠ s.hosts.epoch) ∧
    (let s := atCount 100000 (onHosts { ports := [(0, { goAt := some (0, 1) }), (1, { goAt := some (99999, 1) })] })
     (s.hosts.port 1).goAt = some (99999, 1) ∧ tickOf 99999 = tickOf 0 ∧ tickOf 0 < tickOf s.mcount) ∧
    (let s := onHosts { pend := some 500, ports := [(1, up)] }
     s.hosts.pend = some 500 ∧ s.mcount ≤ 500 ∧ (atCount 500 s).mcount ≤ 500 ∧ 500 < (atCount 501 s).mcount ∧ (s.hosts.port (1 - s.hosts.primary)).linkUp = true ∧
       ((onHosts { pend := some 500 }).hosts.port 1).linkUp = false) ∧
    (let s := { onHosts { selectAt := some 0, ports := [(1, up)] } with now := 10000000000 }
     s.hosts.selectAt = some 0 ∧ 0 + 10000000000 ≤ s.now ∧ (s.hosts.port s.hosts.primary).linkUp = false ∧ (s.hosts.port (1 - s.hosts.primary)).linkUp = true ∧
       (onHosts { selectAt := some 0 }).now < 0 + 10000000000 ∧ ((onHosts { ports := [(0, up)] }).hosts.port 0).linkUp = true) := by
  simp only [State.ChansListed]; decide

theorem test_witness_host_reads_and_pods :
    ((R.ten.chan 0).entries = [] ∧ (R.cl 0).sq.moves = []) ∧
    (let e := { entry 2 (hostAddr 0 0 64) (hostAddr 0 0 128) 16 with started := true }; let s := onChan (chan3 [e]) id
     (s.ten.chan 0).entries = [e] ∧ (s.ten.chan 0).state = 1 ∧ e.seq = 0 ∧ e.kind = 2 ∧ e.started = true ∧ e.done = none ∧ e.flag = false ∧
       decodeAddr e.a.toNat = .ok (.host 0 0 64) ∧ decodeAddr e.b.toNat = .ok (.host 0 0 128) ∧
       s.memHoldsAt 0x140 (s.ten.chan 0).tenant (s.ten.chan 0).cq = false) ∧
    (let x : IdeStream := { secure := true }; let s := onHosts { ports := [(0, { ide := [(0, x)] })] }; Tbl.get? (s.hosts.port 0).ide (0 : Fin 256) = some x) ∧
    (R.hosts.members[(1 : Fin 64).val - 1]? = none ∧
      (let s := onHosts { members := [7], ports := [(0, up)] }
       (1 : Fin 64) ≠ 0 ∧ s.hosts.members[(1 : Fin 64).val - 1]? = some 7 ∧ 7 ≠ 0xFFFF ∧ (1 : Fin 64).val ∉ s.hosts.lost ∧ (s.hosts.port 0).linkUp = true ∧ s.hosts.pend = none)) ∧
    (let s := { onChan { chan3 [] with state := 3 } id with hosts := {}, lgd := { objs := [(0x1103 * 65536, 7)] } }; let h : Word32 := BitVec.ofNat 32 handle0
     s.isMember = true ∧ R.isMember = false ∧ s.fw.accepted 1 = true ∧ s.ten.current h.toNat = true ∧ handleIndex h.toNat = (0 : Fin 4096).val ∧ (s.ten.chan 0).state = 3 ∧
       s.ten.current 0 = false) ∧
    (R.mcount < (0 : Word).toNat + R.obj 0x1101 0 * 1000000 ∧ (0 : Word).toNat + R.obj 0x1101 0 * 1000000 ≤ (atCount 500000000 R).mcount ∧
      (1 : Fin 64).val ∉ (atCount 500000000 R).hosts.lost) := by
  decide +kernel

/-- A request in session 1 of host port 0 for an object. -/
def hdr (index : Half) : LapHdr := ⟨.host 0, none, 1, 1, 5, index, 0⟩
def sess : Sess := ⟨.host 0, false, none, true, 30000, 0, [], false⟩
def expert : Sess := { sess with expert := true }
/-- A panel that serves requests at port 0, with session 1 open and the transfers `xs`. -/
def serving (x : Sess) (xs : Tbl Xfer) : State :=
  { R with fw := { imgs := [(1, { state := 1 })], comps := [(1, { state := 1 })] }
           hosts := { ports := [(0, { linkUp := true })] }
           boot := { part := 6, level := some 2 }
           lgd := { sessions := [(1, x)], xfers := xs } }
def reading : Xfer := { sess := 1, index := 0x4000, sub := 0, write := false, total := 2, data := [1, 2], last := 0 }
def writing (total : Nat) (st : Tbl Byte) : Xfer := { sess := 1, index := 0x5403, sub := 0, write := true, total := total, staged := st, last := 0 }
def obj (i : Nat) : ObjDef := (objDef i).getD { idx := 0, typ := 0, acc := 0 }

theorem test_witness_requests :
    R.lapServed (hdr 0x1000) = false ∧
    ((serving sess []).lapServed (hdr 0x1000) = true ∧ (serving sess []).NothingIdle ∧ { hdr 0x1000 with ver := 2 }.ver ≠ 1 ∧
      (serving sess []).sessionOf { hdr 0x1000 with session := 2 } = none ∧ (serving sess []).InSession (hdr 0x1000) sess) ∧
    (let r : LapResp := ⟨1, 1, 0x1000, 0, .ok, 4, [0, 0, 0, 0]⟩; let x := { sess with cache := [(5, r)] }
     (serving x []).sessionOf (hdr 0x1000) = some x ∧ x.cache.find? (fun e => e.1 == (hdr 0x1000).xid.toNat) = some ((hdr 0x1000).xid.toNat, r)) ∧
    (serving sess []).lookup (hdr 0x1FFF).index.toNat = none ∧
    (let s := serving sess []; let d := obj 0x1000
     s.lookup (hdr 0x1000).index.toNat = some d ∧ s.hasSub d 1 = false ∧ s.hasSub d 0 = true ∧ d.expert = false ∧ d.acc ≤ 1 ∧
       s.sourceUp d.idx = true ∧ (s.valueAt d 0).length ≤ Endpoint.segment (hdr 0x1000).ep ∧ s.openAnchors d = false) := by
  simp only [State.InSession, State.NothingIdle]; decide +kernel

theorem test_witness_reads_and_writes :
    (let s := serving expert []
     s.InSession (hdr 0x1101) expert ∧ s.lookup (hdr 0x1101).index.toNat = objDef 0x1101 ∧ (hdr 0x1101).sub = 0 ∧ s.lgd.writing 0x1101 = false ∧ s.fw.accepted 1 = true ∧
       s.ctg.approved = false ∧ (leBytes 4 60000).length = 4 ∧ 10 ≤ leNat (leBytes 4 60000) ∧ leNat (leBytes 4 60000) ≤ 60000 ∧ 60000 < leNat (leBytes 4 60001) ∧
       leNat (leBytes 4 9) < 10) ∧
    ((obj 0x1101).expert = true ∧ (obj 0x1101).acc = 4 ∧ (obj 0x7020).acc = 3 ∧ (obj 0x7020).expert = true ∧ (obj 0x3000).acc ≤ 1 ∧
      (serving sess []).sourceUp 0x3000 = true ∧ R.sourceUp 0x3000 = false ∧ (obj 0x2200).acc = 2 ∧ (obj 0x2200).lengthOk 0 2 = true ∧ (obj 0x2200).lengthOk 0 3 = false) ∧
    (primaryOwned 0x4500 = true ∧ Endpoint.kind (.host 1) ≠ (serving expert []).hosts.primary ∧ primaryOwned 0x2200 = false) ∧
    (serving expert [(3, writing 2 [])]).lgd.writing 0x5403 = true ∧
    ((serving sess []).valueAt (obj 0x8000) 0).length = 2048 ∧ Endpoint.segment (.field 0 0) < 2048 := by
  simp only [State.InSession, State.NothingIdle]; decide +kernel

theorem test_witness_transfers_of_objects :
    (let s := serving sess []
     (obj 0x4000).segmented = true ∧ (obj 0x1000).segmented = false ∧ s.lgd.xferFull 1 = false ∧ s.lgd.freeXfer = some (1 : Half).toNat ∧
       s.lookup (hdr 0x4000).index.toNat = some (obj 0x4000) ∧ (obj 0x4000).expert = false ∧ (obj 0x4000).acc ≠ 3 ∧ s.sourceUp 0x4000 = true) ∧
    (serving sess ((List.range 100).map fun n => (n + 1, reading))).lgd.xferFull 1 = true ∧
    (let s := serving expert []
     1 < (obj 0x5403).acc ∧ primaryOwned 0x5403 = false ∧ (obj 0x5403).segmented = true ∧ (obj 0x5403).lengthOk 0 (2 : Word32).toNat = true ∧
       (obj 0x4200).lengthOk 0 (1 : Word32).toNat = false ∧ s.lgd.writing 0x5403 = false ∧ s.imageBusy (.host 0) 0x5403 = false) ∧
    Tbl.get? (serving sess []).lgd.xfers (1 : Half).toNat = none ∧
    (let s := serving sess [(1, reading)]
     s.InSession (hdr 0x4000) sess ∧ Tbl.get? s.lgd.xfers (1 : Half).toNat = some reading ∧ reading.sess = (hdr 0).session.toNat ∧ reading.sess ≠ 2 ∧ reading.write = false ∧
       reading.total < (3 : Word32).toNat ∧ (2 : Word32).toNat ≤ reading.total) ∧
    (let y := writing 2 [(0, 7)]; let s := serving expert [(1, y)]
     s.InSession (hdr 0x5403) expert ∧ Tbl.get? s.lgd.xfers (1 : Half).toNat = some y ∧ y.write = true ∧ y.total < (1 : Word32).toNat + [(1 : Byte), 2].length ∧
       (0 : Word32).toNat + [(1 : Byte), 2].length ≤ y.total ∧ ∃ k, k < y.total ∧ Tbl.get? y.staged k = none) ∧
    (let bs : List Byte := [7, 8]; let y := writing 2 [(0, 7), (1, 8)]
     bs.length = y.total ∧ (∀ k, k < y.total → Tbl.get? y.staged k = bs[k]?) ∧ crc32 bs = (BitVec.ofNat 32 (crc32 bs)).toNat ∧ y.index = 0x5403 ∧ y.sub = 0 ∧
       bs.length ≤ 0xFFFFFFFF ∧ crc32 bs ≠ (0 : Word32).toNat) := by
  simp only [State.InSession, State.NothingIdle]
  refine ⟨by decide +kernel, by decide +kernel, by decide +kernel, by decide, by decide +kernel, ⟨by decide +kernel, by decide, by decide, by decide, by decide, 1, by decide⟩,
    by decide, by decide, by decide +kernel, by decide, by decide, by decide, by decide +kernel⟩

theorem test_witness_sessions :
    (let s := serving sess []; let h : LapHdr := { hdr 0 with session := 0 }
     s.lapServed h = true ∧ h.ver = 1 ∧ h.session = 0 ∧ s.NothingIdle ∧ 1000 ≤ s.obj 0x1201 0 ∧ s.obj 0x1201 0 ≤ 600000 ∧ 1 < (2 : Byte).toNat ∧
       s.lgd.openCount false (Endpoint.kind h.ep) < 32 ∧ s.lgd.freeSession = some 2 ∧ s.expertOwner (.field 0 0) = false) ∧
    (let s := { serving sess [] with lgd := { sessions := (List.range 32).map fun n => (n + 1, sess) } }
     32 ≤ s.lgd.openCount false (Endpoint.kind (hdr 0).ep)) ∧
    (let h : LapHdr := { hdr 0 with session := 0, spdm := some 9 }
     let s := { serving sess [] with ctg := { spdm := [(9, { ep := .host 0, done := true, role := 1 })] } }
     s.lapServed h = true ∧ s.fw.accepted 1 = true ∧ s.expertOwner h.ep = true ∧ (s.spdmOf h.ep (9 : Word32).toNat true).map (·.role) = some 1 ∧
       (∀ e ∈ s.lgd.sessions, e.2.expert = false ∨ Endpoint.kind e.2.ep ≠ 2) ∧ s.lgd.openCount true 0 < 4 ∧ s.lgd.freeSession = some 2) ∧
    Tbl.get? R.lgd.sessions (1 : Half).toNat = none ∧
    (let s := serving sess []
     Tbl.get? s.lgd.sessions (1 : Half).toNat = some sess ∧ s.mcount ≤ sess.deadline ∧ sess.deadline < (atCount 30000000001 s).mcount ∧ sess.note = true ∧
       sess.warned = false ∧ sess.deadline ≤ (atCount 29000000000 s).mcount + 1000000000 ∧ s.mcount + 1000000000 < sess.deadline) ∧
    (let s := serving sess [(1, reading)]
     Tbl.get? s.lgd.xfers (1 : Half).toNat = some reading ∧ s.mcount ≤ reading.last + 10000000000 ∧ reading.last + 10000000000 < (atCount 10000000001 s).mcount) ∧
    R.boot.restored = false ∧ ({ R with boot := { restored := true } } : State).boot.restored = true := by
  simp only [State.NothingIdle]; decide +kernel

def spdm1 (role : Nat) : SpdmSess := { ep := .host 0, done := true, role := role }
/-- A panel that offers a service with Cartouche `c`, its active unit operational. -/
def guarded (c : Cartouche) : State := { R with boot := { part := 6, level := some 2 }, ctg := { c with units := [(0, { state := 1 }), (1, { state := 1 })] } }

theorem test_witness_cartouche_serves :
    (R.boot.level = none ∧ ({ R with boot := {} } : State).boot.level.isSome = true ∧ ({ R with boot := {} } : State).ctgState = 0 ∧
      (let s := { guarded {} with ctg := { units := [(0, { state := 2 })] } }; s.ctgState ≠ 0 ∧ s.ctgState ≠ 1)) ∧
    (let s := guarded { meas := [(1, 5)] }
     s.SpdmUp ∧ (1 : Byte) ≠ 0 ∧ (1 : Byte) ≠ 0xFF ∧ ((s.ctg.meas ++ [(5, s.ctg.sec)]).filter fun e : Nat × Nat => e.1 == (1 : Byte).toNat) ≠ [] ∧
       ((s.ctg.meas ++ [(5, s.ctg.sec)]).filter fun e : Nat × Nat => e.1 == (2 : Byte).toNat) = [] ∧ s.ctg.spdm.length < 16 ∧ s.ctg.freeSpdm = some 1 ∧
       s.spdmOf (.host 0) (1 : Word32).toNat false = none ∧ s.spdmOf (.host 0) (1 : Word32).toNat true = none) ∧
    16 ≤ (guarded { spdm := (List.range 16).map fun n => (n + 1, spdm1 0) }).ctg.spdm.length ∧
    (guarded { spdm := [(1, { ep := .host 0 })] }).spdmOf (.host 0) (1 : Word32).toNat false = some { ep := .host 0 } ∧
    (let s := guarded { spdm := [(1, spdm1 2)] }
     s.Secure (.host 0) 1 (spdm1 2) ∧ s.SpdmUp ∧ (spdm1 2).role = 2 ∧ Endpoint.kind (.host 0) = (0 : Fin 2).val ∧ s.ctg.zPend = none ∧ Endpoint.kind (.host 0) ≠ (1 : Fin 2).val ∧
       Tbl.get? (s.hosts.port 0).ide (0 : Byte).toNat = none ∧ (s.hosts.port 0).ide.length < 5 ∧ Tbl.get? (s.ideOf 0 0).keys (ideSlot 0 0 0 0) = none) ∧
    ((guarded { spdm := [(1, spdm1 3)] }).Secure (.host 0) 1 (spdm1 3) ∧ (spdm1 3).role ≠ 1 ∧ (spdm1 3).role ≠ 2) ∧
    (let s := { guarded {} with hosts := { ports := [(0, { ide := (List.range 5).map fun n => (n + 1, { keys := [(0, 9)] }) })] } }
     Tbl.get? (s.hosts.port 0).ide (0 : Byte).toNat = none ∧ 5 ≤ (s.hosts.port 0).ide.length ∧ (Tbl.get? (s.ideOf 0 1).keys (ideSlot 0 0 0 0)).isSome = true ∧
       (Tbl.get? (s.hosts.port 0).ide (1 : Byte).toNat).isSome = true) := by
  simp only [State.SpdmUp, State.Secure]; decide +kernel

theorem test_witness_key_paths :
    (let m (u op slot key : Nat) : KpMsg := ⟨u, op, 1, slot, key⟩
     let s := guarded { sent := [m 192 1 0 9, m 192 2 0 0, m 192 3 0 0, m 192 4 0 0, m 0x142 1 0 9, m 0x142 2 0 0, m 0x142 3 0 0, m 0x142 4 0 0] }
     s.KeyOk (m 192 1 0 9) ∧ s.KeyOk (m 192 2 0 0) ∧ s.KeyOk (m 192 3 0 0) ∧ s.KeyOk (m 192 4 0 0) ∧ s.KeyOk (m 0x142 1 0 9) ∧ s.KeyOk (m 0x142 2 0 0) ∧
       s.KeyOk (m 0x142 3 0 0) ∧ s.KeyOk (m 0x142 4 0 0) ∧ keyStack 192 = some 0 ∧ keyPort 0x142 = some 0 ∧ (0 : Half).toNat < 516 ∧
       ¬ s.KeyOk (m 192 1 1 9) ∧ 192 ∈ keyUnits ∧ 0x142 ∈ keyUnits ∧ 0 ∉ keyUnits ∧ Tbl.get 0 s.ctg.kpBad 192 < 2) ∧
    2 ≤ Tbl.get 0 (guarded { kpBad := [(192, 2)] }).ctg.kpBad 192 := by
  simp only [State.KeyOk]; decide

theorem test_witness_cartouche_ends :
    R.ctgState ≠ 1 ∧ (guarded {}).ctgState = 1 ∧ (guarded {}).fw.active < 2 ∧ ((guarded {}).ctg.unit (1 - (guarded {}).fw.active)).state = 1 ∧ (guarded {}).ctg.zPend = none ∧
    (0xDEC1 : Half) ≠ 0xDEC0 ∧ (guarded {}).ctg.eolAt = none ∧
    (let s := guarded { eolAt := some 0 }; s.ctg.eolAt = some 0 ∧ s.now ≤ 0 + 10000000000 ∧ 0 + 10000000000 < ({ s with now := 10000000001 } : State).now) ∧
    ((List.replicate 48 (7 : Byte)).length = 48 ∧ Tbl.get? (guarded {}).ctg.anchors (0 : Fin 4) = none ∧ ([] : List Byte).length ≠ 48 ∧
      (Tbl.get? (guarded { anchors := [(0, [])] }).ctg.anchors (0 : Fin 4)).isSome = true) ∧
    (let s := { guarded {} with fw := { imgs := [(1, { state := 1 })], svfAnchors := 1 } }
     (0x11 : Byte).toNat % 16 &&& s.fw.svfAnchors ≠ 0 ∧ s.fw.accepted 1 = true ∧ (0x12 : Byte).toNat % 16 &&& s.fw.svfAnchors = 0) ∧
    R.fw.accepted 1 = false := by
  decide

/-- A panel with firmware `f`. -/
def running (f : Firmware) : State := { guarded {} with fw := f }

theorem test_witness_firmware :
    ((1 : Byte).toNat % 2 = 1 ∧ 16 ≤ (16 : Byte).toNat ∧ (4 : Byte).toNat % 2 = 0 ∧ (4 : Byte).toNat < 16 ∧ R.ctg.approved = false ∧ R.fw.held = [] ∧
      ((4 : Byte).toNat >>> (3 - 1)) % 2 = 1 ∧ ((running { held := [(3, [])], imgs := [(1, { state := 1 }), (3, { state := 2 })] }).fw.img 3).state = 2) ∧
    (let s := running { imgs := [(2, { state := 1 })] }; s.fw.accepted (2 : Fin 5) = true ∧ (2 : Fin 5).val ∉ s.fw.delivered ∧ (1 : Fin 5) ≠ 2 ∧ (1 : Fin 5) ≠ 3) ∧
    (let s := running { comps := [(0, { state := 1 }), (1, { state := 1 }), (2, { state := 1, recent := [0, 0, 0] }), (3, { state := 2 }), (4, { state := 2 })] }
     (s.fw.comp (1 : Fin 6)).state = 1 ∧ (1 : Fin 6) ≠ 0 ∧ (within10s s.now (s.fw.comp (1 : Fin 6)).recent).length < 4 ∧
       4 ≤ (within10s s.now (s.fw.comp (2 : Fin 6)).recent).length ∧ (s.fw.comp (2 : Fin 6)).state = 1 ∧ s.fw.svbUp = true ∧
       (s.ctg.unit (1 - s.fw.active)).state = 1 ∧ (s.fw.comp (5 : Fin 6)).state ≠ 1 ∧ (s.fw.comp (0 : Fin 6)).state = 1 ∧
       (s.fw.comp (3 : Fin 6)).state = 2 ∧ (3 : Fin 6) ≠ 4 ∧ (s.fw.comp (4 : Fin 6)).state = 2) ∧
    (running { svbUp := false }).fw.svbUp = false ∧
    (let s := running { dogs := [(2 * 65536, [0, 0]), (3 * 65536, [0, 0]), (4 * 65536, [0, 0])] }
     3 ≤ (within10s s.now (Tbl.get [] s.fw.dogs (2 * 65536 + 0))).length ∧ 3 ≤ (within10s s.now (Tbl.get [] s.fw.dogs (3 * 65536 + 0))).length ∧
       3 ≤ (within10s s.now (Tbl.get [] s.fw.dogs (4 * 65536 + 0))).length ∧ s.gaz.siteIn (0 : SiteId) = true ∧ (s.gaz.stack (0 : StackId)).status = 0 ∧
       (s.gaz.braid (0 : BraidId)).status = 0 ∧ (s.levEnd (0 : BraidId) false).state ≠ 2) ∧
    ((within10s R.now (Tbl.get [] R.fw.dogs (2 * 65536 + 0))).length < 3 ∧ R.gaz.siteIn (31 : SiteId) = false ∧ (R.gaz.braid (112 : BraidId)).status ≠ 0) ∧
    (let s := { R with lev := { braids := [(0, { a := { state := 2 } })] } }; (s.levEnd (0 : BraidId) false).state = 2 ∧ (s.levEnd (0 : BraidId) false).own = none) := by
  decide +kernel

theorem test_witness_diagnostics :
    (let w : Word32 := BitVec.ofNat 32 (2 * 2 ^ 28 + 2 ^ 25)
     w.toNat / 2 ^ 28 % 16 = 2 ∧ R.lbOffered 2 (w.toNat / 2 ^ 25 % 8) (w.toNat % 2 ^ 21) = true ∧ R.lbBusy (.host 0) 2 0 = false ∧ R.lbForbidden 2 0 = false) ∧
    (R.lbOffered 3 1 1 = true ∧ R.lbBusy (.host 0) 3 1 = false ∧ R.lbForbidden 3 1 = false ∧ R.lbOffered 3 3 1 = false ∧ R.lbBusy (.host 0) 3 0 = true ∧
      ({ R with ctg := { approved := true } } : State).lbForbidden 2 0 = true) ∧
    (R.atZero = false ∧ ({ R with boot := { R.boot with level := some 0 } } : State).atZero = true) ∧
    (192 ≤ (192 : Byte).toNat ∧ (0 : Byte).toNat < 192 ∧ R.diag.run = none ∧ R.gaz.siteIn 0 = true ∧ R.gaz.siteIn 31 = false ∧
      (∀ e ∈ R.ten.parts, e.2.state ≠ 0 → ∀ c ∈ e.2.set, c / 8 ≠ 0)) ∧
    ((onTen { parts := [(0, p3)] }).ten.parts.any (fun e => e.2.state != 0 && e.2.set.any fun c => c / 8 == 0) = true) ∧
    (48 ≤ (48 : Byte).toNat % 64 ∧ (0x40 : Byte).getLsbD 6 = true ∧ (0x80 : Byte).toNat % 64 < 48 ∧ (0x80 : Byte).getLsbD 6 = false ∧ (R.gaz.stack 0).status = 0 ∧
      R.allotted 0 = false ∧ (onTen { parts := [(0, { p3 with allot := [(0, 0, 1)] })] }).allotted 0 = true) ∧
    (let s (k : Nat) : State := { R with diag := { run := some ⟨k, 0, 0, 0⟩ } }
     (s 0).diag.run = some ⟨0, 0, 0, 0⟩ ∧ (s 1).diag.run = some ⟨1, 0, 0, 0⟩ ∧ (s 2).diag.run = some ⟨2, 0, 0, 0⟩ ∧ ((s 2).gaz.stack 0).status = 0) := by
  decide

def event (c : FCode) : FEvent := ⟨5, c, 3, 0, 2, 9⟩
def record (c : FCode) : EventRec := ⟨4, 0, c, 3, 0, 2, 1, 9⟩

theorem test_witness_log_and_registers :
    (let s := { R with log := { fwd := [(3 * 256 + 7, 2)] } }
     s.log.fwd = [((3 : Half).toNat * 256 + 7, 2)] ∧ ∀ x ∈ s.log.fwd, x.1 / 256 ≠ (4 : Half).toNat) ∧
    R.log.inbox = [] ∧
    (let s := { R with log := { inbox := [event .railFaultUp], waiting := [record .psuUnknown] } }
     s.log.inbox = event .railFaultUp :: [] ∧ (∀ r ∈ s.log.waiting, ¬ (r.code = FCode.railFaultUp ∧ r.unit = 3 ∧ r.sub = 0)) ∧ s.log.ring = [] ∧
       s.log.waiting.length < 4096 ∧ (event .railFaultUp).unit < 192) ∧
    (let s := { R with log := { inbox := [event .railFaultUp], waiting := [record .railFaultUp] } }
     s.log.waiting = record .railFaultUp :: [] ∧ (record .railFaultUp).code = (event .railFaultUp).code ∧ (event .railFaultUp).code ≠ .statusChange ∧
       (event .railFaultUp).at_ ≠ 0 ∧ (record .railFaultUp).at_ ≠ 0 ∧ (event .railFaultUp).at_ < (record .railFaultUp).at_ + 1000000) ∧
    R.log.dropped = 0 ∧ ({ R with log := { dropped := 1 } } : State).log.dropped ≠ 0 ∧ R.pwr.vhk = false ∧ (onHosts {}).pwr.vhk = true ∧ (onHosts {}).ctg.zPend = none ∧
    (R.boot.level = none ∧ (4 : Word).toNat % 8 ≠ 0 ∧ 244 ≤ (0xF4 : Byte).toNat ∧ (0xF4 : Byte).toNat ≠ 0xF8 ∧ (guarded {}).boot.level.isSome = true ∧
      (0x10018 : Word).toNat = 0 * 0x100000 + 0x10018 ∧ (0x905000 : Word).toNat = 0x904000 + 0x1000 + 8 * 0 ∧ ((guarded {}).delta.router 0).slotHeld true = false ∧ ((guarded {}).delta.router 0).slotHeld false = false ∧
      ({ v0 := true } : Router).slotHeld false = true ∧ (guarded {}).atZero = false ∧ ({ R with boot := { level := some 0 } } : State).atZero = true ∧
      (0x30008 : Word).toNat = 0 * 0x100000 + 0x30008 ∧ (0x800008 : Word).toNat = 0x800008 ∧ (0x600008 : Word).toNat = 0x600008 ∧
      (0x960000 : Word).toNat = 0x960000 ∧ (0x38 : Word).toNat = 0 * 0x10000 + 0x38 ∧ (0x30 : Word).toNat = 0 * 0x10000 + 0x30 ∧ (0x8008 : Word).toNat = 0 * 0x10000 + 0x8008 + 0 * 0x800 ∧ (0xF2 : Byte).toNat = 242 + (0 : Fin 2).val ∧ (0xF0 : Byte).toNat = 240 + (0 : Fin 2).val ∧
      (guarded {}).fw.active = (0 : Fin 2).val ∧ (guarded {}).fw.active ≠ (1 : Fin 2).val ∧ (0xF1 : Byte).toNat = 240 + (1 : Fin 2).val ∧ (guarded {}).cnf.fenced = false ∧
      192 ≤ (0xC0 : Byte).toNat ∧ (0xC0 : Byte).toNat < 240 ∧
      (0xA00108 : Word).toNat = 0xA00008 + 1 * 0x100 ∧ (guarded {}).cnf.vote = none ∧ (0x101000 : Word).toNat = 0x101000 ∧
      (guarded {}).hosts.primary ≠ (1 : Fin 2).val ∧ (0xF3 : Byte).toNat = 242 + (1 : Fin 2).val) := by
  decide

/-- An image of kind 3 (19 R521): one empty component with its digest, a tested-with set that names stepping 0 only, no keys, no signatures. -/
def imageHead : List Byte :=
  [0x4D, 0x4D, 0x46, 0x4E, 3, 1, 0, 0, 0, 0, 0, 0, 1, 0, 1, 0, 0x5F, 0x1D, 0, 0, 0x5F, 0x1D, 0, 0, 0, 0, 0, 0, 0, 0, 0, 0, 0, 0, 0, 0, 0, 0, 0, 0, 0, 0, 0, 0, 0, 0, 0, 0]
def image : List Byte := (imageHead ++ leBytes 48 (Config.sha384 []).toNat) ++ List.replicate 7423 0

theorem image_length : image.length = 7519 := by
  unfold image
  rw [List.length_append, List.length_append, leBytes_length, List.length_replicate]; rfl

theorem image_head (o n : Nat) (h : o + n ≤ 48) : le image o n = le imageHead o n := by
  unfold le image
  have hh : imageHead.length = 48 := rfl
  rw [List.append_assoc, List.drop_append_of_le_length (by omega), List.take_append_of_le_length (by rw [List.length_drop]; omega)]

theorem zero_bytes : ∀ n, leNat (List.replicate n 0) = 0
  | 0 => rfl
  | n + 1 => by rw [List.replicate_succ, leNat, zero_bytes n]; rfl

theorem image_tail (o n : Nat) (h : 96 ≤ o) : le image o n = 0 := by
  unfold le image
  have hl : (imageHead ++ leBytes 48 (Config.sha384 []).toNat).length = 96 := by rw [List.length_append, leBytes_length]; rfl
  rw [show o = 96 + (o - 96) by omega, ← List.drop_drop, ← hl, List.drop_left, List.drop_replicate, List.take_replicate]
  exact zero_bytes _

theorem image_digest : le image 48 48 = (Config.sha384 []).toNat := by
  unfold le image
  have hh : imageHead.length = 48 := rfl
  rw [List.append_assoc, ← hh, List.drop_left, List.take_append_of_le_length (by rw [leBytes_length]), List.take_of_length_le (by rw [leBytes_length]),
    hh, leNat_leBytes]
  rw [show (256 : Nat) ^ 48 = 2 ^ 384 by rw [show (256 : Nat) = 2 ^ 8 from rfl, ← Nat.pow_mul]]
  exact Nat.mod_eq_of_lt (Config.sha384 []).isLt

theorem image_signatures : ((image.drop 2796).take 4723).all (· == 0) = true := by
  unfold image
  have hl : (imageHead ++ leBytes 48 (Config.sha384 []).toNat).length = 96 := by rw [List.length_append, leBytes_length]; rfl
  rw [show 2796 = 96 + 2700 from rfl, ← List.drop_drop, ← hl, List.drop_left, List.drop_replicate, List.take_replicate, List.all_replicate]
  simp

/-- An image without signatures that its tested-with set holds back is accepted under an override bit. -/
theorem test_witness_override :
    let f : Firmware := { imgs := [(1, { state := 1 }), (3, { state := 2 })], held := [(3, image)], override := 4 }
    let s : State := { running f with lgd := { objs := [(0x7051 * 65536, 1)] } }
    s.unsignedOk = true ∧ s.fw.accepted 1 = true ∧ s.fw.held = [(3, image)] ∧ (s.fw.img 3).state = 2 ∧
      { s.fw with override := (4 : Byte).toNat }.judge s.gaz.stepping s.ctg.fwRevoked s.unsignedOk 3 image = .accept true := by
  intro f s
  have hu : s.unsignedOk = true := by decide
  refine ⟨hu, rfl, rfl, rfl, ?_⟩
  have h0 : le image 0 4 = 0x4E464D4D := (image_head 0 4 (by decide)).trans (by decide)
  have h4 : le image 4 1 = 3 := (image_head 4 1 (by decide)).trans rfl
  have h5 : le image 5 1 = 1 := (image_head 5 1 (by decide)).trans rfl
  have h6 : le image 6 2 = 0 := (image_head 6 2 (by decide)).trans rfl
  have h8 : le image 8 4 = 0 := (image_head 8 4 (by decide)).trans rfl
  have hc : le image 0x0C 2 = 1 := (image_head 0x0C 2 (by decide)).trans rfl
  have he : le image 0x0E 2 = 1 := (image_head 0x0E 2 (by decide)).trans rfl
  have hz : le image 0x10 4 = 7519 := (image_head 0x10 4 (by decide)).trans (by decide)
  have hs : le image 0x14 4 = 7519 := (image_head 0x14 4 (by decide)).trans (by decide)
  have ho : le image 36 4 = 0 := (image_head 36 4 (by decide)).trans rfl
  have hn : le image 40 4 = 0 := (image_head 40 4 (by decide)).trans rfl
  have ht : twOff image = 96 := by rw [twOff, hc]
  have hk : keysOff image = 108 := by rw [keysOff, ht, he]
  have hg : sigsOff image = 2796 := by rw [sigsOff, hk]
  have hend : sigsEnd image = 7519 := by rw [sigsEnd, hg]
  have hfmt : fwFormatOk 3 image = true := by
    simp only [fwFormatOk, h0, h4, h5, hc, he, hz, hs, hend, image_length]; decide
  have hcomp : fwCompsOk image = true := by
    simp only [fwCompsOk, hc, List.range_succ, List.range_zero, List.nil_append, List.all_cons, List.all_nil, Nat.mul_zero, Nat.add_zero, ho, hn, List.drop_zero, List.take_zero]
    simp [image_digest]
  have hsig : ∀ rv, fwSigOk rv true 3 image = true := by
    intro rv
    simp only [fwSigOk, hcomp, hg, show 96 + 4627 = 4723 from rfl, image_signatures]
    simp
  have hp : (fwParse image).ifgen = 0 ∧ (fwParse image).steppings = [0] ∧ (fwParse image).ranges = [] := by
    simp only [fwParse, h6, he, ht, List.range_succ, List.range_zero, List.nil_append, List.map_cons, List.map_nil, Nat.mul_zero, Nat.add_zero]
    simp [image_tail]
  have hm : ({ s.fw with override := (4 : Byte).toNat } : Firmware).misfit 3 (fwParse image) = some 1 := by
    have h : (fwParse image).takes 1 (s.fw.img 1).version = false := by rw [FwImage.takes, hp.2.2]; rfl
    have ha : ({ s.fw with override := (4 : Byte).toNat } : Firmware).accepted 1 = true := rfl
    have hi : ({ s.fw with override := (4 : Byte).toNat } : Firmware).img 1 = s.fw.img 1 := rfl
    simp only [Firmware.misfit, mutual_, List.find?_cons, ha, hi, h, show ((1 : Nat) != 3) = true from rfl, Bool.false_and, Bool.not_false, Bool.and_self]
  unfold Firmware.judge
  rw [hu]
  simp only [hfmt, hsig, hp.1, hp.2.1, hm]
  rfl

def started (n : Nat) (g : Gaz) (p : Power) : State := { R with boot := { part := n }, gaz := g, pwr := p }
/-- The domains of a site, all on. -/
def domsOn (x : Nat) : Tbl Dom := (List.range 8).map fun n => (8 * x + n, { state := 3 })

theorem test_witness_start_parts :
    ((R.boot.part = 0 ∧ (started 6 {} {}).boot.part = 6 ∧ ({ R with boot := { stopped := true } } : State).boot.stopped = true) ∧
      ((started 1 {} {}).fw.allAccepted = false ∧ (started 1 {} {}).boot.restored = false) ∧
      ((started 2 {} {}).mer.unit.t.locked = false ∧ (R.pwr.inwin.testBit 1 = false))) ∧
    ((started 3 {} {}).boot.part = 3 ∧ ((started 3 {} {}).gaz.stack 0).status = 0 ∧ ((started 3 {} {}).stk 0).state ≠ 3) ∧
    (let s := { started 4 {} {} with larre := { engines := [(0, { role := 1, ports := [(0, { state := 1 })] })] } }
     s.boot.portsOver = false ∧ s.portsTraining = true ∧ s.pwr.inwin.testBit 8 = false) ∧
    ((started 5 {} {}).gaz.clusterIn 0 = true ∧ ((started 5 {} {}).pwr.dom 0).state ≠ 3) ∧
    (let s := { started 1 {} {} with boot := { part := 1, restored := true }, fw := { imgs := [(1, { state := 1 }), (2, { state := 1 }), (3, { state := 1 }), (4, { state := 1 })] } }
     s.boot.stopped = false ∧ s.partEnds = true) ∧
    (let s := { started 2 (oneSite 48) { inwin := 0x1F } with
       mer := { unit := { t := { locked := true } } }, fw := { delivered := [2, 3] }, delta := { tabs0 := ⟨[(0, 0)], []⟩ } }
     s.partEnds = true ∧ s.gaz.diagOk s.fw.active = true) ∧
    (let s := { started 2 (oneSite 0) { inwin := 0x1F } with
       mer := { unit := { t := { locked := true } } }, fw := { delivered := [2, 3] }, delta := { tabs0 := ⟨[(0, 0)], []⟩ } }
     s.partEnds = true ∧ s.gaz.diagOk s.fw.active = false) ∧
    (let s := { started 3 (oneSite 48) { inwin := 0xE1 } with lgd := { objs := [(0x5202 * 65536, 65536)] } }
     s.partEnds = true ∧ (s.engineRole 0).1 ≠ 0 ∧ s.obj 0x5201 0 = 0) ∧
    (let s := started 4 (oneSite 48) { inwin := 0x101 }; s.partEnds = true ∧ s.pwr.integ = false) ∧
    (let s := started 4 (oneSite 48) { inwin := 0x101, integ := true, tested := 0x1FE }; s.partEnds = true ∧ s.pwr.integ = true) ∧
    (let s := { started 3 { oneSite 48 with stackRecs := (0, { status := 1 }) :: (List.range 47).map fun k => (k + 1, { status := 4 }) } { inwin := 0xE1 } with
       boot := { part := 3, cold := false } }
     s.partEnds = true ∧ (s.gaz.stack (0 : StackId)).status = 1 ∧ s.boot.cold = false) := by
  decide +kernel

theorem last_start_part (ds : Tbl Dom) (hd : ∀ c, c < 1536 → Tbl.get {} ds c = { state := 3 }) :
    let s := { started 5 (oneSite 48) { inwin := 0x201, doms := ds } with boot := { part := 5, level := some 1, wave := 1 } }
    s.boot.stopped = false ∧ s.partEnds = true ∧ s.boot.level = some 1 ∧ s.gaz.diagOk s.fw.active = true ∧ s.gaz.siteIn ((384 : ClusterId) / 8) = true ∧
      (s.pwr.dom (384 : ClusterId)).state = 3 ∧ s.NoOverrides ((384 : ClusterId) / 8) := by
  intro s
  have hd (c : Nat) (h : c < 1536) : s.pwr.dom c = { state := 3 } := hd c h
  have hg : (oneSite 48).diagOk 0 = true ∧ (oneSite 48).siteIn 48 = true ∧ (oneSite 48).sitesIn.length ≤ 16 * 1 := by decide +kernel
  refine ⟨rfl, ?_, rfl, hg.1, hg.2.1, by rw [hd _ (by decide)], ?_⟩
  · have hall : (s.gaz.clustersIn.all fun c => (s.pwr.dom c).state == 3 && !(s.cl c).spd.zNeeded && !(s.cl c).spd.zRun) = true := by
      refine List.all_eq_true.mpr fun c hc => ?_
      have hm : c ∈ List.range 1536 := List.mem_of_mem_filter (p := s.gaz.clusterIn) hc
      have hk : s.cl c = {} := rfl
      rw [hd c (List.mem_range.mp hm), hk]; rfl
    have hs : (span 9 1).all s.pwr.inwin.testBit = true := by show (span 9 1).all (513 : Nat).testBit = true; decide
    have hw : decide (s.gaz.sitesIn.length ≤ 16 * s.boot.wave) = true := decide_eq_true hg.2.2
    show ((span 9 1).all s.pwr.inwin.testBit && decide (s.gaz.sitesIn.length ≤ 16 * s.boot.wave) && _) = true
    rw [hs, hw, Bool.true_and, Bool.true_and]; exact hall
  · intro n _; rfl

theorem test_witness_last_start_part : ∃ s : State,
    s.boot.stopped = false ∧ s.partEnds = true ∧ s.boot.level = some 1 ∧ s.gaz.diagOk s.fw.active = true ∧ s.gaz.siteIn ((384 : ClusterId) / 8) = true ∧
      (s.pwr.dom (384 : ClusterId)).state = 3 ∧ s.NoOverrides ((384 : ClusterId) / 8) :=
  ⟨_, last_start_part _ fun c h => get_constant ({} : Dom) { state := 3 } c 1536 0 (Nat.zero_le c) (by omega)⟩

theorem test_witness_resets :
    (let s := { started 4 {} {} with now := 10000000000 }; s.boot.part = 4 ∧ s.boot.partAt + 10000000000 ≤ s.now ∧ R.boot.part ≠ 4) ∧
    (let s := { started 4 {} {} with larre := { engines := [(0, { role := 1, laser := true, ports := [(0, { state := 1 })] })] } }
     4 ≤ s.boot.part ∧ (s.larre.engine (0 : EngineId)).laser = true ∧ (s.lport (0 : EngineId) (0 : Fin 4)).state = 1 ∧ (s.lport (0 : EngineId) (0 : Fin 4)).queue = []) ∧
    (let s := started 5 (oneSite 48) { seq := 3 }
     s.boot.part = 5 ∧ s.pwr.seq = 3 ∧ 16 * s.boot.wave < s.gaz.sitesIn.length ∧ s.boot.wave = 0 ∧ s.gaz.sitesIn.take (16 * s.boot.wave) = []) ∧
    (let s := { started 5 {} { seq := 3, doms := (List.range 128).map fun c => (c, { state := 3 }) } with boot := { part := 5, wave := 1 }, now := 500000000 }
     s.boot.waveAt + 500000000 ≤ s.now ∧ s.gaz.sitesIn.take (16 * s.boot.wave) = List.range 15 ++ [16] ∧ s.now < 500000001) ∧
    (R.boot.reset = false ∧ R.boot.masked = false ∧ R.pwr.vhk = false ∧
      (let s := { R with pwr := { en := true, seq := 3 } }; s.pwr.vhk = true ∧ s.pwr.en = true ∧ s.log.waiting = [] ∧ s.log.ring = [] ∧ s.pwr.seq ≠ 4 ∧ s.pwr.seq ≠ 5) ∧
      ({ R with pwr := { en := true, seq := 4 } } : State).pwr.seq = 4 ∧ ({ R with boot := { reset := true, masked := true } } : State).boot.reset = true) ∧
    (let s := { R with boot := { part := 0, reset := true, policy := 1 }, now := 30000000000, pwr := { seq := 5, en := true, vinOk := true } }
     s.MayStart ∧ s.NoApproval ∧ s.boot.reset = true ∧ s.boot.masked = false ∧ s.boot.stuck = false ∧ s.boot.resetAt + 30000000000 ≤ s.now ∧ s.boot.policy = 1 ∧
       ({ s with now := 0 } : State).now < s.boot.resetAt + 30000000000) ∧
    (let s := { R with boot := { part := 0, reset := true }, now := 30000000000, pwr := { seq := 0 } }
     ¬ s.MayStart ∧ s.boot.part = 0 ∧ s.pwr.seq ≠ 1 ∧ s.boot.policy ≠ 1 ∧ s.pwr.vhk = true) ∧
    (let s := { R with boot := { masked := true }, now := 100000000 }; s.boot.masked = true ∧ s.boot.reset = false ∧ s.boot.resetAt + 100000000 ≤ s.now) ∧
    (R.boot.slotPresent = true ∧ (onHosts {}).boot.slotPresent = true ∧ (onHosts {}).pwr.vhk = true ∧ (onHosts {}).pwr.seq ≠ 4 ∧
      ({ R with boot := { slotPresent := false } } : State).boot.slotPresent = false) := by
  simp only [State.MayStart, State.NoApproval]; decide +kernel

theorem test_witness_change_sets :
    GazEvent.key ⟨.unit (.site 0), 1, 3, 2⟩ < GazEvent.key ⟨.unit (.site 1), 1, 3, 2⟩ ∧ 8 < (9 : Nat) ∧
    ((R.brd 0).healthy 3 = true ∧ ((R.modBrd 0 fun x => { x with retired := [3] }).brd 0).healthy 3 = false) ∧
    ((⟨1, 2, 3, 0⟩ : Repair) ∉ (R.cl 0).spd.steer ∧ (⟨1, 2, 3, 0⟩ : Repair) ∈ ((R.withCl 0 fun k => { k with spd := { k.spd with steer := [⟨1, 2, 3, 0⟩] } }).cl 0).spd.steer ∧
      ∀ y ∈ (oneSite 48).sitesIn, y ∈ (oneSite 48).kept 0) ∧
    transitionOk (.stack 0) (R.gaz.status (.stack 0)) (R.gaz.reason (.stack 0)) 1 3 false = true ∧ 3 ≤ 8 ∧
    transitionOk (.stack 0) (R.gaz.status (.stack 0)) (R.gaz.reason (.stack 0)) 2 3 false = false ∧
    transitionOk (.stack 0) (R.gaz.stack 0).status (R.gaz.stack 0).reason 1 9 false = true ∧ transitionOk (.stack 0) (R.gaz.stack 0).status (R.gaz.stack 0).reason 4 9 false = true ∧
    transitionOk (.stack 0) (R.gaz.stack 0).status (R.gaz.stack 0).reason 3 9 false = false ∧
    (let s (rs : Nat) : State := { R with gaz := { stackRecs := [(0, { status := 1, reason := rs })] } }
     ((s 9).gaz.stack (0 : StackId)).status = 1 ∧ ((s 9).gaz.stack (0 : StackId)).reason = 9 ∧ ((s 4).gaz.stack (0 : StackId)).reason ≠ 9) ∧
    180 ≤ R.gaz.sitesIn.length := by
  decide +kernel

/-- The Surveyor's attachment site 48 in service, its neighbour 49 a reserve, the others gone; an activation at step `n` of it for site 63. -/
def twoSites (act : Option Activation) : Gaz :=
  { oneSite 48 with act := act, sites := (List.range 192).filterMap fun y => if y = 48 then none else some (y, { status := if y = 49 then 2 else 4, leftGen := y + 1 })
                    clusters := (List.range 8).map fun n => (392 + n, { status := 2 }) }
def leftSite : Gaz :=
  { oneSite 48 with sites := (List.range 192).filterMap fun y => if y = 48 then none else some (y, { status := if y = 49 then 2 else 4, leftGen := if y = 63 then 1 else 0 }) }
def actAt (n : Nat) : Activation := ⟨n, some (49 : SiteId), 63, true⟩
def activating (n : Nat) (p : Power) : State := { R with gaz := twoSites (some (actAt n)), pwr := p }
def twoRoutes : RouteTables := ⟨[(48 * 512 + 49, 0x8001), (48 * 512 + 0x140, 0x800E), (49 * 512 + 48, 0x8003), (49 * 512 + 0x140, 0x8003)],
  [(49 * 4096, 0xF8A02FF8), (48 * 4096, 0x08902FF0)]⟩

theorem test_witness_activation_manual :
    (let s := { R with gaz := twoSites none }
     s.gaz.act = none ∧ (49 : Byte).toNat < 192 ∧ (s.gaz.site 49).status = 2 ∧ s.gaz.sitesIn.length < 180 ∧ (s.gaz.site 0).status = 4 ∧ s.gaz.served 0 = true ∧
       (∀ t, t < 192 → (s.gaz.site t).replaces ≠ 0) ∧ ∀ y, y < 192 → (s.gaz.site 0).leftGen < (s.gaz.site y).leftGen ∨ ((s.gaz.site 0).leftGen = (s.gaz.site y).leftGen ∧ 0 ≤ y) ∨ y = 48) := by
  decide +kernel

theorem test_witness_activation_automatic :
    (let s := { R with gaz := leftSite, pwr := { inwin := 0x3FF, seq := 3 } }
     s.obj 0x3010 0 = 2 ∧ s.gaz.act = none ∧ s.gaz.sitesIn.length < 180 ∧ s.gaz.unreplaced (s.obj 0x3010 0) = some 63 ∧ (s.gaz.site (49 : SiteId)).status = 2 ∧ siteRow 49 = siteRow 63 ∧
       (∀ y, y < 49 → siteRow y = siteRow 63 → (s.gaz.site y).status ≠ 2) ∧ s.pwr.inwin.testBit 9 = true ∧ s.pwr.seq = 3) := by
  decide +kernel

theorem test_witness_activation_power_up :
    ((activating 1 { inwin := 0x3FF, seq := 3 }).gaz.act = some (actAt 1) ∧ (activating 1 { inwin := 0x3FF, seq := 3 }).pwr.inwin.testBit 9 = true) := by
  decide +kernel

theorem test_witness_activation_self_test :
    (let s := activating 2 { doms := domsOn 49 }
     s.gaz.act = some (actAt 2) ∧ (∀ i, i < 8 → (s.gaz.cluster (8 * 49 + i)).status = 2) ∧ ∀ i, i < 8 → (s.pwr.dom (8 * 49 + i)).state = 3) := by
  decide +kernel

theorem test_witness_activation_self_test_waits :
    (let s := activating 2 {}; (s.pwr.dom (8 * 49)).state ≠ 3 ∧ ∀ i, i < 8 → (s.pwr.dom (8 * 49 + i)).state ≠ 4) := by
  decide +kernel

theorem test_witness_activation_self_test_fails :
    (let s := { activating 2 { doms := [(392, { state := 4 })] } with lgd := { objs := [(0x3010 * 65536, 0)] } }
     (s.pwr.dom (8 * 49)).state = 4 ∧ (s.gaz.site (49 : SiteId)).status = 2 ∧ s.obj 0x3010 0 = 0) := by
  decide +kernel

theorem test_witness_activation_training :
    (let s := { R with gaz := { twoSites (some (actAt 3)) with braids := [(2848 + 98, { status := 2 })] } }
     s.gaz.act = some (actAt 3) ∧ 2848 + 98 ∈ siteMeshBraids 49 ++ siteMemBraids 49 ∧ (s.gaz.braid (2946 : BraidId)).status = 2) := by
  decide +kernel

theorem test_witness_activation_edition :
    (let s := activating 4 {}; let t := s.modGaz (s.activated (actAt 4) 49)
     s.gaz.act = some (actAt 4) ∧ s.slotFree = true ∧ t.gaz.siteJoined 49 = true ∧ t.editionOk twoRoutes = true ∧ t.editionOk ⟨[], []⟩ = false ∧
       ({ s with delta := { routers := [(48, { armed := true })] } } : State).slotFree = false) := by
  decide +kernel

theorem test_witness_activation_complete :
    (let s := activating 5 {}; let g := s.activated (actAt 5) 49 s.gaz
     s.gaz.act = some (actAt 5) ∧ (∀ y ∈ s.gaz.sitesIn, (s.delta.router y).armed = false) ∧ s.gaz.sitesIn.length < 180 ∧ g.siteJoined 49 = true ∧
       (∀ y ∈ g.sitesIn, y ∈ g.kept s.fw.active)) ∧
    (let s := { R with gaz := { R.gaz with act := some (actAt 5) } }
     s.gaz.act = some (actAt 5) ∧ (∀ y ∈ s.gaz.sitesIn, (s.delta.router y).armed = false) ∧ 180 ≤ s.gaz.sitesIn.length) := by
  decide +kernel

theorem test_witness_activation_not_joined :
    (let s := { activating 5 {} with gaz := { twoSites (some (actAt 5)) with braids := (siteMemBraids 49).map fun b => (b, { status := 4 }) } }
     (s.activated (actAt 5) 49 s.gaz).siteJoined 49 = false) := by
  decide +kernel


def powered (p : Power) : State := { R with pwr := p }

theorem test_witness_input_and_starts :
    (R.pwr.vhk = false ∧ (powered {}).pwr.vhk = true ∧ (powered {}).pwr.railsOn = false ∧ (0x101 : Word32).toNat % 256 = 1 ∧ (3 : Word32).toNat % 256 ≠ 1 ∧
      (3 : Word32).toNat % 256 ≠ 2 ∧ R.boot.part = 0) ∧
    (let p : Power := { seq := 3, on := 0x3FF, inwin := 0x3FF, config := 1 }
     p.vhk = true ∧ p.railsOn = true ∧ (1 : Word32).toNat % 256 = p.config ∧ (2 : Word32).toNat % 256 ≠ p.config ∧ p.seq ≠ 4 ∧ p.seq ≠ 5 ∧
       (0x40 : Half).getLsbD 6 = true ∧ (1 : Half) ≠ 0 ∧ ∀ i, 2 ≤ i → i ≤ 6 → (1 : Half).getLsbD i = false) ∧
    ((powered { seq := 6 }).pwr.seq = 6 ∧ (powered { seq := 4 }).pwr.seq = 4 ∧ (powered {}).pwr.en = false ∧ (powered { en := true, seq := 3 }).pwr.en = true ∧
      (powered { seq := 5 }).now < (powered { seq := 5 }).pwr.offAt + 500000000) ∧
    (let s := { powered { seq := 5, en := true } with now := 500000000 }; let t := s.modPwr fun q => { q with vinOk := true }
     t.MayStart ∧ s.boot.reset = false ∧ s.NoApproval ∧ s.pwr.vinOk = false) ∧
    (let s := { powered { seq := 5, vinOk := true } with now := 500000000 }; let t := s.modPwr fun q => { q with en := true, upFaults := 0 }
     t.MayStart ∧ s.boot.reset = false ∧ s.NoApproval ∧ s.pwr.en = false) ∧
    (R.boot.reset = false ∧ R.NoApproval ∧ (let s := { R with boot := { reset := true, part := 0 } }; s.boot.reset = true ∧ s.boot.masked = false)) := by
  simp only [State.MayStart, State.NoApproval]
  refine ⟨by decide, ⟨by decide, by decide, by decide, by decide, by decide, by decide, by decide, by decide, ?_⟩, by decide, by decide, by decide, by decide⟩
  intro i h2 h6
  have : ∀ j, j < 7 → 2 ≤ j → (1 : Half).getLsbD j = false := by decide
  exact this i (by omega) h2

theorem test_witness_rails :
    (let p : Power := { seq := 2, on := 3, inwin := 1, en := true, vinOk := true, config := 1 }
     p.seq = 2 ∧ p.on = 2 ^ ((1 : Fin 10).val + 1) - 1 ∧ p.inwin = 2 ^ (1 : Fin 10).val - 1 ∧ p.integ = false ∧ (1 : Fin 10).val < 9 ∧ (1 : Fin 10).val < 7 ∧ R.boot.part ≠ 3 ∧ p.on.testBit 1 = true ∧
       p.inwin.testBit 1 = false ∧ p.fault.getLsbD 63 = false) ∧
    (let p : Power := { seq := 2, on := 0xFF, inwin := 0x7F, en := true, vinOk := true, config := 1 }
     let s := { powered p with boot := { part := 3 }, fw := { delivered := [2] } }
     p.seq = 2 ∧ p.on = 2 ^ ((7 : Fin 10).val + 1) - 1 ∧ p.inwin = 2 ^ (7 : Fin 10).val - 1 ∧ p.integ = false ∧ p.on.testBit 7 = true ∧ p.inwin.testBit 7 = false ∧
       p.fault.getLsbD 63 = false ∧ s.boot.part = 3 ∧ s.fw.delivered.contains 2 = true) ∧
    (let p : Power := { seq := 2, on := 0x3FF, inwin := 0x1FF }; p.seq = 2 ∧ p.on = 2 ^ 10 - 1 ∧ p.on.testBit 9 = true ∧ p.inwin.testBit 9 = false) ∧
    (let p : Power := { seq := 2, on := 3, inwin := 1, integ := true }; p.integ = true ∧ p.on.testBit 1 = true ∧ p.inwin.testBit 1 = false) ∧
    (let p : Power := { seq := 2, on := 3, inwin := 3 }; p.seq = 2 ∧ (1 : Fin 10).val ≠ 0 ∧ (1 : Fin 10).val ≠ 9 ∧ p.on.testBit 1 = true ∧ p.inwin.testBit 1 = true) ∧
    (let p : Power := { seq := 4, on := 3, inwin := 7 }; p.seq = 4 ∧ p.on = 2 ^ (2 : Fin 10).val - 1 ∧ p.inwin = 2 ^ ((2 : Fin 10).val + 1) - 1 ∧ p.downFault = false ∧
       p.on.testBit 2 = false ∧ p.inwin.testBit 2 = true ∧ p.on.testBit 1 = true ∧ p.inwin.testBit 1 = true) ∧
    (let p : Power := { seq := 4, on := 1, inwin := 3, downFault := true }; p.on = 2 ^ (1 : Fin 10).val - 1 ∧ p.inwin = 2 ^ ((1 : Fin 10).val + 1) - 1 ∧ p.downFault = true ∧
       p.on.testBit 1 = false ∧ p.inwin.testBit 1 = true) ∧
    (let p : Power := { seq := 3, on := 0x3FF, inwin := 0x3FF }; p.seq = 3 ∧ p.inwin.testBit 9 = true ∧ p.on.testBit 8 = true ∧ p.inwin.testBit 8 = true) := by
  decide

theorem test_witness_domains :
    (let D : Dom := { state := 2, stage := 0 }; let s := powered { doms := [(0, D)] }
     (s.pwr.dom (0 : ClusterId)).state = 2 ∧ (s.gaz.cluster (0 : ClusterId)).status = 0 ∧ D.stage < 4 ∧ D.outside = none ∧ (s.pwr.dom (1 : ClusterId)).state = 0) ∧
    (let D : Dom := { state := 3, smask := 0xFF }; D.state ≠ 0 ∧ D.state ≠ 4 ∧ 4 ≤ ({ D with smask := setBit D.smask 0 false }).sensors ∧ D.local_ = false) ∧
    (let D : Dom := { state := 3, smask := 0x0F }; ({ D with smask := setBit D.smask 0 false }).sensors < 4 ∧ D.local_ = false) ∧
    (let s := { powered { seq := 3, inwin := 0x3FF, doms := [(1, { state := 1 })] } with boot := { wave := 1 } }
     (s.pwr.dom (1 : ClusterId)).state = 1 ∧ s.pwr.inwin.testBit 9 = true ∧ s.pwr.seq = 3 ∧ s.gaz.clusterIn (1 : ClusterId) = true ∧
       (1 : ClusterId).val / 8 ∈ s.gaz.sitesIn.take (16 * s.boot.wave) ∧ s.pwr.waits = [] ∧ s.pwr.held = []) ∧
    (let s := powered { seq := 3, inwin := 0x3FF, waits := [(5, 0)] }
     s.pwr.waits = [((5 : ClusterId).val, s.mcount)] ∧ (1 : ClusterId).val < (5 : ClusterId).val ∧ (∀ e ∈ s.pwr.waits ++ s.pwr.held, e.1 ≠ (1 : ClusterId).val) ∧
       quadrant (5 : ClusterId) = (0 : Fin 4).val ∧ s.pwr.heldIn (0 : Fin 4) < 24 ∧ (∀ e ∈ s.pwr.waits, quadrant e.1 ≠ (1 : Fin 4).val) ∧
       ∀ e ∈ s.pwr.waits, e.2 < (atCount 1 s).mcount) ∧
    24 ≤ (powered { held := (List.range 24).map fun c => (c, 0) }).pwr.heldIn (0 : Fin 4) ∧
    (let D : Dom := { state := 2, stage := 1 }; let s := powered { doms := [(0, D)] }; D.stage ≠ 0 ∧ s.now < D.stageAt + 200 ∧ D.stageAt + 200 ≤ ({ s with now := 200 } : State).now) ∧
    (let D : Dom := { state := 2, stage := 4 }; let s := { powered { doms := [(0, D)] } with now := 1000 }
     4 ≤ D.stage ∧ D.stage = 4 ∧ D.outside = none ∧ D.stageAt + 1000 ≤ s.now ∧ ({ s with now := 999 } : State).now < D.stageAt + 1000) ∧
    ((powered { doms := [(0, { state := 2, outside := some 0 })] }).pwr.dom (0 : ClusterId)).outside = some 0 ∧
    (let s := powered { held := [(0, 0)] }; s.pwr.held = ((0 : ClusterId).val, 0) :: [] ∧ R.pwr.held = []) := by
  decide +kernel

theorem test_witness_fracture_watch :
    (let x : Path := { r0 := 100 }; let s := powered { doms := [(0, { state := 3 })], paths := [(0, x)] }
     (s.pwr.dom (0 : ClusterId)).state = 3 ∧ 1200 ≤ 4800 ∧ Tbl.get? s.pwr.paths (8 * (0 : ClusterId).val + (0 : Fin 8)) = some x ∧ 0 < x.r0 ∧
       3 * x.r0 * 4800 ≤ 2000 * [8480].getD (0 : Fin 8) 0 ∧ x.r0 * 4800 + 8000000 ≤ 1000 * [8480].getD (0 : Fin 8) 0 ∧ (s.gaz.site 0).derate = 0 ∧
       ((x.marks.take 99).filter (· == true)).length < 89 ∧ 2000 * ([] : List Nat).getD 0 0 < 3 * x.r0 * 1200) ∧
    (let x : Path := { r0 := 100, marks := List.replicate 89 true }; 89 ≤ ((x.marks.take 99).filter (· == true)).length) ∧
    (let s := { R with lgd := { objs := [(0x2200 * 65536, 1400)] } }; s.obj 0x2200 0 < s.obj 0x2201 0 + 200 ∧ (s.gaz.site 0).status = 0) ∧
    ((1199 : Nat) < 1200 ∧ 4800 < (4801 : Nat)) := by
  decide

theorem test_witness_limits_and_steps :
    (R.clk.sensDropped = [] ∧ R.clk.sensBad = [] ∧ (R.gaz.engine (0 : EngineId)).status = 0 ∧ degC 85 ≤ degC 85 ∧ GoodTemp (degC 85) ∧ R.ctg.zPend = none ∧
      GoodTemp (degC 111) ∧ degC 110 < degC 111 ∧ GoodTemp (degC (-11)) ∧ degC (-11) < degC (-10) ∧ degC (-10) ≤ R.tempOf (0x140 + 0) ∧ R.tempOf (0x140 + 0) < degC 110 ∧
      (powered {}).pwr.vhk = true) ∧
    (let c : Instr := .waveStart; (R.withFront c).pending = c :: [] ∧ R.pending = []) ∧
    (R.QueueWf ∧ R.pending.tail = [] ∧ (R.withFront (.mma 0 0 0 0 0 0)).pending ≠ []) := by
  simp only [GoodTemp, State.QueueWf]; decide

/-! WellFormed refuses an ill-formed command for each of its checks. -/

/-- A packet of 8 bytes by its LEN that carries none, and one marked poisoned without a map. -/
def shortPacket : Packet := pkt ⟨5, 3, 0, 1, 8, false, false, false, false, 0, false⟩ 0 []
def noMap : Packet := pkt ⟨5, 3, 0, 1, 8, false, false, false, true, 0, false⟩ 0 (List.replicate 8 1)
def shortFrame : Frame := { frame 0 0 8 0 with payload := [1] }
def columnTwice : SramResult := ⟨0, false, [⟨0, 0, 0⟩, ⟨0, 0, 0⟩], 0⟩
def lane68 : List (Nat × Nat × Nat × Nat × Bool) := [(68, 0, 0, 0, true)]
def laneTwice : List (Nat × Nat × Nat × Nat × Bool) := [(0, 0, 0, 0, true), (0, 0, 0, 0, true)]
def keyTwice : RouteTables := ⟨[(3, 0), (3, 0)], []⟩

theorem test_ill_formed_gazetteer_events :
    (Instr.gazetteerChangeSet [⟨.unit (.site 0), 5, 0, 0⟩]).wellFormed = false ∧ (Instr.gazetteerChangeSet [⟨.unit (.site 0), 0, 11, 0⟩]).wellFormed = false ∧
    (Instr.gazetteerChangeSet [⟨.unit (.site 0), 0, 0, 7⟩]).wellFormed = false ∧ (Instr.gazetteerChangeSet [⟨.unit (.site 0), 1, 3, 2⟩]).wellFormed = true := by decide
theorem test_ill_formed_self_tests :
    (Instr.reserveSelfTest [columnTwice]).wellFormed = false ∧ (Instr.wakeTokenReturn 0 columnTwice).wellFormed = false ∧
    (Instr.diagnosticRunEnd 0 [columnTwice] true 0 []).wellFormed = false ∧ (Instr.reserveSelfTest [⟨0, false, [⟨0, 0, 0⟩], 1⟩]).wellFormed = true := by decide
theorem test_ill_formed_lane_tests :
    (Instr.braidTraining 0 true ⟨true, lane68⟩).wellFormed = false ∧ (Instr.braidTraining 0 true ⟨true, laneTwice⟩).wellFormed = false ∧
    (Instr.braidRetrainComplete 0 ⟨true, lane68⟩).wellFormed = false ∧ (Instr.leveeLoopbackEnd 0 false 0 ⟨true, laneTwice⟩).wellFormed = false ∧
    (Instr.reserveLinkTraining [⟨0, true, true, lane68⟩]).wellFormed = false ∧ (Instr.braidTraining 0 true ⟨true, [(67, 0, 0, 0, true)]⟩).wellFormed = true := by decide
theorem test_ill_formed_editions :
    (Instr.reserveEdition keyTwice 0).wellFormed = false ∧ (Instr.editionPublish [keyTwice] 0).wellFormed = false ∧
    (Instr.editionPublish [⟨[(3, 0)], [(4, 0)]⟩] 0).wellFormed = true := by decide
theorem test_ill_formed_packets :
    (Instr.packetInject 0 0 shortPacket none).wellFormed = false ∧ (Instr.deltaHop 0 0 shortPacket).wellFormed = false ∧
    (Instr.hbmRequest 0 shortPacket []).wellFormed = false ∧ shortPacket.wf = false ∧
    noMap.poisoned = true ∧ noMap.wf = false ∧ { shortPacket with payload := List.replicate 8 1 }.wf = true := by decide
theorem test_ill_formed_frames :
    (Instr.larreDirect 0 0 shortFrame true).wellFormed = false ∧ (Instr.ethernetFrame 0 0 (.larre true shortFrame true [])).wellFormed = false ∧
    (Instr.larreDirect 0 0 (frame 0 0 8 0) true).wellFormed = true := by decide
theorem test_ill_formed_datagram (payload : List Byte) (h : payload.length = 65536) : (Instr.ethernetFrame 0 0 (.udp none 0 0 0 payload)).wellFormed = false := by
  show decide (payload.length < 65536) = false
  rw [h]; decide
theorem test_ill_formed_scrub_and_lanes :
    (Instr.scrubRead 0 0 [(8, 1)]).wellFormed = false ∧ (Instr.svyShadow 0 3 3).wellFormed = false ∧ (Instr.svyMove 0 3 3 true).wellFormed = false ∧
    (Instr.scrubRead 0 0 [(7, 1)]).wellFormed = true ∧ (Instr.svyShadow 0 3 4).wellFormed = true := by decide
theorem test_ill_formed_extents_and_keys :
    (Instr.chartYielded 0 [(0, 0x17FFFFF, 2)]).wellFormed = false ∧ (Instr.chartYielded 0 [(0, 0x17FFFFF, 1)]).wellFormed = true ∧
    (Instr.keyPathLoad 192 1 0 (2 ^ 256)).wellFormed = false ∧ (Instr.keyPathLoad 192 1 0 (2 ^ 256 - 1)).wellFormed = true ∧
    (Instr.anchorWrite 0 (List.replicate 47 0)).wellFormed = false := by decide
theorem test_ill_formed_samples :
    (Instr.stackTemperatureSample 0 []).wellFormed = false ∧ (Instr.dieTemperatureSample 0 []).wellFormed = false ∧ (Instr.marginSample 0 []).wellFormed = false ∧
    (Instr.engineTemperatureSample 0 []).wellFormed = false ∧ (Instr.surveyorDieTemperatureSample 0 []).wellFormed = false ∧
    (Instr.fractureInterval 0 0 []).wellFormed = false ∧ (Instr.engineTemperatureSample 0 [none, none]).wellFormed = true := by decide
theorem test_ill_formed_register_writes :
    (Instr.registerWrite 0xF4 0 ⟨0, .surveyor⟩).wellFormed = false ∧ (Instr.registerWrite 0xF9 0 ⟨0, .surveyor⟩).wellFormed = false ∧ (Instr.registerWrite 0 4 ⟨0, .surveyor⟩).wellFormed = false ∧
    (Instr.registerWrite 0 (BitVec.ofNat 64 (2 ^ 52)) ⟨0, .surveyor⟩).wellFormed = false ∧ (Instr.registerWrite 0xF8 8 ⟨0, .surveyor⟩).wellFormed = true := by decide

/-! Single steps; the expected values are computed by hand from the rule named. -/

/-- The panel with g1 = 5 and g2 = 0xFF..FD in cluster 0. -/
def twoRegs : State := onSq fun q => (q.setG 1 5).setG 2 0xFFFFFFFFFFFFFFFD

-- 06 R163, R198: sequencer arithmetic; g0 is a register like the others.
theorem test_add : (after (.add (.seq 0) 3 1 2) twoRegs).g 0 3 = 2 := by decide
theorem test_add_writes_g0 : (after (.add (.seq 0) 0 1 1) twoRegs).g 0 0 = 10 := by decide
theorem test_sub_wraps : (after (.sub (.seq 0) 3 0 1) twoRegs).g 0 3 = 0xFFFFFFFFFFFFFFFB := by decide
theorem test_mulhu : (after (.mulhu (.seq 0) 3 1 2) twoRegs).g 0 3 = 4 := by decide
theorem test_slt_signed : (after (.slt (.seq 0) 3 2 1) twoRegs).g 0 3 = 1 := by decide
theorem test_sltu_unsigned : (after (.sltu (.seq 0) 3 2 1) twoRegs).g 0 3 = 0 := by decide
theorem test_addi_sign_extends : (after (.addi (.seq 0) 3 1 0xFFFF) twoRegs).g 0 3 = 4 := by decide
theorem test_srai : (after (.srai (.seq 0) 3 2 1) twoRegs).g 0 3 = 0xFFFFFFFFFFFFFFFE := by decide
theorem test_shri : (after (.shri (.seq 0) 3 2 63) twoRegs).g 0 3 = 1 := by decide
theorem test_same_destination : (after (.add (.seq 0) 1 1 1) twoRegs).g 0 1 = 10 := by decide
-- 16 R464: a primary that is lost sets its deadline 0x1101 (500 ms) ahead.
theorem test_primary_lost : (after (.hostLinkDown 0) (onHosts { ports := [(0, up)] })).hosts.pend = some 500000000 := by decide
-- 21 R546: configuration 1 identified.
theorem test_identified : (after (.pmbusIdentify (some 0x101)) (powered {})).pwr.config = 1 := by decide
-- 15 R454: a doorbell of a handle that is not current is counted.
theorem test_stale_doorbell : (after (.doorbell 0 0 0 0 1 []) (onChan (chan3 []) id)).ten.stale = 1 := by decide +kernel
-- 16 R457: PERST_N takes the link down.
theorem test_perst : ((after (.perstNAssert 1) (onHosts { ports := [(1, up)] })).hosts.port 1).linkUp = false := by decide


-- The table gives no row bits: no word spells a command.
theorem test_no_word_decodes : decodeTableWord 64 0 = none ∧ (State.reset.withFetchWord 64 0).pending = [] := by decide
end Sys2Proof.Tests
end

section
/-!
SUPPORT. The frame of the shared operations: which parts of the panel a packet, a vote, a level or a turn list may change.
-/
namespace Sys2Proof.Machine

variable {s t u : State} {ps qs : List Part}

/-! The parts of the panel that an operation leaves as they are -/

theorem Part.same_refl (p : Part) (s : State) : p.same s s := by cases p <;> rfl

theorem Part.same_trans {p : Part} (h : p.same s t) (h' : p.same t u) : p.same s u := by cases p <;> exact Eq.trans h' h

theorem ChangesOnly.refl (ps : List Part) (s : State) : ChangesOnly ps s s := fun p _ => p.same_refl s

theorem ChangesOnly.trans (h : ChangesOnly ps s t) (h' : ChangesOnly ps t u) : ChangesOnly ps s u :=
  fun p hp => Part.same_trans (h p hp) (h' p hp)

theorem ChangesOnly.mono (h : ChangesOnly ps s t) (hq : ps ⊆ qs) : ChangesOnly qs s t := fun p hp => h p fun hm => hp (hq hm)

theorem ChangesOnly.foldl {β : Type} {g : State → β → State} {l : List β} (hg : ∀ s x, ChangesOnly ps s (g s x)) :
    ChangesOnly ps s (l.foldl g s) :=
  List.foldlRecOn l g (ChangesOnly.refl ps s) fun _ h x _ => h.trans (hg _ x)

theorem ChangesOnly.ite {b : Prop} [Decidable b] (ht : b → ChangesOnly ps s t) (hu : ¬ b → ChangesOnly ps s u) :
    ChangesOnly ps s (if b then t else u) := by
  split
  · exact ht ‹_›
  · exact hu ‹_›

theorem State.modGaz_changes {f : _ → _} (h : .gaz ∈ ps) : ChangesOnly ps s (s.modGaz f) := by
  intro p hp; cases p <;> simp_all [Part.same]
theorem State.modDelta_changes {f : _ → _} (h : .delta ∈ ps) : ChangesOnly ps s (s.modDelta f) := by
  intro p hp; cases p <;> simp_all [Part.same]
theorem State.modLev_changes {f : _ → _} (h : .lev ∈ ps) : ChangesOnly ps s (s.modLev f) := by
  intro p hp; cases p <;> simp_all [Part.same]
theorem State.modLarre_changes {f : _ → _} (h : .larre ∈ ps) : ChangesOnly ps s (s.modLarre f) := by
  intro p hp; cases p <;> simp_all [Part.same]
theorem State.modCnf_changes {f : _ → _} (h : .cnf ∈ ps) : ChangesOnly ps s (s.modCnf f) := by
  intro p hp; cases p <;> simp_all [Part.same]
theorem State.modTen_changes {f : _ → _} (h : .ten ∈ ps) : ChangesOnly ps s (s.modTen f) := by
  intro p hp; cases p <;> simp_all [Part.same]
theorem State.modFw_changes {f : _ → _} (h : .fw ∈ ps) : ChangesOnly ps s (s.modFw f) := by
  intro p hp; cases p <;> simp_all [Part.same]
theorem State.modBoot_changes {f : _ → _} (h : .boot ∈ ps) : ChangesOnly ps s (s.modBoot f) := by
  intro p hp; cases p <;> simp_all [Part.same]
theorem State.modPwr_changes {f : _ → _} (h : .pwr ∈ ps) : ChangesOnly ps s (s.modPwr f) := by
  intro p hp; cases p <;> simp_all [Part.same]
theorem State.modLog_changes {f : _ → _} (h : .log ∈ ps) : ChangesOnly ps s (s.modLog f) := by
  intro p hp; cases p <;> simp_all [Part.same]
theorem State.modDiag_changes {f : _ → _} (h : .diag ∈ ps) : ChangesOnly ps s (s.modDiag f) := by
  intro p hp; cases p <;> simp_all [Part.same]
theorem State.setCl_changes {c : Nat} {k : Cluster} (h : .clusters ∈ ps) : ChangesOnly ps s (s.setCl c k) := by
  intro p hp; cases p <;> simp_all [Part.same]
theorem State.modStk_changes {k : Nat} {f : Stack → Stack} (h : .hbm ∈ ps) : ChangesOnly ps s (s.modStk k f) := by
  intro p hp; cases p <;> simp_all [Part.same]
theorem State.emit_changes {m : Msg} (h : .out ∈ ps) : ChangesOnly ps s (s.emit m) := by
  intro p hp; cases p <;> simp_all [Part.same]
theorem State.emits_changes {ms : List Msg} (h : .out ∈ ps) : ChangesOnly ps s (s.emits ms) := by
  intro p hp; cases p <;> simp_all [Part.same]
theorem State.raise_changes {code : FCode} {unit sub detail : Nat} (h : .log ∈ ps) : ChangesOnly ps s (s.raise code unit sub detail) := by
  intro p hp; cases p <;> simp_all [Part.same, State.raise]

/-! What the Delta network and the Levee braids change (09, 10) -/

/-- The parts that a packet on its way may change. -/
def netParts : List Part := [.delta, .lev, .log, .out]

theorem State.sendFlits_changes {far : Bool} {site port : Nat} {c : Chunk} : ChangesOnly netParts s (s.sendFlits far site port c) := by
  unfold State.sendFlits
  have placed : ∀ key, ChangesOnly netParts s (if c.at_ = 0 then s.modLev fun l => (l.place key).1 else s) := fun key =>
    .ite (fun _ => State.modLev_changes (by decide)) fun _ => .refl _ _
  dsimp only
  split
  · exact placed _
  · exact (placed _).trans ((State.modLev_changes (by decide)).trans (State.emits_changes (by decide)))

theorem State.sendChunk_changes {site port : Nat} {c : Chunk} : ChangesOnly netParts s (s.sendChunk site port c) :=
  ChangesOnly.trans (.ite (fun _ => State.emit_changes (by decide)) fun _ => .refl _ _) State.sendFlits_changes

theorem State.commitRouter_changes {site : Nat} {r : Router} {sent : List (Nat × Chunk)} :
    ChangesOnly netParts s (s.commitRouter site r sent) :=
  ((State.modDelta_changes (by decide)).trans (.foldl fun _ _ => State.sendChunk_changes)).trans
    (.foldl fun _ _ => State.emits_changes (by decide))

theorem State.counted_changes {site inPort : Nat} {p : Packet} : ChangesOnly netParts s (s.counted site inPort p) := by
  unfold State.counted
  have counts : ∀ f, ChangesOnly netParts s (s.modDelta f) := fun _ => State.modDelta_changes (by decide)
  exact .ite (fun _ => counts _) fun _ => (counts _).trans (State.modDelta_changes (by decide))

theorem State.enter_changes {site inPort : Nat} {p : Packet} : ChangesOnly netParts s (s.enter site inPort p).1 :=
  (State.counted_changes.trans (State.emits_changes (by decide))).trans State.commitRouter_changes

theorem State.window_changes {src unit n maxp : Nat} {data : Bool} (e : s.window src unit n maxp data = some t) :
    ChangesOnly netParts s t := by
  unfold State.window at e
  dsimp only at e
  split at e
  · split at e
    · contradiction
    · exact Option.some.inj e ▸ .refl _ _
  · split at e
    · contradiction
    · split at e
      · exact Option.some.inj e ▸ State.modDelta_changes (by decide)
      · contradiction

theorem State.mayEnter_changes {site port : Nat} {q : Packet} (e : s.mayEnter site port q = some t) : ChangesOnly netParts s t := by
  unfold State.mayEnter at e
  split at e
  · contradiction
  · obtain ⟨v, hv, rfl⟩ := Option.map_eq_some_iff.mp e
    exact (State.window_changes hv).trans (State.modDelta_changes (by decide))

theorem State.sendCtl_changes {site : Nat} {p : Packet} : ChangesOnly netParts s (s.sendCtl site p) := by
  have flits : ∀ {v : State} {site port : Nat} {p : Packet}, ChangesOnly netParts v (v.unitFlits site port p) :=
    .ite (fun _ => State.sendFlits_changes) fun _ => .refl _ _
  have dropped : ∀ {k}, ChangesOnly netParts s (s.dropped site k) := State.modDelta_changes (by decide)
  unfold State.sendCtl
  split
  · exact State.enter_changes
  · dsimp only
    split
    · split
      · next e => exact ((State.mayEnter_changes e).trans flits).trans State.enter_changes
      · exact State.modDelta_changes (by decide)
    · exact dropped
    · exact dropped

theorem State.portDown_changes {site port : Nat} : ChangesOnly netParts s (s.portDown site port) :=
  ((State.commitRouter_changes.trans (State.modDelta_changes (by decide))).trans (State.raise_changes (by decide))).trans
    (.foldl fun _ _ => State.sendCtl_changes.trans (State.raise_changes (by decide)))

/-! Votes, levels and turn lists -/

theorem State.toEntries_changes {kind : Nat} {ws : List Nat} (h : .out ∈ ps) : ChangesOnly ps s (s.toEntries kind ws) := by
  unfold State.toEntries
  split
  · exact .refl _ _
  · exact State.emits_changes h

theorem State.castBallot_changes : ChangesOnly [.cnf, .out] s s.castBallot := by
  unfold State.castBallot
  split
  · exact (State.modCnf_changes (by decide)).trans (State.toEntries_changes (by decide))
  · exact .refl _ _

theorem State.openVote_changes {a : Nat} {accuse : Bool} : ChangesOnly [.cnf, .out] s (s.openVote a accuse) :=
  ((State.modCnf_changes (by decide)).trans (.ite (fun _ => State.toEntries_changes (by decide)) fun _ => .refl _ _)).trans
    State.castBallot_changes

/-- 14 R411, R423: a request for a vote changes the Confluence state alone, and what the panel sends. -/
theorem State.askVote_changes {bits : Nat} : ChangesOnly [.cnf, .out] s (s.askVote bits) := by
  have asks : ∀ {f : Confluence → Confluence}, ChangesOnly [.cnf, .out] s (s.modCnf f) := State.modCnf_changes (by decide)
  unfold State.askVote
  refine .ite (fun _ => .refl _ _) fun _ => ?_
  split
  · exact asks.trans State.openVote_changes
  · exact .ite (fun _ => asks.trans State.castBallot_changes) fun _ => asks

theorem State.setLevel_changes {l : Option Nat} : ChangesOnly [.boot, .out] s (s.setLevel l) :=
  .ite (fun _ => .refl _ _) fun _ => (State.modBoot_changes (by decide)).trans (State.emits_changes (by decide))

theorem State.relevel_changes : ChangesOnly [.boot, .out] s s.relevel := by
  have stops : ChangesOnly [.boot, .out] s ((s.setLevel (some 0)).modBoot fun b => { b with stopped := true }) :=
    State.setLevel_changes.trans (State.modBoot_changes (by decide))
  unfold State.relevel
  refine .ite (fun _ => .refl _ _) fun _ => ?_
  split
  · exact .ite (fun _ => stops) fun _ => .ite (fun _ => .refl _ _) fun _ => State.setLevel_changes
  · exact .ite (fun _ => stops) fun _ => .ite (fun _ => State.setLevel_changes) fun _ => .refl _ _
  · exact .refl _ _

theorem State.takeover_changes : ChangesOnly [.fw, .out] s s.takeover :=
  (State.modFw_changes (by decide)).trans (State.emits_changes (by decide))

theorem State.setLists_changes {site port : Nat} : ChangesOnly [.lev] s (s.setLists site port) :=
  (State.modLev_changes (by decide)).trans (State.modLev_changes (by decide))

theorem State.braidsFollow_changes {g0 : Gaz} : ChangesOnly [.lev, .delta] s (s.braidsFollow g0) :=
  (State.modLev_changes (by decide)).trans
    (.foldl fun _ _ => (State.setLists_changes.mono (by decide)).trans (State.modDelta_changes (by decide)))

theorem State.portsFollow_changes : ChangesOnly [.delta] s s.portsFollow :=
  .foldl fun _ _ => ChangesOnly.trans (.foldl fun _ _ => .ite (fun _ => .refl _ _) fun _ => State.modDelta_changes (by decide))
    (.foldl fun _ _ => State.modDelta_changes (by decide))

theorem State.watchLow_changes {b : Nat} {hi : Bool} : ChangesOnly [.lev, .out] s (s.watchLow b hi) :=
  .ite (fun _ => .ite (fun _ => .refl _ _) fun _ => (State.modLev_changes (by decide)).trans (State.emit_changes (by decide)))
    fun _ => .refl _ _

end Sys2Proof.Machine
end

section
/-!
SUPPORT. What follows a change of the Gazetteer: the units, the log and the level, said once for every change set.
-/
namespace Sys2Proof.Machine

variable {s t u : State} {g h k : Gaz}

/-! 23 R605, 01 R41: the counting of faults -/

/-- The Gazetteer `h` is `g` with other counts of faults in the records of its sites. -/
def Gaz.FaultsCounted (g h : Gaz) : Prop :=
  (∃ ss, h = { g with sites := ss }) ∧ ∀ x, ∃ n, h.site x = { g.site x with faults := n }

theorem Gaz.FaultsCounted.refl (g : Gaz) : g.FaultsCounted g := ⟨⟨g.sites, rfl⟩, fun x => ⟨(g.site x).faults, rfl⟩⟩

theorem Gaz.FaultsCounted.trans (a : g.FaultsCounted h) (b : h.FaultsCounted k) : g.FaultsCounted k := by
  obtain ⟨⟨ss, rfl⟩, hs⟩ := a
  obtain ⟨⟨ss', rfl⟩, hs'⟩ := b
  refine ⟨⟨ss', rfl⟩, fun x => ?_⟩
  obtain ⟨n, hn⟩ := hs x
  obtain ⟨m, hm⟩ := hs' x
  exact ⟨m, by rw [hm, hn]⟩

theorem Gaz.countFault_faultsCounted (unit : Nat) : g.FaultsCounted (g.countFault unit) := by
  unfold Gaz.countFault
  split
  · refine ⟨⟨_, rfl⟩, fun x => ?_⟩
    by_cases hx : x = unit
    · subst hx; exact ⟨_, Tbl.get_set_same ..⟩
    · exact ⟨(g.site x).faults, Tbl.get_set_other _ _ _ hx⟩
  · exact .refl g

/-! 01 R37: what the units do after a change of the Gazetteer -/

/-- The parts that a change of the Gazetteer may reach. -/
def gazParts : List Part := [.clusters, .hbm, .gaz, .delta, .lev, .larre, .cnf, .fw, .boot, .pwr, .log, .diag, .out]

/-- The panel `t` is the panel `s` after consequences of a change of the Gazetteer: every steered column stays, no domain comes on, and
of the Gazetteer the counts of faults alone may have changed. -/
structure State.Follows (s t : State) : Prop where
  only : ChangesOnly gazParts s t
  steer : ∀ c, (t.cl c).spd.steer = (s.cl c).spd.steer
  off : ∀ c, (s.pwr.dom c).state = 0 → (t.pwr.dom c).state = 0
  gaz : s.gaz.FaultsCounted t.gaz

namespace State.Follows

theorem refl (s : State) : s.Follows s := ⟨.refl _ s, fun _ => rfl, fun _ h => h, .refl _⟩

theorem trans (a : s.Follows t) (b : t.Follows u) : s.Follows u :=
  ⟨a.only.trans b.only, fun c => (b.steer c).trans (a.steer c), fun c hc => b.off c (a.off c hc), a.gaz.trans b.gaz⟩

theorem foldl {β : Type} {f : State → β → State} {l : List β} (hf : ∀ s x, Follows s (f s x)) : s.Follows (l.foldl f s) :=
  List.foldlRecOn l f (refl s) fun _ h x _ => h.trans (hf _ x)

theorem ite {b : Prop} [Decidable b] (ht : s.Follows t) (hu : s.Follows u) : s.Follows (if b then t else u) := by
  split
  · exact ht
  · exact hu

/-- What changes neither clusters, domains nor Gazetteer is such a consequence. -/
theorem of_changes {ps : List Part} (h : ChangesOnly ps s t) (hp : ps ⊆ gazParts) (hc : .clusters ∉ ps) (hd : .pwr ∉ ps) (hg : .gaz ∉ ps) :
    s.Follows t := by
  have ec : t.clusters = s.clusters := h .clusters hc
  have ed : t.pwr = s.pwr := h .pwr hd
  have eg : t.gaz = s.gaz := h .gaz hg
  exact ⟨h.mono hp, fun c => by simp only [State.cl, ec], fun c => by rw [ed]; exact id, eg ▸ .refl _⟩

end State.Follows

@[simp] theorem Power.dom_modDom_same (p : Power) (c : Nat) (f : Dom → Dom) : (p.modDom c f).dom c = f (p.dom c) := Tbl.get_mod_same ..
theorem Power.dom_modDom_other (p : Power) {c d : Nat} (f : Dom → Dom) (h : d ≠ c) : (p.modDom c f).dom d = p.dom d := Tbl.get_mod_other _ _ _ h
@[simp] theorem Power.dom_dropToken (p : Power) (c d : Nat) : (p.dropToken c).dom d = p.dom d := rfl

/-- 01 R33: a core that goes off keeps its steered columns; its domain stays off where it was. -/
theorem State.coreOff_follows {c : Nat} {f : Dom → Dom} (hf : ∀ d : Dom, d.state = 0 → (f d).state = 0) :
    s.Follows ((s.setCl c (s.cl c).kept).modPwr fun p => (p.dropToken c).modDom c f) := by
  refine ⟨ChangesOnly.trans (State.setCl_changes (by decide)) (State.modPwr_changes (by decide)), fun d => ?_, fun d hd => ?_, .refl _⟩
  · by_cases h : d = c
    · subst h; simp [Cluster.kept]
    · simp [h]
  · by_cases h : d = c
    · subst h; simpa using hf _ hd
    · simpa [Power.dom_modDom_other _ _ h] using hd

theorem State.askVote_follows {bits : Nat} : s.Follows (s.askVote bits) :=
  .of_changes State.askVote_changes (by decide) (by decide) (by decide) (by decide)

theorem State.unitsFollow_follows (g0 : Gaz) : s.Follows (s.unitsFollow g0) := by
  have ports : ∀ (s : State) (l : List (Nat × Nat)), s.Follows (l.foldl (fun s (x, p) => s.portDown x p) s) := fun s l =>
    .foldl fun _ _ => .of_changes State.portDown_changes (by decide) (by decide) (by decide) (by decide)
  have larre : ∀ (s : State) (f : Larre → Larre), s.Follows (s.modLarre f) := fun s f =>
    .of_changes (State.modLarre_changes (ps := [.larre]) (by decide)) (by decide) (by decide) (by decide) (by decide)
  have delta : ∀ (s : State) (f : Delta → Delta), s.Follows (s.modDelta f) := fun s f =>
    .of_changes (State.modDelta_changes (ps := [.delta]) (by decide)) (by decide) (by decide) (by decide) (by decide)
  unfold State.unitsFollow
  extract_lets g offs s1 pts s2 engs s3 s4 s5 stks s6 mirrored s7 gone policy s8 s9 s10 outOf
  have h1 : s.Follows s1 := .foldl fun _ _ => (State.coreOff_follows fun d hd => by simp [hd]).trans (delta _ _)
  have h2 : s1.Follows s2 := ports _ _
  have h3 : s2.Follows s3 := .foldl fun _ _ => larre _ _
  have h4 : s3.Follows s4 := .foldl fun _ _ => larre _ _
  have h5 : s4.Follows s5 := .foldl fun _ _ => .ite (larre _ _) (.refl _)
  have h6 : s5.Follows s6 := .foldl fun _ _ =>
    .of_changes (State.modStk_changes (ps := [.hbm]) (by decide)) (by decide) (by decide) (by decide) (by decide)
  have h7 : s6.Follows s7 := .ite State.askVote_follows (.refl _)
  have h8 : s7.Follows s8 := .ite State.askVote_follows (.refl _)
  have h9 : s8.Follows s9 := .of_changes State.braidsFollow_changes (by decide) (by decide) (by decide) (by decide)
  have h10 : s9.Follows s10 := .ite (delta _ _) (.refl _)
  refine (((((((((h1.trans h2).trans h3).trans h4).trans h5).trans h6).trans h7).trans h8).trans h9).trans h10).trans (.ite ?_ (.refl _))
  exact .of_changes (State.modDiag_changes (ps := [.diag]) (by decide)) (by decide) (by decide) (by decide) (by decide)

theorem State.raiseAs_follows {source : Nat} {code : FCode} {unit sub detail : Nat} : s.Follows (s.raiseAs source code unit sub detail) := by
  refine ⟨fun p hp => ?_, fun _ => rfl, fun _ h => h, ?_⟩
  · cases p <;> simp_all [gazParts, Part.same, State.raiseAs]
  · unfold State.raiseAs
    dsimp only
    split
    · exact Gaz.countFault_faultsCounted unit
    · exact .refl _

/-! 01 R34: one change set -/

/-- The Gazetteer that a change set enters: `f` with its consequences, the generation, the history, and the last complete generation where an
edition is owed. -/
def State.changeSet (s : State) (f : Gaz → Gaz) : Gaz :=
  let g0 := s.gaz
  let g1 := f { g0 with history := [] }
  let active := g1.surveyor s.fw.active
  let g2 := g1.commit s.mcount active
  let owed := g2.owed || g0.moved g2
  { g2 with history := keptHistory (g2.history ++ g0.history), owed := owed
            old := if owed then some (g0.old.getD g0.toGazBody) else none }

/-- R34, R37, R602: a change set enters its Gazetteer; its units, the log, the level and the NOTIFY follow. -/
theorem State.applyGaz_follows (f : Gaz → Gaz) : (s.modGaz fun _ => s.changeSet f).Follows (s.applyGaz f) := by
  unfold State.changeSet State.applyGaz
  extract_lets g0 g1 active g2 owed s0 news g s1 s2 newFlags s3
  change (s.modGaz fun _ => g).Follows _
  have h0 : ∀ g : Gaz, (s.modGaz fun _ => g).Follows { s0 with gaz := g } := fun g => by
    by_cases ha : active = s.fw.active
    · rw [show s0 = s from if_pos ha]; exact .refl _
    · rw [show s0 = s.takeover from if_neg ha]
      exact .of_changes (t := (s.modGaz fun _ => g).takeover) State.takeover_changes (by decide) (by decide) (by decide) (by decide)
  have hl : ({ s0 with gaz := g } : State).Follows (({ s0 with gaz := g } : State).modLog fun l => { l with imgGen := l.imgGen + 1 }) :=
    .of_changes (State.modLog_changes (ps := [.log]) (by decide)) (by decide) (by decide) (by decide) (by decide)
  have h1 := ((h0 g).trans hl).trans (State.unitsFollow_follows g0)
  have h2 : s1.Follows s2 := .foldl fun _ _ => State.raiseAs_follows
  have h3 : s2.Follows s3 := .foldl fun _ _ => State.raiseAs_follows
  have h4 : s3.Follows ((s3.notifyAll 0x8001 0x3001).relevel) := .of_changes (ps := [.boot, .out])
    (ChangesOnly.trans (State.emits_changes (by decide)) State.relevel_changes) (by decide) (by decide) (by decide) (by decide)
  exact ((h1.trans h2).trans h3).trans h4

end Sys2Proof.Machine
end

section
/-!
SUPPORT. What a change of one unit, the leaving of a site and the maskings of an edition do to the Gazetteer.
-/
namespace Sys2Proof.Machine

variable {g h k : Gaz} {V : GUnit → Prop}

/-! 01 R45: the status of a unit after a change -/

theorem Gaz.status_putStatus (g : Gaz) (u v : GUnit) (st rs : Nat) : (g.putStatus u st rs).status v = if v = u then st else g.status v := by
  cases u <;> cases v <;> simp [Gaz.putStatus, Gaz.status, Gaz.site, Gaz.cluster, Gaz.stack, Gaz.engine, Gaz.braid, Tbl.get_set, Fin.ext_iff] <;>
    split <;> rfl

theorem Gaz.reason_putStatus (g : Gaz) (u v : GUnit) (st rs : Nat) : (g.putStatus u st rs).reason v = if v = u then rs else g.reason v := by
  cases u <;> cases v <;> simp [Gaz.putStatus, Gaz.reason, Gaz.site, Gaz.cluster, Gaz.stack, Gaz.engine, Gaz.braid, Tbl.get_set, Fin.ext_iff] <;>
    split <;> rfl

@[simp] theorem Gaz.gen_putStatus (g : Gaz) (u : GUnit) (st rs : Nat) : (g.putStatus u st rs).gen = g.gen := by cases u <;> rfl
@[simp] theorem Gaz.act_putStatus (g : Gaz) (u : GUnit) (st rs : Nat) : (g.putStatus u st rs).act = g.act := by cases u <;> rfl
@[simp] theorem Gaz.history_putStatus (g : Gaz) (u : GUnit) (st rs : Nat) : (g.putStatus u st rs).history = g.history := by cases u <;> rfl

/-- The Gazetteer `h` has the generation and the activation of `g`, and of every unit of `V` the status and the reason. -/
structure Gaz.Same (V : GUnit → Prop) (g h : Gaz) : Prop where
  gen : h.gen = g.gen
  act : h.act = g.act
  status : ∀ v, V v → h.status v = g.status v
  reason : ∀ v, V v → h.reason v = g.reason v

theorem Gaz.Same.refl (V : GUnit → Prop) (g : Gaz) : Gaz.Same V g g := ⟨rfl, rfl, fun _ _ => rfl, fun _ _ => rfl⟩

theorem Gaz.Same.trans (a : Gaz.Same V g h) (b : Gaz.Same V h k) : Gaz.Same V g k :=
  ⟨b.gen.trans a.gen, b.act.trans a.act, fun v hv => (b.status v hv).trans (a.status v hv), fun v hv => (b.reason v hv).trans (a.reason v hv)⟩

theorem Gaz.Same.foldl {β : Type} {f : Gaz → β → Gaz} {l : List β} (hf : ∀ h, Gaz.Same V g h → ∀ x ∈ l, Gaz.Same V h (f h x)) :
    Gaz.Same V g (l.foldl f g) :=
  List.foldlRecOn l f (refl V g) fun h hh x hx => hh.trans (hf h hh x hx)

theorem Gaz.putStatus_same {u : GUnit} {st rs : Nat} (h : ¬ V u) : Gaz.Same V g (g.putStatus u st rs) := by
  have ne : ∀ v, V v → v ≠ u := fun v hv e => h (e ▸ hv)
  exact ⟨by simp, by simp, fun v hv => by simp [Gaz.status_putStatus, ne v hv], fun v hv => by simp [Gaz.reason_putStatus, ne v hv]⟩

theorem Gaz.note_same {e : HistEntry} : Gaz.Same V g (g.note e) :=
  ⟨rfl, rfl, fun v _ => by cases v <;> rfl, fun v _ => by cases v <;> rfl⟩

theorem Gaz.change_same {now src st rs rep : Nat} {u : GUnit} (h : ¬ V u) : Gaz.Same V g (g.change now src u st rs rep) := by
  unfold Gaz.change
  split
  · exact .refl V g
  · exact (Gaz.putStatus_same h).trans Gaz.note_same

theorem Gaz.follow_same {now src st : Nat} {u : GUnit} (h : ¬ V u) : Gaz.Same V g (g.follow now src u st) := by
  unfold Gaz.follow
  split
  · exact .refl V g
  · exact (Gaz.putStatus_same h).trans Gaz.note_same

/-- R45: a unit changed has its new status and reason; the generation and the activation stay. -/
theorem Gaz.change_status {now src st rs rep : Nat} {u : GUnit} (h : g.status u ≠ st) :
    (g.change now src u st rs rep).status u = st ∧ (g.change now src u st rs rep).reason u = rs ∧
      (g.change now src u st rs rep).gen = g.gen ∧ (g.change now src u st rs rep).act = g.act := by
  have n : Gaz.Same (· = u) (g.putStatus u st rs) ((g.putStatus u st rs).note
      ⟨now, gunitKind u, if st = 0 ∧ rs = 10 then 4 else 0, gunitNum u, 0, g.status u, st, rs, src, if st = 0 ∧ rs = 10 then rep else 0⟩) :=
    Gaz.note_same
  rw [Gaz.change, if_neg h, n.status u rfl, n.reason u rfl, n.gen, n.act]
  simp [Gaz.status_putStatus, Gaz.reason_putStatus]

/-! 01 R26, R37: what a change leaves as it was -/

/-- Every unit of `V` is a site or a stack that is not in service. -/
def Gaz.Out (g : Gaz) (V : GUnit → Prop) : Prop := ∀ v, V v → g.status v ≠ 0 ∧ ((∃ x, v = .site x) ∨ ∃ k, v = .stack k)

theorem Gaz.out_site {x : SiteId} (h : g.status (.site x) ≠ 0) : g.Out (· = .site x) := by rintro _ rfl; exact ⟨h, .inl ⟨x, rfl⟩⟩
theorem Gaz.out_stack {k : StackId} (h : g.status (.stack k) ≠ 0) : g.Out (· = .stack k) := by rintro _ rfl; exact ⟨h, .inr ⟨k, rfl⟩⟩

theorem Gaz.Same.out (a : Gaz.Same V g h) (o : g.Out V) : h.Out V := fun v hv => ⟨a.status v hv ▸ (o v hv).1, (o v hv).2⟩

theorem Gaz.Out.not_cluster (o : g.Out V) (c : ClusterId) : ¬ V (.cluster c) := fun hv => by simpa using (o _ hv).2
theorem Gaz.Out.not_engine (o : g.Out V) (n : EngineId) : ¬ V (.engine n) := fun hv => by simpa using (o _ hv).2
theorem Gaz.Out.not_braid (o : g.Out V) (b : BraidId) : ¬ V (.braid b) := fun hv => by simpa using (o _ hv).2

/-- The unit of a number, where it is one, is none of `V` when no unit of its kind is. -/
theorem Gaz.not_of_numbered {n : Nat} {K : Fin n → GUnit} (hK : ∀ i, ¬ V (K i)) {c : Nat} {u : GUnit}
    (e : (if h : c < n then some (K ⟨c, h⟩) else none) = some u) : ¬ V u := by
  split at e
  · exact Option.some.inj e ▸ hK _
  · contradiction

/-- R37: the consequences of a site's leaving touch no other site and no stack that is out of service. -/
theorem Gaz.siteLeaves_same (now src st rs : Nat) (x : SiteId) (o : (g.change now src (.site x) st rs).Out V) :
    Gaz.Same V (g.change now src (.site x) st rs) (g.siteLeaves now src x st rs) := by
  unfold Gaz.siteLeaves
  extract_lets put g1 g2 braids g3 g4 k
  have put_same : ∀ (h : Gaz) (u : Option GUnit), (∀ w, u = some w → ¬ V w) → Gaz.Same V h (put h u) := fun h u hu => by
    cases u with
    | none => exact .refl V h
    | some w => exact Gaz.follow_same (hu w rfl)
  have e1 : g.change now src (.site x) st rs = g1 := by simp only [g1, x.isLt, dite_true]
  rw [e1] at o ⊢
  have h2 : Gaz.Same V g1 g2 := .foldl fun h _ c _ => by
    split
    · exact .refl V h
    · exact put_same h _ fun _ => Gaz.not_of_numbered o.not_cluster
  have h3 : Gaz.Same V g2 g3 := .foldl fun h _ b _ => by
    dsimp only
    split
    · exact .refl V h
    · exact put_same h _ fun _ => Gaz.not_of_numbered o.not_braid
  have h4 : Gaz.Same V g3 g4 := by
    simp only [g4]
    split
    · split
      · exact .refl V g3
      · exact put_same g3 _ fun _ => Gaz.not_of_numbered o.not_engine
    · exact .refl V g3
  have h14 := (h2.trans h3).trans h4
  refine h14.trans ?_
  split
  · exact .refl V g4
  · next hk =>
    split
    · next u e =>
      split at e
      · obtain rfl := Option.some.inj e
        exact Gaz.change_same fun hv => (h14.out o _ hv).1 (of_not_not fun h => hk (.inr h))
      · contradiction
    · exact .refl V g4

/-- 09 R275: the maskings of an edition touch stacks in service and engines alone. -/
theorem Gaz.maskCut_same (now : Nat) (hk : ∀ k, V (.stack k) → (g.stack k).status ≠ 0) (he : ∀ n, ¬ V (.engine n)) :
    Gaz.Same V g (g.maskCut now) := by
  unfold Gaz.maskCut
  extract_lets g1
  have h1 : Gaz.Same V g g1 := .foldl fun h _ k hm => by
    have hin := List.of_mem_filter hm
    simp only [Bool.and_eq_true, beq_iff_eq] at hin
    exact Gaz.change_same fun hv => hk k hv hin.1
  exact h1.trans (.foldl fun h _ n _ => Gaz.change_same (he n))

theorem Gaz.maskUnreached_same (now active : Nat) (o : g.Out V) : Gaz.Same V g (g.maskUnreached now active) := by
  unfold Gaz.maskUnreached
  extract_lets kept
  have h1 : Gaz.Same V g ((g.sitesIn.filter fun s => !kept.contains s).foldl (fun g s => g.siteLeaves now 3 s 1 8) g) :=
    .foldl fun h hh x hx => by
      have hin := List.mem_filter.1 (List.mem_filter.1 hx).1
      have hlt : x < 192 := List.mem_range.1 hin.1
      have hne : ¬ V (.site ⟨x, hlt⟩) := fun hv => (o _ hv).1 (by simpa [Gaz.siteIn, Gaz.status] using hin.2)
      have hc : Gaz.Same V h (h.change now 3 (.site ⟨x, hlt⟩) 1 8) := Gaz.change_same hne
      exact hc.trans (Gaz.siteLeaves_same now 3 1 8 ⟨x, hlt⟩ (hc.out (hh.out o)))
  exact h1.trans (Gaz.maskCut_same now (fun k hv => (h1.out o _ hv).1) (h1.out o).not_engine)

/-! 09 R275: where every site in service is reached -/

theorem Gaz.spread_nil (g : Gaz) (n : Nat) : g.spread [] n = [] := by cases n <;> simp [Gaz.spread]

theorem Gaz.dieSites_lt {d x : Nat} (h : x ∈ dieSites d) : x < 192 := by
  unfold dieSites at h
  split at h
  · simp at h; omega
  · split at h
    · simp at h; omega
    · split at h <;> simp at h <;> omega

/-- Where every site in service is in the part that Surveyor `active` keeps, that Surveyor stays. -/
theorem Gaz.surveyor_of_kept {active : Nat} (hk : ∀ y ∈ g.sitesIn, y ∈ g.kept active) : g.surveyor active = active := by
  unfold Gaz.surveyor
  by_cases ha : (dieSites active).any g.siteIn = true
  · simp [ha]
  · have hnone : (dieSites active).filter g.siteIn = [] := by simpa using ha
    have hout : (dieSites (1 - active)).any g.siteIn = false := by
      rw [List.any_eq_false]
      intro x hx hin
      have := hk x (List.mem_filter.2 ⟨List.mem_range.2 (Gaz.dieSites_lt hx), hin⟩)
      rw [Gaz.kept, hnone, Gaz.spread_nil] at this
      exact List.not_mem_nil this
    simp [hout]

/-- R275: no site is masked then. -/
theorem Gaz.maskUnreached_of_kept {now active : Nat} (hk : ∀ y ∈ g.sitesIn, y ∈ g.kept active) : g.maskUnreached now active = g.maskCut now := by
  have : (g.sitesIn.filter fun s => !(g.kept active).contains s) = [] := by simpa using hk
  simp only [Gaz.maskUnreached, this, List.foldl_nil]

/-! 01 R45: the history of a change -/

/-- The history of `h` is that of `g` with at most `n` newer entries. -/
def Gaz.Noted (n : Nat) (g h : Gaz) : Prop := ∃ new, new.length ≤ n ∧ h.history = new ++ g.history

theorem Gaz.change_noted {now src st rs rep : Nat} {u : GUnit} : Gaz.Noted 1 g (g.change now src u st rs rep) := by
  unfold Gaz.change
  split
  · exact ⟨[], by simp⟩
  · exact ⟨[_], Nat.le_refl 1, congrArg (List.cons _) (g.history_putStatus u st rs)⟩

theorem Gaz.Noted.trans {m n : Nat} (a : Gaz.Noted m g h) (b : Gaz.Noted n h k) : Gaz.Noted (m + n) g k := by
  obtain ⟨x, hx, ex⟩ := a
  obtain ⟨y, hy, ey⟩ := b
  exact ⟨y ++ x, by simp; omega, by simp [ex, ey]⟩

theorem Gaz.Noted.foldl {β : Type} {f : Gaz → β → Gaz} (hf : ∀ g x, Gaz.Noted 1 g (f g x)) :
    ∀ (l : List β) (g : Gaz), Gaz.Noted l.length g (l.foldl f g)
  | [], _ => ⟨[], by simp⟩
  | x :: l, g => by
    obtain ⟨new, hn, e⟩ := (hf g x).trans (foldl hf l (f g x))
    exact ⟨new, by simp; omega, e⟩

/-- 09 R275: at most every stack and every engine is masked. -/
theorem Gaz.maskCut_noted (now : Nat) : Gaz.Noted 84 g (g.maskCut now) := by
  obtain ⟨new, hn, e⟩ := (Gaz.Noted.foldl (fun g k => Gaz.change_noted) _ g).trans (Gaz.Noted.foldl (fun g n => Gaz.change_noted) _ _)
  have hs := (List.finRange 48).length_filter_le fun (k : StackId) => (g.stack k).status == 0 && !(homeSites k).any g.memLink
  refine ⟨new, hn.trans ((Nat.add_le_add hs (List.length_filter_le _ _)).trans ?_), e⟩
  simp

/-- R40: the newest 4,096 field entries and every assembly entry are kept. -/
theorem mem_keptHistory {new old : List HistEntry} {e : HistEntry} (hn : new.length < 4096) : e ∈ keptHistory (new ++ e :: old) := by
  unfold keptHistory
  by_cases he : e.source = 0
  · simp [he]
  · refine List.mem_append_left _ ?_
    have hl : (new.filter fun e => e.source != 0).length < 4096 := (List.length_filter_le _ _).trans_lt hn
    simp [List.filter_append, he, List.take_append, show 4096 - (new.filter fun e => e.source != 0).length =
      (4095 - (new.filter fun e => e.source != 0).length) + 1 by omega]

end Sys2Proof.Machine
end

section
/-!
SUPPORT. The Gazetteer that a change set leaves, read off by field.
-/
namespace Sys2Proof.Machine

variable {s t : State} {g h : Gaz} {v : GUnit} {f : Gaz → Gaz}

/-! What the counting of faults leaves -/

namespace Gaz.FaultsCounted

theorem gen (a : g.FaultsCounted h) : h.gen = g.gen := by obtain ⟨⟨_, rfl⟩, -⟩ := a; rfl
theorem changedAt (a : g.FaultsCounted h) : h.changedAt = g.changedAt := by obtain ⟨⟨_, rfl⟩, -⟩ := a; rfl
theorem act (a : g.FaultsCounted h) : h.act = g.act := by obtain ⟨⟨_, rfl⟩, -⟩ := a; rfl
theorem history (a : g.FaultsCounted h) : h.history = g.history := by obtain ⟨⟨_, rfl⟩, -⟩ := a; rfl
theorem site (a : g.FaultsCounted h) (x : Nat) : ∃ n, h.site x = { g.site x with faults := n } := a.2 x

theorem status (a : g.FaultsCounted h) : h.status v = g.status v := by
  cases v with
  | site x => obtain ⟨n, e⟩ := a.2 x; simp [Gaz.status, e]
  | cluster | stack | engine | braid => obtain ⟨⟨_, rfl⟩, -⟩ := a; rfl

theorem reason (a : g.FaultsCounted h) : h.reason v = g.reason v := by
  cases v with
  | site x => obtain ⟨n, e⟩ := a.2 x; simp [Gaz.reason, e]
  | cluster | stack | engine | braid => obtain ⟨⟨_, rfl⟩, -⟩ := a; rfl

end Gaz.FaultsCounted

/-! 01 R34: the Gazetteer that a change set leaves -/

/-- The Gazetteer that a change set `f` itself leaves, its consequences for what is unreached to come. -/
def State.asked (s : State) (f : Gaz → Gaz) : Gaz := f { s.gaz with history := [] }

theorem State.asked_eq : s.asked f = f (s.asked id) := rfl

/-- The Gazetteer with what a change set leaves unreached masked (09 R275). -/
def State.masked (s : State) (f : Gaz → Gaz) : Gaz := (s.asked f).maskUnreached s.mcount ((s.asked f).surveyor s.fw.active)

theorem State.changeSet_gen : (s.changeSet f).gen = (s.masked f).gen + 1 := by simp only [State.changeSet, Gaz.commit, State.asked, State.masked]
theorem State.changeSet_changedAt : (s.changeSet f).changedAt = s.mcount := by simp only [State.changeSet, Gaz.commit]
theorem State.changeSet_act : (s.changeSet f).act = (s.masked f).act := by simp only [State.changeSet, Gaz.commit, State.asked, State.masked]
theorem State.changeSet_history : (s.changeSet f).history = keptHistory ((s.masked f).history ++ s.gaz.history) := by
  simp only [State.changeSet, Gaz.commit, State.asked, State.masked]
theorem State.changeSet_site (x : Nat) : (s.changeSet f).site x = (s.masked f).site x := by
  simp only [State.changeSet, Gaz.commit, Gaz.site, State.asked, State.masked]
theorem State.changeSet_status : (s.changeSet f).status v = (s.masked f).status v := by
  cases v <;> simp only [State.changeSet, Gaz.commit, Gaz.status, Gaz.site, Gaz.cluster, Gaz.stack, Gaz.engine, Gaz.braid, State.asked, State.masked]
theorem State.changeSet_reason : (s.changeSet f).reason v = (s.masked f).reason v := by
  cases v <;> simp only [State.changeSet, Gaz.commit, Gaz.reason, Gaz.site, Gaz.cluster, Gaz.stack, Gaz.engine, Gaz.braid, State.asked, State.masked]

/-- After a change set the Gazetteer is what it entered, faults counted. -/
theorem State.applyGaz_gaz (s : State) (f : Gaz → Gaz) : (s.changeSet f).FaultsCounted (s.applyGaz f).gaz := (State.applyGaz_follows f).gaz

theorem State.applyGaz_gen : (s.applyGaz f).gaz.gen = (s.masked f).gen + 1 := (s.applyGaz_gaz f).gen.trans State.changeSet_gen
theorem State.applyGaz_changedAt : (s.applyGaz f).gaz.changedAt = s.mcount := (s.applyGaz_gaz f).changedAt.trans State.changeSet_changedAt
theorem State.applyGaz_history : (s.applyGaz f).gaz.history = keptHistory ((s.masked f).history ++ s.gaz.history) :=
  (s.applyGaz_gaz f).history.trans State.changeSet_history
theorem State.applyGaz_status : (s.applyGaz f).gaz.status v = (s.masked f).status v := (s.applyGaz_gaz f).status.trans State.changeSet_status
theorem State.applyGaz_reason : (s.applyGaz f).gaz.reason v = (s.masked f).reason v := (s.applyGaz_gaz f).reason.trans State.changeSet_reason
theorem State.applyGaz_steer (c : Nat) : ((s.applyGaz f).cl c).spd.steer = (s.cl c).spd.steer := (State.applyGaz_follows f).steer c
theorem State.applyGaz_off {c : Nat} (h : (s.pwr.dom c).state = 0) : ((s.applyGaz f).pwr.dom c).state = 0 := (State.applyGaz_follows f).off c h
theorem State.applyGaz_lgd : (s.applyGaz f).lgd = s.lgd := (State.applyGaz_follows f).only .lgd (by decide)

/-- What a change set leaves out of service keeps the status and reason that the change set gave it. -/
theorem State.masked_same {V : GUnit → Prop} (o : (s.asked f).Out V) : Gaz.Same V (s.asked f) (s.masked f) := Gaz.maskUnreached_same _ _ o

/-! 01 R34, R45: a change set that masks no site -/

/-- Whether a site is in service, whether an edge is offered: all that decides which sites are reached (09 R275). -/
theorem Gaz.spread_congr (hs : ∀ x, h.siteIn x = g.siteIn x) (he : ∀ b, h.edgeUp b = g.edgeUp b) :
    ∀ (n : Nat) (l : List Nat), h.spread l n = g.spread l n
  | 0, _ => rfl
  | n + 1, l => by simp only [Gaz.spread, hs, he, Gaz.spread_congr hs he n]

theorem Gaz.edgeUp_of_history (es : List HistEntry) (b : Nat) : ({ g with history := es } : Gaz).edgeUp b = g.edgeUp b := by
  have hh : ({ g with history := es } : Gaz).halves = g.halves := rfl
  have he : ({ g with history := es } : Gaz).edgeHalves b = g.edgeHalves b := by simp only [Gaz.edgeHalves, Gaz.braid, hh]
  rw [Gaz.edgeUp, he, ← Gaz.edgeUp]

theorem Gaz.kept_of_history (es : List HistEntry) (active : Nat) : ({ g with history := es } : Gaz).kept active = g.kept active :=
  Gaz.spread_congr (h := { g with history := es }) (g := g) (fun _ => rfl) (Gaz.edgeUp_of_history es) 192 ((dieSites active).filter g.siteIn)

theorem Gaz.sitesIn_of_history (es : List HistEntry) : ({ g with history := es } : Gaz).sitesIn = g.sitesIn := rfl

/-- Where every site in service is reached, a change set masks no site. -/
theorem State.masked_of_kept (hk : ∀ y ∈ (s.asked f).sitesIn, y ∈ (s.asked f).kept s.fw.active) : s.masked f = (s.asked f).maskCut s.mcount := by
  rw [State.masked, Gaz.surveyor_of_kept hk, Gaz.maskUnreached_of_kept hk]

end Sys2Proof.Machine
end

section
/-!
SUPPORT. Units that leave service in one change set, and the events of one nanosecond.
-/
namespace Sys2Proof.Machine

variable {s t : State} {f : Gaz → Gaz}

/-! 01 R32: the transitions -/

/-- R32: a transition is to another status. -/
theorem transitionOk_ne {u : GUnit} {old oldReason new reason : Nat} {cold : Bool} (h : transitionOk u old oldReason new reason cold = true) :
    old ≠ new := by
  rintro rfl
  unfold transitionOk at h
  extract_lets at h
  simp only [show ¬ (old = 0 ∧ old = 1) by omega, show ¬ (old = 0 ∧ old = 4) by omega, show ¬ (old = 1 ∧ old = 0) by omega,
    show ¬ (old = 1 ∧ old = 4) by omega, show ¬ (old = 2 ∧ old = 0) by omega, show ¬ (old = 2 ∧ old = 4) by omega, if_false,
    Bool.false_eq_true] at h

/-- R32: an event whose reason is one of the causes of R31 brings no unit into service. -/
theorem transitionOk_leaves {u : GUnit} {old oldReason new reason : Nat} (h : transitionOk u old oldReason new reason false = true)
    (hr : reason ≤ 8) : new ≠ 0 := by
  rintro rfl
  have h9 : reason ≠ 9 := by omega
  have h10 : reason ≠ 10 := by omega
  simp [transitionOk, h9, h10] at h

/-! A unit that leaves service in one change set -/

/-- R34: a change set that puts a site or a stack out of service leaves it so, with the next generation and its time. -/
theorem State.applyGaz_out {v : GUnit} (o : (s.asked f).Out (· = v)) (hg : (s.asked f).gen = s.gaz.gen) :
    (s.applyGaz f).gaz.status v = (s.asked f).status v ∧ (s.applyGaz f).gaz.reason v = (s.asked f).reason v ∧
      (s.applyGaz f).gaz.gen = s.gaz.gen + 1 ∧ (s.applyGaz f).gaz.changedAt = s.mcount := by
  have h := State.masked_same o
  exact ⟨State.applyGaz_status.trans (h.status v rfl), State.applyGaz_reason.trans (h.reason v rfl), by rw [State.applyGaz_gen, h.gen, hg],
    State.applyGaz_changedAt⟩

theorem State.applyGaz_stackLeaves {src st rs : Nat} {k : StackId} (hne : (s.gaz.stack k).status ≠ st) (h0 : st ≠ 0) :
    let u := s.applyGaz fun g => g.leave s.mcount src (.stack k) st rs
    (u.gaz.stack k).status = st ∧ (u.gaz.stack k).reason = rs ∧ u.gaz.gen = s.gaz.gen + 1 ∧ u.gaz.changedAt = s.mcount := by
  obtain ⟨hs, hr, hg, -⟩ := Gaz.change_status (g := s.asked id) (now := s.mcount) (src := src) (rs := rs) (rep := 0)
    (u := .stack k) hne
  have h := State.applyGaz_out (s := s) (f := fun g => g.leave s.mcount src (.stack k) st rs) (v := .stack k)
    (Gaz.out_stack (hs.trans_ne h0)) hg
  exact ⟨h.1.trans hs, h.2.1.trans hr, h.2.2⟩

theorem State.applyGaz_siteLeaves {src st rs : Nat} {x : SiteId} (hne : (s.gaz.site x).status ≠ st) (h0 : st ≠ 0) :
    let u := s.applyGaz fun g => g.leave s.mcount src (.site x) st rs
    (u.gaz.site x).status = st ∧ (u.gaz.site x).reason = rs := by
  obtain ⟨hs, hr, hg, -⟩ := Gaz.change_status (g := s.asked id) (now := s.mcount) (src := src) (rs := rs) (rep := 0)
    (u := .site x) hne
  have hl := Gaz.siteLeaves_same (V := (· = .site x)) s.mcount src st rs x (Gaz.out_site (hs.trans_ne h0))
  have hls := (hl.status _ rfl).trans hs
  have h := State.applyGaz_out (s := s) (f := fun g => g.leave s.mcount src (.site x) st rs) (v := .site x)
    (Gaz.out_site (hls.trans_ne h0)) (hl.gen.trans hg)
  exact ⟨h.1.trans hls, h.2.1.trans ((hl.reason _ rfl).trans hr)⟩

/-! 01 R34: the events of one nanosecond -/

theorem execGazetteerChangeSet_one (e : GazEvent) : execGazetteerChangeSet [e] s = .next (s.gazEvent e) := rfl

/-- R34: two events are applied in the order of their keys, in whichever order they are given. -/
theorem changeSet_swap {e d : GazEvent} (h : GazEvent.key e < GazEvent.key d) :
    exec (.gazetteerChangeSet [d, e]) s = exec (.gazetteerChangeSet [e, d]) s := by
  have h' : ¬ GazEvent.key d < GazEvent.key e := by omega
  simp [execGazetteerChangeSet, insertEvent, h, h']

/-- R34: the event of a unit. -/
theorem State.gazEvent_unit {e : GazEvent} {w : GUnit} (hu : e.u = .unit w) : s.gazEvent e =
    if 8 < e.reason || !transitionOk w (s.gaz.status w) (s.gaz.reason w) e.status e.reason false then
      s.emit (.refused (subjectCode e.u) .statusRefused)
    else s.retireUnit e.source w e.status e.reason := by
  obtain ⟨u, st, rs, src⟩ := e; subst hu; rfl

/-- R297: the event of a lane. -/
theorem State.gazEvent_lane {e : GazEvent} {b : BraidId} {l : Fin 68} (hu : e.u = .lane b l) : s.gazEvent e =
    if e.status ≠ 4 || !(s.brd b).healthy l then s.emit (.refused (subjectCode e.u) .statusRefused) else s.loseLane e.source b l [] := by
  obtain ⟨u, st, rs, src⟩ := e; subst hu; rfl

/-- The panel with a column steered in the scratchpad of cluster `c` (08 R238). -/
def State.steered (s : State) (c : Nat) (r : Repair) : State :=
  s.setCl c { s.cl c with spd := { (s.cl c).spd with steer := (s.cl c).spd.steer ++ [r] } }

/-- R45: the entry that a steered column makes. -/
def State.columnEntry (s : State) (c : Nat) (r : Repair) (reason source : Nat) : HistEntry :=
  ⟨s.mcount, 6, 2, c, r.bank * 16 + r.sub, 0, 0, reason, source, r.col + fld 10 r.spare⟩

/-- 08 R238: the event of a column. -/
theorem State.gazEvent_column {e : GazEvent} {c : ClusterId} {bank : Fin 96} {sub : Fin 16} {col : Fin 576} {spare : Fin 4}
    (hu : e.u = .column c bank sub col spare) : s.gazEvent e =
    if (s.cl c).spd.steer.contains ⟨bank, sub, col, spare⟩ then s.emit (.refused (subjectCode e.u) .statusRefused)
    else (s.steered c ⟨bank, sub, col, spare⟩).applyGaz fun g => g.note (s.columnEntry c ⟨bank, sub, col, spare⟩ e.reason e.source) := by
  obtain ⟨u, st, rs, src⟩ := e; subst hu; rfl

/-- R45: an entry alone is noted: the next generation, and where every site in service is reached the entry stands in the history. -/
theorem State.applyGaz_note (e : HistEntry) : (s.applyGaz fun g => g.note e).gaz.gen = s.gaz.gen + 1 ∧
    ((∀ y ∈ s.gaz.sitesIn, y ∈ s.gaz.kept s.fw.active) → e ∈ (s.applyGaz fun g => g.note e).gaz.history) := by
  have hg : (s.masked fun g => g.note e).gen = s.gaz.gen := (State.masked_same (V := fun _ => False) fun _ hv => hv.elim).gen
  refine ⟨by rw [State.applyGaz_gen, hg], fun hk => ?_⟩
  have hk' : ∀ y ∈ (s.asked fun g => g.note e).sitesIn, y ∈ (s.asked fun g => g.note e).kept s.fw.active := fun y hy =>
    (Gaz.kept_of_history (g := s.gaz) [e] s.fw.active).symm ▸ hk y hy
  obtain ⟨new, hn, hh⟩ := Gaz.maskCut_noted (g := s.asked fun g => g.note e) s.mcount
  rw [State.applyGaz_history, State.masked_of_kept hk', hh, List.append_assoc]
  exact mem_keptHistory (by omega)

end Sys2Proof.Machine
end

section
/-!
SUPPORT. Expert status commands, and the site that a requested reserve replaces.
-/
namespace Sys2Proof.Machine

variable {s t : State}

/-! 01 R32, R35: the requests of clients -/

@[simp] theorem State.told_ok {unit : Nat} : s.told unit (.ok, t) = t := rfl
theorem State.told_refused {unit : Nat} {code : FCode} (h : code ≠ .ok) : s.told unit (code, t) = s.emit (.refused unit code) := if_neg h

/-- R32: an expert command that the transitions do not allow is refused. -/
theorem State.expertStatus_refused {u : GUnit} {st : Nat} (h : transitionOk u (s.gaz.status u) (s.gaz.reason u) st 9 false = false) :
    s.expertStatus u st = (.statusRefused, s) := by
  unfold State.expertStatus
  simp [h]

/-- R35: a site is not unmasked while 180 are in service. -/
theorem State.expertStatus_full {x : SiteId} (h : 180 ≤ s.gaz.sitesIn.length) : s.expertStatus (.site x) 0 = (.statusRefused, s) := by
  unfold State.expertStatus
  simp [h]

/-- R32: a stack masked or retired. -/
theorem State.expertStatus_stackLeaves {k : StackId} {st : Nat} (h0 : st ≠ 0)
    (h : transitionOk (.stack k) (s.gaz.stack k).status (s.gaz.stack k).reason st 9 false = true) :
    s.expertStatus (.stack k) st = (.ok, s.applyGaz fun g => g.leave s.mcount 4 (.stack k) st 9) := by
  have h' : transitionOk (.stack k) (s.gaz.status (.stack k)) (s.gaz.reason (.stack k)) st 9 false = true := h
  simp [State.expertStatus, h', h0]

/-- R32: a stack unmasked: what an expert masked an expert unmasks. -/
theorem State.expertStatus_stackReturns {k : StackId} (h1 : (s.gaz.stack k).status = 1) (h9 : (s.gaz.stack k).reason = 9) :
    s.expertStatus (.stack k) 0 = (.ok, s.applyGaz fun g => g.change s.mcount 4 (.stack k) 0 0) := by
  have h1' : s.gaz.status (.stack k) = 1 := h1
  have h9' : s.gaz.reason (.stack k) = 9 := h9
  simp [State.expertStatus, h1', h9', transitionOk]

theorem transitionOk_unmask {u : GUnit} {reason : Nat} (h : reason ≠ 9) : transitionOk u 1 reason 0 9 false = false := by
  simp [transitionOk, h]

/-! 01 R35: the site that a reserve replaces -/

theorem argMin_mem {key : Nat → Nat} : ∀ {l : List Nat} {r : Nat}, argMin key l = some r → r ∈ l
  | x :: t, r, h => by
    simp only [argMin] at h
    split at h
    · next y e =>
      split at h
      · exact Option.some.inj h ▸ List.mem_cons_of_mem _ (argMin_mem e)
      · exact Option.some.inj h ▸ List.mem_cons_self
    · exact Option.some.inj h ▸ List.mem_cons_self

/-- The element of least key in a list of rising numbers: the lowest of equals. -/
theorem argMin_eq_some {key : Nat → Nat} : ∀ {l : List Nat} {r : Nat}, l.Pairwise (· < ·) → r ∈ l →
    (∀ y ∈ l, key r < key y ∨ (key r = key y ∧ r ≤ y)) → argMin key l = some r
  | x :: t, r, hs, hr, hmin => by
    obtain ⟨hx, ht⟩ := List.pairwise_cons.1 hs
    rcases List.mem_cons.1 hr with rfl | hr
    · simp only [argMin]
      split
      · next y e =>
        have := hmin y (List.mem_cons_of_mem _ (argMin_mem e))
        rw [if_neg (by omega)]
      · rfl
    · have hlt := hx r hr
      have := hmin x List.mem_cons_self
      rw [argMin, argMin_eq_some ht hr fun y hy => hmin y (List.mem_cons_of_mem _ hy)]
      simp only
      rw [if_pos (by omega)]

/-- R35: a site that has left service and that no other site replaces. -/
theorem Gaz.mem_leftSites {g : Gaz} {y : Nat} : y ∈ g.leftSites ↔
    y < 192 ∧ ((g.site y).status = 1 ∨ (g.site y).status = 4) ∧ g.served y = true ∧ ∀ t, t < 192 → (g.site t).replaces ≠ y := by
  simp [Gaz.leftSites, and_assoc]

/-- R35: a request while an activation is under way. -/
theorem State.reserveActivate_busy {n : Nat} (h : s.gaz.act.isSome = true) : s.reserveActivate n = (.busy, s) := by
  simp [State.reserveActivate, h]

/-- R35: a request for what is no reserve, while 180 sites are in service, or with no site to replace. -/
theorem State.reserveActivate_refused {n : Nat} (ha : s.gaz.act = none)
    (h : 192 ≤ n ∨ (s.gaz.site n).status ≠ 2 ∨ 180 ≤ s.gaz.sitesIn.length ∨ s.gaz.leftSites = []) :
    s.reserveActivate n = (.statusRefused, s) := by
  unfold State.reserveActivate
  rw [ha]
  by_cases hn : 192 ≤ n ∨ (s.gaz.site n).status ≠ 2 ∨ 180 ≤ s.gaz.sitesIn.length
  · have hc : (decide (192 ≤ n) || (s.gaz.site n).status != 2 || decide (180 ≤ s.gaz.sitesIn.length)) = true := by
      simpa [or_assoc] using hn
    simp [hc]
  · have hl : s.gaz.leftSites = [] := by tauto
    simp [Gaz.replacedByManual, hl, argMin]

/-- R35: the activation of a reserve, in place of the site that left first. -/
theorem State.reserveActivate_ok {n r : Nat} (ha : s.gaz.act = none) (hn : n < 192) (h2 : (s.gaz.site n).status = 2)
    (hl : s.gaz.sitesIn.length < 180) (hr : s.gaz.replacedByManual = some r) :
    s.reserveActivate n = (.ok, s.modGaz fun g => { g with act := some ⟨1, some n, r, true⟩ }) := by
  simp [State.reserveActivate, ha, hn, h2, hl, hr]

theorem Gaz.replacedByManual_eq {g : Gaz} {r : Nat} (hr : r ∈ g.leftSites)
    (hmin : ∀ y ∈ g.leftSites, (g.site r).leftGen < (g.site y).leftGen ∨ ((g.site r).leftGen = (g.site y).leftGen ∧ r ≤ y)) :
    g.replacedByManual = some r :=
  argMin_eq_some (List.pairwise_lt_range.filter _) hr hmin

end Sys2Proof.Machine
end

section
/-!
SUPPORT. The cores of a site going off or awaiting their tokens, and the activation that a step takes up.
-/
namespace Sys2Proof.Machine

variable {s t : State} {a : Activation} {x : SiteId}

/-! 01 R36, 21 R559: the cores of a site go off, or await their tokens -/

/-- The clusters `cs` with their cores off. -/
def State.coresOff (s : State) (cs : List Nat) : State :=
  cs.foldl (fun s c => (s.setCl c (s.cl c).kept).modPwr fun p => (p.dropToken c).modDom c fun _ => {}) s

theorem State.coresOff_changes {cs : List Nat} : ChangesOnly [.clusters, .pwr] s (s.coresOff cs) :=
  .foldl fun _ _ => (State.setCl_changes (by decide)).trans (State.modPwr_changes (by decide))

theorem State.coresOff_dom : ∀ (cs : List Nat) (s : State) (d : Nat), (s.coresOff cs).pwr.dom d = if d ∈ cs then {} else s.pwr.dom d
  | [], _, _ => by simp [State.coresOff]
  | c :: cs, s, d => by
    rw [State.coresOff, List.foldl_cons, ← State.coresOff, State.coresOff_dom cs]
    by_cases h : d = c
    · subst h; simp
    · simp [h, Power.dom_modDom_other _ _ h]

theorem State.coresOff_cl : ∀ (cs : List Nat) (s : State) (d : Nat), (s.coresOff cs).cl d = if d ∈ cs then (s.cl d).kept else s.cl d
  | [], _, _ => by simp [State.coresOff]
  | c :: cs, s, d => by
    rw [State.coresOff, List.foldl_cons, ← State.coresOff, State.coresOff_cl cs]
    by_cases h : d = c
    · subst h; simp [Cluster.kept]
    · simp [h]

/-- 21 R558, R561: a domain as it awaits its token. -/
def Dom.awaiting (d : Dom) : Dom := { d with state := 1, stage := 0, setp := setPoint 0 d.trim, smask := if d.setp = 0 then 0xFF else d.smask }

/-- The clusters `cs` with their state lost and their domains waiting for their tokens. -/
def State.coresUp (s : State) (cs : List Nat) : State := cs.foldl (fun s c => (s.setCl c (s.cl c).kept).awaitToken c) s

theorem State.awaitToken_changes {c : Nat} : ChangesOnly [.clusters, .pwr] s (s.awaitToken c) :=
  .ite (fun _ => State.modPwr_changes (by decide)) fun _ => .refl _ _

theorem State.coresUp_changes {cs : List Nat} : ChangesOnly [.clusters, .pwr] s (s.coresUp cs) :=
  .foldl fun _ _ => (State.setCl_changes (by decide)).trans State.awaitToken_changes

theorem State.awaitToken_cl (c d : Nat) : (s.awaitToken c).cl d = s.cl d := by
  unfold State.awaitToken
  split <;> rfl

theorem State.awaitToken_pwr {c : Nat} (h : s.pwr.inwin.testBit 9 = true) : (s.awaitToken c).pwr = s.pwr.modDom c Dom.awaiting := by
  rw [State.awaitToken, if_pos h]; rfl

theorem State.coresUp_cl : ∀ (cs : List Nat) (s : State) (d : Nat), (s.coresUp cs).cl d = if d ∈ cs then (s.cl d).kept else s.cl d
  | [], _, _ => by simp [State.coresUp]
  | c :: cs, s, d => by
    rw [State.coresUp, List.foldl_cons, ← State.coresUp, State.coresUp_cl cs, State.awaitToken_cl]
    by_cases h : d = c
    · subst h; simp [Cluster.kept]
    · simp [h]

theorem State.coresUp_dom : ∀ (cs : List Nat) (s : State) (d : Nat), cs.Nodup → s.pwr.inwin.testBit 9 = true →
    (s.coresUp cs).pwr.dom d = if d ∈ cs then (s.pwr.dom d).awaiting else s.pwr.dom d
  | [], _, _, _, _ => by simp [State.coresUp]
  | c :: cs, s, d, hn, hw => by
    obtain ⟨hc, hn⟩ := List.nodup_cons.1 hn
    have hp : ((s.setCl c (s.cl c).kept).awaitToken c).pwr = s.pwr.modDom c Dom.awaiting := State.awaitToken_pwr hw
    rw [State.coresUp, List.foldl_cons, ← State.coresUp, State.coresUp_dom cs _ _ hn (by rw [hp]; exact hw), hp]
    by_cases h : d = c
    · subst h; simp [hc]
    · simp [h, Power.dom_modDom_other _ _ h]

/-- The clusters of a site. -/
theorem mem_siteClusters {d x : Nat} : d ∈ span (8 * x) 8 ↔ d / 8 = x := by
  simp only [span, List.mem_map, List.mem_range]
  constructor
  · rintro ⟨i, hi, rfl⟩; omega
  · rintro rfl; exact ⟨d % 8, by omega, by omega⟩

theorem nodup_span (lo n : Nat) : (span lo n).Nodup := List.nodup_range.map fun _ _ h => Nat.add_left_cancel h

/-! 01 R36: the steps of an activation -/

theorem State.actAt_none {n : Nat} (h : s.gaz.act = none) : s.actAt n = none := by simp [State.actAt, h]
theorem State.actAt_other {n : Nat} (h : s.gaz.act = some a) (hn : a.step ≠ n) : s.actAt n = none := by simp [State.actAt, h, hn]
theorem State.actAt_some {n : Nat} (h : s.gaz.act = some a) (hn : a.step = n) (hs : a.site.isSome = true) : s.actAt n = some a := by
  simp [State.actAt, h, hn, hs]

/-- R35: no policy, no reserve. -/
@[simp] theorem Gaz.chooseReserve_zero (g : Gaz) (y : Nat) : g.chooseReserve 0 y = none := rfl

@[simp] theorem Gaz.unreplaced_zero (g : Gaz) : g.unreplaced 0 = none := by simp [Gaz.unreplaced, argMin]

/-- R35: the policies of a row choose the first reserve of the row. -/
theorem Gaz.chooseReserve_row {g : Gaz} {policy r : Nat} (hp : policy = 1 ∨ policy = 2) (hx : (g.site x).status = 2) (hr : siteRow x = siteRow r)
    (hfirst : ∀ y, y < x.val → siteRow y = siteRow r → (g.site y).status ≠ 2) : g.chooseReserve policy r = some x.val := by
  have hrow : (((List.range 192).filter fun y => (g.site y).status == 2).filter fun y => siteRow y == siteRow r).head? = some x.val := by
    rw [List.filter_filter, List.head?_filter, List.find?_range_eq_some]
    refine ⟨by simp [hx, hr], List.mem_range.2 x.isLt, fun y hy => ?_⟩
    simpa using imp_iff_not_or.1 (hfirst y hy)
  obtain ⟨rest, hrest⟩ := List.head?_eq_some_iff.1 hrow
  rcases hp with rfl | rfl
  · simp [Gaz.chooseReserve, hrest]
  · simp [Gaz.chooseReserve, hrest]

/-- R35: the automatic activations of a policy that names no reserve: none. -/
theorem State.nextActivation_none (ha : s.gaz.act = none) (h : s.obj 0x3010 0 = 0 ∨ 180 ≤ s.gaz.sitesIn.length) : s.nextActivation = none := by
  unfold State.nextActivation
  rw [ha]
  by_cases hl : 180 ≤ s.gaz.sitesIn.length
  · simp [hl]
  · have h0 : s.obj 0x3010 0 = 0 := by tauto
    simp [h0, hl]

theorem State.nextActivation_done (ha : s.gaz.act = some a) (hn : a.step ≠ 1) : s.nextActivation = none := by
  simp [State.nextActivation, ha, hn]

theorem State.nextActivation_asked (ha : s.gaz.act = some a) (hn : a.step = 1) (hs : a.site.isSome = true) : s.nextActivation = some a := by
  simp [State.nextActivation, ha, hn, hs]

theorem State.nextActivation_auto {r y : Nat} (ha : s.gaz.act = none) (hl : s.gaz.sitesIn.length < 180)
    (hr : s.gaz.unreplaced (s.obj 0x3010 0) = some r) (hy : s.gaz.chooseReserve (s.obj 0x3010 0) r = some y) :
    s.nextActivation = some ⟨1, some y, r, false⟩ := by
  have : ¬ 180 ≤ s.gaz.sitesIn.length := by omega
  simp [State.nextActivation, ha, this, hr, hy]

/-- R36: the panel with step `n` of an activation done. -/
theorem State.actStep_changes {n : Nat} : ChangesOnly [.gaz] s (s.actStep a n) := State.modGaz_changes (by decide)

/-- The clusters of a reserve that are reserves themselves. -/
def State.reserveClusters (s : State) (x : Nat) : List Nat := (span (8 * x) 8).filter fun c => (s.gaz.cluster c).status == 2

theorem State.mem_reserveClusters {d y : Nat} : d ∈ s.reserveClusters y ↔ d / 8 = y ∧ (s.gaz.cluster d).status = 2 := by
  simp [State.reserveClusters, mem_siteClusters]

theorem State.nodup_reserveClusters (s : State) (y : Nat) : (s.reserveClusters y).Nodup := (nodup_span _ _).filter _

theorem reservePowerUp_idle (h : s.nextActivation = none) : exec .reservePowerUp s = .next s := by
  simp only [exec_reservePowerUp, execReservePowerUp, h]

/-- R36 step 2. -/
theorem execReservePowerUp_some (h : s.nextActivation = some a) (hw : s.pwr.inwin.testBit 9 = true) (hq : s.pwr.seq = 3) :
    execReservePowerUp s = .next ((s.actStep a 2).coresUp (s.reserveClusters (a.site.getD 0))) := by
  simp only [execReservePowerUp, h, hw, hq]
  rfl

end Sys2Proof.Machine
end

section
/-!
SUPPORT. An activation that ends, and the self-test of its reserve.
-/
namespace Sys2Proof.Machine

variable {s t : State} {a : Activation} {x : SiteId}

/-! 01 R36: an activation that ends -/

/-- An object that its last write alone decides (17 R473). -/
theorem State.obj_policy (h : t.lgd = s.lgd) : t.obj 0x3010 0 = s.obj 0x3010 0 := by
  simp [State.obj, h]

/-- R36: the reserve is retired, its cores are off, no activation is under way. -/
def State.ReserveFailed (u : State) (x : SiteId) : Prop :=
  (u.gaz.site x).status = 4 ∧ (u.gaz.site x).reason = 2 ∧ (∀ i, i < 8 → (u.pwr.dom (8 * x + i)).state = 0) ∧ u.gaz.act = none

/-- R36: with no policy that names another reserve, a step that fails retires the reserve and ends the activation. -/
theorem State.activationFails_ends (ha : a.site = some x.val) (h2 : (s.gaz.site x).status = 2) (hp : s.obj 0x3010 0 = 0) :
    (s.activationFails a).ReserveFailed x := by
  have hx : a.site.getD 0 = x.val := by rw [ha]; rfl
  let off := s.coresOff (span (8 * x) 8)
  let gone := off.applyGaz fun g => g.leave off.mcount 1 (.site x) 4 2
  have hgaz : off.gaz = s.gaz := State.coresOff_changes .gaz (by decide)
  have hlgd : gone.lgd = s.lgd := State.applyGaz_lgd.trans (State.coresOff_changes .lgd (by decide))
  have hok : off.retireUnit 1 (.site x) 4 2 = gone := if_pos (by rw [hgaz]; simp [Gaz.status, h2, transitionOk])
  have hend : s.activationFails a = (gone.modGaz fun g => { g with act := none }).askVote 2 := by
    have hpol : gone.obj 0x3010 0 = 0 := (State.obj_policy hlgd).trans hp
    unfold State.activationFails
    simp only [hx, x.isLt, dite_true]
    rw [← State.coresOff, hok, hpol, Gaz.chooseReserve_zero]
    rfl
  have hvote : ∀ {u : State}, ChangesOnly [.cnf, .out] u (u.askVote 2) := State.askVote_changes
  have eg : (s.activationFails a).gaz = { gone.gaz with act := none } := hend ▸ hvote .gaz (by decide)
  have ep : (s.activationFails a).pwr = gone.pwr := hend ▸ hvote .pwr (by decide)
  obtain ⟨hst, hrs⟩ := State.applyGaz_siteLeaves (s := off) (src := 1) (st := 4) (rs := 2) (x := x) (by rw [hgaz]; omega) (by decide)
  refine ⟨?_, ?_, fun i hi => ?_, ?_⟩
  · rw [eg]; exact hst
  · rw [eg]; exact hrs
  · rw [ep]
    exact State.applyGaz_off (by rw [State.coresOff_dom, if_pos (mem_siteClusters.2 (by omega))])
  · rw [eg]

/-- R35: an activation that may no longer bring its reserve into service leaves the reserve one, its cores off. -/
theorem State.activationEnds_eq (ha : a.site = some x.val) :
    s.activationEnds a = (s.coresOff (span (8 * x) 8)).modGaz fun g => { g with act := none } := by
  have hx : a.site.getD 0 = x.val := by rw [ha]; rfl
  unfold State.activationEnds
  rw [hx]
  rfl

/-! 01 R36 step 3: the self-test of the reserve -/

/-- The clusters of the reserve that are reserves, by their number at the site. -/
def State.testedClusters (s : State) (x : Nat) : List (Fin 8) := (List.finRange 8).filter fun n => (s.gaz.cluster (8 * x + n.val)).status == 2

theorem State.mem_testedClusters {y : Nat} {n : Fin 8} : n ∈ s.testedClusters y ↔ (s.gaz.cluster (8 * y + n.val)).status = 2 := by
  simp [State.testedClusters]

theorem reserveSelfTest_idle {rs : List SramResult} (h : s.actAt 2 = none) : exec (.reserveSelfTest rs) s = .next s := by
  simp only [exec_reserveSelfTest, execReserveSelfTest, h]

theorem execReserveSelfTest_some (h : s.actAt 2 = some a) (hs : a.site = some x.val) : execReserveSelfTest [] s = .next (
    if (s.testedClusters x).any fun n => (s.pwr.dom (8 * x + n.val)).state == 4 then s.activationFails a
    else if (s.testedClusters x).any fun n => (s.pwr.dom (8 * x + n.val)).state != 3 then s
    else if (s.testedClusters x).all fun n => (s.gaz.cluster (8 * x + n.val)).status == 4 then
      (s.modDiag fun d => d.report 0 (tickOf s.mcount % 2 ^ 32)).activationFails a
    else (s.modDiag fun d => d.report 0 (tickOf s.mcount % 2 ^ 32)).actStep a 3) := by
  have hx : a.site.getD 0 = x.val := by rw [hs]; rfl
  simp only [execReserveSelfTest, h, hx, List.find?_nil, List.foldl_fixed]
  rfl

end Sys2Proof.Machine
end

section
/-!
SUPPORT. The training of a reserve's links, its edition, and the joining of its ports.
-/
namespace Sys2Proof.Machine

variable {s t : State} {a : Activation} {x : SiteId}

/-! 01 R36 step 4 -/

theorem reserveLinkTraining_idle {bs : List BraidTest} (h : s.actAt 3 = none) : exec (.reserveLinkTraining bs) s = .next s := by
  simp only [exec_reserveLinkTraining, execReserveLinkTraining, h]

theorem reserveLinkTraining_nil (h : s.actAt 3 = some a) : exec (.reserveLinkTraining []) s = .next (s.actStep a 4) := by
  simp only [exec_reserveLinkTraining, execReserveLinkTraining, h, List.filter_nil, List.foldl_nil]

theorem reserveLinkTraining_one {b : BraidTest} (h : s.actAt 3 = some a) (hs : a.site = some x.val)
    (hb : b.b.val ∈ siteMeshBraids x ++ siteMemBraids x) (h2 : (s.gaz.braid b.b).status = 2) :
    exec (.reserveLinkTraining [b]) s = .next ((s.trainBraid 1 b.b b.identOk b.fullRate b.tests).actStep a 4) := by
  have hx : a.site.getD 0 = x.val := by rw [hs]; rfl
  have hf : [b].filter (fun t => (siteMeshBraids x ++ siteMemBraids x).contains t.b.val && (s.gaz.braid t.b).status == 2) = [b] := by
    simpa [h2] using hb
  simp only [exec_reserveLinkTraining, execReserveLinkTraining, h, hx, hf, List.foldl_cons, List.foldl_nil]

/-! 09 R277: an edition installed -/

theorem Delta.router_modRouter (d : Delta) (y z : Nat) (f : Router → Router) :
    (d.modRouter y f).router z = if z = y then f (d.router y) else d.router z := Tbl.get_set ..

/-- The routers of `l` changed: each once. -/
theorem Delta.router_modRouters {f : Router → Router} : ∀ (l : List Nat) (d : Delta) (y : Nat), l.Nodup →
    (l.foldl (fun d z => d.modRouter z f) d).router y = if y ∈ l then f (d.router y) else d.router y
  | [], _, _, _ => by simp
  | z :: l, d, y, h => by
    obtain ⟨hz, h⟩ := List.nodup_cons.1 h
    rw [List.foldl_cons, Delta.router_modRouters l _ y h, Delta.router_modRouter]
    by_cases hy : y = z
    · subst hy; simp [hz]
    · simp [hy]

theorem Delta.router_mapRouters {f : Router → Router} {d : Delta} {y : Nat} (hy : y < 192) : (d.mapRouters f).router y = f (d.router y) := by
  rw [Delta.mapRouters, Delta.router_modRouters _ _ _ List.nodup_range, if_pos (List.mem_range.2 hy)]

theorem Delta.tabs_mapRouters (f : Router → Router) (d : Delta) (ed : Bool) : (d.mapRouters f).tabs ed = d.tabs ed :=
  List.foldlRecOn (motive := fun e : Delta => e.tabs ed = d.tabs ed) (List.range 192) _ rfl fun _ h _ _ => h

theorem State.install_changes {rt : RouteTables} {tsw : Word} : ChangesOnly [.delta, .ten] s (s.install rt tsw) :=
  (State.modDelta_changes (by decide)).trans (State.modTen_changes (by decide))

/-- The tables written into a slot, and a router whose switch is armed. -/
def Delta.withTabs (d : Delta) (slot : Bool) (rt : RouteTables) : Delta := if slot then { d with tabs1 := rt } else { d with tabs0 := rt }
def Router.armedAt (tsw : Word) (r : Router) : Router := { r with tsw := tsw, armed := true }

theorem State.install_delta {rt : RouteTables} {tsw : Word} :
    (s.install rt tsw).delta = { (s.delta.withTabs s.nextSlot rt).mapRouters (Router.armedAt tsw) with edWanted := false } := by
  simp only [State.install, State.modTen_delta, State.modDelta_delta, Delta.withTabs]
  rfl

@[simp] theorem Delta.router_edWanted (d : Delta) (b : Bool) (y : Nat) : ({ d with edWanted := b } : Delta).router y = d.router y := rfl
@[simp] theorem Delta.tabs_edWanted (d : Delta) (b ed : Bool) : ({ d with edWanted := b } : Delta).tabs ed = d.tabs ed := rfl

/-- R277: every router of the panel is armed for the same T_sw. -/
theorem State.install_router {rt : RouteTables} {tsw : Word} {y : Nat} (hy : y < 192) :
    ((s.install rt tsw).delta.router y).tsw = tsw ∧ ((s.install rt tsw).delta.router y).armed = true := by
  rw [State.install_delta, Delta.router_edWanted, Delta.router_mapRouters hy]
  exact ⟨rfl, rfl⟩

/-- R277: the new tables stand in the slot that is not stamped now; the other slot stays. -/
theorem State.install_tabs {rt : RouteTables} {tsw : Word} :
    (s.install rt tsw).delta.tabs s.nextSlot = rt ∧ (s.install rt tsw).delta.tabs (!s.nextSlot) = s.delta.tabs (!s.nextSlot) := by
  have h : ∀ ed, (s.install rt tsw).delta.tabs ed = (s.delta.withTabs s.nextSlot rt).tabs ed := fun ed => by
    rw [State.install_delta, Delta.tabs_edWanted, Delta.tabs_mapRouters]
  rw [h, h]
  cases s.nextSlot <;> exact ⟨rfl, rfl⟩

/-! 01 R36 step 5 -/

theorem reserveEdition_idle {rt : RouteTables} {tsw : Word} (h : s.actAt 4 = none) : exec (.reserveEdition rt tsw) s = .next s := by
  simp only [exec_reserveEdition, execReserveEdition, h]

theorem execReserveEdition_some {rt : RouteTables} {tsw : Word} (h : s.actAt 4 = some a) (hs : a.site = some x.val) :
    execReserveEdition rt tsw s = .next (
      if !s.slotFree || !decide (tsw.toNat % 100000 = 0 ∧ s.mcount + 200000 ≤ tsw.toNat) then s
      else if !(s.modGaz (s.activated a x)).gaz.siteJoined x || !(s.modGaz (s.activated a x)).editionOk rt then s.activationFails a
      else (s.install rt tsw).actStep a 5) := by
  obtain ⟨step, site, replaced, manual⟩ := a
  obtain rfl : site = some x.val := hs
  simp only [execReserveEdition, h, Option.getD_some, x.isLt, dite_true]

/-! 01 R36 step 6 -/

theorem activationComplete_idle (h : s.actAt 5 = none) : exec .activationComplete s = .next s := by
  simp only [exec_activationComplete, execActivationComplete, h]

/-- The braids of a site that are in service. -/
def State.joinedBraids (s : State) (x : Nat) : List Nat := (siteMeshBraids x ++ siteMemBraids x).filter fun b => (s.gaz.braid b).status == 0

/-- The panel with the record of a completed activation entered. -/
def State.enterActivated (s : State) (a : Activation) (x : SiteId) : State :=
  (s.applyGaz (s.activated a x)).modGaz fun g => { g with owed := s.gaz.owed, old := if s.gaz.owed then g.old else none }

/-- The panel with the braids and the ports of a site that has come into service. -/
def State.linksJoin (s : State) (x : Nat) : State :=
  let bs := s.joinedBraids x
  let s2 := (bs.foldl (fun s b => s.modBrd b fun y => y.both fun e => { e with state := 2, inlist := true }) s).portsFollow
  let s3 := (x :: neighbours x).foldl (fun s y => outerPorts.foldl (fun s p => s.setLists y p) s) s2
  bs.foldl (fun s b => (s.watchLow b false).watchLow b true) s3

theorem State.linksJoin_changes {y : Nat} : ChangesOnly [.delta, .lev, .out] s (s.linksJoin y) := by
  have braids : ChangesOnly [.delta, .lev, .out] s ((s.joinedBraids y).foldl (fun s b => s.modBrd b fun y => y.both fun e =>
      { e with state := 2, inlist := true }) s) := .foldl fun _ _ => State.modLev_changes (by decide)
  refine ((braids.trans (State.portsFollow_changes.mono (by decide))).trans (.foldl fun _ _ => .foldl fun _ _ => ?_)).trans (.foldl fun _ _ => ?_)
  · exact State.setLists_changes.mono (by decide)
  · exact (State.watchLow_changes.trans State.watchLow_changes).mono (by decide)

theorem execActivationComplete_some (h : s.actAt 5 = some a) (hs : a.site = some x.val) : execActivationComplete s = .next (
    if s.gaz.sitesIn.any fun y => (s.delta.router y).armed then s
    else if 180 ≤ s.gaz.sitesIn.length then s.activationEnds a
    else if !(s.activated a x s.gaz).siteJoined x then s.activationFails a
    else (s.enterActivated a x).linksJoin x) := by
  obtain ⟨step, site, replaced, manual⟩ := a
  obtain rfl : site = some x.val := hs
  simp only [execActivationComplete, h, Option.getD_some, x.isLt, dite_true]
  rfl

end Sys2Proof.Machine
end

section
/-!
SUPPORT. The record that a completed activation enters.
-/
namespace Sys2Proof.Machine

variable {s t : State} {a : Activation} {x : SiteId} {g h : Gaz} {V : GUnit → Prop}

/-! 01 R36 step 6: the record of an activation, part by part -/

/-- The site joins, in place of another. -/
def Gaz.siteJoins (g : Gaz) (now : Nat) (x : SiteId) (replaced : Nat) : Gaz :=
  let g1 := (g.putStatus (.site x) 0 10).note ⟨now, 0, 4, x, 0, 2, 0, 10, 3, replaced⟩
  { g1 with sites := Tbl.mod {} g1.sites x fun r => { r with replaces := replaced } }

/-- The clusters of the site that are reserves join. -/
def Gaz.clustersJoin (g : Gaz) (now replaced : Nat) (cs : List Nat) : Gaz :=
  cs.foldl (fun g c => if (g.cluster c).status = 2 then (if h : c < 1536 then g.change now 3 (.cluster ⟨c, h⟩) 0 10 replaced else g) else g) g

/-- The braids of the site join. -/
def State.braidsJoin (s : State) (x replaced : Nat) (bs : List Nat) (g : Gaz) : Gaz :=
  bs.foldl (fun (g : Gaz) b =>
    match s.braidJoins x b with
    | some (st, rs) => if h : b < 3320 then (if st = 0 then g.recordLanes b (s.brd b) else g).change s.mcount 3 (.braid ⟨b, h⟩) st rs replaced else g
    | none => g) g

theorem State.activated_eq : s.activated a x g =
    { s.braidsJoin x a.replaced (siteMeshBraids x ++ siteMemBraids x) ((g.siteJoins s.mcount x a.replaced).clustersJoin s.mcount a.replaced (span (8 * x) 8)) with
      act := none, paths := s.delta.tabs (s.delta.router (s.gaz.sitesIn.headD 0)).cur } := rfl

theorem Gaz.siteJoins_site (now replaced : Nat) : ((g.siteJoins now x replaced).site x).status = 0 ∧ ((g.siteJoins now x replaced).site x).reason = 10 ∧
    ((g.siteJoins now x replaced).site x).replaces = replaced := by
  simp [Gaz.siteJoins, Gaz.site, Gaz.putStatus, Gaz.note, Tbl.mod]

/-! What the joining of clusters and braids leaves -/

theorem Gaz.sites_change {now src st rs rep : Nat} {u : GUnit} (hu : ∀ y, u ≠ .site y) : (g.change now src u st rs rep).sites = g.sites := by
  unfold Gaz.change
  split
  · rfl
  · cases u with
    | site y => exact absurd rfl (hu y)
    | cluster | stack | engine | braid => rfl

theorem Gaz.clustersJoin_sites (now replaced : Nat) (cs : List Nat) : (g.clustersJoin now replaced cs).sites = g.sites :=
  List.foldlRecOn (motive := fun h : Gaz => h.sites = g.sites) cs _ rfl fun h hh c _ => by
    split
    · split
      · rw [Gaz.sites_change (fun _ => GUnit.noConfusion), hh]
      · exact hh
    · exact hh

theorem State.braidsJoin_sites (y replaced : Nat) (bs : List Nat) : (s.braidsJoin y replaced bs g).sites = g.sites :=
  List.foldlRecOn (motive := fun h : Gaz => h.sites = g.sites) bs _ rfl fun h hh c _ => by
    split
    · split
      · rw [Gaz.sites_change (fun _ => GUnit.noConfusion)]
        split <;> exact hh
      · exact hh
    · exact hh

theorem Gaz.maskCut_sites (now : Nat) : (g.maskCut now).sites = g.sites := by
  unfold Gaz.maskCut
  extract_lets g1
  have h1 : g1.sites = g.sites := List.foldlRecOn (motive := fun h : Gaz => h.sites = g.sites) _ _ rfl fun h hh k _ => by
    rw [Gaz.sites_change (fun _ => GUnit.noConfusion), hh]
  exact List.foldlRecOn (motive := fun h : Gaz => h.sites = g.sites) _ _ h1 fun h hh n _ => by
    rw [Gaz.sites_change (fun _ => GUnit.noConfusion), hh]

theorem Gaz.recordLanes_same {b : Nat} {y : LevBraid} (hV : ∀ b, ¬ V (.braid b)) : Gaz.Same V g (g.recordLanes b y) := by
  refine ⟨rfl, rfl, fun v hv => ?_, fun v hv => ?_⟩ <;>
  · cases v with
    | braid b => exact absurd hv (hV b)
    | site | cluster | stack | engine => rfl

theorem State.braidsJoin_same {y replaced : Nat} {bs : List Nat} (hV : ∀ b, ¬ V (.braid b)) : Gaz.Same V g (s.braidsJoin y replaced bs g) :=
  .foldl fun h _ b _ => by
    split
    · split
      · refine Gaz.Same.trans ?_ (Gaz.change_same (hV _))
        split
        · exact Gaz.recordLanes_same hV
        · exact .refl V h
      · exact .refl V h
    · exact .refl V h

theorem Gaz.clustersJoin_gen (now replaced : Nat) (cs : List Nat) : (g.clustersJoin now replaced cs).gen = g.gen :=
  (Gaz.Same.foldl (V := fun _ => False) fun h _ c _ => by
    split
    · split
      · exact Gaz.change_same id
      · exact .refl _ h
    · exact .refl _ h).gen

/-- The reserves among the clusters of the site come into service, no other cluster changes. -/
theorem Gaz.clustersJoin_status (now replaced : Nat) (c : ClusterId) : ∀ (cs : List Nat) (g : Gaz),
    (g.clustersJoin now replaced cs).status (.cluster c) = if c.val ∈ cs ∧ g.status (.cluster c) = 2 then 0 else g.status (.cluster c)
  | [], g => by simp [Gaz.clustersJoin]
  | d :: cs, g => by
    rw [Gaz.clustersJoin, List.foldl_cons, ← Gaz.clustersJoin, Gaz.clustersJoin_status now replaced c cs]
    by_cases hd : c.val = d
    · subst hd
      by_cases h2 : (g.cluster c).status = 2
      · have h2' : g.status (.cluster c) = 2 := h2
        have hc := (Gaz.change_status (g := g) (now := now) (src := 3) (rs := 10) (rep := replaced) (u := .cluster c) (st := 0) (by omega)).1
        simp [h2, h2', hc, c.isLt]
      · have h2' : g.status (.cluster c) ≠ 2 := h2
        simp [h2, h2']
    · have hs : (if (g.cluster d).status = 2 then (if h : d < 1536 then g.change now 3 (.cluster ⟨d, h⟩) 0 10 replaced else g) else g).status
          (.cluster c) = g.status (.cluster c) := by
        split
        · split
          · exact (Gaz.change_same (V := (· = .cluster c)) (by simpa [Fin.ext_iff, eq_comm] using hd)).status _ rfl
          · rfl
        · rfl
      rw [hs]
      simp [hd]

/-! The history decides nothing -/

/-- The Gazetteer `h` is `g` with another history. -/
def Gaz.Apart (g h : Gaz) : Prop := ∃ es, h = { g with history := es }

theorem Gaz.Apart.putStatus (a : g.Apart h) (u : GUnit) (st rs : Nat) : (g.putStatus u st rs).Apart (h.putStatus u st rs) := by
  obtain ⟨es, rfl⟩ := a
  exact ⟨es, by cases u <;> rfl⟩

theorem Gaz.Apart.status (a : g.Apart h) (u : GUnit) : h.status u = g.status u := by
  obtain ⟨es, rfl⟩ := a
  cases u <;> rfl

theorem Gaz.Apart.note (a : g.Apart h) (d e : HistEntry) : (g.note d).Apart (h.note e) := by
  obtain ⟨es, rfl⟩ := a
  exact ⟨_, rfl⟩

theorem Gaz.Apart.change (a : g.Apart h) (now src : Nat) (u : GUnit) (st rs rep : Nat) :
    (g.change now src u st rs rep).Apart (h.change now src u st rs rep) := by
  unfold Gaz.change
  rw [a.status u]
  split
  · exact a
  · exact (a.putStatus u st rs).note _ _

theorem Gaz.Apart.siteJoins (a : g.Apart h) (now replaced : Nat) : (g.siteJoins now x replaced).Apart (h.siteJoins now x replaced) := by
  obtain ⟨es, rfl⟩ := a
  exact ⟨_, rfl⟩

theorem Gaz.Apart.clustersJoin (a : g.Apart h) (now replaced : Nat) (cs : List Nat) :
    (g.clustersJoin now replaced cs).Apart (h.clustersJoin now replaced cs) :=
  List.foldl_rel a fun c _ g h r => by
    have hc : h.cluster c = g.cluster c := by obtain ⟨es, rfl⟩ := r; rfl
    simp only [hc]
    split
    · split
      · exact r.change ..
      · exact r
    · exact r

theorem Gaz.Apart.braidsJoin (a : g.Apart h) (y replaced : Nat) (bs : List Nat) :
    (s.braidsJoin y replaced bs g).Apart (s.braidsJoin y replaced bs h) :=
  List.foldl_rel a fun b _ g h r => by
    have hl : ∀ z, (g.recordLanes b z).Apart (h.recordLanes b z) := by obtain ⟨es, rfl⟩ := r; exact fun z => ⟨es, rfl⟩
    split
    · split
      · refine Gaz.Apart.change ?_ ..
        split
        · exact hl _
        · exact r
      · exact r
    · exact r

theorem Gaz.Apart.activated (r : g.Apart h) : (s.activated a x g).Apart (s.activated a x h) := by
  rw [State.activated_eq, State.activated_eq]
  obtain ⟨es, e⟩ := ((r.siteJoins (x := x) s.mcount a.replaced).clustersJoin s.mcount a.replaced (span (8 * x) 8)).braidsJoin (s := s) x a.replaced
    (siteMeshBraids x ++ siteMemBraids x)
  exact ⟨es, by rw [e]⟩

/-! The record of an activation -/

theorem State.activated_gen : (s.activated a x g).gen = g.gen := by
  simp only [State.activated_eq]
  exact ((State.braidsJoin_same (V := fun _ => False) fun _ => id).gen).trans (Gaz.clustersJoin_gen ..)

theorem State.activated_act : (s.activated a x g).act = none := rfl

theorem State.activated_site : (s.activated a x g).site x = (g.siteJoins s.mcount x a.replaced).site x := by
  simp only [State.activated_eq, Gaz.site, State.braidsJoin_sites, Gaz.clustersJoin_sites]

theorem Gaz.status_ended (paths : RouteTables) (v : GUnit) : ({ g with act := none, paths := paths } : Gaz).status v = g.status v := by
  cases v <;> rfl

theorem State.activated_cluster {c : ClusterId} (hc : c / 8 = x.val) :
    (s.activated a x g).status (.cluster c) = if g.status (.cluster c) = 2 then 0 else g.status (.cluster c) := by
  have hs : (g.siteJoins s.mcount x a.replaced).status (.cluster c) = g.status (.cluster c) := rfl
  rw [State.activated_eq, Gaz.status_ended, (State.braidsJoin_same (V := (· = .cluster c)) fun _ => GUnit.noConfusion).status _ rfl,
    Gaz.clustersJoin_status, hs]
  simp [mem_siteClusters.2 hc]

/-- R36 step 6: where the activation leaves every site in service reached, the reserve is in service in place of the site replaced, in the
next generation. -/
theorem State.enterActivated_gaz
    (hk : ∀ y ∈ (s.activated a x s.gaz).sitesIn, y ∈ (s.activated a x s.gaz).kept s.fw.active) :
    ((s.enterActivated a x).gaz.site x).status = 0 ∧ ((s.enterActivated a x).gaz.site x).reason = 10 ∧
      ((s.enterActivated a x).gaz.site x).replaces = a.replaced ∧ (s.enterActivated a x).gaz.act = none ∧
      (s.enterActivated a x).gaz.gen = s.gaz.gen + 1 ∧
      ∀ c : ClusterId, c / 8 = x.val → ((s.enterActivated a x).gaz.cluster c).status = if (s.gaz.cluster c).status = 2 then 0 else (s.gaz.cluster c).status := by
  obtain ⟨es, e⟩ : (s.activated a x s.gaz).Apart (s.asked (s.activated a x)) := Gaz.Apart.activated ⟨[], rfl⟩
  have hk' : ∀ y ∈ (s.asked (s.activated a x)).sitesIn, y ∈ (s.asked (s.activated a x)).kept s.fw.active := by
    rw [e, Gaz.kept_of_history, Gaz.sitesIn_of_history]
    exact hk
  have hm := State.masked_of_kept hk'
  have hcut := Gaz.maskCut_same (g := s.asked (s.activated a x)) (V := fun v => ∃ c, v = .cluster c) s.mcount (by simp) (by simp)
  have hf := s.applyGaz_gaz (s.activated a x)
  have hsite : (s.changeSet (s.activated a x)).site x = ((s.asked id).siteJoins s.mcount x a.replaced).site x := by
    rw [State.changeSet_site, hm, Gaz.site, Gaz.maskCut_sites, State.asked_eq, ← Gaz.site, State.activated_site]
  obtain ⟨h0, h10, hr⟩ := Gaz.siteJoins_site (g := s.asked id) (x := x) s.mcount a.replaced
  obtain ⟨n, hn⟩ := hf.site x
  have hx : (s.enterActivated a x).gaz.site x = { ((s.asked id).siteJoins s.mcount x a.replaced).site x with faults := n } := by
    rw [← hsite, ← hn, State.enterActivated, State.modGaz_gaz, Gaz.site, Gaz.site]
  refine ⟨?_, ?_, ?_, ?_, ?_, fun c hc => ?_⟩
  · rw [hx]; exact h0
  · rw [hx]; exact h10
  · rw [hx]; exact hr
  · rw [State.enterActivated, State.modGaz_gaz]
    exact hf.act.trans (State.changeSet_act.trans (by rw [hm, hcut.act]; exact State.activated_act))
  · have hg : (s.masked (s.activated a x)).gen = s.gaz.gen := by rw [hm, hcut.gen]; exact State.activated_gen
    rw [State.enterActivated, State.modGaz_gaz, State.applyGaz_gen, hg]
  · have hst : (s.applyGaz (s.activated a x)).gaz.status (.cluster c) = if s.gaz.status (.cluster c) = 2 then 0 else s.gaz.status (.cluster c) := by
      rw [State.applyGaz_status, hm, hcut.status _ ⟨c, rfl⟩]
      exact State.activated_cluster hc
    exact hst

end Sys2Proof.Machine
end

section
/-!
SUPPORT. What each command of change sets and activations does.
-/
namespace Sys2Proof.Machine

variable {s t : State} {e : GazEvent}

/-! 01 R34: what a change set of one event does -/

theorem changeSet_unit_refused {w : GUnit} (hu : e.u = .unit w)
    (h : 8 < e.reason ∨ transitionOk w (s.gaz.status w) (s.gaz.reason w) e.status e.reason false = false) :
    exec (.gazetteerChangeSet [e]) s = .next (s.emit (.refused (subjectCode e.u) .statusRefused)) := by
  rw [exec_gazetteerChangeSet, execGazetteerChangeSet_one, State.gazEvent_unit hu, if_pos (by simpa using h)]

theorem changeSet_unit_leaves {w : GUnit} (hu : e.u = .unit w) (hr : e.reason ≤ 8)
    (ok : transitionOk w (s.gaz.status w) (s.gaz.reason w) e.status e.reason false = true) :
    exec (.gazetteerChangeSet [e]) s = .next (s.applyGaz fun g => g.leave s.mcount e.source w e.status e.reason) := by
  have h8 : ¬ 8 < e.reason := by omega
  rw [exec_gazetteerChangeSet, execGazetteerChangeSet_one, State.gazEvent_unit hu, if_neg (by simpa [h8] using ok), State.retireUnit, if_pos ok]

theorem changeSet_lane_refused {b : BraidId} {l : Fin 68} (hu : e.u = .lane b l) (h : e.status ≠ 4 ∨ (s.brd b).healthy l = false) :
    exec (.gazetteerChangeSet [e]) s = .next (s.emit (.refused (subjectCode e.u) .statusRefused)) := by
  rw [exec_gazetteerChangeSet, execGazetteerChangeSet_one, State.gazEvent_lane hu, if_pos (by simpa using h)]

theorem changeSet_lane_lost {b : BraidId} {l : Fin 68} (hu : e.u = .lane b l) (h4 : e.status = 4) (hl : (s.brd b).healthy l = true) :
    exec (.gazetteerChangeSet [e]) s = .next (s.loseLane e.source b l []) := by
  rw [exec_gazetteerChangeSet, execGazetteerChangeSet_one, State.gazEvent_lane hu, if_neg (by simp [h4, hl])]

theorem changeSet_column_refused {c : ClusterId} {bank : Fin 96} {sub : Fin 16} {col : Fin 576} {spare : Fin 4}
    (hu : e.u = .column c bank sub col spare) (h : ⟨bank, sub, col, spare⟩ ∈ (s.cl c).spd.steer) :
    exec (.gazetteerChangeSet [e]) s = .next (s.emit (.refused (subjectCode e.u) .statusRefused)) := by
  rw [exec_gazetteerChangeSet, execGazetteerChangeSet_one, State.gazEvent_column hu, if_pos (by simpa using h)]

theorem changeSet_column_entered {c : ClusterId} {bank : Fin 96} {sub : Fin 16} {col : Fin 576} {spare : Fin 4}
    (hu : e.u = .column c bank sub col spare) (h : ⟨bank, sub, col, spare⟩ ∉ (s.cl c).spd.steer) :
    Completes (.gazetteerChangeSet [e]) s fun u => u.gaz.gen = s.gaz.gen + 1 ∧
      (u.cl c).spd.steer = (s.cl c).spd.steer ++ [⟨bank, sub, col, spare⟩] ∧
      ((∀ y ∈ s.gaz.sitesIn, y ∈ s.gaz.kept s.fw.active) → s.columnEntry c ⟨bank, sub, col, spare⟩ e.reason e.source ∈ u.gaz.history) := by
  refine ⟨_, by rw [exec_gazetteerChangeSet, execGazetteerChangeSet_one, State.gazEvent_column hu, if_neg (by simpa using h)], ?_⟩
  obtain ⟨hg, hh⟩ := State.applyGaz_note (s := s.steered c ⟨bank, sub, col, spare⟩) (s.columnEntry c ⟨bank, sub, col, spare⟩ e.reason e.source)
  refine ⟨hg, ?_, hh⟩
  rw [State.applyGaz_steer, State.steered, State.setCl_cl_same]

/-! 01 R32, R35: expert commands -/

theorem expertStatusCommand_refused {u : GUnit} {n : Fin 5} (h : s.expertStatus u n = (.statusRefused, s)) :
    exec (.expertStatusCommand u n) s = .next (s.emit (.refused (gunitCode u) .statusRefused)) := by
  rw [exec_expertStatusCommand, execExpertStatusCommand, h, State.told_refused (by decide)]

theorem expertStatusCommand_ok {u : GUnit} {n : Fin 5} (h : s.expertStatus u n = (.ok, t)) : exec (.expertStatusCommand u n) s = .next t := by
  rw [exec_expertStatusCommand, execExpertStatusCommand, h, State.told_ok]

theorem expertStatusCommand_stackLeaves {k : StackId} {n : Fin 5} (h0 : n.val ≠ 0)
    (ok : transitionOk (.stack k) (s.gaz.stack k).status (s.gaz.stack k).reason n 9 false = true) :
    Completes (.expertStatusCommand (.stack k) n) s fun u => (u.gaz.stack k).status = n ∧ (u.gaz.stack k).reason = 9 ∧ u.gaz.gen = s.gaz.gen + 1 := by
  obtain ⟨hs, hr, hg, -⟩ := State.applyGaz_stackLeaves (s := s) (src := 4) (rs := 9) (transitionOk_ne ok) h0
  exact ⟨_, expertStatusCommand_ok (State.expertStatus_stackLeaves h0 ok), hs, hr, hg⟩

/-! 01 R35: the request of an activation -/

theorem reserveActivate_told {site : Byte} {code : FCode} (h : s.reserveActivate site.toNat = (code, s)) (hc : code ≠ .ok) :
    exec (.reserveActivate site) s = .next (s.emit (.refused site.toNat code)) := by
  rw [exec_reserveActivate, execReserveActivate, h, State.told_refused hc]

theorem reserveActivate_taken {site : Byte} {r : Nat} (ha : s.gaz.act = none) (hn : site.toNat < 192) (h2 : (s.gaz.site site.toNat).status = 2)
    (hl : s.gaz.sitesIn.length < 180) (hr : s.gaz.replacedByManual = some r) :
    exec (.reserveActivate site) s = .next (s.modGaz fun g => { g with act := some ⟨1, some site.toNat, r, true⟩ }) := by
  rw [exec_reserveActivate, execReserveActivate, State.reserveActivate_ok ha hn h2 hl hr, State.told_ok]

/-! 01 R36: the steps of an activation of the reserve `x` in place of the site `r` -/

section
variable {x : SiteId} {r n : Nat} {m : Bool}

/-- A step of no activation, or of one that has done another number of steps. -/
theorem State.actAt_idle {n k : Nat} (h : s.gaz.act = none ∨ s.gaz.act = some ⟨n, some x.val, r, m⟩ ∧ n ≠ k) : s.actAt k = none := by
  rcases h with h | ⟨h, hn⟩
  · exact State.actAt_none h
  · exact State.actAt_other h hn

theorem State.actAt_due {k : Nat} (h : s.gaz.act = some ⟨k, some x.val, r, m⟩) : s.actAt k = some ⟨k, some x.val, r, m⟩ :=
  State.actAt_some h rfl rfl

theorem State.poweredUp_changes {a : Activation} {cs : List Nat} : ChangesOnly [.gaz, .pwr, .clusters] s ((s.actStep a n).coresUp cs) :=
  ChangesOnly.trans (State.modGaz_changes (by decide)) (State.coresUp_changes.mono (by decide))

theorem State.poweredUp_gaz {a : Activation} {cs : List Nat} :
    ((s.actStep a n).coresUp cs).gaz = { s.gaz with act := some { a with step := n } } := State.coresUp_changes .gaz (by decide)

/-- R36 step 2 of an automatic activation. -/
theorem reservePowerUp_auto (ha : s.gaz.act = none) (hp : s.obj 0x3010 0 = 1 ∨ s.obj 0x3010 0 = 2) (hl : s.gaz.sitesIn.length < 180)
    (hr : s.gaz.unreplaced (s.obj 0x3010 0) = some r) (hx : (s.gaz.site x).status = 2) (hrow : siteRow x = siteRow r)
    (hfirst : ∀ y, y < x.val → siteRow y = siteRow r → (s.gaz.site y).status ≠ 2) (hw : s.pwr.inwin.testBit 9 = true) (hq : s.pwr.seq = 3) :
    Completes .reservePowerUp s fun u => u.gaz = { s.gaz with act := some ⟨2, some x, r, false⟩ } ∧ ChangesOnly [.gaz, .pwr, .clusters] s u :=
  ⟨_, execReservePowerUp_some (State.nextActivation_auto ha hl hr (Gaz.chooseReserve_row hp hx hrow hfirst)) hw hq, State.poweredUp_gaz,
    State.poweredUp_changes⟩

/-- R36 step 2 of a requested activation: each domain of the reserve awaits its token. -/
theorem reservePowerUp_asked (h : s.gaz.act = some ⟨1, some x, r, m⟩) (hw : s.pwr.inwin.testBit 9 = true) (hq : s.pwr.seq = 3) :
    Completes .reservePowerUp s fun u => u.gaz = { s.gaz with act := some ⟨2, some x, r, m⟩ } ∧
      (∀ d, u.pwr.dom d = if d / 8 = x.val ∧ (s.gaz.cluster d).status = 2 then (s.pwr.dom d).awaiting else s.pwr.dom d) ∧
      (∀ d, u.cl d = if d / 8 = x.val ∧ (s.gaz.cluster d).status = 2 then (s.cl d).kept else s.cl d) ∧ ChangesOnly [.gaz, .pwr, .clusters] s u := by
  refine ⟨_, execReservePowerUp_some (State.nextActivation_asked h rfl rfl) hw hq, State.poweredUp_gaz, fun d => ?_, fun d => ?_, State.poweredUp_changes⟩
  · rw [State.coresUp_dom _ (s.actStep _ 2) d (s.nodup_reserveClusters _) hw]
    simp only [State.mem_reserveClusters]; rfl
  · rw [State.coresUp_cl]
    simp only [State.mem_reserveClusters]; rfl

/-- A cluster of the reserve that the activation brings along. -/
def State.Live (s : State) (x : SiteId) (i : Nat) : Prop := i < 8 ∧ (s.gaz.cluster (8 * x + i)).status = 2

theorem State.testedClusters_any {p : Nat → Bool} : ((s.testedClusters x).any fun n => p (8 * x + n.val)) = true ↔ ∃ i, s.Live x i ∧ p (8 * x + i) = true := by
  simp only [List.any_eq_true, State.mem_testedClusters, State.Live]
  exact ⟨fun ⟨i, h, hp⟩ => ⟨i, ⟨i.isLt, h⟩, hp⟩, fun ⟨i, ⟨hi, h⟩, hp⟩ => ⟨⟨i, hi⟩, h, hp⟩⟩

/-- R36 step 3 waits for a domain that is not on yet. -/
theorem reserveSelfTest_waits (h : s.gaz.act = some ⟨2, some x, r, m⟩) (h3 : ∃ i, s.Live x i ∧ (s.pwr.dom (8 * x + i)).state ≠ 3)
    (h4 : ∀ i, s.Live x i → (s.pwr.dom (8 * x + i)).state ≠ 4) : exec (.reserveSelfTest []) s = .next s := by
  have none4 : ¬ ((s.testedClusters x).any fun n => (s.pwr.dom (8 * x + n.val)).state == 4) = true := by
    rw [State.testedClusters_any (p := fun c => (s.pwr.dom c).state == 4)]
    rintro ⟨i, hl, hi⟩
    exact h4 i hl (by simpa using hi)
  have some3 : ((s.testedClusters x).any fun n => (s.pwr.dom (8 * x + n.val)).state != 3) = true := by
    rw [State.testedClusters_any (p := fun c => (s.pwr.dom c).state != 3)]
    obtain ⟨i, hl, hi⟩ := h3
    exact ⟨i, hl, by simpa using hi⟩
  rw [exec_reserveSelfTest, execReserveSelfTest_some (State.actAt_due h) rfl, if_neg none4, if_pos some3]

/-- R36 step 3: every domain of the reserve is on. -/
theorem reserveSelfTest_passes (h : s.gaz.act = some ⟨2, some x, r, m⟩) (hl : ∃ i, s.Live x i)
    (h3 : ∀ i, s.Live x i → (s.pwr.dom (8 * x + i)).state = 3) :
    exec (.reserveSelfTest []) s = .next ((s.modDiag fun d => d.report 0 (tickOf s.mcount % 2 ^ 32)).modGaz fun g =>
      { g with act := some ⟨3, some x, r, m⟩ }) := by
  have none4 : ¬ ((s.testedClusters x).any fun n => (s.pwr.dom (8 * x + n.val)).state == 4) = true := by
    rw [State.testedClusters_any (p := fun c => (s.pwr.dom c).state == 4)]
    rintro ⟨i, hl, hi⟩
    simp [h3 i hl] at hi
  have none3 : ¬ ((s.testedClusters x).any fun n => (s.pwr.dom (8 * x + n.val)).state != 3) = true := by
    rw [State.testedClusters_any (p := fun c => (s.pwr.dom c).state != 3)]
    rintro ⟨i, hl, hi⟩
    simp [h3 i hl] at hi
  have notAll : ¬ ((s.testedClusters x).all fun n => (s.gaz.cluster (8 * x + n.val)).status == 4) = true := by
    obtain ⟨i, hi, h2⟩ := hl
    intro hall
    have := List.all_eq_true.1 hall ⟨i, hi⟩ (State.mem_testedClusters.2 h2)
    simp [h2] at this
  rw [exec_reserveSelfTest, execReserveSelfTest_some (State.actAt_due h) rfl, if_neg none4, if_neg none3, if_neg notAll]
  rfl

/-- R36 step 3: a domain of the reserve has faulted. -/
theorem reserveSelfTest_fails (h : s.gaz.act = some ⟨2, some x, r, m⟩) (h4 : ∃ i, s.Live x i ∧ (s.pwr.dom (8 * x + i)).state = 4)
    (h2 : (s.gaz.site x).status = 2) (hp : s.obj 0x3010 0 = 0) : Completes (.reserveSelfTest []) s (State.ReserveFailed · x) := by
  have some4 : ((s.testedClusters x).any fun n => (s.pwr.dom (8 * x + n.val)).state == 4) = true := by
    rw [State.testedClusters_any (p := fun c => (s.pwr.dom c).state == 4)]
    obtain ⟨i, hl, hi⟩ := h4
    exact ⟨i, hl, by simpa using hi⟩
  exact ⟨_, by rw [exec_reserveSelfTest, execReserveSelfTest_some (State.actAt_due h) rfl, if_pos some4], State.activationFails_ends rfl h2 hp⟩

/-- R36 step 5 waits for a free slot and a T_sw at a tick, 200 microseconds ahead or more. -/
theorem reserveEdition_waits {rt : RouteTables} {tsw : Word} (h : s.gaz.act = some ⟨4, some x, r, m⟩)
    (hw : s.slotFree = false ∨ tsw.toNat % 100000 ≠ 0 ∨ tsw.toNat < s.mcount + 200000) : exec (.reserveEdition rt tsw) s = .next s := by
  have hc : (!s.slotFree || !decide (tsw.toNat % 100000 = 0 ∧ s.mcount + 200000 ≤ tsw.toNat)) = true := by
    rcases hw with hw | hw | hw
    · simp [hw]
    · simp [hw]
    · simp [show ¬ s.mcount + 200000 ≤ tsw.toNat by omega]
  rw [exec_reserveEdition, execReserveEdition_some (State.actAt_due h) rfl, if_pos hc]

/-- R36 step 5: the edition with the reserve is armed, or refused by its checks. -/
theorem reserveEdition_armed {rt : RouteTables} {tsw : Word} (h : s.gaz.act = some ⟨4, some x, r, m⟩) (hf : s.slotFree = true)
    (ht : tsw.toNat % 100000 = 0) (hm : s.mcount + 200000 ≤ tsw.toNat)
    (hj : (s.modGaz (s.activated ⟨4, some x, r, m⟩ x)).gaz.siteJoined x = true) (ho : (s.modGaz (s.activated ⟨4, some x, r, m⟩ x)).editionOk rt = true) :
    Completes (.reserveEdition rt tsw) s fun u => u.gaz = { s.gaz with act := some ⟨5, some x, r, m⟩ } ∧
      (∀ y, y < 192 → (u.delta.router y).tsw = tsw ∧ (u.delta.router y).armed = true) ∧ u.delta.tabs s.nextSlot = rt ∧
      u.delta.tabs (!s.nextSlot) = s.delta.tabs (!s.nextSlot) ∧ ChangesOnly [.gaz, .delta, .ten] s u := by
  have hd : ((s.install rt tsw).actStep ⟨4, some x, r, m⟩ 5).delta = (s.install rt tsw).delta := State.actStep_changes .delta (by decide)
  have hg : (s.install rt tsw).gaz = s.gaz := State.install_changes .gaz (by decide)
  refine ⟨(s.install rt tsw).actStep ⟨4, some x, r, m⟩ 5, by rw [exec_reserveEdition, execReserveEdition_some (State.actAt_due h) rfl,
    if_neg (by simp [hf, ht, hm]), if_neg (by rw [hj, ho]; decide)], ?_, fun y hy => ?_, ?_, ?_, ?_⟩
  · rw [State.actStep, State.modGaz_gaz, hg]
  · rw [hd]; exact State.install_router hy
  · rw [hd]; exact State.install_tabs.1
  · rw [hd]; exact State.install_tabs.2
  · exact (State.install_changes.mono (by decide)).trans (State.modGaz_changes (by decide))

theorem reserveEdition_fails {rt : RouteTables} {tsw : Word} (h : s.gaz.act = some ⟨4, some x, r, m⟩) (hf : s.slotFree = true)
    (ht : tsw.toNat % 100000 = 0) (hm : s.mcount + 200000 ≤ tsw.toNat)
    (hj : (s.modGaz (s.activated ⟨4, some x, r, m⟩ x)).gaz.siteJoined x = false ∨ (s.modGaz (s.activated ⟨4, some x, r, m⟩ x)).editionOk rt = false)
    (h2 : (s.gaz.site x).status = 2) (hp : s.obj 0x3010 0 = 0) : Completes (.reserveEdition rt tsw) s (State.ReserveFailed · x) :=
  ⟨_, by rw [exec_reserveEdition, execReserveEdition_some (State.actAt_due h) rfl, if_neg (by simp [hf, ht, hm]), if_pos (by simpa using hj)],
    State.activationFails_ends rfl h2 hp⟩

/-- R36 step 6 waits until the edition is current at every site in service. -/
theorem activationComplete_waits (h : s.gaz.act = some ⟨5, some x, r, m⟩) (hy : ∃ y ∈ s.gaz.sitesIn, (s.delta.router y).armed = true) :
    exec .activationComplete s = .next s := by
  rw [exec_activationComplete, execActivationComplete_some (State.actAt_due h) rfl, if_pos (by simpa [List.any_eq_true] using hy)]

/-- R35: with 180 sites in service again the reserve stays one, its cores off. -/
theorem activationComplete_ends (h : s.gaz.act = some ⟨5, some x, r, m⟩) (hy : ∀ y ∈ s.gaz.sitesIn, (s.delta.router y).armed = false)
    (hl : 180 ≤ s.gaz.sitesIn.length) : Completes .activationComplete s fun u => u.gaz = { s.gaz with act := none } ∧
      (∀ i, i < 8 → (u.pwr.dom (8 * x + i)).state = 0 ∧ u.cl (8 * x + i) = (s.cl (8 * x + i)).kept) ∧
      (∀ d, d / 8 ≠ x.val → u.pwr.dom d = s.pwr.dom d ∧ u.cl d = s.cl d) ∧ ChangesOnly [.gaz, .pwr, .clusters] s u := by
  refine ⟨_, by rw [exec_activationComplete, execActivationComplete_some (State.actAt_due h) rfl, if_neg (by simpa using hy), if_pos hl,
    State.activationEnds_eq rfl], ?_, fun i hi => ?_, fun d hd => ?_, ?_⟩
  · have hg : (s.coresOff (span (8 * x) 8)).gaz = s.gaz := State.coresOff_changes .gaz (by decide)
    rw [State.modGaz_gaz, hg]
  · have hin : 8 * x.val + i ∈ span (8 * x) 8 := mem_siteClusters.2 (by omega)
    rw [State.modGaz_pwr, State.modGaz_cl, State.coresOff_dom, State.coresOff_cl, if_pos hin, if_pos hin]
    exact ⟨rfl, rfl⟩
  · have hout : d ∉ span (8 * x) 8 := fun hm => hd (mem_siteClusters.1 hm)
    rw [State.modGaz_pwr, State.modGaz_cl, State.coresOff_dom, State.coresOff_cl, if_neg hout, if_neg hout]
    exact ⟨rfl, rfl⟩
  · exact (State.coresOff_changes.mono (by decide)).trans (State.modGaz_changes (by decide))

/-- R36 step 6: the reserve is in service. -/
theorem activationComplete_joins (h : s.gaz.act = some ⟨5, some x, r, m⟩) (hy : ∀ y ∈ s.gaz.sitesIn, (s.delta.router y).armed = false)
    (hl : s.gaz.sitesIn.length < 180) (hj : (s.activated ⟨5, some x, r, m⟩ x s.gaz).siteJoined x = true)
    (hk : ∀ y ∈ (s.activated ⟨5, some x, r, m⟩ x s.gaz).sitesIn, y ∈ (s.activated ⟨5, some x, r, m⟩ x s.gaz).kept s.fw.active) :
    Completes .activationComplete s fun u => (u.gaz.site x).status = 0 ∧ (u.gaz.site x).reason = 10 ∧ (u.gaz.site x).replaces = r ∧
      u.gaz.act = none ∧ u.gaz.gen = s.gaz.gen + 1 ∧
      ∀ i, i < 8 → (u.gaz.cluster (8 * x + i)).status = if (s.gaz.cluster (8 * x + i)).status = 2 then 0 else (s.gaz.cluster (8 * x + i)).status := by
  refine ⟨_, by rw [exec_activationComplete, execActivationComplete_some (State.actAt_due h) rfl, if_neg (by simpa using hy),
    if_neg (Nat.not_le.2 hl), if_neg (by simp [hj])], ?_⟩
  have hg : ((s.enterActivated ⟨5, some x, r, m⟩ x).linksJoin x).gaz = (s.enterActivated ⟨5, some x, r, m⟩ x).gaz :=
    State.linksJoin_changes .gaz (by decide)
  simp only [hg]
  obtain ⟨h0, h10, hr, ha, hgen, hc⟩ := State.enterActivated_gaz hk
  exact ⟨h0, h10, hr, ha, hgen, fun i hi => hc ⟨8 * x.val + i, by omega⟩ (by simp only; omega)⟩

/-- R36 step 6: a reserve that joins nothing fails. -/
theorem activationComplete_fails (h : s.gaz.act = some ⟨5, some x, r, m⟩) (hy : ∀ y ∈ s.gaz.sitesIn, (s.delta.router y).armed = false)
    (hl : s.gaz.sitesIn.length < 180) (hj : (s.activated ⟨5, some x, r, m⟩ x s.gaz).siteJoined x = false)
    (h2 : (s.gaz.site x).status = 2) (hp : s.obj 0x3010 0 = 0) : Completes .activationComplete s (State.ReserveFailed · x) :=
  ⟨_, by rw [exec_activationComplete, execActivationComplete_some (State.actAt_due h) rfl, if_neg (by simpa using hy), if_neg (Nat.not_le.2 hl),
    if_pos (by simp [hj])], State.activationFails_ends rfl h2 hp⟩

end

end Sys2Proof.Machine
end

section
/-!
PROOFS. The change sets and the activation of a reserve.
-/
namespace Sys2Proof.Machine

/-- Settles O50, clause by clause from the lemmas on each command. -/
theorem reservesAreActivatedStepByStep : Obligations.ReservesAreActivatedStepByStep := by
  unfold Obligations.ReservesAreActivatedStepByStep
  refine ⟨fun e d k st s => ?_, fun site r s => ?_, fun x r n m bt rt tsw s => ?_⟩
  · refine ⟨rfl, changeSet_swap, fun w => changeSet_unit_refused, fun b l hu => ⟨changeSet_lane_refused hu, changeSet_lane_lost hu⟩,
      fun c bank sub col spare hu => ⟨changeSet_column_refused hu, changeSet_column_entered hu⟩, fun hr hu ok => ?_, ?_⟩
    · exact ⟨_, changeSet_unit_leaves hu hr ok, State.applyGaz_stackLeaves (transitionOk_ne ok) (transitionOk_leaves ok hr)⟩
    · rintro n rfl
      refine ⟨fun h => expertStatusCommand_refused (State.expertStatus_refused h), fun hst ok => expertStatusCommand_stackLeaves (by omega) ok,
        fun h0 h1 h9 => ?_, fun h0 h1 h9 => ?_, fun x h0 hl => ?_⟩
      · exact expertStatusCommand_ok (by rw [h0]; exact State.expertStatus_stackReturns h1 h9)
      · exact expertStatusCommand_refused (State.expertStatus_refused (by rw [h0, Gaz.status, h1]; exact transitionOk_unmask h9))
      · exact expertStatusCommand_refused (by rw [h0]; exact State.expertStatus_full hl)
  · refine ⟨fun h => reserveActivate_told (State.reserveActivate_busy h) (by decide), fun ha h => ?_, fun ha hn h2 hl hr hmin => ?_⟩
    · refine reserveActivate_told (State.reserveActivate_refused ha ?_) (by decide)
      rcases h with h | h | h | h
      · exact .inl h
      · exact .inr (.inl h)
      · exact .inr (.inr (.inl h))
      · exact .inr (.inr (.inr (List.eq_nil_iff_forall_not_mem.2 fun y hy => h y (Gaz.mem_leftSites.1 hy))))
    · exact reserveActivate_taken ha hn h2 hl (Gaz.replacedByManual_eq (Gaz.mem_leftSites.2 hr) fun y hy => hmin y (Gaz.mem_leftSites.1 hy))
  · intro c a at_ failed
    refine ⟨fun ha h => reservePowerUp_idle (State.nextActivation_none ha h), fun ha hn => reservePowerUp_idle (State.nextActivation_done ha hn),
      reservePowerUp_auto, reservePowerUp_asked, fun h => reserveSelfTest_idle (State.actAt_idle h), ?_,
      fun h => reserveLinkTraining_idle (State.actAt_idle h), ?_, fun h => reserveEdition_idle (State.actAt_idle h), ?_,
      fun h => activationComplete_idle (State.actAt_idle h), ?_⟩
    · exact fun h => ⟨reserveSelfTest_waits h, reserveSelfTest_passes h, reserveSelfTest_fails h⟩
    · exact fun h => ⟨reserveLinkTraining_nil (State.actAt_due h), reserveLinkTraining_one (State.actAt_due h) rfl⟩
    · exact fun h => ⟨reserveEdition_waits h, fun hf ht hm => ⟨reserveEdition_armed h hf ht hm, reserveEdition_fails h hf ht hm⟩⟩
    · exact fun h => ⟨activationComplete_waits h, activationComplete_ends h, fun hy hl => ⟨activationComplete_joins h hy hl, activationComplete_fails h hy hl⟩⟩

end Sys2Proof.Machine
end

section
/-!
PROOFS. The panel after reset.
-/
namespace Sys2Proof.Machine

/-- 01 R31 (log entry 20): a unit is shipped in service or as a reserve. -/
theorem reset_status (u : GUnit) : State.reset.gaz.status u ≠ 1 := by
  cases u with
  | site x =>
    change (shippedSite x).status ≠ 1
    unfold shippedSite
    split <;> decide
  | cluster c =>
    change (shippedCluster c).status ≠ 1
    unfold shippedCluster
    split <;> decide
  | stack k => exact Nat.zero_ne_one
  | engine n => exact Nat.zero_ne_one
  | braid b =>
    change (shippedBraid b).status ≠ 1
    simp only [shippedBraid]
    split <;> decide

/-- 04 R120, R121, 05 R144, 08 R244, 21 R571 (log entries 1, 5): every cluster is as an unlisted one. -/
theorem reset_cluster (c : ClusterId) : let k := State.reset.cl c
    k.sq.statWord = 0 ∧ k.sq.causeWord = 0 ∧ (∀ r : Reg, State.reset.g c r = 0) ∧ k.mx.statWord = 0 ∧ k.mx.even = 6 ∧ k.mx.bankWord = 0 ∧
    k.vx.stat = 0 ∧ k.vx.even = 12 ∧ k.sx.statWord = 0 ∧ k.spd.scrubEn = true ∧ k.spd.scrubDiv = 8 ∧ k.spd.statWord = 0 ∧
    (∀ a, Memory.read k.spd.mem a = 0) ∧ (State.reset.pwr.dom c).word = 0 := by
  intro k
  rw [show k = {} from rfl, show State.reset.pwr.dom c = {} from rfl]
  exact ⟨by decide, by decide, fun _ => rfl, by decide, by decide, by decide, by decide, by decide, by decide, by decide, by decide, by decide,
    fun _ => rfl, by decide⟩

/-- 09 R288, R290, 21 R571, 22 R593: the registers of a site. -/
theorem reset_site (x : SiteId) : let r := State.reset.delta.router x
    r.statWord = 0 ∧ r.thresh = 128 ∧ r.timeout = 10 ∧ r.window = 32 ∧ r.tlmK = 12 ∧ (∀ p, (r.port p).maxpay = 5 ∧ (r.port p).en = false) ∧
    (State.reset.clkSite x).target = 8 ∧ (State.reset.clkSite x).tcap = none ∧ (State.reset.clkSite x).mcap = none ∧ (State.reset.clkSite x).cur = 0 ∧
    (State.reset.clkSite x).thmWord = 0 ∧ State.reset.pwr.siteWord 0 x = 0 := by
  have hp : State.reset.pwr.siteWord 0 x = Power.siteWord {} 0 0 := rfl
  intro r
  rw [show r = {} from rfl, show State.reset.clkSite x = {} from rfl, hp]
  exact ⟨by decide, by decide, by decide, by decide, by decide, fun _ => ⟨rfl, rfl⟩, by decide, by decide, by decide, by decide, by decide, by decide⟩

/-- 10 R310: the registers of an end of a braid. -/
theorem reset_levEnd (b : Nat) (hi : Bool) : State.reset.levEnd b hi = {} := by cases hi <;> rfl

/-- 11 R335 to R337: the registers of a stack, whose memory reads 0. -/
theorem reset_stack (k : Nat) : (State.reset.stk k).statWord = 0 ∧ (State.reset.stk k).mthr = 40 ∧ (State.reset.stk k).cap = 64000 ∧
    ∀ a, Memory.read (State.reset.stk k).mem a = 0 := by
  rw [show State.reset.stk k = {} from rfl]
  exact ⟨by decide, by decide, by decide, fun _ => rfl⟩

/-- 12 R371: the registers of a Larre port. -/
theorem reset_lport (n p : Nat) : (State.reset.lport n p).statWord = 0 ∧ (State.reset.lport n p).rto = 8 ∧ (State.reset.lport n p).uncthr = 16 ∧
    (State.reset.lport n p).ackus = 10 := by
  rw [show State.reset.lport n p = {} from rfl]
  decide

/-- 13 R402: the time base of every die is unlocked. -/
theorem reset_die (d : Nat) : (State.reset.mer.die d).statWord = 0 := by
  rw [show State.reset.mer.die d = {} from rfl]
  decide

/-- 22 R595: no site and no stack is hot. -/
theorem reset_thmPstat : State.reset.thmPstat = 0 := by
  have cool : ∀ k, (State.reset.stk k).band = 0 := fun _ => rfl
  have none_hot : ((List.range 48).filter fun k => (State.reset.gaz.stack k).status == 0 && (State.reset.stk k).band == 2) = [] := by simp [cool]
  rw [State.thmPstat, none_hot]
  rfl

/-- Settles O56: no table of the panel after reset lists a unit, so that every unit reads the reset values of its own record. -/
theorem resetLeavesTheRegistersAsTheirRulesSay : Obligations.ResetLeavesTheRegistersAsTheirRulesSay := by
  unfold Obligations.ResetLeavesTheRegistersAsTheirRulesSay
  intro s
  refine ⟨rfl, List.forall_mem_nil _, ⟨List.forall_mem_nil _, List.forall_mem_nil _⟩, rfl, rfl, by decide, reset_status, fun _ => rfl, fun _ => rfl,
    reset_cluster, reset_site, fun b hi => ?_, reset_stack, reset_lport, fun _ => rfl, by decide, reset_die, by decide, by decide, by decide, by decide,
    by decide, by decide, by decide, by decide, reset_thmPstat, by decide, rfl, rfl, rfl, rfl, rfl, rfl⟩
  rw [show s.levEnd b hi = {} from reset_levEnd b hi]
  decide

end Sys2Proof.Machine
end

section
/-!
SUPPORT. What the product array and the read-out unit read and write in a scratchpad without errors (04 R106, R115; 08 R224, R225).
-/
namespace Sys2Proof.Machine

/-- 08 R224: the memory is canonical and no word holds an error. -/
def Spd.Clean (p : Spd) : Prop := Memory.wf p.mem = true ∧ ∀ w, Tbl.get 0 p.bad w = 0

theorem State.spdClean_iff {s : State} {c : Nat} : s.SpdClean c ↔ (s.cl c).spd.Clean := Iff.rfl

variable {c : Cluster} {p q : Spd}

/-- A read of a scratchpad without errors gives its bytes and leaves the cluster as it is. -/
theorem Cluster.rd_clean (h : c.spd.Clean) (port off len : Nat) : c.rd port off len = (Memory.readN c.spd.mem off len, c) := by
  simp [Cluster.rd, Spd.read_clean fun w _ => h.2 w, Function.comp_def]

/-- Row `r` of an operand as the memory holds it: its element bytes and its scale bytes as numbers (R109). -/
def rowData (m : List Host.Cell) (d : OpDesc) (k r : Nat) : Nat × Nat :=
  (leNat (Memory.readN m (rowAt d.base d.stripe d.pitch r) (rowBytes d.fmt k)),
   if isScaled d.fmt then leNat (Memory.readN m (d.sbase + r * d.spitch) (nBlocks d.fmt k)) else 0)

/-- The lines that hold `n` bytes from `a` on, cut to these bytes (R106). -/
theorem Memory.readN_lines (m : List Host.Cell) (a n : Nat) :
    ((Memory.readN m (a / 64 * 64) (cdiv (a % 64 + n) 64 * 64)).drop (a % 64)).take n = Memory.readN m a n := by
  rw [Memory.readN_slice _ _ _ _ _ (by unfold cdiv; omega), Nat.div_add_mod']

theorem Cluster.opRow_clean (h : c.spd.Clean) (d : OpDesc) (k r : Nat) : c.opRow d k r = (rowData c.spd.mem d k r, c) := by
  simp only [Cluster.opRow, Cluster.rd_clean h, Memory.readN_lines, rowData]
  split <;> rfl

theorem Cluster.opRows_clean (h : c.spd.Clean) (d : OpDesc) (k : Nat) :
    ∀ rs, c.opRows d k rs = (rs.map (rowData c.spd.mem d k), c)
  | [] => rfl
  | r :: t => by simp [Cluster.opRows, Cluster.opRow_clean h, Cluster.opRows_clean h d k t]

theorem Spd.Written.clean {off : Nat} {bs : List PByte} (h : p.Written q off bs) (hp : p.Clean) : q.Clean :=
  ⟨h.2.1, fun w => h.2.2.2 w (hp.2 w)⟩

theorem Spd.Written.ueSeen {off : Nat} {bs : List PByte} (h : p.Written q off bs) : q.ueSeen = p.ueSeen := by rw [h.1]

/-- Bytes without poison written to a scratchpad without errors meet no uncorrected word and leave it without errors. -/
theorem Spd.writeP_leaves (h : p.Clean) (port off : Nat) (bs : List Byte) :
    (p.writeP port off (bs.map fun b => (b, false))).1 = false ∧ (p.writeP port off (bs.map fun b => (b, false))).2.Clean ∧
      (p.writeP port off (bs.map fun b => (b, false))).2.ueSeen = p.ueSeen := by
  obtain ⟨hue, hw⟩ := Spd.writeP_clean (port := port) (off := off) (bs := bs.map fun b => (b, false)) h.1 h.2 (by simp)
  exact ⟨hue, hw.clean h, hw.ueSeen⟩

end Sys2Proof.Machine
end

section
/-!
SUPPORT. What the operations on an accumulator entry change of the matrix engine, and what a tile's sums come to (04 R96, R103).
-/
namespace Sys2Proof.Machine

/-- The accumulator entries and the fault record of `x` alone may be others in `y`. -/
def Mx.Accumulates (x y : Mx) : Prop := y = { x with acc := y.acc, fault := y.fault }

variable {x y z : Mx}

theorem Mx.Accumulates.refl (x : Mx) : x.Accumulates x := rfl

theorem Mx.Accumulates.trans (h : x.Accumulates y) (h' : y.Accumulates z) : x.Accumulates z := by
  unfold Mx.Accumulates at *; rw [h', h]

theorem Mx.accumulates_setAcc (x : Mx) (t : Tbl SEntry) : x.Accumulates { x with acc := t } := rfl

theorem Mx.accumulates_record (x : Mx) (code sub entry off : Nat) : x.Accumulates (x.record code sub entry off) := by
  unfold Mx.record; split <;> rfl

@[simp] theorem Mx.record_acc (x : Mx) (code sub entry off : Nat) : (x.record code sub entry off).acc = x.acc := by
  unfold Mx.record; split <;> rfl

/-- R122: an overflow of an entry is recorded or not; the entry set is in place in either case. -/
theorem Mx.accumulates_entry (x : Mx) (ix : Nat) (e : SEntry) (b : Bool) (off : Nat) :
    x.Accumulates (if b then ({ x with acc := Tbl.set x.acc ix e } : Mx).record 4 0 ix off else { x with acc := Tbl.set x.acc ix e }) := by
  split
  · exact (x.accumulates_setAcc _).trans (Mx.accumulates_record ..)
  · exact x.accumulates_setAcc _

variable {fl : Flags} {a : Int} {ix : Nat} {ts : List (FVal × Flags)}

theorem mmaEntry_accumulates : x.Accumulates (mmaEntry x fl a ix ts).1 := Mx.accumulates_entry ..

/-- R103: one entry's sum: the entry takes the terms as one operation, every other entry stays. -/
theorem mmaEntry_acc (i : Nat) : Tbl.get {} (mmaEntry x fl a ix ts).1.acc i =
    if i = ix then ((Tbl.get {} x.acc ix).addTerms a (ts.map (·.1))).1 else Tbl.get {} x.acc i := by
  simp only [mmaEntry]
  split <;> simp [Tbl.get_set]

section
variable {β : Type} {key : β → Nat} {terms : β → List (FVal × Flags)} {l : List β}

/-- The sums of several entries, one after the other, each with its key and its terms. -/
def mmaEntries (a : Int) (key : β → Nat) (terms : β → List (FVal × Flags)) (l : List β) (st : Mx × Flags) : Mx × Flags :=
  l.foldl (fun st b => mmaEntry st.1 st.2 a (key b) (terms b)) st

theorem mmaEntries_accumulates (st : Mx × Flags) : st.1.Accumulates (mmaEntries a key terms l st).1 :=
  List.foldlRecOn (motive := fun q : Mx × Flags => st.1.Accumulates q.1) l _ (Mx.Accumulates.refl _) fun _ h _ _ => h.trans mmaEntry_accumulates

/-- An entry that is none of the keys stays. -/
theorem mmaEntries_acc_other {i : Nat} (h : ∀ b ∈ l, i ≠ key b) (st : Mx × Flags) :
    Tbl.get {} (mmaEntries a key terms l st).1.acc i = Tbl.get {} st.1.acc i :=
  List.foldlRecOn (motive := fun q : Mx × Flags => Tbl.get {} q.1.acc i = Tbl.get {} st.1.acc i) l _ rfl
    fun _ ih b hb => by rw [mmaEntry_acc, if_neg (h b hb), ih]

/-- Where the keys are distinct, the entry of each takes its own terms, once. -/
theorem mmaEntries_acc_key (hl : (l.map key).Nodup) {b : β} (hb : b ∈ l) (st : Mx × Flags) :
    Tbl.get {} (mmaEntries a key terms l st).1.acc (key b) =
      ((Tbl.get {} st.1.acc (key b)).addTerms a ((terms b).map (·.1))).1 := by
  induction l generalizing st with
  | nil => cases hb
  | cons x t ih =>
    obtain ⟨hx, ht⟩ := List.nodup_cons.1 hl
    rcases List.mem_cons.1 hb with rfl | hb'
    · have hother : ∀ y ∈ t, key b ≠ key y := fun y hy e => hx (e ▸ List.mem_map_of_mem hy)
      exact (mmaEntries_acc_other hother _).trans (by rw [mmaEntry_acc, if_pos rfl])
    · have hne : key b ≠ key x := fun e => hx (e ▸ List.mem_map_of_mem hb')
      exact (ih ht hb' _).trans (by rw [mmaEntry_acc, if_neg hne])

end

theorem tileIxs_eq_product (rows cols : Nat) : tileIxs rows cols = List.range rows ×ˢ List.range cols := rfl

theorem mem_tileIxs {rows cols r n : Nat} : (r, n) ∈ tileIxs rows cols ↔ r < rows ∧ n < cols := by
  rw [tileIxs_eq_product, List.mem_product, List.mem_range, List.mem_range]

theorem tileIxs_nodup (rows cols : Nat) : (tileIxs rows cols).Nodup := List.nodup_range.product List.nodup_range

/-- R96: entries of a tile of at most 64 columns have indices of their own. -/
theorem entryIx_inj {accb r n r' n' : Nat} (hn : n < 64) (hn' : n' < 64) (h : entryIx accb r n = entryIx accb r' n') : r = r' ∧ n = n' := by
  unfold entryIx at h; omega

theorem entryIx_nodup (accb rows : Nat) {cols : Nat} (h : cols ≤ 64) :
    ((tileIxs rows cols).map fun rn => entryIx accb rn.1 rn.2).Nodup := by
  refine List.Nodup.map_on (fun p hp q hq e => ?_) (tileIxs_nodup rows cols)
  have hp2 := (mem_tileIxs.1 hp).2
  have hq2 := (mem_tileIxs.1 hq).2
  exact Prod.ext_iff.2 (entryIx_inj (by omega) (by omega) e)

end Sys2Proof.Machine
end

section
/-!
PROOFS. The last k-step of an MMA (04 R96, R100, R103, R105).
-/
namespace Sys2Proof.Machine

theorem Completes.imp {i : Instr} {s : State} {P Q : State → Prop} (h : Completes i s P) (hPQ : ∀ u, P u → Q u) : Completes i s Q :=
  Exists.imp (fun u hu => ⟨hu.1, hPQ u hu.2⟩) h

section
variable {s : State} {c : Nat} {f : Cluster → Cluster}

/-- A cluster changed, with no uncorrected word met: the cluster alone changes. -/
theorem State.modCl_leaves (h : (f (s.cl c)).spd.ueSeen = (s.cl c).spd.ueSeen) :
    (s.modCl c f).cl c = f (s.cl c) ∧ OtherClusters c s (s.modCl c f) ∧ ChangesOnly [.clusters] s (s.modCl c f) := by
  rw [modCl_eq h.le]
  exact ⟨State.setCl_cl_same, fun _ => State.setCl_cl_ne, State.setCl_changes List.mem_cons_self⟩

/-- 08 R242: a zeroization holds the reads of the product array and the accesses of the read-out unit. -/
theorem matrixEnds_held {c : ClusterId} (h : (s.cl c).spd.zRun = true) :
    exec (.mmaLastKstep c) s = .next s ∧ exec (.readoutComplete c) s = .next s := by
  simp [execMmaLastKstep, execReadoutComplete, h]

end

variable {c d : Cluster}

/-- Causes may have become pending; nothing else has changed. -/
def Cluster.Pends (c d : Cluster) : Prop := d = { c with sq := { c.sq with pend := d.sq.pend } }

theorem Cluster.Pends.refl (c : Cluster) : c.Pends c := rfl

theorem Cluster.Pends.trans {e : Cluster} (h : c.Pends d) (h' : d.Pends e) : c.Pends e := by
  unfold Cluster.Pends at *; rw [h', h]

theorem Cluster.Pends.ite {b : Prop} [Decidable b] {e : Cluster} (h : c.Pends d) (h' : c.Pends e) : c.Pends (if b then d else e) := by
  split <;> assumption

theorem Cluster.pendCause_pends (c : Cluster) (k : Cause) (sub : Nat) : c.Pends (c.pendCause k sub) := by
  unfold Cluster.Pends Cluster.pendCause Sqr.pendCause; split <;> rfl

/-- R121: the events of an operation make causes pending. -/
theorem Cluster.mxeEvents_pends (c : Cluster) (fl : Flags) : c.Pends (c.mxeEvents fl) := by
  have hovf := Cluster.Pends.ite (b := (fl.sovf && c.mx.even.getLsbD 1) = true) (c.pendCause_pends .soundingOvf 0) (.refl c)
  exact .ite (hovf.trans (Cluster.pendCause_pends ..)) hovf

/-- Element `i` of row `r` of an operand of K elements a row (R98, R109). -/
def operandElem (m : List Host.Cell) (d : OpDesc) (k r i : Nat) : FVal := elemAt d.fmt (rowData m d k r).1 (rowData m d k r).2 i

/-- R103: the products that entry (r, n) of a tile takes: those of row `r` of A and row `n` of B. -/
def tileProducts (m : List Host.Cell) (ta tb : BitVec 128) (k : Nat) (rn : Nat × Nat) : List (FVal × Flags) :=
  (List.range k).map fun i => prodTerm (operandElem m (opDesc ta) k rn.1 i) (operandElem m (opDesc tb) k rn.2 i)

/-- The sums of the whole tile, in row-major order. -/
def tileSums (m : List Host.Cell) (ta tb : BitVec 128) (accb k : Nat) : Mx × Flags → Mx × Flags :=
  mmaEntries (mmaAnchor ta tb) (fun rn => entryIx accb rn.1 rn.2) (tileProducts m ta tb k) (tileIxs (opDesc ta).rows (opDesc tb).rows)

section
variable {m : List Host.Cell} {ta tb : BitVec 128} {accb k : Nat} {st : Mx × Flags}

theorem tileSums_accumulates : st.1.Accumulates (tileSums m ta tb accb k st).1 := mmaEntries_accumulates st

/-- R96, R103: where the tile has at most 64 columns, each entry of it takes its own products, as one operation. -/
theorem tileSums_acc_entry {r n : Nat} (hcols : (opDesc tb).rows ≤ 64) (hr : r < (opDesc ta).rows) (hn : n < (opDesc tb).rows) :
    Tbl.get {} (tileSums m ta tb accb k st).1.acc (entryIx accb r n) =
      ((Tbl.get {} st.1.acc (entryIx accb r n)).addTerms (mmaAnchor ta tb)
        ((List.range k).map fun i => (prodTerm (operandElem m (opDesc ta) k r i) (operandElem m (opDesc tb) k n i)).1)).1 := by
  have hsum := mmaEntries_acc_key (a := mmaAnchor ta tb) (terms := tileProducts m ta tb k)
    (entryIx_nodup accb (opDesc ta).rows hcols) (mem_tileIxs.2 ⟨hr, hn⟩) st
  rw [tileProducts, List.map_map] at hsum
  exact hsum

theorem tileSums_acc_other {i : Nat} (hi : ∀ r n, r < (opDesc ta).rows → n < (opDesc tb).rows → i ≠ entryIx accb r n) :
    Tbl.get {} (tileSums m ta tb accb k st).1.acc i = Tbl.get {} st.1.acc i :=
  mmaEntries_acc_other (fun _ hrn => hi _ _ (mem_tileIxs.1 hrn).1 (mem_tileIxs.1 hrn).2) st

/-- The sums as the last k-step computes them, from the operands' rows fetched before. -/
theorem tileSums_eq_foldl (accb : Nat) (st : Mx × Flags) :
    (tileIxs (opDesc ta).rows (opDesc tb).rows).foldl (fun (p : Mx × Flags) (rn : Nat × Nat) =>
      mmaEntry p.1 p.2 (mmaAnchor ta tb) (entryIx accb rn.1 rn.2) (List.zipWith prodTerm
        ((((List.range (opDesc ta).rows).map (rowData m (opDesc ta) k)).map
          fun q => (List.range k).map (elemAt (opDesc ta).fmt q.1 q.2)).getD rn.1 [])
        ((((List.range (opDesc tb).rows).map (rowData m (opDesc tb) k)).map
          fun q => (List.range k).map (elemAt (opDesc tb).fmt q.1 q.2)).getD rn.2 []))) st =
      tileSums m ta tb accb k st := by
  refine List.foldl_ext _ _ _ fun p rn hrn => ?_
  obtain ⟨hr, hn⟩ := mem_tileIxs.1 hrn
  simp [tileProducts, operandElem, hr, hn, List.getD_eq_getElem?_getD, List.zipWith_map, List.zipWith_self]

end

/-- R100, R120: the running operation done, the queued one moved up, the sticky bits set. -/
def Mx.mmaDone (st : Mx × Flags) : Mx := { st.1 with arr := st.1.arrQ, arrQ := none, stat := st.1.stat ||| st.2.mxe }

/-- R60, R106: what the fetch of the weights records. -/
def shoalStart (x : Mx) : Option Nat → Mx × Flags
  | some off => (x.record 3 0 0 off, { sinv := true })
  | none => (x, {})

theorem shoalStart_accumulates (x : Mx) (o : Option Nat) : x.Accumulates (shoalStart x o).1 := by
  cases o with
  | none => exact .refl x
  | some off => exact x.accumulates_record ..

theorem shoalStart_acc (x : Mx) (o : Option Nat) : (shoalStart x o).1.acc = x.acc := by cases o <;> simp [shoalStart]

variable {ta tb : BitVec 128} {accb km1 : Nat} {opens : Bool}

/-- The weights' invalid byte that the last k-step finds first. -/
def Cluster.invalidByte (c : Cluster) (tb : BitVec 128) (k : Nat) : Option Nat :=
  firstInvalid (opDesc tb) k ((List.range (opDesc tb).rows).map (rowData c.spd.mem (opDesc tb) k))

/-- R100, R103 to R106: the last k-step with operands free of errors: the sums of the tile, then the events. -/
theorem Cluster.finishMma_eq (harr : c.mx.arr = some ⟨.mma ta tb accb opens km1, true⟩) (hc : c.spd.Clean) :
    let st := tileSums c.spd.mem ta tb accb (km1 + 1) (shoalStart c.mx (c.invalidByte tb (km1 + 1)))
    c.finishMma = ({ c with mx := Mx.mmaDone st } : Cluster).mxeEvents st.2 := by
  simp only [Cluster.finishMma, harr, Cluster.opRows_clean hc]
  rw [← tileSums_eq_foldl]
  cases hb : c.invalidByte tb (km1 + 1) <;>
  · rw [Cluster.invalidByte] at hb
    rw [hb]
    rfl

/-- The last k-step changes the accumulator, its fault record and flags, moves the queued operation up, and makes causes pending. -/
theorem Cluster.finishMma_frame (harr : c.mx.arr = some ⟨.mma ta tb accb opens km1, true⟩) (hc : c.spd.Clean) :
    c.finishMma = { c with
      sq := { c.sq with pend := c.finishMma.sq.pend }
      mx := { c.mx with acc := c.finishMma.mx.acc, fault := c.finishMma.mx.fault, stat := c.finishMma.mx.stat, arr := c.mx.arrQ, arrQ := none } } := by
  have hsum := (shoalStart_accumulates c.mx (c.invalidByte tb (km1 + 1))).trans
    (tileSums_accumulates (m := c.spd.mem) (ta := ta) (tb := tb) (accb := accb) (k := km1 + 1))
  rw [Cluster.finishMma_eq harr hc, Cluster.mxeEvents_pends, Mx.mmaDone, hsum]

/-- R96, R103: the accumulator after the last k-step holds the sums of the tile. -/
theorem Cluster.finishMma_acc (harr : c.mx.arr = some ⟨.mma ta tb accb opens km1, true⟩) (hc : c.spd.Clean) :
    ∃ st : Mx × Flags, st.1.acc = c.mx.acc ∧ c.finishMma.mx.acc = (tileSums c.spd.mem ta tb accb (km1 + 1) st).1.acc := by
  refine ⟨shoalStart c.mx (c.invalidByte tb (km1 + 1)), shoalStart_acc .., ?_⟩
  rw [Cluster.finishMma_eq harr hc, Cluster.mxeEvents_pends]
  rfl

/-- The last k-step of a running MMA, its scratchpad not being zeroized, completes as its cluster's operation. -/
theorem mmaLastKstep_completes {s : State} {c : ClusterId} (hz : (s.cl c).spd.zRun = false)
    (harr : (s.cl c).mx.arr = some ⟨.mma ta tb accb opens km1, true⟩) (hc : s.SpdClean c) :
    Completes (.mmaLastKstep c) s fun u => u.cl c = (s.cl c).finishMma ∧ OtherClusters c s u ∧ ChangesOnly [.clusters] s u :=
  ⟨s.modCl c Cluster.finishMma, by simp [execMmaLastKstep, hz],
    State.modCl_leaves (by rw [Cluster.finishMma_frame harr (State.spdClean_iff.1 hc)])⟩

/-- Settles O57: the indices of a tile of at most 64 columns are distinct, so that each entry takes its own products once. -/
theorem mmaAddsEveryProductOfItsTile : Obligations.MmaAddsEveryProductOfItsTile := by
  unfold Obligations.MmaAddsEveryProductOfItsTile
  intro c ta tb accb km1 opens s x elem
  refine ⟨fun hz => (matrixEnds_held hz).1, fun hz harr hc hcols => (mmaLastKstep_completes hz harr hc).imp fun u ⟨hu, _⟩ => ?_⟩
  obtain ⟨st, hst, hacc⟩ := Cluster.finishMma_acc harr (State.spdClean_iff.1 hc)
  simp only [hu, hacc]
  refine ⟨fun r n hr hn => ?_, fun i hi => ?_⟩
  · rw [tileSums_acc_entry hcols hr hn, hst]; rfl
  · rw [tileSums_acc_other hi, hst]

end Sys2Proof.Machine
end

section
/-!
SUPPORT. The opening of banks, and what the operations of the read-out unit change of the cluster (04 R104, R114 to R118).
-/
namespace Sys2Proof.Machine

/-- A table without the keys that `p` refuses reads the default there, and every other key as before. -/
theorem Tbl.get_filter {α : Type} (d : α) (p : Nat → Bool) (t : Tbl α) (n : Nat) :
    Tbl.get d (t.filter fun e => p e.1) n = if p n then Tbl.get d t n else d := by
  induction t with
  | nil => simp [Tbl.get]
  | cons e t ih =>
    obtain ⟨k, v⟩ := e
    by_cases hn : n = k
    · subst hn; cases hp : p n <;> simp_all [Tbl.get]
    · cases hk : p k <;> simp_all [Tbl.get]

section
variable (x : Mx) (a : Int) (b : Nat)

theorem Mx.openBank_bank (i : Nat) : (x.openBank a b).bank i = if i = b then ⟨a, true, none⟩ else x.bank i := Tbl.get_set ..

/-- R95: a bank has 2048 entries; those of an opened bank are clear, every other one stays. -/
theorem Mx.openBank_acc (i : Nat) : Tbl.get {} (x.openBank a b).acc i = if i / 2048 = b then {} else Tbl.get {} x.acc i := by
  have hmem : (i < b * 2048 ∨ b * 2048 + 2048 ≤ i) ↔ ¬ i / 2048 = b := by omega
  have hfilter := Tbl.get_filter {} (fun j => decide (j < b * 2048 ∨ b * 2048 + 2048 ≤ j)) x.acc i
  simp only [hmem, decide_not, Bool.not_eq_true', decide_eq_false_iff_not, ite_not] at hfilter
  exact hfilter

/-- The banks and the accumulator entries of `x` alone may be others in `y`. -/
def Mx.Opens (x y : Mx) : Prop := y = { x with banks := y.banks, acc := y.acc }

theorem Mx.openBanks_opens (l : List Nat) : x.Opens (l.foldl (fun y b => y.openBank a b) x) :=
  List.foldlRecOn l _ rfl fun y h b _ => by unfold Mx.Opens at *; rw [h]; rfl

theorem Mx.openBanks_bank (l : List Nat) (i : Nat) :
    (l.foldl (fun y b => y.openBank a b) x).bank i = if i ∈ l then ⟨a, true, none⟩ else x.bank i := by
  induction l generalizing x with
  | nil => simp
  | cons b t ih => by_cases ht : i ∈ t <;> simp [ih, Mx.openBank_bank, ht]

theorem Mx.openBanks_acc (l : List Nat) (i : Nat) :
    Tbl.get {} (l.foldl (fun y b => y.openBank a b) x).acc i = if i / 2048 ∈ l then {} else Tbl.get {} x.acc i := by
  induction l generalizing x with
  | nil => simp
  | cons b t ih => by_cases ht : i / 2048 ∈ t <;> simp [ih, Mx.openBank_acc, ht]

end

/-- What a read-out operation may change of the matrix engine: entries, banks, the ceiling and the fault record. -/
def Mx.ReadsOut (x y : Mx) : Prop := y = { x with acc := y.acc, banks := y.banks, ceil := y.ceil, fault := y.fault }

variable {x y z : Mx}

theorem Mx.ReadsOut.refl (x : Mx) : x.ReadsOut x := rfl

theorem Mx.ReadsOut.trans (h : x.ReadsOut y) (h' : y.ReadsOut z) : x.ReadsOut z := by
  unfold Mx.ReadsOut at *; rw [h', h]

theorem Mx.Accumulates.readsOut (h : x.Accumulates y) : x.ReadsOut y := by
  unfold Mx.Accumulates at h; unfold Mx.ReadsOut; rw [h]

theorem Mx.readsOut_ceil (x : Mx) (n : Nat) : x.ReadsOut { x with ceil := n } := rfl
theorem Mx.readsOut_banks (x : Mx) (t : Tbl Bank) : x.ReadsOut { x with banks := t } := rfl

/-- A fold whose every step is a read-out operation's, on the matrix engine that `π` finds in its accumulator. -/
theorem Mx.ReadsOut.foldl {σ β : Type} (π : σ → Mx) {g : σ → β → σ} {l : List β} {st : σ} (h : x.ReadsOut (π st))
    (hg : ∀ st b, (π st).ReadsOut (π (g st b))) : x.ReadsOut (π (l.foldl g st)) :=
  List.foldlRecOn (motive := fun q => x.ReadsOut (π q)) l g h fun q hq b _ => hq.trans (hg q b)

/-- A read-out operation takes cluster `c` to `d`: scratchpad and matrix engine alone change, no word of the scratchpad holds an
error, none has met one, and the places of the matrix engine's operations stay. -/
structure Cluster.ReadsOut (c d : Cluster) : Prop where
  cluster : d = { c with spd := d.spd, mx := d.mx }
  mx : c.mx.ReadsOut d.mx
  clean : d.spd.Clean
  ueSeen : d.spd.ueSeen = c.spd.ueSeen

variable {c d e : Cluster}

theorem Cluster.ReadsOut.refl (h : c.spd.Clean) : c.ReadsOut c := ⟨rfl, rfl, h, rfl⟩

theorem Cluster.ReadsOut.trans (h : c.ReadsOut d) (h' : d.ReadsOut e) : c.ReadsOut e :=
  ⟨by rw [h'.cluster, h.cluster], h.mx.trans h'.mx, h'.clean, h'.ueSeen.trans h.ueSeen⟩

theorem Cluster.ReadsOut.setMx (h : c.ReadsOut d) (hx : d.mx.ReadsOut x) : c.ReadsOut { d with mx := x } :=
  h.trans ⟨rfl, hx, h.clean, rfl⟩

theorem Cluster.ReadsOut.wr (h : c.ReadsOut d) (port off : Nat) (bs : List Byte) : c.ReadsOut (d.wr port off bs) := by
  obtain ⟨hue, hclean, hseen⟩ := Spd.writeP_leaves h.clean port off bs
  refine h.trans ?_
  simp only [Cluster.wr, hue]
  exact ⟨rfl, rfl, hclean, hseen⟩

theorem Cluster.ReadsOut.wrWhole (h : c.ReadsOut d) (off : Nat) (bs : List Byte) : c.ReadsOut (d.wrWhole off bs) := by
  obtain ⟨_, hclean, hseen⟩ := Spd.writeP_leaves h.clean 2 off (bs ++ List.replicate ((8 - (off + bs.length) % 8) % 8) 0)
  exact h.trans ⟨rfl, rfl, hclean, hseen⟩

theorem Cluster.ReadsOut.ite {b : Prop} [Decidable b] (h : c.ReadsOut d) (h' : c.ReadsOut e) : c.ReadsOut (if b then d else e) := by
  split <;> assumption

/-- R114, R115: one row of an MREAD: its bytes, its scale bytes, its ceiling, and an overflow of its bias. -/
theorem Cluster.ReadsOut.mreadRow (h : c.ReadsOut d) (dsc : RoDesc) (accb : Nat) (bias : List (Option FVal)) (fl : Flags) (r : Nat) :
    c.ReadsOut (Cluster.mreadRow dsc accb bias (d, fl) r).1 := by
  unfold Cluster.mreadRow
  dsimp -zeta only
  extract_lets a es row c1 c2 x mx0 mx1
  have h1 : c.ReadsOut c1 := h.wrWhole _ _
  have h2 : c.ReadsOut c2 := .ite (h1.wr _ _ _) h1
  have h3 : c2.mx.ReadsOut mx1 := by
    simp only [mx1]
    split
    · exact (Mx.readsOut_ceil ..).trans (Mx.accumulates_record ..).readsOut
    · exact Mx.readsOut_ceil ..
  exact h2.setMx h3

theorem Cluster.ReadsOut.mreadRows (h : c.ReadsOut d) (dsc : RoDesc) (accb : Nat) (bias : List (Option FVal)) (fl : Flags) (rs : List Nat) :
    c.ReadsOut (rs.foldl (Cluster.mreadRow dsc accb bias) (d, fl)).1 :=
  List.foldlRecOn (motive := fun q : Cluster × Flags => c.ReadsOut q.1) rs _ h fun q hq r _ => hq.mreadRow dsc accb bias q.2 r

/-- R114: an MREAD. -/
theorem Cluster.readsOut_runMread (h : c.spd.Clean) (dsc : RoDesc) (accb : Nat) : c.ReadsOut (c.runMread dsc accb).1 := by
  unfold Cluster.runMread
  simp only [Cluster.rd_clean h]
  split <;> exact Cluster.ReadsOut.mreadRows (.refl h) ..

/-- R116: an MSPILL. -/
theorem Cluster.readsOut_runMspill (h : c.spd.Clean) (dsc : RoDesc) (accb cut : Nat) : c.ReadsOut (c.runMspill dsc accb cut).1 := by
  unfold Cluster.runMspill
  extract_lets ixs ent anc ws hdr body c1
  have h1 : c.ReadsOut c1 := (Cluster.ReadsOut.refl h).wrWhole _ _
  split
  · exact (Cluster.ReadsOut.refl h).wrWhole _ _
  · split
    · exact h1.setMx (Mx.accumulates_record ..).readsOut
    · exact h1

/-- R92, R117 step 4: one received word is combined, or discarded with a record. -/
theorem combEntry_accumulates (x : Mx) (fl : Flags) (accb : Nat) (rn : Nat × Nat) (w : RWord) (off : Nat) :
    x.Accumulates (combEntry x fl accb rn w off).1 := by
  unfold combEntry
  extract_lets ix bad
  split
  · exact Mx.accumulates_record ..
  · exact Mx.accumulates_entry ..

/-- R117: an MCOMB: the own partials cut, the cut declared, the words combined. -/
theorem Cluster.readsOut_runMcomb (h : c.spd.Clean) (dsc : RoDesc) (accb cut : Nat) (cutself : Bool) :
    c.ReadsOut (c.runMcomb dsc accb cut cutself).1 := by
  unfold Cluster.runMcomb
  rw [Cluster.rd_clean h]
  refine (Cluster.ReadsOut.refl h).setMx (.foldl Prod.fst (.foldl id ?cut fun _ _ => Mx.readsOut_banks ..)
    fun _ _ => (combEntry_accumulates ..).readsOut)
  show c.mx.ReadsOut (Prod.fst (ite _ _ _))
  split
  · refine .foldl Prod.fst (.refl _) fun st p => ?_
    split
    · exact (Mx.accumulates_entry ..).readsOut
    · exact .refl _
  · exact .refl _

end Sys2Proof.Machine
end

section
/-!
PROOFS. The product array and the read-out unit advance (04 R100, R101, R104, R118, R124).
-/
namespace Sys2Proof.Machine

section
variable {x : Mx} {ta tb : BitVec 128} {accb km1 : Nat} {opens : Bool}

/-- The banks that an MMA opens at its first k-step (R104). -/
def openedBanks (ta : BitVec 128) (accb : Nat) (opens : Bool) : List Nat := if opens then banksOf accb (opDesc ta).rows else []

theorem mem_openedBanks {b : Nat} : b ∈ openedBanks ta accb opens ↔ opens = true ∧ b ∈ banksOf accb (opDesc ta).rows := by
  cases opens <;> simp [openedBanks]

theorem Mx.startMma_eq (h : x.arr = some ⟨.mma ta tb accb opens km1, false⟩) :
    x.startMma = (openedBanks ta accb opens).foldl (fun y b => y.openBank (mmaAnchor ta tb) b)
      { x with arr := some ⟨.mma ta tb accb opens km1, true⟩ } := by
  rw [Mx.startMma, h]; cases opens <;> rfl

/-- R101, R104: the first k-step starts the operation, and alone the banks it opens have a new anchor and clear entries. -/
theorem Mx.startMma_starts (h : x.arr = some ⟨.mma ta tb accb opens km1, false⟩) :
    x.startMma = { x with arr := some ⟨.mma ta tb accb opens km1, true⟩, banks := x.startMma.banks, acc := x.startMma.acc } ∧
      (∀ b, x.startMma.bank b = if opens = true ∧ b ∈ banksOf accb (opDesc ta).rows then ⟨mmaAnchor ta tb, true, none⟩ else x.bank b) ∧
      ∀ i, Tbl.get {} x.startMma.acc i = if opens = true ∧ i / 2048 ∈ banksOf accb (opDesc ta).rows then {} else Tbl.get {} x.acc i := by
  simp only [Mx.startMma_eq h, ← mem_openedBanks]
  exact ⟨Mx.openBanks_opens .., fun b => Mx.openBanks_bank .., fun i => Mx.openBanks_acc ..⟩

end

variable {c : Cluster} {op : MxOp}

/-- R118, R120: the running read-out operation done, the queued one moved up, the sticky bits set. -/
def Mx.roDone (x : Mx) (fl : Flags) : Mx := { x with ro := x.roQ, roQ := none, stat := x.stat ||| fl.mxe }

theorem Cluster.roEvents_pends (c : Cluster) (fl : Flags) (bad : Bool) :
    c.Pends (if bad then (c.mxeEvents fl).pendCause .anchorMismatch 1 else c.mxeEvents fl) :=
  .ite ((c.mxeEvents_pends fl).trans (Cluster.pendCause_pends ..)) (c.mxeEvents_pends fl)

/-- R118: a read-out operation does its work, makes room in its unit, and makes causes pending. -/
theorem Cluster.finishRo_steps (hro : c.mx.ro = some ⟨op, true⟩) (hc : c.spd.Clean) :
    ∃ d fl, c.ReadsOut d ∧ ({ d with mx := d.mx.roDone fl } : Cluster).Pends c.finishRo := by
  simp only [Cluster.finishRo, hro]
  cases op with
  | mma => exact ⟨c, {}, .refl hc, Cluster.roEvents_pends _ _ false⟩
  | mread td accb => exact ⟨_, _, Cluster.readsOut_runMread hc (roDesc td) accb, Cluster.roEvents_pends _ _ false⟩
  | mspill td accb cut => exact ⟨_, _, Cluster.readsOut_runMspill hc (roDesc td) accb cut, Cluster.roEvents_pends _ _ false⟩
  | mcomb td accb cut cs => exact ⟨_, _, Cluster.readsOut_runMcomb hc (roDesc td) accb cut cs, Cluster.roEvents_pends _ _ _⟩

/-- R118: the completion leaves the product array and every other unit of the cluster, moves the queued operation up, and meets no
uncorrected word. -/
theorem Cluster.finishRo_frame (hro : c.mx.ro = some ⟨op, true⟩) (hc : c.spd.Clean) :
    c.finishRo = { c with
      spd := c.finishRo.spd
      sq := { c.sq with pend := c.finishRo.sq.pend }
      mx := { c.mx with
        acc := c.finishRo.mx.acc, banks := c.finishRo.mx.banks, ceil := c.finishRo.mx.ceil, fault := c.finishRo.mx.fault
        stat := c.finishRo.mx.stat, ro := c.mx.roQ, roQ := none } } ∧
    c.finishRo.spd.ueSeen = c.spd.ueSeen := by
  obtain ⟨d, fl, hd, hp⟩ := Cluster.finishRo_steps hro hc
  refine ⟨?_, by rw [hp]; exact hd.ueSeen⟩
  rw [hp, Mx.roDone, hd.mx, hd.cluster]

theorem readoutComplete_completes {s : State} {c : ClusterId} (hz : (s.cl c).spd.zRun = false)
    (hro : (s.cl c).mx.ro = some ⟨op, true⟩) (hc : s.SpdClean c) :
    Completes (.readoutComplete c) s fun u => u.cl c = (s.cl c).finishRo ∧ OtherClusters c s u ∧ ChangesOnly [.clusters] s u :=
  ⟨s.modCl c Cluster.finishRo, by simp [execReadoutComplete, hz],
    State.modCl_leaves (Cluster.finishRo_frame hro (State.spdClean_iff.1 hc)).2⟩

variable {s : State}

/-- The matrix engine of one cluster changed: no word is read. -/
theorem State.modCl_mx (c : ClusterId) (f : Mx → Mx) : (s.modCl c fun k => { k with mx := f k.mx }) = s.withMx c f := modCl_eq (Nat.le_refl _)

theorem mmaFirstKstep_completes {c : ClusterId} (h : (s.cl c).sq.engHold = false) :
    Completes (.mmaFirstKstep c) s fun u =>
      u.cl c = { s.cl c with mx := (s.cl c).mx.startMma } ∧ OtherClusters c s u ∧ ChangesOnly [.clusters] s u :=
  ⟨_, by rw [exec_mmaFirstKstep, execMmaFirstKstep, if_neg (by simp [h])], State.modCl_leaves rfl⟩

/-- R108: a read-out operation is ready once no MMA has its banks still to write. -/
theorem Mx.roReady_of {x : Mx} (hro : x.ro = some ⟨op, false⟩)
    (h : ∀ o ∈ x.arr.toList ++ x.arrQ.toList, ∀ b ∈ o.op.banks, b ∉ op.banks) : x.roReady = true := by
  simpa [Mx.roReady, hro, or_imp, forall_and] using h

/-- R118: a read-out operation starts. -/
theorem readoutStart_starts {c : ClusterId} (hro : (s.cl c).mx.ro = some ⟨op, false⟩)
    (h : ∀ o ∈ (s.cl c).mx.arr.toList ++ (s.cl c).mx.arrQ.toList, ∀ b ∈ o.op.banks, b ∉ op.banks) (he : (s.cl c).sq.engHold = false) :
    exec (.readoutStart c) s = .next (s.withMx c fun x => { x with ro := some ⟨op, true⟩ }) := by
  rw [exec_readoutStart, execReadoutStart, if_pos (by simp [Mx.roReady_of hro h, he]), State.modCl_mx, State.withMx, State.withMx, State.withCl,
    State.withCl, Mx.startRo, hro]
  rfl

/-- Settles O15, clause by clause from the lemmas on each command. -/
theorem matrixUnitsAdvance : Obligations.MatrixUnitsAdvance := by
  unfold Obligations.MatrixUnitsAdvance
  intro c ta tb accb km1 opens op s x
  refine ⟨fun harr he => (mmaFirstKstep_completes he).imp fun u ⟨hu, ho, hp⟩ => ?_, matrixEnds_held,
    fun harr hc hz => (mmaLastKstep_completes hz harr hc).imp fun u ⟨hu, ho, hp⟩ => ?_, readoutStart_starts,
    fun hro hc hz => (readoutComplete_completes hz hro hc).imp fun u ⟨hu, ho, hp⟩ => ?_,
    congrArg Host.Outcome.next (State.modCl_mx c fun x => x.readCeil.2), congrArg Host.Outcome.next (modCl_eq (Nat.le_refl _))⟩
  · obtain ⟨hstart, hbank, hacc⟩ := Mx.startMma_starts harr
    simp only [hu]
    exact ⟨congrArg Mx.arr hstart, hbank, hacc, by rw [hstart], ho, hp⟩
  · have hframe := Cluster.finishMma_frame harr (State.spdClean_iff.1 hc)
    rw [← hu] at hframe
    rw [hframe]
    exact ⟨rfl, rfl, rfl, rfl, rfl, rfl, rfl, rfl, rfl, rfl, rfl, rfl, ho, hp⟩
  · have hframe := (Cluster.finishRo_frame hro (State.spdClean_iff.1 hc)).1
    rw [← hu] at hframe
    rw [hframe]
    exact ⟨rfl, rfl, rfl, rfl, rfl, rfl, rfl, rfl, rfl, ho, hp⟩

end Sys2Proof.Machine
end

section
/-!
SUPPORT. The words of the scalar slot that touch no memory: the transfers, holds and stops of a sequencer (06 R162 to R166; 07 R198, R201).
-/
namespace Sys2Proof.Machine

/-! Legal words (06 R162 to R164) -/

/-- R164: a word whose must-be-0 bits are 0, of an opcode that its issuer accepts, is legal. -/
theorem scalarIllegal_none {kind : Nat} {w : Word32} (hs : (decScalar w).sop < 0x3E) (hm : scalarMbz w = false)
    (ha : sopAllowed kind (decScalar w).sop = true) : scalarIllegal kind w = none := by
  simp only [scalarIllegal, hm, ha]
  rw [if_neg (by omega)]
  rfl

section
variable {sop : Nat} {rd rs1 rs2 : Reg} {imm : Half} {off : BitVec 26}

/-- R163: beside the shifts and LIH, words of form I have no bit that must be 0. -/
theorem scalarMbz_encI (h : 0x20 ≤ sop ∧ sop ≤ 0x25 ∨ sop = 0x2A ∨ 0x30 ≤ sop ∧ sop ≤ 0x33) : scalarMbz (encI sop rd rs1 imm) = false := by
  simp only [scalarMbz, isFormR, decScalar_encI (show sop < 64 by omega)]
  rw [if_neg (by omega)]
  simp
  omega

theorem scalarMbz_encJ : scalarMbz (encJ 0x29 off) = false := by
  simp [scalarMbz, isFormR, (decScalar_encJ (off := off) (show 0x29 < 64 by omega)).1]

/-- R164, R201: a word of form R has its low bits 0; some rows name fewer registers. -/
theorem scalarMbz_encR (h : sop = 0x2B ∨ sop = 0x2C ∨ sop = 0x26 ∧ rd.toNat < 16 ∨ (sop = 0x27 ∨ sop = 0x28) ∧ rs1.toNat < 16 ∨
    sop = 0x34 ∧ rd = 0 ∧ rs2 = 0) : scalarMbz (encR sop rd rs1 rs2) = false := by
  rcases h with rfl | rfl | ⟨rfl, h⟩ | ⟨rfl | rfl, h⟩ | ⟨rfl, rfl, rfl⟩ <;> simp [scalarMbz, isFormR, decScalar_encR] <;> omega

/-- R164: TRET and SQEND name no register. -/
theorem scalarMbz_encR_zero (h : sop = 0x2E ∨ sop = 0x2F) : scalarMbz (encR sop 0 0 0) = false := by
  rcases h with rfl | rfl <;> simp [scalarMbz, decScalar_encR]

end

/-! Words that touch no memory -/

section
variable {s : State} {c : ClusterId} {w : Word32}

theorem State.GFree.mono {rs rs' : List Reg} (h : s.GFree c rs) (hs : rs' ⊆ rs) : s.GFree c rs' := fun r hr => h r (hs hr)

/-- 06 R160, R171: the word is legal, makes no access to memory, and no register that it reads is still to be written. -/
structure State.ScalarFree (s : State) (c : ClusterId) (w : Word32) : Prop where
  legal : scalarIllegal (clusterKind c) w = none
  reads : (s.cl c).gHeld (scalarReads w) = false
  noLoad : (decScalar w).sop ≠ 0x20
  noStore : (decScalar w).sop ≠ 0x21

/-- A legal word of a row from 0x22 on that reads the registers `rs`. -/
theorem State.ScalarFree.of_reads {rs : List Reg} (hm : scalarMbz w = false) (ha : sopAllowed (clusterKind c) (decScalar w).sop = true)
    (hs : 0x21 < (decScalar w).sop ∧ (decScalar w).sop < 0x3E) (hr : scalarReads w = rs.map BitVec.toNat) (hg : s.GFree c rs) : s.ScalarFree c w :=
  ⟨scalarIllegal_none hs.2 hm ha, GFree_reads hg hr, by omega, by omega⟩

namespace State.ScalarFree
variable (h : s.ScalarFree c w)
include h

theorem not_held : scalarHeld (s.cl c) w = false := by simp [scalarHeld, h.reads, h.noLoad, h.noStore]

theorem not_stalled : (s.cl c).spd.weirStalls (scalarExtents (s.cl c).sq w) = false := by
  simp [scalarExtents, h.noLoad, h.noStore, weirStalls_nil]

/-- A refused word is entered as a trap. -/
theorem refused {cause : Cause} {sub : Nat} (hr : scalarRefuse (s.cl c).sq w = some (cause, sub)) : scalarWord c w s = s.enterTrap c cause sub :=
  scalarWord_refused h.legal h.not_held hr h.not_stalled

/-- A word not refused has its effect `k`, in which no uncorrected word is met. -/
theorem takes {k : Cluster} (hr : scalarRefuse (s.cl c).sq w = none)
    (hk : scalarExec (clusterKind c) (s.merCopy (c / 8)) (s.dieCount (c / 8)) (s.cl c) (s.cl c) w = k)
    (hu : k.spd.ueSeen = (s.cl c).spd.ueSeen) : scalarWord c w s = s.setCl c k := by
  rw [scalarWord_go h.legal h.not_held hr h.not_stalled, modCl_eq (by rw [hk]; exact hu.le), hk]

end State.ScalarFree
end

/-! Targets (06 R166) -/

theorem jmpTarget_encJ (pc : Nat) (off : BitVec 26) : jmpTarget pc (decScalar (encJ 0x29 off)) = jumpTo pc off.toInt := by
  rw [jmpTarget, (decScalar_encJ (by omega)).2, sext_toInt (by omega)]; rfl

theorem targetRefuse_in {t : Int} (h : InSpd t) : targetRefuse t = none := if_neg (by unfold InSpd at h; omega)
theorem targetRefuse_out {t : Int} (h : ¬ InSpd t) : targetRefuse t = some (.addrBound, 0) := if_pos (by unfold InSpd at h; omega)

end Sys2Proof.Machine
end

section
/-!
PROOFS. The transfers of a sequencer and of a thread (06 R166; 07 R201).
-/
namespace Sys2Proof.Machine

variable {s : State}

/-! A sequencer's JMP and LOOP -/

section
variable {c : ClusterId} {rd : Reg} {imm : Half} {off : BitVec 26}

theorem jmp_sop : (decScalar (encJ 0x29 off)).sop = 0x29 := (decScalar_encJ (by omega)).1

theorem jmp_free : s.ScalarFree c (encJ 0x29 off) :=
  .of_reads (rs := []) scalarMbz_encJ (sopAllowed_seq (by rw [jmp_sop]; omega)) (by rw [jmp_sop]; omega) (by simp [scalarReads, jmp_sop])
    (by simp [State.GFree])

theorem jmp_refuse (q : Sqr) : scalarRefuse q (encJ 0x29 off) = targetRefuse (jumpTo q.pc off.toInt) := by
  simp [scalarRefuse, jmp_sop, jmpTarget_encJ]

/-- R166: JMP. -/
theorem jmp_transfers : let x := jumpTo (s.cl c).sq.pc off.toInt
    (InSpd x → exec (.jmp (.seq c) off) s = .next (s.withSq c fun q => { q with pc := x.toNat })) ∧
    (¬ InSpd x → exec (.jmp (.seq c) off) s = .next (s.enterTrap c .addrBound 0)) := by
  refine ⟨fun hin => congrArg Host.Outcome.next (jmp_free.takes (by rw [jmp_refuse, targetRefuse_in hin]) ?_ (by rfl)),
    fun hout => congrArg Host.Outcome.next (jmp_free.refused (by rw [jmp_refuse, targetRefuse_out hout]))⟩
  simp [scalarExec, jmp_sop, jmpTarget_encJ]

theorem loop_free (hg : s.GFree c [rd]) : s.ScalarFree c (encI 0x2A rd 0 imm) :=
  .of_reads (scalarMbz_encI (by omega)) (sopAllowed_seq (by simp [decScalar_encI])) (by simp [decScalar_encI])
    (by simp [scalarReads, decScalar_encI]) hg

theorem loop_refuse : scalarRefuse (s.cl c).sq (encI 0x2A rd 0 imm) =
    if s.g c rd = 0 then none else targetRefuse (jumpTo (s.cl c).sq.pc imm.toInt) := by
  simp [scalarRefuse, decScalar_encI, loopTarget, immS, sext_toInt, jumpTo, State.g]
  rfl

/-- R166: LOOP counts down and jumps until its counter is 0. -/
theorem loop_transfers (hg : s.GFree c [rd]) : let x := jumpTo (s.cl c).sq.pc imm.toInt
    (s.g c rd = 0 → exec (.loop (.seq c) rd imm) s = .next (s.withCl c id)) ∧
    (s.g c rd ≠ 0 → InSpd x →
      exec (.loop (.seq c) rd imm) s = .next (s.withSq c fun q => { q.setG rd.toNat (s.g c rd - 1) with pc := x.toNat })) ∧
    (s.g c rd ≠ 0 → ¬ InSpd x → exec (.loop (.seq c) rd imm) s = .next (s.enterTrap c .addrBound 0)) := by
  refine ⟨fun h0 => congrArg Host.Outcome.next ((loop_free hg).takes (by rw [loop_refuse, if_pos h0]) ?_ (by rfl)),
    fun h0 hin => congrArg Host.Outcome.next ((loop_free hg).takes (by rw [loop_refuse, if_neg h0, targetRefuse_in hin]) ?_ (by rfl)),
    fun h0 hout => congrArg Host.Outcome.next ((loop_free hg).refused (by rw [loop_refuse, if_neg h0, targetRefuse_out hout]))⟩
  · have h0' : (s.cl c).sq.gpr rd.toNat = 0#64 := h0
    simp [scalarExec, decScalar_encI, h0']
  · have h0' : (s.cl c).sq.gpr rd.toNat ≠ 0#64 := h0
    simp [scalarExec, decScalar_encI, h0', loopTarget, immS, sext_toInt, jumpTo, State.g]

end

/-! A thread's transfers -/

section
variable {site : SiteId} {t : ThreadId} {w : Word32}

theorem State.thread_eq (s : State) (site : SiteId) (t : ThreadId) : (s.cl (sxOf site)).thread t = s.thread site t := rfl

/-- 05 R151, R158: the word is legal for a thread that goes, and makes no access to memory. -/
structure State.ThrFree (s : State) (site : SiteId) (t : ThreadId) (w : Word32) : Prop where
  goes : s.ThrGoes site t
  legal : scalarIllegal 3 w = none
  noAccess : thrAccess (s.thread site t) (decScalar w) = none

namespace State.ThrFree
variable (h : s.ThrFree site t w)
include h

/-- A transfer that is taken jumps to its target inside the scratchpad; `g` is what the word does besides. -/
theorem jumps {x : Int} {g : Thread → Thread} (ht : thrTarget (s.thread site t) (decScalar w) = some x) (hin : InSpd x)
    (he : thrExec ((s.cl (sxOf site)).modThread t fun h => { h with hold := .none }) t w =
      (s.cl (sxOf site)).modThread t fun h => g { h with hold := .none }) :
    threadWord site t w s = s.withThread site t fun h => { g h with pc := x.toNat } := by
  have hhold : (s.cl (sxOf site)).holdOver t = true := h.goes
  have hgate : thrGate (s.cl (sxOf site)) t w = .go := by
    simp [thrGate, h.legal, State.thread_eq, ht, targetRefuse_in hin]
  simp only [threadWord, hhold, hgate, Bool.not_true, Bool.false_eq_true, if_false]
  rw [modCl_eq] <;> simp only [State.thread_eq, ht, he, Cluster.modThread_modThread]
  · rfl
  · exact Nat.le_refl _

/-- A target outside the scratchpad is a fault with code 2. -/
theorem faults {x : Int} (ht : thrTarget (s.thread site t) (decScalar w) = some x) (hout : ¬ InSpd x) :
    threadWord site t w s = s.thrFault site t 2 := by
  have hhold : (s.cl (sxOf site)).holdOver t = true := h.goes
  have hgate : thrGate (s.cl (sxOf site)) t w = .fault 2 := by
    simp [thrGate, h.legal, State.thread_eq, ht, targetRefuse_out hout]
  simp only [threadWord, hhold, hgate]
  rw [modCl_eq]
  · rfl
  · exact Nat.le_refl _

/-- A transfer that is not taken ends the hold alone. -/
theorem passes (ht : thrTarget (s.thread site t) (decScalar w) = none)
    (he : thrExec ((s.cl (sxOf site)).modThread t fun h => { h with hold := .none }) t w =
      (s.cl (sxOf site)).modThread t fun h => { h with hold := .none }) :
    threadWord site t w s = s.withThread site t id := by
  have hhold : (s.cl (sxOf site)).holdOver t = true := h.goes
  have hgate : thrGate (s.cl (sxOf site)) t w = .go := by
    simp [thrGate, h.legal, State.thread_eq, ht, h.noAccess]
  simp only [threadWord, hhold, hgate, Bool.not_true, Bool.false_eq_true, if_false]
  rw [modCl_eq] <;> simp only [State.thread_eq, ht, he]
  · rfl
  · exact Nat.le_refl _

end State.ThrFree

theorem Cluster.thread_modThread_other (k : Cluster) {t t' : Nat} (f : Thread → Thread) (h : t' ≠ t) :
    (k.modThread t f).thread t' = k.thread t' := Tbl.get_mod_other _ _ _ h

/-- A thread changed: every other thread and unit stays. -/
theorem State.withThread_leaves (s : State) (site : SiteId) (t : ThreadId) (f : Thread → Thread) : let u := s.withThread site t f
    u.thread site t = f { s.thread site t with hold := .none } ∧ (∀ t', t' ≠ t → u.thread site t' = s.thread site t') ∧
    (let k := u.cl (sxOf site); let k0 := s.cl (sxOf site); k = { k0 with sx := { k0.sx with thr := k.sx.thr } }) ∧
    OtherClusters (sxOf site) s u ∧ ChangesOnly [.clusters] s u := by
  refine ⟨?_, fun t' ht => ?_, ?_, fun _ => State.setCl_cl_ne, State.setCl_changes List.mem_cons_self⟩
  · simp only [State.withThread, State.thread, State.setCl_cl_same]
    exact Cluster.thread_modThread ..
  · simp only [State.withThread, State.thread, State.setCl_cl_same]
    exact Cluster.thread_modThread_other _ _ fun e => ht (Fin.ext e)
  · simp only [State.withThread, State.setCl_cl_same]
    rfl

variable {rd rs1 : Reg} {imm : Half} {off : BitVec 26}

theorem thr_jmp_free (hgo : s.ThrGoes site t) : s.ThrFree site t (encJ 0x29 off) :=
  ⟨hgo, scalarIllegal_none (by rw [jmp_sop]; omega) scalarMbz_encJ (by rw [jmp_sop]; rfl), by simp [thrAccess, jmp_sop]⟩

/-- R166: a thread's JMP. -/
theorem thr_jmp_transfers (hgo : s.ThrGoes site t) : let x := jumpTo (s.thread site t).pc off.toInt
    (InSpd x → exec (.jmp (.thr site t) off) s = .next (s.withThread site t fun h => { h with pc := x.toNat })) ∧
    (¬ InSpd x → exec (.jmp (.thr site t) off) s = .next (s.thrFault site t 2)) := by
  have ht : thrTarget (s.thread site t) (decScalar (encJ 0x29 off)) = some (jumpTo (s.thread site t).pc off.toInt) := by
    simp [thrTarget, jmp_sop, jmpTarget_encJ]
  exact ⟨fun hin => congrArg Host.Outcome.next ((thr_jmp_free hgo).jumps (g := id) ht hin (by simp [thrExec, jmp_sop])),
    fun hout => congrArg Host.Outcome.next ((thr_jmp_free hgo).faults ht hout)⟩

/-- A word of form I of LOOP or a branch, issued by a thread that goes. -/
theorem thr_encI_free {sop : Nat} (hs : sop = 0x2A ∨ 0x30 ≤ sop ∧ sop ≤ 0x33) (hgo : s.ThrGoes site t) :
    s.ThrFree site t (encI sop rd rs1 imm) := by
  have hsop : (decScalar (encI sop rd rs1 imm)).sop = sop := by rw [decScalar_encI (by omega)]
  refine ⟨hgo, scalarIllegal_none (by omega) (scalarMbz_encI (by omega)) ?_, ?_⟩
  · simp [sopAllowed, hsop]; omega
  · simp only [thrAccess, hsop]
    rw [if_neg (by omega), if_neg (by omega), if_neg (by omega), if_neg (by omega), if_neg (by omega)]

theorem thread_reg (s : State) (site : SiteId) (t : ThreadId) (r : Reg) : (s.thread site t).reg r.toNat = s.x site t r := x_reg s site t r

theorem thrExec_loop (k : Cluster) (t : Nat) : thrExec k t (encI 0x2A rd 0 imm) =
    if (k.thread t).reg rd.toNat = 0 then k else k.modThread t fun h => h.setX rd.toNat ((k.thread t).reg rd.toNat - 1) := by
  simp only [thrExec, decScalar_encI (show 0x2A < 64 by omega)]
  rfl

/-- R166: a thread's LOOP. -/
theorem thr_loop_transfers (hgo : s.ThrGoes site t) : let x := jumpTo (s.thread site t).pc imm.toInt
    (s.x site t rd = 0 → exec (.loop (.thr site t) rd imm) s = .next (s.withThread site t id)) ∧
    (s.x site t rd ≠ 0 → InSpd x → exec (.loop (.thr site t) rd imm) s = .next (s.withThread site t fun h =>
      { h with x := Tbl.set h.x rd.toNat (s.x site t rd - 1), pc := x.toNat })) ∧
    (s.x site t rd ≠ 0 → ¬ InSpd x → exec (.loop (.thr site t) rd imm) s = .next (s.thrFault site t 2)) := by
  have hfree := thr_encI_free (rd := rd) (rs1 := 0) (imm := imm) (sop := 0x2A) (.inl rfl) hgo
  have ht : thrTarget (s.thread site t) (decScalar (encI 0x2A rd 0 imm)) =
      if s.x site t rd = 0 then none else some (jumpTo (s.thread site t).pc imm.toInt) := by
    simp [thrTarget, decScalar_encI, immS, sext_toInt, jumpTo, thread_reg]
  have hreg : (((s.cl (sxOf site)).modThread t fun h => { h with hold := .none }).thread t).reg rd.toNat = s.x site t rd := by
    rw [Cluster.thread_modThread]; exact thread_reg ..
  refine ⟨fun h0 => congrArg Host.Outcome.next (hfree.passes (by rw [ht, if_pos h0]) ?_), fun h0 hin =>
    congrArg Host.Outcome.next (hfree.jumps (g := fun h => { h with x := Tbl.set h.x rd.toNat (s.x site t rd - 1) }) (by rw [ht, if_neg h0]) hin ?_),
    fun h0 hout => congrArg Host.Outcome.next (hfree.faults (by rw [ht, if_neg h0]) hout)⟩
  · rw [thrExec_loop, if_pos (hreg.trans h0)]
  · have hrd : rd.toNat ≠ 0 := fun e => h0 (by rw [← hreg, Thread.reg, if_pos e])
    rw [thrExec_loop, if_neg (fun e => h0 (hreg.symm.trans e)), hreg, Cluster.modThread_modThread]
    simp only [Thread.setX, hrd, if_false]

/-- R201: the target of a branch, by its condition. -/
theorem thrTarget_branch {sop : Nat} (h : 0x30 ≤ sop ∧ sop ≤ 0x33) : let x := s.x site t rd; let y := s.x site t rs1
    thrTarget (s.thread site t) (decScalar (encI sop rd rs1 imm)) =
      if (if sop = 0x30 then x = y else if sop = 0x31 then x ≠ y else if sop = 0x32 then x.toInt < y.toInt else ¬ x.toInt < y.toInt)
      then some (jumpTo (s.thread site t).pc imm.toInt) else none := by
  have htarget : ((s.thread site t).pc : Int) + 16 * immS (decScalar (encI sop rd rs1 imm)) = jumpTo (s.thread site t).pc imm.toInt := by
    rw [immS, decScalar_encI (by omega), sext_toInt (by omega)]; rfl
  obtain rfl | rfl | rfl | rfl : sop = 0x30 ∨ sop = 0x31 ∨ sop = 0x32 ∨ sop = 0x33 := by omega
  all_goals
    rw [thrTarget, htarget]
    simp [decScalar_encI, thread_reg, -not_lt, -Int.not_lt]

/-- R201: each branch row is its word issued by the thread, taken where its condition holds. -/
theorem branchRows_target {row : SiteId → ThreadId → Reg → Reg → Half → Instr} {taken : Word → Word → Bool} (he : (row, taken) ∈ branchRows) :
    ∃ sop, (0x30 ≤ sop ∧ sop ≤ 0x33) ∧ exec (row site t rd rs1 imm) s = .next (threadWord site t (encI sop rd rs1 imm) s) ∧
      thrTarget (s.thread site t) (decScalar (encI sop rd rs1 imm)) =
        if taken (s.x site t rd) (s.x site t rs1) then some (jumpTo (s.thread site t).pc imm.toInt) else none := by
  simp only [branchRows, List.mem_cons, Prod.mk.injEq, List.not_mem_nil, or_false] at he
  rcases he with ⟨rfl, rfl⟩ | ⟨rfl, rfl⟩ | ⟨rfl, rfl⟩ | ⟨rfl, rfl⟩
  · exact ⟨0x30, by omega, rfl, by simp [thrTarget_branch]⟩
  · exact ⟨0x31, by omega, rfl, by simp [thrTarget_branch]⟩
  · exact ⟨0x32, by omega, rfl, by simp [thrTarget_branch]⟩
  · exact ⟨0x33, by omega, rfl, by simp [thrTarget_branch]⟩

/-- R201: a branch jumps where its condition holds, and passes where it does not. -/
theorem branch_transfers {sop : Nat} {taken : Bool} (hs : 0x30 ≤ sop ∧ sop ≤ 0x33) (hgo : s.ThrGoes site t)
    (ht : thrTarget (s.thread site t) (decScalar (encI sop rd rs1 imm)) =
      if taken then some (jumpTo (s.thread site t).pc imm.toInt) else none) : let x := jumpTo (s.thread site t).pc imm.toInt
    (taken = true → InSpd x → threadWord site t (encI sop rd rs1 imm) s = s.withThread site t fun h => { h with pc := x.toNat }) ∧
    (taken = true → ¬ InSpd x → threadWord site t (encI sop rd rs1 imm) s = s.thrFault site t 2) ∧
    (taken = false → threadWord site t (encI sop rd rs1 imm) s = s.withThread site t id) := by
  have hfree := thr_encI_free (rd := rd) (rs1 := rs1) (imm := imm) (.inr hs) hgo
  have hexec (k : Cluster) : thrExec k t (encI sop rd rs1 imm) = k := by
    simp only [thrExec, decScalar_encI (show sop < 64 by omega)]
    (iterate 14 rw [if_neg (by omega)])
  exact ⟨fun h1 hin => hfree.jumps (g := id) (by rw [ht, if_pos h1]) hin (hexec _),
    fun h1 hout => hfree.faults (by rw [ht, if_pos h1]) hout, fun h0 => hfree.passes (by rw [ht, h0]; rfl) (hexec _)⟩

/-- R201: JR jumps to the group that its register names. -/
theorem jr_transfers (hgo : s.ThrGoes site t) : let x := (s.x site t rs1).toNat % 2 ^ 25 / 16 * 16
    (x < spdSize → exec (.jr site t rs1) s = .next (s.withThread site t fun h => { h with pc := x })) ∧
    (spdSize ≤ x → exec (.jr site t rs1) s = .next (s.thrFault site t 2)) := by
  intro x
  have hfree : s.ThrFree site t (encR 0x34 0 rs1 0) := ⟨hgo,
    scalarIllegal_none (by simp [decScalar_encR]) (scalarMbz_encR (by simp)) (by simp [decScalar_encR, sopAllowed]), by simp [thrAccess, decScalar_encR]⟩
  have ht : thrTarget (s.thread site t) (decScalar (encR 0x34 0 rs1 0)) = some (x : Int) := by
    have hx : bits (s.x site t rs1) 24 4 * 16 = x := by simp only [bits, Nat.shiftRight_eq_div_pow, x]; omega
    simp [thrTarget, decScalar_encR, thread_reg, ← hx]
  exact ⟨fun hin => congrArg Host.Outcome.next (hfree.jumps (g := id) ht ⟨by omega, by omega⟩ (by simp [thrExec, decScalar_encR])),
    fun hout => congrArg Host.Outcome.next (hfree.faults ht fun h => by have := h.2; omega)⟩

end

/-- Settles O9, transfer by transfer. -/
theorem transfersSetTheProgramCounter : Obligations.TransfersSetTheProgramCounter := by
  unfold Obligations.TransfersSetTheProgramCounter
  refine ⟨fun c off s => jmp_transfers, fun c rd imm s hg => loop_transfers hg, fun site t rd imm s hgo => ?loop, fun site t off s hgo => thr_jmp_transfers hgo,
    fun ⟨row, taken⟩ he site t rd rs1 imm s hgo => ?branch, fun site t rs1 s hgo => jr_transfers hgo⟩
  case loop =>
    obtain ⟨hzero, hin, hout⟩ := thr_loop_transfers (rd := rd) (imm := imm) hgo
    refine ⟨hzero, fun h0 h => ⟨_, hin h0 h, ?_⟩, hout⟩
    exact State.withThread_leaves ..
  case branch =>
    obtain ⟨sop, hsop, hexec, htarget⟩ := branchRows_target he
    obtain ⟨hin, hout, hpass⟩ := branch_transfers hsop hgo htarget
    rw [hexec]
    exact ⟨fun h1 h => congrArg Host.Outcome.next (hin h1 h), fun h1 h => congrArg Host.Outcome.next (hout h1 h), fun h0 => congrArg Host.Outcome.next (hpass h0)⟩

end Sys2Proof.Machine
end

section
/-!
SUPPORT. The issue point of a sequencer: the fetch of its bundle, and what it meets there (06 R159, R162, R178, R179, R184).
-/
namespace Sys2Proof.Machine

/-! One cluster changed more than once -/

section
variable {s : State} {c : Nat}

theorem State.setCl_setCl (s : State) (c : Nat) (k k' : Cluster) : (s.setCl c k).setCl c k' = s.setCl c k' := by
  simp [State.setCl, Tbl.set_set]

@[simp] theorem State.withCl_cl (f : Cluster → Cluster) : (s.withCl c f).cl c = f (s.cl c) := State.setCl_cl_same

@[simp] theorem State.withCl_withCl (f g : Cluster → Cluster) : (s.withCl c f).withCl c g = s.withCl c fun k => g (f k) := by
  simp [State.withCl, State.setCl_setCl]

/-- A cluster changed, with no uncorrected word met. -/
theorem State.modCl_withCl {f : Cluster → Cluster} (h : (f (s.cl c)).spd.ueSeen = (s.cl c).spd.ueSeen) : s.modCl c f = s.withCl c f := modCl_eq h.le

theorem State.withCl_congr {f g : Cluster → Cluster} (h : f (s.cl c) = g (s.cl c)) : s.withCl c f = s.withCl c g := by
  rw [State.withCl, State.withCl, h]

end

/-! The fetch (06 R159) -/

section
variable {s : State} {c : ClusterId} {b : Bundle}

theorem Cluster.resolveYield_none {k : Cluster} (h : k.sq.hold = .none) : k.resolveYield = k := by simp [Cluster.resolveYield, h]

/-- R178: a running sequencer without a hold, its start count reached, fetches its next bundle; a recorded vector operation that is due does not
go before a handler or a stop. -/
theorem State.bundle_fetches (hi : s.AtIssue c) (hz : (s.cl c).spd.zRun = false)
    (hw : (s.cl c).sq.startWait = false ∨ Nat.max (s.cl c).sq.ebase.toNat (s.cl c).sq.startAt ≤ s.dieCount (c / 8))
    (hr : (s.cl c).vx.resumeDue = false ∨ (s.cl c).sq.inh = true ∨ (s.cl c).sq.stopPend = true) :
    s.bundle c = (s.withCl c id).fetchBundle c := by
  obtain ⟨hrun, hhold⟩ := hi
  have hy : s.modCl c Cluster.resolveYield = s.withCl c id := by
    rw [State.modCl_withCl (by rw [Cluster.resolveYield_none hhold])]
    exact State.withCl_congr (Cluster.resolveYield_none hhold)
  have hstart : ((s.cl c).sq.startWait && decide (s.dieCount (c / 8) < Nat.max (s.cl c).sq.ebase.toNat (s.cl c).sq.startAt)) = false := by
    rcases hw with h | h
    · rw [h]; rfl
    · rw [decide_eq_false (Nat.not_lt.2 h), Bool.and_false]
  have hresume : ((s.cl c).vx.resumeDue && !(s.cl c).sq.inh && (s.cl c).vx.run.isNone && !(s.cl c).sq.stopPend) = false := by
    rcases hr with h | h | h <;> simp [h]
  simp only [State.bundle, hy, State.withCl_cl, id, hrun, hhold, hz, hstart, hresume]
  rfl

/-- R184: a STOP stops the sequencer whose next bundle lies beyond the scratchpad. -/
theorem State.fetchBundle_stops (hpc : spdSize < (s.cl c).sq.pc + 16) (hst : (s.cl c).sq.stopPend = true) :
    s.fetchBundle c = s.withCl c Cluster.stopHere := by
  simp only [State.fetchBundle, hst]
  rw [if_pos hpc, if_pos trivial, State.modCl_withCl (by rfl)]

/-- R224: a bundle without errors comes to its issue point. -/
theorem State.fetchBundle_reads (hpc : (s.cl c).sq.pc + 16 ≤ spdSize) (hc : s.SpdClean c) :
    s.fetchBundle c = (s.withCl c id).atIssue c (s.bundleAt c (s.cl c).sq.pc) := by
  have hrd := Cluster.rd_clean (c := { s.cl c with sq := { (s.cl c).sq with stopPend := false } }) (State.spdClean_iff.1 hc) 6 (s.cl c).sq.pc 16
  simp only [State.fetchBundle, hrd]
  rw [if_neg (by omega), if_neg (by simp), State.modCl_withCl (by rfl)]
  rfl

/-- R159, R178: the bundle at the program counter comes to its issue point. -/
theorem State.bundle_reaches (hi : s.AtIssue c) (hz : (s.cl c).spd.zRun = false)
    (hw : (s.cl c).sq.startWait = false ∨ Nat.max (s.cl c).sq.ebase.toNat (s.cl c).sq.startAt ≤ s.dieCount (c / 8))
    (hr : (s.cl c).vx.resumeDue = false ∨ (s.cl c).sq.inh = true ∨ (s.cl c).sq.stopPend = true)
    (hpc : (s.cl c).sq.pc + 16 ≤ spdSize) (hc : s.SpdClean c) : s.bundle c = (s.withCl c id).atIssue c (s.bundleAt c (s.cl c).sq.pc) := by
  rw [State.bundle_fetches hi hz hw hr, State.fetchBundle_reads]
  · rw [State.withCl_withCl]
    simp only [State.bundleAt, State.withCl_cl]
    rfl
  · rwa [State.withCl_cl]
  · rwa [State.SpdClean, State.withCl_cl]

theorem State.Fetches.bundle (h : s.Fetches c b) : s.bundle c = (s.withCl c id).atIssue c b := by
  obtain ⟨hi, hz, hw, _, hr, hpc, hc, rfl⟩ := h
  exact State.bundle_reaches hi hz (.inl hw) (hr.imp_right .inl) hpc hc

end

/-! The issue point (06 R178, R179) -/

section
variable {s : State} {c : ClusterId} {b : Bundle}

/-- R178: an interlock puts the issue point off. -/
theorem State.atIssue_held (h : bundleHeld c (s.cl c) b = true) : s.atIssue c b = s := by simp [State.atIssue, h]

/-- R160, R233: neither an interlock nor a held Weir range holds the bundle. -/
structure State.Unheld (s : State) (c : ClusterId) (b : Bundle) : Prop where
  interlock : bundleHeld c (s.cl c) b = false
  weir : (s.cl c).spd.weirStalls (s.bundleExtents c (s.cl c) b) = false

namespace State.Unheld
variable (h : s.Unheld c b)
include h

theorem stops (hs : (s.cl c).sq.stopPend = true) : s.atIssue c b = s.withCl c Cluster.stopHere := by
  simp [State.atIssue, h.interlock, h.weir, hs, State.modCl_withCl (s := s) (c := c) (f := Cluster.stopHere) rfl]

theorem illegal {n : Nat} (hs : (s.cl c).sq.stopPend = false) (hi : bundleIllegal c (s.cl c) b = some n) :
    s.atIssue c b = s.enterTrap c .illegalBundle n := by
  simp [State.atIssue, h.interlock, h.weir, hs, hi]

theorem enters {k : Cause} {sub : Nat} (hs : (s.cl c).sq.stopPend = false) (hi : bundleIllegal c (s.cl c) b = none)
    (hr : bundleRefuse c (s.cl c) b = none) (hinh : (s.cl c).sq.inh = false) (hp : (s.cl c).sq.nextPend = some (k, sub)) :
    s.atIssue c b = (s.modCl c Cluster.enterPending).countCause c k := by
  simp [State.atIssue, h.interlock, h.weir, hs, hi, hr, hinh, hp]

theorem issues (hs : (s.cl c).sq.stopPend = false) (hi : bundleIllegal c (s.cl c) b = none) (hr : bundleRefuse c (s.cl c) b = none)
    (hp : (s.cl c).sq.inh = true ∨ (s.cl c).sq.nextPend = none) : s.atIssue c b = s.issueBundle c b := by
  have hnone : (if (s.cl c).sq.inh then none else (s.cl c).sq.nextPend) = none := by rcases hp with h | h <;> simp [h]
  simp [State.atIssue, h.interlock, h.weir, hs, hi, hr, hnone]

end State.Unheld

/-- The extents of a bundle depend on the registers and the scratchpad alone. -/
theorem State.bundleExtents_withCl {f : Cluster → Cluster} (hg : (f (s.cl c)).sq.g = (s.cl c).sq.g) (hp : (f (s.cl c)).spd = (s.cl c).spd)
    (k : Cluster) : (s.withCl c f).bundleExtents c k b = s.bundleExtents c k b := by
  have hmove : (s.withCl c f).moveSlotExtents c b.move = s.moveSlotExtents c b.move := by
    simp only [State.moveSlotExtents, State.withCl_cl, descOff, Sqr.gpr, hg, hp]
    rfl
  rw [State.bundleExtents, State.bundleExtents, hmove]

theorem State.Unheld.withCl_id (h : s.Unheld c b) : (s.withCl c id).Unheld c b :=
  ⟨by rw [State.withCl_cl]; exact h.interlock, by rw [State.bundleExtents_withCl rfl rfl, State.withCl_cl]; exact h.weir⟩

end

end Sys2Proof.Machine
end

section
/-!
PROOFS. The entry of a trap (06 R178, R179, R181, R187).
-/
namespace Sys2Proof.Machine

/-! The cause entered first (06 R179) -/

/-- R179, log entry 15: the order of a cause, then its code. -/
def Cause.rank (k : Cause) : Nat := k.order * 16 + k.code

theorem Cause.code_lt (k : Cause) : k.code < 16 := by cases k <;> decide

theorem Cause.order_le_of_rank {k x : Cause} (h : k.rank ≤ x.rank) : k.order ≤ x.order := by
  have := k.code_lt
  have := x.code_lt
  unfold Cause.rank at h
  omega

/-- Of two pending causes the one of the lower rank; the earlier one where they are alike. -/
def firstCause (best : Option (Cause × Nat)) (p : Cause × Nat) : Option (Cause × Nat) :=
  match best with
  | none => some p
  | some b => if p.1.rank < b.1.rank then some p else best

theorem Sqr.nextPend_eq (q : Sqr) : q.nextPend = (q.pend.filter fun p => p.1 != .doorbell || q.ienDb).foldl firstCause none := rfl

theorem firstCause_some (best : Option (Cause × Nat)) (x : Cause × Nat) : ∃ y, firstCause best x = some y ∧ (best = some y ∨ y = x) ∧
    y.1.rank ≤ x.1.rank ∧ ∀ p, best = some p → y.1.rank ≤ p.1.rank := by
  cases best with
  | none => exact ⟨x, rfl, .inr rfl, le_rfl, by simp⟩
  | some b =>
    simp only [firstCause]
    split
    · next h => exact ⟨x, rfl, .inr rfl, le_rfl, by simpa using h.le⟩
    · next h => exact ⟨b, rfl, .inl rfl, not_lt.1 h, by simp⟩

/-- The first of `best` and a list of causes is one of them, and of the lowest rank. -/
theorem foldl_firstCause {l : List (Cause × Nat)} {best : Option (Cause × Nat)} {b : Cause × Nat} (h : l.foldl firstCause best = some b) :
    (best = some b ∨ b ∈ l) ∧ (∀ p, best = some p → b.1.rank ≤ p.1.rank) ∧ ∀ p ∈ l, b.1.rank ≤ p.1.rank := by
  induction l generalizing best with
  | nil => exact ⟨.inl h, fun p hp => (Option.some.inj (hp.symm.trans h)) ▸ le_rfl, by simp⟩
  | cons x t ih =>
    obtain ⟨y, hy, hyb, hyx, hmin⟩ := firstCause_some best x
    obtain ⟨hmem, hfirst, ht⟩ := ih h
    have hby := hfirst y hy
    refine ⟨?_, fun p hp => hby.trans (hmin p hp), List.forall_mem_cons.2 ⟨hby.trans hyx, ht⟩⟩
    rcases hmem with e | hb
    · obtain rfl := Option.some.inj (hy.symm.trans e)
      exact hyb.imp_right (by rintro rfl; exact List.mem_cons_self)
    · exact .inr (List.mem_cons_of_mem x hb)

/-- R179: the cause entered first is pending, and of the lowest order of those that may be entered. -/
theorem Sqr.nextPend_first {q : Sqr} {k : Cause} {sub : Nat} (h : q.nextPend = some (k, sub)) :
    (k, sub) ∈ q.pend ∧ ∀ p ∈ q.pend, (p.1 ≠ .doorbell ∨ q.ienDb = true) → k.order ≤ p.1.order := by
  rw [Sqr.nextPend_eq] at h
  obtain ⟨hmem, -, hmin⟩ := foldl_firstCause h
  refine ⟨(List.mem_filter.1 (hmem.resolve_left (by simp))).1, fun p hp he => Cause.order_le_of_rank (hmin p (List.mem_filter.2 ⟨hp, ?_⟩))⟩
  simpa using he

/-! The entry (06 R178, R181) -/

section
variable {s : State} {c : ClusterId} {b : Bundle} {k : Cause} {sub : Nat}

/-- R178, R181: outside a handler the cause entered first leaves the pending ones and is entered. -/
theorem Cluster.enterPending_eq {x : Cluster} (hinh : x.sq.inh = false) (hp : x.sq.nextPend = some (k, sub)) :
    x.enterPending = ({ x with sq := { x.sq with pend := x.sq.pend.filter fun p => p.1 != k } } : Cluster).trapped k sub := by
  simp [Cluster.enterPending, hinh, hp, Cluster.enter, Cluster.trapped]

/-- R178: a cause that may be entered brings the sequencer to its issue point. -/
theorem trapEntry_bundle (hinh : (s.cl c).sq.inh = false) (hp : (s.cl c).sq.nextPend.isSome = true) :
    exec (.trapEntry c) s = .next (s.bundle c) := by
  have hn : (s.cl c).sq.nextPend.isNone = false := by rw [← Option.not_isSome, hp]; rfl
  simp [execTrapEntry, hinh, hn]

theorem trapEntry_none (h : (s.cl c).sq.inh = true ∨ (s.cl c).sq.nextPend = none) : exec (.trapEntry c) s = .next s := by
  rcases h with h | h <;> simp [execTrapEntry, h]

/-- R178: the pending cause is entered where the bundle meets nothing that goes before it. -/
theorem trapEntry_enters (hf : s.Fetches c b) (hinh : (s.cl c).sq.inh = false) (hu : s.Unheld c b) (hi : bundleIllegal c (s.cl c) b = none)
    (hr : bundleRefuse c (s.cl c) b = none) (hp : (s.cl c).sq.nextPend = some (k, sub)) :
    exec (.trapEntry c) s = .next ((s.withCl c fun x =>
      { x with sq := { x.sq with pend := x.sq.pend.filter fun p => p.1 != k } }.trapped k sub).countCause c k) := by
  have hst : (s.cl c).sq.stopPend = false := hf.2.2.2.1
  have hpend := Cluster.enterPending_eq hinh hp
  rw [trapEntry_bundle hinh (by rw [hp]; rfl), hf.bundle,
    hu.withCl_id.enters (by rwa [State.withCl_cl]) (by rwa [State.withCl_cl]) (by rwa [State.withCl_cl]) (by rwa [State.withCl_cl]) (by rwa [State.withCl_cl]),
    State.modCl_withCl (by rw [State.withCl_cl, id, hpend]; rfl), State.withCl_withCl]
  refine congrArg (fun t : State => Host.Outcome.next (t.countCause c k)) (State.withCl_congr ?_)
  exact hpend

end

/-- Settles O16: the step of a trap's entry is the step of the bundle, which the cause goes before. -/
theorem trapEntrySavesAndRedirects : Obligations.TrapEntrySavesAndRedirects := by
  unfold Obligations.TrapEntrySavesAndRedirects
  intro c k sub b s
  refine ⟨fun hf hinh hh hw hi hr hp => ⟨trapEntry_enters hf hinh ⟨hh, hw⟩ hi hr hp, Sqr.nextPend_first hp⟩,
    fun hf hinh hp => ⟨fun hh => ?_, fun n hh hw hi => ?_⟩, trapEntry_none⟩
  · rw [trapEntry_bundle hinh hp, hf.bundle, State.atIssue_held (by rwa [State.withCl_cl])]
  · have hst : (s.cl c).sq.stopPend = false := hf.2.2.2.1
    have hu : s.Unheld c b := ⟨hh, hw⟩
    rw [trapEntry_bundle hinh hp, hf.bundle, hu.withCl_id.illegal (by rwa [State.withCl_cl]) (by rwa [State.withCl_cl])]

end Sys2Proof.Machine
end

section
/-!
PROOFS. The release of a SYNC (06 R175; 13 R397).
-/
namespace Sys2Proof.Machine

/-- R174, R189: SCHED_OVERRUN changes the causes pending and SQR_OVR alone. -/
theorem Cluster.overrun_frame (k : Cluster) (sub lcls pc : Nat) : k.overrun sub lcls pc =
    { k with sq := { k.sq with pend := (k.overrun sub lcls pc).sq.pend, ovr := (k.overrun sub lcls pc).sq.ovr } } := by
  unfold Cluster.overrun
  rw [Cluster.pendCause_pends]

section
variable {k : Cluster} {d : Word} {e : Word32} {pc now : Nat}

/-- R175: the landings that a SYNC expects are taken from those counted, and its deadline is kept. -/
def Cluster.syncReleased (k : Cluster) (d : Word) (e : Word32) : Cluster :=
  { k with sq := { k.sq with land := k.sq.land - e, hold := .none }, chn := { k.chn with ydl := d } }

/-- R175: the landings that a SYNC expects are missing at its deadline. -/
def Cluster.syncMissed (k : Cluster) (pc : Nat) : Cluster := ({ k with sq := { k.sq with hold := .none } } : Cluster).overrun 2 0 pc

variable (h : k.sq.hold = .sync d e pc)
include h

/-- R175, R397: up to its deadline a timed SYNC holds. -/
theorem Cluster.syncDue_holds (ht : d.toNat ≠ 2 ^ 64 - 1) (hn : now ≤ d.toNat) : k.syncDue now = k := by
  simp only [Cluster.syncDue, h, decide_eq_true ht, decide_eq_true hn]
  rfl

theorem Cluster.syncDue_releases (ht : d.toNat ≠ 2 ^ 64 - 1 → d.toNat < now) (he : e.toNat ≤ k.sq.land.toNat) :
    k.syncDue now = k.syncReleased d e := by
  have hwait : (decide (d.toNat ≠ 2 ^ 64 - 1) && decide (now ≤ d.toNat)) = false := by simpa using ht
  simp only [Cluster.syncDue, h, hwait]
  rw [if_neg (by simp), if_pos he]
  rfl

theorem Cluster.syncDue_misses (ht : d.toNat ≠ 2 ^ 64 - 1) (hn : d.toNat < now) (he : k.sq.land.toNat < e.toNat) :
    k.syncDue now = k.syncMissed pc := by
  simp only [Cluster.syncDue, h, decide_eq_true ht, decide_eq_false (Nat.not_le.2 hn)]
  rw [if_neg (by simp), if_neg (Nat.not_le.2 he), if_pos ht]
  rfl

/-- R397: a landing at the deadline or before it counts for the SYNC that is held. -/
theorem Cluster.landed_early (hn : now ≤ d.toNat) : k.landed now = { k with sq := { k.sq with land := k.sq.land + 1 } } := by
  simp [Cluster.landed, h, Nat.not_lt.2 hn]

/-- R397: a landing after the deadline counts for the next SYNC: the one that is held is decided first. -/
theorem Cluster.landed_late (hn : d.toNat < now) :
    k.landed now = { k.syncDue now with sq := { (k.syncDue now).sq with land := (k.syncDue now).sq.land + 1 } } := by
  simp [Cluster.landed, h, hn]

end

/-- Settles O18: released, missed or held, by the count at its deadline. -/
theorem syncReleasesAtItsDeadline : Obligations.SyncReleasesAtItsDeadline := by
  unfold Obligations.SyncReleasesAtItsDeadline
  intro c d e pc s h timed
  have hexec (f : Cluster → Cluster) (hf : (s.cl c).syncDue (s.dieCount (c / 8)) = f (s.cl c)) (hu : (f (s.cl c)).spd.ueSeen = (s.cl c).spd.ueSeen) :
      exec (.syncDeadline c) s = .next (s.withCl c f) := by
    rw [exec_syncDeadline, execSyncDeadline, State.modCl_withCl (by rw [hf, hu])]
    exact congrArg Host.Outcome.next (State.withCl_congr hf)
  refine ⟨fun ht he => hexec _ (Cluster.syncDue_releases h ht he) rfl, fun ht hn he => hexec _ (Cluster.syncDue_misses h ht hn he) rfl,
    fun ht hn => hexec _ (Cluster.syncDue_holds h ht hn) rfl, Cluster.landed_early h, fun ht hn => ?_⟩
  rw [Cluster.landed_late h hn]
  by_cases he : e.toNat ≤ (s.cl c).sq.land.toNat
  · rw [Cluster.syncDue_releases h (fun _ => hn) he, if_pos he]
    exact ⟨rfl, rfl⟩
  · rw [Cluster.syncDue_misses h ht hn (by omega), if_neg he, Cluster.syncMissed, Cluster.overrun_frame]
    exact ⟨rfl, rfl⟩

end Sys2Proof.Machine
end

section
/-!
PROOFS. A bundle issues and the program counter moves past it; a YIELD at its yield point (06 R159 to R162, R166; 15 R448).
-/
namespace Sys2Proof.Machine

/-! The scalar slot of a bundle whose other slots are no-operations -/

section
variable {s : State} {c : ClusterId} {b : Bundle}

/-- R159: the matrix, vector and move slots of the bundle are no-operations. -/
structure Bundle.ScalarOnly (b : Bundle) : Prop where
  matrix : b.matrix = 0
  vector : b.vector = 0
  move : b.move = 0

namespace Bundle.ScalarOnly
variable (h : b.ScalarOnly)
include h

theorem mxOp (kind : Nat) (k : Cluster) : bundleMxOp kind k b = none := by simp [bundleMxOp, decMatrix, h.matrix]

theorem mvop : (decMove b.move).mvop = 0 := by rw [h.move]; rfl

/-- R161: the interlocks of the bundle are those of its scalar slot. -/
theorem held (k : Cluster) (hs : scalarHeld k b.scalar = false) : bundleHeld c k b = false := by
  simp [bundleHeld, hs, h.mxOp, h.vector, h.mvop]

theorem extents (k : Cluster) (hs : scalarExtents k.sq b.scalar = []) : s.bundleExtents c k b = [] := by
  simp [State.bundleExtents, hs, h.mxOp, h.vector, State.moveSlotExtents, h.mvop]

/-- R171: the bundle is legal if its scalar slot is. -/
theorem legal (k : Cluster) (hs : scalarIllegal (clusterKind c) b.scalar = none) : bundleIllegal c k b = none := by
  have hmx : bundleMxIllegal (clusterKind c) k b.matrix = none := by simp [bundleMxIllegal, decMatrix, h.matrix]
  have hvec : bundleVecIllegal (clusterKind c) k b.vector = none := if_pos h.vector
  have hmove : moveIllegal b.move = none := by rw [h.move]; rfl
  have hdup : bundleDup b = none := by simp [bundleDup, h.vector, decVec, bits]
  simp only [bundleIllegal, hs, hmx, hvec, hmove, hdup]
  rfl

theorem not_refused (k : Cluster) (hs : scalarRefuse k.sq b.scalar = none) : bundleRefuse c k b = none := by
  simp [bundleRefuse, hs, h.mxOp, h.vector]

/-- R160, R161: the bundle issues as its scalar slot, the program counter past it and its wait field set. -/
theorem issue {k : Cluster} (hk : scalarExec (clusterKind c) (s.merCopy (c / 8)) (s.dieCount (c / 8)) (s.cl c)
      { s.cl c with sq := { (s.cl c).sq with pc := (s.cl c).sq.pc + 16, wait := b.wait, startWait := false, hold := .none } } b.scalar = k)
    (hu : k.spd.ueSeen = (s.cl c).spd.ueSeen) : s.issueBundle c b = s.setCl c k := by
  have hmove (t : State) : t.issueMove c (s.cl c).sq b.move = t := by simp [State.issueMove, h.mvop]
  simp only [State.issueBundle, hmove, h.mxOp, h.vector, ne_eq, not_true_eq_false, and_false, if_false]
  rw [State.modCl_withCl (f := fun k => k) rfl, State.modCl_withCl (by rw [State.withCl_cl, hk, hu]), State.withCl_withCl, ← hk]
  rfl

end Bundle.ScalarOnly

/-- 06 R162: the bundle of no-operations apart from a scalar slot that meets no interlock and no refusal issues. -/
theorem State.Issues.scalarOnly {k : Cluster} (hi : s.Issues c b) (h : b.ScalarOnly) (hf : s.ScalarFree c b.scalar)
    (hr : scalarRefuse (s.cl c).sq b.scalar = none)
    (hk : scalarExec (clusterKind c) (s.merCopy (c / 8)) (s.dieCount (c / 8)) (s.cl c)
      { s.cl c with sq := { (s.cl c).sq with pc := (s.cl c).sq.pc + 16, wait := b.wait } } b.scalar = k)
    (hu : k.spd.ueSeen = (s.cl c).spd.ueSeen) : exec (.bundleIssue c) s = .next (s.setCl c k) := by
  obtain ⟨hfetch, hpend⟩ := hi
  have hbundle := hfetch.bundle
  obtain ⟨⟨-, hhold⟩, hz, hstart, hstop, -⟩ := hfetch
  have hun : s.Unheld c b := ⟨h.held _ hf.not_held, by
    rw [h.extents _ (by simp [scalarExtents, hf.noLoad, hf.noStore]), weirStalls_nil]⟩
  have hissue : (s.withCl c id).atIssue c b = (s.withCl c id).issueBundle c b :=
    hun.withCl_id.issues (by rwa [State.withCl_cl]) (by rw [State.withCl_cl]; exact h.legal _ hf.legal)
      (by rw [State.withCl_cl]; exact h.not_refused _ hr) (by rwa [State.withCl_cl])
  have hsq : ({ (s.cl c).sq with pc := (s.cl c).sq.pc + 16, wait := b.wait, startWait := false, hold := .none } : Sqr) =
      { (s.cl c).sq with pc := (s.cl c).sq.pc + 16, wait := b.wait } := by rw [← hstart, ← hhold]
  have hcl : (s.withCl c id).cl c = s.cl c := State.withCl_cl id
  rw [exec_bundleIssue, execBundleIssue, hbundle, hissue, h.issue (k := k) (by rw [hcl, hsq]; exact hk) (by rw [hcl, hu]), State.withCl,
    State.setCl_setCl]

end

/-! A scalar slot that is a no-operation, and one that is an ADD (06 R164; 07 R198) -/

section
variable {s : State} {c : ClusterId} {rd rs1 rs2 : Reg}

theorem nop_sop : (decScalar 0).sop = 0 := by decide

theorem nop_free : s.ScalarFree c 0 where
  legal := scalarIllegal_none (by rw [nop_sop]; omega) (by decide) (by rw [nop_sop]; exact sopAllowed_seq (by omega))
  reads := GFree_reads (rs := []) (by simp [State.GFree]) (by decide)
  noLoad := by rw [nop_sop]; omega
  noStore := by rw [nop_sop]; omega

theorem nop_refuse (q : Sqr) : scalarRefuse q 0 = none := by
  simp only [scalarRefuse, nop_sop]
  rfl

theorem scalarExec_nop (kind : Nat) (mer : Nat → Nat) (now : Nat) (p k : Cluster) : scalarExec kind mer now p k 0 = k := by
  simp only [scalarExec, nop_sop]
  rfl

theorem add_free (hg : s.GFree c [rs1, rs2]) : s.ScalarFree c (encR 0x01 rd rs1 rs2) where
  legal := legalR (by omega) _ (by have := clusterKind_le c; omega)
  reads := GFree_reads hg (by simp [scalarReads, decScalar_encR])
  noLoad := by simp [decScalar_encR]
  noStore := by simp [decScalar_encR]

end

/-! YIELD (15 R448) -/

section
variable {s : State} {c : ClusterId} {imm : Half}

/-- R448: a quiescent cluster: no engine operation running or queued, no move outstanding. -/
theorem Cluster.idle_iff (k : Cluster) : k.idle = true ↔
    k.mx.arr = none ∧ k.mx.arrQ = none ∧ k.mx.ro = none ∧ k.mx.roQ = none ∧ k.vx.run = none ∧ k.sq.moves = [] := by
  simp [Cluster.idle, Mx.ops, and_assoc]

/-- R448: the cluster at the YIELD `n`, its program counter past it. -/
def Cluster.yields (k : Cluster) (n : Nat) : Cluster := { k with sq := { k.sq with hold := .yield n, pc := k.sq.pc + 16 } }

variable {k : Cluster} {n : Nat}

theorem Cluster.resolveYield_yields : (k.yields n).resolveYield =
    if !k.idle then k.yields n
    else if k.chn.ytp ≠ 0 ∧ k.chn.ytp.toNat ≤ k.chn.ydl.toNat then
      { k with sq := { k.sq with hold := .none, pc := k.sq.pc + 16, run := false, stopPend := false }, chn := { k.chn with ystat := 2 ^ 31 + n % 65536 } }
    else { k with sq := { k.sq with hold := .none, pc := k.sq.pc + 16 } } := rfl

theorem yield_resolves {x : Cluster} (h : ((s.cl c).yields imm.toNat).resolveYield = x) (hu : x.spd.ueSeen = (s.cl c).spd.ueSeen) :
    exec (.yield c imm) s = .next (s.setCl c x) := by
  subst h
  exact congrArg Host.Outcome.next (modCl_eq hu.le)

end

/-- Settles O17: the bundle by its scalar slot alone, the YIELD by the quiescence of its cluster. -/
theorem bundleAndYieldAdvance : Obligations.BundleAndYieldAdvance := by
  unfold Obligations.BundleAndYieldAdvance
  intro c b rd rs1 rs2 imm s
  refine ⟨fun hi hm hv hmv => ?bundle, ?yield⟩
  case bundle =>
    have hb : b.ScalarOnly := ⟨hm, hv, hmv⟩
    refine ⟨fun h0 => ?_, fun hadd hg => ?_⟩
    · have hw : b.scalar = 0 := h0
      exact hi.scalarOnly hb (hw ▸ nop_free) (by rw [hw, nop_refuse]) (by rw [hw, scalarExec_nop]) (by rfl)
    · refine hi.scalarOnly hb (hadd ▸ add_free hg) (by simp [hadd, scalarRefuse, decScalar_encR]) ?_ (by rfl)
      simp [hadd, scalarExec, decScalar_encR, regResult, aluR, State.g, Sqr.setG]
  case yield =>
    intro k quiet due
    have hidle : k.idle = true ↔ quiet := Cluster.idle_iff k
    refine ⟨fun hq => yield_resolves ?_ (by rfl), fun hq hd => yield_resolves ?_ (by rfl), fun hq hd => yield_resolves ?_ (by rfl)⟩
    · rw [Cluster.resolveYield_yields, if_pos (by simpa using hidle.not.2 hq)]
      rfl
    · rw [Cluster.resolveYield_yields, if_neg (by simpa using hidle.2 hq), if_neg hd]
    · rw [Cluster.resolveYield_yields, if_neg (by simpa using hidle.2 hq), if_pos hd, Nat.mod_eq_of_lt imm.isLt]

end Sys2Proof.Machine
end

section
/-!
PROOFS. The rows of a sequencer that hold, stop or start it, return from a trap, or work on control registers and tile descriptors (06 R175, R180,
R184; 07 R198, R200).
-/
namespace Sys2Proof.Machine

variable {s : State} {c : ClusterId} {rd rs1 rs2 : Reg} {csr : Half}

/-! SYNC, WAITC, SQEND (06 R175; 07 R198) -/

theorem sync_free (hg : s.GFree c [rs1, rs2]) : s.ScalarFree c (encR 0x2B 0 rs1 rs2) :=
  .of_reads (scalarMbz_encR (by omega)) (sopAllowed_seq (by simp [decScalar_encR])) (by simp [decScalar_encR])
    (by simp [scalarReads, decScalar_encR]) hg

/-- R175: a SYNC whose deadline has passed is late. -/
theorem sync_late (hg : s.GFree c [rs1, rs2]) (hl : (s.g c rs1).toNat < s.dieCount (c / 8)) (ht : (s.g c rs1).toNat ≠ 2 ^ 64 - 1) :
    exec (.sync c rs1 rs2) s = .next (s.withCl c fun k => k.overrun 1 0 (s.cl c).sq.pc) := by
  refine congrArg Host.Outcome.next ((sync_free hg).takes (by simp [scalarRefuse, decScalar_encR]) ?_ (by rfl))
  have hlate : ((s.cl c).sq.gpr rs1.toNat).toNat ≠ 2 ^ 64 - 1 ∧ s.dieCount (c / 8) > ((s.cl c).sq.gpr rs1.toNat).toNat := ⟨ht, hl⟩
  simp only [scalarExec, decScalar_encR (show 0x2B < 64 by omega)]
  rw [if_pos hlate]
  rfl

theorem sync_holds (hg : s.GFree c [rs1, rs2]) (h : (s.g c rs1).toNat = 2 ^ 64 - 1 ∨ s.dieCount (c / 8) ≤ (s.g c rs1).toNat) :
    exec (.sync c rs1 rs2) s =
      .next (s.withSq c fun q => { q with hold := .sync (s.g c rs1) ((s.g c rs2).setWidth 32) (s.cl c).sq.pc }) := by
  refine congrArg Host.Outcome.next ((sync_free hg).takes (by simp [scalarRefuse, decScalar_encR]) ?_ (by rfl))
  have hnot : ¬ (((s.cl c).sq.gpr rs1.toNat).toNat ≠ 2 ^ 64 - 1 ∧ s.dieCount (c / 8) > ((s.cl c).sq.gpr rs1.toNat).toNat) := by
    rintro ⟨ht, hl⟩
    exact h.elim ht (Nat.not_le.2 hl)
  simp only [scalarExec, decScalar_encR (show 0x2B < 64 by omega)]
  rw [if_neg hnot, BitVec.ofNat_toNat]
  rfl

theorem waitc_free (hg : s.GFree c [rs1]) : s.ScalarFree c (encR 0x2C 0 rs1 0) :=
  .of_reads (scalarMbz_encR (by omega)) (sopAllowed_seq (by simp [decScalar_encR])) (by simp [decScalar_encR])
    (by simp [scalarReads, decScalar_encR]) hg

theorem waitc_holds (hg : s.GFree c [rs1]) : exec (.waitc (.seq c) rs1) s = .next (s.withSq c fun q =>
    { q with hold := if (s.g c rs1).toNat % 2 ^ 32 = 0 then .none else .waitc ((s.g c rs1).toNat % 2 ^ 32) }) := by
  refine congrArg Host.Outcome.next ((waitc_free hg).takes (by simp [scalarRefuse, decScalar_encR]) ?_ (by rfl))
  simp only [scalarExec, decScalar_encR (show 0x2C < 64 by omega)]
  rfl

/-- R164: TRET and SQEND read no register. -/
theorem noOperand_free {sop : Nat} (h : sop = 0x2E ∨ sop = 0x2F) : s.ScalarFree c (encR sop 0 0 0) := by
  have hsop : (decScalar (encR sop 0 0 0)).sop = sop := by rw [decScalar_encR (by omega)]
  refine .of_reads (rs := []) (scalarMbz_encR_zero h) (sopAllowed_seq (by omega)) (by omega) ?_ (by simp [State.GFree])
  rcases h with rfl | rfl <;> simp [scalarReads, decScalar_encR]

theorem sqend_stops : exec (.sqend c) s = .next (s.withSq c fun q => { q with run := false, done := true, stopPend := false }) := by
  refine congrArg Host.Outcome.next ((noOperand_free (.inr rfl)).takes (by simp [scalarRefuse, decScalar_encR]) ?_ (by rfl))
  simp [scalarExec, decScalar_encR]

/-! TRET (06 R180) -/

theorem Cluster.resumeVx_unrecorded {k : Cluster} (h : k.vx.progress.getLsbD 63 = false) :
    k.resumeVx = { k with vx := { k.vx with run := k.vx.run.map fun r => { r with stopReq := false }, resumeDue := false } } := by
  simp only [Cluster.resumeVx, h]
  rfl

/-- R180: a return with no cause pending and no recorded operation. -/
theorem tret_returns (he : (s.cl c).sq.epc < spdSize) (hp : (s.cl c).sq.nextPend = none) (hv : (s.cl c).vx.progress.getLsbD 63 = false) :
    exec (.tret c) s = .next (s.withCl c fun k =>
      { k with sq := { k.sq with inh := false, pc := k.sq.epc }, vx := { k.vx with run := k.vx.run.map (fun r => { r with stopReq := false }), resumeDue := false } }) := by
  have hin : InSpd (s.cl c).sq.epc := ⟨by omega, by omega⟩
  refine congrArg Host.Outcome.next ((noOperand_free (.inl rfl)).takes (by simp [scalarRefuse, decScalar_encR, targetRefuse_in hin]) ?_ (by rfl))
  have hp' : ({ (s.cl c).sq with inh := false, pc := (s.cl c).sq.epc } : Sqr).nextPend = none := hp
  simp only [scalarExec, decScalar_encR (show 0x2E < 64 by omega), hp']
  exact Cluster.resumeVx_unrecorded hv

/-! Control registers (07 R200) -/

section
variable {a b : Word}

theorem land_allOnes (n : Nat) : Nat.land n 0xFFFFFFFFFFFFFFFF = n % 2 ^ 64 := Nat.and_two_pow_sub_one_eq_mod n 64

theorem ofNat_lor : BitVec.ofNat 64 (Nat.land (Nat.lor a.toNat b.toNat) 0xFFFFFFFFFFFFFFFF) = a ||| b := by
  apply BitVec.eq_of_toNat_eq
  rw [land_allOnes, BitVec.toNat_ofNat, Nat.mod_mod, BitVec.toNat_or]
  exact Nat.mod_eq_of_lt (Nat.or_lt_two_pow a.isLt b.isLt)

theorem and_add_and_not : (a &&& b) + (a &&& ~~~b) = a := by
  rw [BitVec.add_eq_or_of_and_eq_zero]
  · ext i; simp; cases a[i] <;> simp
  · ext i; simp; grind

/-- Bits taken off a number that has them. -/
theorem ofNat_sub_land : BitVec.ofNat 64 (Nat.land (a.toNat - Nat.land a.toNat b.toNat) 0xFFFFFFFFFFFFFFFF) = a &&& ~~~b := by
  have hle : a &&& b ≤ a := Nat.and_le_left
  have hsub : a.toNat - Nat.land a.toNat b.toNat = (a - (a &&& b)).toNat := (BitVec.toNat_sub_of_le hle).symm
  rw [land_allOnes, hsub, Nat.mod_eq_of_lt (BitVec.isLt _), BitVec.ofNat_toNat, BitVec.setWidth_eq]
  exact sub_eq_of_eq_add' and_add_and_not.symm

end

theorem csrr_free : s.ScalarFree c (encI 0x22 rd 0 csr) :=
  .of_reads (rs := []) (scalarMbz_encI (by omega)) (sopAllowed_seq (by simp [decScalar_encI])) (by simp [decScalar_encI])
    (by simp [scalarReads, decScalar_encI]) (by simp [State.GFree])

theorem csrw_free {sop : Nat} (h : 0x23 ≤ sop ∧ sop ≤ 0x25) (hg : s.GFree c [rs1]) : s.ScalarFree c (encI sop 0 rs1 csr) := by
  have hw := decScalar_encI (rd := 0) (rs1 := rs1) (imm := csr) (show sop < 64 by omega)
  refine .of_reads (scalarMbz_encI (by omega)) (sopAllowed_seq (by rw [hw]; left; dsimp only; omega)) (by rw [hw]; dsimp only; omega) ?_ hg
  simp only [scalarReads, hw]
  rw [if_neg (by omega), if_pos (by omega)]
  rfl

theorem csrr_refuse (q : Sqr) : scalarRefuse q (encI 0x22 rd 0 csr) = none := by simp [scalarRefuse, decScalar_encI]

theorem csrw_refuse {sop : Nat} (h : 0x23 ≤ sop ∧ sop ≤ 0x25) (q : Sqr) : scalarRefuse q (encI sop 0 rs1 csr) = none := by
  simp only [scalarRefuse, decScalar_encI (show sop < 64 by omega)]
  rw [if_neg (by omega), if_neg (by omega), if_neg (by omega), if_neg (by omega)]

/-- R185: SQR_LAND reads its count. -/
theorem csrr_land : exec (.csrr c rd 0x2007) s = .next (s.withG c rd ((s.cl c).sq.land.setWidth 64)) := by
  refine congrArg Host.Outcome.next (csrr_free.takes (csrr_refuse _) ?_ (by rfl))
  simp only [scalarExec, decScalar_encI (show 0x22 < 64 by omega)]
  rw [← BitVec.ofNat_toNat]
  rfl

/-- R245: a read of SPD_CECNT clears it. -/
theorem csrr_ceCnt : exec (.csrr c rd 0x6002) s = .next (s.withCl c fun k =>
    { k with spd := { k.spd with ceCnt := 0 }, sq := k.sq.setG rd.toNat (BitVec.ofNat 64 k.spd.ceCnt) }) := by
  refine congrArg Host.Outcome.next (csrr_free.takes (csrr_refuse _) ?_ (by rfl))
  simp only [scalarExec, decScalar_encI (show 0x22 < 64 by omega)]
  rfl

theorem csrw_land (hg : s.GFree c [rs1]) : exec (.csrw c rs1 0x2007) s = .next (s.withSq c fun q => { q with land := (s.g c rs1).setWidth 32 }) := by
  refine congrArg Host.Outcome.next ((csrw_free (by omega) hg).takes (csrw_refuse (by omega) _) ?_ (by rfl))
  simp only [scalarExec, decScalar_encI (show 0x23 < 64 by omega)]
  rw [← BitVec.ofNat_toNat]
  rfl

/-- R200: every bit of SQR_EBASE may be set and cleared. -/
theorem csrSetClear_ebase_set (kind : Nat) (mer : Nat → Nat) (k : Cluster) (v : Word) :
    csrSetClear kind mer true k 0x10040 v.toNat = { k with sq := { k.sq with ebase := k.sq.ebase ||| v } } := by
  rw [← ofNat_lor]; rfl

theorem csrSetClear_ebase_clear (kind : Nat) (mer : Nat → Nat) (k : Cluster) (v : Word) :
    csrSetClear kind mer false k 0x10040 v.toNat = { k with sq := { k.sq with ebase := k.sq.ebase &&& ~~~v } } := by
  rw [← ofNat_sub_land]; rfl

theorem csrs_ebase (hg : s.GFree c [rs1]) : exec (.csrs c rs1 0x2008) s = .next (s.withSq c fun q => { q with ebase := q.ebase ||| s.g c rs1 }) := by
  refine congrArg Host.Outcome.next ((csrw_free (by omega) hg).takes (csrw_refuse (by omega) _) ?_ (by rfl))
  simp only [scalarExec, decScalar_encI (show 0x24 < 64 by omega)]
  exact csrSetClear_ebase_set ..

theorem csrc_ebase (hg : s.GFree c [rs1]) : exec (.csrc c rs1 0x2008) s = .next (s.withSq c fun q => { q with ebase := q.ebase &&& ~~~(s.g c rs1) }) := by
  refine congrArg Host.Outcome.next ((csrw_free (by omega) hg).takes (csrw_refuse (by omega) _) ?_ (by rfl))
  simp only [scalarExec, decScalar_encI (show 0x25 < 64 by omega)]
  exact csrSetClear_ebase_clear ..

/-! Tile descriptors (06 R164) -/

theorem tdw_free (hk : clusterKind c = 0) (ht : rd.toNat < 16) (hg : s.GFree c [rs1, rs2]) : s.ScalarFree c (encR 0x26 rd rs1 rs2) :=
  .of_reads (scalarMbz_encR (by omega)) (by simp [hk, sopAllowed, decScalar_encR]) (by simp [decScalar_encR])
    (by simp [scalarReads, decScalar_encR]) hg

theorem tdw_writes (hk : clusterKind c = 0) (ht : rd.toNat < 16) (hg : s.GFree c [rs1, rs2]) : exec (.tdw c rd rs1 rs2) s =
    .next (s.withCl c fun k => { k with mx := { k.mx with tdesc := Tbl.set k.mx.tdesc rd.toNat (s.g c rs1 ++ s.g c rs2) } }) := by
  refine congrArg Host.Outcome.next ((tdw_free hk ht hg).takes (by simp [scalarRefuse, decScalar_encR]) ?_ (by rfl))
  simp only [scalarExec, decScalar_encR (show 0x26 < 64 by omega)]
  rfl

/-- R162: the opcodes of tile descriptors are an MX cluster's alone. -/
theorem tdw_illegal (hk : clusterKind c ≠ 0) (ht : rd.toNat < 16) : exec (.tdw c rd rs1 rs2) s = .next (s.enterTrap c .illegalBundle 12) := by
  have hle := clusterKind_le c
  have hi : scalarIllegal (clusterKind c) (encR 0x26 rd rs1 rs2) = some 12 := by
    rw [scalarIllegal, scalarMbz_encR (by omega)]
    simp [decScalar_encR, sopAllowed, hk, hle]
  simp [execTdw, scalarWord, hi]

theorem tdr_free {sop : Nat} (h : sop = 0x27 ∨ sop = 0x28) (hk : clusterKind c = 0) (ht : rs1.toNat < 16) : s.ScalarFree c (encR sop rd rs1 0) := by
  have hw := decScalar_encR (rd := rd) (rs1 := rs1) (rs2 := 0) (show sop < 64 by omega)
  refine .of_reads (rs := []) (scalarMbz_encR (by omega)) ?_ (by rw [hw]; dsimp only; omega) ?_ (by simp [State.GFree])
  · rw [hw, hk]; simp [sopAllowed]; omega
  · rcases h with rfl | rfl <;> simp [scalarReads, decScalar_encR]

theorem tdrl_reads (hk : clusterKind c = 0) (ht : rs1.toNat < 16) :
    exec (.tdrl c rd rs1) s = .next (s.withG c rd (((s.cl c).mx.td rs1.toNat).setWidth 64)) := by
  refine congrArg Host.Outcome.next ((tdr_free (.inl rfl) hk ht).takes (by simp [scalarRefuse, decScalar_encR]) ?_ (by rfl))
  have hbits (x : BitVec 128) : BitVec.ofNat 64 (bits x 63 0) = x.setWidth 64 := by
    apply BitVec.eq_of_toNat_eq; simp [bits]
  simp only [scalarExec, decScalar_encR (show 0x27 < 64 by omega), hbits]
  rfl

theorem tdrh_reads (hk : clusterKind c = 0) (ht : rs1.toNat < 16) :
    exec (.tdrh c rd rs1) s = .next (s.withG c rd (((s.cl c).mx.td rs1.toNat >>> 64).setWidth 64)) := by
  refine congrArg Host.Outcome.next ((tdr_free (.inr rfl) hk ht).takes (by simp [scalarRefuse, decScalar_encR]) ?_ (by rfl))
  have hbits (x : BitVec 128) : BitVec.ofNat 64 (bits x 127 64) = (x >>> 64).setWidth 64 := by
    apply BitVec.eq_of_toNat_eq; simp [bits]
  simp only [scalarExec, decScalar_encR (show 0x28 < 64 by omega), hbits]
  rfl

/-! START and STOP (06 R178, R184) -/

theorem sequencerStart_starts (h : (s.cl c).sq.run = false) : exec (.sequencerStart c) s = .next (s.withSq c fun q =>
    { q with run := true, nest := false, halted := false, done := false, stopPend := false, engHold := false, startWait := true, startAt := 0, hold := .none, wait := 0 }) := by
  have hstart : (s.cl c).sq.start = { (s.cl c).sq with
      run := true, nest := false, halted := false, done := false, stopPend := false, engHold := false, startWait := true, startAt := 0, hold := .none, wait := 0 } :=
    if_neg (by simp [h])
  rw [exec_sequencerStart, execSequencerStart, modCl_eq (Nat.le_refl _), hstart]
  rfl

/-- R184: the panel with STOP asked of a sequencer that runs. -/
def State.stopAsked (s : State) (c : ClusterId) : State := s.withSq c fun q => { q with stopPend := q.stopPend || q.run }

theorem State.stopAsked_cl : (s.stopAsked c).cl c = { s.cl c with sq := { (s.cl c).sq with stopPend := (s.cl c).sq.stopPend || (s.cl c).sq.run } } :=
  State.setCl_cl_same

theorem State.stopAsked_withCl_id : (s.stopAsked c).withCl c id = s.stopAsked c := by
  rw [State.stopAsked, State.withSq, State.withCl, State.setCl_setCl, State.setCl_cl_same]
  rfl

theorem Sqr.askStop_eq (q : Sqr) : q.askStop = { q with stopPend := q.stopPend || q.run } := by
  unfold Sqr.askStop
  split
  · next h => simp only [h, Bool.or_true]
  · next h =>
    have hor : (q.stopPend || q.run) = q.stopPend := by simp [h]
    rw [hor]

theorem sequencerStop_asks : exec (.sequencerStop c) s = .next (if (s.cl c).sq.run then (s.stopAsked c).bundle c else s.stopAsked c) := by
  have hs : (s.modCl c fun k => { k with sq := k.sq.askStop }) = s.stopAsked c := by
    rw [modCl_eq (Nat.le_refl _), Sqr.askStop_eq]; rfl
  have hrun : ((s.stopAsked c).cl c).sq.run = (s.cl c).sq.run := by rw [State.stopAsked_cl]
  rw [exec_sequencerStop, execSequencerStop, hs, ← hrun]

/-- R184: a stopped sequencer is left as it is. -/
theorem sequencerStop_stopped (h : (s.cl c).sq.run = false) : exec (.sequencerStop c) s = .next (s.withSq c id) := by
  have hor : ((s.cl c).sq.stopPend || (s.cl c).sq.run) = (s.cl c).sq.stopPend := by rw [h, Bool.or_false]
  rw [sequencerStop_asks, h, if_neg (by simp), State.stopAsked, State.withSq, hor]
  rfl

/-- A sequencer that a SYNC holds, or whose start count is still to come, is not at its issue point. -/
theorem State.bundle_waits (h : (∃ d e pc, (s.cl c).sq.hold = .sync d e pc) ∨ (s.cl c).sq.hold = .none ∧ (s.cl c).sq.startWait = true ∧
    s.dieCount (c / 8) < Nat.max (s.cl c).sq.ebase.toNat (s.cl c).sq.startAt) : s.bundle c = s.withCl c id := by
  have hy : (s.cl c).resolveYield = s.cl c := by
    rcases h with ⟨d, e, pc, h⟩ | ⟨h, -⟩
    · simp [Cluster.resolveYield, h]
    · exact Cluster.resolveYield_none h
  have hs : s.modCl c Cluster.resolveYield = s.withCl c id := by
    rw [State.modCl_withCl (by rw [hy])]
    exact State.withCl_congr hy
  simp only [State.bundle, hs, State.withCl_cl, id]
  rcases h with ⟨d, e, pc, h⟩ | ⟨h, hstart, hlt⟩
  · simp [h]
  · simp [h, hstart, hlt]

/-- R178: STOP of such a sequencer waits. -/
theorem sequencerStop_waits (h : (∃ d e pc, (s.cl c).sq.hold = .sync d e pc) ∨ (s.cl c).sq.hold = .none ∧ (s.cl c).sq.startWait = true ∧
    s.dieCount (c / 8) < Nat.max (s.cl c).sq.ebase.toNat (s.cl c).sq.startAt) : exec (.sequencerStop c) s = .next (s.stopAsked c) := by
  have hwait : (s.stopAsked c).bundle c = s.stopAsked c := by
    rw [State.bundle_waits (by rw [State.stopAsked_cl]; exact h), State.stopAsked_withCl_id]
  rw [sequencerStop_asks, hwait, ite_self]

/-- R184: the panel with the sequencer stopped at its issue point. -/
def State.stopped (s : State) (c : ClusterId) : State := s.withSq c fun q => { q with run := false, stopPend := false, wait := 0 }

section
variable (hi : s.AtIssue c) (hw : (s.cl c).sq.startWait = false ∨ Nat.max (s.cl c).sq.ebase.toNat (s.cl c).sq.startAt ≤ s.dieCount (c / 8))
  (hz : (s.cl c).spd.zRun = false)
include hi

theorem State.stopAsked_stopPend : ((s.stopAsked c).cl c).sq.stopPend = true := by
  rw [State.stopAsked_cl]
  exact Bool.or_eq_true_iff.2 (.inr hi.1)

theorem State.stopAsked_stopHere : (s.stopAsked c).withCl c Cluster.stopHere = s.stopped c := by
  have hq : ({ (s.cl c).sq with run := false, stopPend := false, hold := .none, wait := 0 } : Sqr) =
      { (s.cl c).sq with run := false, stopPend := false, wait := 0 } := by rw [← hi.2]
  have hk : Cluster.stopHere ((s.stopAsked c).cl c) = { s.cl c with sq := { (s.cl c).sq with run := false, stopPend := false, wait := 0 } } := by
    rw [State.stopAsked_cl, ← hq]
    rfl
  rw [State.withCl, hk]
  exact State.setCl_setCl ..

include hw hz

/-- R184: the sequencer stops though its next bundle lies beyond the scratchpad. -/
theorem sequencerStop_beyond (hpc : spdSize < (s.cl c).sq.pc + 16) : exec (.sequencerStop c) s = .next (s.stopped c) := by
  have hcl := State.stopAsked_cl (s := s) (c := c)
  have hpend := State.stopAsked_stopPend hi
  rw [sequencerStop_asks, if_pos hi.1, State.bundle_fetches (by rw [State.AtIssue, hcl]; exact hi) (by rw [hcl]; exact hz) (by rw [hcl]; exact hw)
    (.inr (.inr hpend)), State.stopAsked_withCl_id, State.fetchBundle_stops (by rw [hcl]; exact hpc) hpend, State.stopAsked_stopHere hi]

variable (hpc : (s.cl c).sq.pc + 16 ≤ spdSize) (hc : s.SpdClean c)
include hpc hc

theorem sequencerStop_reaches : exec (.sequencerStop c) s =
    .next ((s.stopAsked c).atIssue c (s.bundleAt c (s.cl c).sq.pc)) := by
  have hcl := State.stopAsked_cl (s := s) (c := c)
  rw [sequencerStop_asks, if_pos hi.1, State.bundle_reaches (by rw [State.AtIssue, hcl]; exact hi) (by rw [hcl]; exact hz) (by rw [hcl]; exact hw)
    (.inr (.inr (State.stopAsked_stopPend hi))) (by rw [hcl]; exact hpc) (by rw [State.SpdClean, hcl]; exact hc), State.stopAsked_withCl_id, State.bundleAt, hcl]
  rfl

/-- R178: STOP waits for the interlocks of the bundle. -/
theorem sequencerStop_held (hb : bundleHeld c (s.cl c) (s.bundleAt c (s.cl c).sq.pc) = true) :
    exec (.sequencerStop c) s = .next (s.stopAsked c) := by
  rw [sequencerStop_reaches hi hw hz hpc hc, State.atIssue_held (by rw [State.stopAsked_cl]; exact hb)]

/-- R184: STOP goes before what the bundle would meet. -/
theorem sequencerStop_stops (hb : bundleHeld c (s.cl c) (s.bundleAt c (s.cl c).sq.pc) = false)
    (hx : (s.cl c).spd.weirStalls (s.bundleExtents c (s.cl c) (s.bundleAt c (s.cl c).sq.pc)) = false) :
    exec (.sequencerStop c) s = .next (s.stopped c) := by
  have hun : (s.stopAsked c).Unheld c (s.bundleAt c (s.cl c).sq.pc) := by
    refine ⟨by rw [State.stopAsked_cl]; exact hb, ?_⟩
    have hext := State.bundleExtents_withCl (s := s) (c := c) (b := s.bundleAt c (s.cl c).sq.pc)
      (f := fun k => { k with sq := { k.sq with stopPend := k.sq.stopPend || k.sq.run } }) rfl rfl ((s.stopAsked c).cl c)
    rw [State.stopAsked, State.withSq] at hext ⊢
    exact (congrArg _ hext).trans (by rw [State.setCl_cl_same]; exact hx)
  rw [sequencerStop_reaches hi hw hz hpc hc, hun.stops (State.stopAsked_stopPend hi), State.stopAsked_stopHere hi]

end

/-- Settles O10: each row by its own lemma; STOP by what holds its sequencer off the issue point. -/
theorem controlRowsActOnTheirSequencer : Obligations.ControlRowsActOnTheirSequencer := by
  unfold Obligations.ControlRowsActOnTheirSequencer
  intro c rd rs1 rs2 s hg
  have hg1 : s.GFree c [rs1] := hg.mono (by simp)
  refine ⟨sync_late hg, sync_holds hg, waitc_holds hg1, sqend_stops, sequencerStart_starts, sequencerStop_stopped, ?stop,
    tret_returns, csrr_land, csrw_land hg1, csrs_ebase hg1, csrc_ebase hg1, csrr_ceCnt, fun hk ht => tdw_writes hk ht hg,
    fun hk ht => ⟨tdrl_reads hk ht, tdrh_reads hk ht⟩, tdw_illegal⟩
  refine ⟨fun d e pc h => sequencerStop_waits (.inl ⟨d, e, pc, h⟩), fun _ hh hst hlt => sequencerStop_waits (.inr ⟨hh, hst, hlt⟩),
    fun hrun hhold hw hz => ⟨sequencerStop_beyond ⟨hrun, hhold⟩ hw hz, fun hpc hc => ?_⟩⟩
  exact ⟨sequencerStop_held ⟨hrun, hhold⟩ hw hz hpc hc, sequencerStop_stops ⟨hrun, hhold⟩ hw hz hpc hc⟩

end Sys2Proof.Machine
end

section
/-!
PROOFS. How a move starts (06 R169, R170, R174, R231).
-/
namespace Sys2Proof.Machine

theorem leNat_lt : ∀ bs : List Byte, leNat bs < 256 ^ bs.length
  | [] => by simp [leNat]
  | b :: t => by
    have := leNat_lt t
    have := b.isLt
    rw [leNat, List.length_cons, Nat.pow_succ]
    omega

theorem le_lt (bs : List Byte) (off n : Nat) : le bs off n < 256 ^ n :=
  (leNat_lt _).trans_le (Nat.pow_le_pow_right (by omega) (List.length_take_le _ _))

section
variable {s : State} {c : ClusterId} {n : Nat} {gd : Reg} {lcls : BitVec 5} {d : MvDesc}

/-- 06 R169: each move row is its word issued alone. -/
theorem moveRows_exec {e : Nat × (ClusterId → Reg → BitVec 5 → Instr)} (he : e ∈ moveRows) :
    1 ≤ e.1 ∧ e.1 ≤ 4 ∧ exec (e.2 c gd lcls) s = .next (moveRow c (encMove e.1 gd lcls.toNat 0) s) := by
  simp only [moveRows, List.mem_cons, List.not_mem_nil, or_false] at he
  rcases he with rfl | rfl | rfl | rfl <;> exact ⟨by decide, by decide, rfl⟩

theorem decMove_noCut (hn : n ≤ 4) : decMove (encMove n gd lcls.toNat 0) = ⟨n, gd.toNat, lcls.toNat, 0, 0⟩ :=
  decMove_encMove (cut := 0) (by omega)

/-- R171, R173: a move row with a class of its own is legal. -/
theorem moveIllegal_none (h1 : 1 ≤ n) (h4 : n ≤ 4) (hl : lclsOk n lcls.toNat) : moveIllegal (encMove n gd lcls.toNat 0) = none := by
  simp only [moveIllegal, decMove_noCut h4]
  rw [if_neg (by omega), if_neg (by omega), if_neg (by simp), if_neg (by simp)]
  exact if_pos hl

/-- R160, R174, R233: neither its place among the outstanding moves, nor its register, nor a range holds a move row. -/
theorem moveRow_issues (h1 : 1 ≤ n) (h4 : n ≤ 4) (hl : lclsOk n lcls.toNat) (hg : s.GFree c [gd]) (hm : (s.cl c).sq.moves.length < 16)
    (hw : (s.cl c).spd.weir = []) (hz : (s.cl c).spd.zRun = false) :
    moveRow c (encMove n gd lcls.toNat 0) s = s.issueMove c (s.cl c).sq (encMove n gd lcls.toNat 0) := by
  have hroom : moveHeld (s.cl c).sq = false := decide_eq_false (by omega)
  have hreg : (s.cl c).gHeld [gd.toNat] = false := by
    rw [Cluster.gHeld, Option.any_eq_false]
    intro r hr
    have hne := hg gd (by simp)
    simp only [List.contains_cons, List.contains_nil, Bool.or_false, beq_eq_false_iff_ne]
    rintro rfl
    exact hne hr
  have hrange (xs : List Extent) : (s.cl c).spd.weirStalls xs = false := by simp [Spd.weirStalls, hw, hz]
  simp only [moveRow, moveIllegal_none h1 h4 hl, decMove_noCut h4, hroom, hreg, hz, hrange]
  rfl

/-- R169, R170: the move that a row without a cut puts among the outstanding ones. -/
def State.rowMove (s : State) (c : ClusterId) (n lcls : Nat) (d : MvDesc) : Move where
  tag := (s.cl c).sq.nextTag
  mvop := n
  lcls := lcls
  cut := cutOf 0
  src := BitVec.ofNat 64 d.src
  dst := BitVec.ofNat 64 d.dst
  length := d.length
  handle := d.handle
  count := d.count
  par := s.ten.verCur
  land := d.land && decide (3 ≤ n)
  pc := (s.cl c).sq.pc
  timer := if lcls = 31 then none else some (tableLatency (s.obj 0x2201 0) lcls d.length)

/-- R231: the scratchpad with the range asked for, where the move has one. -/
def Spd.asks (p : Spd) (e : Option WeirEntry) : Spd := match e with | some e => p.request e | none => p

theorem Spd.asks_frame (p : Spd) (e : Option WeirEntry) : p.asks e = { p with weirWait := (p.asks e).weirWait } := by
  cases e with
  | none => rfl
  | some e => simp only [Spd.asks, Spd.request]; split <;> rfl

theorem Spd.asks_ueSeen (p : Spd) (e : Option WeirEntry) : (p.asks e).ueSeen = p.ueSeen := by rw [Spd.asks_frame]

/-- R169, R174: the cluster with one more move outstanding. -/
def Cluster.withMove (k : Cluster) (m : Move) (e : Option WeirEntry) : Cluster :=
  { k with sq := { k.sq with moves := k.sq.moves ++ [m], nextTag := k.sq.nextTag + 1 }, spd := k.spd.asks e }

theorem issueMove_starts (h1 : 1 ≤ n) (h4 : n ≤ 4) (ha : (s.g c gd).toNat % 2 ^ 25 % 32 = 0) (hb : (s.g c gd).toNat % 2 ^ 25 + 32 ≤ spdSize)
    (hc : s.SpdClean c) (hd : decDesc (Memory.readN (s.cl c).spd.mem ((s.g c gd).toNat % 2 ^ 25) 32) = d)
    (hgo : s.checkMove c (decMove (encMove n gd lcls.toNat 0)) d = .go) :
    s.issueMove c (s.cl c).sq (encMove n gd lcls.toNat 0) =
      s.withCl c fun k => k.withMove (s.rowMove c n lcls.toNat d) (moveRange n lcls.toNat (s.cl c).sq.nextTag d) := by
  have hread : (s.cl c).spd.read 1 ((s.g c gd).toNat % 2 ^ 25) 32 = _ := Spd.read_clean fun w _ => hc.2 w
  have hoff : descOff (s.cl c).sq ⟨n, gd.toNat, lcls.toNat, 0, 0⟩ = (s.g c gd).toNat % 2 ^ 25 := rfl
  have hbytes (bs : List Byte) : (bs.map fun b => (b, false)).map Prod.fst = bs := by simp [Function.comp_def]
  rw [decMove_noCut h4] at hgo
  have hok : descOk ((s.g c gd).toNat % 2 ^ 25) = true := decide_eq_true ⟨ha, hb⟩
  simp only [State.issueMove, decMove_noCut h4, hoff, hread, hbytes, hd, hgo, hok]
  have hs : s.modCl c (fun k => { k with spd := (s.cl c).spd }) = s.withCl c id := State.modCl_withCl rfl
  rw [if_neg (by omega), if_neg (by omega), if_neg (by simp)]
  simp only [bne_self_eq_false, Bool.and_false, Bool.false_and, Bool.false_eq_true, if_false, hs]
  refine (State.modCl_withCl ?_).trans ?_
  · rw [State.withCl_cl]
    exact (s.cl c).spd.asks_ueSeen (moveRange n lcls.toNat (s.cl c).sq.nextTag d)
  · rw [State.withCl_withCl]
    exact State.withCl_congr rfl

/-- R169, R170, R174: a move row whose checks pass puts its move among the outstanding ones. -/
theorem moveRow_starts (h1 : 1 ≤ n) (h4 : n ≤ 4) (hl : lclsOk n lcls.toNat) (ha : (s.g c gd).toNat % 2 ^ 25 % 32 = 0)
    (hb : (s.g c gd).toNat % 2 ^ 25 + 32 ≤ spdSize) (hc : s.SpdClean c) (hg : s.GFree c [gd]) (hm : (s.cl c).sq.moves.length < 16)
    (hw : (s.cl c).spd.weir = []) (hz : (s.cl c).spd.zRun = false)
    (hd : decDesc (Memory.readN (s.cl c).spd.mem ((s.g c gd).toNat % 2 ^ 25) 32) = d)
    (hgo : s.checkMove c (decMove (encMove n gd lcls.toNat 0)) d = .go) :
    moveRow c (encMove n gd lcls.toNat 0) s =
      s.withCl c fun k => k.withMove (s.rowMove c n lcls.toNat d) (moveRange n lcls.toNat (s.cl c).sq.nextTag d) := by
  rw [moveRow_issues h1 h4 hl hg hm hw hz, issueMove_starts h1 h4 ha hb hc hd hgo]

end

end Sys2Proof.Machine
end

section
/-!
PROOFS. How a move between scratchpads completes or expires (06 R172, R174, R176; 09 R289).
-/
namespace Sys2Proof.Machine

/-! A landing beside the bytes of its move (06 R172, R176) -/

section
variable (k : Cluster) (p : Spd) (now : Nat)

/-- 06 R175: the release of a SYNC does not look at the scratchpad. -/
theorem Cluster.syncDue_withSpd : ({ k with spd := p } : Cluster).syncDue now = { k.syncDue now with spd := p } := by
  cases h : k.sq.hold with
  | sync d e pc =>
    simp only [Cluster.syncDue, h]
    split
    · rfl
    · split
      · rfl
      · split <;> rfl
  | none | waitc | yield => simp only [Cluster.syncDue, h]

theorem Cluster.landed_withSpd : ({ k with spd := p } : Cluster).landed now = { k.landed now with spd := p } := by
  cases h : k.sq.hold with
  | sync d e pc =>
    simp only [Cluster.landed, h, Cluster.syncDue_withSpd]
    split <;> rfl
  | none | waitc | yield => simp only [Cluster.landed, h]

/-- R175, R176: `l` is `k` apart from what a landing and the release of a SYNC may change. -/
def Cluster.Lands (k l : Cluster) : Prop :=
  l = { k with sq := { k.sq with land := l.sq.land, hold := l.sq.hold, pend := l.sq.pend, ovr := l.sq.ovr }, chn := l.chn }

theorem Cluster.syncDue_lands : k.Lands (k.syncDue now) := by
  cases h : k.sq.hold with
  | sync d e pc =>
    simp only [Cluster.syncDue, h]
    split
    · exact rfl
    · split
      · exact rfl
      · split
        · rw [Cluster.Lands, Cluster.overrun_frame]
        · exact rfl
  | none | waitc | yield =>
    simp only [Cluster.syncDue, h]
    exact rfl

theorem Cluster.landed_lands : k.Lands (k.landed now) := by
  have hcount (l : Cluster) (hl : k.Lands l) : k.Lands { l with sq := { l.sq with land := l.sq.land + 1 } } := by
    unfold Cluster.Lands
    rw [hl]
  unfold Cluster.landed
  refine hcount _ ?_
  split
  · split
    · exact k.syncDue_lands now
    · exact rfl
  · exact rfl

end

/-! The completion of a move between scratchpads (06 R172, R174, R176) -/

/-- R172, R176: the cluster at the far end with the bytes of a move and, where the move lands, its landing. -/
def Cluster.receives (k : Cluster) (land : Bool) (now off : Nat) (bs : List PByte) : Cluster :=
  { (if land then k.landed now else k) with spd := (k.spd.writeP 0 off bs).2 }

section
variable (k : Cluster) (land : Bool) (now off : Nat) (bs : List PByte)

theorem Cluster.receives_lands : k.Lands (if land then k.landed now else k) := by
  split
  · exact k.landed_lands now
  · exact rfl

theorem Cluster.receives_frame : let l := if land then k.landed now else k
    k.receives land now off bs = { k with
      sq := { k.sq with land := l.sq.land, hold := l.sq.hold, pend := l.sq.pend, ovr := l.sq.ovr }, chn := l.chn, spd := (k.spd.writeP 0 off bs).2 } := by
  intro l
  have hl : l = _ := k.receives_lands land now
  rw [Cluster.receives, show (if land then k.landed now else k) = l from rfl, hl]

end

/-- R174: what the end of a move leaves of every cluster. -/
theorem State.withCl_endMove_cl (s : State) (c d tag : Nat) : (s.withCl c fun k => k.endMove tag).cl d = { s.cl d with
    sq := { (s.cl d).sq with moves := if d = c then (s.cl d).sq.moves.filter fun m => m.tag != tag else (s.cl d).sq.moves }
    spd := if d = c then (s.cl d).spd.release 1 tag else (s.cl d).spd } := by
  rw [State.withCl, State.setCl_cl]
  split
  · next h => subst h; rfl
  · rfl

section
variable {s : State} {c : Nat} {src tenant off n : Nat} {fw : Bool}

theorem State.withCl_id_cl (s : State) (c d : Nat) : (s.withCl c id).cl d = s.cl d := by
  rw [State.withCl, State.setCl_cl]
  split
  · next h => rw [h]; rfl
  · rfl

/-- 08 R224: bytes read from a scratchpad without errors. -/
theorem State.readHost_clean (hc : s.SpdClean c) (data : List Byte) (poison : Bool) : s.readHost src tenant fw data poison n (.spd c off) =
    ((Memory.readN (s.cl c).spd.mem off n).map (fun b => (b, false)), s.withCl c id) := by
  simp only [State.readHost, State.readAt, Spd.read_clean fun w _ => hc.2 w]
  rw [State.modCl_withCl (by rfl)]
  rfl

/-- 08 R225: bytes without poison written to a scratchpad without errors. -/
theorem State.writeAt_clean {bs : List PByte} (hc : s.SpdClean c) (hb : ∀ b ∈ bs, b.2 = false) :
    s.writeAt src tenant fw bs (.spd c off) = s.withCl c fun k => { k with spd := (k.spd.writeP 0 off bs).2 } := by
  rw [State.writeAt, State.modCl_withCl]
  exact (Spd.writeP_clean hc.1 hc.2 hb).2.ueSeen

theorem State.landAt_withCl : s.landAt c = s.withCl c fun k => k.landed (s.dieCount (c / 8)) := by
  refine State.modCl_withCl ?_
  rw [(s.cl c).landed_lands (s.dieCount (c / 8))]

/-- R172, R176: a landing after the bytes of its move. -/
theorem State.landAt_written {bs : List PByte} : (s.withCl c fun k => { k with spd := (k.spd.writeP 0 off bs).2 }).landAt c =
    s.withCl c fun k => k.receives true (s.dieCount (c / 8)) off bs := by
  rw [State.landAt_withCl, State.withCl_withCl]
  exact State.withCl_congr (Cluster.landed_withSpd ..)

/-- R174, 09 R290: the end of a move whose port has no configuration that waits. -/
theorem State.endMove_withCl {tag : Nat} (h : c ∉ s.ten.cfgDue) : s.endMove c tag = s.withCl c fun k => k.endMove tag := by
  have ht : (s.withCl c fun k => k.endMove tag).ten.cfgDue.contains c = false := by simpa [State.withCl] using h
  rw [State.endMove, State.modCl_withCl (by rfl), State.portSettle, ht]
  rfl

end

theorem Memory.readN_getElem {m : List Host.Cell} {a n i : Nat} (h : i < n) : (Memory.readN m a n)[i]? = some (Memory.read m (a + i)) := by
  simp [Memory.readN, span, h]

/-- R172: the bytes of another scratchpad are at their place, and every other byte is as it was. -/
theorem Spd.read_copied {p p' : Spd} (hc : p'.Clean) {port o1 o2 n : Nat} (x : Nat) :
    Memory.read (p'.writeP port o2 ((Memory.readN p.mem o1 n).map fun b => (b, false))).2.mem x =
      if o2 ≤ x ∧ x < o2 + n then Memory.read p.mem (o1 + (x - o2)) else Memory.read p'.mem x := by
  obtain ⟨-, -, hread, -⟩ := (Spd.writeP_clean (port := port) (off := o2) (bs := (Memory.readN p.mem o1 n).map fun b => (b, false))
    hc.1 hc.2 (by simp)).2
  rw [hread, List.length_map, Memory.readN_length]
  split
  · next h =>
    rw [List.getD_eq_getElem?_getD, List.getElem?_map, Memory.readN_getElem (by omega)]
    rfl
  · rfl

/-- R172, R176: the panel with the bytes and the landing of the move `m` at its far end `d2`. -/
def State.received (s : State) (m : Move) (d1 o1 d2 o2 : Nat) : State := (s.withCl d1 id).withCl d2 fun k =>
  k.receives m.land (s.dieCount (d2 / 8)) o2 ((Memory.readN (s.cl d1).spd.mem o1 m.length).map fun b => (b, false))

section
variable {s : State} {m : Move} {d1 o1 d2 o2 d : Nat}

theorem State.received_cl_far : (s.received m d1 o1 d2 o2).cl d2 =
    (s.cl d2).receives m.land (s.dieCount (d2 / 8)) o2 ((Memory.readN (s.cl d1).spd.mem o1 m.length).map fun b => (b, false)) := by
  rw [State.received, State.withCl_cl, State.withCl_id_cl]

theorem State.received_cl_ne (h : d ≠ d2) : (s.received m d1 o1 d2 o2).cl d = s.cl d := by
  rw [State.received, State.withCl, State.setCl_cl_ne h, State.withCl_id_cl]

/-- What the arrival of a move leaves as it is. -/
theorem State.received_leaves : let k := (s.received m d1 o1 d2 o2).cl d
    k.sq.g = (s.cl d).sq.g ∧ k.sq.pc = (s.cl d).sq.pc ∧ k.mx = (s.cl d).mx ∧ k.vx = (s.cl d).vx ∧ k.sx = (s.cl d).sx := by
  by_cases h : d = d2
  · subst h
    rw [State.received_cl_far, Cluster.receives_frame]
    exact ⟨rfl, rfl, rfl, rfl, rfl⟩
  · rw [State.received_cl_ne h]
    exact ⟨rfl, rfl, rfl, rfl, rfl⟩

theorem State.received_moves : ((s.received m d1 o1 d2 o2).cl d).sq.moves = (s.cl d).sq.moves := by
  by_cases h : d = d2
  · subst h
    rw [State.received_cl_far, Cluster.receives_frame]
  · rw [State.received_cl_ne h]

theorem State.received_changes : ChangesOnly [.clusters] s (s.received m d1 o1 d2 o2) :=
  (State.setCl_changes (by simp)).trans (State.setCl_changes (by simp))

end

/-- R174: the move `m` of cluster `c` goes from one scratchpad to another, alone under its tag, without a NAK, its packets not sent one by
one. -/
structure State.MoveDue (s : State) (c : ClusterId) (m : Move) (d1 o1 d2 o2 : Nat) : Prop where
  mem : m ∈ (s.cl c).sq.moves
  only : ∀ x ∈ (s.cl c).sq.moves, x.tag = m.tag → x = m
  nak : m.nak = none
  sent : m.sent = false
  bytes : m.sentBytes = 0
  range : (s.cl c).spd.waits 1 m.tag = false
  direct : s.streams c m.mvop = false
  src : decodeAddr m.src.toNat = .ok (.spd d1 o1)
  dst : decodeAddr m.dst.toNat = .ok (.spd d2 o2)

namespace State.MoveDue
variable {s : State} {c : ClusterId} {m : Move} {d1 o1 d2 o2 : Nat} {data : List Byte} {poison : Bool} (h : s.MoveDue c m d1 o1 d2 o2)
include h

theorem find : (s.cl c).sq.moves.find? (fun x => x.tag == m.tag) = some m := by
  obtain ⟨x, hx⟩ := Option.isSome_iff_exists.1 (List.find?_isSome.2 ⟨m, h.mem, beq_self_eq_true m.tag⟩ :
    ((s.cl c).sq.moves.find? fun x => x.tag == m.tag).isSome = true)
  rw [hx, h.only x (List.mem_of_find?_eq_some hx) (by simpa using List.find?_some hx)]

theorem target : s.moveTarget m (s.streams c m.mvop) = .ok (.spd d2 o2) := by simp [State.moveTarget, h.direct, h.dst]

/-- R289: without a path the packets are dropped and answered with a NAK. -/
theorem dropped (hp : s.noPath c (if m.mvop = 1 then PAddr.spd d1 o1 else PAddr.spd d2 o2) = true) : exec (.moveComplete c m.tag data poison) s =
    .next ((((s.countNaks c m).withRouter (c / 8) fun r => { r.bump 2 (s.movePackets c m) with rdrop := true }).withCl c fun k => k.nakMove m.tag 2).raise
      .nakRoute (c / 8) 0 0) := by
  have hbar : s.peerBarred c m (.spd d2 o2) = false := rfl
  rw [exec_moveComplete, execMoveComplete]
  simp only [State.completeMove, h.find, h.nak, h.range, h.sent, h.bytes, h.src, h.target, hbar, hp]
  rw [← State.modCl_withCl (by rfl)]
  rfl

/-- R172, R174, R176: where the far end has a path the bytes arrive, the move lands, and it is over. -/
theorem moves (hp : s.noPath c (if m.mvop = 1 then PAddr.spd d1 o1 else PAddr.spd d2 o2) = false) (hz1 : (s.cl d1).spd.zRun = false)
    (hz2 : (s.cl d2).spd.zRun = false) (hcfg : c.val ∉ s.ten.cfgDue) (hc1 : s.SpdClean d1) (hc2 : s.SpdClean d2) :
    exec (.moveComplete c m.tag data poison) s = .next ((s.received m d1 o1 d2 o2).withCl c fun k => k.endMove m.tag) := by
  have hbar : s.peerBarred c m (.spd d2 o2) = false := rfl
  have hfree (src t : Nat) : s.memHolds src t (.spd d1 o1) = false ∧ s.memHolds src t (.spd d2 o2) = false := ⟨hz1, hz2⟩
  have hread := State.readHost_clean (src := clSrc c) (tenant := s.clTenant c) (fw := false) (off := o1) (n := m.length) hc1 data poison
  have hwrite := State.writeAt_clean (s := s.withCl d1 id) (c := d2) (src := clSrc c) (tenant := s.clTenant c) (fw := false) (off := o2)
    (bs := (Memory.readN (s.cl d1).spd.mem o1 m.length).map fun b => (b, false)) (by rwa [State.SpdClean, State.withCl_id_cl]) (by simp)
  rw [exec_moveComplete, execMoveComplete]
  simp only [State.completeMove, h.find, h.nak, h.range, h.sent, h.bytes, h.src, h.target, hbar, hp, hfree, hread, hwrite, Option.isSome_none,
    Bool.or_self, Bool.false_eq_true, if_false, ne_eq, not_true_eq_false]
  cases hl : m.land with
  | true =>
    dsimp only
    rw [State.landAt_written, State.endMove_withCl (by exact hcfg), State.received, hl]
    rfl
  | false =>
    dsimp only
    rw [State.endMove_withCl (by exact hcfg), State.received, hl]
    rfl

end State.MoveDue

/-- R174: the timer of an outstanding move expires. -/
theorem moveTimer_expires {s : State} {c : ClusterId} {m : Move}
    (h : (s.cl c).sq.moves.find? (fun (x : Move) => x.tag == m.tag && x.timer.isSome && !x.expired) = some m) :
    exec (.moveTimerExpiry c m.tag) s = .next (s.withCl c fun k => { k with sq := { k.sq with
      moves := k.sq.moves.map fun (x : Move) => if x.tag = m.tag then { x with expired := true } else x } }.overrun 3 m.lcls m.pc) := by
  rw [exec_moveTimerExpiry, execMoveTimerExpiry, State.modCl_withCl]
  · exact congrArg Host.Outcome.next (State.withCl_congr (by simp only [h]))
  · simp only [h]
    rfl

/-- Settles O19: the start by its descriptor, the completion by the path of its far end, the timer by the move it finds. -/
theorem movesStartCompleteAndExpire : Obligations.MovesStartCompleteAndExpire := by
  unfold Obligations.MovesStartCompleteAndExpire
  refine ⟨?start, ?complete, fun c m s h => moveTimer_expires h⟩
  case start =>
    intro e he c gd lcls s hl off d k w ha hb hc hg hm hw hz hgo
    obtain ⟨h1, h4, hrow⟩ := moveRows_exec (gd := gd) (c := c) (lcls := lcls) (s := s) he
    have hword (x : Nat) (hx : x < 256 ^ 8) : (BitVec.ofNat 64 x).toNat = x := (BitVec.toNat_ofNat ..).trans (Nat.mod_eq_of_lt hx)
    refine ⟨_, hrow.trans (congrArg Host.Outcome.next (moveRow_starts h1 h4 hl ha hb hc hg hm hw hz rfl hgo)), s.rowMove c e.1 lcls.toNat d,
      rfl, rfl, rfl, hword _ (le_lt ..), hword _ (le_lt ..), rfl, rfl, rfl, rfl, rfl, rfl, rfl, rfl, rfl, rfl, ?timer, ?land, ?sq, ?spd,
      fun _ => State.setCl_cl_ne, State.setCl_changes (by simp)⟩
    case timer => simp [State.rowMove]
    case land => simp [State.rowMove]
    case sq =>
      rw [State.withCl_cl]
      rfl
    case spd =>
      rw [State.withCl_cl]
      exact Spd.asks_frame ..
  case complete =>
    intro c m d1 o1 d2 o2 data poison s q hmem hu hn hs hb hw hst h1 h2
    have hdue : s.MoveDue c m d1 o1 d2 o2 := ⟨hmem, hu, hn, hs, hb, hw, hst, h1, h2⟩
    refine ⟨hdue.dropped, fun hp hz1 hz2 hcfg hc1 hc2 => ?_⟩
    have hmem (k : Cluster) (b : Prop) [Decidable b] : (if b then k.spd.release 1 m.tag else k.spd).mem = k.spd.mem := by split <;> rfl
    refine ⟨_, hdue.moves hp hz1 hz2 hcfg hc1 hc2, fun x => ?bytes, fun d hd => ?others, ?ended, ?landing, fun d => ?leaves,
      State.received_changes.trans (State.setCl_changes (by simp))⟩
    all_goals rw [State.withCl_endMove_cl]
    case bytes =>
      rw [hmem, State.received_cl_far]
      exact Spd.read_copied hc2 x
    case others => rw [hmem, State.received_cl_ne hd]
    case ended => rw [if_pos rfl, State.received_moves]
    case landing =>
      rw [State.received_cl_far, Cluster.receives]
      exact ⟨rfl, rfl⟩
    case leaves =>
      obtain ⟨hg, hpc, hmx, hvx, hsx⟩ := State.received_leaves (s := s) (m := m) (d1 := d1) (o1 := o1) (d2 := d2) (o2 := o2) (d := d)
      have hchn (hd : d ≠ d2) : ((s.received m d1 o1 d2 o2).cl d).chn = (s.cl d).chn := by rw [State.received_cl_ne hd]
      exact ⟨hg, hpc, hmx, hvx, hsx, hchn⟩

end Sys2Proof.Machine
end

section
/-!
SUPPORT. A word of the scalar slot that its issuer does not let through, and one that a thread takes (05 R152, R153, R158; 06 R163 to R165, R171).
-/
namespace Sys2Proof.Machine

/-! A sequencer's word (06 R165, R171) -/

section
variable {s : State} {c : ClusterId} {w : Word32}

/-- R165: the registers `rs` are free exactly when no running VCOMPRESS holds a read of them. -/
theorem gHeld_eq_true_iff {rs : List Reg} (hw : scalarReads w = rs.map BitVec.toNat) : (s.cl c).gHeld (scalarReads w) = true ↔ ¬ s.GFree c rs := by
  refine ⟨fun hheld hfree => by simp [GFree_reads hfree hw] at hheld, fun hnot => ?_⟩
  simp only [State.GFree, not_forall, not_not] at hnot
  obtain ⟨r, hr, hpend⟩ := hnot
  rw [hw, Cluster.gHeld, hpend]
  simpa using ⟨r, hr, rfl⟩

/-- R165: a legal word that reads a register still to be written waits. -/
theorem scalarWord_waits (hl : scalarIllegal (clusterKind c) w = none) (hg : (s.cl c).gHeld (scalarReads w) = true) : scalarWord c w s = s := by
  simp [scalarWord, hl, scalarHeld, hg]

/-- R171: an illegal word is entered as a trap, whatever it reads. -/
theorem scalarWord_illegal {sub : Nat} (hl : scalarIllegal (clusterKind c) w = some sub) : scalarWord c w s = s.enterTrap c .illegalBundle sub := by
  simp [scalarWord, hl]

end

/-! A thread's word (05 R152, R153, R158) -/

section
variable {s : State} {site : SiteId} {t : ThreadId} {w : Word32}

/-- R152, R153: an SXFENCE or a GWAIT holds the thread's next word. -/
theorem threadWord_waits (h : ¬ s.ThrGoes site t) : threadWord site t w s = s := by
  have hhold : (s.cl (sxOf site)).holdOver t = false := by simpa [State.ThrGoes] using h
  simp [threadWord, hhold]

/-- R158: a word that its gate faults stops the thread. -/
theorem threadWord_faults {code : Nat} (h : s.ThrGoes site t) (hgate : thrGate (s.cl (sxOf site)) t w = .fault code) :
    threadWord site t w s = s.thrFault site t code := by
  have hhold : (s.cl (sxOf site)).holdOver t = true := h
  simp only [threadWord, hhold, hgate]
  rw [modCl_eq (Nat.le_refl _)]
  rfl

/-- R151: a word that its gate lets through and that is no transfer has its effect `k`, in which no uncorrected word is met. -/
theorem threadWord_takes {k : Cluster} (h : s.ThrGoes site t) (hgate : thrGate (s.cl (sxOf site)) t w = .go)
    (ht : thrTarget (s.thread site t) (decScalar w) = none)
    (hk : thrExec ((s.cl (sxOf site)).modThread t fun h => { h with hold := .none }) t w = k) (hu : k.spd.ueSeen = (s.cl (sxOf site)).spd.ueSeen) :
    threadWord site t w s = s.setCl (sxOf site) k := by
  have hhold : (s.cl (sxOf site)).holdOver t = true := h
  simp only [threadWord, hhold, hgate, Bool.not_true, Bool.false_eq_true, if_false]
  rw [modCl_eq] <;> simp only [State.thread_eq, ht, hk]
  exact hu.le

/-- R158: an illegal word is a fault with code 1. -/
theorem threadWord_illegal {sub : Nat} (h : s.ThrGoes site t) (hl : scalarIllegal 3 w = some sub) : threadWord site t w s = s.thrFault site t 1 :=
  threadWord_faults h (by simp [thrGate, hl])

end

end Sys2Proof.Machine
end


section
/-!
PROOFS. The integer rows of the scalar slot (07 R198).
-/
namespace Sys2Proof.Machine

variable {s : State} {c : ClusterId} {rd rs1 rs2 : Reg} {imm : Half}

/-! The tables (07 R198) -/

/-- R198: each row of two registers is its word issued alone, with the result of its opcode. -/
theorem integerRows_aluR {row : Agent → Reg → Reg → Reg → Instr} {f : Word → Word → Word} (he : (row, f) ∈ integerRows) :
    ∃ sop, (1 ≤ sop ∧ sop ≤ 0x0E) ∧ (∀ ag rd rs1 rs2 s, exec (row ag rd rs1 rs2) s = scalarRow ag (encR sop rd rs1 rs2) s) ∧
      ∀ a b, aluR sop a b = f a b := by
  simp only [integerRows, List.mem_cons, Prod.mk.injEq, List.not_mem_nil, or_false] at he
  rcases he with ⟨rfl, rfl⟩ | ⟨rfl, rfl⟩ | ⟨rfl, rfl⟩ | ⟨rfl, rfl⟩ | ⟨rfl, rfl⟩ | ⟨rfl, rfl⟩ | ⟨rfl, rfl⟩ | ⟨rfl, rfl⟩ | ⟨rfl, rfl⟩ |
    ⟨rfl, rfl⟩ | ⟨rfl, rfl⟩ | ⟨rfl, rfl⟩ | ⟨rfl, rfl⟩ | ⟨rfl, rfl⟩
  · exact ⟨0x01, by omega, fun _ _ _ _ _ => rfl, fun _ _ => rfl⟩
  · exact ⟨0x02, by omega, fun _ _ _ _ _ => rfl, fun _ _ => rfl⟩
  · exact ⟨0x03, by omega, fun _ _ _ _ _ => rfl, fun _ _ => rfl⟩
  · exact ⟨0x04, by omega, fun _ _ _ _ _ => rfl, fun _ _ => rfl⟩
  · exact ⟨0x05, by omega, fun _ _ _ _ _ => rfl, fun _ _ => rfl⟩
  · exact ⟨0x06, by omega, fun _ _ _ _ _ => rfl, fun _ _ => rfl⟩
  · exact ⟨0x07, by omega, fun _ _ _ _ _ => rfl, fun _ _ => rfl⟩
  · exact ⟨0x08, by omega, fun _ _ _ _ _ => rfl, fun _ _ => rfl⟩
  · exact ⟨0x09, by omega, fun _ _ _ _ _ => rfl, fun _ _ => rfl⟩
  · exact ⟨0x0A, by omega, fun _ _ _ _ _ => rfl, fun a b => by rw [aluR, Nat.shiftRight_eq_div_pow]⟩
  · exact ⟨0x0B, by omega, fun _ _ _ _ _ => rfl, fun a b => by simp only [aluR, decide_eq_true_eq, ← not_le, ite_not]⟩
  · refine ⟨0x0C, by omega, fun _ _ _ _ _ => rfl, fun a b => ?_⟩
    have hlt : decide (a.toInt < b.toInt) = true ↔ a.toInt < b.toInt := decide_eq_true_iff
    rcases lt_trichotomy a.toInt b.toInt with h | h | h
    · simp only [aluR, hlt, if_pos h, if_pos h.le]
    · simp only [aluR, BitVec.eq_of_toInt_eq h, ite_self]
    · simp only [aluR, hlt, if_neg h.not_gt, if_neg h.not_ge]
  · exact ⟨0x0D, by omega, fun _ _ _ _ _ => rfl, fun a b => by simp only [aluR, decide_eq_true_eq]⟩
  · exact ⟨0x0E, by omega, fun _ _ _ _ _ => rfl, fun _ _ => rfl⟩

/-- R198: each immediate row, likewise. -/
theorem immediateRows_aluI {row : Agent → Reg → Reg → Half → Instr} {f : Word → Half → Word} (he : (row, f) ∈ immediateRows) :
    ∃ sop, (0x0F ≤ sop ∧ sop ≤ 0x12) ∧ (∀ ag rd rs1 imm s, exec (row ag rd rs1 imm) s = scalarRow ag (encI sop rd rs1 imm) s) ∧
      ∀ a old imm, aluI sop a old imm.toNat = f a imm := by
  simp only [immediateRows, List.mem_cons, Prod.mk.injEq, List.not_mem_nil, or_false] at he
  rcases he with ⟨rfl, rfl⟩ | ⟨rfl, rfl⟩ | ⟨rfl, rfl⟩ | ⟨rfl, rfl⟩
  · exact ⟨0x0F, by omega, fun _ _ _ _ _ => rfl, fun a _ i => by rw [aluI, sext16]⟩
  · exact ⟨0x10, by omega, fun _ _ _ _ _ => rfl, fun a _ i => by rw [aluI, BitVec.ofNat_toNat]⟩
  · exact ⟨0x11, by omega, fun _ _ _ _ _ => rfl, fun a _ i => by rw [aluI, BitVec.ofNat_toNat]⟩
  · exact ⟨0x12, by omega, fun _ _ _ _ _ => rfl, fun a _ i => by rw [aluI, BitVec.ofNat_toNat]⟩

/-- R198: each shift by an immediate, likewise; its count is taken modulo 64. -/
theorem shiftRows_aluI {row : Agent → Reg → Reg → Half → Instr} {f : Word → Nat → Word} (he : (row, f) ∈ shiftRows) :
    ∃ sop, (0x13 ≤ sop ∧ sop ≤ 0x15) ∧ (∀ ag rd rs1 imm s, exec (row ag rd rs1 imm) s = scalarRow ag (encI sop rd rs1 imm) s) ∧
      ∀ a old n, aluI sop a old n = f a (n % 64) := by
  simp only [shiftRows, List.mem_cons, Prod.mk.injEq, List.not_mem_nil, or_false] at he
  rcases he with ⟨rfl, rfl⟩ | ⟨rfl, rfl⟩ | ⟨rfl, rfl⟩
  · exact ⟨0x13, by omega, fun _ _ _ _ _ => rfl, fun _ _ _ => rfl⟩
  · exact ⟨0x14, by omega, fun _ _ _ _ _ => rfl, fun _ _ _ => rfl⟩
  · exact ⟨0x15, by omega, fun _ _ _ _ _ => rfl, fun _ _ _ => rfl⟩

/-! The rows of two registers -/

/-- R163, R164: a row of two registers reads both. -/
theorem scalarReads_encR {sop : Nat} (h : (1 ≤ sop ∧ sop ≤ 0x0E) ∨ (0x17 ≤ sop ∧ sop ≤ 0x1D)) :
    scalarReads (encR sop rd rs1 rs2) = [rs1, rs2].map BitVec.toNat := by
  rw [scalarReads, decScalar_encR (by omega)]
  exact if_pos (by dsimp only; omega)

/-- R165, R152, R153: a row of two registers waits for what it reads, in a thread for its hold. -/
theorem registerRow_waits {sop : Nat} (h : (1 ≤ sop ∧ sop ≤ 0x0E) ∨ (0x17 ≤ sop ∧ sop ≤ 0x1D)) :
    (∀ c, ¬ s.GFree c [rs1, rs2] → scalarRow (.seq c) (encR sop rd rs1 rs2) s = .next s) ∧
    (∀ site t, ¬ s.ThrGoes site t → scalarRow (.thr site t) (encR sop rd rs1 rs2) s = .next s) :=
  ⟨fun c hg => congrArg Host.Outcome.next (scalarWord_waits (legalR h _ (by have := clusterKind_le c; omega))
      ((gHeld_eq_true_iff (scalarReads_encR h)).2 hg)),
    fun _ _ hgo => congrArg Host.Outcome.next (threadWord_waits hgo)⟩

/-! The immediate rows -/

/-- R198: an immediate row that is legal has the result of its opcode, in a sequencer and in a thread. -/
theorem immediateRow_writes {sop : Nat} (h : (0x0F ≤ sop ∧ sop ≤ 0x12) ∨ (0x13 ≤ sop ∧ sop ≤ 0x15 ∧ imm.toNat < 64) ∨ (sop = 0x16 ∧ rs1 = 0)) :
    (∀ c, s.GFree c (if sop = 0x16 then [rd] else [rs1]) →
      scalarRow (.seq c) (encI sop rd rs1 imm) s = .next (s.withG c rd (aluI sop (s.g c rs1) (s.g c rd) imm.toNat))) ∧
    (∀ site t, s.ThrGoes site t →
      scalarRow (.thr site t) (encI sop rd rs1 imm) s = .next (s.withX site t rd (aluI sop (s.x site t rs1) (s.x site t rd) imm.toNat))) := by
  have hw := decScalar_encI (rd := rd) (rs1 := rs1) (imm := imm) (show sop < 64 by omega)
  have hsop : (decScalar (encI sop rd rs1 imm)).sop = sop := by rw [hw]
  have hres (a b old : Word) : regResult (decScalar (encI sop rd rs1 imm)) a b old = aluI sop a old imm.toNat := by
    rw [regResult, hw, if_neg (by dsimp only; omega), if_pos (by dsimp only; omega)]
  rw [hw] at hres
  refine ⟨fun c hg => congrArg Host.Outcome.next ?_, fun site t hgo => congrArg Host.Outcome.next ?_⟩
  · rw [seq_reg (GFree_reads hg (reads_encI (by omega))) (legalI h) (by omega) (by omega)]
    simp only [hres, hw]
    rfl
  · rw [thr_reg hgo (legalI h 3 (by omega)) (by omega) (by omega)]
    simp only [hres, hw, x_reg, withX_eq]

/-- R198: LIH shifts its register and fills in IMM. -/
theorem lih_writes : (∀ c, s.GFree c [rd] → exec (.lih (.seq c) rd imm) s = .next (s.withG c rd ((s.g c rd) <<< 16 ||| imm.setWidth 64))) ∧
    (∀ site t, s.ThrGoes site t → exec (.lih (.thr site t) rd imm) s = .next (s.withX site t rd ((s.x site t rd) <<< 16 ||| imm.setWidth 64))) := by
  have hres (a old : Word) : aluI 0x16 a old imm.toNat = old <<< 16 ||| imm.setWidth 64 := by
    rw [← BitVec.ofNat_toNat]
    rfl
  obtain ⟨hseq, hthr⟩ := immediateRow_writes (s := s) (rd := rd) (rs1 := 0) (imm := imm) (sop := 0x16) (.inr (.inr ⟨rfl, rfl⟩))
  simp only [hres] at hseq hthr
  exact ⟨hseq, hthr⟩

/-- R164, R171: a shift by an immediate whose IMM[15:6] is not 0 is illegal with sub-code 6. -/
theorem shift_illegal {sop : Nat} (h : 0x13 ≤ sop ∧ sop ≤ 0x15) (hi : 64 ≤ imm.toNat) (kind : Nat) :
    scalarIllegal kind (encI sop rd rs1 imm) = some 6 := by
  have hw := decScalar_encI (rd := rd) (rs1 := rs1) (imm := imm) (show sop < 64 by omega)
  have hmbz : scalarMbz (encI sop rd rs1 imm) = true := by
    rw [scalarMbz, hw, if_neg (by dsimp only; omega)]
    simp [h, hi]
  rw [scalarIllegal, hmbz, hw, if_neg (by dsimp only; omega)]
  rfl

/-! LOOP (06 R166; 07 R198) -/

theorem State.withSq_cl (f : Sqr → Sqr) : (s.withSq c f).cl c = { s.cl c with sq := f (s.cl c).sq } := State.setCl_cl_same

theorem Sqr.gpr_setG (q : Sqr) (r : Nat) (v : Word) : (q.setG r v).gpr r = v := by simp [Sqr.gpr, Sqr.setG]

/-- R166: a LOOP that jumps counts its counter down as 64 unsigned bits. -/
theorem loop_countsDown (hg : s.GFree c [rd]) (h0 : s.g c rd ≠ 0) (hin : InSpd (jumpTo (s.cl c).sq.pc imm.toInt)) :
    Completes (.loop (.seq c) rd imm) s fun u =>
      (u.g c rd).toNat = (s.g c rd).toNat - 1 ∧ ((u.cl c).sq.pc : Int) = jumpTo (s.cl c).sq.pc imm.toInt := by
  obtain ⟨-, hjump, -⟩ := loop_transfers (imm := imm) hg
  refine ⟨_, hjump h0 hin, ?_, ?_⟩
  · have hcount : (s.withSq c fun q => { q.setG rd.toNat (s.g c rd - 1) with pc := (jumpTo (s.cl c).sq.pc imm.toInt).toNat }).g c rd = s.g c rd - 1 := by
      rw [State.g, State.withSq_cl]
      exact Sqr.gpr_setG ..
    rw [hcount]
    bv_omega
  · rw [State.withSq_cl]
    exact Int.toNat_of_nonneg hin.1

/-- Settles O3, table by table; LIH, LOOP and WAITC by themselves. -/
theorem integerOperationsFollowTheirTable : Obligations.IntegerOperationsFollowTheirTable := by
  unfold Obligations.IntegerOperationsFollowTheirTable
  intro rd rs1 rs2 imm s
  obtain ⟨hlihSeq, hlihThr⟩ := lih_writes (s := s) (rd := rd) (imm := imm)
  refine ⟨fun ⟨row, f⟩ he => ?registers, fun ⟨row, f⟩ he => ?immediate, fun ⟨row, f⟩ he hi => ?shift, fun ⟨row, f⟩ he hi => ?illegal, hlihSeq, hlihThr,
    fun c hg => ⟨(loop_transfers hg).1, loop_countsDown hg⟩, fun c hg => waitc_holds hg⟩
  case registers =>
    obtain ⟨sop, hsop, hexec, hres⟩ := integerRows_aluR he
    obtain ⟨hseq, hthr⟩ := rowR row f sop (.inl hsop) hexec (fun _ _ _ a b _ => (if_pos hsop.2).trans (hres a b)) rd rs1 rs2 s
    obtain ⟨hwait, hhold⟩ := registerRow_waits (s := s) (rd := rd) (rs1 := rs1) (rs2 := rs2) (.inl hsop)
    exact ⟨hseq, fun c hg => (hexec ..).trans (hwait c hg), hthr, fun site t hgo => (hexec ..).trans (hhold site t hgo)⟩
  case immediate =>
    obtain ⟨sop, hsop, hexec, hres⟩ := immediateRows_aluI he
    obtain ⟨hseq, hthr⟩ := immediateRow_writes (s := s) (rd := rd) (rs1 := rs1) (imm := imm) (.inl hsop)
    simp only [hres, if_neg (show ¬ sop = 0x16 by omega)] at hseq hthr
    exact ⟨fun c hg => (hexec ..).trans (hseq c hg), fun site t hgo => (hexec ..).trans (hthr site t hgo)⟩
  case shift =>
    obtain ⟨sop, hsop, hexec, hres⟩ := shiftRows_aluI he
    obtain ⟨hseq, hthr⟩ := immediateRow_writes (s := s) (rd := rd) (rs1 := rs1) (.inr (.inl ⟨hsop.1, hsop.2, hi⟩))
    simp only [hres, Nat.mod_eq_of_lt hi, if_neg (show ¬ sop = 0x16 by omega)] at hseq hthr
    exact ⟨fun c hg => (hexec ..).trans (hseq c hg), fun site t hgo => (hexec ..).trans (hthr site t hgo)⟩
  case illegal =>
    obtain ⟨sop, hsop, hexec, -⟩ := shiftRows_aluI he
    have hill := shift_illegal (rd := rd) (rs1 := rs1) hsop hi
    exact ⟨fun c => (hexec ..).trans (congrArg Host.Outcome.next (scalarWord_illegal (hill _))),
      fun site t hgo => (hexec ..).trans (congrArg Host.Outcome.next (threadWord_illegal hgo (hill _)))⟩

end Sys2Proof.Machine
end

section
/-!
PROOFS. The binary32 rows of the scalar slot (07 R202 to R205).
-/
namespace Sys2Proof.Machine

variable {s : State} {rd rs1 : Reg} {sop : Nat}

/-- R203, R204: each binary32 row of two registers is its word issued alone, with the result of its opcode in [31:0]. -/
theorem floatRows_fpu {row : Agent → Reg → Reg → Reg → Instr} {f : Nat → Nat → Nat} (he : (row, f) ∈ floatRows) :
    ∃ sop, (0x17 ≤ sop ∧ sop ≤ 0x1D) ∧ (∀ ag rd rs1 rs2 s, exec (row ag rd rs1 rs2) s = scalarRow ag (encR sop rd rs1 rs2) s) ∧
      ∀ a b, fpu sop a b = BitVec.ofNat 64 (f (a.toNat % 2 ^ 32) (b.toNat % 2 ^ 32)) := by
  simp only [floatRows, List.mem_cons, Prod.mk.injEq, List.not_mem_nil, or_false] at he
  rcases he with ⟨rfl, rfl⟩ | ⟨rfl, rfl⟩ | ⟨rfl, rfl⟩ | ⟨rfl, rfl⟩ | ⟨rfl, rfl⟩ | ⟨rfl, rfl⟩ | ⟨rfl, rfl⟩
  · exact ⟨0x17, by omega, fun _ _ _ _ _ => rfl, fun _ _ => rfl⟩
  · exact ⟨0x18, by omega, fun _ _ _ _ _ => rfl, fun _ _ => rfl⟩
  · exact ⟨0x19, by omega, fun _ _ _ _ _ => rfl, fun _ _ => rfl⟩
  · exact ⟨0x1A, by omega, fun _ _ _ _ _ => rfl, fun _ _ => rfl⟩
  · exact ⟨0x1B, by omega, fun _ _ _ _ _ => rfl, fun _ _ => rfl⟩
  · exact ⟨0x1C, by omega, fun _ _ _ _ _ => rfl, fun _ _ => (apply_ite (BitVec.ofNat 64) ..).symm⟩
  · exact ⟨0x1D, by omega, fun _ _ _ _ _ => rfl, fun _ _ => (apply_ite (BitVec.ofNat 64) ..).symm⟩

/-- R164: the conversions name no second register, and are legal for every issuer. -/
theorem conversion_legal (h : sop = 0x1E ∨ sop = 0x1F) {kind : Nat} (hk : kind ≤ 3) : scalarIllegal kind (encR sop rd rs1 0) = none := by
  have hw := decScalar_encR (rd := rd) (rs1 := rs1) (rs2 := 0) (show sop < 64 by omega)
  refine scalarIllegal_none (by rw [hw]; dsimp only; omega) ?_ ?_
  · rcases h with rfl | rfl <;> simp [scalarMbz, isFormR, decScalar_encR]
  · simp only [sopAllowed, hw]
    split
    · exact decide_eq_true (by omega)
    · split <;> exact decide_eq_true (by omega)

/-- R205: a conversion has the result of its opcode, in a sequencer and in a thread. -/
theorem conversion_writes (h : sop = 0x1E ∨ sop = 0x1F) :
    (∀ c, s.GFree c [rs1] → scalarRow (.seq c) (encR sop rd rs1 0) s = .next (s.withG c rd (fpu sop (s.g c rs1) (s.g c 0)))) ∧
    (∀ site t, s.ThrGoes site t →
      scalarRow (.thr site t) (encR sop rd rs1 0) s = .next (s.withX site t rd (fpu sop (s.x site t rs1) (s.x site t 0)))) := by
  have hw := decScalar_encR (rd := rd) (rs1 := rs1) (rs2 := 0) (show sop < 64 by omega)
  have hsop : (decScalar (encR sop rd rs1 0)).sop = sop := by rw [hw]
  have hres (a b old : Word) : regResult (decScalar (encR sop rd rs1 0)) a b old = fpu sop a b := by
    rw [regResult, hw, if_neg (by dsimp only; omega), if_neg (by dsimp only; omega)]
  rw [hw] at hres
  refine ⟨fun c hg => congrArg Host.Outcome.next ?_, fun site t hgo => congrArg Host.Outcome.next ?_⟩
  · have hreads : scalarReads (encR sop rd rs1 0) = [rs1].map BitVec.toNat := by
      rw [scalarReads, hw, if_neg (by dsimp only; omega), if_pos (by dsimp only; omega)]
      rfl
    rw [seq_reg (GFree_reads hg hreads) (fun _ => conversion_legal h) (by omega) (by omega)]
    simp only [hres, hw]
    rfl
  · rw [thr_reg hgo (conversion_legal h le_rfl) (by omega) (by omega)]
    simp only [hres, hw, x_reg, withX_eq]

/-- Settles O4: the rows of two registers by their table, the conversions by their opcodes. -/
theorem floatRowsWriteTheirResult : Obligations.FloatRowsWriteTheirResult := by
  unfold Obligations.FloatRowsWriteTheirResult
  intro rd rs1 rs2 s
  obtain ⟨hfcvtifSeq, hfcvtifThr⟩ := conversion_writes (s := s) (rd := rd) (rs1 := rs1) (.inl rfl)
  obtain ⟨hfcvtfiSeq, hfcvtfiThr⟩ := conversion_writes (s := s) (rd := rd) (rs1 := rs1) (.inr rfl)
  refine ⟨fun ⟨row, f⟩ he => ?_, hfcvtifSeq, hfcvtifThr, hfcvtfiSeq, hfcvtfiThr⟩
  obtain ⟨sop, hsop, hexec, hres⟩ := floatRows_fpu he
  refine rowR row (fun a b => BitVec.ofNat 64 (f (a.toNat % 2 ^ 32) (b.toNat % 2 ^ 32))) sop (.inr hsop) hexec (fun _ _ _ a b _ => ?_) rd rs1 rs2 s
  rw [regResult, if_neg (by dsimp only; omega), if_neg (by dsimp only; omega)]
  exact hres a b

end Sys2Proof.Machine
end

section
/-!
SUPPORT. The accesses of a scalar unit to its scratchpad: addresses, store-buffer entries, and reads of words without errors (07 R199, R201; 08 R224,
R225, R227).
-/
namespace Sys2Proof.Machine

/-- R199: the address of LD and ST. -/
theorem ldstAddr_mk (a : Word) (sop rd rs1 rs2 low off : Nat) (imm : Half) :
    ldstAddr a ⟨sop, rd, rs1, rs2, low, imm.toNat, off⟩ = (a + imm.signExtend 64).toNat := by rw [ldstAddr, immS, sext16]

/-- R227: an aligned store of eight bytes is one entry with every byte enabled. -/
theorem sbEntries_word {a : Nat} (h : a % 8 = 0) (v : Word) : sbEntries a 8 v.toNat = [⟨a, 0xFF, v⟩] := by
  have hw : wordsOf a 8 = [a / 8] := by
    rw [wordsOf, if_neg (by omega), show (a + 8 - 1) / 8 + 1 - a / 8 = 1 by omega]
    rfl
  have ha : 8 * (a / 8) = a := by omega
  have hv : BitVec.ofNat 64 (v.toNat % 2 ^ 64) = v := by rw [Nat.mod_eq_of_lt v.isLt, BitVec.ofNat_toNat, BitVec.setWidth_eq]
  have hmax : Nat.max a a = a := Nat.max_self a
  have hmin : Nat.min (a + 8) (a + 8) = a + 8 := Nat.min_self _
  simp only [sbEntries, hw, List.map_cons, List.map_nil, ha, hmax, hmin, Nat.sub_self, Nat.add_sub_cancel_left, Nat.mul_zero, Nat.shiftRight_zero,
    Nat.shiftLeft_zero, hv]
  rfl

/-- R224: a read of words without errors gives the bytes of the memory and leaves the cluster as it is. -/
theorem Cluster.rd_words {k : Cluster} {off n : Nat} (h : ∀ w ∈ wordsOf off n, Tbl.get 0 k.spd.bad w = 0) (port : Nat) :
    k.rd port off n = (Memory.readN k.spd.mem off n, k) := by
  simp [Cluster.rd, Spd.read_clean h, Function.comp_def]

end Sys2Proof.Machine
end

section
/-!
PROOFS. LD and ST of a sequencer (07 R199; 08 R227, R228, R233).
-/
namespace Sys2Proof.Machine

variable {s : State} {c : ClusterId} {rd rs1 : Reg} {imm : Half} {sop : Nat}

theorem seqAddr_eq : ((s.cl c).sq.gpr rs1.toNat + imm.signExtend 64).toNat = s.seqAddr c rs1 imm := rfl

/-! What LD and ST meet at issue -/

/-- R164: LD and ST are legal for every sequencer. -/
theorem ldst_legal (h : sop = 0x20 ∨ sop = 0x21) : scalarIllegal (clusterKind c) (encI sop rd rs1 imm) = none := by
  have hsop : (decScalar (encI sop rd rs1 imm)).sop = sop := by rw [decScalar_encI (by omega)]
  exact scalarIllegal_none (by omega) (scalarMbz_encI (by omega)) (sopAllowed_seq (by omega))

/-- R163: LD reads the register of its address, ST its value too; no register that either names is still to be written. -/
theorem ldst_reads (h : sop = 0x20 ∨ sop = 0x21) (hg : s.GFree c [rs1, rd]) : (s.cl c).gHeld (scalarReads (encI sop rd rs1 imm)) = false := by
  rcases h with rfl | rfl
  · exact GFree_reads (rs := [rs1]) (hg.mono (by simp)) (by simp [scalarReads, decScalar_encI])
  · exact GFree_reads hg (by simp [scalarReads, decScalar_encI])

theorem ldst_refuse (h : sop = 0x20 ∨ sop = 0x21) : scalarRefuse (s.cl c).sq (encI sop rd rs1 imm) = ldstRefuse (s.seqAddr c rs1 imm) := by
  have hw := decScalar_encI (rd := rd) (rs1 := rs1) (imm := imm) (show sop < 64 by omega)
  rw [scalarRefuse, hw, ldstAddr_mk, if_pos h]
  rfl

theorem ld_extents : scalarExtents (s.cl c).sq (encI 0x20 rd rs1 imm) = [⟨s.seqAddr c rs1 imm, 8, false⟩] := by
  rw [scalarExtents, decScalar_encI (by omega), ldstAddr_mk]
  rfl

theorem st_extents : scalarExtents (s.cl c).sq (encI 0x21 rd rs1 imm) = [⟨s.seqAddr c rs1 imm, 8, true⟩] := by
  rw [scalarExtents, decScalar_encI (by omega), ldstAddr_mk]
  rfl

/-- R228: a partial overlap alone holds an LD. -/
theorem ld_not_held (hg : s.GFree c [rs1, rd]) (h : sbLookup (s.cl c).sq.sb (s.seqAddr c rs1 imm) 8 ≠ .stall) :
    scalarHeld (s.cl c) (encI 0x20 rd rs1 imm) = false := by
  rw [scalarHeld, ldst_reads (.inl rfl) hg, decScalar_encI (by omega), ldstAddr_mk, seqAddr_eq]
  exact decide_eq_false h

/-- R227: a full store buffer alone holds an ST. -/
theorem st_not_held (hg : s.GFree c [rs1, rd]) (h : (s.cl c).sq.sb.length < 8) : scalarHeld (s.cl c) (encI 0x21 rd rs1 imm) = false := by
  rw [scalarHeld, ldst_reads (.inr rfl) hg, decScalar_encI (by omega)]
  simp [h]

/-- R199, R218: the bound first, then the alignment. -/
theorem ldstRefuse_eq (a : Nat) :
    ldstRefuse a = if spdSize < a + 8 then some (.addrBound, 0) else if a % 8 ≠ 0 then some (.addrAlign, 0) else none := by
  have hbound : a > 0x17FFFF8 ↔ spdSize < a + 8 := by
    unfold spdSize
    omega
  simp only [ldstRefuse, hbound]

theorem ldstRefuse_aligned {a : Nat} (h8 : a % 8 = 0) (hin : a + 8 ≤ spdSize) : ldstRefuse a = none := by
  rw [ldstRefuse_eq, if_neg (by omega), if_neg (by omega)]

theorem ldstRefuse_beyond {a : Nat} (h : spdSize < a + 8) : ldstRefuse a = some (.addrBound, 0) := by
  rw [ldstRefuse_eq, if_pos h]

theorem ldstRefuse_misaligned {a : Nat} (hin : a + 8 ≤ spdSize) (h : a % 8 ≠ 0) : ldstRefuse a = some (.addrAlign, 0) := by
  rw [ldstRefuse_eq, if_neg (by omega), if_pos h]

/-! The effects -/

/-- R199, R228: an LD at an aligned address inside, which nothing holds, has its effect `k`. -/
theorem ld_takes {k : Cluster} (hg : s.GFree c [rs1, rd]) (h8 : s.seqAddr c rs1 imm % 8 = 0) (hin : s.seqAddr c rs1 imm + 8 ≤ spdSize)
    (hb : sbLookup (s.cl c).sq.sb (s.seqAddr c rs1 imm) 8 ≠ .stall) (hw : (s.cl c).spd.weirStalls [⟨s.seqAddr c rs1 imm, 8, false⟩] = false)
    (hk : scalarExec (clusterKind c) (s.merCopy (c / 8)) (s.dieCount (c / 8)) (s.cl c) (s.cl c) (encI 0x20 rd rs1 imm) = k)
    (hu : k.spd.ueSeen = (s.cl c).spd.ueSeen) : exec (.ld (.seq c) rd rs1 imm) s = .next (s.setCl c k) := by
  refine congrArg Host.Outcome.next ((scalarWord_go (ldst_legal (.inl rfl)) (ld_not_held hg hb) ?_ ?_).trans ?_)
  · rw [ldst_refuse (.inl rfl), ldstRefuse_aligned h8 hin]
  · rwa [ld_extents]
  · rw [modCl_eq (by rw [hk]; exact hu.le), hk]

/-- R199, R224: an LD reads the eight bytes at its address. -/
theorem ld_reads (hg : s.GFree c [rs1, rd]) (h8 : s.seqAddr c rs1 imm % 8 = 0) (hl : s.Loads c (s.cl c).sq.sb (s.seqAddr c rs1 imm) 8) :
    exec (.ld (.seq c) rd rs1 imm) s = .next (s.withG c rd (s.spdWord c (s.seqAddr c rs1 imm) 8)) := by
  obtain ⟨hin, hw, hmiss, hbad⟩ := hl
  refine ld_takes hg h8 hin (by rw [hmiss]; simp) hw ?_ (by rfl)
  simp only [scalarExec, decScalar_encI (show 0x20 < 64 by omega), ldstAddr_mk, seqAddr_eq, hmiss, Cluster.rd_words hbad]
  rfl

/-- R228: an LD takes what the store buffer forwards. -/
theorem ld_forwards {v : Nat} (hg : s.GFree c [rs1, rd]) (h8 : s.seqAddr c rs1 imm % 8 = 0) (hin : s.seqAddr c rs1 imm + 8 ≤ spdSize)
    (hb : sbLookup (s.cl c).sq.sb (s.seqAddr c rs1 imm) 8 = .forward v) (hw : (s.cl c).spd.weirStalls [⟨s.seqAddr c rs1 imm, 8, false⟩] = false) :
    exec (.ld (.seq c) rd rs1 imm) s = .next (s.withG c rd (BitVec.ofNat 64 v)) := by
  refine ld_takes hg h8 hin (by rw [hb]; simp) hw ?_ (by rfl)
  simp only [scalarExec, decScalar_encI (show 0x20 < 64 by omega), ldstAddr_mk, seqAddr_eq, hb]
  rfl

/-- R227: an ST enters the store buffer. -/
theorem st_enters (hg : s.GFree c [rs1, rd]) (h8 : s.seqAddr c rs1 imm % 8 = 0) (hin : s.seqAddr c rs1 imm + 8 ≤ spdSize)
    (hb : (s.cl c).sq.sb.length < 8) (hw : (s.cl c).spd.weirStalls [⟨s.seqAddr c rs1 imm, 8, true⟩] = false) :
    exec (.st (.seq c) rd rs1 imm) s = .next (s.withSq c fun q => { q with sb := q.sb ++ [⟨s.seqAddr c rs1 imm, 0xFF, s.g c rd⟩] }) := by
  refine congrArg Host.Outcome.next ((scalarWord_go (ldst_legal (.inr rfl)) (st_not_held hg hb) ?_ ?_).trans ((modCl_eq ?_).trans ?_))
  · rw [ldst_refuse (.inr rfl), ldstRefuse_aligned h8 hin]
  · rwa [st_extents]
  all_goals simp only [scalarExec, decScalar_encI (show 0x21 < 64 by omega), ldstAddr_mk]
  · exact le_rfl
  · rw [State.withSq, ← sbEntries_word h8]
    rfl

/-- R199: an LD or ST that nothing holds is refused by its address. -/
theorem ldst_refused {out : Bool} {cause : Cause} {sub : Nat} (hg : s.GFree c [rs1, rd]) (hb : (s.cl c).sq.sb = [])
    (hw : (s.cl c).spd.weirStalls [⟨s.seqAddr c rs1 imm, 8, out⟩] = false) (hr : ldstRefuse (s.seqAddr c rs1 imm) = some (cause, sub)) :
    exec ((if out then Instr.st else .ld) (.seq c) rd rs1 imm) s = .next (s.enterTrap c cause sub) := by
  cases out with
  | false =>
    have hmiss : sbLookup (s.cl c).sq.sb (s.seqAddr c rs1 imm) 8 ≠ .stall := by simp [hb, sbLookup]
    exact congrArg Host.Outcome.next (scalarWord_refused (ldst_legal (.inl rfl)) (ld_not_held hg hmiss) ((ldst_refuse (.inl rfl)).trans hr)
      (by rwa [ld_extents]))
  | true =>
    exact congrArg Host.Outcome.next (scalarWord_refused (ldst_legal (.inr rfl)) (st_not_held hg (by simp [hb])) ((ldst_refuse (.inr rfl)).trans hr)
      (by rwa [st_extents]))

/-- Settles O5: read, forwarded, stored or refused, each by its own lemma. -/
theorem sequencerLoadsAndStores : Obligations.SequencerLoadsAndStores := by
  unfold Obligations.SequencerLoadsAndStores
  intro c rd rs1 imm s hg
  exact ⟨ld_reads hg, fun v => ld_forwards hg, st_enters hg, fun hb out hw =>
    ⟨fun hout => ldst_refused hg hb hw (ldstRefuse_beyond hout), fun hin h8 => ldst_refused hg hb hw (ldstRefuse_misaligned hin h8)⟩⟩

end Sys2Proof.Machine
end

section
/-!
SUPPORT. The access that a thread's word makes: what its gate checks, and the loads and stores that it lets through (05 R151, R152, R158; 07 R201;
08 R227, R228, R233).
-/
namespace Sys2Proof.Machine

section
variable {s : State} {site : SiteId} {t : ThreadId} {w : Word32} {ad n : Nat} {wr atomic : Bool}

/-- 05 R151, 07 R201: the word is legal for a thread that goes, is no transfer, and accesses `n` bytes at `ad`. -/
structure State.ThrAccesses (s : State) (site : SiteId) (t : ThreadId) (w : Word32) (ad n : Nat) (wr atomic : Bool) : Prop where
  goes : s.ThrGoes site t
  legal : scalarIllegal 3 w = none
  stays : thrTarget (s.thread site t) (decScalar w) = none
  access : thrAccess (s.thread site t) (decScalar w) = some (ad, n, wr, atomic)

/-- R152, R153: the cluster of a thread whose hold is over. -/
def State.released (s : State) (site : SiteId) (t : ThreadId) : Cluster := (s.cl (sxOf site)).modThread t fun h => { h with hold := .none }

theorem State.released_thread : (s.released site t).thread t = { s.thread site t with hold := .none } := Cluster.thread_modThread ..

theorem State.released_reg (r : Reg) : ((s.released site t).thread t).reg r.toNat = s.x site t r := by
  rw [State.released_thread]
  exact thread_reg ..

/-- A thread changed after its hold is over. -/
theorem State.released_modThread (f : Thread → Thread) : s.setCl (sxOf site) ((s.released site t).modThread t f) = s.withThread site t f := by
  rw [State.released, Cluster.modThread_modThread]
  rfl

theorem State.released_setX (r : Reg) (v : Word) :
    s.setCl (sxOf site) ((s.released site t).modThread t fun h => h.setX r.toNat v) = s.withX site t r v := by
  rw [State.released_modThread]
  exact withX_eq ..

theorem thrAddrFault_inside (h : ad + n ≤ spdSize) : thrAddrFault ad n false = none := by
  rw [thrAddrFault, if_neg (by omega)]
  rfl

theorem thrAddrFault_beyond (h : spdSize < ad + n) : thrAddrFault ad n atomic = some 2 := if_pos h

namespace State.ThrAccesses

/-- R158: a refused address is a fault with its code. -/
theorem faults {code : Nat} (h : s.ThrAccesses site t w ad n wr atomic) (hf : thrAddrFault ad n atomic = some code) :
    threadWord site t w s = s.thrFault site t code :=
  threadWord_faults h.goes (by simp [thrGate, h.legal, State.thread_eq, h.stays, h.access, hf])

/-- R224, R228: a load that meets no entry of the thread's store buffer writes rd with the bytes at its address. -/
theorem loads {rd : Reg} (h : s.ThrAccesses site t w ad n false false) (hl : s.Loads (sxOf site) (s.thread site t).sb ad n)
    (he : thrExec (s.released site t) t w =
      ((s.released site t).thrLoad t ad n).2.modThread t fun h => h.setX rd.toNat (BitVec.ofNat 64 ((s.released site t).thrLoad t ad n).1)) :
    threadWord site t w s = s.withX site t rd (s.spdWord (sxOf site) ad n) := by
  obtain ⟨hin, hweir, hmiss, hbad⟩ := hl
  have hgate : thrGate (s.cl (sxOf site)) t w = .go := by
    simp [thrGate, h.legal, State.thread_eq, h.stays, h.access, thrAddrFault_inside hin, hweir, hmiss]
  have hsb : sbLookup ((s.released site t).thread t).sb ad n = .miss := by rw [State.released_thread]; exact hmiss
  have hload : (s.released site t).thrLoad t ad n = (leNat (Memory.readN (s.cl (sxOf site)).spd.mem ad n), s.released site t) := by
    simp only [Cluster.thrLoad, hsb, Cluster.rd_words (k := s.released site t) hbad]
    rfl
  rw [hload] at he
  rw [threadWord_takes h.goes hgate h.stays he (by rfl)]
  exact State.released_setX ..

/-- R227: a store for which the thread's store buffer has room enters it. -/
theorem stores {v : Nat} (h : s.ThrAccesses site t w ad n true false) (hin : ad + n ≤ spdSize)
    (hweir : (s.cl (sxOf site)).spd.weirStalls [⟨ad, n, true⟩] = false) (hroom : (s.thread site t).sb.length + (wordsOf ad n).length ≤ 8)
    (he : thrExec (s.released site t) t w = (s.released site t).modThread t fun h => { h with sb := h.sb ++ sbEntries ad n v }) :
    threadWord site t w s = s.withThread site t fun h => { h with sb := h.sb ++ sbEntries ad n v } := by
  have hgate : thrGate (s.cl (sxOf site)) t w = .go := by
    simp [thrGate, h.legal, State.thread_eq, h.stays, h.access, thrAddrFault_inside hin, hweir, hroom]
  rw [threadWord_takes h.goes hgate h.stays he (by rfl)]
  exact State.released_modThread ..

end State.ThrAccesses
end

section
variable {s : State} {site : SiteId} {t : ThreadId} {sop ad n : Nat} {rd rs1 : Reg} {imm : Half} {wr atomic : Bool}

/-- R163, R201: a thread's words of form I that access memory are legal; the low bits of an atomic's IMM are 0. -/
theorem thrAccess_legal (h : sop = 0x20 ∨ sop = 0x21 ∨ sop = 0x35 ∨ sop = 0x36 ∨ 0x37 ≤ sop ∧ sop ≤ 0x39 ∧ imm.toNat % 1024 = 0) :
    scalarIllegal 3 (encI sop rd rs1 imm) = none := by
  have hw := decScalar_encI (rd := rd) (rs1 := rs1) (imm := imm) (show sop < 64 by omega)
  refine scalarIllegal_none (by rw [hw]; dsimp only; omega) ?_ ?_
  · simp only [scalarMbz, isFormR, hw]
    rw [if_neg (by omega)]
    simp
    omega
  · simp only [sopAllowed, hw]
    exact decide_eq_true (by omega)

/-- R166, R201: a word that accesses memory is no transfer. -/
theorem thrTarget_access {o : SWord} (h : o.sop = 0x20 ∨ o.sop = 0x21 ∨ 0x35 ≤ o.sop) (q : Thread) : thrTarget q o = none := by
  simp only [thrTarget]
  (iterate 7 rw [if_neg (by omega)])

theorem State.ThrAccesses.of_encI (h : sop = 0x20 ∨ sop = 0x21 ∨ sop = 0x35 ∨ sop = 0x36 ∨ 0x37 ≤ sop ∧ sop ≤ 0x39 ∧ imm.toNat % 1024 = 0)
    (hgo : s.ThrGoes site t) (ha : thrAccess (s.thread site t) (decScalar (encI sop rd rs1 imm)) = some (ad, n, wr, atomic)) :
    s.ThrAccesses site t (encI sop rd rs1 imm) ad n wr atomic :=
  ⟨hgo, thrAccess_legal h, thrTarget_access (by rw [decScalar_encI (by omega)]; dsimp only; omega) _, ha⟩

end

end Sys2Proof.Machine
end

section
/-!
PROOFS. The loads and stores of a thread (07 R199, R201; 08 R227, R228).
-/
namespace Sys2Proof.Machine

variable {s : State} {site : SiteId} {t : ThreadId} {rd rs1 : Reg} {imm : Half} {size : BitVec 2} {off : BitVec 14}

/-! The immediate of LDX and STX (07 R201) -/

theorem sizeOff_toNat : (size ++ off : BitVec (2 + 14)).toNat = size.toNat * 2 ^ 14 + off.toNat := by
  rw [BitVec.toNat_append, ← Nat.shiftLeft_add_eq_or_of_lt off.isLt, Nat.shiftLeft_eq]

theorem ldxSize_mk (sop rd rs1 rs2 low off' : Nat) : ldxSize ⟨sop, rd, rs1, rs2, low, (size ++ off : BitVec (2 + 14)).toNat, off'⟩ = 2 ^ size.toNat := by
  have := off.isLt
  have hsize : (size.toNat * 2 ^ 14 + off.toNat) / 2 ^ 14 = size.toNat := by omega
  rw [ldxSize, sizeOff_toNat, hsize]

theorem ldxAddr_mk (a : Word) (sop rd rs1 rs2 low off' : Nat) :
    ldxAddr a ⟨sop, rd, rs1, rs2, low, (size ++ off : BitVec (2 + 14)).toNat, off'⟩ = (a + off.signExtend 64).toNat := by
  have hlow : sext 14 (size ++ off : BitVec (2 + 14)).toNat = sext 14 off.toNat := by
    have hmod : (size ++ off : BitVec (2 + 14)).toNat % 2 ^ 14 = off.toNat % 2 ^ 14 := by rw [sizeOff_toNat]; omega
    rw [sext, sext, hmod]
  rw [ldxAddr, hlow, ofInt_sext (by omega)]

/-! LD and ST, LDX and STX -/

theorem thr_ld_accesses (hgo : s.ThrGoes site t) : s.ThrAccesses site t (encI 0x20 rd rs1 imm) (s.thrAddr site t rs1 imm) 8 false false := by
  refine .of_encI (by omega) hgo ?_
  simp only [thrAccess, decScalar_encI (show 0x20 < 64 by omega), ldstAddr_mk, thread_reg]
  rfl

theorem thr_ld_reads (hgo : s.ThrGoes site t) (hl : s.Loads (sxOf site) (s.thread site t).sb (s.thrAddr site t rs1 imm) 8) :
    exec (.ld (.thr site t) rd rs1 imm) s = .next (s.withX site t rd (s.spdWord (sxOf site) (s.thrAddr site t rs1 imm) 8)) := by
  refine congrArg Host.Outcome.next ((thr_ld_accesses hgo).loads hl ?_)
  simp only [thrExec, decScalar_encI (show 0x20 < 64 by omega), ldstAddr_mk, State.released_reg]
  rfl

theorem ldx_accesses (hgo : s.ThrGoes site t) :
    s.ThrAccesses site t (encI 0x35 rd rs1 (size ++ off)) (s.thrAddr14 site t rs1 off) (2 ^ size.toNat) false false := by
  refine .of_encI (by omega) hgo ?_
  simp only [thrAccess, decScalar_encI (show 0x35 < 64 by omega), ldxAddr_mk, ldxSize_mk, thread_reg]
  rfl

theorem ldx_reads (hgo : s.ThrGoes site t) (hl : s.Loads (sxOf site) (s.thread site t).sb (s.thrAddr14 site t rs1 off) (2 ^ size.toNat)) :
    exec (.ldx site t rd rs1 size off) s = .next (s.withX site t rd (s.spdWord (sxOf site) (s.thrAddr14 site t rs1 off) (2 ^ size.toNat))) := by
  refine congrArg Host.Outcome.next ((ldx_accesses hgo).loads hl ?_)
  simp only [thrExec, decScalar_encI (show 0x35 < 64 by omega), ldxAddr_mk, ldxSize_mk, State.released_reg]
  rfl

theorem thr_st_accesses (hgo : s.ThrGoes site t) : s.ThrAccesses site t (encI 0x21 rd rs1 imm) (s.thrAddr site t rs1 imm) 8 true false := by
  refine .of_encI (by omega) hgo ?_
  simp only [thrAccess, decScalar_encI (show 0x21 < 64 by omega), ldstAddr_mk, thread_reg]
  rfl

theorem thr_st_enters (hgo : s.ThrGoes site t) (hin : s.thrAddr site t rs1 imm + 8 ≤ spdSize)
    (hw : (s.cl (sxOf site)).spd.weirStalls [⟨s.thrAddr site t rs1 imm, 8, true⟩] = false)
    (hroom : (s.thread site t).sb.length + (wordsOf (s.thrAddr site t rs1 imm) 8).length ≤ 8) : exec (.st (.thr site t) rd rs1 imm) s =
      .next (s.withThread site t fun h => { h with sb := h.sb ++ sbEntries (s.thrAddr site t rs1 imm) 8 (s.x site t rd).toNat }) := by
  refine congrArg Host.Outcome.next ((thr_st_accesses hgo).stores hin hw hroom ?_)
  simp only [thrExec, decScalar_encI (show 0x21 < 64 by omega), ldstAddr_mk, State.released_reg]
  rfl

theorem stx_accesses (hgo : s.ThrGoes site t) :
    s.ThrAccesses site t (encI 0x36 rd rs1 (size ++ off)) (s.thrAddr14 site t rs1 off) (2 ^ size.toNat) true false := by
  refine .of_encI (by omega) hgo ?_
  simp only [thrAccess, decScalar_encI (show 0x36 < 64 by omega), ldxAddr_mk, ldxSize_mk, thread_reg]
  rfl

theorem stx_enters (hgo : s.ThrGoes site t) (hin : s.thrAddr14 site t rs1 off + 2 ^ size.toNat ≤ spdSize)
    (hw : (s.cl (sxOf site)).spd.weirStalls [⟨s.thrAddr14 site t rs1 off, 2 ^ size.toNat, true⟩] = false)
    (hroom : (s.thread site t).sb.length + (wordsOf (s.thrAddr14 site t rs1 off) (2 ^ size.toNat)).length ≤ 8) :
    exec (.stx site t rd rs1 size off) s = .next (s.withThread site t fun h =>
      { h with sb := h.sb ++ sbEntries (s.thrAddr14 site t rs1 off) (2 ^ size.toNat) (s.x site t rd).toNat }) := by
  refine congrArg Host.Outcome.next ((stx_accesses hgo).stores hin hw hroom ?_)
  simp only [thrExec, decScalar_encI (show 0x36 < 64 by omega), ldxAddr_mk, ldxSize_mk, State.released_reg]
  rfl

/-- Settles O6: each row by the access that it makes. -/
theorem threadLoadsAndStores : Obligations.ThreadLoadsAndStores := by
  unfold Obligations.ThreadLoadsAndStores
  intro site t rd rs1 imm size off s hgo
  exact ⟨thr_ld_reads hgo, ldx_reads hgo, thr_st_enters hgo, stx_enters hgo, fun hout =>
    ⟨congrArg Host.Outcome.next ((ldx_accesses hgo).faults (thrAddrFault_beyond hout)),
      congrArg Host.Outcome.next ((stx_accesses hgo).faults (thrAddrFault_beyond hout))⟩⟩

end Sys2Proof.Machine
end

section
/-!
PROOFS. The atomics of a thread (05 R152; 07 R201; 08 R225).
-/
namespace Sys2Proof.Machine

/-! One read and one write at the bank (08 R225) -/

theorem leNat_drop : ∀ (i : Nat) (bs : List Byte), leNat (bs.drop i) = leNat bs / 256 ^ i
  | 0, bs => by simp
  | i + 1, [] => by simp [leNat]
  | i + 1, b :: t => by
    have := b.isLt
    rw [List.drop_succ_cons, leNat_drop i t, leNat, Nat.pow_succ', ← Nat.div_div_eq_div_mul]
    congr 1
    omega

theorem leNat_take : ∀ (n : Nat) (bs : List Byte), leNat (bs.take n) = leNat bs % 256 ^ n
  | 0, bs => by simp [leNat, Nat.mod_one]
  | n + 1, [] => by simp [leNat]
  | n + 1, b :: t => by
    have := b.isLt
    rw [List.take_succ_cons, leNat, leNat, leNat_take n t, Nat.pow_succ', Nat.mod_mul]
    congr 1
    · omega
    · congr 2
      omega

/-- 00 R15: `n` bytes within a word are its bits from their place on. -/
theorem rawWord_slice (p : Spd) {ad n : Nat} (h : ad % 8 + n ≤ 8) :
    (p.rawWord (ad / 8) >>> (8 * (ad % 8))) % 2 ^ (8 * n) = leNat (Memory.readN p.mem ad n) := by
  rw [Nat.shiftRight_eq_div_pow, Nat.pow_mul, Nat.pow_mul, show 2 ^ 8 = 256 from rfl, Spd.rawWord, ← leNat_drop, ← leNat_take, Memory.readN_slice _ _ _ _ _ h,
    Nat.div_add_mod]

/-- R225, R201: in a scratchpad without errors, the old value is the bytes at the address, and the new value's bytes alone are written. -/
theorem Spd.swap_clean {p : Spd} {ad n : Nat} (hc : p.Clean) (h : ad % 8 + n ≤ 8) (f : Nat → Nat) : let old := leNat (Memory.readN p.mem ad n)
    (p.swap ad n f).1 = old ∧ (p.swap ad n f).2.1 = false ∧ SpdWritten p (p.swap ad n f).2.2 ad (leBytes n (f old)) := by
  obtain ⟨hwf, hbad⟩ := hc
  simp only [Spd.swap, Spd.readWord_clean (hbad _), rawWord_slice p h, rawBytes, Bool.false_and, Bool.false_eq_true, if_false, true_and]
  refine ⟨rfl, fun w => Tbl.get_erase_zero (hbad w), fun x => ?_⟩
  rw [Memory.read_writeN (Memory.wf_writeN hwf _ _), Memory.read_writeN_same hwf]

/-! The effect of an atomic (05 R152) -/

/-- 05 R150: a register written, x0 apart, reads back; every other one reads as before. -/
theorem Thread.reg_setX (q : Thread) (r r' : Reg) (v : Word) :
    (q.setX r.toNat v).reg r'.toNat = if r' = r then (if r = 0 then 0 else v) else q.reg r'.toNat := by
  have h0 (x : Reg) : x.toNat = 0 ↔ x = 0 := BitVec.toNat_inj (y := 0#5)
  simp only [Thread.setX, Thread.reg, h0]
  split_ifs <;> simp_all [Tbl.get_set, BitVec.toNat_inj]

/-- R152: an empty store buffer needs no drain. -/
theorem Cluster.drainAll_empty {k : Cluster} {t : Nat} (h : (k.thread t).sb = []) : k.drainAll t = k.modThread t fun h => { h with sb := [] } := by
  simp only [Cluster.drainAll, h, List.foldl_nil]

/-- R152, R201: the cluster whose thread `t` had its atomic at the bank: the scratchpad `u`, the old value in rd, the hold over. -/
def Cluster.swapped (k : Cluster) (t rd : Nat) (old : Word) (u : Spd) : Cluster :=
  ({ k with spd := u }).modThread t fun h => ({ h with hold := .none, sb := [] } : Thread).setX rd old

theorem Cluster.swapped_spd (k : Cluster) (t rd : Nat) (old : Word) (u : Spd) : (k.swapped t rd old u).spd = u := rfl

/-! The word of an atomic (07 R201) -/

variable {s : State} {site : SiteId} {t : ThreadId} {rd rs1 xs : Reg} {wide : Bool}

/-- R152, R201: an atomic of an empty store buffer, in a scratchpad without errors. -/
theorem State.released_atomic {ad n : Nat} (hsb : (s.thread site t).sb = []) (hc : s.SpdClean (sxOf site)) (h : ad % 8 + n ≤ 8) (rd : Nat)
    (f : Nat → Nat) : (s.released site t).atomic t rd ad n f =
      (s.cl (sxOf site)).swapped t rd (s.spdWord (sxOf site) ad n) ((s.cl (sxOf site)).spd.swap ad n f).2.2 := by
  obtain ⟨hold, hue, -⟩ := Spd.swap_clean (State.spdClean_iff.1 hc) h f
  have hempty : ((s.released site t).thread t).sb = [] := by rw [State.released_thread]; exact hsb
  have hspd : ((s.released site t).modThread t fun h => { h with sb := [] }).spd = (s.cl (sxOf site)).spd := rfl
  simp only [Cluster.atomic, Cluster.drainAll_empty hempty, hspd, hold, hue, Bool.false_eq_true, if_false]
  generalize ((s.cl (sxOf site)).spd.swap ad n f).2.2 = u
  rw [State.released, Cluster.modThread_modThread]
  exact Cluster.modThread_modThread { s.cl (sxOf site) with spd := u } ..

/-- What an atomic leaves, and what its thread reads. -/
theorem State.setCl_swapped (s : State) (site : SiteId) (t : ThreadId) (rd : Reg) (old : Word) (p : Spd) :
    let c := sxOf site; let u := s.setCl c ((s.cl c).swapped t rd.toNat old p)
    (u.cl c).spd = p ∧ u.x site t rd = (if rd = 0 then 0 else old) ∧ (∀ r, r ≠ rd → u.x site t r = s.x site t r) ∧
    (∀ t', t' ≠ t → u.thread site t' = s.thread site t') ∧
    (u.cl c).sq = (s.cl c).sq ∧ (u.cl c).mx = (s.cl c).mx ∧ (u.cl c).vx = (s.cl c).vx ∧ (u.cl c).chn = (s.cl c).chn ∧
    OtherClusters c s u ∧ ChangesOnly [.clusters] s u := by
  intro c u
  have hcl : u.cl c = (s.cl c).swapped t rd.toNat old p := State.setCl_cl_same
  have hthread : u.thread site t = ({ s.thread site t with hold := .none, sb := [] } : Thread).setX rd.toNat old := by
    rw [State.thread, hcl]
    exact Cluster.thread_modThread ..
  have hx (r : Reg) : u.x site t r = if r = rd then (if rd = 0 then 0 else old) else s.x site t r := by
    rw [← thread_reg, hthread, Thread.reg_setX, ← thread_reg]
    rfl
  refine ⟨by rw [hcl]; rfl, by rw [hx, if_pos rfl], fun r hr => by rw [hx, if_neg hr], fun t' ht => ?_, by rw [hcl]; rfl, by rw [hcl]; rfl,
    by rw [hcl]; rfl, by rw [hcl]; rfl, fun _ => State.setCl_cl_ne, State.setCl_changes List.mem_cons_self⟩
  rw [State.thread, hcl]
  exact Cluster.thread_modThread_other _ _ fun e => ht (Fin.ext e)

/-- The immediate of an atomic: its operand register and its width. -/
def atomImm (xs : Reg) (wide : Bool) : Half := BitVec.ofNat 16 (fld 11 xs.toNat + flg 10 wide)

theorem atomImm_toNat : (atomImm xs wide).toNat = xs.toNat * 2048 + if wide then 1024 else 0 := by
  have := xs.isLt
  cases wide <;> simp only [atomImm, fld, flg, BitVec.toNat_ofNat, Nat.shiftLeft_eq] <;> simp <;> omega

/-- The bytes that an atomic accesses. -/
def atomBytes (wide : Bool) : Nat := if wide then 8 else 4

theorem atomW_mk (sop rd rs1 rs2 low off : Nat) : atomW ⟨sop, rd, rs1, rs2, low, (atomImm xs wide).toNat, off⟩ = atomBytes wide := by
  rw [atomW, atomImm_toNat, Nat.shiftRight_eq_div_pow]
  cases wide <;> simp [atomBytes] <;> omega

/-- R201: each atomic row is its word issued by the thread, with the new value of its opcode. -/
theorem atomicRows_exec {row : SiteId → ThreadId → Reg → Reg → Reg → Bool → Instr} {f : Nat → Nat → Nat → Nat → Nat} (he : (row, f) ∈ atomicRows) :
    ∃ sop, (0x37 ≤ sop ∧ sop ≤ 0x39) ∧
      (∀ site t rd rs1 xs wide s, exec (row site t rd rs1 xs wide) s = .next (threadWord site t (encI sop rd rs1 (atomImm xs wide)) s)) ∧
      ∀ (k : Cluster) (t : Nat) (rd rs1 xs : Reg) (wide : Bool), thrExec k t (encI sop rd rs1 (atomImm xs wide)) =
        k.atomic t rd.toNat ((k.thread t).reg rs1.toNat).toNat (atomBytes wide) fun old =>
          f (atomBytes wide) old (((k.thread t).reg xs.toNat).toNat % 2 ^ (8 * atomBytes wide)) ((k.thread t).reg rd.toNat).toNat := by
  have hxs (xs : Reg) (wide : Bool) : (atomImm xs wide).toNat / 2 ^ 11 = xs.toNat := by
    rw [atomImm_toNat]
    split <;> omega
  simp only [atomicRows, List.mem_cons, Prod.mk.injEq, List.not_mem_nil, or_false] at he
  rcases he with ⟨rfl, rfl⟩ | ⟨rfl, rfl⟩ | ⟨rfl, rfl⟩
  · refine ⟨0x37, by omega, fun _ _ _ _ _ _ _ => rfl, fun k t rd rs1 xs wide => ?_⟩
    simp only [thrExec, decScalar_encI (show 0x37 < 64 by omega), atomW_mk, hxs]
    rfl
  · refine ⟨0x38, by omega, fun _ _ _ _ _ _ _ => rfl, fun k t rd rs1 xs wide => ?_⟩
    simp only [thrExec, decScalar_encI (show 0x38 < 64 by omega), atomW_mk, hxs]
    rfl
  · refine ⟨0x39, by omega, fun _ _ _ _ _ _ _ => rfl, fun k t rd rs1 xs wide => ?_⟩
    simp only [thrExec, decScalar_encI (show 0x39 < 64 by omega), atomW_mk, hxs]
    rfl

theorem atomic_accesses {sop : Nat} (h : 0x37 ≤ sop ∧ sop ≤ 0x39) (hgo : s.ThrGoes site t) :
    s.ThrAccesses site t (encI sop rd rs1 (atomImm xs wide)) (s.x site t rs1).toNat (atomBytes wide) true true := by
  have hlow : (atomImm xs wide).toNat % 1024 = 0 := by
    rw [atomImm_toNat]
    split <;> omega
  refine .of_encI (by omega) hgo ?_
  simp only [thrAccess, decScalar_encI (show sop < 64 by omega), atomW_mk, thread_reg]
  rw [if_neg (by omega), if_neg (by omega), if_neg (by omega), if_neg (by omega), if_pos h]

/-- R152: an aligned atomic inside the scratchpad is let through; one off its boundary is refused. -/
theorem thrAddrFault_aligned {ad n : Nat} (h : ad + n ≤ spdSize) (h0 : ad % n = 0) : thrAddrFault ad n true = none := by
  rw [thrAddrFault, if_neg (by omega), h0]
  rfl

theorem thrAddrFault_misaligned {ad n : Nat} (h : ad + n ≤ spdSize) (h0 : ad % n ≠ 0) : thrAddrFault ad n true = some 3 := by
  rw [thrAddrFault, if_neg (by omega), if_pos (by simpa using h0)]

/-- R152, R201: an aligned atomic that nothing holds reads and writes at the bank. -/
theorem State.ThrAccesses.swaps {w : Word32} {ad n : Nat} {f : Nat → Nat} (h : s.ThrAccesses site t w ad n true true) (hin : ad + n ≤ spdSize)
    (h0 : ad % n = 0) (h8 : ad % 8 + n ≤ 8) (hc : s.SpdClean (sxOf site)) (hw : (s.cl (sxOf site)).spd.weirStalls [⟨ad, n, true⟩] = false)
    (hsb : (s.thread site t).sb = []) (he : thrExec (s.released site t) t w = (s.released site t).atomic t rd.toNat ad n f) :
    threadWord site t w s = s.setCl (sxOf site)
      ((s.cl (sxOf site)).swapped t rd.toNat (s.spdWord (sxOf site) ad n) ((s.cl (sxOf site)).spd.swap ad n f).2.2) := by
  have hgate : thrGate (s.cl (sxOf site)) t w = .go := by
    simp [thrGate, h.legal, State.thread_eq, h.stays, h.access, thrAddrFault_aligned hin h0, hw]
  obtain ⟨-, -, hframe, -⟩ := Spd.swap_clean (State.spdClean_iff.1 hc) h8 f
  rw [State.released_atomic hsb hc h8] at he
  exact threadWord_takes h.goes hgate h.stays he (by rw [Cluster.swapped_spd, hframe])

/-- Settles O8: the aligned atomic by its one access at the bank, the misaligned one by its refused address. -/
theorem threadAtomicsReadAndWriteOnce : Obligations.ThreadAtomicsReadAndWriteOnce := by
  unfold Obligations.ThreadAtomicsReadAndWriteOnce
  intro ⟨row, f⟩ he site t rd rs1 xs wide s hgo
  obtain ⟨sop, hsop, hexec, heff⟩ := atomicRows_exec he
  have hacc := atomic_accesses (rd := rd) (rs1 := rs1) (xs := xs) (wide := wide) hsop hgo
  refine ⟨fun h0 hin hc hw hsb => ?_, fun hin h0 => (hexec ..).trans (congrArg Host.Outcome.next (hacc.faults (thrAddrFault_misaligned hin h0)))⟩
  have h8 : (s.x site t rs1).toNat % 8 + atomBytes wide ≤ 8 := by
    cases wide <;> simp [atomBytes] at h0 ⊢ <;> omega
  have hswap := heff (s.released site t) t rd rs1 xs wide
  simp only [State.released_reg] at hswap
  obtain ⟨hspd, hrest⟩ := State.setCl_swapped s site t rd _ _
  obtain ⟨-, -, hwritten⟩ := Spd.swap_clean (State.spdClean_iff.1 hc) h8 _
  exact ⟨_, (hexec ..).trans (congrArg Host.Outcome.next (hacc.swaps hin h0 h8 hc hw hsb hswap)), hspd ▸ hwritten, hrest⟩

end Sys2Proof.Machine
end

section
/-!
SUPPORT. One braid and one end of it (10 R294 to R312): what an update of them changes, what a message and a watcher do.
-/
namespace Sys2Proof.Machine

variable {s t : State} {ps : List Part} {b c : Nat} {hi : Bool} {x : LevBraid} {f g : LevEnd → LevEnd}

/-! The ends of a braid -/

@[simp] theorem LevBraid.endOf_modEnd : (x.modEnd hi f).endOf hi = f (x.endOf hi) := by cases hi <;> rfl
@[simp] theorem LevBraid.endOf_modEnd_not : (x.modEnd hi f).endOf (!hi) = x.endOf (!hi) := by cases hi <;> rfl
@[simp] theorem LevBraid.endOf_both : (x.both f).endOf hi = f (x.endOf hi) := by cases hi <;> rfl
theorem LevBraid.modEnd_modEnd : (x.modEnd hi f).modEnd hi g = x.modEnd hi fun e => g (f e) := by cases hi <;> rfl
theorem LevBraid.modEnd_congr (h : f (x.endOf hi) = g (x.endOf hi)) : x.modEnd hi f = x.modEnd hi g := by
  cases hi
  · exact congrArg (fun e => { x with a := e }) h
  · exact congrArg (fun e => { x with b := e }) h
@[simp] theorem LevBraid.svyblk_modEnd : (x.modEnd hi f).svyblk = x.svyblk := by cases hi <;> rfl
@[simp] theorem LevBraid.retired_modEnd : (x.modEnd hi f).retired = x.retired := by cases hi <;> rfl
@[simp] theorem LevBraid.carry_modEnd : (x.modEnd hi f).carry = x.carry := by cases hi <;> rfl

/-! One braid of the panel -/

@[simp] theorem State.brd_modBrd {f : LevBraid → LevBraid} : (s.modBrd b f).brd b = f (s.brd b) := Tbl.get_mod_same ..
theorem State.brd_modBrd_other {f : LevBraid → LevBraid} (h : c ≠ b) : (s.modBrd b f).brd c = s.brd c := Tbl.get_mod_other _ _ _ h
theorem State.modBrd_congr {f g : LevBraid → LevBraid} (h : f (s.brd b) = g (s.brd b)) : s.modBrd b f = s.modBrd b g :=
  congrArg (fun x => s.modLev fun l => { l with braids := Tbl.set l.braids b x }) h
theorem State.modBrd_modBrd {f g : LevBraid → LevBraid} : (s.modBrd b f).modBrd b g = s.modBrd b fun x => g (f x) :=
  congrArg (fun bs => s.modLev fun l => { l with braids := bs }) (Tbl.mod_mod ..)
theorem State.modBrd_changes {f : LevBraid → LevBraid} (h : .lev ∈ ps) : ChangesOnly ps s (s.modBrd b f) := State.modLev_changes h

/-! One end of the panel -/

theorem State.modBrd_modEnd : (s.modBrd b fun x => x.modEnd hi f) = s.withEnd b hi f := rfl
theorem State.endOf_brd : (s.brd b).endOf hi = s.levEnd b hi := rfl
@[simp] theorem State.levEnd_withEnd : (s.withEnd b hi f).levEnd b hi = f (s.levEnd b hi) := by
  simp [State.levEnd, State.withEnd]
@[simp] theorem State.levEnd_withEnd_not : (s.withEnd b hi f).levEnd b (!hi) = s.levEnd b (!hi) := by
  simp [State.levEnd, State.withEnd]
@[simp] theorem State.svyblk_withEnd : ((s.withEnd b hi f).brd b).svyblk = (s.brd b).svyblk := by simp [State.withEnd]
theorem State.brd_withEnd_other (h : c ≠ b) : (s.withEnd b hi f).brd c = s.brd c := State.brd_modBrd_other h
theorem State.withEnd_congr (h : f (s.levEnd b hi) = g (s.levEnd b hi)) : s.withEnd b hi f = s.withEnd b hi g :=
  State.modBrd_congr (LevBraid.modEnd_congr h)
theorem State.withEnd_withEnd : (s.withEnd b hi f).withEnd b hi g = s.withEnd b hi fun e => g (f e) :=
  State.modBrd_modBrd.trans (State.modBrd_congr LevBraid.modEnd_modEnd)
theorem State.withEnd_changes (h : .lev ∈ ps) : ChangesOnly ps s (s.withEnd b hi f) := State.modBrd_changes h

/-- What leaves the Levee state leaves every braid and every end. -/
theorem ChangesOnly.brd_eq (h : ChangesOnly ps s t) (hp : .lev ∉ ps := by decide) : t.brd b = s.brd b :=
  congrArg (fun l : Levee => l.braid b) (h .lev hp)
theorem ChangesOnly.levEnd_eq (h : ChangesOnly ps s t) (hp : .lev ∉ ps := by decide) : t.levEnd b hi = s.levEnd b hi :=
  congrArg (fun l : Levee => (l.braid b).endOf hi) (h .lev hp)

/-! Messages (R299) -/

theorem State.side_changes {k v : Nat} (h : .out ∈ ps) : ChangesOnly ps s (s.side b hi k v) := State.emit_changes h
@[simp] theorem State.brd_side {d k v : Nat} : (s.side d hi k v).brd b = s.brd b := rfl
@[simp] theorem State.levEnd_side {d k v : Nat} {hi' : Bool} : (s.side d hi' k v).levEnd b hi = s.levEnd b hi := rfl

/-- R303 step 3: CSYNC is only sent. -/
theorem State.csyncs_changes (h : .out ∈ ps) : ChangesOnly ps s (s.csyncs b) :=
  .ite (fun _ => .foldl fun _ _ => .foldl fun _ _ => State.emit_changes h) fun _ => .refl _ _

/-! Requests and watchers (R303, R305) -/

/-- R303: an end that is up with nothing under way asks for a procedure. -/
theorem State.askBraid_asks {r : RtReq} (ho : (s.levEnd b hi).own = none) (h2 : (s.levEnd b hi).state = 2) :
    s.askBraid b hi r = (s.withEnd b hi fun e => { e with own := some r, state := r.kind + 2 }).side b hi 0x06 (rtReqValue r) := by
  have hask : s.askBraid b hi r = (s.withEnd b hi fun e => e.request r).side b hi 0x06 (rtReqValue r) :=
    if_neg (by simp [State.endOf_brd, ho, h2])
  rw [hask, State.withEnd_congr (g := fun e => { e with own := some r, state := r.kind + 2 })]
  simp [LevEnd.request, ho, h2, procState]

/-- R305: where no alarm is new and no low margin goes unmended the watcher does nothing. -/
theorem State.watch_quiet {before : LevEnd} (hr : (s.levEnd b hi).rephi = before.rephi)
    (hm : (s.levEnd b hi).mlow = false ∨ (s.brd b).svyblk = false) : s.watch b hi before = s := by
  have hlow : ((s.levEnd b hi).mlow && (s.brd b).svyblk) = false := by rcases hm with h | h <;> simp [h]
  simp [State.watch, State.endOf_brd, hr, hlow]

/-- R305: a new replay alarm asks for a retrain. -/
theorem State.watch_alarm {before : LevEnd} (hr : (s.levEnd b hi).rephi = true) (h0 : before.rephi = false) :
    s.watch b hi before = s.askBraid b hi ⟨1, 1, 0⟩ := by
  simp [State.watch, State.endOf_brd, hr, h0]

/-- R305: a low margin that no survey lane can mend asks for a retrain. -/
theorem State.watch_low {before : LevEnd} (hr : (s.levEnd b hi).rephi = before.rephi) (hm : (s.levEnd b hi).mlow = true)
    (hb : (s.brd b).svyblk = true) : s.watch b hi before = s.askBraid b hi ⟨1, 2, 0⟩ := by
  simp [State.watch, State.endOf_brd, hr, hm, hb]

end Sys2Proof.Machine
end

section
/-!
PROOFS. The flits, margins, counters and turn lists of a braid's ends (10 R294, R299, R302, R312).
-/
namespace Sys2Proof.Machine

variable {s : State} {b : BraidId} {hi : Bool} {flit : BitVec 512} {crc : Half}

/-! A flit at an end (R294) -/

/-- R302: the flits discarded in the window of the end, one more among them. -/
def LevEnd.windowCount (e : LevEnd) (now : Nat) : Nat := if e.winStart + 1000000 ≤ now then 1 else e.winCount + 1

theorem LevEnd.receive_taken {e : LevEnd} {now crc : Nat} (h : flitCrc e.rxSeq flit = crc) :
    e.receive now flit crc = ({ e with rxSeq := (e.rxSeq + 1) % 4096, discarding := false }, none) := if_pos h

theorem LevEnd.receive_again {e : LevEnd} {now crc : Nat} (h : flitCrc e.rxSeq flit ≠ crc) (hd : e.discarding = true) :
    e.receive now flit crc = (e, some e.rxSeq) := (if_neg h).trans (if_pos hd)

theorem LevEnd.receive_discarded {e : LevEnd} {now crc : Nat} (h : flitCrc e.rxSeq flit ≠ crc) (hd : e.discarding = false) :
    e.receive now flit crc = ({ e with
      discarding := true, replay := satAdd 0xFFFFFFFF e.replay 1, winStart := if e.winStart + 1000000 ≤ now then now else e.winStart
      winCount := e.windowCount now, rephi := e.rephi || decide (e.repthr < e.windowCount now) }, some e.rxSeq) := by
  by_cases hw : e.winStart + 1000000 ≤ now <;> simp [LevEnd.receive, h, hd, LevEnd.windowCount, hw]

/-- R294: the panel with a REPLAY sent by the end, where one is due. -/
def State.asksReplay (s : State) (b : Nat) (hi : Bool) : Option Nat → State
  | some q => s.side b hi 0x04 (fld 60 q)
  | none => s

/-- R294: at a live end the flit is received, the REPLAY sent; the last flit owed by a withdrawn braid has CSYNC sent (R303). -/
theorem flitReceive_live {e1 : LevEnd} {q : Option Nat} (hl : s.LevLive b hi)
    (hr : (s.levEnd b hi).receive s.mcount flit crc.toNat = (e1, q)) :
    let e := s.levEnd b hi
    let s1 := (s.withEnd b hi fun _ => e1).asksReplay b hi q
    exec (.flitReceive b hi flit crc) s =
      .next ((if e.discarding && !e1.discarding && !e.inlist && decide (3 ≤ e.state) then s1.csyncs b else s1).watch b hi e) := by
  have hs : ¬ ((s.levEnd b hi).state = 0 ∨ (s.levEnd b hi).state = 6) := not_or.2 hl
  cases q <;> simp only [exec_flitReceive, execFlitReceive, State.endOf_brd, if_neg hs, hr, State.modBrd_modEnd, State.asksReplay] <;> rfl

theorem flitReceive_ignored (h : (s.levEnd b hi).state = 0 ∨ (s.levEnd b hi).state = 6) : exec (.flitReceive b hi flit crc) s = .next s :=
  congrArg Host.Outcome.next (if_pos h)

theorem leveeReplay_ignored {seq : BitVec 12} (h : (s.levEnd b hi).state = 0 ∨ (s.levEnd b hi).state = 6) :
    exec (.leveeReplay b hi seq) s = .next s :=
  congrArg Host.Outcome.next (if_pos h)

theorem leveeReplay_live {seq : BitVec 12} (hl : s.LevLive b hi) : exec (.leveeReplay b hi seq) s =
    .next (s.emits (((s.levEnd b hi).resent seq.toNat).map fun x => Msg.flit (endUnit b hi) b x.1 x.2)) :=
  congrArg Host.Outcome.next (if_neg (not_or.2 hl))

theorem flitReceive_taken (hl : s.LevLive b hi) (hm : (s.levEnd b hi).mlow = false) (hc : flitCrc (s.levEnd b hi).rxSeq flit = crc.toNat) :
    let e := s.levEnd b hi
    let u := s.withEnd b hi fun e => { e with rxSeq := (e.rxSeq + 1) % 4096, discarding := false }
    (e.discarding = false ∨ e.inlist = true ∨ e.state < 3 → exec (.flitReceive b hi flit crc) s = .next u) ∧
    (e.discarding = true → e.inlist = false → 3 ≤ e.state → exec (.flitReceive b hi flit crc) s = .next (u.csyncs b)) := by
  intro e u
  have hu : (s.withEnd b hi fun _ => { e with rxSeq := (e.rxSeq + 1) % 4096, discarding := false }) = u := State.withEnd_congr rfl
  have hend : u.levEnd b hi = { e with rxSeq := (e.rxSeq + 1) % 4096, discarding := false } := State.levEnd_withEnd
  have hsent : (u.csyncs b).levEnd b hi = u.levEnd b hi := (State.csyncs_changes (ps := [.out]) (by decide)).levEnd_eq
  have hquiet : u.watch b hi (s.levEnd b hi) = u := State.watch_quiet (by rw [hend]) (.inl (by rw [hend]; exact hm))
  have hquiet' : (u.csyncs b).watch b hi (s.levEnd b hi) = u.csyncs b :=
    State.watch_quiet (by rw [hsent, hend]) (.inl (by rw [hsent, hend]; exact hm))
  refine ⟨fun h => ?_, fun hd hin h3 => ?_⟩
  · rw [flitReceive_live hl (LevEnd.receive_taken hc), hu, State.asksReplay, if_neg, hquiet]
    rcases h with h | h | h
    · simp [e, h]
    · simp [e, h]
    · simp [e, h]
  · rw [flitReceive_live hl (LevEnd.receive_taken hc), hu, State.asksReplay, if_pos, hquiet']
    simp [e, hd, hin, h3]

theorem flitReceive_again (hl : s.LevLive b hi) (hm : (s.levEnd b hi).mlow = false) (hc : flitCrc (s.levEnd b hi).rxSeq flit ≠ crc.toNat)
    (hd : (s.levEnd b hi).discarding = true) :
    exec (.flitReceive b hi flit crc) s = .next ((s.withEnd b hi id).side b hi 0x04 (fld 60 (s.levEnd b hi).rxSeq)) := by
  have hu : (s.withEnd b hi fun _ => s.levEnd b hi) = s.withEnd b hi id := State.withEnd_congr rfl
  rw [flitReceive_live hl (LevEnd.receive_again hc hd), hu, State.asksReplay, if_neg (by simp [hd])]
  exact congrArg Host.Outcome.next (State.watch_quiet (by simp) (.inl (by simpa using hm)))

/-- R294, R302: a flit discarded first: the end discards, the REPLAY is sent and counted; the watcher has still to look. -/
theorem flitReceive_discarded (hl : s.LevLive b hi) (hc : flitCrc (s.levEnd b hi).rxSeq flit ≠ crc.toNat)
    (hd : (s.levEnd b hi).discarding = false) :
    let e := s.levEnd b hi
    let n := e.windowCount s.mcount
    exec (.flitReceive b hi flit crc) s = .next (((s.withEnd b hi fun _ => { e with
      discarding := true, replay := satAdd 0xFFFFFFFF e.replay 1, winStart := if e.winStart + 1000000 ≤ s.mcount then s.mcount else e.winStart
      winCount := n, rephi := e.rephi || decide (e.repthr < n) }).side b hi 0x04 (fld 60 e.rxSeq)).watch b hi e) := by
  intro e n
  rw [flitReceive_live hl (LevEnd.receive_discarded hc hd), State.asksReplay, if_neg (by simp [hd])]

/-- R294: below the threshold of replays, the flit is discarded and nothing more happens. -/
theorem flitReceive_discards (hl : s.LevLive b hi) (hm : (s.levEnd b hi).mlow = false) (hc : flitCrc (s.levEnd b hi).rxSeq flit ≠ crc.toNat)
    (hd : (s.levEnd b hi).discarding = false) (hn : (s.levEnd b hi).windowCount s.mcount ≤ (s.levEnd b hi).repthr)
    (h0 : (s.levEnd b hi).rephi = false) : let e := s.levEnd b hi
    Completes (.flitReceive b hi flit crc) s fun u => let y := u.levEnd b hi
      y.discarding = true ∧ y.replay = satAdd 0xFFFFFFFF e.replay 1 ∧ y.rxSeq = e.rxSeq ∧ y.winCount = e.windowCount s.mcount ∧ y.state = e.state ∧
      u.out = .sideband (endUnit b hi) b 0x04 (sideFrame 0x04 (fld 60 e.rxSeq)) :: s.out ∧
      (∀ b', b' ≠ b.val → u.brd b' = s.brd b') ∧ u.levEnd b (!hi) = s.levEnd b (!hi) ∧ ChangesOnly [.lev, .out] s u := by
  intro e
  refine ⟨_, (flitReceive_discarded hl hc hd).trans (congrArg _ (State.watch_quiet ?_ ?_)), ?_⟩
  · simpa [h0] using hn
  · exact .inl (by simpa using hm)
  · simp only [State.levEnd_side, State.levEnd_withEnd, State.levEnd_withEnd_not, true_and, e]
    exact ⟨rfl, fun b' hb => State.brd_withEnd_other hb,
      (State.withEnd_changes (by decide)).trans (State.side_changes (by decide))⟩

/-- R302, R305: past the threshold the alarm stands, and the end asks for a retrain. -/
theorem flitReceive_alarms (hl : s.LevLive b hi) (hc : flitCrc (s.levEnd b hi).rxSeq flit ≠ crc.toNat)
    (hd : (s.levEnd b hi).discarding = false) (hn : (s.levEnd b hi).repthr < (s.levEnd b hi).windowCount s.mcount)
    (h0 : (s.levEnd b hi).rephi = false) (ho : (s.levEnd b hi).own = none) (h2 : (s.levEnd b hi).state = 2) :
    Completes (.flitReceive b hi flit crc) s fun u => let y := u.levEnd b hi
      y.rephi = true ∧ y.own = some ⟨1, 1, 0⟩ ∧ y.state = 3 ∧ ChangesOnly [.lev, .out] s u := by
  refine ⟨_, (flitReceive_discarded hl hc hd).trans (congrArg _ ((State.watch_alarm ?_ h0).trans (State.askBraid_asks ?_ ?_))), ?_⟩
  · simp [hn]
  · simpa using ho
  · simpa using h2
  · simp only [State.levEnd_side, State.levEnd_withEnd, true_and]
    exact ⟨by simp [hn], ((State.withEnd_changes (by decide)).trans (State.side_changes (by decide))).trans
      ((State.withEnd_changes (by decide)).trans (State.side_changes (by decide)))⟩

/-! A margin (R299, R302) -/

/-- R310: of an end whose lanes in use are compared with MTHR again, MLOW alone changes. -/
theorem LevBraid.endOf_checkLow {x : LevBraid} : x.checkLow.endOf hi = { x.endOf hi with
    mlow := (x.endOf hi).margins.any fun r => x.healthy r.1 && decide (r.2.1 < (x.endOf hi).mthr) } := by cases hi <;> rfl

/-- R302: the braid with a margin of a lane told at an end. -/
def LevBraid.marginTold (x : LevBraid) (hi : Bool) (lane m : Nat) : LevBraid :=
  (x.modEnd hi fun e => { e with margins := Tbl.set (x.endOf hi).margins lane (m, (Tbl.get (0, 0) (x.endOf hi).margins lane).2) }).checkLow

/-- R310: whether a lane in use lies below MTHR by the margins `ms`. -/
def LevBraid.lowBy (x : LevBraid) (hi : Bool) (ms : Tbl (Nat × Nat)) : Bool := ms.any fun r => x.healthy r.1 && decide (r.2.1 < (x.endOf hi).mthr)

theorem LevBraid.endOf_marginTold {x : LevBraid} {lane m : Nat} :
    let ms := Tbl.set (x.endOf hi).margins lane (m, (Tbl.get (0, 0) (x.endOf hi).margins lane).2)
    (x.marginTold hi lane m).endOf hi = { x.endOf hi with margins := ms, mlow := x.lowBy hi ms } := by
  simp [LevBraid.marginTold, LevBraid.endOf_checkLow, LevBraid.lowBy, LevBraid.healthy]

theorem LevBraid.svyblk_marginTold {x : LevBraid} {lane m : Nat} : (x.marginTold hi lane m).svyblk = x.svyblk := LevBraid.svyblk_modEnd

theorem exec_margin_watch {lane : Fin 68} {m : Byte} :
    exec (.margin b hi lane m) s = .next ((s.modBrd b fun _ => (s.brd b).marginTold hi lane m.toNat).watch b hi (s.levEnd b hi)) := by
  have hcongr : (s.modBrd b fun x => (x.modEnd hi fun e =>
      { e with margins := Tbl.set e.margins lane (m.toNat, (Tbl.get (0, 0) e.margins lane).2) }).checkLow) =
      s.modBrd b fun _ => (s.brd b).marginTold hi lane m.toNat :=
    State.modBrd_congr (congrArg LevBraid.checkLow (LevBraid.modEnd_congr rfl))
  simp only [exec_margin, execMargin, hcongr, State.endOf_brd]

theorem margin_told {lane : Fin 68} {m : Byte} :
    let e := s.levEnd b hi
    let x := s.brd b
    let y := x.marginTold hi lane m.toNat
    let low := x.lowBy hi (Tbl.set e.margins lane (m.toNat, (Tbl.get (0, 0) e.margins lane).2))
    (low = false ∨ x.svyblk = false → exec (.margin b hi lane m) s = .next (s.modBrd b fun _ => y)) ∧ ((y.endOf hi).mlow = low) ∧
    (low = true → x.svyblk = true → e.own = none → e.state = 2 → exec (.margin b hi lane m) s = .next ((s.modBrd b fun _ =>
      y.modEnd hi fun e => { e with own := some ⟨1, 2, 0⟩, state := 3 }).side b hi 0x06 (rtReqValue ⟨1, 2, 0⟩))) := by
  intro e x y low
  have hend : (s.modBrd b fun _ => y).levEnd b hi = y.endOf hi := by rw [State.levEnd, State.brd_modBrd]
  have hy : y.endOf hi = { e with
    margins := Tbl.set e.margins lane (m.toNat, (Tbl.get (0, 0) e.margins lane).2), mlow := low } := LevBraid.endOf_marginTold
  have hblk : ((s.modBrd b fun _ => y).brd b).svyblk = x.svyblk := by rw [State.brd_modBrd]; exact LevBraid.svyblk_marginTold
  have hrephi : ((s.modBrd b fun _ => y).levEnd b hi).rephi = e.rephi := by rw [hend, hy]
  have hmlow : ((s.modBrd b fun _ => y).levEnd b hi).mlow = low := by rw [hend, hy]
  refine ⟨fun h => ?_, by rw [hy], fun hlow hb ho h2 => ?_⟩
  · rw [exec_margin_watch, State.watch_quiet hrephi (h.imp hmlow.trans hblk.trans)]
  · rw [exec_margin_watch, State.watch_low hrephi (hmlow.trans hlow) (hblk.trans hb), State.askBraid_asks (by rw [hend, hy]; exact ho)
      (by rw [hend, hy]; exact h2), State.withEnd, State.modBrd_modBrd]

/-! Turn lists (R296, R299) -/

theorem turn_sets {site : SiteId} {port : Fin 20} {cls : BitVec 2} {esc : Bool} {slots half : Byte} :
    let on := (List.range 8).filter fun i => slots.getLsbD i
    exec (.turn site port cls esc slots half) s = .next (s.modLev fun l =>
      { l with
        rxTurns := Tbl.set l.rxTurns (turnKey site port (2 * cls.toNat + (if esc then 1 else 0)))
          (on ++ on.filter fun i => !half.getLsbD i) }) := by
  intro on
  have hlist : turnList (on.map fun i => (i, half.getLsbD i)) = on ++ on.filter fun i => !half.getLsbD i := by
    simp [turnList, List.filter_map, Function.comp_def]
  rw [exec_turn, execTurn, hlist]

/-- Settles O29, by what an end makes of a flit (R294), and what its watcher makes of the end then (R305). -/
theorem braidEndsReceiveAndReplay : Obligations.BraidEndsReceiveAndReplay := by
  unfold Obligations.BraidEndsReceiveAndReplay
  refine ⟨fun b hi flit crc seq s => ?_, fun _ _ _ _ _ => margin_told, fun _ _ _ => ⟨rfl, rfl⟩, fun _ _ _ _ _ _ _ => turn_sets⟩
  exact ⟨fun h => ⟨flitReceive_ignored h, leveeReplay_ignored h⟩, leveeReplay_live, fun hl hm => ⟨flitReceive_taken hl hm, flitReceive_again hl hm,
    fun hc hd hn h0 => flitReceive_discards hl hm hc hd hn h0, fun hc hd hn h0 ho h2 => flitReceive_alarms hl hc hd hn h0 ho h2⟩⟩

end Sys2Proof.Machine
end

section
/-!
SUPPORT. A braid leaves or joins the lists of its ports (10 R303 steps 2, 3 and 7).
-/
namespace Sys2Proof.Machine

variable {s t : State} {ps : List Part} {b c : Nat} {hi inlist : Bool}

/-- The books of a port of a router. -/
def State.dport (s : State) (site port : Nat) : DPort := (s.delta.router site).port port

theorem State.dport_modPort {site port y q : Nat} {f : DPort → DPort} :
    (s.modDelta fun d => d.modRouter site fun r => r.modPort port f).dport y q =
      if y = site ∧ q = port then f (s.dport site port) else s.dport y q := by
  have hport : ∀ r : Router, (r.modPort port f).port q = if q = port then f (r.port port) else r.port q := fun r => Tbl.get_set ..
  rw [State.dport, State.modDelta_delta, Delta.router_modRouter]
  by_cases hy : y = site
  · subst hy
    rw [if_pos rfl, hport]
    by_cases hq : q = port <;> simp [hq, State.dport]
  · simp [hy, State.dport]

/-! Turn lists leave the braids (R296) -/

theorem State.setTurns_braids {site port : Nat} : (s.setTurns site port).lev.braids = s.lev.braids :=
  List.foldlRecOn (motive := fun l : Levee => l.braids = s.lev.braids) _ _ rfl fun l hl k _ => by
    dsimp only
    split <;> exact hl

theorem State.setTurns_brd {site port : Nat} : (s.setTurns site port).brd c = s.brd c := by
  simp only [State.brd, Levee.braid, State.setTurns_braids]

theorem State.setTurns_changes {site port : Nat} (h : .lev ∈ ps) : ChangesOnly ps s (s.setTurns site port) := State.modLev_changes h

theorem State.sendTurns_changes {far : Bool} {site port : Nat} (h : .out ∈ ps) : ChangesOnly ps s (s.sendTurns b far site port) :=
  .foldl fun _ _ => State.emit_changes h

/-! One port -/

/-- R303 step 2: the books of a port whose list a braid leaves or joins are frozen, while it is up. -/
def DPort.relisted (k : DPort) (n : Nat) : DPort := { k with frozen := k.up, braids := if k.up then n else 0 }

/-- R296, R303 step 2: one port of a braid takes its new list, and tells it. -/
def State.relist (s : State) (b site port : Nat) : State :=
  let s2 := s.setTurns site port
  let s3 := s2.modDelta fun d => d.modRouter site fun r => r.modPort port fun k => k.relisted (s2.portTurns site port).length
  let s4 := s3.sendTurns b false site port
  if meshPort port then s4 else s4.sendTurns b true site port

theorem State.turnChange_eq : s.turnChange b inlist =
    ((s.gaz.braidPorts b).foldl (fun s p => s.relist b p.1 p.2) (s.modBrd b fun x => x.both fun e => { e with inlist := inlist })).csyncs b := rfl

theorem State.relist_delta {site port : Nat} : (s.relist b site port).delta =
    ((s.setTurns site port).modDelta fun d => d.modRouter site fun r => r.modPort port fun k =>
      k.relisted ((s.setTurns site port).portTurns site port).length).delta := by
  have told : ∀ (t : State) (far : Bool), (t.sendTurns b far site port).delta = t.delta := fun t far =>
    State.sendTurns_changes (ps := [.out]) (by decide) .delta (by decide)
  unfold State.relist
  dsimp only
  split
  · exact told ..
  · exact (told ..).trans (told ..)

theorem State.relist_brd {site port : Nat} : (s.relist b site port).brd c = s.brd c := by
  have told : ∀ (t : State) (far : Bool), (t.sendTurns b far site port).brd c = t.brd c := fun t far =>
    (State.sendTurns_changes (ps := [.out]) (by decide)).brd_eq
  unfold State.relist
  dsimp only
  split
  · exact (told ..).trans State.setTurns_brd
  · exact ((told ..).trans (told ..)).trans State.setTurns_brd

theorem State.relist_changes {site port : Nat} : ChangesOnly [.lev, .delta, .out] s (s.relist b site port) :=
  have books := (State.setTurns_changes (s := s) (site := site) (port := port) (by decide)).trans
    (State.modDelta_changes (ps := [.lev, .delta, .out]) (by decide))
  .ite (fun _ => books.trans (State.sendTurns_changes (by decide))) fun _ =>
    (books.trans (State.sendTurns_changes (by decide))).trans (State.sendTurns_changes (by decide))

/-- R303 step 2: the books of the port are frozen where it is up, those of another port stay. -/
theorem State.relist_dport {site port y q : Nat} : ((s.relist b site port).dport y q).up = (s.dport y q).up ∧
    ((s.relist b site port).dport y q).frozen = if y = site ∧ q = port then (s.dport y q).up else (s.dport y q).frozen := by
  have hd : (s.relist b site port).dport y q = _ := congrArg (fun d : Delta => (d.router y).port q) State.relist_delta
  rw [hd, ← State.dport, State.dport_modPort]
  have hs : ∀ y q, (s.setTurns site port).dport y q = s.dport y q := fun _ _ => rfl
  split
  · next h => obtain ⟨rfl, rfl⟩ := h; rw [hs]; exact ⟨rfl, rfl⟩
  · rw [hs]; exact ⟨rfl, rfl⟩

theorem State.relists_dport {y q : Nat} : ∀ (l : List (Nat × Nat)) (s : State), let u := l.foldl (fun s p => s.relist b p.1 p.2) s
    (u.dport y q).up = (s.dport y q).up ∧ (u.dport y q).frozen = if (y, q) ∈ l then (s.dport y q).up else (s.dport y q).frozen
  | [], _ => ⟨rfl, rfl⟩
  | p :: l, s => by
    obtain ⟨hup, hfrozen⟩ := State.relists_dport (y := y) (q := q) l (s.relist b p.1 p.2)
    obtain ⟨hup1, hfrozen1⟩ := State.relist_dport (s := s) (b := b) (site := p.1) (port := p.2) (y := y) (q := q)
    refine ⟨hup.trans hup1, hfrozen.trans ?_⟩
    rw [hup1, hfrozen1]
    by_cases hl : (y, q) ∈ l
    · simp [hl]
    · simp [hl, Prod.ext_iff]

/-! The change as a whole -/

theorem State.turnChange_changes : ChangesOnly [.lev, .delta, .out] s (s.turnChange b inlist) :=
  ((State.modBrd_changes (by decide)).trans (.foldl fun _ _ => State.relist_changes)).trans (State.csyncs_changes (by decide))

/-- R303 step 2: of the braids the one alone changes, and of it whether it is listed. -/
theorem State.turnChange_brd : (s.turnChange b inlist).brd c = (s.modBrd b fun x => x.both fun e => { e with inlist := inlist }).brd c := by
  rw [State.turnChange_eq, (State.csyncs_changes (ps := [.out]) (by decide)).brd_eq]
  exact List.foldlRecOn (motive := fun t : State => t.brd c = (s.modBrd b fun x => x.both fun e => { e with inlist := inlist }).brd c) _ _ rfl
    fun t ht p _ => State.relist_brd.trans ht

theorem State.turnChange_levEnd : (s.turnChange b inlist).levEnd b hi = { s.levEnd b hi with inlist := inlist } := by
  rw [State.levEnd, State.turnChange_brd, State.brd_modBrd, LevBraid.endOf_both, State.endOf_brd]

theorem State.turnChange_other (h : c ≠ b) : (s.turnChange b inlist).brd c = s.brd c := State.turnChange_brd.trans (State.brd_modBrd_other h)

/-- R303 step 2: the books of each port of the braid are frozen, where it is up. -/
theorem State.turnChange_frozen {p : Nat × Nat} (hp : p ∈ s.gaz.braidPorts b) :
    ((s.turnChange b inlist).dport p.1 p.2).frozen = (s.dport p.1 p.2).up := by
  have hsent : ∀ t : State, (t.csyncs b).dport p.1 p.2 = t.dport p.1 p.2 := fun t =>
    congrArg (fun d : Delta => (d.router p.1).port p.2) (State.csyncs_changes (ps := [.out]) (by decide) .delta (by decide))
  rw [State.turnChange_eq, hsent, (State.relists_dport _ _).2, if_pos hp]
  rfl

end Sys2Proof.Machine
end

section
/-!
PROOFS. The procedures of a braid's ends (10 R299, R303, R305, R307, R308).
-/
namespace Sys2Proof.Machine

variable {s : State} {b : BraidId} {hi : Bool} {kind reason : BitVec 4} {depth : BitVec 3} {pat conv : BitVec 4} {lane : Fin 68} {o : RtReq}

/-! RT_REQ (R303, R307) -/

theorem leveeRtReq_ignored (h : (s.levEnd b hi).state = 0 ∨ (s.levEnd b hi).state = 6 ∨ kind.toNat = 0 ∨ 3 < kind.toNat) :
    exec (.leveeRtReq b hi kind reason depth) s = .next s :=
  congrArg Host.Outcome.next (if_pos h)

/-- R303: the panel with an RT_RSP sent by the end, where it accepts. -/
def State.answersRt (s : State) (b : Nat) (hi : Bool) : RtAnswer → State
  | .accept c => s.side b hi 0x07 (fld 71 1 + fld 67 c)
  | _ => s

/-- R307: a live end takes a request of one of the three kinds, and answers it. -/
theorem leveeRtReq_live {f : LevEnd → LevEnd} {ans : RtAnswer} (hl : s.LevLive b hi) (h1 : 1 ≤ kind.toNat) (h3 : kind.toNat ≤ 3)
    (hr : (s.levEnd b hi).rtReq hi ⟨kind.toNat, reason.toNat, depth.toNat⟩ = (f (s.levEnd b hi), ans)) :
    exec (.leveeRtReq b hi kind reason depth) s = .next ((s.withEnd b hi f).answersRt b hi ans) := by
  obtain ⟨hs0, hs6⟩ := hl
  have hs : ¬ ((s.levEnd b hi).state = 0 ∨ (s.levEnd b hi).state = 6 ∨ kind.toNat = 0 ∨ 3 < kind.toNat) := by omega
  have hf : (s.withEnd b hi fun _ => f (s.levEnd b hi)) = s.withEnd b hi f := State.withEnd_congr rfl
  rw [exec_leveeRtReq, execLeveeRtReq, State.endOf_brd]
  simp only [if_neg hs, hr, State.modBrd_modEnd, hf]
  cases ans <;> rfl

theorem LevEnd.rtReq_free {e : LevEnd} (ho : e.own = none) (h : e.state < 3) :
    e.rtReq hi o = ({ e with init := false, state := o.kind + 2, converted := 0 }, .accept 0) := by
  rw [LevEnd.rtReq, ho]
  exact if_neg (by omega)

theorem LevEnd.rtReq_busy {e : LevEnd} (ho : e.own = none) (h3 : 3 ≤ e.state) (h5 : e.state ≤ 5) :
    e.rtReq hi o = ({ e with waiting := some o }, .wait) := by
  rw [LevEnd.rtReq, ho]
  exact if_pos (by omega)

theorem LevEnd.rtReq_race_low {e : LevEnd} {r : RtReq} (ho : e.own = some o) :
    e.rtReq false r = ({ e with race := true, init := true }, .ignore) := by
  rw [LevEnd.rtReq, ho]
  rfl

theorem LevEnd.rtReq_race_high {e : LevEnd} {r : RtReq} (ho : e.own = some o) : e.rtReq true r =
    ({ e with race := true, init := false, own := none, converted := o.kind, state := r.kind + 2 }, .accept o.kind) := by
  rw [LevEnd.rtReq, ho]
  rfl

/-- R303, R307: a live end accepts where nothing is under way, lets the request wait in a procedure, and in a race initiates as the lower end
and accepts as the higher. -/
theorem leveeRtReq_answers (hl : s.LevLive b hi) (h1 : 1 ≤ kind.toNat) (h3 : kind.toNat ≤ 3) :
    let e := s.levEnd b hi
    (e.own = none → e.state < 3 → exec (.leveeRtReq b hi kind reason depth) s =
      .next ((s.withEnd b hi fun e => { e with init := false, state := kind.toNat + 2, converted := 0 }).side b hi 0x07 (fld 71 1))) ∧
    (e.own = none → 3 ≤ e.state → e.state ≤ 5 → exec (.leveeRtReq b hi kind reason depth) s =
      .next (s.withEnd b hi fun e => { e with waiting := some ⟨kind.toNat, reason.toNat, depth.toNat⟩ })) ∧
    (e.own = some o → hi = false → exec (.leveeRtReq b hi kind reason depth) s =
      .next (s.withEnd b hi fun e => { e with race := true, init := true })) ∧
    (e.own = some o → hi = true → exec (.leveeRtReq b hi kind reason depth) s = .next ((s.withEnd b hi fun e =>
      { e with race := true, init := false, own := none, converted := o.kind, state := kind.toNat + 2 }).side b hi 0x07
        (fld 71 1 + fld 67 o.kind))) := by
  intro e
  refine ⟨fun ho h => leveeRtReq_live (ans := .accept 0) hl h1 h3 (LevEnd.rtReq_free ho h),
    fun ho h h5 => leveeRtReq_live (ans := .wait) hl h1 h3 (LevEnd.rtReq_busy ho h h5), ?_, ?_⟩
  · rintro ho rfl
    exact leveeRtReq_live (ans := .ignore) hl h1 h3 (LevEnd.rtReq_race_low ho)
  · rintro ho rfl
    exact leveeRtReq_live (ans := .accept o.kind) hl h1 h3 (LevEnd.rtReq_race_high ho)

/-! RT_RSP (R303, R307) -/

theorem leveeRtRsp_unasked {a : Bool} (ho : (s.levEnd b hi).own = none) : exec (.leveeRtRsp b hi a conv) s = .next s := by
  simp only [exec_leveeRtRsp, execLeveeRtRsp, State.endOf_brd, ho]

theorem leveeRtRsp_refused (ho : (s.levEnd b hi).own = some o) :
    exec (.leveeRtRsp b hi false conv) s = .next (s.withEnd b hi fun e => { e with own := none, state := 2 }) := by
  simp only [exec_leveeRtRsp, execLeveeRtRsp, State.endOf_brd, ho]
  rfl

theorem leveeRtRsp_accepted (ho : (s.levEnd b hi).own = some o) : let e := s.levEnd b hi
    Completes (.leveeRtRsp b hi true conv) s fun u =>
      u.levEnd b hi = { e with own := none, init := true, state := o.kind + 2, race := e.race || decide (conv.toNat ≠ 0), inlist := false } ∧
      u.levEnd b (!hi) = { s.levEnd b (!hi) with inlist := false } ∧ (∀ b', b' ≠ b.val → u.brd b' = s.brd b') ∧
      (∀ p ∈ s.gaz.braidPorts b, ((u.delta.router p.1).port p.2).frozen = ((s.delta.router p.1).port p.2).up) ∧
      ChangesOnly [.lev, .delta, .out] s u := by
  intro e
  refine ⟨(s.withEnd b hi fun e => { e with
    own := none, init := true, state := o.kind + 2, race := e.race || decide (conv.toNat ≠ 0) }).turnChange b false, ?_, ?_, ?_, ?_, ?_, ?_⟩
  · simp only [exec_leveeRtRsp, execLeveeRtRsp, State.endOf_brd, ho]
    rfl
  · rw [State.turnChange_levEnd, State.levEnd_withEnd]
  · rw [State.turnChange_levEnd, State.levEnd_withEnd_not]
  · exact fun b' hb => (State.turnChange_other hb).trans (State.brd_withEnd_other hb)
  · exact fun p hp => State.turnChange_frozen hp
  · exact (State.withEnd_changes (by decide)).trans State.turnChange_changes

/-! RT_DONE (R303 step 8, R307) -/

theorem leveeRtDone_ignored {up : Bool} (h3 : (s.levEnd b hi).state ≠ 3) (h4 : (s.levEnd b hi).state ≠ 4) (h5 : (s.levEnd b hi).state ≠ 5) :
    exec (.leveeRtDone b hi up) s = .next s :=
  congrArg Host.Outcome.next (if_pos ⟨h3, h4, h5⟩)

/-- R303 step 8: the end of a procedure after which the end is up. -/
def LevEnd.procDone (e : LevEnd) : LevEnd :=
  { e with state := 2, retrain := satAdd 0xFFFFFFFF e.retrain 1, converted := if e.waiting.isSome then e.converted else 0, waiting := none }

theorem leveeRtDone_retired (h3 : 3 ≤ (s.levEnd b hi).state) (h5 : (s.levEnd b hi).state ≤ 5) :
    exec (.leveeRtDone b hi false) s = .next (s.withEnd b hi fun e => { e with state := 6, inlist := false }) := by
  have hs : ¬ ((s.levEnd b hi).state ≠ 3 ∧ (s.levEnd b hi).state ≠ 4 ∧ (s.levEnd b hi).state ≠ 5) := by omega
  exact congrArg Host.Outcome.next ((if_neg hs).trans (if_pos rfl))

theorem leveeRtDone_up (h3 : 3 ≤ (s.levEnd b hi).state) (h5 : (s.levEnd b hi).state ≤ 5) :
    let e := s.levEnd b hi
    (∀ r, e.waiting = some r → exec (.leveeRtDone b hi true) s =
      .next (((s.withEnd b hi LevEnd.procDone).withEnd b hi fun e => { e with init := false, state := r.kind + 2 }).side b hi 0x07 (fld 71 1))) ∧
    (e.waiting = none → exec (.leveeRtDone b hi true) s = .next (
      if e.converted = 3 ∧ e.lbGo then (s.withEnd b hi LevEnd.procDone).askBraid b hi ⟨3, 0, e.lbDepth⟩
      else (s.withEnd b hi LevEnd.procDone).watch b hi e)) := by
  have hs : ¬ ((s.levEnd b hi).state ≠ 3 ∧ (s.levEnd b hi).state ≠ 4 ∧ (s.levEnd b hi).state ≠ 5) := by omega
  refine ⟨fun r hw => ?_, fun hw => ?_⟩
  · simp only [exec_leveeRtDone, execLeveeRtDone, State.endOf_brd, if_neg hs, hw]
    rfl
  · simp only [exec_leveeRtDone, execLeveeRtDone, State.endOf_brd, if_neg hs, hw]
    rfl

/-- R303 step 8, R307: where nothing waits and no loopback has lost its race, the end is up. -/
theorem leveeRtDone_idle (h3 : 3 ≤ (s.levEnd b hi).state) (h5 : (s.levEnd b hi).state ≤ 5) (hw : (s.levEnd b hi).waiting = none)
    (hm : (s.levEnd b hi).mlow = false) (hlost : (s.levEnd b hi).converted ≠ 3 ∨ (s.levEnd b hi).lbGo = false) :
    exec (.leveeRtDone b hi true) s = .next (s.withEnd b hi fun e =>
      { e with state := 2, retrain := satAdd 0xFFFFFFFF e.retrain 1, converted := 0, waiting := none }) := by
  have hdone : s.withEnd b hi LevEnd.procDone = s.withEnd b hi fun e =>
      { e with state := 2, retrain := satAdd 0xFFFFFFFF e.retrain 1, converted := 0, waiting := none } :=
    State.withEnd_congr (by simp [LevEnd.procDone, hw])
  rw [(leveeRtDone_up h3 h5).2 hw, if_neg (by rcases hlost with h | h <;> simp [h]), State.watch_quiet (by simp [LevEnd.procDone]) ?_, hdone]
  exact .inl (by simpa [LevEnd.procDone] using hm)

/-- R307: a loopback that has lost its race is asked for again. -/
theorem leveeRtDone_again (h3 : 3 ≤ (s.levEnd b hi).state) (h5 : (s.levEnd b hi).state ≤ 5) (hw : (s.levEnd b hi).waiting = none)
    (ho : (s.levEnd b hi).own = none) (hc : (s.levEnd b hi).converted = 3) (hg : (s.levEnd b hi).lbGo = true) :
    exec (.leveeRtDone b hi true) s = .next ((s.withEnd b hi fun e =>
      { e with state := 5, retrain := satAdd 0xFFFFFFFF e.retrain 1, converted := 0, waiting := none, own := some ⟨3, 0, e.lbDepth⟩ }).side b hi 0x06
        (rtReqValue ⟨3, 0, (s.levEnd b hi).lbDepth⟩)) := by
  have hdone : ((s.withEnd b hi LevEnd.procDone).withEnd b hi fun e => { e with own := some ⟨3, 0, (s.levEnd b hi).lbDepth⟩, state := 3 + 2 }) =
      s.withEnd b hi fun e => { e with
        state := 5, retrain := satAdd 0xFFFFFFFF e.retrain 1, converted := 0, waiting := none, own := some ⟨3, 0, e.lbDepth⟩ } :=
    State.withEnd_withEnd.trans (State.withEnd_congr (by simp [LevEnd.procDone, hw]))
  rw [(leveeRtDone_up h3 h5).2 hw, if_pos ⟨hc, hg⟩, State.askBraid_asks (by simpa [LevEnd.procDone] using ho) (by simp [LevEnd.procDone]), hdone]

/-- R307: what waited is taken up. -/
theorem leveeRtDone_waited (h3 : 3 ≤ (s.levEnd b hi).state) (h5 : (s.levEnd b hi).state ≤ 5) (hw : (s.levEnd b hi).waiting = some o) :
    exec (.leveeRtDone b hi true) s = .next ((s.withEnd b hi fun e => { e with
      state := o.kind + 2, retrain := satAdd 0xFFFFFFFF e.retrain 1, waiting := none, init := false }).side b hi 0x07 (fld 71 1)) := by
  have hdone : ((s.withEnd b hi LevEnd.procDone).withEnd b hi fun e => { e with init := false, state := o.kind + 2 }) =
      s.withEnd b hi fun e => { e with
        state := o.kind + 2, retrain := satAdd 0xFFFFFFFF e.retrain 1, waiting := none, init := false } :=
    State.withEnd_withEnd.trans (State.withEnd_congr (by simp [LevEnd.procDone, hw]))
  rw [(leveeRtDone_up h3 h5).1 o hw, hdone]

/-! Lane loss and loopback (R305, R308) -/

theorem fld_zero (lo : Nat) : fld lo 0 = 0 := Nat.zero_shiftLeft lo

/-- R299: the fields of a request that are 0 add nothing to its message. -/
theorem rtReqValue_laneLoss : rtReqValue ⟨1, 4, 0⟩ = fld 68 1 + fld 64 4 := by simp only [rtReqValue, fld_zero, Nat.add_zero]
theorem rtReqValue_loopback (d : Nat) : rtReqValue ⟨3, 0, d⟩ = fld 68 3 + fld 61 d := by simp only [rtReqValue, fld_zero, Nat.add_zero]

theorem laneLoss_retired (h : (s.brd b).healthy lane = false) : exec (.laneLoss b hi lane) s = .next s := by
  simp [execLaneLoss, h]

theorem laneLoss_asks (ho : (s.levEnd b hi).own = none) (h2 : (s.levEnd b hi).state = 2) (h : (s.brd b).healthy lane = true) :
    exec (.laneLoss b hi lane) s = .next ((s.withEnd b hi fun e =>
      { e with own := some ⟨1, 4, 0⟩, state := 3 }).side b hi 0x06 (fld 68 1 + fld 64 4)) := by
  rw [exec_laneLoss, execLaneLoss, if_pos h, State.askBraid_asks ho h2, rtReqValue_laneLoss]

theorem leveeLoopback_refused (h : depth.toNat = 0 ∨ 4 < depth.toNat) : exec (.leveeLoopback b hi depth pat) s = .next s :=
  congrArg Host.Outcome.next (if_pos (by tauto))

theorem leveeLoopback_asks (ho : (s.levEnd b hi).own = none) (h2 : (s.levEnd b hi).state = 2) (hg : (s.levEnd b hi).lbGo = false)
    (h1 : 1 ≤ depth.toNat) (h4 : depth.toNat ≤ 4) :
    exec (.leveeLoopback b hi depth pat) s = .next ((s.withEnd b hi fun e =>
      { e with lbGo := true, lbDepth := depth.toNat, lbPat := pat.toNat, own := some ⟨3, 0, depth.toNat⟩, state := 5 }).side b hi 0x06
        (fld 68 3 + fld 61 depth.toNat)) := by
  have hs : ¬ (depth.toNat = 0 ∨ 4 < depth.toNat ∨ (s.levEnd b hi).lbGo = true ∨ (s.levEnd b hi).state ≠ 2) := by simp [hg, h2]; omega
  rw [exec_leveeLoopback, execLeveeLoopback, State.levLoopback, State.endOf_brd, if_neg hs, State.modBrd_modEnd,
    State.askBraid_asks (by simpa using ho) (by simpa using h2), State.withEnd_withEnd, rtReqValue_loopback]

/-- Settles O30, message by message: what the end makes of it, and for an acceptance what becomes of the lists (R303 step 2). -/
theorem braidProceduresFollowTheirMessages : Obligations.BraidProceduresFollowTheirMessages := by
  unfold Obligations.BraidProceduresFollowTheirMessages
  intro b hi kind reason depth pat lane conv o s
  refine ⟨leveeRtReq_ignored, leveeRtReq_answers, fun ho _ => leveeRtRsp_unasked ho, leveeRtRsp_refused, leveeRtRsp_accepted,
    fun h3 h4 h5 _ => leveeRtDone_ignored h3 h4 h5, fun h3 h5 => ?_, laneLoss_retired, fun ho h2 => ?_, leveeLoopback_refused⟩
  · exact ⟨leveeRtDone_retired h3 h5, leveeRtDone_idle h3 h5, leveeRtDone_again h3 h5, leveeRtDone_waited h3 h5⟩
  · exact ⟨laneLoss_asks ho h2, leveeLoopback_asks ho h2⟩

end Sys2Proof.Machine
end

section
/-!
SUPPORT. A training that every lane passes (10 R300 steps 4 to 8, R304).
-/
namespace Sys2Proof.Machine

variable {s t : State} {b c src : Nat} {hi fullRate : Bool} {x y : LevBraid} {tests : List LaneTest}

/-! The lane test (R301, R302) -/

/-- R302: the margins that a lane test enters. -/
def testMargins (ms : Tbl (Nat × Nat)) (tests : List LaneTest) : Tbl (Nat × Nat) :=
  tests.foldl (fun m t => Tbl.set m t.1 (t.2.2.1, t.2.2.2.1)) ms

/-- R300 steps 4 to 6: a braid on the lane map of its record after a lane test that every lane passes, at full width. -/
def LevBraid.tested (x : LevBraid) (tests : List LaneTest) : LevBraid :=
  (({ x with slane := none, cal := none }).both fun e => { e with margins := testMargins x.a.margins tests }).checkLow

/-- R301, R302: where every lane passes, no lane is retired. -/
theorem LanesPass.no_failed (h : LanesPass tests) :
    (tests.filter fun (t : LaneTest) => !(laneAccepted t.2.1 t.2.2.1 t.2.2.2.1 && t.2.2.2.2)) = [] :=
  List.filter_eq_nil_iff.2 fun t ht => by
    obtain ⟨he, hm, hv, hd⟩ := h t ht
    simp [laneAccepted, he, hm, hv, hd]

theorem State.tellMargins_changes : ∀ s : State, ChangesOnly [.out] s
    (tests.foldl (fun (s : State) (t : LaneTest) => s.sideBoth b 0x0C (fld 65 t.1 + fld 57 (Nat.min 255 t.2.2.1))) s) := fun _ =>
  .foldl fun _ _ => (State.side_changes (by decide)).trans (State.side_changes (by decide))

/-- R297: a braid with 64 healthy lanes has full width. -/
theorem LevBraid.chooseWidth_full (h : 64 ≤ x.healthyCount) : x.chooseWidth = ({ x with half := false }, true) := if_pos h

/-- R300 steps 4 to 6: a lane test that every lane passes, of a braid with 64 healthy lanes. -/
theorem State.laneTest_pass (hp : LanesPass tests) (hn : 64 ≤ (s.brd b).healthyCount) :
    ∃ t, s.laneTest src b tests = (t, true) ∧
      t.brd b = ({ s.brd b with carry := (s.gaz.braid b).lanes, half := false } : LevBraid).tested tests ∧
      (∀ c, c ≠ b → t.brd c = s.brd c) ∧ ChangesOnly [.lev, .out] s t := by
  unfold State.laneTest
  extract_lets failed bad s0 s1 ms s2 s3
  have hfailed : failed = [] := by simp only [failed, hp.no_failed, List.map_nil]
  have hbad : bad = [] := by simp [bad, hfailed]
  have h1 : s1 = s0 := by simp only [s1, hbad, List.foldl_nil]
  have h0 : s0.brd b = { s.brd b with carry := (s.gaz.braid b).lanes, slane := none, cal := none } := State.brd_modBrd
  have hsent : ChangesOnly [.out] s2 s3 := State.tellMargins_changes s2
  have h3 : s3.brd b = ({ s.brd b with carry := (s.gaz.braid b).lanes } : LevBraid).tested tests := by
    simp only [hsent.brd_eq, s2, State.brd_modBrd, ms, h1, h0]
    rfl
  have hw : (s3.brd b).chooseWidth = ({ s3.brd b with half := false }, true) := LevBraid.chooseWidth_full (by rw [h3]; exact hn)
  rw [hw]
  refine ⟨_, rfl, ?_, fun c hc => ?_, ?_⟩
  · rw [State.brd_modBrd, h3]
    rfl
  · rw [State.brd_modBrd_other hc, hsent.brd_eq]
    simp only [s2, h1, State.brd_modBrd_other hc, s0]
  · have h02 : ChangesOnly [.lev, .out] s s2 := by
      simp only [s2, h1]
      exact (State.modBrd_changes (by decide)).trans (State.modBrd_changes (by decide))
    exact (h02.trans (hsent.mono (by decide))).trans (State.modBrd_changes (by decide))

/-! The braid ready (R300 steps 7 and 8, R304) -/

/-- R300: the braid `y` is the braid `x`, on its lane map and at its width, after a training that every lane has passed. -/
structure LevBraid.Restarted (fullRate : Bool) (x y : LevBraid) : Prop where
  ends : ∀ hi, ∃ ms low d, y.endOf hi = { x.endOf hi with
    margins := ms, mlow := low, sbslow := !fullRate, rxSeq := 0, txSeq := 0, discarding := false, buf := [], phase := 0, dlane := d }
  slane : y.slane = x.idle.head?
  svyblk : y.svyblk = false
  carry : y.carry = x.carry
  retired : y.retired = x.retired
  half : y.half = x.half

/-- R304: a braid with an idle healthy lane has the lowest of them as its survey lane. -/
theorem LevBraid.chooseSurvey_idle (h : x.idle ≠ []) : x.chooseSurvey = { x with slane := x.idle.head?, svyblk := false } := by
  obtain ⟨l, ls, e⟩ := List.exists_cons_of_ne_nil h
  simp [LevBraid.chooseSurvey, e]

theorem State.noteBlocked_unblocked {was : Bool} (h : (s.brd b).svyblk = false) : s.noteBlocked b was = s := if_neg (by simp [h])

/-- R300 steps 7 and 8: a braid whose lanes have passed is ready. -/
theorem State.braidReady_tested (hne : x.idle ≠ []) (hx : s.brd b = x.tested tests) :
    x.Restarted fullRate ((s.braidReady b fullRate).brd b) ∧ (∀ c, c ≠ b → (s.braidReady b fullRate).brd c = s.brd c) ∧
      ChangesOnly [.lev] s (s.braidReady b fullRate) := by
  have hs : (x.tested tests).chooseSurvey = { x.tested tests with slane := x.idle.head?, svyblk := false } :=
    LevBraid.chooseSurvey_idle (x := x.tested tests) hne
  have hblk : s.braidReady b fullRate = s.modBrd b fun x => (x.chooseSurvey.both fun e =>
      { e with sbslow := !fullRate, rxSeq := 0, txSeq := 0, discarding := false, buf := [], phase := 0 }).aim := by
    refine State.noteBlocked_unblocked ?_
    rw [State.brd_modBrd, hx, hs]
    rfl
  rw [hblk]
  refine ⟨?_, fun c hc => State.brd_modBrd_other hc, State.modBrd_changes (by decide)⟩
  rw [State.brd_modBrd, hx, hs]
  exact ⟨fun hi => by cases hi <;> exact ⟨_, _, _, rfl⟩, rfl, rfl, rfl, rfl, rfl⟩

/-- R300 steps 4 to 8: the training of a braid with 64 healthy lanes, all passing, and an idle one. -/
theorem State.training_passes (hp : LanesPass tests) (hx : x = { s.brd b with carry := (s.gaz.braid b).lanes, half := false })
    (hn : 64 ≤ x.healthyCount) (hne : x.idle ≠ []) :
    ∃ t, s.laneTest src b tests = (t, true) ∧ x.Restarted fullRate ((t.braidReady b fullRate).brd b) ∧
      (∀ c, c ≠ b → (t.braidReady b fullRate).brd c = s.brd c) ∧ ChangesOnly [.lev, .out] s (t.braidReady b fullRate) := by
  subst hx
  obtain ⟨t, ht, hb, hc, hch⟩ := State.laneTest_pass (src := src) hp (show 64 ≤ (s.brd b).healthyCount from hn)
  obtain ⟨hr, hc', hch'⟩ := State.braidReady_tested (fullRate := fullRate) hne hb
  exact ⟨t, ht, hr, fun c h => (hc' c h).trans (hc c h), hch.trans (hch'.mono (by decide))⟩

end Sys2Proof.Machine
end

section
/-!
SUPPORT. What packets, ports and change sets leave of the braids (01 R37; 10 R292, R294, R296, R310).
-/
namespace Sys2Proof.Machine

variable {s t u : State} {ps : List Part} {b c : Nat} {hi : Bool}

/-! What flits leave of an end (R292, R294) -/

/-- An end but for what sending flits changes: the sequence number and the replay buffer. -/
def LevEnd.core (e : LevEnd) : LevEnd := { e with txSeq := 0, buf := [] }
/-- An end but for what its leaving service changes besides. -/
def LevEnd.steady (e : LevEnd) : LevEnd := { e.core with state := 0, inlist := false, own := none, waiting := none }
def LevBraid.core (x : LevBraid) : LevBraid := x.both LevEnd.core
def LevBraid.steady (x : LevBraid) : LevBraid := x.both LevEnd.steady

theorem LevBraid.steady_of_core {x y : LevBraid} (h : y.core = x.core) : y.steady = x.steady :=
  congrArg (fun z : LevBraid => z.both fun e => { e with state := 0, inlist := false, own := none, waiting := none }) h

theorem LevEnd.send_core : ∀ (fs : List (BitVec 512)) (e : LevEnd), (e.send fs).1.core = e.core
  | [], _ => rfl
  | _ :: fs, e => LevEnd.send_core fs { e with txSeq := (e.txSeq + 1) % 4096, buf := _ }

theorem LevBraid.core_modEnd {x : LevBraid} {f : LevEnd → LevEnd} (h : (f (x.endOf hi)).core = (x.endOf hi).core) :
    (x.modEnd hi f).core = x.core := by
  cases hi
  · exact congrArg (fun e => { x.core with a := e }) h
  · exact congrArg (fun e => { x.core with b := e }) h

/-- The panel `t` has the Gazetteer of `s`, and of each braid all but what flits sent have changed. -/
structure State.Flows (s t : State) : Prop where
  cores : ∀ b, (t.brd b).core = (s.brd b).core
  gaz : t.gaz = s.gaz

namespace State.Flows

theorem refl (s : State) : s.Flows s := ⟨fun _ => rfl, rfl⟩

theorem trans (a : s.Flows t) (b : t.Flows u) : s.Flows u := ⟨fun c => (b.cores c).trans (a.cores c), b.gaz.trans a.gaz⟩

theorem foldl {β : Type} {f : State → β → State} {l : List β} (hf : ∀ s x, Flows s (f s x)) : s.Flows (l.foldl f s) :=
  List.foldlRecOn l f (refl s) fun _ h x _ => h.trans (hf _ x)

theorem ite {p : Prop} [Decidable p] (ht : p → s.Flows t) (hu : ¬ p → s.Flows u) : s.Flows (if p then t else u) := by
  split
  · exact ht ‹_›
  · exact hu ‹_›

theorem of_changes (h : ChangesOnly ps s t) (hl : .lev ∉ ps := by decide) (hg : .gaz ∉ ps := by decide) : s.Flows t :=
  ⟨fun _ => congrArg LevBraid.core (h.brd_eq hl), h .gaz hg⟩

/-- Braids untouched, the Levee state may change besides. -/
theorem of_braids (h : t.lev.braids = s.lev.braids) (hg : t.gaz = s.gaz) : s.Flows t :=
  ⟨fun _ => by simp only [State.brd, Levee.braid, h], hg⟩

end State.Flows

theorem State.modDelta_flows {f : Delta → Delta} : s.Flows (s.modDelta f) := .of_changes (State.modDelta_changes (ps := [.delta]) (by decide))
theorem State.emit_flows {m : Msg} : s.Flows (s.emit m) := .of_changes (State.emit_changes (ps := [.out]) (by decide))
theorem State.emits_flows {ms : List Msg} : s.Flows (s.emits ms) := .of_changes (State.emits_changes (ps := [.out]) (by decide))

/-! What a packet leaves of the braids (09) -/

theorem Levee.place_braids (l : Levee) (key : Nat) : (l.place key).1.braids = l.braids := by
  unfold Levee.place
  dsimp only
  split <;> rfl

theorem State.sendFlits_flows {far : Bool} {site port : Nat} {ch : Chunk} : s.Flows (s.sendFlits far site port ch) := by
  unfold State.sendFlits
  extract_lets key s1 slot
  have placed : s.Flows s1 := .ite (fun _ => .of_braids (Levee.place_braids _ _) rfl) fun _ => .refl s
  split
  · exact placed
  · next b _ =>
    refine placed.trans ?_
    have sent : ∀ (hi : Bool) (fs : List (BitVec 512)), s1.Flows (s1.withEnd b hi fun _ => (((s1.brd b).endOf hi).send fs).1) := fun hi fs => by
      refine ⟨fun c => ?_, rfl⟩
      by_cases hc : c = b
      · subst hc
        rw [State.withEnd, State.brd_modBrd]
        exact LevBraid.core_modEnd (LevEnd.send_core fs _)
      · rw [State.brd_withEnd_other hc]
    exact (sent _ _).trans State.emits_flows

theorem State.commitRouter_flows {site : Nat} {r : Router} {sent : List (Nat × Chunk)} : s.Flows (s.commitRouter site r sent) :=
  (State.modDelta_flows.trans (.foldl fun _ _ => State.Flows.trans (.ite (fun _ => State.emit_flows) fun _ => .refl _) State.sendFlits_flows)).trans
    (.foldl fun _ _ => State.emits_flows)

theorem State.counted_flows {site inPort : Nat} {p : Packet} : s.Flows (s.counted site inPort p) := by
  unfold State.counted
  exact .ite (fun _ => State.modDelta_flows) fun _ => State.modDelta_flows.trans State.modDelta_flows

theorem State.enter_flows {site inPort : Nat} {p : Packet} : s.Flows (s.enter site inPort p).1 :=
  (State.counted_flows.trans State.emits_flows).trans State.commitRouter_flows

theorem State.window_flows {src unit n maxp : Nat} {data : Bool} (e : s.window src unit n maxp data = some t) : s.Flows t := by
  unfold State.window at e
  dsimp only at e
  split at e
  · split at e
    · contradiction
    · exact Option.some.inj e ▸ .refl _
  · split at e
    · contradiction
    · split at e
      · exact Option.some.inj e ▸ State.modDelta_flows
      · contradiction

theorem State.mayEnter_flows {site port : Nat} {q : Packet} (e : s.mayEnter site port q = some t) : s.Flows t := by
  unfold State.mayEnter at e
  split at e
  · contradiction
  · obtain ⟨v, hv, rfl⟩ := Option.map_eq_some_iff.mp e
    exact (State.window_flows hv).trans State.modDelta_flows

theorem State.sendCtl_flows {site : Nat} {p : Packet} : s.Flows (s.sendCtl site p) := by
  have flits : ∀ {v : State} {site port : Nat} {p : Packet}, v.Flows (v.unitFlits site port p) :=
    .ite (fun _ => State.sendFlits_flows) fun _ => .refl _
  unfold State.sendCtl
  split
  · exact State.enter_flows
  · dsimp only
    split
    · split
      · next e => exact ((State.mayEnter_flows e).trans flits).trans State.enter_flows
      · exact State.modDelta_flows
    · exact State.modDelta_flows
    · exact State.modDelta_flows

theorem State.portDown_flows {site port : Nat} : s.Flows (s.portDown site port) :=
  have raised : ∀ {v : State} {code : FCode} {unit sub detail : Nat}, v.Flows (v.raise code unit sub detail) :=
    .of_changes (State.raise_changes (ps := [.log]) (by decide))
  ((State.commitRouter_flows.trans State.modDelta_flows).trans raised).trans (.foldl fun _ _ => State.sendCtl_flows.trans raised)

/-! What a change set leaves of the braids (01 R37; 10 R296, R310) -/

/-- The panel `t` has, of each braid, all but what its leaving service changes, and of one that has not left all but what flits change. -/
structure State.BraidsStay (g : Gaz) (s t : State) : Prop where
  steady : ∀ b, (t.brd b).steady = (s.brd b).steady
  core : ∀ b, (g.braid b).status = 0 → (t.brd b).core = (s.brd b).core

theorem State.BraidsStay.trans {g : Gaz} (a : State.BraidsStay g s t) (h : State.BraidsStay g t u) : State.BraidsStay g s u :=
  ⟨fun b => (h.steady b).trans (a.steady b), fun b hb => (h.core b hb).trans (a.core b hb)⟩

theorem State.BraidsStay.of_changes {g : Gaz} (h : ChangesOnly ps s t) (hl : .lev ∉ ps := by decide) : State.BraidsStay g s t :=
  ⟨fun _ => congrArg LevBraid.steady (h.brd_eq hl), fun _ _ => congrArg LevBraid.core (h.brd_eq hl)⟩

theorem State.Flows.stay {g : Gaz} (a : s.Flows t) : State.BraidsStay g s t :=
  ⟨fun b => LevBraid.steady_of_core (a.cores b), fun b _ => a.cores b⟩

theorem Levee.braid_modBraid (l : Levee) (b c : Nat) (f : LevBraid → LevBraid) :
    (l.modBraid b f).braid c = if c = b then f (l.braid b) else l.braid c := Tbl.get_set ..

/-- Of braids changed one after the other, one that is not among them stays, and a value that no change alters stays. -/
theorem Levee.braid_modBraids {α : Type} {f : Nat → LevBraid → LevBraid} {k : LevBraid → α} : ∀ (bs : List Nat) (l : Levee),
    c ∉ bs ∨ (∀ b x, k (f b x) = k x) → k ((bs.foldl (fun l b => l.modBraid b (f b)) l).braid c) = k (l.braid c)
  | [], _, _ => rfl
  | b :: bs, l, h => by
    rw [List.foldl_cons, Levee.braid_modBraids bs _ (h.imp (fun h => fun hm => h (List.mem_cons_of_mem _ hm)) id), Levee.braid_modBraid]
    split
    · next hc =>
      subst hc
      exact h.elim (fun h => absurd List.mem_cons_self h) fun h => h ..
    · rfl

theorem State.modLev_flows {f : Levee → Levee} (h : (f s.lev).braids = s.lev.braids) : s.Flows (s.modLev f) :=
  .of_braids h State.modLev_gaz

theorem State.setTurns_flows {site port : Nat} : s.Flows (s.setTurns site port) := State.modLev_flows State.setTurns_braids

theorem State.setLists_flows {site port : Nat} : s.Flows (s.setLists site port) := by
  unfold State.setLists
  exact State.setTurns_flows.trans (State.modLev_flows rfl)

/-- R296, R310: the braids that leave service go down or retire, the others stay. -/
theorem State.braidsFollow_stay (g0 : Gaz) : State.BraidsStay s.gaz s (s.braidsFollow g0) := by
  unfold State.braidsFollow
  extract_lets gone s1
  have hgone : ∀ b, (s.gaz.braid b).status = 0 → b ∉ gone := fun b hb hm => by simp [gone, hb] at hm
  have h1 : State.BraidsStay s.gaz s s1 := by
    clear_value gone
    exact ⟨fun b => Levee.braid_modBraids (k := LevBraid.steady) gone s.lev (.inr fun _ _ => rfl),
      fun b hb => Levee.braid_modBraids (k := LevBraid.core) gone s.lev (.inl (hgone b hb))⟩
  exact h1.trans (State.Flows.stay (.foldl fun _ _ => State.setLists_flows.trans State.modDelta_flows))

theorem State.unitsFollow_stay {g : Gaz} (g0 : Gaz) (hg : s.gaz = g) : State.BraidsStay g s (s.unitsFollow g0) := by
  subst hg
  have larre : ∀ (s : State) (f : Larre → Larre), s.Flows (s.modLarre f) := fun s f =>
    .of_changes (State.modLarre_changes (ps := [.larre]) (by decide))
  have asks : ∀ (s : State) (n : Nat), s.Flows (s.askVote n) := fun s n => .of_changes State.askVote_changes
  unfold State.unitsFollow
  extract_lets g offs s1 pts s2 engs s3 s4 s5 stks s6 mirrored s7 gone policy s8 s9 s10 outOf
  have h1 : s.Flows s1 := .foldl fun _ _ =>
    .of_changes (ps := [.clusters, .pwr, .delta]) (((State.setCl_changes (by decide)).trans (State.modPwr_changes (by decide))).trans
      (State.modDelta_changes (by decide)))
  have h2 : s1.Flows s2 := .foldl fun _ _ => State.portDown_flows
  have h3 : s2.Flows s3 := .foldl fun _ _ => larre _ _
  have h4 : s3.Flows s4 := .foldl fun _ _ => larre _ _
  have h5 : s4.Flows s5 := .foldl fun _ _ => .ite (fun _ => larre _ _) fun _ => .refl _
  have h6 : s5.Flows s6 := .foldl fun _ _ => .of_changes (State.modStk_changes (ps := [.hbm]) (by decide))
  have h7 : s6.Flows s7 := .ite (fun _ => asks _ _) fun _ => .refl _
  have h8 : s7.Flows s8 := .ite (fun _ => asks _ _) fun _ => .refl _
  have h18 : s.Flows s8 := ((((((h1.trans h2).trans h3).trans h4).trans h5).trans h6).trans h7).trans h8
  have h9 : State.BraidsStay s.gaz s8 s9 := h18.gaz ▸ State.braidsFollow_stay g0
  have h10 : s9.Flows s10 := .ite (fun _ => State.modDelta_flows) fun _ => .refl _
  refine (h18.stay.trans h9).trans (h10.trans (.ite (fun _ => ?_) fun _ => .refl _)).stay
  exact .of_changes (State.modDiag_changes (ps := [.diag]) (by decide))

theorem Gaz.FaultsCounted.braid {g h : Gaz} (a : g.FaultsCounted h) (b : Nat) : h.braid b = g.braid b := by
  obtain ⟨⟨_, rfl⟩, -⟩ := a
  rfl

theorem State.raiseAs_changes {src unit sub detail : Nat} {code : FCode} :
    ChangesOnly [.log, .gaz] s (s.raiseAs src code unit sub detail) := by
  intro p hp
  cases p <;> simp_all [Part.same, State.raiseAs]

/-- R34, R37: after a change set each braid is as it was but for what its leaving changes, one in service but for what flits change. -/
theorem State.applyGaz_stay (s : State) (f : Gaz → Gaz) : State.BraidsStay (s.applyGaz f).gaz s (s.applyGaz f) := by
  have hg : ∀ b, (s.applyGaz f).gaz.braid b = (s.changeSet f).braid b := (s.applyGaz_gaz f).braid
  suffices h : State.BraidsStay (s.changeSet f) s (s.applyGaz f) from ⟨h.steady, fun b hb => h.core b (hg b ▸ hb)⟩
  unfold State.changeSet State.applyGaz
  extract_lets g0 g1 active g2 owed s0 news g s1 s2 newFlags s3
  have h0 : ChangesOnly [.fw, .out, .gaz, .log] s (({ s0 with gaz := g } : State).modLog fun l => { l with imgGen := l.imgGen + 1 }) := by
    have hs0 : ChangesOnly [.fw, .out, .gaz, .log] s s0 := .ite (fun _ => .refl _ _) fun _ => State.takeover_changes.mono (by decide)
    have hs1 : ChangesOnly [.fw, .out, .gaz, .log] s0 (s0.modGaz fun _ => g) := State.modGaz_changes (by decide)
    exact (hs0.trans hs1).trans (State.modLog_changes (by decide))
  have h1 : State.BraidsStay g s s1 := (State.BraidsStay.of_changes h0).trans (State.unitsFollow_stay g0 rfl)
  have h2 : ChangesOnly [.log, .gaz] s1 s2 := .foldl fun _ _ => State.raiseAs_changes
  have h3 : ChangesOnly [.log, .gaz] s2 s3 := .foldl fun _ _ => State.raiseAs_changes
  have h4 : ChangesOnly [.boot, .out] s3 ((s3.notifyAll 0x8001 0x3001).relevel) :=
    ChangesOnly.trans (State.emits_changes (by decide)) State.relevel_changes
  exact ((h1.trans (.of_changes h2)).trans (.of_changes h3)).trans (.of_changes h4)

end Sys2Proof.Machine
end

section
/-!
PROOFS. Braids trained at a start, given their roles, trained anew and looped back (10 R298, R300, R302, R303, R308).
-/
namespace Sys2Proof.Machine

variable {s t : State} {b : BraidId} {hi fullRate : Bool} {x y : LevBraid} {tests : List LaneTest}

/-! The first training (R300) -/

theorem braidTraining_idle {identOk : Bool} (h : s.boot.part ≠ 2 ∨ (s.gaz.braid b).status ≠ 0 ∨ (s.brd b).a.state ≠ 0 ∨ s.levReady = false) :
    exec (.braidTraining b identOk ⟨fullRate, tests⟩) s = .next s :=
  congrArg Host.Outcome.next (if_pos (by simpa using h))

theorem braidTraining_trains {identOk : Bool} (hp : s.boot.part = 2) (hs : (s.gaz.braid b).status = 0) (h0 : (s.brd b).a.state = 0)
    (hr : s.levReady = true) :
    exec (.braidTraining b identOk ⟨fullRate, tests⟩) s = .next (s.trainBraid 1 b identOk fullRate tests) :=
  congrArg Host.Outcome.next (if_neg (by simp [hp, hs, h0, hr]))

/-- R300 step 2: both ends in training, each having found the IDENT of the other good. -/
def State.identified (s : State) (b : Nat) : State :=
  ((s.modBrd b fun x => x.both fun e => { e with state := 1, sbslow := true }).sendIdents b).modBrd b fun x =>
    x.both fun e => { e with identOk := true }

theorem State.identified_brd : (s.identified b).brd b = (s.brd b).both fun e => { e with state := 1, sbslow := true, identOk := true } := by
  rw [State.identified, State.brd_modBrd]
  exact congrArg (fun x : LevBraid => x.both fun e => { e with identOk := true }) State.brd_modBrd

theorem State.identified_other {c : Nat} (h : c ≠ b) : (s.identified b).brd c = s.brd c :=
  (State.brd_modBrd_other h).trans (State.brd_modBrd_other h)

theorem State.identified_changes : ChangesOnly [.lev, .out] s (s.identified b) :=
  ((State.modBrd_changes (by decide)).trans ((State.side_changes (by decide)).trans (State.side_changes (by decide)))).trans
    (State.modBrd_changes (by decide))

/-- R300: the training of a braid whose lanes pass. -/
theorem State.trainBraid_of_pass {src : Nat} (h : (s.identified b).laneTest src b tests = (t, true)) :
    s.trainBraid src b true fullRate tests = t.braidReady b fullRate := by
  have htrain : s.trainBraid src b true fullRate tests = if ((s.identified b).laneTest src b tests).2 then
      ((s.identified b).laneTest src b tests).1.braidReady b fullRate else ((s.identified b).laneTest src b tests).1.braidDead src b := rfl
  rw [htrain, h]
  rfl

/-- R300, R302, R304: a braid whose lanes all pass. -/
theorem State.trainBraid_passes {src : Nat} (hp : LanesPass tests) (hx : x = { s.brd b with carry := (s.gaz.braid b).lanes })
    (hn : 64 ≤ x.healthyCount) (hne : x.idle ≠ []) : let u := s.trainBraid src b true fullRate tests; let y := u.brd b
      y.a.state = 1 ∧ y.b.state = 1 ∧ y.a.identOk = true ∧ y.b.identOk = true ∧ y.a.rxSeq = 0 ∧ y.b.rxSeq = 0 ∧ y.a.sbslow = !fullRate ∧
        y.half = false ∧ y.slane = x.idle.head? ∧ y.retired = x.retired ∧ y.carry = x.carry ∧
        (∀ b', b' ≠ b.val → u.brd b' = s.brd b') ∧ ChangesOnly [.lev, .out] s u := by
  intro u y
  have hx1 : ({ x with half := false } : LevBraid).both (fun e => { e with state := 1, sbslow := true, identOk := true }) =
      { (s.identified b).brd b with carry := ((s.identified b).gaz.braid b).lanes, half := false } := by
    rw [State.identified_brd, hx]
    rfl
  obtain ⟨t, ht, hr, hc, hch⟩ := State.training_passes (src := src) (fullRate := fullRate) hp hx1 hn hne
  have hu : u = t.braidReady b fullRate := State.trainBraid_of_pass ht
  rw [← hu] at hr hc hch
  have hends : ∀ hi, (y.endOf hi).state = 1 ∧ (y.endOf hi).identOk = true ∧ (y.endOf hi).rxSeq = 0 ∧ (y.endOf hi).sbslow = !fullRate := fun hi => by
    obtain ⟨ms, low, d, he⟩ := hr.ends hi
    rw [he, LevBraid.endOf_both]
    exact ⟨rfl, rfl, rfl, rfl⟩
  obtain ⟨hsa, hia, hqa, hslow⟩ := hends false
  obtain ⟨hsb, hib, hqb, -⟩ := hends true
  exact ⟨hsa, hsb, hia, hib, hqa, hqb, hslow, hr.half, hr.slane, hr.retired, hr.carry, fun c h => (hc c h).trans (State.identified_other h),
    State.identified_changes.trans hch⟩

/-! Roles and the first lists (R298, R300 step 9) -/

theorem roleAssignment_idle (h : s.boot.part ≠ 2 ∨ s.lev.ranged = true) : exec .roleAssignment s = .next s :=
  congrArg Host.Outcome.next (if_pos (h.imp_right .inl))

/-- R298: the braids in service. -/
def Gaz.liveBraids (g : Gaz) : List Nat := (List.range 3320).filter fun b => (g.braid b).status == 0

/-- R298: the panel with every role assigned. -/
def State.ranged (s : State) : State :=
  (s.modLev fun l => { l with ranged := true }).applyGaz fun g =>
    ((s.gaz.liveBraids.foldl (fun g b => g.recordLanes b (s.brd b)) g).assignRoles s.mcount (Nat.min 2 (s.obj 0x5100 0))).maskThin s.mcount

/-- R300 step 9: the braids that come up. -/
def State.trained (s : State) : List Nat := (List.range 3320).filter fun b => (s.gaz.braid b).status == 0 && (s.brd b).a.state == 1

theorem State.mem_trained {c : Nat} : c ∈ s.trained ↔ c < 3320 ∧ (s.gaz.braid c).status = 0 ∧ (s.brd c).a.state = 1 := by
  simp [State.trained]

theorem LevBraid.state_of_core (h : y.core = x.core) : y.a.state = x.a.state := by
  have h' := congrArg (fun z : LevBraid => z.a.state) h
  exact h'

/-- R300 step 9: both ends of a braid up and in their lists. -/
def LevBraid.up (x : LevBraid) : LevBraid := x.both fun e => { e with state := 2, inlist := true }

theorem LevBraid.up_of_core (h : y.core = x.up.core) : y.a.state = 2 ∧ y.b.state = 2 ∧ y.a.inlist = true ∧ y.b.inlist = true :=
  ⟨congrArg (fun z : LevBraid => z.a.state) h, congrArg (fun z : LevBraid => z.b.state) h, congrArg (fun z : LevBraid => z.a.inlist) h,
    congrArg (fun z : LevBraid => z.b.inlist) h⟩

/-- R300 step 9: the panel with its trained braids up. -/
def State.risen (s : State) : State := s.trained.foldl (fun s b => s.modBrd b LevBraid.up) s

/-- R300 step 9: the ports offered, and their lists built. -/
def State.offered (s : State) : State :=
  (List.range 192).foldl (fun s x => outerPorts.foldl (fun s p => s.setLists x p) s) s.portsFollow

theorem roleAssignment_ranges (hp : s.boot.part = 2) (hr : s.lev.ranged = false)
    (h : ∀ b, b < 3320 → (s.gaz.braid b).status = 0 → (s.brd b).a.state ≠ 0) : exec .roleAssignment s =
      .next (s.ranged.trained.foldl (fun s b => (s.watchLow b false).watchLow b true) s.ranged.risen.offered) := by
  have hany : s.gaz.liveBraids.any (fun b => (s.brd b).a.state == 0) = false := by
    rw [List.any_eq_false]
    intro b hb
    obtain ⟨hlt, hlive⟩ := List.mem_filter.1 hb
    simpa using h b (List.mem_range.1 hlt) (by simpa using hlive)
  have hno : ¬ (s.boot.part ≠ 2 ∨ s.lev.ranged = true ∨ s.gaz.liveBraids.any (fun b => (s.brd b).a.state == 0) = true) := by
    simp [hp, hr, hany]
  exact congrArg Host.Outcome.next (if_neg hno)

/-- R305: where no margin is low no watcher asks. -/
theorem State.watchLow_quiet {c : Nat} (h : (s.levEnd c hi).mlow = false) : s.watchLow c hi = s := by
  have h' : ((s.brd c).endOf hi).mlow = false := h
  simp [State.watchLow, h']

theorem State.watchLows_quiet (bs : List Nat) (h : ∀ b hi, (s.levEnd b hi).mlow = false) :
    bs.foldl (fun s b => (s.watchLow b false).watchLow b true) s = s :=
  List.foldlRecOn (motive := fun t : State => t = s) bs _ rfl fun t ht b _ => by
    subst ht
    rw [State.watchLow_quiet (h b false), State.watchLow_quiet (h b true)]

theorem State.offered_flows : s.Flows s.offered :=
  State.Flows.trans (.of_changes State.portsFollow_changes) (.foldl fun _ _ => .foldl fun _ _ => State.setLists_flows)

theorem State.brd_modBrds {f : LevBraid → LevBraid} {c : Nat} : ∀ (l : List Nat) (s : State), l.Nodup →
    (l.foldl (fun s b => s.modBrd b f) s).brd c = if c ∈ l then f (s.brd c) else s.brd c
  | [], _, _ => by simp
  | b :: l, s, h => by
    obtain ⟨hb, h⟩ := List.nodup_cons.1 h
    rw [List.foldl_cons, State.brd_modBrds l _ h]
    by_cases hc : c = b
    · subst hc; simp [hb]
    · simp [hc, State.brd_modBrd_other hc]

theorem State.risen_brd (c : Nat) : s.risen.brd c = if c ∈ s.trained then (s.brd c).up else s.brd c :=
  State.brd_modBrds _ _ (List.nodup_range.filter _)

theorem State.risen_gaz : s.risen.gaz = s.gaz := List.foldlRecOn (motive := fun t : State => t.gaz = s.gaz) _ _ rfl fun _ ht _ _ => ht

theorem State.risen_mlow (c : Nat) (hi : Bool) : (s.risen.levEnd c hi).mlow = (s.levEnd c hi).mlow := by
  rw [State.levEnd, State.risen_brd]
  split
  · rw [LevBraid.up, LevBraid.endOf_both]; rfl
  · rfl

/-- What leaves a braid steady leaves MLOW of its ends. -/
theorem LevBraid.mlow_of_steady (h : y.steady = x.steady) : (y.endOf hi).mlow = (x.endOf hi).mlow := by
  have h' := congrArg (fun z : LevBraid => (z.endOf hi).mlow) h
  cases hi <;> exact h'

theorem State.BraidsStay.mlow {g : Gaz} (a : State.BraidsStay g s t) (c : Nat) (hi : Bool) : (t.levEnd c hi).mlow = (s.levEnd c hi).mlow :=
  LevBraid.mlow_of_steady (a.steady c)

theorem State.ranged_stay : State.BraidsStay s.ranged.gaz s s.ranged :=
  State.BraidsStay.trans (State.modLev_flows rfl).stay (State.applyGaz_stay _ _)

/-- R298, R300 step 9: at the assignment of roles the trained braids that stay in service come up in their lists. -/
theorem roleAssignment_offers (hp : s.boot.part = 2) (hr : s.lev.ranged = false) (hm : ∀ b hi, (s.levEnd b hi).mlow = false)
    (h : ∀ b, b < 3320 → (s.gaz.braid b).status = 0 → (s.brd b).a.state ≠ 0) :
    Completes .roleAssignment s fun u => ∀ b, b < 3320 → (u.gaz.braid b).status = 0 → (s.brd b).a.state = 1 →
      (u.brd b).a.state = 2 ∧ (u.brd b).b.state = 2 ∧ (u.brd b).a.inlist = true ∧ (u.brd b).b.inlist = true := by
  have hoffered := State.offered_flows (s := s.ranged.risen)
  have hlow : ∀ b hi, (s.ranged.risen.offered.levEnd b hi).mlow = false := fun b hi => by
    rw [(hoffered.stay (g := s.gaz)).mlow, State.risen_mlow, State.ranged_stay.mlow, hm]
  refine ⟨_, (roleAssignment_ranges hp hr h).trans (congrArg Host.Outcome.next (State.watchLows_quiet _ hlow)), fun b hb hs h1 => ?_⟩
  rw [hoffered.gaz, State.risen_gaz] at hs
  have hin : b ∈ s.ranged.trained := State.mem_trained.2 ⟨hb, hs, (LevBraid.state_of_core (State.ranged_stay.core b hs)).trans h1⟩
  have hup : (s.ranged.risen.offered.brd b).core = (s.ranged.brd b).up.core := by rw [hoffered.cores, State.risen_brd, if_pos hin]
  exact LevBraid.up_of_core hup

/-! A braid trained anew (R303) -/

theorem leveeIdent_good {unit number gen : Half} (hs : (s.gaz.braid b).status = 0) (hu : unit.toNat = endUnit b (!hi))
    (hn : number.toNat = b.val) (hg : gen.toNat = s.lmcGen % 65536) :
    exec (.leveeIdent b hi unit ⟨number, gen⟩) s = .next (s.withEnd b hi fun e => { e with identOk := true }) :=
  congrArg Host.Outcome.next ((if_neg (not_not.2 hs)).trans (if_pos ⟨hu, hn, hg⟩))

/-- R43: what the record takes of a braid: its lane map, survey lane and width. -/
theorem Gaz.recordLanes_congr {g : Gaz} {b : Nat} (hc : y.carry = x.carry) (hs : y.slane = x.slane) (hh : y.half = x.half)
    (hb : y.svyblk = x.svyblk) : g.recordLanes b y = g.recordLanes b x := by
  simp only [Gaz.recordLanes, hc, hs, hh, hb]

theorem State.noteLanes_known {b : Nat} (h : s.gaz.recordLanes b (s.brd b) = s.gaz) : s.noteLanes b = s := if_pos h

/-- R303 step 6: the entry into the record leaves of each braid all but what its leaving service changes. -/
theorem State.noteLanes_steady {b : Nat} (c : Nat) : ((s.noteLanes b).brd c).steady = (s.brd c).steady := by
  unfold State.noteLanes
  split
  · rfl
  · exact (State.applyGaz_stay _ _).steady c

/-- R312: what an end holds of its loopback: under way, done, passed, the errors counted. -/
def LevEnd.loopback (e : LevEnd) : Bool × Bool × Bool × Nat := (e.lbGo, e.lbDone, e.lbPass, e.lbErrs)

theorem LevEnd.of_steady {e e' : LevEnd} (h : e.steady = e'.steady) : e.sbslow = e'.sbslow ∧ e.rxSeq = e'.rxSeq ∧ e.loopback = e'.loopback := by
  have hsbslow := congrArg LevEnd.sbslow h
  have hrxSeq := congrArg LevEnd.rxSeq h
  have hloopback := congrArg LevEnd.loopback h
  exact ⟨hsbslow, hrxSeq, hloopback⟩

theorem LevBraid.of_steady (h : y.steady = x.steady) : (∀ hi, (y.endOf hi).steady = (x.endOf hi).steady) ∧ y.slane = x.slane := by
  have ha := congrArg LevBraid.a h
  have hb := congrArg LevBraid.b h
  have hslane := congrArg LevBraid.slane h
  exact ⟨fun hi => by cases hi <;> assumption, hslane⟩

/-- R303 steps 4 to 8: the lanes tested, the braid ready, its lanes noted, its lists rejoined, RT_DONE sent. -/
theorem State.finishRetrain_of_pass {t : State} (h : s.laneTest 2 b tests = (t, true)) : s.finishRetrain b fullRate tests =
    (((t.braidReady b fullRate).noteLanes b).turnChange b true).side b false 0x08 (fld 71 1) := by
  rw [State.finishRetrain, h]
  rfl

/-- R303 steps 4 to 8: a braid whose lanes all pass rejoins its lists; where its record knows its lanes already, nothing else changes. -/
theorem State.finishRetrain_passes (hp : LanesPass tests) (hx : x = { s.brd b with carry := (s.gaz.braid b).lanes, half := false })
    (hn : 64 ≤ x.healthyCount) (hne : x.idle ≠ []) : let u := s.finishRetrain b fullRate tests
    (∀ hi, (u.levEnd b hi).inlist = true ∧ (u.levEnd b hi).sbslow = !fullRate ∧ (u.levEnd b hi).rxSeq = 0 ∧
      (u.levEnd b hi).loopback = (s.levEnd b hi).loopback) ∧ (u.brd b).slane = x.idle.head? ∧
    u.out.head? = some (.sideband (endUnit b false) b 0x08 (sideFrame 0x08 (fld 71 1))) ∧
    (s.gaz.recordLanes b { x with slane := x.idle.head?, svyblk := false } = s.gaz →
      (∀ hi, (u.levEnd b hi).state = (s.levEnd b hi).state) ∧ (∀ c, c ≠ b.val → u.brd c = s.brd c) ∧ ChangesOnly [.lev, .delta, .out] s u) := by
  obtain ⟨t, ht, hr, hc, hch⟩ := State.training_passes (src := 2) (fullRate := fullRate) hp hx hn hne
  rw [State.finishRetrain_of_pass ht]
  generalize t.braidReady b fullRate = r at hr hc hch
  intro u
  have hend : ∀ hi, u.levEnd b hi = { (r.noteLanes b).levEnd b hi with inlist := true } := fun hi =>
    State.levEnd_side.trans State.turnChange_levEnd
  have hxs : ∀ hi, x.endOf hi = s.levEnd b hi := fun hi => by subst hx; cases hi <;> rfl
  obtain ⟨hsteady, hslane⟩ := LevBraid.of_steady (State.noteLanes_steady (s := r) (b := b) b)
  refine ⟨fun hi => ?_, ?_, rfl, fun known => ?_⟩
  · obtain ⟨ms, low, d, he⟩ := hr.ends hi
    obtain ⟨hsbslow, hrxSeq, hloopback⟩ := LevEnd.of_steady (hsteady hi)
    rw [he, hxs] at hsbslow hrxSeq hloopback
    rw [hend]
    exact ⟨rfl, hsbslow, hrxSeq, hloopback⟩
  · have hu : (u.brd b).slane = ((r.noteLanes b).brd b).slane := by
      rw [State.brd_side, State.turnChange_brd, State.brd_modBrd]
      rfl
    rw [hu, hslane, hr.slane]
  · have hrec : r.gaz.recordLanes b (r.brd b) = r.gaz := by
      have hg : r.gaz = s.gaz := hch .gaz (by decide)
      rw [hg, Gaz.recordLanes_congr (x := { x with slane := x.idle.head?, svyblk := false }) hr.carry hr.slane hr.half hr.svyblk, known]
    have hnote := State.noteLanes_known hrec
    refine ⟨fun hi => ?_, fun c h => ?_, ?_⟩
    · obtain ⟨ms, low, d, he⟩ := hr.ends hi
      rw [hend, hnote, State.levEnd, he, hxs]
    · rw [State.brd_side, State.turnChange_other h, hnote, hc c h]
    · have hlists : ChangesOnly [.lev, .delta, .out] (r.noteLanes b) u := State.turnChange_changes.trans (State.side_changes (by decide))
      rw [hnote] at hlists
      exact (hch.mono (by decide)).trans hlists

theorem braidRetrainComplete_idle (h : ((s.brd b).a.state ≠ 3 ∧ (s.brd b).a.state ≠ 4) ∨ s.withdrawn b = false) :
    exec (.braidRetrainComplete b ⟨fullRate, tests⟩) s = .next s := by
  refine congrArg Host.Outcome.next (if_neg ?_)
  rcases h with ⟨h3, h4⟩ | h
  · exact fun h => h.1.elim h3 h4
  · simp [h]

theorem braidRetrainComplete_finishes (hs : (s.brd b).a.state = 3 ∨ (s.brd b).a.state = 4) (hw : s.withdrawn b = true) :
    exec (.braidRetrainComplete b ⟨fullRate, tests⟩) s = .next (s.finishRetrain b fullRate tests) :=
  congrArg Host.Outcome.next (if_pos ⟨hs, hw⟩)

/-! The end of a loopback (R308) -/

theorem leveeLoopbackEnd_idle {errors : Word32} (hg : (s.levEnd b hi).lbGo = false) :
    exec (.leveeLoopbackEnd b hi errors ⟨fullRate, tests⟩) s = .next s := by
  have hg' : ((s.brd b).endOf hi).lbGo = false := hg
  exact congrArg Host.Outcome.next (if_pos (by simp [hg']))

/-- R308, R312: the result of a loopback. -/
def LevEnd.looped (errors : Word32) (e : LevEnd) : LevEnd :=
  { e with lbGo := false, lbDone := true, lbPass := errors.toNat == 0, lbErrs := Nat.min (2 ^ 22 - 1) errors.toNat }

theorem leveeLoopbackEnd_finishes {errors : Word32} (hg : (s.levEnd b hi).lbGo = true) (h5 : (s.levEnd b hi).state = 5) (hw : s.withdrawn b = true) :
    exec (.leveeLoopbackEnd b hi errors ⟨fullRate, tests⟩) s = .next ((s.withEnd b hi (LevEnd.looped errors)).finishRetrain b fullRate tests) := by
  have hg' : ((s.brd b).endOf hi).lbGo = true := hg
  have h5' : ((s.brd b).endOf hi).state = 5 := h5
  exact congrArg Host.Outcome.next (if_neg (by simp [hg', h5', hw]))

theorem leveeLoopbackEnd_records {errors : Word32} (hp : LanesPass tests)
    (hx : x = { s.brd b with carry := (s.gaz.braid b).lanes, half := false }) (hn : 64 ≤ x.healthyCount) (hne : x.idle ≠ [])
    (hw : s.withdrawn b = true) (hg : (s.levEnd b hi).lbGo = true) (h5 : (s.levEnd b hi).state = 5) :
    Completes (.leveeLoopbackEnd b hi errors ⟨fullRate, tests⟩) s fun u => let y := u.levEnd b hi
      y.lbGo = false ∧ y.lbDone = true ∧ y.lbPass = decide (errors = 0) ∧ y.lbErrs = Nat.min (2 ^ 22 - 1) errors.toNat ∧ y.inlist = true ∧
      (s.gaz.recordLanes b { x with slane := x.idle.head?, svyblk := false } = s.gaz →
        (∀ b', b' ≠ b.val → u.brd b' = s.brd b') ∧ ChangesOnly [.lev, .delta, .out] s u) := by
  refine ⟨_, leveeLoopbackEnd_finishes hg h5 hw, ?_⟩
  have hx1 : x.modEnd hi (LevEnd.looped errors) =
      { (s.withEnd b hi (LevEnd.looped errors)).brd b with carry := (s.gaz.braid b).lanes, half := false } := by
    rw [State.withEnd, State.brd_modBrd]
    subst hx
    cases hi <;> rfl
  have hidle : (x.modEnd hi (LevEnd.looped errors)).idle = x.idle := by cases hi <;> rfl
  have hcount : (x.modEnd hi (LevEnd.looped errors)).healthyCount = x.healthyCount := by cases hi <;> rfl
  obtain ⟨hends, -, -, hknown⟩ := State.finishRetrain_passes (fullRate := fullRate) hp hx1 (hcount ▸ hn) (hidle ▸ hne)
  obtain ⟨hin, -, -, hloop⟩ := hends hi
  rw [State.levEnd_withEnd] at hloop
  simp only [LevEnd.loopback, LevEnd.looped, Prod.mk.injEq] at hloop
  obtain ⟨hgo, hdone, hpass, herrs⟩ := hloop
  refine ⟨hgo, hdone, hpass.trans ?_, herrs, hin, fun known => ?_⟩
  · exact Bool.eq_iff_iff.2 (by simp [BitVec.toNat_eq])
  · obtain ⟨-, hother, hch⟩ := hknown (by
      rw [hidle, Gaz.recordLanes_congr (x := { x with slane := x.idle.head?, svyblk := false })]
      · exact known
      · exact LevBraid.carry_modEnd
      · rfl
      · cases hi <;> rfl
      · rfl)
    exact ⟨fun c h => (hother c h).trans (State.brd_withEnd_other h), (State.withEnd_changes (by decide)).trans hch⟩

end Sys2Proof.Machine
end

section
/-!
PROOFS. The survey of a braid (10 R304, R306).
-/
namespace Sys2Proof.Machine

variable {s : State} {b : BraidId} {x : LevBraid} {d sl : Fin 68}

/-! The step (R306 step 1) -/

theorem surveyStep_idle (h : (s.brd b).a.svyen = false ∨ s.obj 0x5101 0 ≠ 1 ∨ s.mcount < (s.brd b).a.svyAt + 2 ^ (s.brd b).a.svyper * 1000000) :
    exec (.surveyStep b) s = .next s := by
  refine congrArg Host.Outcome.next (if_pos ?_)
  rcases h with h | h | h <;> simp [h]

/-- R306 step 1: the survey is due of a braid that is up, with a survey lane and no step under way. -/
theorem surveyStep_due {l : Nat} {wrap : Bool} (he : (s.brd b).a.svyen = true) (ho : s.obj 0x5101 0 = 1) (h2 : (s.brd b).a.state = 2)
    (h0 : (s.brd b).a.phase = 0) (hs : (s.brd b).slane = some sl.val) (hn : (s.brd b).nextData (s.brd b).a.dlane = some (l, wrap))
    (ht : (s.brd b).a.svyAt + 2 ^ (s.brd b).a.svyper * 1000000 ≤ s.mcount) : exec (.surveyStep b) s =
      .next ((s.modBrd b fun y => y.both fun e => { e with dlane := l, phase := 1, svyAt := s.mcount }).side b false 0x09
        (fld 65 l + fld 58 sl)) := by
  have hlate : ¬ s.mcount < (s.brd b).a.svyAt + 2 ^ (s.brd b).a.svyper * 1000000 := by omega
  simp only [exec_surveyStep, execSurveyStep, hn, hs]
  exact congrArg Host.Outcome.next (if_neg (by simp [he, ho, h2, h0, hlate]))

/-! The comparison and the move (R306 steps 1 to 3) -/

theorem svyShadow_shadows (h1 : (s.brd b).a.phase = 1) (hd : (s.brd b).a.dlane = d.val) (hs : (s.brd b).slane = some sl.val) :
    exec (.svyShadow b d sl) s = .next (s.withEnd b true fun e => { e with shadow := some (d.val, sl.val) }) :=
  congrArg Host.Outcome.next (if_pos ⟨h1, hd, hs⟩)

/-- R306 steps 2 and 3: a braid after the comparison of its survey lane `sl` with the lane `d`: where they agree the survey lane takes the data. -/
def LevBraid.compared (x : LevBraid) (d sl : Nat) (agree : Bool) : LevBraid :=
  let y : LevBraid := if agree then { x with carry := Tbl.set (Tbl.set x.carry sl (x.lane d)) d none, slane := none, cal := some d }
    else { x with cal := some sl }
  y.both fun e => { e with phase := 2, shadow := none }

/-- R306 steps 2 and 3: the comparison ends in the step that it belongs to; where the lanes agree, SVY_MOVE goes out. -/
theorem svyMove_of_phase {agree : Bool} (h1 : (s.brd b).a.phase = 1) (hd : (s.brd b).a.dlane = d.val) (hs : (s.brd b).slane = some sl.val) :
    exec (.svyMove b d sl agree) s = .next (
      let s1 := s.modBrd b fun x => x.compared d sl agree
      if agree then s1.side b true 0x0A (fld 65 d + fld 58 sl + fld 46 (Config.surveyFlit b (s.brd b).a.txSeq).toNat) else s1) := by
  have hcongr : (s.modBrd b fun x => x.compared d sl agree) = s.modBrd b fun _ => (s.brd b).compared d sl agree := State.modBrd_congr rfl
  rw [hcongr]
  exact congrArg Host.Outcome.next (if_neg (by simp [h1, hd, hs]))

theorem svyMove_agrees (h1 : (s.brd b).a.phase = 1) (hd : (s.brd b).a.dlane = d.val) (hs : (s.brd b).slane = some sl.val) :
    exec (.svyMove b d sl true) s = .next ((s.modBrd b fun x => ({ x with
      carry := Tbl.set (Tbl.set x.carry sl (x.lane d)) d none, slane := none, cal := some d.val }).both fun e =>
        { e with phase := 2, shadow := none }).side b true 0x0A (fld 65 d + fld 58 sl + fld 46 (Config.surveyFlit b (s.brd b).a.txSeq).toNat)) := by
  rw [svyMove_of_phase h1 hd hs, if_pos rfl]
  rfl

theorem svyMove_differs (h1 : (s.brd b).a.phase = 1) (hd : (s.brd b).a.dlane = d.val) (hs : (s.brd b).slane = some sl.val) :
    exec (.svyMove b d sl false) s = .next (s.modBrd b fun x => ({ x with cal := some sl.val }).both fun e =>
      { e with phase := 2, shadow := none }) := by
  rw [svyMove_of_phase h1 hd hs, if_neg Bool.false_ne_true]
  rfl

/-! The calibration (R306 step 4) -/

/-- R306 step 4: a braid whose idle lane `d` has passed: it is the survey lane. -/
def LevBraid.calibrated (x : LevBraid) (d margin mv : Nat) : LevBraid :=
  (({ x with cal := none, slane := some d }).both fun e =>
    { e with phase := 3, lastm := margin, margins := Tbl.set e.margins d (margin, mv) }).checkLow

theorem surveyCalibrationDone_passes {margin : Byte} {mv : Half} (hc : (s.brd b).cal = some d.val) (hm : 51 ≤ margin.toNat) (hv : 30 ≤ mv.toNat) :
    exec (.surveyCalibrationDone b 0 margin mv) s = .next (((s.modBrd b fun x => x.calibrated d margin.toNat mv.toNat).sideBoth b 0x0C
      (fld 65 d + fld 57 margin.toNat)).side b false 0x0B (fld 65 d + 2 ^ 64)) := by
  have hok : laneAccepted (0 : Word32).toNat margin.toNat mv.toNat = true := by simp [laneAccepted, hm, hv]
  simp only [exec_surveyCalibrationDone, execSurveyCalibrationDone, hc, hok, if_true, flg]
  rfl

theorem surveyCalibrationDone_returns {margin : Byte} {mv : Half} (hc : (s.brd b).cal = some d.val) (hm : 51 ≤ margin.toNat) (hv : 30 ≤ mv.toNat) :
    let x := s.brd b
    Completes (.surveyCalibrationDone b 0 margin mv) s fun u => let y := u.brd b
      y.cal = none ∧ y.slane = some d.val ∧ y.a.phase = 3 ∧ y.b.phase = 3 ∧ y.a.lastm = margin.toNat ∧ y.carry = x.carry ∧ y.retired = x.retired ∧
      u.out = .sideband (endUnit b false) b 0x0B (sideFrame 0x0B (fld 65 d + 2 ^ 64)) ::
        ((s.side b false 0x0C (fld 65 d + fld 57 margin.toNat)).side b true 0x0C (fld 65 d + fld 57 margin.toNat)).out ∧
      (∀ b', b' ≠ b.val → u.brd b' = s.brd b') ∧ ChangesOnly [.lev, .out] s u := by
  intro x
  refine ⟨_, surveyCalibrationDone_passes hc hm hv, ?_⟩
  simp only [State.sideBoth, State.brd_side, State.brd_modBrd]
  exact ⟨rfl, rfl, rfl, rfl, rfl, rfl, rfl, rfl, fun c h => State.brd_modBrd_other h,
    (State.modBrd_changes (by decide)).trans (((State.side_changes (by decide)).trans (State.side_changes (by decide))).trans
      (State.side_changes (by decide)))⟩

/-! The return (R306 steps 4 and 5) -/

/-- R306: the next data lane after a lane, or the first of all. -/
theorem LevBraid.nextData_lane (x : LevBraid) (d : Nat) : (x.nextData (d + 1)).map (fun n => n.1) =
    ((List.range 68).find? fun l => decide (d < l) && (x.lane l).isSome && x.healthy l).or
      ((List.range 68).find? fun l => (x.lane l).isSome && x.healthy l) := by
  have hafter : ((List.range 68).filter fun l => (x.lane l).isSome && x.healthy l).find? (fun l => decide (d + 1 ≤ l)) =
      (List.range 68).find? fun l => decide (d < l) && (x.lane l).isSome && x.healthy l := by
    rw [List.find?_filter]
    congr 1
    funext l
    rw [Bool.eq_iff_iff]
    simp only [decide_eq_true_eq, Bool.and_eq_true, Nat.add_one_le_iff]
    tauto
  rw [LevBraid.nextData]
  simp only [hafter, List.head?_filter]
  cases (List.range 68).find? fun l => decide (d < l) && (x.lane l).isSome && x.healthy l <;> simp [Function.comp_def]

/-- R306 step 5: the survey has wrapped where no data lane lies after the lane. -/
theorem LevBraid.nextData_wraps (x : LevBraid) (d : Nat) : (x.nextData (d + 1)).all (fun n => n.2) = true ↔
    ¬ ∃ l, l < 68 ∧ d < l ∧ (x.lane l).isSome ∧ x.healthy l = true := by
  rw [LevBraid.nextData]
  cases hf : ((List.range 68).filter fun l => (x.lane l).isSome && x.healthy l).find? (fun l => decide (d + 1 ≤ l)) with
  | some l =>
    have hmem := List.mem_of_find?_eq_some hf
    have hlt := List.find?_some hf
    simp only [List.mem_filter, List.mem_range, Bool.and_eq_true, decide_eq_true_eq] at hmem hlt
    obtain ⟨h68, hlane, hhealthy⟩ := hmem
    simp only [Option.all_some, Bool.false_eq_true, false_iff, not_not]
    exact ⟨l, h68, hlt, hlane, hhealthy⟩
  | none =>
    have hnone := List.find?_eq_none.1 hf
    simp only [Option.all_map]
    refine iff_of_true (by cases List.head? _ <;> rfl) ?_
    rintro ⟨l, h68, hlt, hlane, hhealthy⟩
    exact hnone l (List.mem_filter.2 ⟨List.mem_range.2 h68, by simp [hlane, hhealthy]⟩) (by simpa using hlt)

/-- R306 steps 4 and 5: a braid after SVY_RETURN. -/
def LevBraid.returned (x : LevBraid) (d : Nat) (pass : Bool) : LevBraid :=
  let next := x.nextData (x.a.dlane + 1)
  ({ x with slane := if pass && x.healthy d && (x.lane d).isNone then some d else x.slane }).both fun e =>
    { e with phase := 0, dlane := (next.map fun (n : Nat × Bool) => n.1).getD 0
             rotations := if next.all fun (n : Nat × Bool) => n.2 then (e.rotations + 1) % 2 ^ 32 else e.rotations }

theorem svyReturn_of_phase {pass : Bool} (h3 : (s.brd b).a.phase = 3) :
    exec (.svyReturn b d pass) s = .next (s.modBrd b fun x => x.returned d pass) := by
  refine congrArg Host.Outcome.next ((if_neg (not_not.2 h3)).trans (State.modBrd_congr ?_))
  rfl

theorem svyReturn_ends {pass : Bool} (h3 : (s.brd b).a.phase = 3) : let x := s.brd b
    Completes (.svyReturn b d pass) s fun u => let y := u.brd b
      y.a.phase = 0 ∧ y.b.phase = 0 ∧ y.carry = x.carry ∧
      (pass = true → d.val ∉ x.retired → x.lane d = none → y.slane = some d.val) ∧ (pass = false → y.slane = x.slane) ∧
      (y.a.dlane = (((List.range 68).find? fun l => decide (x.a.dlane < l) && (x.lane l).isSome && x.healthy l).or
        ((List.range 68).find? fun l => (x.lane l).isSome && x.healthy l)).getD 0) ∧
      (y.a.rotations = if ∃ l, l < 68 ∧ x.a.dlane < l ∧ (x.lane l).isSome ∧ x.healthy l = true then x.a.rotations else (x.a.rotations + 1) % 2 ^ 32) ∧
      (∀ b', b' ≠ b.val → u.brd b' = s.brd b') ∧ ChangesOnly [.lev] s u := by
  intro x
  refine ⟨_, svyReturn_of_phase h3, ?_⟩
  simp only [State.brd_modBrd]
  refine ⟨rfl, rfl, rfl, fun hp hr hl => ?_, fun hp => ?_, ?_, ?_, fun c h => State.brd_modBrd_other h, State.modBrd_changes (by decide)⟩
  · have hlane : (s.brd b).lane d = none := hl
    have hhealthy : (s.brd b).healthy d = true := by simpa [LevBraid.healthy] using hr
    exact if_pos (by simp [hp, hhealthy, hlane])
  · exact if_neg (by simp [hp])
  · exact congrArg (fun o : Option Nat => o.getD 0) (LevBraid.nextData_lane _ _)
  · have hwraps := LevBraid.nextData_wraps x x.a.dlane
    change (if (x.nextData (x.a.dlane + 1)).all (fun n => n.2) = true then (x.a.rotations + 1) % 2 ^ 32 else x.a.rotations) = _
    by_cases h : ∃ l, l < 68 ∧ x.a.dlane < l ∧ (x.lane l).isSome ∧ x.healthy l = true
    · rw [if_pos h, if_neg fun hw => hwraps.1 hw h]
    · rw [if_neg h, if_pos (hwraps.2 h)]

/-- Settles O31, command by command: a training that every lane passes (R300, R303, R308), the assignment of roles (R298), and the steps of the
survey (R306). -/
theorem braidsTrainAndSurvey : Obligations.BraidsTrainAndSurvey := by
  unfold Obligations.BraidsTrainAndSurvey
  refine ⟨fun b identOk fullRate tests s x hx => ?_, fun s => ⟨roleAssignment_idle, roleAssignment_offers⟩,
    fun b hi fullRate unit number gen tests errors s x hx => ?_, fun b d sl l wrap agree pass margin mv s => ?_⟩
  · have hstate : x.a.state = (s.brd b).a.state := by rw [hx]
    rw [hstate]
    exact ⟨braidTraining_idle, fun hp hs h0 hr hpass hn hne => ⟨_, braidTraining_trains hp hs h0 hr, State.trainBraid_passes hpass hx hn hne⟩⟩
  · have hstate : x.a.state = (s.brd b).a.state := by rw [hx]
    intro e known
    refine ⟨leveeIdent_good, hstate ▸ braidRetrainComplete_idle, fun hp hn hne hw => ⟨fun hs => ?_, fun hg h5 =>
      leveeLoopbackEnd_records hp hx hn hne hw hg h5⟩, leveeLoopbackEnd_idle⟩
    obtain ⟨hends, hslane, hout, hknown⟩ := State.finishRetrain_passes (fullRate := fullRate) hp hx hn hne
    obtain ⟨ha, hslow, hseqa, -⟩ := hends false
    obtain ⟨hb, -, hseqb, -⟩ := hends true
    refine ⟨_, braidRetrainComplete_finishes (hstate ▸ hs) hw, ha, hb, hslow, hseqa, hseqb, hslane, hout, fun c h hk => (hknown hk).2.1 c h,
      fun hk => ?_⟩
    obtain ⟨hstates, -, hch⟩ := hknown hk
    exact ⟨(hstates false).trans hstate.symm, hch⟩
  · exact ⟨surveyStep_due, surveyStep_idle, fun h1 hd hs => ⟨svyShadow_shadows h1 hd hs, svyMove_agrees h1 hd hs, svyMove_differs h1 hd hs⟩,
      surveyCalibrationDone_returns, svyReturn_ends⟩

end Sys2Proof.Machine
end

section
/-!
SUPPORT. The ports of the Larre fabric: what a change of one port does, and what a port that sends leaves as it is (12 R347 to R355).
-/
namespace Sys2Proof.Machine

variable {s t u : State} {n p : Nat} {f g : LPort → LPort} {ps : List Part}

/-! One port changed -/

@[simp] theorem State.modLport_lport : (s.modLport n p f).lport n p = f (s.lport n p) := by
  simp [State.lport, State.modLport, Larre.port, Larre.modPort, Larre.engine, Larre.modEngine, Engine.port, Engine.modPort]

theorem State.modLport_lport_ne {m q : Nat} (h : (m, q) ≠ (n, p)) : (s.modLport n p f).lport m q = s.lport m q := by
  simp only [State.lport, State.modLport, Larre.port, Larre.modPort, Larre.engine, Larre.modEngine, Engine.port, Engine.modPort, State.modLarre_larre]
  by_cases hm : m = n
  · subst hm
    have hq : q ≠ p := fun e => h (by rw [e])
    rw [Tbl.get_mod_same, Tbl.get_mod_other _ _ _ hq]
  · rw [Tbl.get_mod_other _ _ _ hm]

theorem State.modLport_modLport : (s.modLport n p f).modLport n p g = s.modLport n p fun d => g (f d) := by
  simp [State.modLport, State.modLarre, Larre.modPort, Larre.modEngine, Engine.modPort, Tbl.mod_mod]

theorem State.modLport_congr (h : f (s.lport n p) = g (s.lport n p)) : s.modLport n p f = s.modLport n p g := by
  have hmod : Tbl.mod {} (s.larre.engine n).ports p f = Tbl.mod {} (s.larre.engine n).ports p g := congrArg (Tbl.set _ p) h
  have heng : (s.larre.engine n).modPort p f = (s.larre.engine n).modPort p g := congrArg (fun t => { s.larre.engine n with ports := t }) hmod
  exact congrArg (fun e => s.modLarre fun l => { l with engines := Tbl.set l.engines n e }) heng

theorem State.modLport_changes (h : .larre ∈ ps) : ChangesOnly ps s (s.modLport n p f) := State.modLarre_changes h

/-- A change of a port leaves the role of every engine. -/
theorem State.modLport_role {m : Nat} : ((s.modLport n p f).larre.engine m).role = (s.larre.engine m).role := by
  simp only [State.modLport, Larre.modPort, Larre.engine, Larre.modEngine, Engine.modPort, State.modLarre_larre]
  by_cases hm : m = n
  · rw [hm, Tbl.get_mod_same]
  · rw [Tbl.get_mod_other _ _ _ hm]

theorem State.modLport_frameMsg : (s.modLport n p f).frameMsg = s.frameMsg := by
  funext m q x
  rw [State.frameMsg, State.modLport_role]
  rfl

/-! Frames on their way (R353, R355) -/

/-- A port with nothing queued sends nothing. -/
theorem State.pumpLarre_idle (h : (f (s.lport n p)).queue = []) : (s.modLport n p f).pumpLarre n p = s.modLport n p f := by
  have hkept : ((s.modLport n p f).modLport n p fun _ => f (s.lport n p)) = s.modLport n p f := by
    rw [State.modLport_modLport]
    exact State.modLport_congr rfl
  simp only [State.pumpLarre, State.modLport_lport, h, List.length_nil, LPort.pump, hkept]
  exact ite_self _

/-- The panel `t` is the panel `s` after ports of the Larre fabric sent frames: the counts of bytes sent end to end, the packets that egress
engines hold and the READs outstanding are as they were. -/
structure State.LarreSends (s t : State) : Prop where
  only : ChangesOnly [.larre, .out] s t
  e2eSent : t.larre.e2eSent = s.larre.e2eSent
  egress : t.larre.egress = s.larre.egress
  reads : t.larre.reads = s.larre.reads

theorem State.LarreSends.refl (s : State) : s.LarreSends s := ⟨.refl _ s, rfl, rfl, rfl⟩

theorem State.LarreSends.trans (a : s.LarreSends t) (b : t.LarreSends u) : s.LarreSends u :=
  ⟨a.only.trans b.only, b.e2eSent.trans a.e2eSent, b.egress.trans a.egress, b.reads.trans a.reads⟩

theorem State.modLport_larreSends : s.LarreSends (s.modLport n p f) := ⟨State.modLport_changes (by decide), rfl, rfl, rfl⟩

theorem State.sentFrames_larreSends {fs : List Frame} : s.LarreSends (s.sentFrames n p fs) := by
  unfold State.sentFrames
  split
  · exact .refl s
  · exact State.modLport_larreSends.trans ⟨State.emits_changes (by decide), rfl, rfl, rfl⟩

theorem State.pumpLarre_larreSends : s.LarreSends (s.pumpLarre n p) := by
  unfold State.pumpLarre
  dsimp only
  split
  · exact .refl s
  · exact State.modLport_larreSends.trans State.sentFrames_larreSends

theorem State.toFabric_larreSends {x : Frame} (h : s.toFabric x = some t) : s.LarreSends t := by
  obtain ⟨-, -, rfl⟩ := Option.map_eq_some_iff.1 h
  exact State.modLport_larreSends.trans State.pumpLarre_larreSends

theorem Larre.switch_books (l : Larre) : l.switch.e2eSent = l.e2eSent ∧ l.switch.egress = l.egress ∧ l.switch.reads = l.reads := by
  have hset (e : Bool) (x : Tbl Byte) : (l.setTab e x).e2eSent = l.e2eSent ∧ (l.setTab e x).egress = l.egress ∧ (l.setTab e x).reads = l.reads := by
    cases e <;> exact ⟨rfl, rfl, rfl⟩
  unfold Larre.switch
  split
  · exact ⟨rfl, rfl, rfl⟩
  · cases l.nextTab with
    | none => exact ⟨rfl, rfl, rfl⟩
    | some x => exact hset _ x

theorem State.larreDue_larreSends : s.LarreSends s.larreDue := by
  obtain ⟨hsent, hegress, hreads⟩ := s.larre.switch_books
  unfold State.larreDue
  split
  · exact ⟨State.modLarre_changes (by decide), hsent, hegress, hreads⟩
  · exact .refl s

/-- 12 R359: before T_sw no switch is due. -/
theorem State.larreDue_early (h : s.larre.armed = false ∨ s.mcount < s.larre.tsw.toNat) : s.larreDue = s := by
  refine if_neg fun hdue => ?_
  obtain ⟨harmed, htsw⟩ := Bool.and_eq_true_iff.1 hdue
  have htsw := of_decide_eq_true htsw
  rcases h with h | h
  · exact Bool.false_ne_true (h.symm.trans harmed)
  · omega

/-- A bit set reads back. -/
theorem bit_putBit {k i : Nat} (x : BitVec k) (h : i < k) (b : Bool) : bit (putBit x i b) i = b := by
  have hsum (lo hi v : Nat) (hlo : lo < 2 ^ i) : (lo + v <<< i + hi <<< (i + 1)) / 2 ^ i = v + 2 * hi := by
    rw [Nat.shiftLeft_eq, Nat.shiftLeft_eq, Nat.pow_succ, show lo + v * 2 ^ i + hi * (2 ^ i * 2) = lo + 2 ^ i * (v + 2 * hi) by ring,
      Nat.add_mul_div_left _ _ (Nat.two_pow_pos i), Nat.div_eq_of_lt hlo, Nat.zero_add]
  simp only [bit, putBit, put, BitVec.getLsbD_ofNat, h, decide_true, Bool.true_and, Nat.testBit_eq_decide_div_mod_eq,
    hsum _ _ _ (Nat.mod_lt _ (Nat.two_pow_pos i))]
  cases b <;> simp

/-- R344: the edition that a frame is stamped with. -/
theorem Frame.withEd_ed (x : Frame) (e : Bool) : (Frame.withEd x e).ed = e := bit_putBit x.link (by decide) e

/-- R355: a frame whose panel has a route is sent. -/
theorem State.frameOut_sent {x : Frame} {r : Nat × Nat} (h : s.larreDue.larre.route s.larreDue.larre.cur x.dpanel.toNat = some r) :
    (s.frameOut n p x).2 = true ∧ s.LarreSends (s.frameOut n p x).1 := by
  obtain ⟨v, hv⟩ : ∃ v, s.larreDue.toFabric (Frame.withEd x s.larreDue.larre.cur) = some v := by
    rw [State.toFabric, Frame.withEd_ed, Frame.withEd, h]
    exact ⟨_, rfl⟩
  simp only [State.frameOut, hv, true_and]
  exact State.larreDue_larreSends.trans (State.toFabric_larreSends hv)

/-- R355: a frame whose panel has no route is discarded and counted. -/
theorem State.frameOut_unreachable {x : Frame} (h : s.larreDue.larre.route s.larreDue.larre.cur x.dpanel.toNat = none) :
    s.frameOut n p x = (s.larreDue.modLport n p fun d => d.bump 5 1, false) := by
  have hnone : s.larreDue.toFabric (Frame.withEd x s.larreDue.larre.cur) = none := by
    rw [State.toFabric, Frame.withEd_ed, Frame.withEd, h]
    rfl
  simp only [State.frameOut, hnone]

end Sys2Proof.Machine
end

section
/-!
PROOFS. The acknowledgements, the timers and the counters of the Larre ports (12 R347 to R351, R369, R373, R376; 13 R397).
-/
namespace Sys2Proof.Machine

variable {s : State} {n p : Nat} {f : LPort → LPort}

/-! The acknowledgement at its port (R347, R349, R351) -/

/-- A list entered under its own positions reads as the list. -/
theorem Tbl.get_mapIdx {α β : Type} (g : α → β) (a : α) : ∀ (l : List α) (j i : Nat),
    Tbl.get (g a) (l.mapIdx fun x v => (x + j, g v)) (i + j) = g (l.getD i a)
  | [], _, _ => rfl
  | _ :: _, _, 0 => by simp [Tbl.get]
  | b :: l, j, i + 1 => by
    have ih := Tbl.get_mapIdx g a l (j + 1) i
    simp only [List.mapIdx_cons, Tbl.get, List.getD_cons_succ, ← ih, if_neg (show ¬ i + 1 + j = 0 + j by omega)]
    simp only [Nat.add_assoc, Nat.add_comm 1 j]

section
variable {d : LPort} {h : Held} {rest : List Held} {now k aseq : Nat} {freed : List (BitVec 24)}

/-- R349, R351: the port after an ACK that covers the first `k` frames of its replay buffer. -/
def LPort.released (d : LPort) (now k : Nat) (freed : List (BitVec 24)) : LPort :=
  { d with
    freed := freed.mapIdx fun i v => (i, v.toNat)
    replay := d.replay.drop k
    oldHold := d.oldHold.filter (fun t => decide (now < t.1)) ++ (d.replay.take k).map fun h => (now + 100, h.f.ed)
    expiry := if (d.replay.drop k).isEmpty then none
      else some (Nat.max now (((d.replay.drop k).head?.map (·.sentAt)).getD 0) + 1000 * d.rto) }

/-- R347, R349: an ACK whose sequence number lies among the frames held covers them up to it. -/
theorem LPort.ack_releases (hr : d.replay = h :: rest) (hf : d.frozen = false) (hk : (aseq + 4096 - h.f.seq) % 4096 + 1 ≤ d.replay.length)
    (hl : d.replay.length ≤ 2047) :
    d.ack now ⟨false, false, aseq, freed.map (·.toNat)⟩ = (d.released now ((aseq + 4096 - h.f.seq) % 4096 + 1) freed, []) := by
  have hseq : h.f.seq < 4096 := Nat.mod_lt _ (by decide)
  have hcovers : (seqAhead aseq ((h.f.seq + 4095) % 4096) && decide ((aseq + 4096 - h.f.seq) % 4096 < d.replay.length)) = true := by
    simp only [seqAhead, Bool.and_eq_true, decide_eq_true_eq]
    omega
  have hfreed : ((freed.map (·.toNat)).mapIdx fun i v => (i, v)) = freed.mapIdx fun i v => (i, v.toNat) := List.ext_getElem (by simp) (by simp)
  simp only [LPort.ack, hr] at hcovers ⊢
  simp only [hcovers, hf, hfreed, LPort.released, hr]
  rfl

theorem LPort.released_expiry : (d.released now k freed).expiry = none ↔ d.replay.drop k = [] := by
  simp only [LPort.released]
  split
  · next h => exact iff_of_true rfl (List.isEmpty_iff.1 h)
  · next h => exact iff_of_false (by simp) fun e => h (List.isEmpty_iff.2 e)

/-- R351: the FREED counts that an ACK carries, class by class. -/
theorem LPort.released_freed {i : Nat} : Tbl.get 0 (d.released now k freed).freed i = (freed.getD i 0).toNat :=
  Tbl.get_mapIdx BitVec.toNat 0 freed 0 i

end

/-! The replay timer (R350; 13 R397) -/

theorem State.replayDue_idle (h : ∀ t, (s.lport n p).expiry = some t → s.dieCount (0x100 + n) ≤ t) : s.replayDue n p = s := by
  unfold State.replayDue
  dsimp only
  split
  · next t ht => exact if_neg fun hdue => absurd (h t ht) (by omega)
  · rfl

/-- R350: the panel after a port's replay timer has expired: every frame held is sent again, and counted as a replay. -/
def State.replayed (s : State) (n p : Nat) : State :=
  (s.modLport n p fun d => (d.replayAll (s.dieCount (0x100 + n))).1.bump 4 1).sentFrames n p ((s.lport n p).replay.map (·.f))

theorem State.replayDue_expired {t : Nat} (he : (s.lport n p).expiry = some t) (ht : t < s.dieCount (0x100 + n))
    (hf : (s.lport n p).frozen = false) : s.replayDue n p = s.replayed n p := by
  have hset : (s.modLport n p fun _ => ((s.lport n p).replayAll (s.dieCount (0x100 + n))).1.bump 4 1) =
      s.modLport n p fun d => (d.replayAll (s.dieCount (0x100 + n))).1.bump 4 1 := State.modLport_congr rfl
  simp only [State.replayDue, he, hf, ht, State.replayed, ← hset]
  rfl

/-- Frames sent leave all of their port but the time at which its line is free. -/
theorem State.sentFrames_lport {fs : List Frame} : (s.sentFrames n p fs).lport n p = { s.lport n p with line := ((s.sentFrames n p fs).lport n p).line } := by
  unfold State.sentFrames
  split
  · rfl
  · rw [show ∀ ms, ((s.modLport n p _).emits ms).lport n p = _ from fun _ => State.modLport_lport]

theorem State.sentFrames_lport_ne {fs : List Frame} {m q : Nat} (h : (m, q) ≠ (n, p)) : (s.sentFrames n p fs).lport m q = s.lport m q := by
  unfold State.sentFrames
  split
  · rfl
  · exact State.modLport_lport_ne h

theorem State.sentFrames_out {fs : List Frame} : (s.sentFrames n p fs).out = (fs.map (s.frameMsg n p)).reverse ++ s.out := by
  unfold State.sentFrames
  split
  · next h => rw [List.isEmpty_iff.1 h]; rfl
  · rfl

theorem LPort.bump_same {d : LPort} {k v : Nat} : Tbl.get 0 (d.bump k v).counters k = satAdd 0xFFFFFFFF (Tbl.get 0 d.counters k) v := by
  simp only [LPort.bump, Tbl.get_mod_same]

theorem State.replayed_lport : (s.replayed n p).lport n p =
    { ((s.lport n p).replayAll (s.dieCount (0x100 + n))).1.bump 4 1 with line := ((s.replayed n p).lport n p).line } := by
  rw [State.replayed, State.sentFrames_lport, State.modLport_lport]

theorem State.replayed_out : (s.replayed n p).out = ((s.lport n p).replay.map fun h => s.frameMsg n p h.f).reverse ++ s.out := by
  rw [State.replayed, State.sentFrames_out, State.modLport_frameMsg, List.map_map]
  rfl

/-! The commands -/

theorem State.raiseSv_changes {ps : List Part} {code : FCode} {unit sub detail : Nat} (hl : .log ∈ ps) (hg : .gaz ∈ ps) :
    ChangesOnly ps s (s.raiseSv code unit sub detail) := by
  intro q hq
  cases q <;> simp_all [Part.same, State.raiseSv, State.raiseAs]

/-- R349, R351, R369: what an ACK of a port with nothing queued and no replay due leaves. -/
theorem larreAck_releases {n : EngineId} {p : Fin 4} {aseq : BitVec 12} {freed : List (BitVec 24)} {h : Held} {rest : List Held}
    (hr : (s.lport n p).replay = h :: rest) (hq : (s.lport n p).queue = []) (hf : (s.lport n p).frozen = false)
    (hk : (aseq.toNat + 4096 - h.f.seq) % 4096 + 1 ≤ (s.lport n p).replay.length) (hl : (s.lport n p).replay.length ≤ 2047)
    (he : ∀ t, (s.lport n p).expiry = some t → s.dieCount (0x100 + n) ≤ t) :
    let y (d : LPort) := d.released (s.dieCount (0x100 + n)) ((aseq.toNat + 4096 - h.f.seq) % 4096 + 1) freed
    Completes (.larreAck n p false false aseq freed true) s fun u =>
      u.larre = (s.modLport n p y).larre ∧ u.out = s.out ∧ ChangesOnly [.larre, .log, .gaz] s u ∧
      ((List.range 4).all (y (s.lport n p)).balances = true → ChangesOnly [.larre] s u) := by
  intro y
  have hack : (s.lport n p).ack (s.dieCount (0x100 + n)) ⟨false, false, aseq.toNat, freed.map (·.toNat)⟩ = (y (s.lport n p), []) :=
    LPort.ack_releases hr hf hk hl
  have hset : (s.modLport n p fun _ => y (s.lport n p)) = s.modLport n p y := State.modLport_congr rfl
  have hpump : (s.modLport n p y).pumpLarre n p = s.modLport n p y := State.pumpLarre_idle hq
  have hsent : (s.modLport n p y).sentFrames n p [] = s.modLport n p y := rfl
  have hexec : exec (.larreAck n p false false aseq freed true) s = .next (
      if (List.range 4).all (y (s.lport n p)).balances then s.modLport n p y
      else (s.modLport n p y).raiseSv .bookImbalance (0x100 + n) p 0) := by
    simp only [exec_larreAck, execLarreAck, State.replayDue_idle he, hack, hset, hsent, hpump, Bool.not_true, Bool.false_eq_true,
      if_false]
  refine ⟨_, hexec, ?_⟩
  split
  · exact ⟨rfl, rfl, State.modLport_changes (by simp), fun _ => State.modLport_changes (by simp)⟩
  · next hb =>
    exact ⟨rfl, rfl, (State.modLport_changes (by simp)).trans (State.raiseSv_changes (by simp) (by simp)), fun h => absurd h hb⟩

theorem larreAckTimer_idle {n : EngineId} {p : Fin 4} (hr : s.larre.rcvd = [])
    (h : ∀ t, (s.lport n p).oldestAcc = some t → s.dieCount (0x100 + n) < t + 100 * (s.lport n p).ackus) : exec (.larreAckTimer n p) s = .next s := by
  simp only [exec_larreAckTimer, execLarreAckTimer]
  split
  · next t ht => rw [if_neg (by have := h t ht; omega), hr]; rfl
  · rw [hr]; rfl

/-- R349: at the ACK interval the port acknowledges what it has accepted. -/
theorem larreAckTimer_acknowledges {n : EngineId} {p : Fin 4} {t : Nat} (hr : s.larre.rcvd = []) (ho : (s.lport n p).oldestAcc = some t)
    (ht : t + 100 * (s.lport n p).ackus ≤ s.dieCount (0x100 + n)) : exec (.larreAckTimer n p) s =
      .next ((s.modLport n p fun d => { d with accSince := 0, oldestAcc := none }).sentAck n p
        ⟨false, false, ((s.lport n p).rxNext + 4095) % 4096, (List.range 4).map fun c => Tbl.get 0 (s.lport n p).rxFreed c⟩) := by
  have hset : (s.modLport n p fun _ => { s.lport n p with accSince := 0, oldestAcc := none }) =
      s.modLport n p fun d => { d with accSince := 0, oldestAcc := none } := State.modLport_congr rfl
  simp only [exec_larreAckTimer, execLarreAckTimer, ho, if_pos ht, LPort.makeAck, hset]
  exact congrArg (fun rs => Host.Outcome.next (List.foldl _ _ rs)) hr

/-- Settles O35, command by command: what an ACK releases, and when each timer acts. -/
theorem larreAcknowledgementsReleaseFrames : Obligations.LarreAcknowledgementsReleaseFrames := by
  unfold Obligations.LarreAcknowledgementsReleaseFrames
  intro n p aseq freed which h rest s d now k
  refine ⟨rfl, fun hr hq hf hk hl he => ?ack, fun hr => ⟨fun t ho ht => larreAckTimer_acknowledges hr ho ht, fun t ho ht => ?early, fun ho => ?none⟩,
    fun t he ht hf => ?replay, fun t he ht => ?running, fun he => ?stopped, rfl, rfl, rfl, rfl⟩
  case early => exact larreAckTimer_idle hr fun t' ht' => by rw [ho] at ht'; cases ht'; exact ht
  case none => exact larreAckTimer_idle hr fun t ht => by rw [ho] at ht; cases ht
  case running => exact congrArg Host.Outcome.next (State.replayDue_idle fun t' ht' => by rw [he] at ht'; cases ht'; exact ht)
  case stopped => exact congrArg Host.Outcome.next (State.replayDue_idle fun t ht => by rw [he] at ht; cases ht)
  case ack =>
    obtain ⟨u, hexec, hlarre, hout, hchanges, hbalances⟩ := larreAck_releases (freed := freed) hr hq hf hk hl he
    have hport (m q : Nat) : u.lport m q = (s.modLport n p _).lport m q := congrArg (fun l => l.port m q) hlarre
    refine ⟨u, hexec, ?_⟩
    dsimp only
    rw [hport, State.modLport_lport]
    exact ⟨rfl, fun _ _ => LPort.released_freed, LPort.released_expiry, rfl, rfl, rfl, hout,
      fun m q hne => (hport m q).trans (State.modLport_lport_ne hne), hchanges, hbalances⟩
  case replay =>
    refine ⟨_, congrArg Host.Outcome.next (State.replayDue_expired he ht hf), ?_⟩
    dsimp only
    rw [State.replayed_lport]
    exact ⟨rfl, State.replayed_out, LPort.bump_same, rfl, fun m q hne => (State.sentFrames_lport_ne hne).trans (State.modLport_lport_ne hne),
      State.modLport_larreSends.only.trans State.sentFrames_larreSends.only⟩

end Sys2Proof.Machine
end

section
/-!
PROOFS. The reception of Larre frames and their places on this panel (12 R348, R351, R355 to R358; 08 R231, R242).
-/
namespace Sys2Proof.Machine

variable {s : State} {n p : Nat} {f : Frame} {d : LPort} {w : PAddr} {c o : Nat}

/-! The link checks (R348) -/

theorem State.larreAccept_bad : s.larreAccept n p f false = (s.modLport n p fun d => d.bump 0 1, false) := rfl

theorem State.larreAccept_takes (h : s.LarreTakes n p f d) : s.larreAccept n p f true = (s.withLport n p d, true) := by
  obtain ⟨hkind, hlen, hrecv⟩ := h
  simp [State.larreAccept, hkind, Nat.not_lt.2 hlen, hrecv, State.withLport]

/-- R356: a change of a port leaves the places that frames name. -/
theorem State.withLport_framePlace (tenant addr len : Nat) (wr : Bool) :
    (s.withLport n p d).framePlace tenant addr len wr = s.framePlace tenant addr len wr := rfl

/-! A peer's write at its place (R351, R356; 08 R231, 09 R280) -/

/-- R351: the panel with a write that waits in its engine's receive buffer. -/
def State.buffers (s : State) (n p : Nat) (f : Frame) : State := s.modLarre fun l => { l with buffered := l.buffered ++ [(n, p, f)] }

theorem State.placeFrame_asks {r : Nat} (hp : s.framePlace f.tenant f.addr f.len true = .ok (.spd c o)) (hl : 0 < f.len)
    (hr : s.larre.freeReq n = some r) : s.placeFrame n p f = s.askFrame n p f c o r := by
  simp only [State.placeFrame, hp, if_neg hl.ne', hr]

theorem State.placeFrame_noReq (hp : s.framePlace f.tenant f.addr f.len true = .ok (.spd c o)) (hl : 0 < f.len) (hr : s.larre.freeReq n = none) :
    s.placeFrame n p f = s.buffers n p f := by
  simp only [State.placeFrame, hp, if_neg hl.ne', hr, State.buffers]

theorem State.placeFrame_hbm {k : Nat} (hp : s.framePlace f.tenant f.addr f.len true = .ok (.hbm k o)) : s.placeFrame n p f =
    if s.memHolds (0x100 + n) f.tenant (.hbm k o) then s.buffers n p f else (s.writeFrame n p f (.hbm k o)).leaves n p f := by
  simp only [State.placeFrame, hp, State.buffers]

/-- R356 step 5: a frame refused for another reason than a sealed plot. -/
theorem State.placeFrame_refused {e : Nat} (hp : s.framePlace f.tenant f.addr f.len true = .error e) (h4 : e ≠ 4) : s.placeFrame n p f =
    (((s.modLport n p fun d => d.bump 6 1).emit (.peerNak f.spanel.toNat f.sunit.toNat 4 f.dirTag)).raise .nakPlot (0x100 + n) p 0).leaves n p f := by
  simp only [State.placeFrame, hp, State.framePlotDrop, State.noteSeal, if_neg h4]

/-! The commands (R348, R355 to R358) -/

section
variable {n : EngineId} {p : Fin 4} {data : List Byte}

theorem larreDirect_held {good : Bool} (h : s.responseHeld f = true) : exec (.larreDirect n p f good) s = .next s :=
  congrArg Host.Outcome.next (if_pos (.inr h))

theorem larreDirect_bad (h : s.responseHeld f = false) : exec (.larreDirect n p f false) s = .next (s.modLport n p fun d => d.bump 0 1) := by
  simp [execLarreDirect, State.directFrame, State.larreAccept_bad, h]

theorem larreRead_bad : exec (.larreRead n p f false data) s = .next (s.modLport n p fun d => d.bump 0 1) := by
  simp [execLarreRead, State.readFrame, State.larreAccept_bad]

theorem larreE2eAck_bad : exec (.larreE2eAck n p f false) s = .next (s.modLport n p fun d => d.bump 0 1) := by
  simp [execLarreE2eAck, State.e2eFrame, State.larreAccept_bad]

/-- R355, R356: a write in sequence for this panel goes behind those of its engine that wait, or to its place. -/
theorem larreDirect_takes (ht : s.LarreTakes n p f d) (hd : f.dpanel.toNat = s.identity) (hm : f.mode = 0) (hc : f.cls ≠ 1) :
    exec (.larreDirect n p f true) s = .next (
      if s.larre.buffered.any fun x => x.1 == n.val then (s.withLport n p d).buffers n p f else (s.withLport n p d).placeFrame n p f) := by
  have hheld : s.responseHeld f = false := by simp [State.responseHeld, hc]
  have hb : (s.withLport n p d).larre.buffered = s.larre.buffered := rfl
  simp only [exec_larreDirect, execLarreDirect, State.directFrame, State.larreAccept_takes ht, hd, hm, hc, hheld, hb]
  simp [State.buffers]

theorem larreRead_otherMode (h : f.mode ≠ 1) : exec (.larreRead n p f true data) s = .next s := congrArg Host.Outcome.next (if_pos ⟨h, rfl⟩)
theorem larreE2eAck_otherMode (h : f.mode ≠ 3) : exec (.larreE2eAck n p f true) s = .next s := congrArg Host.Outcome.next (if_pos ⟨h, rfl⟩)

/-- R357: a READ in sequence for this panel is answered with the bytes of its place, or held there. -/
theorem larreRead_takes (ht : s.LarreTakes n p f d) (hd : f.dpanel.toNat = s.identity) (hm : f.mode = 1)
    (hp : s.framePlace f.tenant f.addr f.readLen false = .ok w) : exec (.larreRead n p f true data) s = .next (
      if s.memHolds (0x100 + n) f.tenant w then s
      else (readAnswer n p f ((s.withLport n p d).readAt (0x100 + n) f.tenant false data f.readLen w)).leaves n p f) := by
  simp [execLarreRead, State.readFrame, State.larreAccept_takes ht, hd, hm, State.withLport_framePlace, hp]

/-- R358: with no packet held, an end-to-end count releases none. -/
theorem State.ackEgress_none {m src : Nat} (h : s.larre.egress = []) : s.ackEgress m src = s := by
  have hrelease (g : Nat → Nat) : releaseEgress g (Tbl.get [] s.larre.egress (m * 4096 + src)) = (0, []) := by rw [h]; rfl
  simp only [State.ackEgress, hrelease]
  rfl

/-- R358: an end-to-end ACK in sequence for this panel, by how far its count is ahead of the last. -/
theorem larreE2eAck_takes (ht : s.LarreTakes n p f d) (hd : f.dpanel.toNat = s.identity) (hm : f.mode = 3) :
    let src := f.dunit.toNat % 4096; let k := e2eKey src f.spanel.toNat; let v := bits f.body 31 0
    let ahead := (v + 2 ^ 32 - Tbl.get 0 s.larre.e2eAcked k) % 2 ^ 32
    let t := (s.withLport n p d).leaves n p f
    (2 ^ 31 ≤ ahead → exec (.larreE2eAck n p f true) s = .next t) ∧
    (ahead < 2 ^ 31 → src < 192 ∨ 240 ≤ src → s.larre.egress = [] →
      exec (.larreE2eAck n p f true) s = .next (t.modLarre fun l => { l with e2eAcked := Tbl.set l.e2eAcked k v })) := by
  intro src k v ahead t
  have hold : t.larre.e2eAcked = s.larre.e2eAcked := rfl
  have hexec : exec (.larreE2eAck n p f true) s = .next (
      if ahead ≥ 2 ^ 31 then t
      else if 192 ≤ src ∧ src < 240 then (t.modLarre fun l => { l with e2eAcked := Tbl.set l.e2eAcked k v }).copiesAcked ahead
      else (List.range 36).foldl (fun s m => s.ackEgress m src) (t.modLarre fun l => { l with e2eAcked := Tbl.set l.e2eAcked k v })) := by
    simp [execLarreE2eAck, State.e2eFrame, State.larreAccept_takes ht, hd, hm]
    rfl
  refine ⟨fun h => by rw [hexec, if_pos h], fun h hsrc hegress => ?_⟩
  rw [hexec, if_neg (by omega), if_neg (by omega)]
  refine congrArg Host.Outcome.next ?_
  exact List.foldl_fixed' (fun _ => State.ackEgress_none (by exact hegress)) _

end

end Sys2Proof.Machine
end

section
/-!
PROOFS. The grant of a peer's write, and the framing of what leaves for a peer (12 R355 to R358; 08 R231, 09 R280).
-/
namespace Sys2Proof.Machine

variable {s : State}

/-! The grant (08 R231, 09 R280) -/

theorem Spd.Written.spdWritten {p q : Spd} {off : Nat} {bs : List Byte} (h : p.Written q off (bs.map fun b => (b, false))) (hp : p.Clean) :
    SpdWritten p q off bs := by
  obtain ⟨hq, -, hread, hbad⟩ := h
  refine ⟨hq, fun w => hbad w (hp.2 w), fun x => ?_⟩
  rw [hread, List.length_map]
  refine if_congr Iff.rfl ?_ rfl
  rw [List.getD_map (d := (0 : Byte)) (f := fun b => (b, false))]

/-- R343: no byte of a frame without poison is marked. -/
theorem Frame.marked_clean {f : Frame} (h : f.poisoned = false) : f.marked = f.payload.map fun b => (b, false) :=
  List.ext_getElem (by simp [Frame.marked]) (by simp [Frame.marked, h])

section
variable {n p c o : Nat} {f : Frame} {w : PAddr}

/-- R356 step 6, R358: a frame without poison is written into a scratchpad without errors and counted for its source. -/
theorem State.writeFrame_spd (hl : 0 < f.len) (hc : s.SpdClean c) (hf : f.poisoned = false) :
    let key := f.spanel.toNat * 4096 + f.sunit.toNat % 4096
    let a := (Tbl.get {} s.larre.rcvd key).accept (s.dieCount (0x100 + n)) f.len f.last false
    a.2 = false → s.writeFrame n p f (.spd c o) = (s.withCl c fun k => { k with spd := (k.spd.writeP 0 o (f.payload.map fun b => (b, false))).2 }).modLarre
      fun l => { l with rcvd := Tbl.set l.rcvd key a.1 } := by
  intro key a hdue
  have hwrite := State.writeAt_clean (src := 0x100 + n) (tenant := f.tenant) (off := o) (fw := false) (bs := f.payload.map fun b => (b, false)) hc (by simp)
  simp only [State.writeFrame, if_neg hl.ne', Frame.marked_clean hf, hwrite]
  exact if_neg (Bool.eq_false_iff.1 hdue)

/-- The frame that waits alone is the one that its grant finds. -/
theorem Larre.waitFrame_single {l : Larre} {r : Nat} (h : l.waiting = [(n, p, r, f)]) : l.waitFrame (0x100 + n) r = some (n, p, r, f) := by
  simp [Larre.waitFrame, h]

/-- 08 R231: the scratchpad with the range of a transfer released. -/
def Spd.freeRange (x : Spd) (xfer : Nat) : Spd := { x with weir := x.weir.filter fun w => w.2.xfer != xfer }

/-- The panel with the waiting frames of the Larre engines replaced. -/
def State.withWaiting (s : State) (ws : List (Nat × Nat × Nat × Frame)) : State := s.modLarre fun l => { l with waiting := ws }

/-- 09 R280: a frame granted at a place leaves the waiting ones, is written, releases its range and leaves its receive buffer; the buffered ones
of its engine follow. -/
theorem State.frameGranted_placed {src r q : Nat} (hf : s.larre.waitFrame src r = some (n, p, q, f))
    (hp : s.framePlace f.tenant f.addr f.len true = .ok w) : s.frameGranted src c r =
      let t := ((s.withWaiting (s.larre.waiting.filter fun x => !(0x100 + x.1 == src && x.2.2.1 == r))).writeFrame n p f w).modCl c fun k =>
        { k with spd := k.spd.freeRange (remoteXfer + src * 32 + r) }
      (t.leaves n p f).placeBuffered n t.larre.buffered.length := by
  have hplace (g : Larre → Larre) : (s.modLarre g).framePlace f.tenant f.addr f.len true = .ok w := hp
  simp only [State.frameGranted, hf, hplace]
  rfl

/-- R351, R356, R358: the one waiting frame, without poison and with no end-to-end ACK due, granted in a scratchpad without errors while no
write is buffered. -/
theorem State.frameGranted_single {r : Nat} (hw : s.larre.waiting = [(n, p, r, f)]) (hb : s.larre.buffered = [])
    (hp : s.framePlace f.tenant f.addr f.len true = .ok (.spd c o)) (hc : s.SpdClean c) (hl : 0 < f.len) (hf : f.poisoned = false) :
    let key := f.spanel.toNat * 4096 + f.sunit.toNat % 4096
    let a := (Tbl.get {} s.larre.rcvd key).accept (s.dieCount (0x100 + n)) f.len f.last false
    let x := ((s.cl c).spd.writeP 0 o (f.payload.map fun b => (b, false))).2
    a.2 = false → s.frameGranted (0x100 + n) c r =
      ((s.modLarre fun l => { l with waiting := [], rcvd := Tbl.set l.rcvd key a.1 }).withCl c fun k =>
        { k with spd := x.freeRange (remoteXfer + (0x100 + n) * 32 + r) }).leaves n p f := by
  intro key a x hdue
  have hnone : (s.larre.waiting.filter fun y => !(0x100 + y.1 == 0x100 + n && y.2.2.1 == r)) = [] := by simp [hw]
  have hwrite : (s.withWaiting []).writeFrame n p f (.spd c o) = _ := State.writeFrame_spd hl hc hf hdue
  have hswap (v : State) (W : Cluster → Cluster) (R : Larre → Larre) : (v.withCl c W).modLarre R = (v.modLarre R).withCl c W := rfl
  rw [State.frameGranted_placed (Larre.waitFrame_single hw) hp, hnone, hwrite, State.modCl_withCl (by rfl), hswap, State.withCl_withCl]
  show State.placeBuffered _ n s.larre.buffered.length = _
  rw [hb]
  exact congrArg (fun v => State.leaves v n p f) (State.withCl_congr rfl)

end

/-- 08 R231, 09 R280: the grant of the one frame that waits. -/
theorem weirGrant_writes {n : EngineId} {p : Fin 4} {r : BitVec 5} {f : Frame} {c : ClusterId} {entry : BitVec 4}
    (hw : s.larre.waiting = [(n.val, p.val, r.toNat, f)]) :
    exec (.weirGrant (BitVec.ofNat 12 (0x100 + n)) c r entry) s = .next (s.frameGranted (0x100 + n) c r.toNat) := by
  have hsrc : (BitVec.ofNat 12 (0x100 + n.val)).toNat = 0x100 + n.val := (BitVec.toNat_ofNat ..).trans (Nat.mod_eq_of_lt (by omega))
  rw [exec_weirGrant, execWeirGrant, hsrc, Larre.waitFrame_single hw]
  rfl

/-! Framing (R355, R358) -/

section
variable {n : EngineId} {p : Packet} {r : Nat × Nat}

/-- R355, R357: the panel that a peer-bound packet is for, and its frames: the data of a Direct packet, and a READ. -/
def panelOf (p : Packet) : Nat := (p.addr >>> 44) % 65536
def State.dataFrame (s : State) (p : Packet) : Frame :=
  s.mkFrame p.cls 0 (panelOf p) (farUnit (panelOf p) (p.addr % 2 ^ 44)) p.src p.tenant p.last (p.addr % 2 ^ 44 + fld 64 p.tag) p.marked
def State.askingFrame (s : State) (p : Packet) : Frame :=
  s.mkFrame 0 1 (panelOf p) (farUnit (panelOf p) (p.addr % 2 ^ 44)) p.src p.tenant p.last
    (p.addr % 2 ^ 44 + fld 64 (bits p.head 24 0) + fld 96 (bits p.head 55 42) + fld 112 (readTag p)) []

theorem State.mkFrame_dpanel {cls mode dunit sunit tenant body : Nat} {last : Bool} {bs : List PByte} :
    (s.mkFrame cls mode (panelOf p) dunit sunit tenant last body bs).dpanel.toNat = panelOf p :=
  (BitVec.toNat_ofNat (panelOf p) 16).trans (Nat.mod_mod ..)

/-- R358: a packet framed is counted for its source and panel, and held for its Delta ACK. -/
def State.countFramed (s : State) (n : Nat) (p : Packet) : State :=
  let k := e2eKey p.src (panelOf p)
  let sum := (Tbl.get 0 s.larre.e2eSent k + p.len) % 2 ^ 32
  s.modLarre fun l => { l with
    e2eSent := Tbl.set l.e2eSent k sum
    egress := Tbl.mod [] l.egress (n * 4096 + p.src) fun q => q ++ [⟨panelOf p, sum, p.len⟩] }

/-- R355: a packet whose panel is unreachable is answered with NAK_ROUTE. -/
def State.unreachable (s : State) (n : Nat) (p : Packet) : State := (s.sendNak (engineSite n) nakRouteCode p).raise .nakRoute (0x100 + n) 0 0

theorem larreFraming_direct (hm : p.mode = 1) : exec (.larreFraming n p) s = .next (
    let r := s.frameOut n (p.destCluster % 4) (s.dataFrame p)
    if !r.2 then r.1.unreachable n p else if p.cls ≠ 0 then r.1 else r.1.countFramed n p) :=
  congrArg Host.Outcome.next (if_pos hm)

theorem larreFraming_read (hm : p.mode = 2) (ho : p.op = 6) : exec (.larreFraming n p) s = .next (
    let r := s.frameOut n (p.destCluster % 4) (s.askingFrame p)
    if r.2 then r.1.modLarre fun l => { l with reads := l.reads ++ [(p.src, readTag p, bits p.head 55 42, n.val)] } else r.1.unreachable n p) :=
  congrArg Host.Outcome.next ((if_neg (by omega)).trans (if_pos ⟨hm, ho⟩))

theorem larreFraming_other (h1 : p.mode ≠ 1) (h2 : ¬ (p.mode = 2 ∧ p.op = 6)) : exec (.larreFraming n p) s = .next s :=
  congrArg Host.Outcome.next ((if_neg h1).trans (if_neg h2))

theorem larreFraming_unreachable (hm : p.mode = 1) (hr : s.larreDue.larre.route s.larreDue.larre.cur (panelOf p) = none) :
    exec (.larreFraming n p) s = .next ((s.larreDue.modLport n (p.destCluster % 4) fun d => d.bump 5 1).unreachable n p) := by
  have hout : s.frameOut n (p.destCluster % 4) (s.dataFrame p) = _ := State.frameOut_unreachable (by rwa [State.dataFrame, State.mkFrame_dpanel])
  rw [larreFraming_direct hm, hout]
  rfl

/-- R355, R358: what a Direct packet of class 0 leaves at its egress engine. -/
theorem larreFraming_counts (hm : p.mode = 1) (hc : p.cls = 0) (hr : s.larreDue.larre.route s.larreDue.larre.cur (panelOf p) = some r) :
    Completes (.larreFraming n p) s fun u => let k := e2eKey p.src (panelOf p); let sum := (Tbl.get 0 s.larre.e2eSent k + p.len) % 2 ^ 32
      Tbl.get 0 u.larre.e2eSent k = sum ∧
      Tbl.get [] u.larre.egress (n * 4096 + p.src) = Tbl.get [] s.larre.egress (n * 4096 + p.src) ++ [⟨panelOf p, sum, p.len⟩] ∧
      ChangesOnly [.larre, .out] s u := by
  obtain ⟨hsent, hsends⟩ := State.frameOut_sent (s := s) (n := n) (p := p.destCluster % 4) (x := s.dataFrame p)
    (by rwa [State.dataFrame, State.mkFrame_dpanel])
  refine ⟨(s.frameOut n (p.destCluster % 4) (s.dataFrame p)).1.countFramed n p, ?_, ?_, ?_, hsends.only.trans (State.modLarre_changes (by decide))⟩
  · rw [larreFraming_direct hm]
    simp [hsent, hc]
  · rw [State.countFramed, hsends.e2eSent]
    exact Tbl.get_set_same ..
  · rw [State.countFramed, hsends.e2eSent, ← hsends.egress, State.modLarre_larre, Tbl.get_mod_same]

/-- R357: what a READ leaves at its egress engine. -/
theorem larreFraming_asks (hm : p.mode = 2) (ho : p.op = 6) (hr : s.larreDue.larre.route s.larreDue.larre.cur (panelOf p) = some r) :
    Completes (.larreFraming n p) s fun u =>
      u.larre.reads = s.larre.reads ++ [(p.src, readTag p, bits p.head 55 42, n.val)] ∧ ChangesOnly [.larre, .out] s u := by
  obtain ⟨hsent, hsends⟩ := State.frameOut_sent (s := s) (n := n) (p := p.destCluster % 4) (x := s.askingFrame p)
    (by rwa [State.askingFrame, State.mkFrame_dpanel])
  refine ⟨_, larreFraming_read hm ho, ?_⟩
  simp only [hsent, if_true]
  exact ⟨congrArg (· ++ _) hsends.reads, hsends.only.trans (State.modLarre_changes (by decide))⟩

end

/-- Settles O45, command by command: what each check makes of a frame, its grant, and what the framing of a packet finds of its route. -/
theorem larreFramesReachTheirPlaces : Obligations.LarreFramesReachTheirPlaces := by
  unfold Obligations.LarreFramesReachTheirPlaces
  refine ⟨?received, ?granted, ?framed⟩
  case received =>
    intro n p f data d1 w e s bad takes buffered
    refine ⟨fun h _ => larreDirect_held h, larreDirect_bad, larreRead_bad, larreE2eAck_bad, fun ht hd => ⟨fun hm hc => ?write, fun hm hp hz => ?held,
      fun hm hp hz => ?answered, fun hm => larreE2eAck_takes ht hd hm⟩⟩
    case write =>
      have hexec := larreDirect_takes ht hd hm hc
      refine ⟨fun hb => by rw [hexec, if_pos hb]; rfl, fun hb => ?_, larreRead_otherMode (by omega), larreE2eAck_otherMode (by omega)⟩
      rw [hexec, if_neg (Bool.eq_false_iff.1 hb)]
      refine ⟨fun c o hp hl => ⟨fun hr => ?_, fun r hr => ?_⟩, fun k o hp => ?_, fun hp h4 => ?_⟩
      · exact congrArg Host.Outcome.next (State.placeFrame_noReq hp hl hr)
      · exact congrArg Host.Outcome.next (State.placeFrame_asks hp hl hr)
      · exact congrArg Host.Outcome.next (State.placeFrame_hbm hp)
      · exact congrArg Host.Outcome.next (State.placeFrame_refused hp h4)
    case held => rw [larreRead_takes ht hd hm hp, if_pos hz]
    case answered => rw [larreRead_takes ht hd hm hp, if_neg (Bool.eq_false_iff.1 hz)]
  case granted =>
    intro n p r f c o entry s hw hb hp hc hl hlen hf key a hdue
    have hwritten := ((Spd.writeP_clean (port := 0) (off := o) (bs := f.payload.map fun b => (b, false)) hc.1 hc.2 (by simp)).2).spdWritten hc
    exact ⟨_, hwritten, (weirGrant_writes hw).trans (congrArg Host.Outcome.next (State.frameGranted_single hw hb hp hc hl hf hdue))⟩
  case framed =>
    intro n p m q s panel port l
    exact ⟨State.larreDue_early, larreFraming_unreachable, larreFraming_counts, larreFraming_asks, larreFraming_other⟩

end Sys2Proof.Machine
end

section
/-!
SUPPORT. The time bases, the Meridian unit and the dies: what setting a count, a reference, a marker and a time step leave (13 R382, R385 to R390).
-/
namespace Sys2Proof.Machine

variable {s : State} {u : MerUnit} {t : TimeBase} {d : DieTime} {now : Nat}

/-! Counts (R386, R397) -/

theorem TimeBase.fine_lt : t.fine now < 2 ^ 96 := Nat.mod_lt _ (by decide)

theorem TimeBase.fine_here (h : t.at_ = now) : t.fine now = t.cnt.toNat * 2 ^ 32 + t.frac.toNat := by
  have := t.cnt.isLt
  have := t.frac.isLt
  rw [TimeBase.fine, h, Nat.sub_self]
  omega

theorem TimeBase.setCount_count {x : Nat} : (t.setCount now x).count now = x / 2 ^ 16 % 2 ^ 64 := by
  have hfine : (t.setCount now x).fine now = _ := TimeBase.fine_here rfl
  rw [TimeBase.count, hfine, TimeBase.setCount, BitVec.toNat_ofNat, BitVec.toNat_ofNat]
  omega

theorem TimeBase.advance_fine : (t.advance now).fine now = t.fine now := by
  have := t.fine_lt (now := now)
  have hfine : (t.advance now).fine now = _ := TimeBase.fine_here rfl
  rw [hfine, TimeBase.advance, BitVec.toNat_ofNat, BitVec.toNat_ofNat]
  omega

theorem TimeBase.advance_ever : (t.advance now).ever = t.ever := by rw [TimeBase.advance]

theorem TimeBase.correct_good {e : Int} {cycles : Nat} : ((t.advance now).correct e cycles).good = t.good := by
  rw [TimeBase.correct, TimeBase.advance]

/-- The count brought to a cycle, in 2^-16 ns. -/
theorem TimeBase.advance_fine16 : (t.advance now).cnt.toNat * 2 ^ 16 + (t.advance now).frac.toNat / 2 ^ 16 = t.fine now / 2 ^ 16 := by
  have := t.fine_lt (now := now)
  rw [TimeBase.advance, BitVec.toNat_ofNat, BitVec.toNat_ofNat]
  omega

/-! The unit (R382, R387, R390) -/

theorem State.modMer_changes {ps : List Part} {f : _ → _} (h : .mer ∈ ps) : ChangesOnly ps s (s.modMer f) := by
  intro p hp; cases p <;> simp_all [Part.same]

theorem State.modMer_congr {f g : Meridian → Meridian} (h : f s.mer = g s.mer) : s.modMer f = s.modMer g :=
  congrArg (fun m => { s with mer := m }) h

theorem State.modUnit_congr {f g : MerUnit → MerUnit} (h : f s.mer.unit = g s.mer.unit) : s.modUnit f = s.modUnit g :=
  State.modMer_congr (congrArg (fun v => { s.mer with unit := v }) h)

/-- R390: the first interval missed begins no holdover. -/
theorem MerUnit.miss_first {limit : Nat} (h : u.missed = 0) (hl : 1 < limit) : u.miss now limit = { u with missed := 1, lastErr := none } := by
  rw [MerUnit.miss, h]
  exact if_neg (Nat.not_le.2 hl)

theorem MerUnit.enterHold_first (h : u.hold = false) : u.enterHold now = { u with hold := true, holdSince := now, lastErr := none } :=
  if_neg (by simp [h])

/-- R382: the opening of the relay changes nothing of the unit but the state that the relay moves to. -/
theorem MerUnit.openRelay_eq : u.openRelay = { u with target := u.openRelay.target } := by
  unfold MerUnit.openRelay
  split <;> rfl

theorem MerUnit.closeRelay_target : u.closeRelay.target = if u.relay = true ∧ u.target = none then none else some true := by
  by_cases h : u.relay = true ∧ u.target = none
  · rw [if_pos h, MerUnit.closeRelay, if_pos (by simp [h]), h.2]
  · rw [if_neg h, MerUnit.closeRelay, if_neg (by simpa using h)]

theorem State.modUnit_now {f : MerUnit → MerUnit} : (s.modUnit f).now = s.now := rfl

theorem State.modUnit_die {f : MerUnit → MerUnit} {n : Nat} : (s.modUnit f).mer.die n = s.mer.die n := rfl

/-- R387: the first reference after a start reports no divergence. -/
theorem MerUnit.reference_first {cap exp : Nat} (h : u.seenRef = false) : (u.reference now cap exp).2 = false := by
  simp [MerUnit.reference, h]

theorem State.reference_first {cap exp : Nat} (h : s.mer.unit.seenRef = false) :
    s.reference cap exp = s.modUnit fun u => (u.reference s.now cap exp).1.openRelay := by
  simp only [State.reference, MerUnit.reference_first h, Bool.false_eq_true, if_false]
  exact State.modUnit_congr rfl

/-! The dies (R385, R386) -/

@[simp] theorem State.modDie_die {n : Nat} {f : DieTime → DieTime} : (s.modDie n f).mer.die n = f (s.mer.die n) := Tbl.get_mod_same ..

theorem State.modDie_die_ne {n m : Nat} {f : DieTime → DieTime} (h : m ≠ n) : (s.modDie n f).mer.die m = s.mer.die m := Tbl.get_mod_other _ _ _ h

/-- R386: the error of a marker is that of the die's own count. -/
theorem DieTime.marker_err {n : Nat} : (d.marker now n).err = satErr ((d.t.fine now / 2 ^ 16 : Nat) - (n * 100000 * 2 ^ 16 + d.tdly : Nat)) := by
  rw [← TimeBase.advance_fine16]
  rfl

/-- R386: a die that has had a marker corrects its rate by the next. -/
theorem DieTime.marker_correct {n : Nat} (h : d.t.ever = true) : (d.marker now n).t =
    { (d.t.advance now).correct (d.marker now n).err 100000 with
      good := if (d.marker now n).err.natAbs < 2 ^ 14 then Nat.min (d.t.good + 1) 255 else 0
      locked := (d.marker now n).t.locked } := by
  simp only [DieTime.marker, TimeBase.advance_ever, TimeBase.correct_good, h, if_true, decide_eq_true_eq]

/-- R386: a marker steps no count of a die that has had one. -/
theorem DieTime.marker_fine {n : Nat} (h : d.t.ever = true) : (d.marker now n).t.fine now = d.t.fine now := by
  have hfine {x : TimeBase} (y : TimeBase) (hcnt : x.cnt = y.cnt) (hfrac : x.frac = y.frac) (hx : x.at_ = now) (hy : y.at_ = now) :
      x.fine now = y.fine now := by
    rw [TimeBase.fine_here hx, TimeBase.fine_here hy, hcnt, hfrac]
  rw [← TimeBase.advance_fine (t := d.t), DieTime.marker_correct h]
  exact hfine _ rfl rfl rfl rfl

/-- R386: the markers in a row with a small error. -/
theorem DieTime.marker_good {n : Nat} (h : d.t.ever = true) :
    (d.marker now n).t.good = if (d.marker now n).err.natAbs < 2 ^ 14 then Nat.min (d.t.good + 1) 255 else 0 :=
  congrArg TimeBase.good (DieTime.marker_correct h)

/-! An accepted time step (R388) -/

/-- Dies changed one after the other, by a change that done twice is the change done once. -/
theorem State.foldl_modDie_die {f : DieTime → DieTime} (hf : ∀ y, f (f y) = f y) {x : Nat} : ∀ (l : List Nat) (s : State),
    (l.foldl (fun s n => s.modDie n f) s).mer.die x = if x ∈ l then f (s.mer.die x) else s.mer.die x
  | [], _ => rfl
  | n :: l, s => by
    rw [List.foldl_cons, State.foldl_modDie_die hf l]
    by_cases hx : x = n
    · subst hx
      simp [hf]
    · simp [State.modDie_die_ne hx, hx]

theorem State.foldl_modDie_unit {f : DieTime → DieTime} {l : List Nat} : (l.foldl (fun s n => s.modDie n f) s).mer.unit = s.mer.unit :=
  List.foldlRecOn (motive := fun v : State => v.mer.unit = s.mer.unit) l _ rfl fun _ h _ _ => h

/-- Changes of dies take no time. -/
theorem State.foldl_modDie_now {g : Nat → DieTime → DieTime} {v : State} (hv : v.now = now) (l : List Nat) :
    l.foldl (fun v n => v.modDie n fun y => g v.now y) v = l.foldl (fun v n => v.modDie n fun y => g now y) v := by
  induction l generalizing v with
  | nil => rfl
  | cons n l ih =>
    rw [List.foldl_cons, List.foldl_cons, hv]
    exact ih hv

/-- R388: a die's time at an accepted step to `x`, in 2^-16 ns. -/
def DieTime.stepped (now x : Nat) (y : DieTime) : DieTime := { y with t := y.t.setCount now (x + y.tdly) }

theorem DieTime.stepped_stepped {x : Nat} {y : DieTime} : (y.stepped now x).stepped now x = y.stepped now x := by
  simp only [DieTime.stepped, TimeBase.setCount]

/-- R388: the Meridian unit at an accepted step to `c`. -/
def MerUnit.stepped (now : Nat) (c : Word) (u : MerUnit) : MerUnit :=
  { u with t := u.t.setCount now (c.toNat * 2 ^ 16), stepPend := none, hold := false, diverge := false, stay := false, missed := 0, lastErr := none,
           capture := none }

theorem State.applyStep_some {c : Word} (h : s.mer.unit.stepPend = some c) :
    s.applyStep = dieUnits.foldl (fun v n => v.modDie n (DieTime.stepped s.now (c.toNat * 2 ^ 16))) (s.modUnit (MerUnit.stepped s.now c)) := by
  simp only [State.applyStep, h]
  generalize dieUnits = l
  exact State.foldl_modDie_now (g := fun now y => { y with t := y.t.setCount now (c.toNat * 2 ^ 16 + y.tdly) }) State.modUnit_now l

section
variable {c : Word} (h : s.mer.unit.stepPend = some c)
include h

theorem State.applyStep_unit : s.applyStep.mer.unit = s.mer.unit.stepped s.now c := by
  rw [State.applyStep_some h, State.foldl_modDie_unit]
  rfl

theorem State.applyStep_die {x : Nat} (hx : x ∈ dieUnits) : s.applyStep.mer.die x = (s.mer.die x).stepped s.now (c.toNat * 2 ^ 16) := by
  rw [State.applyStep_some h, State.foldl_modDie_die fun _ => DieTime.stepped_stepped, if_pos hx, State.modUnit_die]

theorem State.applyStep_changes : ChangesOnly [.mer] s s.applyStep := by
  rw [State.applyStep_some h]
  exact (State.modMer_changes (by decide)).trans (.foldl fun _ _ => State.modMer_changes (by decide))

end

end Sys2Proof.Machine
end

section
/-!
PROOFS. The inputs of the Meridian unit, its oscillator and its relay (13 R378 to R384, R387, R390).
-/
namespace Sys2Proof.Machine

variable {s : State}

/-! Time frames (R378 to R380, R390) -/

section
variable {sub : Half} {edge : Word} {pos flags crc : Byte} {timing : Bool}

/-- R378, R390: a unit that is not started, or has another source, takes nothing from MERID_IN. -/
theorem frameInput_off (h : s.mer.unit.src ≠ 0 ∨ s.merOn = false) : exec (.ppsOnTimeEdge sub) s = .next s ∧
    exec (.timeFrame edge pos flags crc timing) s = .next s ∧ exec .meridInLoss s = .next s := by
  have hoff : (s.merOn && s.mer.unit.src == 0) = false := by
    rcases h with h | h <;> simp [h]
  have hoff' : (!s.merOn || s.mer.unit.src != 0) = true := by
    rcases h with h | h <;> simp [h]
  simp [execPpsOnTimeEdge, execTimeFrame, execMeridInLoss, hoff, hoff']

/-- R379, R380: the frame came with its timing and its CRC, and names a whole second. -/
def FrameOk (edge : Word) (pos flags crc : Byte) (timing : Bool) : Prop :=
  timing = true ∧ crc8 80 (edge.toNat * 65536 + pos.toNat * 256 + flags.toNat) = crc.toNat ∧ edge.toNat % 1000000000 = 0

/-- R380: the bypasses between the panel `own` and the sender of a frame. -/
def bypasses (own pos : Nat) : Nat := if pos = 0xFF then own else own - pos - 1

/-- R379, R380: the unit that takes a frame. -/
def MerUnit.taken (edge : Word) (pos own : Nat) (u : MerUnit) : MerUnit :=
  { u with tod := edge, rpos := pos, byp := bypasses own pos, capture := none }

/-- R380: the panel that takes a frame: a reference, where the unit has captured its edge. -/
def State.frameTaken (s : State) (edge : Word) (pos : Nat) : State :=
  let t := s.modUnit (MerUnit.taken edge pos (s.obj 0x5301 0))
  match s.mer.unit.capture with
  | none => t
  | some cap => t.reference cap (expectedEdge edge.toNat (s.obj 0x5302 0) (s.obj 0x5303 0) (bypasses (s.obj 0x5301 0) pos))

theorem frameFails_iff : (!timing || crc8 80 (edge.toNat * 65536 + pos.toNat * 256 + flags.toNat) != crc.toNat || edge.toNat % 1000000000 != 0) = true ↔
    ¬ FrameOk edge pos flags crc timing := by
  simp only [FrameOk, Bool.or_eq_true, Bool.not_eq_true', bne_iff_ne, ← Bool.not_eq_true, ne_eq, not_and_or, or_assoc]

variable (hsrc : s.mer.unit.src = 0) (hon : s.merOn = true)
include hsrc hon

theorem timeInput_on : ¬ (!s.merOn || s.mer.unit.src != 0) = true := by simp [hsrc, hon]

theorem ppsOnTimeEdge_on : exec (.ppsOnTimeEdge sub) s = .next (s.modUnit fun u =>
    { (if u.capture.isSome then u.miss s.now 2 else u) with capture := some (s.fine16 + sub.toNat) }) := by
  simp [execPpsOnTimeEdge, hsrc, hon]

theorem ppsOnTimeEdge_captures (hc : s.mer.unit.capture = none) :
    exec (.ppsOnTimeEdge sub) s = .next (s.modUnit fun u => { u with capture := some (s.fine16 + sub.toNat) }) := by
  rw [ppsOnTimeEdge_on hsrc hon]
  exact congrArg _ (State.modUnit_congr (by simp only [hc, Option.isSome_none, Bool.false_eq_true, if_false]))

theorem ppsOnTimeEdge_misses (hc : s.mer.unit.capture.isSome = true) (hm : s.mer.unit.missed = 0) : exec (.ppsOnTimeEdge sub) s =
    .next (s.modUnit fun u => { u with capture := some (s.fine16 + sub.toNat), missed := 1, lastErr := none }) := by
  rw [ppsOnTimeEdge_on hsrc hon]
  exact congrArg _ (State.modUnit_congr (by simp only [hc, if_true, MerUnit.miss_first hm Nat.one_lt_two]))

theorem meridInLoss_holds (hh : s.mer.unit.hold = false) :
    exec .meridInLoss s = .next (s.modUnit fun u => { u with hold := true, holdSince := s.now, lastErr := none }) := by
  simp only [exec_meridInLoss, execMeridInLoss, hsrc, hon, beq_self_eq_true, Bool.and_self, if_true]
  exact congrArg _ (State.modUnit_congr (MerUnit.enterHold_first hh))

/-- R379: a frame that fails a check is counted as missed. -/
theorem timeFrame_bad (hf : ¬ FrameOk edge pos flags crc timing) (hm : s.mer.unit.missed = 0) : exec (.timeFrame edge pos flags crc timing) s =
    .next (s.modUnit fun u => { u with frerr := true, capture := none, missed := 1, lastErr := none }) :=
  congrArg Host.Outcome.next ((if_neg (timeInput_on hsrc hon)).trans ((if_pos (frameFails_iff.2 hf)).trans
    (State.modUnit_congr (MerUnit.miss_first hm Nat.one_lt_two))))

variable (hf : FrameOk edge pos flags crc timing)
include hf

/-- R380: a frame from a position at or beyond the panel's own is counted as missed. -/
theorem timeFrame_misplaced (hpos : pos.toNat ≠ 0xFF) (hown : s.obj 0x5301 0 ≤ pos.toNat) (hm : s.mer.unit.missed = 0) :
    exec (.timeFrame edge pos flags crc timing) s =
      .next (s.modUnit fun u => { u with posbad := true, capture := none, missed := 1, lastErr := none }) :=
  congrArg Host.Outcome.next ((if_neg (timeInput_on hsrc hon)).trans ((if_neg fun h => frameFails_iff.1 h hf).trans ((if_pos ⟨hpos, hown⟩).trans
    (State.modUnit_congr (MerUnit.miss_first hm Nat.one_lt_two)))))

theorem timeFrame_taken (hp : pos.toNat = 0xFF ∨ pos.toNat < s.obj 0x5301 0) :
    exec (.timeFrame edge pos flags crc timing) s = .next (s.frameTaken edge pos.toNat) :=
  congrArg Host.Outcome.next ((if_neg (timeInput_on hsrc hon)).trans ((if_neg fun h => frameFails_iff.1 h hf).trans (if_neg (by omega))))

end

/-- R380: without the on-time edge of its second a frame is no reference. -/
theorem State.frameTaken_uncaptured {edge : Word} {pos : Nat} (h : s.mer.unit.capture = none) :
    s.frameTaken edge pos = s.modUnit (MerUnit.taken edge pos (s.obj 0x5301 0)) := by
  simp only [State.frameTaken, h]

theorem State.frameTaken_captured {edge : Word} {pos cap : Nat} (hc : s.mer.unit.capture = some cap) (hr : s.mer.unit.seenRef = false) :
    s.frameTaken edge pos = s.modUnit fun u => ((u.taken edge pos (s.obj 0x5301 0)).reference s.now cap
      (expectedEdge edge.toNat (s.obj 0x5302 0) (s.obj 0x5303 0) (bypasses (s.obj 0x5301 0) pos))).1.openRelay := by
  simp only [State.frameTaken, hc]
  exact State.reference_first hr

/-! PTP (R383) -/

theorem ptpSync_off {x : Option PtpExchange} (h : s.mer.unit.src ≠ 1 ∨ s.ptpPort = false ∨ s.merOn = false) : exec (.ptpSync x) s = .next s := by
  have hoff : (!s.merOn || s.mer.unit.src != 1 || !s.ptpPort) = true := by
    rcases h with h | h | h <;> simp [h]
  simp only [exec_ptpSync, execPtpSync, hoff, if_true]

section
variable {x : PtpExchange} (hsrc : s.mer.unit.src = 1) (hport : s.ptpPort = true) (hon : s.merOn = true)
include hsrc hport hon

theorem ptpInput_on : ¬ (!s.merOn || s.mer.unit.src != 1 || !s.ptpPort) = true := by simp [hsrc, hport, hon]

theorem ptpSync_none (hm : s.mer.unit.missed = 0) :
    exec (.ptpSync none) s = .next (s.modUnit fun u => { u with missed := 1, lastErr := none }) :=
  congrArg Host.Outcome.next ((if_neg (ptpInput_on hsrc hport hon)).trans (State.modUnit_congr (MerUnit.miss_first hm (by decide : 1 < 4))))

/-- R383: an exchange of the clock's own domain is a reference, and no other is. -/
theorem ptpSync_some : exec (.ptpSync (some x)) s =
    .next (if x.domain.toNat = s.obj 0x5304 0 / 256 % 256 then s.reference s.fine16 (ptpExpected x s.fine16) else s) :=
  congrArg Host.Outcome.next (if_neg (ptpInput_on hsrc hport hon))

end

/-! The oscillator (R384) -/

theorem localOscillatorFallback_idle (h : s.merOn = false ∨ s.mer.unit.src = 2 ∨ s.mer.unit.seenRef = true ∨ s.now < s.mer.unit.startAt + 2000000000) :
    exec .localOscillatorFallback s = .next s := by
  have hidle : !s.merOn ∨ s.mer.unit.src = 2 ∨ s.mer.unit.seenRef ∨ s.now < s.mer.unit.startAt + 2000000000 := by simpa using h
  exact congrArg Host.Outcome.next (if_pos hidle)

theorem localOscillatorFallback_falls (hon : s.merOn = true) (hsrc : s.mer.unit.src ≠ 2) (hr : s.mer.unit.seenRef = false)
    (hnow : s.mer.unit.startAt + 2000000000 ≤ s.now) :
    exec .localOscillatorFallback s = .next (s.modUnit fun u => (u.local s.now).openRelay) := by
  have hgoes : ¬ (!s.merOn ∨ s.mer.unit.src = 2 ∨ s.mer.unit.seenRef ∨ s.now < s.mer.unit.startAt + 2000000000) := by
    simp [hon, hsrc, hr]
    omega
  exact congrArg Host.Outcome.next (if_neg hgoes)

/-- R384: the unit on its own oscillator, whose relay opens, counts from 0. -/
theorem MerUnit.local_openRelay {u : MerUnit} {now : Nat} : let v := (u.local now).openRelay
    v.src = 2 ∧ v.hold = false ∧ v.t.locked = true ∧ v.t.count now = 0 := by
  rw [MerUnit.openRelay_eq]
  refine ⟨rfl, rfl, rfl, ?_⟩
  exact (TimeBase.setCount_count (t := { u.t with locked := true, ever := true, integ := 0, inc := 0x100000000 })).trans (by decide)

/-! The relay (R382) -/

theorem meridianRelayMoveComplete_moves {t : Bool} (h : s.mer.unit.target = some t) :
    exec .meridianRelayMoveComplete s = .next (s.modUnit fun u => { u with relay := t, target := none }) :=
  congrArg Host.Outcome.next (State.modUnit_congr (by simp only [h]))

theorem meridianRelayMoveComplete_idle (h : s.mer.unit.target = none) : exec .meridianRelayMoveComplete s = .next (s.modUnit id) :=
  congrArg Host.Outcome.next (State.modUnit_congr (by simp only [h, id]))

end Sys2Proof.Machine
end

section
/-!
PROOFS. The dies' markers, the time steps and the cycles in which they move the counts (13 R385, R386, R388).
-/
namespace Sys2Proof.Machine

variable {s : State}

/-! Markers (R385, R386) -/

section
variable {unit : BitVec 9} {tick : BitVec 48} {crc : Byte} {dly : Word32}

theorem die_off (h : s.merOn = false) : exec (.treeDelayMeasure unit dly) s = .next s ∧ exec (.meridianMarker unit tick crc) s = .next s := by
  simp [execTreeDelayMeasure, execMeridianMarker, h]

variable (hon : s.merOn = true)
include hon

theorem treeDelayMeasure_on : exec (.treeDelayMeasure unit dly) s = .next (s.modDie unit.toNat fun d => { d with tdly := dly.toNat }) :=
  congrArg Host.Outcome.next (if_pos hon)

/-- R385, R386: what a marker does, by its CRC and its tick. -/
theorem meridianMarker_on : exec (.meridianMarker unit tick crc) s = .next (
    if crc8 48 tick.toNat ≠ crc.toNat then s.modDie unit.toNat fun d => { d with mmiss := true }
    else if tick.toNat ≠ tickOf s.mcount % 2 ^ 48 then s
    else s.modDie unit.toNat fun d => { d.marker s.now tick.toNat with msrc := s.fw.active == 1 }) :=
  congrArg Host.Outcome.next (if_neg (by simp [hon]))

/-- R386: the unit's own tick corrects the die's count, and nothing else of the panel. -/
theorem meridianMarker_corrects (hcrc : crc8 48 tick.toNat = crc.toNat) (htick : tick.toNat = tickOf s.mcount % 2 ^ 48)
    (hever : (s.mer.die unit.toNat).t.ever = true) :
    Completes (.meridianMarker unit tick crc) s fun u => let d := s.mer.die unit.toNat; let y := u.mer.die unit.toNat
      y.err = satErr (d.t.fine s.now / 2 ^ 16 - (tick.toNat * 100000 * 2 ^ 16 + d.tdly)) ∧
      y.t.good = (if y.err.natAbs < 2 ^ 14 then Nat.min (d.t.good + 1) 255 else 0) ∧
      y.t.fine s.now = d.t.fine s.now ∧ y.msrc = decide (s.fw.active = 1) ∧
      (∀ x, x ≠ unit.toNat → u.mer.die x = s.mer.die x) ∧ u.mer.unit = s.mer.unit ∧ ChangesOnly [.mer] s u := by
  refine ⟨_, (meridianMarker_on hon).trans (congrArg _ ((if_neg (not_not_intro hcrc)).trans (if_neg (not_not_intro htick)))), ?_⟩
  simp only [State.modDie_die]
  exact ⟨DieTime.marker_err.trans (by push_cast; rfl), DieTime.marker_good hever, DieTime.marker_fine hever, beq_eq_decide ..,
    fun _ => State.modDie_die_ne, rfl, State.modMer_changes (by decide)⟩

end

/-! A die that stays unlocked (R386) -/

theorem dieUnlockedTimeout_idle {unit : BitVec 9} (h : s.merOn = false ∨ (s.mer.die unit.toNat).t.locked = true ∨
    s.now < (s.mer.die unit.toNat).unlockedSince + 100000000) : exec (.dieUnlockedTimeout unit) s = .next s := by
  have hidle : !s.merOn ∨ (s.mer.die unit.toNat).t.locked ∨ s.now < (s.mer.die unit.toNat).unlockedSince + 100000000 := by simpa using h
  exact congrArg Host.Outcome.next (if_pos hidle)

theorem dieUnlockedTimeout_site {unit : BitVec 9} {site : SiteId} (hunit : unit.toNat = site.val) (hon : s.merOn = true)
    (hl : (s.mer.die unit.toNat).t.locked = false) (hnow : (s.mer.die unit.toNat).unlockedSince + 100000000 ≤ s.now) :
    exec (.dieUnlockedTimeout unit) s = .next (s.retireUnit 3 (.site site) 1 8) := by
  have hdue : ¬ (!s.merOn ∨ (s.mer.die unit.toNat).t.locked ∨ s.now < (s.mer.die unit.toNat).unlockedSince + 100000000) := by
    simp [hon, hl]
    omega
  have hsite : unit.toNat < 192 := hunit ▸ site.isLt
  refine congrArg Host.Outcome.next ((if_neg hdue).trans ((dif_pos hsite).trans ?_))
  rw [show (⟨unit.toNat, hsite⟩ : SiteId) = site from Fin.ext hunit]

/-! Time steps (R388) -/

theorem expertTimeStep_refused {c : Word} (h : s.chartStarted = true) : exec (.expertTimeStep c) s = .next s := by
  simp [execExpertTimeStep, State.timeStep, h]

theorem expertTimeStep_accepted {c : Word} (h : s.chartStarted = false) :
    exec (.expertTimeStep c) s = .next (s.modUnit fun u => { u with stepPend := some c }) := by
  simp [execExpertTimeStep, State.timeStep, h]

/-- R386: the panel one time-base cycle later. -/
def State.later (s : State) : State := { s with now := s.now + 1 }

theorem step_idle (h : s.pending = []) : step s = .next s.idleTick := by rw [step, h]

theorem State.ownSecond_mer {before : Nat} : (s.ownSecond before).mer = s.mer := by
  unfold State.ownSecond
  dsimp only
  split <;> rfl

theorem State.later_changes : ChangesOnly [.now, .mer] s s.later := by
  intro p hp; cases p <;> simp_all [Part.same, State.later]

theorem State.idleTick_eq : s.idleTick = let t := s.later.stepAtTick s.mcount
    if s.mer.unit.stepPend.isSome && t.mer.unit.stepPend.isNone then t else t.ownSecond s.mcount := rfl

section
variable {c : Word} (hc : s.mer.unit.stepPend = some c)
include hc

theorem State.idleTick_steps (h : tickOf s.mcount < tickOf s.later.mcount) : s.idleTick = s.later.applyStep := by
  have hstep : s.later.stepAtTick s.mcount = s.later.applyStep := if_pos h
  have hunit : s.later.applyStep.mer.unit.stepPend = none := by rw [State.applyStep_unit (s := s.later) hc]; rfl
  rw [State.idleTick_eq, hstep]
  exact if_pos (by rw [hc, hunit]; rfl)

/-- R388: at the start of a tick an accepted step sets every count. -/
theorem idleTick_counts (h : tickOf s.mcount < tickOf s.later.mcount) : let u := s.idleTick
    u.mcount = c.toNat ∧ u.mer.unit.stepPend = none ∧
    (∀ x ∈ dieUnits, u.dieCount x = (c.toNat + (s.mer.die x).tdly / 2 ^ 16) % 2 ^ 64) ∧ ChangesOnly [.now, .mer] s u := by
  have hchanges := State.applyStep_changes (s := s.later) hc
  have hnow : s.later.applyStep.now = s.later.now := hchanges .now (by decide)
  have hc64 := c.isLt
  rw [State.idleTick_steps hc h]
  refine ⟨?_, ?_, fun x hx => ?_, State.later_changes.trans (hchanges.mono (by decide))⟩
  · rw [State.mcount, hnow, State.applyStep_unit (s := s.later) hc, MerUnit.stepped, TimeBase.setCount_count]
    omega
  · rw [State.applyStep_unit (s := s.later) hc]
    rfl
  · rw [State.dieCount, hnow, State.applyStep_die (s := s.later) hc hx, DieTime.stepped, TimeBase.setCount_count]
    show (c.toNat * 2 ^ 16 + (s.mer.die x).tdly) / 2 ^ 16 % 2 ^ 64 = _
    omega

theorem State.idleTick_waits (h : ¬ tickOf s.mcount < tickOf s.later.mcount) : s.idleTick.mer = s.mer := by
  have hstep : s.later.stepAtTick s.mcount = s.later := if_neg h
  have hpend : s.later.mer.unit.stepPend = some c := hc
  have hidle : s.idleTick = s.later.ownSecond s.mcount := by
    rw [State.idleTick_eq, hstep]
    exact if_neg (by simp [hpend])
  rw [hidle, State.ownSecond_mer]
  rfl

end

end Sys2Proof.Machine
end

section
/-!
PROOFS. The slot calendars: banks loaded, armed and switched, and the windows that open (13 R393 to R395).
-/
namespace Sys2Proof.Machine

variable {s : State} {n : EngineId} {p : BitVec 2}

/-! Banks (R395) -/

@[simp] theorem Meridian.modCal_cal {m : Meridian} {q : Nat} {f : Calendar → Calendar} : (m.modCal q f).cal q = f (m.cal q) := Tbl.get_mod_same ..

theorem State.modCal_congr {q : Nat} {f g : Calendar → Calendar} (h : f (s.mer.cal q) = g (s.mer.cal q)) :
    (s.modMer fun m => m.modCal q f) = s.modMer fun m => m.modCal q g :=
  State.modMer_congr (congrArg (fun c => { s.mer with cals := Tbl.set s.mer.cals q c }) h)

/-- R395: a calendar whose next bank has its entries `ks` written, from `w`. -/
def Calendar.fill (c : Calendar) (w : Nat → Word) (ks : List Nat) : Calendar := ks.foldl (fun c k => c.write (1 - c.cur) k (w k)) c

/-- R395: entries written into the next bank leave the current one. -/
theorem Calendar.fill_entries {w : Nat → Word} : ∀ {ks : List Nat} {c : Calendar}, c.cur < 2 → (∀ k ∈ ks, k < 64) → let y := c.fill w ks
    y.cur = c.cur ∧ y.armed = c.armed ∧ y.tick = c.tick ∧
    ∀ j, j < 64 → y.entry (1 - c.cur) j = (if j ∈ ks then w j else c.entry (1 - c.cur) j) ∧ y.entry c.cur j = c.entry c.cur j
  | [], _, _, _ => ⟨rfl, rfl, rfl, fun _ _ => ⟨rfl, rfl⟩⟩
  | k :: ks, c, hc, hks => by
    have hk : k < 64 := hks k List.mem_cons_self
    have hwrite : c.write (1 - c.cur) k (w k) = { c with entries := Tbl.set c.entries ((1 - c.cur) * 64 + k) (w k) } := if_neg (by omega)
    obtain ⟨hcur, harmed, htick, hentries⟩ := Calendar.fill_entries (w := w) (ks := ks) (c := c.write (1 - c.cur) k (w k)) (by rw [hwrite]; exact hc)
      fun j hj => hks j (List.mem_cons_of_mem _ hj)
    rw [hwrite] at hcur harmed htick hentries
    have hfill : c.fill w (k :: ks) = ({ c with entries := Tbl.set c.entries ((1 - c.cur) * 64 + k) (w k) } : Calendar).fill w ks := by
      rw [← hwrite]
      rfl
    rw [hfill]
    refine ⟨hcur, harmed, htick, fun j hj => ?_⟩
    have hother : c.cur * 64 + j ≠ (1 - c.cur) * 64 + k := by omega
    obtain ⟨hnext, hthis⟩ := hentries j hj
    refine ⟨hnext.trans ?_, hthis.trans (Tbl.get_set_other _ _ _ hother)⟩
    simp only [Calendar.entry, Tbl.get_set, List.mem_cons, Nat.add_left_cancel_iff]
    by_cases hjk : j = k
    · simp [hjk]
    · simp [hjk]

section
variable {data : List Byte}

theorem calendarBankLoad_refused (h : data.length ≠ 512 * s.larrePorts.length + 4) : exec (.calendarBankLoad data) s = .next s := by
  simp only [exec_calendarBankLoad, execCalendarBankLoad, State.calendarLoad, if_pos h]

/-- R395, R399: the next bank of the one Larre port takes the 64 entries sent. -/
theorem calendarBankLoad_loads {q : Nat} (hlen : data.length = 512 * s.larrePorts.length + 4)
    (hcrc : leNat (data.drop (512 * s.larrePorts.length)) = crc32 (data.take (512 * s.larrePorts.length))) (hq : s.larrePorts = [q]) :
    exec (.calendarBankLoad data) s = .next (s.modMer fun m => m.modCal q fun c =>
      c.fill (fun k => BitVec.ofNat 64 (leNat ((data.drop (8 * k)).take 8))) (List.range 64)) := by
  have hload : s.calendarLoad data = (.ok, _) := (if_neg (not_not_intro hlen)).trans (if_neg (not_not_intro hcrc))
  simp only [exec_calendarBankLoad, execCalendarBankLoad, hload, hq, List.mapIdx_cons, List.mapIdx_nil, List.foldl_cons, List.foldl_nil,
    Nat.mul_zero, Nat.zero_add]
  rfl

end

theorem calendarArm_port {tick : Word} : exec (.calendarArm (some (n, p)) tick) s = .next (s.modMer fun m => m.modCal (4 * n.val + p.toNat) fun c =>
    c.arm (tick.toNat % 2 ^ 48) (tickOf (s.dieCount (0x100 + n)))) := by
  have hn : (4 * n.val + p.toNat) / 4 = n.val := by omega
  simp only [exec_calendarArm, execCalendarArm, State.calendarArm, List.foldl_cons, List.foldl_nil, hn]

/-- R395: no switch is due. -/
theorem Calendar.switch_early {c : Calendar} {tick : Nat} (h : c.armed = false ∨ tick < c.tick) : c.switch tick = c := by
  refine if_neg fun hdue => ?_
  obtain ⟨harmed, htick⟩ := Bool.and_eq_true_iff.1 hdue
  have htick := of_decide_eq_true htick
  rcases h with h | h
  · exact Bool.false_ne_true (h.symm.trans harmed)
  · omega

theorem Calendar.switch_due {c : Calendar} {tick : Nat} (ha : c.armed = true) (ht : c.tick ≤ tick) :
    c.switch tick = { c with armed := false, cur := 1 - c.cur } :=
  if_pos (by simp [ha, ht])

theorem Calendar.switch_kept {c : Calendar} {tick : Nat} : (c.switch tick).windowEnd = c.windowEnd ∧ (c.switch tick).entries = c.entries := by
  unfold Calendar.switch
  split <;> exact ⟨rfl, rfl⟩

theorem calendarBankSwitch_early (h : (s.mer.cal (4 * n.val + p.toNat)).armed = false ∨
    tickOf (s.dieCount (0x100 + n)) < (s.mer.cal (4 * n.val + p.toNat)).tick) :
    exec (.calendarBankSwitch n p) s = .next (s.modMer fun m => m.modCal (4 * n.val + p.toNat) id) :=
  congrArg Host.Outcome.next (State.modCal_congr (Calendar.switch_early h))

theorem calendarBankSwitch_due (ha : (s.mer.cal (4 * n.val + p.toNat)).armed = true)
    (ht : (s.mer.cal (4 * n.val + p.toNat)).tick ≤ tickOf (s.dieCount (0x100 + n))) :
    exec (.calendarBankSwitch n p) s = .next (s.modMer fun m => m.modCal (4 * n.val + p.toNat) fun c => { c with armed := false, cur := 1 - c.cur }) :=
  congrArg Host.Outcome.next (State.modCal_congr (Calendar.switch_due ha ht))

/-! Windows (R393) -/

/-- A port with nothing queued sends nothing, and stays as it is. -/
theorem State.pumpLarre_empty {n p : Nat} (h : (s.lport n p).queue = []) : let u := s.pumpLarre n p
    u.mer = s.mer ∧ u.out = s.out ∧ u.lport n p = s.lport n p ∧ ChangesOnly [.larre] s u := by
  have hpump : s.pumpLarre n p = if (s.larre.engine n).role = 2 ∧
      s.dieCount (0x100 + n) < Tbl.get 0 (s.lport n p).paused (Config.larrePriority n).toNat then s else s.modLport n p fun _ => s.lport n p := by
    simp only [State.pumpLarre, h]
    rfl
  rw [hpump]
  split
  · exact ⟨rfl, rfl, rfl, .refl _ _⟩
  · exact ⟨rfl, rfl, State.modLport_lport, State.modLport_changes (by decide)⟩

/-- R393: a calendar in tick `tick` at a window that ends at `b`, prolonged by those that follow it. -/
def Calendar.opened (c : Calendar) (tick b : Nat) : Calendar := { c with windowEnd := Nat.max c.windowEnd (c.unionEnd tick 64 b) }

section
variable {k : BitVec 6} {now : Nat} {c : Calendar} {w : Word} (hnow : s.dieCount (0x100 + n) = now)
  (hc : (s.mer.cal (4 * n.val + p.toNat)).switch (tickOf now) = c) (hw : c.entry c.cur k.toNat = w)
include hnow hc hw

theorem calendarWindowOpen_shut (h : s.mer.unit.src = 2 ∨ calApplies w (tickOf now) = false ∨ now < (calWindow w (tickOf now)).1 ∨
    (calWindow w (tickOf now)).2 ≤ now) : exec (.calendarWindowOpen n p k) s = .next s := by
  rw [← Bool.not_eq_true'] at h
  subst hnow hc hw
  exact congrArg Host.Outcome.next (if_pos h)

theorem calendarWindowOpen_opens (hsrc : s.mer.unit.src ≠ 2) (happ : calApplies w (tickOf now) = true) (hlo : (calWindow w (tickOf now)).1 ≤ now)
    (hhi : now < (calWindow w (tickOf now)).2) : exec (.calendarWindowOpen n p k) s = .next (
      (s.modMer fun m => m.modCal (4 * n.val + p.toNat) fun _ => c.opened (tickOf now) (calWindow w (tickOf now)).2).pumpLarre n p.toNat) := by
  have hopen : ¬ (s.mer.unit.src = 2 ∨ !calApplies w (tickOf now) ∨ now < (calWindow w (tickOf now)).1 ∨ (calWindow w (tickOf now)).2 ≤ now) := by
    simp only [happ, not_or]
    exact ⟨hsrc, Bool.false_ne_true, Nat.not_lt.2 hlo, Nat.not_le.2 hhi⟩
  subst hnow hc hw
  exact congrArg Host.Outcome.next (if_neg hopen)

/-- R393: a window that opens at a port with nothing queued. -/
theorem calendarWindowOpen_extends (hsrc : s.mer.unit.src ≠ 2) (happ : calApplies w (tickOf now) = true) (hlo : (calWindow w (tickOf now)).1 ≤ now)
    (hhi : now < (calWindow w (tickOf now)).2) (hq : (s.lport n p.toNat).queue = []) : Completes (.calendarWindowOpen n p k) s fun u =>
      u.mer.cal (4 * n.val + p.toNat) = c.opened (tickOf now) (calWindow w (tickOf now)).2 ∧
      u.out = s.out ∧ u.lport n p.toNat = s.lport n p.toNat ∧ ChangesOnly [.mer, .larre] s u := by
  refine ⟨_, calendarWindowOpen_opens hnow hc hw hsrc happ hlo hhi, ?_⟩
  obtain ⟨hmer, hout, hport, hlarre⟩ := State.pumpLarre_empty (n := n) (p := p.toNat) (s := s.modMer fun m =>
    m.modCal (4 * n.val + p.toNat) fun _ => c.opened (tickOf now) (calWindow w (tickOf now)).2) hq
  rw [hmer]
  exact ⟨Meridian.modCal_cal, hout, hport, (State.modMer_changes (by decide)).trans (hlarre.mono (by decide))⟩

end

end Sys2Proof.Machine
end

section
/-!
PROOFS. The Meridian unit, the dies and the calendars keep time (spec 13).
-/
namespace Sys2Proof.Machine

/-- Settles O38: the unit by its inputs, its oscillator and its relay; the dies by their markers and the time steps; the calendars by their banks
and windows. -/
theorem meridianKeepsTime : Obligations.MeridianKeepsTime := by
  unfold Obligations.MeridianKeepsTime
  refine ⟨?unit, ?dies, ?calendars⟩
  case unit =>
    intro sub edge pos flags crc timing exp s u own ok b taken
    refine ⟨frameInput_off, fun hsrc hon => ?frames, fun h _ => ptpSync_off h, fun hsrc hport hon => ?ptp, localOscillatorFallback_idle,
      fun hon hsrc hr hnow => ?falls, ?closes, fun _ => meridianRelayMoveComplete_moves, meridianRelayMoveComplete_idle⟩
    case frames =>
      refine ⟨ppsOnTimeEdge_captures hsrc hon, ppsOnTimeEdge_misses hsrc hon, timeFrame_bad hsrc hon, timeFrame_misplaced hsrc hon,
        fun hok hpos => ?_, meridInLoss_holds hsrc hon⟩
      have htaken := timeFrame_taken hsrc hon hok hpos
      exact ⟨fun hc => htaken.trans (congrArg _ (State.frameTaken_uncaptured hc)),
        fun cap hc hr => htaken.trans (congrArg _ (State.frameTaken_captured hc hr))⟩
    case ptp =>
      have hsome := ptpSync_some (x := exp) hsrc hport hon
      exact ⟨ptpSync_none hsrc hport hon, fun hd => hsome.trans (congrArg _ (if_neg hd)),
        fun hd hr => hsome.trans (congrArg _ ((if_pos hd).trans (State.reference_first hr)))⟩
    case falls =>
      obtain ⟨hsrc', hhold, hlocked, hcount⟩ := MerUnit.local_openRelay (u := s.mer.unit) (now := s.now)
      exact ⟨_, localOscillatorFallback_falls hon hsrc hr hnow, hsrc', hhold, hlocked, hcount, rfl, State.modMer_changes (by decide)⟩
    case closes => exact ⟨_, rfl, rfl, MerUnit.closeRelay_target, State.modMer_changes (by decide)⟩
  case dies =>
    intro unit tick crc dly c s d
    refine ⟨die_off, fun hon => ?markers, fun hpend hc => ⟨fun h => ⟨_, step_idle hpend, idleTick_counts hc h⟩,
      fun h => ⟨_, step_idle hpend, State.idleTick_waits hc h⟩⟩, dieUnlockedTimeout_idle, fun _ => dieUnlockedTimeout_site,
      expertTimeStep_refused, expertTimeStep_accepted⟩
    have hmarker := meridianMarker_on (unit := unit) (tick := tick) (crc := crc) hon
    exact ⟨treeDelayMeasure_on hon, fun hcrc => hmarker.trans (congrArg _ (if_pos hcrc)),
      fun hcrc htick => hmarker.trans (congrArg _ ((if_neg (not_not_intro hcrc)).trans (if_pos htick))), meridianMarker_corrects hon⟩
  case calendars =>
    intro n p k tick data s q c now at_ c1 w win
    refine ⟨calendarBankLoad_refused, fun hlen hcrc hq hcur => ?loads, calendarArm_port, calendarBankSwitch_early, calendarBankSwitch_due,
      calendarWindowOpen_shut rfl rfl rfl, fun hsrc happ hlo hhi hq => ?opens⟩
    case loads =>
      refine ⟨_, calendarBankLoad_loads hlen hcrc hq, ?_⟩
      obtain ⟨hbank, harmed, htick, hentries⟩ := Calendar.fill_entries (w := fun k => BitVec.ofNat 64 (leNat ((data.drop (8 * k)).take 8)))
        (ks := List.range 64) hcur fun _ => List.mem_range.1
      rw [State.modMer_mer, Meridian.modCal_cal]
      refine ⟨fun j hj => ?_, hbank, harmed, htick, State.modMer_changes (by decide)⟩
      obtain ⟨hnext, hthis⟩ := hentries j hj
      exact ⟨hnext.trans (if_pos (List.mem_range.2 hj)), hthis⟩
    case opens =>
      obtain ⟨hend, hentries⟩ := c.switch_kept (tick := tickOf now)
      obtain ⟨u, hexec, hcal, hkept⟩ := calendarWindowOpen_extends rfl rfl rfl hsrc happ hlo hhi hq
      refine ⟨u, hexec, ?_, ?_, hkept⟩
      · rw [hcal]
        exact congrArg (Nat.max · _) hend
      · rw [hcal]
        exact hentries

end Sys2Proof.Machine
end
